-- ==== Sys2Proof/Word.lean ====
section
/-!
DEFINITION. The words of the block: bytes, 32-bit registers and 64-bit parameter values (R11, R83), and the two
numberings that have no bits of their own: a tempo (R8: an unsigned count that no comparison wraps) and an instance
number (R7).
-/
namespace Sys2Proof

/-- One byte (R11: byte 0 of every structure holds bits [7:0]). -/
abbrev Byte := BitVec 8

/-- A direct register (Table 3-3). -/
abbrev Word := BitVec 32

/-- A parameter value, a descriptor field or a store address (R83, R158). -/
abbrev DWord := BitVec 64

/-- An absolute tempo (R8): 2^64 x 2 ns is about 1,169 years, so no comparison in the device allows for wrap. -/
abbrev Tempo := Nat

/-- An instance number of Table 0-2. -/
abbrev Idx := Nat

end Sys2Proof
end

