-- ==== Sys2Proof/Syntax.lean ====
section
/-!
DEFINITION. The commands of the block: one constructor for each row of spec/opcode_table.json, with that row's operands
(assumption 1 says what the operands of each kind of row are; the table gives none). An Atotte command carries its
message as the mailbox delivers it, so that the checks of R63 and R72 to R75 are computed from bytes. A row that stands
for an event carries what the device captures with it: a level, a frame, a reading, data returned by host memory. `ue` is
the address of a word whose uncorrectable error the row's reads of an on-die memory meet, if one does (R399).
-/
namespace Sys2Proof

/-- Bytes of a payload, a packet, an image or a transfer. -/
abbrev Bytes := List Byte

/-- An Atotte command message (Table 3-17): the ring it came by, TAG, FLAGS, the 8 ARG bytes (header bytes 8 to 15,
byte 8 in [7:0]) and the payload, whose length is PLEN. (DESIGN CHOICE: assumption 1) -/
structure Msg where
  ring : Idx
  tag : BitVec 16
  flags : Byte
  arg : DWord
  payload : Bytes
  deriving DecidableEq, Repr

/-- How the core regulator answered (R390): its VOUT_MODE, and it took VOUT_COMMAND where that is linear, or no acknowledge. -/
inductive VcoreAnswer where
  | mode (x : Nat) | nack
  deriving DecidableEq, Repr

/-- The regulator took the voltage: its format is linear. -/
def VcoreAnswer.written : VcoreAnswer → Bool
  | .mode x => decide (x / 32 % 8 = 0)
  | .nack => false

/-- What a margin plan measures and meets (R390): the 16 ring oscillators in kHz, and the regulator's answer. -/
structure PlanObs where
  ro : List Nat
  vcore : VcoreAnswer
  deriving DecidableEq, Repr

/-- How an I2C transfer ends (R98, R421). -/
inductive I2cEnd where
  | ok (rx : Bytes)
  | nack (byte : Nat)
  | timeout
  deriving DecidableEq, Repr

/-- The causes of a host link reset (R70). -/
inductive LinkReset where
  | perst | dlDown | hotReset | flr
  deriving DecidableEq, Repr

/-- The clocks that firmware starts for a unit (Table 2-5). -/
inductive ClockUnit where
  | dpll
  | blpll (half : Idx)
  | vpll (station : Idx)
  deriving DecidableEq, Repr

/-- How the training of one DDR5 channel ends (R160): its capacity, or the step at which it failed (0: no memory). -/
inductive TrainDram where
  | ok (gib : Nat)
  | fail (step : Nat)
  deriving DecidableEq, Repr

/-- What host memory returns to a granted read (R164, R176): its bytes, or a bus error; `none` where it has returned nothing
yet, or where nothing is read from it. -/
inductive HostData where
  | none
  | bytes (d : Bytes)
  | busError
  deriving DecidableEq, Repr

/-- Who rings a DMA channel (R166): the host, with a write of DMA_DOORBELL, or firmware, which first writes bytes of descriptor
SRAM (offset and bytes) and then NEXT. -/
inductive Ringer where
  | host (v : Word)
  | firmware (writes : List (Nat × Bytes)) (next : Nat)
  deriving DecidableEq, Repr

/-- The shared resources of R179. -/
inductive Resource where
  | dram (ch : Idx)
  | hostSlots
  | descSram
  deriving DecidableEq, Repr

/-- An uncorrectable error that a beam mapper's reads meet (Table 17-3): none, one in the swath (files of the link it
concerns, as a mask, and the address), or one in the calibration tables. -/
inductive MapperUe where
  | none
  | swath (files : Nat) (addr : Nat)
  | tables (addr : Nat)
  deriving DecidableEq, Repr

/-- What the sequencer's PMBus reads of a falling rail return (R366): no acknowledge, or VOUT_MODE and READ_VOUT. -/
inductive PmbusRead where
  | nack
  | value (mode : Byte) (vout : Nat)
  deriving DecidableEq, Repr

/-- What a BAR0 write carries: 4 bytes, or 8 (R53). -/
inductive RegValue where
  | word (v : Word)
  | dword (v : DWord)
  deriving DecidableEq, Repr

/-- The levels of A and B of a master encoder. -/
structure Levels where
  a : Bool
  b : Bool
  deriving DecidableEq, Repr

/-- A rising edge of a master encoder's index, at the ball in a tempo (R151, R153). -/
structure IndexEdge where
  me : Idx
  edge : Tempo
  deriving DecidableEq, Repr

/-- An edge of a beam detector, with its timestamp in 1/64 tempo (R232). -/
structure BdEdge where
  rising : Bool
  raw : Nat
  deriving DecidableEq, Repr

/-- The EXIT entry of a ticket is read; `ue` is the address of an uncorrectable error that the read meets (Table 17-3). -/
structure ExitRead where
  tk : Idx
  ue : Option Nat
  deriving DecidableEq, Repr

/-- Why the watchdog expires: firmware has not served it for its period in ms (R37), or a supervisor core met an uncorrectable error at
an address (Table 17-3, reader 0xb). -/
inductive WatchdogCause where
  | silent (ms : Nat)
  | ue (addr : Nat)
  deriving DecidableEq, Repr

/-- A rail has not risen: how often PG fell again since RAILEN went high, none where PG was never high (R368). -/
structure RiseEnd where
  rail : Idx
  drops : Option Nat
  deriving DecidableEq, Repr

/-- The commands: one constructor per row of the opcode table, in the table's order. (DESIGN CHOICE: assumption 1; DESIGN CHOICE: assumption 42) -/
inductive Instr where
  /-- NOP (R90). -/
  | nop (m : Msg)
  /-- VERSION_GET (R434). -/
  | versionGet (m : Msg)
  /-- MODE_SET (R34). -/
  | modeSet (m : Msg)
  /-- DORMANT_ENTER (R41). -/
  | dormantEnter (m : Msg)
  /-- EVENT_ROUTE (R91). -/
  | eventRoute (m : Msg)
  /-- EVENT_ROUTE_GET (R90). -/
  | eventRouteGet (m : Msg)
  /-- FAULT_LIST (R428). -/
  | faultList (m : Msg)
  /-- FAULT_CLEAR (R429). -/
  | faultClear (m : Msg)
  /-- PRESS_COMMIT (R92). -/
  | pressCommit (m : Msg)
  /-- PRESS_CLEAR (R92). -/
  | pressClear (m : Msg)
  /-- SERVICE_SET (R4). -/
  | serviceSet (m : Msg)
  /-- PROMOTE (R208). -/
  | promote (m : Msg)
  /-- GROUP_SET (R93). -/
  | groupSet (m : Msg)
  /-- GROUP_GET (R92). -/
  | groupGet (m : Msg)
  /-- GROUP_CLEAR (R92). -/
  | groupClear (m : Msg)
  /-- PARAM_READ (R85). -/
  | paramRead (m : Msg)
  /-- PARAM_WRITE (R86). -/
  | paramWrite (m : Msg)
  /-- PARAM_WRITE_PAIR_APPLY (R86). -/
  | paramWritePairApply (ring : Idx)
  /-- PARAM_DESCRIBE (R432). -/
  | paramDescribe (m : Msg)
  /-- FAMILY_LIST (R432). -/
  | familyList (m : Msg)
  /-- TABLE_LOAD (R88). -/
  | tableLoad (m : Msg)
  /-- TABLE_COMMIT (R88). -/
  | tableCommit (m : Msg)
  /-- TABLE_READ (R94). -/
  | tableRead (m : Msg)
  /-- TABLE_DISCARD (R88). -/
  | tableDiscard (m : Msg)
  /-- CASTLE_STAGE (R102). -/
  | castleStage (m : Msg)
  /-- CASTLE_ARM (R103). -/
  | castleArm (m : Msg)
  /-- CASTLE_DISARM (R110). -/
  | castleDisarm (m : Msg)
  /-- CASTLE_CLEAR (R100). -/
  | castleClear (m : Msg)
  /-- CASTLE_STATUS (R433). -/
  | castleStatus (m : Msg)
  /-- TICKET_BUILD (R113). -/
  | ticketBuild (m : Msg)
  /-- TICKET_SEAL_ARM (R115). -/
  | ticketSealArm (m : Msg)
  /-- TICKET_DISARM (R111). -/
  | ticketDisarm (m : Msg)
  /-- TICKET_FREE (R111). -/
  | ticketFree (m : Msg)
  /-- TICKET_STATUS (R433). -/
  | ticketStatus (m : Msg)
  /-- STORE_ALLOC (R158). -/
  | storeAlloc (m : Msg)
  /-- STORE_FREE (R96). -/
  | storeFree (m : Msg)
  /-- STORE_FENCE (R171). -/
  | storeFence (m : Msg)
  /-- STORE_FENCE_COMPLETE (R170). -/
  | storeFenceComplete (ring : Idx)
  /-- STORE_FENCE_TIMEOUT (R171). -/
  | storeFenceTimeout (ring : Idx)
  /-- DMA_OPEN (R162). -/
  | dmaOpen (m : Msg)
  /-- DMA_CLOSE (R174). -/
  | dmaClose (m : Msg)
  /-- COMPRESS_JOB (R196). -/
  | compressJob (m : Msg)
  /-- COMPRESS_JOB_START (R196). -/
  | compressJobStart
  /-- COMPRESS_JOB_END (R200). -/
  | compressJobEnd (ue : Option Nat)
  /-- TILE_ENABLE (R275). -/
  | tileEnable (m : Msg)
  /-- TILE_DISABLE (R97). -/
  | tileDisable (m : Msg)
  /-- MOVE (R290). -/
  | move (m : Msg)
  /-- STOP (R294). -/
  | stop (m : Msg)
  /-- GEAR_SET (R156). -/
  | gearSet (m : Msg)
  /-- POLY_START (R313). -/
  | polyStart (m : Msg)
  /-- DIAG_RUN (R276). -/
  | diagRun (m : Msg)
  /-- STATION_ENABLE (R235). -/
  | stationEnable (m : Msg)
  /-- STATION_DISABLE (R236). -/
  | stationDisable (m : Msg)
  /-- LINK_TRAIN (R220). -/
  | linkTrain (m : Msg)
  /-- LINK_TRAIN_DONE (R220). -/
  | linkTrainDone (link : Idx) (countEqual : Bool)
  /-- BEAM_MONITOR (R225). -/
  | beamMonitor (m : Msg)
  /-- RAIL_SEQUENCE_UP (R364). -/
  | railSequenceUp (m : Msg)
  /-- RAIL_SEQUENCE_DOWN (R365). -/
  | railSequenceDown (m : Msg)
  /-- RAIL_STATUS (R361). -/
  | railStatus (m : Msg)
  /-- AGEING_NEW (R389). -/
  | ageingNew (m : Msg)
  /-- MARGIN_PLAN (R390). -/
  | marginPlan (m : Msg)
  /-- MARGIN_PLAN_DONE (R390). -/
  | marginPlanDone (p : PlanObs)
  /-- SCRUB (R402). -/
  | scrub (m : Msg)
  /-- SCRUB_DONE (R403). -/
  | scrubDone (inst : Idx)
  /-- SPI_XFER (R420). -/
  | spiXfer (m : Msg)
  /-- SPI_TRANSFER_DONE (R422). -/
  | spiTransferDone (ctrl : Idx) (rx : Bytes)
  /-- I2C_XFER (R421). -/
  | i2cXfer (m : Msg)
  /-- I2C_TRANSFER_DONE (R421). -/
  | i2cTransferDone (ctrl : Idx) (r : I2cEnd)
  /-- BOOT_CTRL_GO (R44). -/
  | bootCtrlGo (v : Word)
  /-- BOOT_CHECK_DONE (R45). -/
  | bootCheckDone
  /-- BOOT_ROM_INIT_DONE (R395). -/
  | bootRomInitDone
  /-- FIRMWARE_RESET (R38). -/
  | firmwareReset (v : Word)
  /-- HELLO_POST (R64). -/
  | helloPost
  /-- MB_CTRL_EN_WRITE (R60). -/
  | mbCtrlEnWrite (ring : Idx) (v : Word)
  /-- MB_CMD_TAIL_DOORBELL (R66). -/
  | mbCmdTailDoorbell (ring : Idx) (v : Word)
  /-- MAILBOX_COMMAND_TAKE (R63). -/
  | mailboxCommandTake (ring : Idx) (ue : Option Nat)
  /-- MB_RSP_HEAD_WRITE (R67). -/
  | mbRspHeadWrite (ring : Idx) (v : Word)
  /-- RESPONSE_ENTRY_POST (R62). -/
  | responseEntryPost (ring : Idx) (ue : Option Nat)
  /-- RING_INTERRUPT (R69). -/
  | ringInterrupt (ring : Idx)
  /-- TEMPO_LO_READ (R57). -/
  | tempoLoRead
  /-- ILK_OPEN_SEEN_CLEAR (R58). -/
  | ilkOpenSeenClear (v : Word)
  /-- ILK_COUNT_READ (R58). -/
  | ilkCountRead
  /-- DMA_STATUS_CLEAR (R165). -/
  | dmaStatusClear (ch : Idx) (v : Word)
  /-- DMA_DONE_COUNT_READ (R165). -/
  | dmaDoneCountRead (ch : Idx)
  /-- DMA_BAD_COUNT_READ (R165). -/
  | dmaBadCountRead (ch : Idx)
  /-- DMA_DOORBELL_RING (R166). -/
  | dmaDoorbellRing (ch : Idx) (by_ : Ringer)
  /-- DMA_DOORBELL_STOP (R174). -/
  | dmaDoorbellStop (ch : Idx) (v : Word)
  /-- ECC_STATUS_CLEAR (R398). -/
  | eccStatusClear (inst : Idx) (v : Word)
  /-- ECC_CE_COUNT_READ (R398). -/
  | eccCeCountRead (inst : Idx)
  /-- ECC_UE_COUNT_READ (R398). -/
  | eccUeCountRead (inst : Idx)
  /-- ECC_TEST_ENABLE (R400). -/
  | eccTestEnable (inst : Idx) (v : Word)
  /-- READ_RAW (R400). -/
  | readRaw (inst : Idx)
  /-- READ_CHECKED (R400). -/
  | readChecked (inst : Idx)
  /-- WRITE_DATA (R400). -/
  | writeData (inst : Idx)
  /-- WRITE_CHECK (R400). -/
  | writeCheck (inst : Idx)
  /-- WRITE_RAW (R400). -/
  | writeRaw (inst : Idx)
  /-- WRITE_NORMAL (R400). -/
  | writeNormal (inst : Idx)
  /-- ECC_TEST_DONE (R400). -/
  | eccTestDone (inst : Idx)
  /-- BAR0_BAD_ACCESS (R53). -/
  | bar0BadAccess (write : Bool) (off : Nat) (len : Nat)
  /-- BAR2_ACCESS (R52). -/
  | bar2Access (write : Bool) (off : Nat) (len : Nat) (data : Bytes)
  /-- REGISTER_WRITE (R13). -/
  | registerWrite (off : Nat) (v : RegValue)
  /-- STANDBY_POWER_ON (R38). -/
  | standbyPowerOn
  /-- PIN_RESET (R38). -/
  | pinReset
  /-- WAKE_FILTER_DONE (R40). -/
  | wakeFilterDone
  /-- OWN_RAIL_SETTLED (R40). -/
  | ownRailSettled (rail : Idx)
  /-- OWN_RAIL_RISE_TIMEOUT (R40). -/
  | ownRailRiseTimeout (rail : Idx)
  /-- WAKE_SPLL_LOCKED (R40). -/
  | wakeSpllLocked
  /-- HOST_LINK_RESET (R70). -/
  | hostLinkReset (cause : LinkReset)
  /-- OWN_RAIL_FAULT (R370). -/
  | ownRailFault (rail : Idx)
  /-- OWN_RAIL_FAULT_RL00 (R370). -/
  | ownRailFaultRl00
  /-- OWN_RAIL_POWER_DOWN (R370). -/
  | ownRailPowerDown
  /-- DORMANT_PG_LOST (R39). -/
  | dormantPgLost (rail : Idx)
  /-- ILK_OPEN (R227). -/
  | ilkOpen (a : Bool) (b : Bool)
  /-- ILK_RELEASE (R228). -/
  | ilkRelease
  /-- ILK_DISAGREE (R229). -/
  | ilkDisagree
  /-- TSYNC_FRAME_SEND (R133). -/
  | tsyncFrameSend
  /-- TSYNC_FRAME_RECEIVE (R135). -/
  | tsyncFrameReceive (edge : Tempo) (mk : Nat) (crc : Byte)
  /-- TSYNC_LOST (R137). -/
  | tsyncLost
  /-- CLOCK_START (R42). -/
  | clockStart (unit : ClockUnit)
  /-- PLL_BAND_FOUND (R139). -/
  | pllBandFound (pll : Idx) (band : Nat)
  /-- PLL_LOCK_WINDOW (R139): the count of the window, beside the whole number that is expected. -/
  | pllLockWindow (pll : Idx) (count expected : Nat)
  /-- PLL_REF_LOST (R140). -/
  | pllRefLost (pll : Idx)
  /-- PLL_TEMP_CORRECTION (R149). -/
  | pllTempCorrection (pll : Idx)
  /-- ME_COUNT_CAPTURE (R151). -/
  | meCountCapture (me : Idx) (levels : Levels) (edge : Tempo)
  /-- ME_INDEX_EDGE (R153). -/
  | meIndexEdge (e : IndexEdge)
  /-- GPIO_EDGE_CAPTURE (R418). -/
  | gpioEdgeCapture (pin : Idx) (level : Bool)
  /-- CASTLE_TRIGGER (R106). -/
  | castleTrigger (slot : Idx)
  /-- TICKET_RESIDENT (R115). -/
  | ticketResident (tk : Idx)
  /-- HEADER_CHECK (R184). -/
  | headerCheck (tk : Idx) (entry : Nat) (rank : Idx)
  /-- SEAL_EVALUATION (R117). -/
  | sealEvaluation (tk : Idx) (ue : Option Nat)
  /-- FLAG_FALL (R117). -/
  | flagFall (tk : Idx)
  /-- TIMELINE_ENTRY_TRIGGER (R122). -/
  | timelineEntryTrigger (tk : Idx) (entry : Nat) (ue : Option Nat)
  /-- EXIT_CASTLE (R123). -/
  | exitCastle (x : ExitRead)
  /-- SHEET_OVERRUN (R125). -/
  | sheetOverrun (tk : Idx)
  /-- MODE_TRANSITION_COMPLETE (R34). -/
  | modeTransitionComplete
  /-- WATCHDOG_EXPIRE (R37). -/
  | watchdogExpire (cause : WatchdogCause)
  /-- DRAM_TRAINING_DONE (R160). -/
  | dramTrainingDone (ch0 : TrainDram) (ch1 : TrainDram)
  /-- DMA_DESCRIPTOR_START (R164). -/
  | dmaDescriptorStart (ch : Idx) (d : HostData)
  /-- DMA_DESCRIPTOR_COMPLETE (R169). -/
  | dmaDescriptorComplete (ch : Idx)
  /-- DMA_LOOK_AGAIN (R167). -/
  | dmaLookAgain (ch : Idx) (d : HostData)
  /-- SHARED_RESOURCE_GRANT (R179). -/
  | sharedResourceGrant (res : Resource) (data : HostData)
  /-- DRAM_WRITE_ARRIVAL (R172). -/
  | dramWriteArrival (seq : Nat)
  /-- MERGE_BUFFER_DRAIN (R396). -/
  | mergeBufferDrain (inst : Idx) (word : Nat)
  /-- FETCH_RETURN (R180). -/
  | fetchReturn (lane : Idx)
  /-- LANE_LINE_WRITE (R203). -/
  | laneLineWrite (lane : Idx) (ue : Option Nat)
  /-- LANE_SUBSTREAM_COMPLETE (R188). -/
  | laneSubstreamComplete (lane : Idx)
  /-- MAPPER_START (R205). -/
  | mapperStart (link : Idx) (ue : MapperUe)
  /-- BEAM_LINK_FRAME (R213). -/
  | beamLinkFrame (link : Idx)
  /-- BC_STATUS (R224). -/
  | bcStatus (link : Idx) (p : Bytes)
  /-- BC_MON (R225). -/
  | bcMon (link : Idx) (p : Bytes)
  /-- BC_LINE_LOST (R222). -/
  | bcLineLost (link : Idx) (p : Bytes)
  /-- BC_MGMT_RSP (R220). -/
  | bcMgmtRsp (link : Idx) (p : Bytes)
  /-- BC_EMITTER_FAULT (R226). -/
  | bcEmitterFault (link : Idx) (p : Bytes)
  /-- BACKCHANNEL_LOST (R224). -/
  | backchannelLost (link : Idx)
  /-- BD_EDGE_CAPTURE (R232). -/
  | bdEdgeCapture (st : Idx) (edge : BdEdge)
  /-- BD_WINDOW_MISS (R240). -/
  | bdWindowMiss (st : Idx)
  /-- FACET_BOUNDARY (R242): the number of the OUT4 edge, and the tempo in which it lies. -/
  | facetBoundary (st : Idx) (edge : Nat) (time : Tempo)
  /-- SEEK_PULSE (R237). -/
  | seekPulse (st : Idx)
  /-- FACET_INDEX_EDGE (R239). -/
  | facetIndexEdge (st : Idx)
  /-- PSL_DOWN_FRAME (R255). -/
  | pslDownFrame (tile : Idx)
  /-- PSL_UP_FRAME (R262). -/
  | pslUpFrame (tile : Idx) (w : BitVec 24)
  /-- SLOW_FAULT (R270). -/
  | slowFault (tile : Idx)
  /-- SLOW_CFG_ACK (R260). -/
  | slowCfgAck (tile : Idx)
  /-- SLOW_DIAG (R276). -/
  | slowDiag (tile : Idx)
  /-- SLOW_INDEX (R298). -/
  | slowIndex (tile : Idx)
  /-- SLOW_RESOLVER (R299). -/
  | slowResolver (tile : Idx)
  /-- SLOW_TEMP (R263). -/
  | slowTemp (tile : Idx)
  /-- SLOW_IDENT (R263). -/
  | slowIdent (tile : Idx)
  /-- OFFOK_TIMEOUT (R267). -/
  | offokTimeout (tile : Idx) (sw : Idx)
  /-- TWO_STEP_DONE (R273). -/
  | twoStepDone (tile : Idx)
  /-- RETRY_WAIT_EXPIRE (R274). -/
  | retryWaitExpire (tile : Idx)
  /-- ENABLING_TIMEOUT (R273). -/
  | enablingTimeout (tile : Idx)
  /-- DIAG_STEP_TIMEOUT (R277). -/
  | diagStepTimeout (tile : Idx)
  /-- SELFTEST_WINDOW_END (R279). -/
  | selftestWindowEnd (tile : Idx)
  /-- BUS_VOLTAGE_UPDATE (R283). -/
  | busVoltageUpdate (tile : Idx)
  /-- BUS_STAGE_FALL (R283). -/
  | busStageFall (bus : Idx)
  /-- PROFILE_TICK (R292). -/
  | profileTick (ax : Nat)
  /-- SIXSTEP_ALIGN_DONE (R304). -/
  | sixstepAlignDone (tile : Idx)
  /-- POLY_ALIGN_DONE (R312). -/
  | polyAlignDone (tile : Idx)
  /-- POLY_BLIND_TIMEOUT (R312). -/
  | polyBlindTimeout (tile : Idx)
  /-- POLY_SYNC_TIMEOUT (R315). -/
  | polySyncTimeout (tile : Idx)
  /-- POLY_CATCH_DONE (R318). -/
  | polyCatchDone (tile : Idx) (emf : Nat) (angle : Nat) (speed : Nat)
  /-- CURRENT_SAMPLE (R325). -/
  | currentSample (tile : Idx) (ue : Option Nat)
  /-- RESONANCE_SCAN_DONE (R348). -/
  | resonanceScanDone (tile : Idx)
  /-- ZONE_POLL (R349). -/
  | zonePoll (tile : Idx)
  /-- ZONE_READ_DONE (R350). -/
  | zoneReadDone (tile : Idx) (zone : Idx) (rx : Bytes)
  /-- HEAT_WINDOW_SETTLED (R352). -/
  | heatWindowSettled (tile : Idx)
  /-- HV_WINDOW_SETTLED (R356). -/
  | hvWindowSettled (tile : Idx) (leg : Idx)
  /-- HV_ARC_OFF_EXPIRE (R355). -/
  | hvArcOffExpire (tile : Idx) (leg : Idx)
  /-- SEQUP_IN_HIGH (R364). -/
  | sequpInHigh
  /-- CASCADE_WAIT_TIMEOUT (R364). -/
  | cascadeWaitTimeout
  /-- RAIL_DELAY_EXPIRE (R364). -/
  | railDelayExpire (rail : Idx)
  /-- RAIL_SETTLED (R362). -/
  | railSettled (rail : Idx)
  /-- RAIL_RISE_TIMEOUT (R362, R368). -/
  | railRiseTimeout (r : RiseEnd)
  /-- RAIL_LOST (R369). -/
  | railLost (rail : Idx)
  /-- RAIL_TURN_OFF (R365). -/
  | railTurnOff (rail : Idx)
  /-- PMBUS_VOUT_POLL (R366). -/
  | pmbusVoutPoll (rail : Idx) (r : PmbusRead)
  /-- RAIL_FALLEN (R366). -/
  | railFallen (rail : Idx)
  /-- RAIL_FALL_TIMEOUT (R367). -/
  | railFallTimeout (rail : Idx)
  /-- PWRFLT_SEEN (R373). -/
  | pwrfltSeen
  /-- THERMAL_CONVERSION (R375). -/
  | thermalConversion (readings : List Int)
  /-- RUNOUT_PROGRAM_EXPIRE (R385). -/
  | runoutProgramExpire (ax : Nat)
  /-- LEDGER_WRITE_DONE (R386). -/
  | ledgerWriteDone
  /-- PERST_DEASSERT (R41). -/
  | perstDeassert
  /-- HOST_LINK_UP (R70). -/
  | hostLinkUp
  /-- SEQDN_IN_HIGH (R365). -/
  | seqdnInHigh
  /-- HEAT_HV_STATUS_REPORT (R358). -/
  | heatHvStatusReport (tile : Idx)
  /-- PWRFLT_N_RELEASE (R373). -/
  | pwrfltNRelease
  /-- RESET_N_RELEASE (R424). -/
  | resetNRelease
  /-- STANDBY_POWER_LOSS (R386). -/
  | standbyPowerLoss
  /-- RETRY_FURTHER_WAIT_EXPIRE (R274). -/
  | retryFurtherWaitExpire (tile : Idx)
  deriving DecidableEq, Repr

end Sys2Proof
end

