-- ==== Sys2Proof/Decode.lean ====
section
/-!
DEFINITION. What a table word decodes to. The opcode table gives no row any bits, so a word spells no command.
-/
namespace Sys2Proof

/-- The command that a word spells by the table's bits: none, for no row has bits. (DESIGN CHOICE: assumption 1) -/
def decodeTableWord (_nbits _w : Nat) : Option Instr := none

end Sys2Proof
end

