-- ==== Sys2Proof/Config.lean ====
section
/-!
DEFINITION. What the manual leaves open, as constants without a body: nothing can be proved about a value of one of
them. Assumption 4 lists them with the rules that leave them open.
-/
namespace Sys2Proof.Config

/-- The free value of number `n` of a run: a step that writes a value the manual leaves open takes the next number. -/
opaque freeNat : Nat → Nat

/-- A free byte. -/
opaque freeByte : Nat → Byte

/-- Which column of the odd-weight SECDED code each data bit takes (R394 names the code's properties, not its matrix). -/
opaque eccPick : Nat → Nat

/-- The public key fused at manufacture (R44), a point of curve P-384. -/
opaque fusedKey : Nat × Nat

/-- The code lengths that CL0 sends in a dynamic-code block, as the bits of the block after BTYPE up to its first symbol (R197): the
manual fixes the literals and matches that a block codes, not how its codes are formed. A literal is (byte, 0), a match
(length, distance). -/
opaque dynamicHeader : List (Nat × Nat) → List Bool

/-- 65,536 x the cosine of an angle in 1/65,536 cycle, in a rounding that the manual does not give (R303, R330). -/
opaque cosT : Nat → Int

/-- The coefficients b0, b1, b2, a1, a2 of a notch (R334) in units of 2^-32, in a rounding that the manual does not give: F, W
and D as Q16, and the sample rate in mHz. -/
opaque notchCoef : Int → Int → Int → Nat → List Int

/-- What a ledger slot whose write was cut off by the loss of standby power reads (R386), but for VALID and CHECK_OK: by slot, and
from 64 on its second word. -/
opaque tornLedger : Nat → Nat

/-- The protocol major version in a driver's word at address 0x0000 (Table 9-4), whose layout the manual does not give. -/
opaque drvMajor : Nat → Nat

/-- The test port (R426): the bits of its instruction register above two, what each code of it selects, the manufacturer and version
fields of IDCODE, its boundary cells, and the cells that drive the PX ball and the VL_TX ball of a link. -/
opaque tapIrMore : Nat
opaque tapSelect : List Bool → Nat
opaque tapMaker : Nat
opaque tapVersion : Nat
opaque tapCells : Nat
opaque tapPxCell : Nat → Nat
opaque tapVlCell : Nat → Nat

end Sys2Proof.Config
end

