-- ==== Sys2Proof/Machine/Bits.lean ====
section
/-!
DEFINITION. Bytes, fields, two's complement and the CRCs of the manual: little-endian structures (R11), the CRC-32 of
R188, the CRC-8 of Table 6-1 and R214, and the CRC-4 of R256.
-/
namespace Sys2Proof.Machine

/-- The field [lo + w - 1 : lo] of a natural number. -/
def field (x lo w : Nat) : Nat := x / 2 ^ lo % 2 ^ w

/-- Bit `i` of a natural number. -/
def bit (x i : Nat) : Bool := x / 2 ^ i % 2 == 1

/-- A Bool as the bit it stands for. -/
def b2n (b : Bool) : Nat := if b then 1 else 0

/-- A mask of the numbers in a list. -/
def maskOf (is : List Nat) : Nat := is.foldl (fun a i => Nat.lor a (2 ^ i)) 0

/-- The bytes of a number, little-endian (R11). -/
def toLE : Nat → Nat → List Byte
  | 0, _ => []
  | n + 1, x => BitVec.ofNat 8 x :: toLE n (x / 256)

/-- The number that bytes spell, little-endian (R11). -/
def ofLE : List Byte → Nat
  | [] => 0
  | b :: bs => b.toNat + 256 * ofLE bs

/-- The number that bytes spell with the first byte most significant (R349). -/
def ofBE (bs : List Byte) : Nat := ofLE bs.reverse

/-- `n` bytes from an offset; bytes past the end read 0. -/
def bytesAt (bs : List Byte) (off n : Nat) : List Byte :=
  (List.range n).map (fun i => bs.getD (off + i) 0)

/-- The little-endian field of `n` bytes at an offset. -/
def leAt (bs : List Byte) (off n : Nat) : Nat := ofLE (bytesAt bs off n)

/-- A number of `w` bits read as two's complement. -/
def sext (w x : Nat) : Int :=
  if x % 2 ^ w < 2 ^ (w - 1) then (x % 2 ^ w : Nat) else ((x % 2 ^ w : Nat) : Int) - ((2 ^ w : Nat) : Int)

/-- The `w` bits of an integer in two's complement. -/
def wrapBits (w : Nat) (x : Int) : Nat := (x % ((2 ^ w : Nat) : Int)).toNat

/-- An integer held to a range. -/
def clampI (lo hi x : Int) : Int := if x < lo then lo else if hi < x then hi else x

/-- A count that stops at its largest value (the saturating counters of R58, R165, R398). -/
def satAdd (w x n : Nat) : Nat := min (2 ^ w - 1) (x + n)

/-- Replace the bytes from an offset on. -/
def pokeBytes (bs : List Byte) (off : Nat) (new : List Byte) : List Byte :=
  bs.take off ++ new ++ bs.drop (off + new.length)

/-- Division rounded up. -/
def ceilDiv (a b : Nat) : Nat := if b = 0 then 0 else (a + b - 1) / b

/-- Division rounded half up, for a nonnegative quotient. -/
def roundDiv (a b : Nat) : Nat := if b = 0 then 0 else (2 * a + b) / (2 * b)

/-- Division rounded half away from zero (R329). -/
def roundDivI (a : Int) (b : Nat) : Int :=
  if a < 0 then -((roundDiv a.natAbs b : Nat) : Int) else ((roundDiv a.natAbs b : Nat) : Int)

/-- The largest number whose square is at most `x`, found within `n` bits. -/
def isqrtFrom : Nat → Nat → Nat → Nat
  | 0, _, r => r
  | n + 1, x, r => if (r + 2 ^ n) * (r + 2 ^ n) ≤ x then isqrtFrom n x (r + 2 ^ n) else isqrtFrom n x r

/-- The integer square root of a number below 2^128. -/
def isqrt (x : Nat) : Nat := isqrtFrom 64 x 0

/-- One bit of a CRC that takes the most significant bit first. -/
def crcBit (w poly : Nat) (c : Nat) (b : Bool) : Nat :=
  let top := bit c (w - 1) != b
  let sh := c * 2 % 2 ^ w
  if top then Nat.xor sh poly else sh

/-- The bits of a number of `w` bits, most significant first. -/
def bitsMSB : Nat → Nat → List Bool
  | 0, _ => []
  | w + 1, x => bit x w :: bitsMSB w x

/-- CRC-4 of R256: polynomial x^4 + x + 1, initial value 0, over bits in transmission order. -/
def crc4 (bs : List Bool) : Nat := bs.foldl (crcBit 4 3) 0

/-- CRC-8 of Table 6-1 and R214: polynomial x^8 + x^2 + x + 1, initial value 0, most significant bit first. -/
def crc8Bits (bs : List Bool) : Nat := bs.foldl (crcBit 8 7) 0

/-- CRC-8 of R214 over bytes, byte 0 first. -/
def crc8 (bs : List Byte) : Nat := crc8Bits (bs.flatMap (fun b => bitsMSB 8 b.toNat))

/-- One bit step of the reflected CRC-32 of R188. -/
def crc32Step (c : Nat) : Nat := if c % 2 = 1 then Nat.xor (c / 2) 0xedb88320 else c / 2

/-- Eight bit steps. -/
def crc32Byte (c : Nat) (b : Byte) : Nat :=
  crc32Step (crc32Step (crc32Step (crc32Step (crc32Step (crc32Step (crc32Step (crc32Step
    (Nat.xor c b.toNat))))))))

/-- CRC-32 of R188: IEEE 802.3 polynomial, least significant bit first, initial value and final XOR all ones. -/
def crc32 (bs : List Byte) : Nat := Nat.xor (bs.foldl crc32Byte 0xffffffff) 0xffffffff

end Sys2Proof.Machine
end

