-- ==== Sys2Proof/Machine/ParamTable.lean ====
section
/-!
DEFINITION. The parameter families the manual names (R82), class by class, with the type, unit, range, reset value,
write window and lock of each, copied from Tables 4-4, 5-8, 6-1a, 6-3, 6-4, 6-6, 6-7, 7-2, 8-6, 9-8, 10-6, 11-13, 13-7,
15-1, 15-5, 16-7a and 18-14, R147, R148, R321 and R404. Classes STN, DEV, CL, SPI and I2C have more parameters than the
manual names (Table 4-3); those that it does not name are undefined here (assumption 12).
-/
namespace Sys2Proof.Machine

/-- Parameter types (R83), coded as in R432. -/
inductive PTy where
  | u32 | s32 | u64 | q16 | e | b
  deriving DecidableEq, Repr

/-- Write windows (Table 4-5), coded as in R432. -/
inductive Win where
  | ro | d | s | t | a
  deriving DecidableEq, Repr

/-- A parameter family (R82): `n` members from PID `base` on. `lo` and `hi` bound the value (R83), `unit` is the code of
Table 4-18. (DEDUCED: assumption 12) -/
structure Family where
  name : String
  cls : Nat
  base : Nat
  n : Nat
  ty : PTy
  lo : Int
  hi : Int
  reset : Nat
  win : Win
  lock : Bool
  unit : Nat
  deriving DecidableEq, Repr

/-- The type code of R432. -/
def PTy.code : PTy → Nat
  | .u32 => 0 | .s32 => 1 | .u64 => 2 | .q16 => 3 | .e => 4 | .b => 5

/-- The window code of R432. -/
def Win.code : Win → Nat
  | .ro => 0 | .d => 1 | .s => 2 | .t => 3 | .a => 4

/-- Object class codes (Table 4-3). -/
abbrev clsDEV : Nat := 0x01
abbrev clsSTN : Nat := 0x02
abbrev clsBEAM : Nat := 0x03
abbrev clsVL : Nat := 0x04
abbrev clsDL : Nat := 0x05
abbrev clsDT : Nat := 0x06
abbrev clsLE : Nat := 0x07
abbrev clsGRP : Nat := 0x08
abbrev clsME : Nat := 0x09
abbrev clsRAIL : Nat := 0x0a
abbrev clsTS : Nat := 0x0b
abbrev clsDMA : Nat := 0x0c
abbrev clsCL : Nat := 0x0d
abbrev clsSPI : Nat := 0x0e
abbrev clsI2C : Nat := 0x0f
abbrev clsGPIO : Nat := 0x10
abbrev clsTK : Nat := 0x11

/-- Instances of a class (Table 4-3); 0 for a class that is not defined. -/
def classInstances (c : Nat) : Nat :=
  if c = clsDEV then 1 else if c = clsSTN then 8 else if c = clsBEAM then 256 else if c = clsVL then 32
  else if c = clsDL then 32 else if c = clsDT then 64 else if c = clsLE then 8 else if c = clsGRP then 128
  else if c = clsME then 8 else if c = clsRAIL then 32 else if c = clsTS then 16 else if c = clsDMA then 32
  else if c = clsCL then 1 else if c = clsSPI then 4 else if c = clsI2C then 4 else if c = clsGPIO then 32
  else if c = clsTK then 256 else 0

/-- A parameter address (R79): CLASS [31:24], INSTANCE [23:12], PID [11:0]. -/
def addr (c i p : Nat) : Nat := c * 0x1000000 + i * 0x1000 + p

/-- The object address of an object (R79: PID 0). -/
def obj (c i : Nat) : Nat := addr c i 0

/-- CLASS of an address. -/
def aCls (a : Nat) : Nat := field a 24 8
/-- INSTANCE of an address. -/
def aIdx (a : Nat) : Nat := field a 12 12
/-- PID of an address. -/
def aPid (a : Nat) : Nat := field a 0 12

/-- The object an address belongs to. -/
def aObj (a : Nat) : Nat := obj (aCls a) (aIdx a)

/-- The device itself (R427). -/
abbrev objDEV : Nat := 0x01000000

def u32Max : Int := 0xffffffff
def u64Max : Int := 0xffffffffffffffff
def s32Min : Int := -0x80000000
def s32Max : Int := 0x7fffffff

/-- Class DEV: Tables 6-1a, 6-3, 11-13, 15-5, 16-7a and R404. -/
def famDEV : List Family := [
  ⟨"dev.tsync.role", 1, 0x010, 1, .e, 0, 2, 0, .d, false, 0⟩,
  ⟨"dev.tsync.delay", 1, 0x011, 1, .u32, 0, 255, 8, .d, false, 1⟩,
  ⟨"dev.pll.lock_win", 1, 0x020, 5, .u32, 8, 16, 8, .s, false, 0⟩,
  ⟨"dev.pll.lock_tol", 1, 0x028, 5, .u32, 10, 10000, 200, .s, false, 8⟩,
  ⟨"dev.pll.state", 1, 0x030, 5, .e, 0, 5, 0, .ro, false, 0⟩,
  ⟨"dev.bus.limits", 1, 0x040, 8, .u64, 0, 0x0fffffffffffffff, 0, .d, false, 0⟩,
  ⟨"dev.bus.chopper", 1, 0x048, 8, .u32, 0, 255, 255, .d, false, 0⟩,
  ⟨"dev.bus.state", 1, 0x050, 8, .u32, 0, 0xffff, 0, .ro, false, 0⟩,
  ⟨"dev.seq.cascade_ms", 1, 0x060, 1, .u32, 1, 60000, 1000, .s, false, 5⟩,
  ⟨"dev.pwrflt.action", 1, 0x061, 1, .e, 0, 2, 1, .s, false, 0⟩,
  ⟨"dev.seq.pins", 1, 0x062, 1, .u32, 0, 0x3f, 0, .ro, false, 0⟩,
  ⟨"dev.therm.rate_limit", 1, 0x070, 1, .q16, 32768, 3276800, 327680, .s, false, 0xff⟩,
  ⟨"dev.therm.max", 1, 0x071, 1, .q16, s32Min, s32Max, 0, .ro, false, 0x13⟩,
  ⟨"dev.therm.max_sensor", 1, 0x072, 1, .u32, 0, 15, 0, .ro, false, 0⟩,
  ⟨"dev.therm.step", 1, 0x073, 1, .u32, 30, 100, 100, .ro, false, 0x14⟩,
  ⟨"dev.therm.state", 1, 0x074, 1, .e, 0, 4, 0, .ro, false, 0⟩,
  ⟨"dev.ledger.count", 1, 0x075, 1, .u32, 0, 64, 0, .ro, false, 0⟩,
  ⟨"dev.vcore.cfg", 1, 0x076, 1, .u64, 0, 0xff7fc001, 0xff000000, .d, false, 0⟩,
  ⟨"dev.vcore.mv", 1, 0x077, 1, .u32, 0, u32Max, 0, .ro, false, 0x12⟩,
  ⟨"dev.pclk.grade", 1, 0x078, 1, .e, 0, 3, 0, .ro, false, 0⟩,
  ⟨"dev.ecc.ce_limit", 1, 0x080, 1, .u32, 1, 1000000, 1000, .a, false, 0xff⟩]

/-- Class STN: Table 10-6, which states no unit for st.facets: facets here. (DESIGN CHOICE: assumption 12) -/
def famSTNscan : List Family := [
  ⟨"st.facets", 2, 0x000, 1, .u32, 4, 16, 8, .d, false, 0x17⟩,
  ⟨"st.px_hz", 2, 0x001, 1, .u32, 50000000, 250000000, 100000000, .d, false, 6⟩,
  ⟨"st.scan_period", 2, 0x002, 1, .u64, 6400000, 640000000, 6400000, .d, false, 2⟩,
  ⟨"st.active_pixels", 2, 0x003, 1, .u32, 16, 36864, 16, .d, false, 0x0a⟩,
  ⟨"st.bd_to_start", 2, 0x004, 1, .u32, 256, 65535, 4000, .d, false, 0x0a⟩,
  ⟨"st.bd.polarity", 2, 0x005, 1, .e, 0, 1, 0, .t, false, 0⟩,
  ⟨"st.bd.min_width", 2, 0x006, 1, .u32, 1, 64, 2, .t, false, 1⟩,
  ⟨"st.bd.half_window", 2, 0x007, 1, .u32, 16, 8192, 256, .t, false, 1⟩,
  ⟨"st.bd.beam", 2, 0x008, 1, .u32, 0, 31, 0, .t, false, 0⟩,
  ⟨"st.bd.code", 2, 0x009, 1, .u32, 1, 31, 4, .t, false, 0⟩,
  ⟨"st.bd.mon_offset", 2, 0x00a, 1, .u32, 0, 65535, 128, .t, false, 0x0a⟩,
  ⟨"st.bd.mon_width", 2, 0x00b, 1, .u32, 1, 255, 4, .t, false, 0xff⟩,
  ⟨"st.bd.seek_width", 2, 0x00c, 1, .u32, 1, 255, 64, .t, false, 0xff⟩,
  ⟨"st.sync.period_tol", 2, 0x00d, 1, .u32, 10, 50000, 2000, .t, false, 8⟩,
  ⟨"st.sync.lock_facets", 2, 0x00e, 1, .u32, 4, 64, 16, .t, false, 0x17⟩,
  ⟨"st.facet.index_src", 2, 0x00f, 1, .e, 0, 2, 0, .d, false, 0⟩,
  ⟨"st.facet.index_gpio", 2, 0x010, 1, .u32, 0, 31, 0, .d, false, 0⟩,
  ⟨"st.poly_tile", 2, 0x011, 1, .u32, 0, 255, 255, .d, false, 0⟩,
  ⟨"st.bow.pitch", 2, 0x012, 1, .u32, 16, 1024, 576, .t, false, 0x0a⟩,
  ⟨"st.sync.state", 2, 0x018, 1, .e, 0, 4, 0, .ro, false, 0⟩,
  ⟨"st.sync.facet", 2, 0x019, 1, .u32, 0, 15, 0, .ro, false, 0⟩,
  ⟨"st.sync.period", 2, 0x01a, 1, .u64, 0, u64Max, 0, .ro, false, 2⟩,
  ⟨"st.sync.bd_tempo", 2, 0x01b, 1, .u64, 0, u64Max, 0, .ro, false, 1⟩,
  ⟨"st.sync.bd_frac", 2, 0x01c, 1, .u32, 0, 63, 0, .ro, false, 2⟩,
  ⟨"st.sync.missed", 2, 0x01d, 1, .u32, 0, u32Max, 0, .ro, false, 0⟩,
  ⟨"st.sync.stray", 2, 0x01e, 1, .u32, 0, u32Max, 0, .ro, false, 0⟩,
  ⟨"st.facet.start_adj", 2, 0x040, 16, .s32, -2048, 2047, 0, .a, true, 9⟩,
  ⟨"st.inscan_delay", 2, 0x050, 1, .s32, -8192, 8191, 0, .a, true, 9⟩,
  ⟨"st.reg.phase", 2, 0x051, 1, .s32, -32768, 32767, 0, .a, true, 0x0d⟩,
  ⟨"st.reg.line_offset", 2, 0x052, 1, .s32, -16, 16, 0, .a, true, 0x0b⟩,
  ⟨"st.reg.slew", 2, 0x053, 1, .u32, 1, 4096, 64, .t, false, 0xff⟩,
  ⟨"st.reg.tol", 2, 0x054, 1, .u32, 16, 8192, 256, .t, false, 0x0d⟩,
  ⟨"st.reg.error", 2, 0x055, 1, .s32, s32Min, s32Max, 0, .ro, false, 0x0d⟩,
  ⟨"st.reg.phase_eff", 2, 0x056, 1, .s32, s32Min, s32Max, 0, .ro, false, 0x0d⟩,
  ⟨"st.reg.ok", 2, 0x057, 1, .b, 0, 1, 0, .ro, false, 0⟩]

/-- Class STN: the VPLL, gearing and video families of Tables 6-3, 6-4, 6-7 and 9-8, R147 and R148. -/
def famSTNclk : List Family := [
  ⟨"st.vpll.out_div", 2, 0x060, 6, .u32, 1, 64, 16, .t, false, 0⟩,
  ⟨"st.vpll.out_delay", 2, 0x066, 6, .u32, 0, 63, 0, .t, false, 0xff⟩,
  ⟨"st.vpll.out_en", 2, 0x06c, 6, .u32, 0, 1, 0, .t, false, 0⟩,
  ⟨"st.vpll.lock_win", 2, 0x072, 1, .u32, 8, 16, 8, .t, false, 0⟩,
  ⟨"st.vpll.lock_tol", 2, 0x073, 1, .u32, 10, 10000, 500, .t, false, 8⟩,
  ⟨"st.vpll.state", 2, 0x074, 1, .e, 0, 5, 0, .ro, false, 0⟩,
  ⟨"st.vpll.mon_khz", 2, 0x075, 1, .u32, 0, u32Max, 0, .ro, false, 7⟩,
  ⟨"st.vpll.ratio", 2, 0x076, 1, .u64, 0, u64Max, 0, .ro, false, 0⟩,
  ⟨"st.vpll.store_slot", 2, 0x077, 1, .u32, 0, 7, 0, .a, false, 0⟩,
  ⟨"st.vpll.band_slot", 2, 0x078, 1, .u32, 0, 8, 0, .a, false, 0⟩,
  ⟨"st.gear.master", 2, 0x080, 1, .e, 0, 8, 0, .ro, false, 0⟩,
  ⟨"st.gear.num", 2, 0x081, 1, .s32, s32Min, s32Max, 0, .ro, false, 0⟩,
  ⟨"st.gear.den", 2, 0x082, 1, .u32, 0, u32Max, 0, .ro, false, 0⟩,
  ⟨"st.gear.pending", 2, 0x083, 1, .b, 0, 1, 0, .ro, false, 0⟩,
  ⟨"st.gear.switch_pos", 2, 0x084, 1, .u64, 0, u64Max, 0, .ro, false, 0x0c⟩,
  ⟨"st.gear.slave_pos", 2, 0x085, 1, .u64, 0, u64Max, 0, .ro, false, 0xff⟩,
  ⟨"st.spares", 2, 0x090, 1, .u32, 0, 8, 0, .d, false, 0⟩,
  ⟨"st.prefill_lines", 2, 0x091, 1, .u32, 48, u32Max, 64, .t, false, 0x0b⟩,
  ⟨"st.swath_lines", 2, 0x092, 1, .u32, 0, u32Max, 0, .ro, false, 0x0b⟩,
  ⟨"st.fill_ahead", 2, 0x093, 1, .u32, 0, u32Max, 0, .ro, false, 0x0b⟩,
  ⟨"st.mon_code", 2, 0x094, 2, .u32, 1, 31, 8, .t, false, 0⟩,
  ⟨"st.mon_period", 2, 0x096, 1, .u32, 1, 64, 1, .t, false, 0x18⟩]

/-- Classes BEAM, VL and DL: Table 9-8. -/
def famBeam : List Family := [
  ⟨"beam.pulse_scale", 3, 0x000, 1, .q16, 32768, 131072, 65536, .a, true, 0⟩,
  ⟨"beam.spare", 3, 0x001, 1, .b, 0, 1, 0, .ro, false, 0⟩,
  ⟨"beam.role", 3, 0x002, 1, .e, 0, 4, 0, .ro, false, 0⟩,
  ⟨"beam.mon_window", 3, 0x003, 1, .u32, 0, 0x0fff0fff, 0x0fff0000, .t, false, 0⟩,
  ⟨"vl.state", 4, 0x000, 1, .e, 0, 3, 0, .ro, false, 0⟩,
  ⟨"vl.rank_delay", 4, 0x001, 1, .s32, -4096, 4095, 0, .a, true, 9⟩,
  ⟨"vl.rtt", 4, 0x002, 1, .u32, 0, u32Max, 0, .ro, false, 1⟩,
  ⟨"vl.drv_version", 4, 0x003, 1, .u32, 0, u32Max, 0, .ro, false, 0⟩,
  ⟨"vl.ctl_err", 4, 0x004, 1, .u32, 0, u32Max, 0, .ro, false, 0⟩,
  ⟨"vl.bc_err", 4, 0x005, 1, .u32, 0, u32Max, 0, .ro, false, 0⟩,
  ⟨"vl.lines_lost", 4, 0x006, 1, .u32, 0, u32Max, 0, .ro, false, 0⟩,
  ⟨"vl.tx_level", 4, 0x007, 1, .e, 0, 3, 1, .s, false, 0⟩,
  ⟨"dl.state", 5, 0x000, 1, .e, 0, 3, 0, .ro, false, 0⟩,
  ⟨"dl.queue", 5, 0x001, 1, .u32, 0, u32Max, 0, .ro, false, 0⟩,
  ⟨"dl.work", 5, 0x002, 1, .u64, 0, u64Max, 0, .ro, false, 1⟩,
  ⟨"dl.errors", 5, 0x003, 1, .u32, 0, u32Max, 0, .ro, false, 0⟩]

/-- Class DT: Tables 4-4, 6-7, 11-13 and 16-7a. -/
def famDT : List Family := [
  ⟨"dt.mode", 6, 0x000, 1, .e, 0, 7, 0, .d, false, 0⟩,
  ⟨"dt.evacuate", 6, 0x001, 1, .b, 0, 1, 0, .d, false, 0⟩,
  ⟨"dt.fuser_safety", 6, 0x002, 1, .b, 0, 1, 0, .d, false, 0⟩,
  ⟨"dt.runout_ms", 6, 0x003, 1, .u32, 0, 600000, 0, .t, false, 5⟩,
  ⟨"dt.derate", 6, 0x004, 1, .q16, 32768, 65536, 65536, .ro, false, 0⟩,
  ⟨"dt.gate.dead_ns", 6, 0x010, 3, .u32, 20, 5000, 200, .t, false, 3⟩,
  ⟨"dt.gate.offok_timeout_ns", 6, 0x014, 3, .u32, 500, 10000, 2000, .t, false, 3⟩,
  ⟨"dt.prot.desat_blank_ns", 6, 0x018, 3, .u32, 200, 5000, 1000, .t, false, 3⟩,
  ⟨"dt.prot.soft_step1_ns", 6, 0x01c, 1, .u32, 200, 4000, 1000, .t, false, 3⟩,
  ⟨"dt.retry.wait_ms", 6, 0x020, 1, .u32, 1, 10000, 100, .t, false, 5⟩,
  ⟨"dt.retry.tries", 6, 0x021, 1, .u32, 0, 15, 3, .t, false, 0⟩,
  ⟨"dt.pump.freq_khz", 6, 0x022, 1, .u32, 50, 1000, 200, .t, false, 7⟩,
  ⟨"dt.prot.cfg", 6, 0x023, 1, .u64, 0, 0x0000ffffffffffff, 0, .t, false, 0⟩,
  ⟨"dt.prot.status", 6, 0x024, 1, .u64, 0, 0xffff0fffffff7f7d, 0x40, .ro, false, 0⟩,
  ⟨"dt.gear.master", 6, 0x0c0, 1, .e, 0, 8, 0, .ro, false, 0⟩,
  ⟨"dt.gear.num", 6, 0x0c1, 1, .s32, s32Min, s32Max, 0, .ro, false, 0⟩,
  ⟨"dt.gear.den", 6, 0x0c2, 1, .u32, 0, u32Max, 0, .ro, false, 0⟩,
  ⟨"dt.gear.pending", 6, 0x0c3, 1, .b, 0, 1, 0, .ro, false, 0⟩,
  ⟨"dt.gear.switch_pos", 6, 0x0c4, 1, .u64, 0, u64Max, 0, .ro, false, 0x0c⟩,
  ⟨"dt.gear.slave_pos", 6, 0x0c5, 1, .u64, 0, u64Max, 0, .ro, false, 0xff⟩,
  ⟨"dt.loop.coef", 6, 0x100, 16, .q16, s32Min, s32Max, 0, .a, false, 0xff⟩]

/-- Classes LE, GRP and ME: Tables 13-7, 4-4, 6-7, R321 and 6-6. -/
def famAxis : List Family := [
  ⟨"le.osr", 7, 0x000, 1, .u32, 32, 256, 256, .s, false, 0⟩,
  ⟨"le.cur_period", 7, 0x001, 1, .u32, 256, 4096, 256, .s, false, 0xff⟩,
  ⟨"le.spd_div", 7, 0x002, 1, .u32, 1, 64, 4, .s, false, 0⟩,
  ⟨"le.pos_div", 7, 0x003, 1, .u32, 1, 16, 1, .s, false, 0⟩,
  ⟨"le.plaus.mask", 7, 0x004, 1, .u64, 0, 0x3f3f3f3f3f3f3f3f, 0x3f3f3f3f3f3f3f3f, .t, false, 0⟩,
  ⟨"le.tap", 7, 0x005, 1, .u32, 0, 0x87, 0, .a, false, 0⟩,
  ⟨"le.tap_value", 7, 0x006, 1, .s32, s32Min, s32Max, 0, .ro, false, 0xff⟩,
  ⟨"le.tap_tempo", 7, 0x007, 1, .u64, 0, u64Max, 0, .ro, false, 1⟩,
  ⟨"le.i_meas", 7, 0x008, 8, .s32, s32Min, s32Max, 0, .ro, false, 0x11⟩,
  ⟨"grp.policy", 8, 0x000, 1, .e, 0, 1, 0, .t, false, 0⟩,
  ⟨"grp.gear.master", 8, 0x001, 1, .e, 0, 8, 0, .ro, false, 0⟩,
  ⟨"grp.gear.num", 8, 0x002, 1, .s32, s32Min, s32Max, 0, .ro, false, 0⟩,
  ⟨"grp.gear.den", 8, 0x003, 1, .u32, 0, u32Max, 0, .ro, false, 0⟩,
  ⟨"grp.gear.pending", 8, 0x004, 1, .b, 0, 1, 0, .ro, false, 0⟩,
  ⟨"grp.gear.switch_pos", 8, 0x005, 1, .u64, 0, u64Max, 0, .ro, false, 0x0c⟩,
  ⟨"grp.gear.slave_pos", 8, 0x006, 1, .u64, 0, u64Max, 0, .ro, false, 0xff⟩,
  ⟨"grp.lead", 8, 0x007, 1, .u32, 0, 255, 255, .t, false, 0⟩,
  ⟨"me.enable", 9, 0x000, 1, .b, 0, 1, 0, .a, true, 0⟩,
  ⟨"me.dir", 9, 0x001, 1, .e, 0, 1, 0, .t, false, 0⟩,
  ⟨"me.filter", 9, 0x002, 1, .u32, 0, 7, 2, .t, false, 0x16⟩,
  ⟨"me.err_limit", 9, 0x003, 1, .u32, 0, 255, 4, .t, false, 0⟩,
  ⟨"me.index.mode", 9, 0x004, 1, .e, 0, 2, 0, .t, false, 0⟩,
  ⟨"me.index.period", 9, 0x005, 1, .u32, 4, 0x80000000, 0, .t, false, 0x0c⟩,
  ⟨"me.index.tol", 9, 0x006, 1, .u32, 0, 65535, 0, .t, false, 0x0c⟩,
  ⟨"me.preset", 9, 0x007, 1, .u64, 0, u64Max, 0, .t, false, 0x0c⟩,
  ⟨"me.position", 9, 0x008, 1, .u64, 0, u64Max, 0, .ro, false, 0x0c⟩,
  ⟨"me.rate", 9, 0x009, 1, .q16, s32Min, s32Max, 0, .ro, false, 0xff⟩,
  ⟨"me.index.pos", 9, 0x00a, 1, .u64, 0, u64Max, 0, .ro, false, 0x0c⟩,
  ⟨"me.index.tempo", 9, 0x00b, 1, .u64, 0, u64Max, 0, .ro, false, 1⟩,
  ⟨"me.err_count", 9, 0x00c, 1, .u32, 0, u32Max, 0, .ro, false, 0⟩]

/-- Classes RAIL, TS, DMA, CL, SPI, I2C, GPIO and TK: Tables 15-1, 16-7a, 7-2, 8-6, 18-14 and 5-8. -/
def famRest : List Family := [
  ⟨"rail.dep_mask", 0xa, 0x000, 1, .u32, 0, 0xffffffe0, 0, .d, false, 0⟩,
  ⟨"rail.settle_us", 0xa, 0x001, 1, .u32, 0, 100000, 0, .d, false, 4⟩,
  ⟨"rail.rise_timeout_us", 0xa, 0x002, 1, .u32, 200, 1000000, 10000, .d, false, 4⟩,
  ⟨"rail.fall_timeout_us", 0xa, 0x003, 1, .u32, 100, 1000000, 10000, .d, false, 4⟩,
  ⟨"rail.delay_us", 0xa, 0x004, 1, .u32, 0, 100000, 0, .d, false, 4⟩,
  ⟨"rail.cfg", 0xa, 0x005, 1, .u64, 0, 0x0000ffffff7ffe8a, 0xff000040, .d, false, 0⟩,
  ⟨"rail.state", 0xa, 0x006, 1, .e, 0, 7, 0, .ro, false, 0⟩,
  ⟨"rail.tempo", 0xa, 0x007, 1, .u64, 0, u64Max, 0, .ro, false, 1⟩,
  ⟨"ts.temp", 0xb, 0x000, 1, .q16, s32Min, s32Max, 0, .ro, false, 0x13⟩,
  ⟨"ts.state", 0xb, 0x001, 1, .e, 0, 1, 0, .ro, false, 0⟩,
  ⟨"ts.rate", 0xb, 0x002, 1, .q16, s32Min, s32Max, 0, .ro, false, 0xff⟩,
  ⟨"ts.peak", 0xb, 0x003, 1, .q16, s32Min, s32Max, 0, .ro, false, 0x13⟩,
  ⟨"dma.class", 0xc, 0x000, 1, .e, 0, 4, 1, .t, false, 0⟩,
  ⟨"dma.nosnoop", 0xc, 0x001, 1, .b, 0, 1, 0, .t, false, 0⟩,
  ⟨"dma.owner", 0xc, 0x002, 1, .e, 0, 1, 0, .t, false, 0⟩,
  ⟨"dma.state", 0xc, 0x003, 1, .e, 0, 3, 0, .ro, false, 0⟩,
  ⟨"cl.source", 0xd, 0x000, 1, .e, 0, 1, 0, .a, false, 0⟩,
  ⟨"cl.pred", 0xd, 0x001, 1, .e, 0, 2, 2, .a, false, 0⟩,
  ⟨"cl.station", 0xd, 0x002, 1, .u32, 0, 7, 0, .a, false, 0⟩,
  ⟨"cl.width_16", 0xd, 0x003, 1, .u32, 1, 2304, 1, .a, false, 0⟩,
  ⟨"cl.state", 0xd, 0x008, 1, .e, 0, 1, 0, .ro, false, 0⟩,
  ⟨"cl.queued", 0xd, 0x009, 1, .u32, 0, u32Max, 0, .ro, false, 0⟩,
  ⟨"cl.bytes_in", 0xd, 0x00a, 1, .u64, 0, u64Max, 0, .ro, false, 0x15⟩,
  ⟨"cl.bytes_out", 0xd, 0x00b, 1, .u64, 0, u64Max, 0, .ro, false, 0x15⟩,
  ⟨"spi.clk_div", 0xe, 0x000, 1, .u32, 5, 250, 50, .s, false, 0⟩,
  ⟨"spi.rx_delay", 0xe, 0x001, 1, .u32, 0, 3, 0, .s, false, 1⟩,
  ⟨"spi.cs_setup", 0xe, 0x002, 1, .u32, 1, 255, 10, .s, false, 1⟩,
  ⟨"spi.cs_hold", 0xe, 0x003, 1, .u32, 1, 255, 10, .s, false, 1⟩,
  ⟨"spi.cs_gap", 0xe, 0x004, 1, .u32, 2, 255, 20, .s, false, 1⟩,
  ⟨"i2c.mode", 0xf, 0x000, 1, .e, 0, 2, 0, .s, false, 0⟩,
  ⟨"i2c.stretch_us", 0xf, 0x001, 1, .u32, 100, 100000, 25000, .s, false, 4⟩,
  ⟨"gpio.cfg", 0x10, 0x000, 1, .u32, 0, 0xff3a, 0, .s, false, 0⟩,
  ⟨"gpio.out", 0x10, 0x001, 1, .b, 0, 1, 0, .a, false, 0⟩,
  ⟨"gpio.cap_tempo", 0x10, 0x002, 1, .u64, 0, u64Max, 0, .ro, false, 1⟩,
  ⟨"gpio.cap_info", 0x10, 0x003, 1, .u32, 0, 0xffff0003, 0, .ro, false, 0⟩,
  ⟨"tk.slip", 0x11, 0x000, 1, .e, 0, 1, 0, .t, false, 0⟩,
  ⟨"tk.pitch", 0x11, 0x001, 1, .u64, 0, 0x10000000000, 0, .t, false, 0xff⟩]

/-- Every family of every class. -/
def families : List Family :=
  famDEV ++ famSTNscan ++ famSTNclk ++ famBeam ++ famDT ++ famAxis ++ famRest

/-- The family of a class and PID. -/
def findFamily (c p : Nat) : Option Family :=
  families.find? (fun f => f.cls == c && decide (f.base ≤ p) && decide (p < f.base + f.n))

/-- The reset value of one member of a family: every member has the family's, but for st.mon_code (8 and 24, Table 9-8). -/
def Family.resetOf (f : Family) (p : Nat) : Nat :=
  if f.cls = clsSTN ∧ p = 0x095 then 24 else f.reset

/-- The reset value of a parameter address; 0 where no parameter is defined. -/
def paramReset (a : Nat) : Nat :=
  match findFamily (aCls a) (aPid a) with
  | some f => f.resetOf (aPid a)
  | none => 0

/-- Fields of packed parameters that are reserved: a set bit is refused with RESERVED_VALUE (R83, R419). -/
def reservedMask (c p : Nat) : Nat :=
  if c = clsDEV ∧ 0x040 ≤ p ∧ p < 0x048 then 0xf000000000000000
  else if c = clsDEV ∧ p = 0x076 then 0xffffffff00803ffe
  else if c = clsDT ∧ p = 0x023 then 0xffff000000000000
  else if c = clsLE ∧ p = 0x004 then 0xc0c0c0c0c0c0c0c0
  else if c = clsLE ∧ p = 0x005 then 0xffffff08
  else if c = clsRAIL ∧ p = 0x005 then 0xffff000000800000
  else if c = clsRAIL ∧ p = 0x000 then 0
  else if c = clsGPIO ∧ p = 0x000 then 0xffff00c0
  else if c = clsBEAM ∧ p = 0x003 then 0xf000f000
  else 0

/-- A reserved value inside a packed parameter's field (Tables 13-8, 15-2, 18-15). -/
def reservedFieldValue (c p v : Nat) : Bool :=
  if c = clsLE ∧ p = 0x005 then decide (8 < field v 4 4)
  else if c = clsRAIL ∧ p = 0x005 then field v 0 2 == 3 || field v 2 2 == 3
  else if c = clsGPIO ∧ p = 0x000 then field v 0 2 == 3 || field v 2 2 == 3
  else false

/-- Conditions on a value that its range alone does not say. -/
def extraRangeOk (c p v : Nat) : Bool :=
  if c = clsSTN ∧ p = 0x012 then v % 16 == 0
  else if c = clsSTN ∧ p = 0x011 then decide (v < 64) || v == 255
  else if c = clsDEV ∧ 0x048 ≤ p ∧ p < 0x050 then decide (v < 64) || v == 255
  else if c = clsGRP ∧ p = 0x007 then decide (v < 64) || v == 255
  else if c = clsRAIL ∧ p = 0x001 then v == 0 || decide (100 ≤ v)
  else if c = clsRAIL ∧ p = 0x000 then v % 32 == 0
  else if c = clsRAIL ∧ p = 0x005 then decide (1 ≤ field v 4 10) && decide (field v 4 10 ≤ 1000)
  else true

/-- A value as the integer its type makes of it (R83: canonical form). -/
def PTy.toInt (t : PTy) (v : Nat) : Int :=
  match t with
  | .s32 | .q16 => sext 64 v
  | _ => (v % 2 ^ 64 : Nat)

/-- A value lies in its type (R83). -/
def PTy.holds (t : PTy) (v : Nat) : Bool :=
  match t with
  | .u32 | .e => decide (v < 2 ^ 32)
  | .b => decide (v < 2)
  | .u64 => decide (v < 2 ^ 64)
  | .s32 | .q16 => decide (s32Min ≤ sext 64 v) && decide (sext 64 v ≤ s32Max)

end Sys2Proof.Machine
end

