-- ==== Sys2Proof/Machine/Map.lean ====
section
/-!
DEFINITION. A finite map from instance numbers to values, as plain data: a list of (key, value) pairs whose keys rise
strictly and which lists no entry equal to its key's default, so that equal maps are equal lists. Registers of units,
parameters, memory words and pages are all held in it. A key that is not listed reads as its default.
-/
namespace Sys2Proof.Machine

/-- Values by instance number; see `Map.wf` for the one form every operation keeps. -/
abbrev Map (α : Type) := List (Nat × α)

/-- The value at a key: the listed one, or the default of that key. -/
def Map.get {α : Type} (d : Nat → α) : Map α → Nat → α
  | [], k => d k
  | (a, v) :: m, k => if k = a then v else Map.get d m k

/-- List a value at its place in the key order, in place of the one listed there. -/
def Map.insert {α : Type} : Map α → Nat → α → Map α
  | [], k, v => [(k, v)]
  | (a, w) :: m, k, v =>
    if k = a then (k, v) :: m
    else if k < a then (k, v) :: (a, w) :: m
    else (a, w) :: Map.insert m k v

/-- Unlist a key. -/
def Map.erase {α : Type} (m : Map α) (k : Nat) : Map α := m.filter (fun e => decide (e.1 ≠ k))

/-- Write a key; writing its default unlists it. -/
def Map.put {α : Type} [DecidableEq α] (d : Nat → α) (m : Map α) (k : Nat) (v : α) : Map α :=
  if v = d k then Map.erase m k else Map.insert m k v

/-- Change the value at a key by a function. -/
def Map.upd {α : Type} [DecidableEq α] (d : Nat → α) (m : Map α) (k : Nat) (f : α → α) : Map α :=
  Map.put d m k (f (Map.get d m k))

/-- Change every listed value by a function. -/
def Map.mapV {α : Type} [DecidableEq α] (d : Nat → α) (m : Map α) (f : Nat → α → α) : Map α :=
  m.filterMap (fun e => if f e.1 e.2 = d e.1 then none else some (e.1, f e.1 e.2))

/-- Keys rise strictly from a lower bound, and no entry is its key's default. -/
def Map.wfFrom {α : Type} [DecidableEq α] (d : Nat → α) : Nat → Map α → Bool
  | _, [] => true
  | lo, (a, v) :: m => decide (lo ≤ a) && decide (v ≠ d a) && Map.wfFrom d (a + 1) m

/-- The one form of a map: keys rise strictly, and no entry equals what an unlisted key reads as. -/
def Map.wf {α : Type} [DecidableEq α] (d : Nat → α) (m : Map α) : Bool := Map.wfFrom d 0 m

/-- The keys a map lists. -/
def Map.keys {α : Type} (m : Map α) : List Nat := m.map (fun e => e.1)

end Sys2Proof.Machine
end

