-- ==== Sys2Proof/Machine/Units.lean ====
section
/-!
DEFINITION. The records that State holds, one for each kind of unit the manual gives the device. Every field's default is
its value after reset: the manual's where it gives one, and otherwise the value that assumption 3 names.
-/
namespace Sys2Proof.Machine

/-- The modes of Table 2-1, in the order of their codes. -/
inductive Mode where
  | dormant | configure | standby | warmUp | ready | print | runOut | safeHold
  deriving DecidableEq, Repr

/-- BOOT_STATUS.STATE (Table 3-11), in the order of its codes. -/
inductive Boot where
  | init | awaiting | checking | running | rejected | locked
  deriving DecidableEq, Repr

/-- How often the hardware has counted or set something in the last tempo in which it did (R13): an RC read leaves the events of
its own tempo for the next read, and a W1C write leaves a bit that is set in its own tempo. -/
structure Recent where
  at_ : Option Tempo := none
  n : Nat := 0
  deriving DecidableEq, Repr

/-- What the die is (R1, Tables 3-4, 16-6): variant code, stepping, die identifier, ROM release, whether the public-key
fuses and their check word are valid, and the fused nominal core voltage. No step changes it. -/
structure Die where
  variant : Nat := 1
  dieStep : Nat := 0
  dieId : Nat := 0
  romVer : Nat := 0
  fuseOk : Bool := true
  v0 : Nat := 760
  deriving DecidableEq, Repr

/-- Where the response of a command that is still running goes: its ring, the ring's epoch (a ring that was disabled in
between discards the response, R60, R70), and what the response echoes. -/
structure Reply where
  ring : Idx := 0
  epoch : Nat := 0
  opcode : Nat := 0
  tag : Nat := 0
  quiet : Bool := false
  deriving DecidableEq, Repr

/-- A response (Table 3-18) that waits for its ring's response queue. -/
structure OutMsg where
  opcode : Nat := 0
  tag : Nat := 0
  code : Nat := 0
  tempo : Tempo := 0
  payload : Bytes := []
  deriving DecidableEq, Repr

/-- An event in the backlog (R67, R427). -/
structure EvMsg where
  code : Nat := 0
  obj : Nat := 0
  tempo : Tempo := 0
  count : Nat := 1
  latched : Bool := false
  sheet : Bool := false
  fields : List Nat := []
  deriving DecidableEq, Repr

/-- A sheet report waiting to be posted (R127). -/
structure Report where
  ticket : Idx
  tempo : Tempo
  payload : Bytes
  deriving DecidableEq, Repr

/-- The message that a ring is writing entry by entry: nothing, a response, an event, a sheet report, or 0x0102 or 0x0101 with
its count and tempo. -/
inductive Cur where
  | idle
  | response (m : OutMsg)
  | event (e : EvMsg)
  | report (r : Report)
  | lost (count : Nat) (tempo : Tempo)
  | linkReset (count : Nat) (tempo : Tempo)
  deriving DecidableEq, Repr

/-- A command message that firmware has taken and not answered yet (R63, R65), with the ring's epoch when it was taken, and
whether it has begun to run. -/
structure Taken where
  opcode : Nat
  msg : Msg
  epoch : Nat
  begun : Bool := false
  deriving DecidableEq, Repr

/-- An accepted PARAM_WRITE whose pairs are still to be applied, the tempo in which the last one was (R86), and until when the
next one waits for the clock of its unit to start (R42). -/
structure PairJob where
  reply : Reply := {}
  pairs : List (Nat × Nat) := []
  next : Nat := 0
  lastAt : Option Tempo := none
  clockAt : Option Tempo := none
  deriving DecidableEq, Repr

/-- A mailbox ring (Table 3-16): registers, phase and entry count (R62), the command being executed, responses
produced and not yet written, the message being written and how many of its entries are, and what interrupt coalescing
counts (R69). -/
structure Ring where
  en : Bool := false
  haltCause : Nat := 0
  cmdTail : Nat := 0
  cmdHead : Nat := 0
  rspBase : Nat := 0
  log2 : Nat := 0
  rspHead : Nat := 0
  rspTail : Nat := 0
  vec : Nat := 0
  irqCount : Nat := 0
  irqTime : Nat := 0
  phase : Bool := true
  seq : Nat := 0
  epoch : Nat := 0
  taken : Option Taken := none
  waiting : List OutMsg := []
  cur : Cur := .idle
  curAt : Nat := 0
  unsig : Nat := 0
  firstUnsig : Tempo := 0
  sigNow : Bool := false
  pairs : Option PairJob := none
  deriving DecidableEq, Repr

/-- Rate limiting of one event code on one object: when it was last posted, the occurrences since, and the payload of the
first of them. (DEDUCED: assumption 14) -/
structure Rate where
  last : Option Tempo := none
  count : Nat := 0
  first : List Nat := []
  deriving DecidableEq, Repr

/-- A latched-fault record (R428). -/
structure FaultRec where
  code : Nat
  obj : Nat
  tempo : Tempo
  deriving DecidableEq, Repr

/-- A block of a Beam Link: the payload of a control block, or 64 bits of data (R213 to R215). -/
inductive LinkBlock where
  | ctl (b : Bytes)
  | data (w : Nat)
  deriving DecidableEq, Repr

/-- What the device sends out of its package, in order: what an observer outside can see of it. `frame`: the blocks that leave on a
Beam Link from a slot of the frame under way on; a later record of the same frame takes the place of what stood in its slots.
`hostRead` and `hostWrite` are requests to host memory with their No-Snoop attribute (R50, R178). `px`: a PX output starts, its first edge carrying a number, at its delay in 1/64 period; or it is held low. (DESIGN CHOICE: assumption 5; DESIGN CHOICE: assumption 42) -/
inductive Out where
  | hostWrite (addr : Nat) (data : Bytes) (noSnoop : Bool := false)
  | hostRead (addr : Nat) (len : Nat) (noSnoop : Bool := false)
  | msix (vector : Nat)
  | completion (data : Bytes)
  | completerAbort
  | psl (link : Idx) (frame : BitVec 24)
  | frame (link : Idx) (slot : Nat) (blocks : List LinkBlock)
  | px (link : Idx) (first : Option Nat) (delay : Nat)
  | gpio (pin : Idx) (level : Bool)
  | tsync (cells : List Bool)
  | spi (ctrl cs mode : Nat) (data : Bytes)
  | i2c (ctrl target : Nat) (data : Bytes) (readLen : Nat)
  deriving DecidableEq, Repr

/-- The writable part of the endpoint's configuration space (R49, Table 3-1): Command, base addresses by register 0 to 5, Device
Control, MSI-X Function Mask, D3hot, Uncorrectable Error Status with its mask and severity, ECRC enables (off after
reset), and the negotiated rate and width. Default values that the manual does not give are those of the PCI Express Base Specification. (PRESUMED: assumption 43) -/
structure Endpoint where
  command : Nat := 0
  bars : Map Nat := []
  devCtl : Nat := 0x2810
  fnMask : Bool := false
  d3 : Bool := false
  aerStatus : Nat := 0
  aerMask : Nat := 0
  aerSeverity : Nat := 0x00062030
  ecrc : Nat := 0
  rate : Nat := 4
  width : Nat := 8
  deriving DecidableEq, Repr

/-- The host link: link and PERST# state (`perst`: released), rings, the event backlog and the held 0x0102 (R67), the MSI-X
enable, table words and PBA (Table 3-2), event routes (R91), the TEMPO_HI copy (R57), what R71 posts first, the parameters that PARAM_WRITE pairs
were applied to in a tempo (R66), and the endpoint's configuration registers. -/
structure HostLink where
  linkUp : Bool := false
  perst : Bool := false
  training : Bool := false
  rings : Map Ring := []
  backlog : List EvMsg := []
  lostCount : Nat := 0
  lostTempo : Tempo := 0
  msixEn : Bool := false
  msix : Map Nat := []
  pba : Nat := 0
  routes : Map Nat := []
  tempoHi : Nat := 0
  helloPosted : Bool := false
  discarded : Nat := 0
  linkNote : Option Tempo := none
  rates : Map Rate := []
  applied : List Nat := []
  appliedAt : Option Tempo := none
  cfg : Endpoint := {}
  deriving DecidableEq, Repr

/-- A mode transition that is accepted and not complete (R34, R35). -/
structure Trans where
  target : Mode
  reply : Option Reply
  deriving DecidableEq, Repr

/-- Mode, boot and watchdog state (R32 to R37, R43 to R45, Tables 3-9 and 3-11), what PRESS_COMMIT accepted (R92), which
tables have been committed and which loop coefficients written (R48), the image window (Table 3-2), the tempo of the last
hardware transition (R35), when the watchdog was armed (R37), and a DORMANT_ENTER whose response has yet to be posted (R41, R90). -/
structure ModeSt where
  mode : Mode := .configure
  pend : Option Trans := none
  exitTarget : Mode := .ready
  dramOk : Bool := false
  pressOk : Bool := false
  boot : Boot := .init
  rejectCode : Nat := 0
  rejectCount : Nat := 0
  window : Map Byte := []
  cmdsetVer : Nat := 0
  fwVer : Nat := 0
  entry : Nat := 0
  wdMs : Nat := 0
  wdExpired : Bool := false
  hwAt : Option Tempo := none
  committed : Map Bool := []
  coefs : Map Bool := []
  wdAt : Tempo := 0
  leaving : Option Reply := none
  deriving DecidableEq, Repr

/-- A ledger entry (Table 16-3), its fields before packing, and whether its write completed. -/
structure LedgerEntry where
  kind : Nat
  source : Nat
  mode : Nat
  temp : Int
  tempo : Tempo
  ok : Bool
  deriving DecidableEq, Repr

/-- Steps of the wake sequence and of the own-rail power-down (R40, R370): RL00 rises, RL01 to RL04 rise, SPLL locks, RL01
to RL04 fall. -/
inductive Wake where
  | idle | rl00 | rails | spll | down
  deriving DecidableEq, Repr

/-- The always-on domain: strap image (Table 2-4a), ledger (R386), wake sequence (R40), cascade pins (R372), PWRFLT_N
(R373), RESET_N, which own rails are good, since when RL01 to RL04 are off in a power-down (R370), a WAKE_N seen during one
(R41), and the events that the always-on domain met without the main domain and that are reported after the next wake (R39,
R370): code, rail and a last field. -/
structure Aon where
  keep : Nat := 0
  watch : Nat := 0
  wakeFilt : Nat := 0
  ledger : List LedgerEntry := []
  ledgerQueue : List LedgerEntry := []
  ledgerFull : Bool := false
  wake : Wake := .spll
  downAt : Tempo := 0
  wakePending : Bool := false
  resetLow : Bool := false
  standbyOn : Bool := true
  ownUp : Map Bool := [(0, true), (1, true), (2, true), (3, true), (4, true)]
  notes : List (Nat × Nat × Nat) := []
  pwrflt : List (Nat × Nat) := []
  pwrfltExt : Bool := false
  pwrfltReported : Bool := false
  seqUpIn : Bool := false
  seqDnIn : Bool := false
  seqUpOut : Bool := false
  deriving DecidableEq, Repr

/-- An action record (Table 5-2). -/
structure Action where
  target : Nat
  kind : Nat
  table : Nat
  value : Nat
  deriving DecidableEq, Repr

/-- A precondition record (R104): an object and a condition code of Table 5-4. -/
structure Pre where
  obj : Nat
  cond : Nat
  deriving DecidableEq, Repr

/-- A castle slot (R100, R103). `state` is numbered as in Table 5-15; `reachedAt` is the tempo that reached a position trigger. -/
structure Castle where
  state : Nat := 0
  outcome : Nat := 0
  actions : List Action := []
  basis : Nat := 0
  trigger : Int := 0
  pres : List Pre := []
  reachedAt : Option Tempo := none
  deriving DecidableEq, Repr

/-- A castle entry of a ticket (Table 5-6); `reachedAt` is the tempo that reached a position trigger. -/
structure TEntry where
  afterFeed : Bool := false
  feed : Bool := false
  exit : Bool := false
  spoil : Nat := 0
  offset : Int := 0
  actions : List Action := []
  pres : List Pre := []
  done : Bool := false
  reachedAt : Option Tempo := none
  deriving DecidableEq, Repr

/-- An image entry of a ticket (Table 5-6), with the header check of each rank (R184: none yet, or the first failing
cause, 0 = valid) and the header last read. -/
structure Image where
  station : Idx
  strip : Nat
  addr : Nat
  hdr : Map (Option Nat) := []
  raw : Bytes := []
  deriving DecidableEq, Repr

/-- A sheet ticket (R111 to R127). `state` and `sealOutcome` are numbered as in Table 5-16. `fell` is the tempo and the mask of a
fall that an earlier slip of the same tempo leaves to be made (R109); `opened` is the tempo that reached a seal point given as a
position; `evalAt` is the tempo of the last evaluation, and `lastMask` its mask. -/
structure Ticket where
  state : Nat := 0
  sealOutcome : Nat := 0
  entries : List TEntry := []
  images : List Image := []
  basis : Nat := 0
  feed : Int := 0
  sealOff : Int := 0
  window : Nat := 0
  maxSpan : Nat := 0
  extra : List Pre := []
  held : List Nat := []
  resident : Bool := false
  slips : Nat := 0
  fallMask : Nat := 0
  opened : Option Tempo := none
  fell : Option (Tempo × Nat) := none
  evalAt : Option Tempo := none
  lastMask : Nat := 0
  serial : Nat := 0
  sealTempo : Tempo := 0
  feedTempo : Tempo := 0
  spoil : Nat := 0
  causes : Map Nat := []
  blank : Map Nat := []
  missed : Nat := 0
  firstMissed : Nat := 0xffff
  firstFault : Nat := 0
  faultCount : Nat := 0
  deriving DecidableEq, Repr

/-- The staging copy of a table id (R88): the instance whose data it holds. -/
structure Staging where
  inst : Option Nat := none
  data : Bytes := []
  deriving DecidableEq, Repr

/-- Castles, tickets and tables. `queue` is the order in which tickets wait for timeline memory (R115); `serial` counts
seals from each firmware reset (Table 5-12). After an uncorrectable error (Table 17-3), `rewritten` marks by tile what has been
written again (bits 0 to 15 the coefficients, 16 COGGING, 17 FRICTION), and `ueTables` names the tables (id, station) to commit. -/
structure Seal where
  castles : Map Castle := []
  tickets : Map Ticket := []
  queue : List Idx := []
  serial : Nat := 0
  reports : List Report := []
  active : Map Bytes := []
  staging : Map Staging := []
  rewritten : Map Nat := []
  ueTables : List (Nat × Nat) := []
  deriving DecidableEq, Repr

/-- PLL states (Table 6-3a), in the order of their codes. -/
inductive PllState where
  | off | search | recall | acquire | locked | coasting
  deriving DecidableEq, Repr

/-- A PLL (R139 to R149): windows in a row in and out of tolerance, why it coasts, band, tuning word and bias trim, the
temperature of its last correction, when its sensor was last read, and whether a substitution was reported (R150). A VPLL also
holds its ratio (R143) and the recall it tries (R148). The window of the lock detector under way: its start, and the ratio summed
over its tempo to `winMark`. An OUT4 edge of a VPLL from which the others are counted: its number, and its time in 2^-38 tempo. -/
structure Pll where
  state : PllState := .off
  inTol : Nat := 0
  outTol : Nat := 0
  coastWin : Nat := 0
  refLost : Bool := false
  band : Nat := 0
  tune : Nat := 0
  frozen : Nat := 0
  trim : Int := 0
  corrTemp : Int := 0
  subst : Bool := false
  ratio : Nat := 0
  everLocked : Bool := false
  recallSlot : Option Nat := none
  recallWin : Nat := 0
  lastCount : Nat := 0
  winAt : Tempo := 0
  winMark : Tempo := 0
  winAcc : Nat := 0
  edgeN : Nat := 0
  edgeT : Nat := 0
  readAt : Option Tempo := none
  deriving DecidableEq, Repr

/-- A ratio made pending by GEAR_SET (R156). Master 0 disengages (R296). -/
structure GearPend where
  master : Nat
  n : Int
  d : Nat
  p : Int
  deriving DecidableEq, Repr

/-- A gearing unit (R155): master (0 none, 1 to 8 ME0 to ME7), N, D, slave position S, remainder r. -/
structure Gear where
  master : Nat := 0
  n : Int := 0
  d : Nat := 0
  s : Int := 0
  r : Nat := 0
  pend : Option GearPend := none
  deriving DecidableEq, Repr

/-- A master encoder (R151 to R154): accepted levels, position, illegal transitions, index fields (`idxRun`: the counts since the
last index edge), and the counts captured in the last 65,536 tempo, newest first. -/
structure Enc where
  started : Bool := false
  a : Bool := false
  b : Bool := false
  pos : Int := 0
  errCount : Nat := 0
  errs : List Tempo := []
  lastErr : Tempo := 0
  idxPos : Int := 0
  idxTempo : Tempo := 0
  idxSeen : Bool := false
  idxRun : Int := 0
  hist : List (Tempo × Int) := []
  deriving DecidableEq, Repr

/-- A GPIO's capture (R419), and whether gpio.cap_tempo has yet to be read. -/
structure Gpio where
  capTempo : Tempo := 0
  level : Bool := false
  overrun : Bool := false
  unread : Bool := false
  captures : Nat := 0
  deriving DecidableEq, Repr

/-- PLLs, encoders, gearing, GPIO capture and TSYNC (R136, R137: whether a frame has loaded the counter, when the last valid
frame came, whether it agreed, and whether its loss has been reported), and the last correction of the on-die references (R149). -/
structure Clk where
  plls : Map Pll := []
  gears : Map Gear := []
  encs : Map Enc := []
  gpios : Map Gpio := []
  tsLoaded : Bool := false
  tsLast : Tempo := 0
  tsAgrees : Bool := false
  tsLost : Bool := false
  refsAt : Option Tempo := none
  deriving DecidableEq, Repr

/-- The fence state of a store page (R170). `kind` 0 FENCED, 1 DIRTY of `ch`, 2 DIRTY_MULTI; `epoch` tells which DMA_OPEN of the
channel its oldest such write belongs to (R171). -/
structure Page where
  kind : Nat := 0
  ch : Nat := 0
  epoch : Nat := 0
  last : Tempo := 0
  deriving DecidableEq, Repr

/-- DMA channel states (Table 7-6), in the order of their codes. -/
inductive DmaState where
  | closed | idle | running | faulted
  deriving DecidableEq, Repr

/-- What a running channel does next (R167). -/
inductive DmaStep where
  | rest | readDesc | transfer | finish | lookAgain
  deriving DecidableEq, Repr

/-- A descriptor (Table 7-3). -/
structure Desc where
  ctrl : Nat := 0
  status : Nat := 0
  src : Nat := 0
  dst : Nat := 0
  link : Nat := 0
  deriving DecidableEq, Repr

/-- A DMA channel (Tables 7-2 and 7-6, R167): registers, what it does next, whether the access of a descriptor that this takes has
been granted, the descriptor in progress with the bytes moved so far, the cause it failed with, and its DMA_OPENs so far. -/
structure Dma where
  state : DmaState := .closed
  badSeen : Bool := false
  doneSeen : Bool := false
  next : Nat := 0
  last : Nat := 0
  cur : Nat := 0
  doneCount : Nat := 0
  badCount : Nat := 0
  doneNew : Recent := {}
  badNew : Recent := {}
  badAddr : Nat := 0
  irqEn : Bool := false
  step : DmaStep := .rest
  slot : Bool := false
  desc : Desc := {}
  moved : Nat := 0
  cause : Nat := 0
  opens : Nat := 0
  deriving DecidableEq, Repr

/-- A request of a DMA channel that waits at a shared resource (R179): class, since when, channel, direction, address and
bytes; a store write also has its number and its data, and a write to the host its data. `ctl`: it reads or writes a
descriptor. -/
structure Req where
  res : Resource
  cls : Nat
  since : Tempo
  who : Nat
  write : Bool
  addr : Nat
  data : Bytes
  len : Nat
  seq : Nat := 0
  ctl : Bool := false
  deriving DecidableEq, Repr

/-- A store write that was granted and has not yet arrived in DRAM (R172). `live` is cleared by a close (R174); `merging`
is set while the merge buffer still holds bytes of it (R396). -/
structure Flight where
  seq : Nat
  ch : Nat
  addr : Nat
  data : Bytes
  granted : Tempo
  live : Bool
  merging : Bool
  deriving DecidableEq, Repr

/-- A STORE_FENCE that waits (R171): channel (255 all), tempo of acceptance, deadline, and the writes it covers. -/
structure Fence where
  reply : Reply
  ch : Nat
  accepted : Tempo
  deadline : Tempo
  cover : List Nat
  deriving DecidableEq, Repr

/-- A compression job (R195, R196), with the cl. parameters it copied and the bound of R198. While it runs: the source bytes that
COMP_FEED has brought, the container once it is built, its bytes that COMP_DRAIN has taken, and why it failed. -/
structure Job where
  reply : Reply
  level : Nat
  dyn : Bool
  src : Nat
  dst : Nat
  len : Nat
  limit : Nat
  ch : Nat := 0
  container : Bool
  pred : Nat
  station : Nat
  width16 : Nat
  bound : Nat := 0
  input : Bytes := []
  box : Option Bytes := none
  outAt : Nat := 0
  fail : Option (Nat × Bytes) := none
  deriving DecidableEq, Repr

/-- The page store, the DMA engine and CL0. `regions` are STORE_ALLOC's (first address, pages); `badBoxes` the containers
with a recorded decode error (R191). -/
structure Store where
  gib0 : Nat := 0
  gib1 : Nat := 0
  out0 : Bool := false
  out1 : Bool := false
  regions : List (Nat × Nat) := []
  pages : Map Page := []
  badBoxes : List (Nat × Nat) := []
  dma : Map Dma := []
  reqs : List Req := []
  flights : List Flight := []
  flightSeq : Nat := 0
  fences : List Fence := []
  jobs : List Job := []
  job : Option Job := none
  clIn : Nat := 0
  clOut : Nat := 0
  deriving DecidableEq, Repr

/-- A strip in a station's lane queue (R202): the ticket, the strip's number and container, its queue number and lines, the
header fields that the lanes need, which lines a decode error blanked (rank and first line of its sub-stream, R192) or a CRC
mismatch did (first line of the strip, R193), and the CRC of each rank that has completed it (`none`: an error blanked lines). -/
structure QStrip where
  tk : Idx
  strip : Nat
  addr : Nat
  first : Nat
  lines : Nat
  pred : Nat
  lens : List Nat
  crc : Nat
  blanked : List (Nat × Nat) := []
  crcFrom : Option Nat := none
  done : List (Nat × Option Nat) := []
  deriving DecidableEq, Repr

/-- A line in the swath (R202): its queue number and its bytes. -/
structure SwLine where
  q : Nat := 0
  data : Bytes := []
  deriving DecidableEq, Repr

/-- A decompressor lane (Table 9-8): the strip of its station's queue it works on (counted from the first strip the station
ever queued), the line of the sub-stream it writes next, the fetch of its input (since when it waits, whether it is granted,
what it returned, and how many of its bytes stand before an uncorrectable error), and its counters. -/
structure Lane where
  strip : Nat := 0
  line : Nat := 0
  since : Option Tempo := none
  granted : Bool := false
  fetched : Bool := false
  fetchUe : Option Nat := none
  input : Bytes := []
  work : Nat := 0
  errors : Nat := 0
  deriving DecidableEq, Repr

/-- A power-monitor sample (R225). -/
structure Sample where
  tempo : Tempo
  code : Nat
  power : Nat
  deriving DecidableEq, Repr

/-- A beam: the last four monitor samples (R225) and the pairs that give the emitter slope (R388). -/
structure Beam where
  samples : List Sample := []
  pairs : List Int := []
  deriving DecidableEq, Repr

/-- Beam Link states (Table 9-3), in the order of their codes. -/
inductive LinkState where
  | down | training | up | faulted
  deriving DecidableEq, Repr

/-- A line that leaves on a link (R215, R217): its LINE_HEAD while that waits for a slot, the data blocks that have not left and how
many have, and the mapper start. -/
structure LineOut where
  head : Option Bytes
  blocks : List Nat
  done : Nat := 0
  start : Tempo
  deriving DecidableEq, Repr

/-- A run of LINK_TRAIN (Table 9-4): its reply, when it began, the step it has come to and since when, when the control block of a
management read left, reads answered, the largest round trip, the code of a step that failed, and whether the interlock opened. -/
structure Training where
  reply : Reply
  start : Tempo
  step : Nat := 3
  since : Tempo
  sentAt : Option Tempo := none
  reads : Nat := 0
  rtt : Nat := 0
  fail : Nat := 0
  ilk : Bool := false
  deriving DecidableEq, Repr

/-- A Beam Link (R213 to R225): state, line number, its PX output (running; an EDGE_SYNC that waits for its frame; once that has left
the tempo of the start and its V; held until a line whose marker comes late enough, R228), the readouts of Table 9-8, the last packet
and STATUS, the transmitter level in force, the control blocks that wait for slot 0 of coming frames, the line of the present
facet (whether its mapper start and its marker are still to come, whether it counts as clocked from the coasting model, and the
blocks that leave), the last frame, monitor requests made, scans since the last of them, the lines of the last scans (SEQ, ticket,
scan; newest first) and the training that runs. -/
structure Link where
  state : LinkState := .down
  seq : Nat := 0
  pxOn : Bool := false
  pxWait : Bool := false
  pxAt : Option Tempo := none
  pxHold : Bool := false
  edgeV : Nat := 0
  rtt : Nat := 0
  drv : Nat := 0
  ctlErr : Nat := 0
  bcErr : Nat := 0
  linesLost : Nat := 0
  lastPkt : Tempo := 0
  status : Bytes := []
  txLevel : Nat := 1
  slot0 : List Bytes := []
  lineDue : Bool := false
  marker : Option (Tempo × Bytes) := none
  coast : Bool := false
  line : Option LineOut := none
  frameAt : Option Tempo := none
  monCount : Nat := 0
  monScans : Nat := 0
  sent : List (Nat × Idx × Nat) := []
  train : Option Training := none
  deriving DecidableEq, Repr

/-- The image a station draws (R207, R251): its ticket, the scan of the present facet, whether a link has begun it, the queue
number of image line 0, and the image's lines. -/
structure Drawing where
  tk : Idx
  scan : Nat
  begun : Bool
  q0 : Nat
  lines : Nat
  deriving DecidableEq, Repr

/-- Facet timing states (Table 10-3), in the order of their codes. -/
inductive Sync where
  | off | seeking | locked | coasting | lost
  deriving DecidableEq, Repr

/-- A station (chapters 9 and 10). Facet timing (R236 to R241): state, seek pulses, predicted raw timestamp, the last accepted
corrected timestamp and the model's of the present facet, misses since, period, facet and index. Pixel clock and line start
(R242, R243): the ratio decided, when it was, and the line's offsets. `bdAt` is the tempo of the last capture.
Registration (R247 to R250). The images (R251) and the lane queue (R202): `qBase` counts the strips that have left it, `qEnd`
is the next queue number, `qFloor` the first line not passed. Times are in 1/64 tempo. -/
structure Station where
  enabled : Bool := false
  sync : Sync := .off
  seek : Bool := false
  seekLit : Option (Nat × Nat) := none
  pred : Option Int := none
  bAcc : Option Int := none
  bModel : Option Int := none
  raw : Nat := 0
  since : Nat := 0
  period : Nat := 0
  lockRun : Nat := 0
  missed : Nat := 0
  stray : Nat := 0
  facet : Nat := 0
  idxArm : Bool := false
  idxOk : Bool := false
  idxPend : Bool := false
  idxSeen : Bool := false
  idxCount : Nat := 0
  decTempo : Tempo := 0
  decRatio : Nat := 0
  boundary : Bool := false
  lineAdj : Int := 0
  bdAt : Option Tempo := none
  lineQ : Option Int := none
  lineEnd : Tempo := 0
  coastLine : Bool := false
  phiEff : Int := 0
  phiSet : Bool := false
  err : Int := 0
  oks : List Bool := []
  regOk : Bool := false
  outOn : Bool := true
  draw : Option Drawing := none
  starting : List (Idx × Tempo) := []
  queue : List QStrip := []
  qBase : Nat := 0
  qEnd : Nat := 0
  qFloor : Nat := 0
  swath : Map SwLine := []
  deriving DecidableEq, Repr

/-- Video path, Beam Links, stations and the laser interlock (Table 3-15): the input levels, blanking, OPEN_SEEN, COUNT, the tempo of the last
opening, since when the inputs have stood as they do, and when blanking was last released. -/
structure Video where
  stations : Map Station := []
  lanes : Map Lane := []
  beams : Map Beam := []
  links : Map Link := []
  ilkA : Bool := true
  ilkB : Bool := true
  blanked : Bool := true
  openSeen : Bool := true
  ilkCount : Nat := 0
  ilkNew : Recent := {}
  openAt : Option Tempo := none
  ilkLast : Tempo := 0
  ilkSince : Tempo := 0
  relAt : Tempo := 0
  deriving DecidableEq, Repr

/-- Tile protection states (Table 11-8), in the order of their codes. -/
inductive Prot where
  | disabled | enabling | run | twoStep | retryWait | latched
  deriving DecidableEq, Repr

/-- A sinc3 decimator of one channel (R329): three integrators, three comb delays, the last output, the sum, number and
largest magnitude of the outputs since the last current sample, and how many in a row were out of range (Table 13-6). -/
structure Sinc where
  a1 : Nat := 0
  a2 : Nat := 0
  a3 : Nat := 0
  c1 : Nat := 0
  c2 : Nat := 0
  c3 : Nat := 0
  last : Int := 0
  sum : Int := 0
  outs : Nat := 0
  big : Int := 0
  run : Nat := 0
  deriving DecidableEq, Repr

/-- One switch of a tile: the level last issued, the frame period and edge of its last turn-off, the capture period of the
first up frame since that showed it off (R264), and its off-confirm window (R267: the off frame's period and the window's
last tempo). -/
structure Switch where
  on : Bool := false
  offAt : Option (Nat × Nat) := none
  okCap : Option Nat := none
  window : Option (Nat × Tempo) := none
  deriving DecidableEq, Repr

/-- What the modulator asks of one leg (R301, R347): both switches off, the low side on, the high side on, the high side on
for a number of tempo centred in the period and the low side for the rest, or a square wave with each switch on for a number
of tempo from the start of its half-period (`anti`: the low side has the first half). -/
inductive LegDrive where
  | off | low | high
  | pwm (on : Nat)
  | square (anti : Bool) (on : Nat)
  deriving DecidableEq, Repr

/-- A modulation: what each leg is asked, the period in tempo and where the periods are counted from. -/
structure Modulation where
  legs : List LegDrive := []
  period : Nat := 1000
  base : Tempo := 0
  deriving DecidableEq, Repr

/-- A step of a diagnostic run (Table 11-10). -/
inductive DiagStep where
  | bus (leg : Nat) | ground (leg : Nat) | continuity (leg : Nat) | comparator (n : Nat)
  deriving DecidableEq, Repr

/-- A diagnostic run (R276 to R279): what is still to do, the step in progress with the period its CMD frame was sent in,
and what has been found. -/
structure Diag where
  reply : Reply
  kind : Nat
  start : Tempo
  steps : List DiagStep
  sentAt : Option Nat := none
  legFail : Nat := 0
  opens : Nat := 0
  testFail : Nat := 0
  seen : Bool := false
  late : Bool := false
  frames : Nat := 0
  fallback : Bool := false
  silent : Bool := false
  deriving DecidableEq, Repr

/-- A receiver of frames (R257): whether it is in step, and its runs of frames that pass and that fail. -/
structure Receiver where
  inStep : Bool := false
  good : Nat := 0
  bad : Nat := 0
  deriving DecidableEq, Repr

/-- A drive tile: Power Stage Link and protection (chapter 11). Frame periods are numbered as in R255. `up` is the device's
receiver, `down` the endpoint's as its SEQ echoes show it, `upAt` the period of the last frame captured, `spoilt` the tempo in
which a flag last ended 16 frames without one. -/
structure Tile where
  prot : Prot := .disabled
  since : Tempo := 0
  goodUv : Nat := 0
  seq : Nat := 0
  lastPeriod : Option Nat := none
  sync : Bool := false
  up : Receiver := {}
  down : Receiver := {}
  upAt : Option Nat := none
  badRun : Nat := 0
  configured : Bool := false
  wasConfigured : Bool := false
  cfgQueue : List Nat := []
  cfgSent : List (Nat × Nat) := []
  cfgTries : Nat := 0
  epType : Nat := 2
  lastWord : Option Nat := none
  flags : Nat := 0
  cleanRun : Nat := 0
  spoilt : Option Tempo := none
  offok : Nat := 0
  gates : Nat := 0
  pump : Bool := false
  errors : Nat := 0
  lastEvent : Nat := 0
  tries : List Tempo := []
  switches : Map Switch := []
  cmdQueue : List (Nat × Nat) := []
  twoStepAt : Nat := 0
  retry : Bool := false
  faultAt : Tempo := 0
  lastCause : Nat := 0
  shortCause : Nat := 0
  shortAt : Option Tempo := none
  released : Bool := false
  disabling : Bool := false
  latchedOff : Bool := false
  slow : Option (List Bool) := none
  slowWord : Option (List Bool) := none
  badWord : Nat := 0
  encA : Bool := false
  encB : Bool := false
  encStarted : Bool := false
  encRunA : Nat := 0
  encRunB : Nat := 0
  encErrs : List Tempo := []
  xm : Int := 0
  vm : Int := 0
  xmHist : List Int := []
  resAngle : Option Nat := none
  resBad : Nat := 0
  resAge : Nat := 0
  indexSeen : Bool := false
  xmFrames : List Int := []
  sensorSince : Tempo := 0
  sinc : Map Sinc := []
  vbusSinc : Sinc := {}
  vbus : Nat := 0
  epTemp : Int := 0
  ident : Nat := 0
  outOn : Bool := false
  holdGates : Bool := false
  mod : Modulation := {}
  modNext : Modulation := {}
  modFrom : Tempo := 0
  diag : Option Diag := none
  thetaOff : Nat := 0
  aligning : Option Tempo := none
  overRun : Nat := 0
  runout : Option Tempo := none
  runoutDone : Bool := false
  derate : Nat := 65536
  deriving DecidableEq, Repr

/-- A DC bus (R281 to R283). `quiet` is the tempo since which V_b has stayed at or below BRAKE_ON, `told` that 0x0834 has been
raised since the chopper became unavailable. -/
structure Bus where
  vb : Nat := 0
  stage : Nat := 0
  chopping : Bool := false
  unavailable : Bool := false
  chopAt : Nat := 0
  quiet : Option Tempo := none
  above : Bool := false
  told : Bool := false
  deriving DecidableEq, Repr

/-- Profile states (Table 12-4). -/
inductive Prof where
  | idle | deferred | moving | atSpeed | stopping | geared | held | faulted
  deriving DecidableEq, Repr

/-- A motion profile (Table 12-3). `vel` marks a VELOCITY move; `dir` is the sign of its direction; `target` is in 2^-32 pu. -/
structure Move where
  vel : Bool := false
  dir : Int := 1
  vStart : Nat := 0
  vKnee : Nat := 0
  vMax : Nat := 0
  vStop : Nat := 0
  a1 : Nat := 0
  a2 : Nat := 0
  d2 : Nat := 0
  d1 : Nat := 0
  target : Int := 0
  deriving DecidableEq, Repr

/-- What a replacement move does before it travels (R293): nothing, slow to rest, or hold rest for one tick. -/
inductive Turn where
  | none | slow | rest
  deriving DecidableEq, Repr

/-- An axis (R287 to R311): profile state, x in 2^-32 pu, v (a magnitude) and a in 2^-32 pu/s and pu/s^2 with the direction
of travel, the running and the loaded profile, its tick grid, and what a hold interrupted. `regear` marks the move that
brings a geared axis back to its master (R311). -/
structure AxisSt where
  state : Prof := .idle
  x : Int := 0
  v : Int := 0
  a : Int := 0
  dir : Int := 1
  mv : Move := {}
  loaded : Option Move := none
  nextTick : Tempo := 0
  fresh : Bool := false
  turn : Turn := .none
  heldFrom : Prof := .idle
  heldStart : Bool := false
  regear : Bool := false
  sat : Bool := false
  satRun : Nat := 0
  freeRun : Nat := 0
  limited : Bool := false
  passed : Bool := false
  sHist : List Int := []
  deriving DecidableEq, Repr

/-- Polygon stages (Table 12-7), in the order of their codes. -/
inductive Poly where
  | off | align | blind | observer | sync | coast | catch | faulted
  deriving DecidableEq, Repr

/-- A POLY tile (R312 to R320): stage, its start profile, open-loop frequency and angle (frequency in 2^-32 of 1/65,536
cycle per s, angle in 2^-32 of 1/65,536 cycle), observer agreement, the commutation angle of the last sample, offset and slew, phase integrator, and ramp and measured
speed in 2^-32 pu/s. -/
structure PolySt where
  stage : Poly := .off
  start : Bytes := []
  entered : Tempo := 0
  freq : Nat := 0
  theta : Nat := 0
  agree : Nat := 0
  delta : Int := 0
  offset : Nat := 0
  thc : Nat := 0
  integ : Int := 0
  vRamp : Int := 0
  rampEnd : Option Tempo := none
  vMeas : Int := 0
  nf : Nat := 0
  facetB : Nat := 0
  facetP : Nat := 0
  syncFail : Bool := false
  stopping : Bool := false
  deriving DecidableEq, Repr

/-- A notch (R334): whether it was selected at the last speed sample, the fields its coefficients were computed from, and its
delay elements. -/
structure Notch where
  on : Bool := false
  f : Int := 0
  w : Int := 0
  d : Int := 0
  u1 : Int := 0
  u2 : Int := 0
  y1 : Int := 0
  y2 : Int := 0
  deriving DecidableEq, Repr

/-- The loops of one tile (R331, R334, R340): integrators, held outputs, notches, plausibility counts, the values of the last
sample, and what the ageing monitors of R388 collect. Currents are in 2^-16 cu (i1 to i3 in cu), voltages in 2^-16 mV and
speeds in 2^-32 pu/s. `ref` is what a lead hands its group (R339): of its last sample, of the one before, and that sample's
tempo. -/
structure Loop where
  ref : Int := 0
  refOld : Int := 0
  refAt : Tempo := 0
  iV : Int := 0
  iI : Int := 0
  xCorr : Int := 0
  r : Int := 0
  notch1 : Notch := {}
  notch2 : Notch := {}
  posCount : Nat := 0
  i : Int := 0
  iRef : Int := 0
  u : Int := 0
  eV : Int := 0
  i1 : Int := 0
  i2 : Int := 0
  i3 : Int := 0
  counts : Map Nat := []
  satRun : Nat := 0
  condU : Int := 0
  condI : Int := 0
  condN : Nat := 0
  fricSum : Nat := 0
  fricN : Nat := 0
  fricAt : Option Tempo := none
  fricPost : Option Tempo := none
  deriving DecidableEq, Repr

/-- A HEAT tile (R347 to R352): the resonance scan (65 points; `point` 65 when all are taken), zone readings in m degC with
what was wrong with the last ones, the reads of the round still out, and regulation: temperatures in 2^-16 degC, powers in
2^-16 W, frequencies in 2^-16 Hz. `waiting` marks an output enabled while the tile is outside RUN (R345). -/
structure Heat where
  scanning : Bool := false
  scanned : Bool := false
  waiting : Bool := false
  point : Nat := 0
  hold : Nat := 0
  best : Int := 0
  bestPoint : Nat := 0
  fRes : Nat := 0
  fPrev : Nat := 0
  temps : Map Int := []
  bad : Map Nat := []
  lastBad : Map Bool := []
  out : List Nat := []
  round : Option Tempo := none
  roundDone : Bool := false
  spEff : Int := 0
  iT : Int := 0
  iP : Int := 0
  pRef : Int := 0
  f : Int := 0
  tankRun : Nat := 0
  inWindow : Bool := false
  okSince : Option Tempo := none
  reportAt : Tempo := 0
  deriving DecidableEq, Repr

/-- One leg of an HV tile (R353 to R356): output units and duties in 2^-16, feedback in cu. -/
structure HvLeg where
  on : Bool := false
  spEff : Int := 0
  integ : Int := 0
  d : Int := 0
  y : Int := 0
  mPrev : Option Int := none
  arcs : List Tempo := []
  offUntil : Option Tempo := none
  heldOff : Bool := false
  satRun : Nat := 0
  inWindow : Bool := false
  okSince : Option Tempo := none
  deriving DecidableEq, Repr

/-- A tile group (R23 to R26). -/
structure Group where
  members : List Nat := []
  enabled : Bool := false
  degraded : Bool := false
  deriving DecidableEq, Repr

/-- Power stages, motion, loops and groups. Axes are keyed by object address; HV legs by 4 x tile + leg. -/
structure Drive where
  tiles : Map Tile := []
  buses : Map Bus := []
  groups : Map Group := []
  axes : Map AxisSt := []
  polys : Map PolySt := []
  loops : Map Loop := []
  heats : Map Heat := []
  legs : Map HvLeg := []
  leTap : Map (Int × Nat) := []
  deriving DecidableEq, Repr

/-- Rail states (Table 15-3), in the order of their codes. -/
inductive RailState where
  | unused | off | waiting | rising | up | falling | failed | blocked
  deriving DecidableEq, Repr

/-- A rail (R361 to R367): state, tempo of its last change, when it last left FALLING, whether its fall counts as TIME and the
VOUT_MODE read in this power-down (R366), its PMBus polls in the present state, and for a rail kept through Dormant whether its PG has been seen low (R371). -/
structure Rail where
  state : RailState := .off
  tempo : Tempo := 0
  fell : Option Tempo := none
  asTime : Bool := false
  polls : Nat := 0
  vmode : Option Nat := none
  kept : Bool := false
  low : Bool := false
  deriving DecidableEq, Repr

/-- The causes of a power-down (Table 15-4). -/
inductive DownCause where
  | sequence | dormant | dependant | pwrflt | ownRail
  deriving DecidableEq, Repr

/-- A power-down in progress (Table 15-4): its cause, its scope, until when it waits for SEQDN_IN, whom it answers, and the
rails of its scope whose fall timed out. -/
structure Down where
  cause : DownCause
  scope : List Nat
  wait : Option Tempo
  reply : Option Reply
  timed : List Nat := []
  deriving DecidableEq, Repr

/-- The rail sequencer (chapter 15). `up` is a running power-up (the reply, and the tempo until which it waits for
SEQUP_IN); `runoutDown` a POWER_DOWN that waits for run-out programs (R373). -/
structure Rails where
  rails : Map Rail := []
  up : Option Reply := none
  upWait : Option Tempo := none
  downs : List Down := []
  runoutDown : Bool := false
  deriving DecidableEq, Repr

/-- A thermal sensor (R375 to R378): readings in 1/8 degC. -/
structure Sensor where
  temp : Int := 0
  suspect : Bool := false
  run : Nat := 0
  rateRun : Nat := 0
  rate : Int := 0
  peak : Int := 0
  hist : List Int := []
  rateAt : Option Tempo := none
  deriving DecidableEq, Repr

/-- The thermal guard (R377 to R387): whether the maximum has stayed below 100 °C in every evaluation since the step changed
(`coolSince`), the last conversion in which it did not (`hot`), tempo throttled in this session (`slowTempo`), since when the
step has been below 100 %, the highest maximum and the trips; and the margin plan that runs (R390) with
its outputs; when the last conversion completed (`convAt`), and a plan whose write waits for its I2C controller (`due`, R422). -/
structure Therm where
  sensors : Map Sensor := []
  max : Int := 0
  maxSensor : Nat := 0
  state : Nat := 0
  step : Nat := 100
  stepAt : Option Tempo := none
  coolSince : Bool := true
  ratePend : Bool := false
  blind : Bool := false
  hot : Option Tempo := none
  slowTempo : Nat := 0
  slowSince : Option Tempo := none
  peakMax : Int := 0
  trips : Nat := 0
  plan : Option (Option Reply) := none
  convAt : Option Tempo := none
  due : Option PlanObs := none
  vcore : Nat := 760
  grade : Nat := 0
  deriving DecidableEq, Repr

/-- A merge-buffer entry (R396): a word address, the bytes held (mask and data), when it was allocated, and the store writes
(R172) whose bytes it holds. -/
structure Merge where
  word : Nat
  mask : Nat
  data : Nat
  since : Tempo
  seqs : List Nat
  deriving DecidableEq, Repr

/-- A memory instance (Tables 17-1 and 17-2): stored words of 64 data and 8 check bits by word address, whether the boot
ROM has zeroed it (R395), the merge buffer, registers and the running scrub. -/
structure Mem where
  words : Map (Option (Nat × Nat)) := []
  zeroed : Bool := false
  merge : List Merge := []
  test : Bool := false
  ceSeen : Bool := false
  ueSeen : Bool := false
  ceCount : Nat := 0
  ueCount : Nat := 0
  ceNew : Recent := {}
  ueNew : Recent := {}
  last : Nat := 0
  info : Nat := 0
  op : Nat := 0
  tAddr : Nat := 0
  tData : Nat := 0
  tCheck : Nat := 0
  tBit : Nat := 0
  tClass : Nat := 0
  done : Bool := false
  testBusy : Bool := false
  scrub : Option (Reply × Nat × Nat × Tempo) := none
  written : Bool := false
  ces : List Tempo := []
  deriving DecidableEq, Repr

/-- An SPI or I2C transfer that runs or waits (R422). -/
structure Xfer where
  reply : Reply
  target : Nat
  mode : Nat
  tx : Bytes
  rxLen : Nat
  on : Bool := false
  deriving DecidableEq, Repr

/-- What an SPI controller has to do (R422): a read of a zone in the round that began at a tempo (R349), or a transfer. -/
inductive SpiJob where
  | zone (tile zone : Nat) (round : Tempo)
  | xfer (x : Xfer)
  deriving DecidableEq, Repr

/-- The states of the test access port (IEEE 1149.1). (PRESUMED: assumption 45) -/
inductive TapState where
  | reset | idle
  | selectDr | captureDr | shiftDr | exit1Dr | pauseDr | exit2Dr | updateDr
  | selectIr | captureIr | shiftIr | exit1Ir | pauseIr | exit2Ir | updateIr
  deriving DecidableEq, Repr

/-- The instructions that a device sealed for production offers (R426). -/
inductive TapInstr where
  | bypass | idcode | sample | extest | clamp | highz
  deriving DecidableEq, Repr

/-- The test port (R426): its state, the instruction in force, the shift register of the path selected, the next bit out of it first,
and the update latches of the boundary cells. -/
structure Tap where
  state : TapState := .reset
  instr : TapInstr := .idcode
  shift : List Bool := []
  cells : List Bool := []
  deriving DecidableEq, Repr

/-- The SPI and I2C controllers: the transfers of each, the one that runs first. -/
structure Io where
  spi : Map (List SpiJob) := []
  i2c : Map (List Xfer) := []
  deriving DecidableEq, Repr

end Sys2Proof.Machine
end

