-- ==== Sys2Proof/Machine/State.lean ====
section
/-!
DEFINITION. The state of the device, as plain data: everything the manual gives it, the queue of commands that wait, and
two fields of the model's own (`free` and `out`). `State.reset` is the device after its main domain has come up in
Configure (Table 3-9: MODE reads 0x1), with the boot ROM initialising its memories (Table 3-11).
-/
namespace Sys2Proof.Machine

/-- Why a step stops with a fault. No step of this model does: the manual gives every row of its table an effect, and
each turn the manual leaves open is a free value, so no behaviour is left to stop on. (DEDUCED: assumption 6) -/
inductive Fault where
  deriving DecidableEq, Repr

/-- Why a step has no meaning. (DEDUCED: assumption 6) -/
inductive Refusal where
  /-- Raised by no arm of `exec`: every command has its meaning. It stands here for the host's interface. Safe. -/
  | notModelled (mnemonic : String)
  deriving DecidableEq, Repr

/-- What the device holds. -/
structure Base where
  /-- Variant, fuses and identifiers (R1, Table 3-4). -/
  die : Die := {}
  /-- MODEL'S OWN: how many free values the run has taken (assumption 4). -/
  free : Nat := 0
  /-- The commands that wait, first in, first out (assumption 2). -/
  pending : List Instr := []
  /-- The tempo counter (R8, R129). -/
  tempo : Tempo := 0
  /-- TEMPO_STATE.RUNNING (Table 3-12). -/
  running : Bool := false
  /-- TEMPO_STATE.FOLLOWER (Table 3-12). -/
  follower : Bool := false
  /-- Mode, boot, press description and watchdog (chapter 2). -/
  md : ModeSt := {}
  /-- The host link (chapter 3). -/
  host : HostLink := {}
  /-- Latched-fault records, oldest first (R428). -/
  faults : List FaultRec := []
  /-- FIRST_CODE and FIRST_TEMPO (Table 3-14). -/
  firstCode : Nat := 0
  firstTempo : Tempo := 0
  /-- FAULT_HW.THERM_TRIP and WATCHDOG (Table 3-14). -/
  thermTrip : Bool := false
  watchdog : Bool := false
  /-- Stored parameter values by parameter address (R79). -/
  params : Map Nat := []
  /-- Units out of service, by object address (R4). -/
  removed : Map Bool := []
  /-- Which spare (first) replaces which beam (second), by instance number (R208). -/
  promotions : List (Nat × Nat) := []
  /-- The NEW flag in place of an ageing baseline (R48, R389). -/
  ageNew : Bool := false
  aon : Aon := {}
  sheets : Seal := {}
  clk : Clk := {}
  store : Store := {}
  video : Video := {}
  drive : Drive := {}
  rails : Rails := {}
  therm : Therm := {}
  mems : Map Mem := []
  io : Io := {}
  /-- The test port (R426). -/
  jtag : Tap := {}
  /-- MODEL'S OWN: what the device has sent out of its package, oldest first (assumption 5). -/
  out : List Out := []
  deriving DecidableEq, Repr

/-- The state of the device: what it holds, and how far the tempo has come through its phases (R17): MODEL'S OWN `place`, the
place of the last act, and `snap`, what the device held at the end of phase 3, once phase 4 has begun (R106, assumption 7). -/
structure State extends Base where
  place : Nat := 0
  snap : Option Base := none
  deriving DecidableEq, Repr

/-- The device right after reset. (DESIGN CHOICE: assumption 3) -/
def State.reset : State := {}

end Sys2Proof.Machine
end

