-- ==== Sys2Proof/Machine/Access.lean ====
section
/-!
DEFINITION. Reading and writing one unit of the state: for each kind of unit `s.x k` is unit `k`, `s.setX k v` writes it
and `s.updX k f` changes it by a function. Nothing else reaches into the maps.
-/
namespace Sys2Proof.Machine

/-- Ring: a mailbox ring. -/
def State.ring (s : State) (k : Nat) : Ring := Map.get (fun k => { vec := 1 + k }) s.host.rings k
/-- Write a mailbox ring. -/
def State.setRing (s : State) (k : Nat) (v : Ring) : State :=
  { s with host := { s.host with rings := Map.put (fun k => { vec := 1 + k }) s.host.rings k v } }
/-- Change a mailbox ring. -/
def State.updRing (s : State) (k : Nat) (f : Ring → Ring) : State := s.setRing k (f (s.ring k))

/-- Pll: a PLL. -/
def State.pll (s : State) (k : Nat) : Pll := Map.get (fun _ => {}) s.clk.plls k
/-- Write a PLL. -/
def State.setPll (s : State) (k : Nat) (v : Pll) : State :=
  { s with clk := { s.clk with plls := Map.put (fun _ => {}) s.clk.plls k v } }
/-- Change a PLL. -/
def State.updPll (s : State) (k : Nat) (f : Pll → Pll) : State := s.setPll k (f (s.pll k))

/-- Gear: a gearing unit, by object address. -/
def State.gear (s : State) (k : Nat) : Gear := Map.get (fun _ => {}) s.clk.gears k
/-- Write a gearing unit, by object address. -/
def State.setGear (s : State) (k : Nat) (v : Gear) : State :=
  { s with clk := { s.clk with gears := Map.put (fun _ => {}) s.clk.gears k v } }
/-- Change a gearing unit, by object address. -/
def State.updGear (s : State) (k : Nat) (f : Gear → Gear) : State := s.setGear k (f (s.gear k))

/-- Enc: a master encoder. -/
def State.enc (s : State) (k : Nat) : Enc := Map.get (fun _ => {}) s.clk.encs k
/-- Write a master encoder. -/
def State.setEnc (s : State) (k : Nat) (v : Enc) : State :=
  { s with clk := { s.clk with encs := Map.put (fun _ => {}) s.clk.encs k v } }
/-- Change a master encoder. -/
def State.updEnc (s : State) (k : Nat) (f : Enc → Enc) : State := s.setEnc k (f (s.enc k))

/-- Gpio: a GPIO pin. -/
def State.gpio (s : State) (k : Nat) : Gpio := Map.get (fun _ => {}) s.clk.gpios k
/-- Write a GPIO pin. -/
def State.setGpio (s : State) (k : Nat) (v : Gpio) : State :=
  { s with clk := { s.clk with gpios := Map.put (fun _ => {}) s.clk.gpios k v } }
/-- Change a GPIO pin. -/
def State.updGpio (s : State) (k : Nat) (f : Gpio → Gpio) : State := s.setGpio k (f (s.gpio k))

/-- Castle: a castle slot. -/
def State.castle (s : State) (k : Nat) : Castle := Map.get (fun _ => {}) s.sheets.castles k
/-- Write a castle slot. -/
def State.setCastle (s : State) (k : Nat) (v : Castle) : State :=
  { s with sheets := { s.sheets with castles := Map.put (fun _ => {}) s.sheets.castles k v } }
/-- Change a castle slot. -/
def State.updCastle (s : State) (k : Nat) (f : Castle → Castle) : State := s.setCastle k (f (s.castle k))

/-- Ticket: a sheet ticket. -/
def State.ticket (s : State) (k : Nat) : Ticket := Map.get (fun _ => {}) s.sheets.tickets k
/-- Write a sheet ticket. -/
def State.setTicket (s : State) (k : Nat) (v : Ticket) : State :=
  { s with sheets := { s.sheets with tickets := Map.put (fun _ => {}) s.sheets.tickets k v } }
/-- Change a sheet ticket. -/
def State.updTicket (s : State) (k : Nat) (f : Ticket → Ticket) : State := s.setTicket k (f (s.ticket k))

/-- Page: a store page. -/
def State.page (s : State) (k : Nat) : Page := Map.get (fun _ => {}) s.store.pages k
/-- Write a store page. -/
def State.setPage (s : State) (k : Nat) (v : Page) : State :=
  { s with store := { s.store with pages := Map.put (fun _ => {}) s.store.pages k v } }
/-- Change a store page. -/
def State.updPage (s : State) (k : Nat) (f : Page → Page) : State := s.setPage k (f (s.page k))

/-- Dma: a DMA channel. -/
def State.dma (s : State) (k : Nat) : Dma := Map.get (fun _ => {}) s.store.dma k
/-- Write a DMA channel. -/
def State.setDma (s : State) (k : Nat) (v : Dma) : State :=
  { s with store := { s.store with dma := Map.put (fun _ => {}) s.store.dma k v } }
/-- Change a DMA channel. -/
def State.updDma (s : State) (k : Nat) (f : Dma → Dma) : State := s.setDma k (f (s.dma k))

/-- Station: a station. -/
def State.station (s : State) (k : Nat) : Station := Map.get (fun _ => {}) s.video.stations k
/-- Write a station. -/
def State.setStation (s : State) (k : Nat) (v : Station) : State :=
  { s with video := { s.video with stations := Map.put (fun _ => {}) s.video.stations k v } }
/-- Change a station. -/
def State.updStation (s : State) (k : Nat) (f : Station → Station) : State := s.setStation k (f (s.station k))

/-- Lane: a decompressor lane. -/
def State.lane (s : State) (k : Nat) : Lane := Map.get (fun _ => {}) s.video.lanes k
/-- Write a decompressor lane. -/
def State.setLane (s : State) (k : Nat) (v : Lane) : State :=
  { s with video := { s.video with lanes := Map.put (fun _ => {}) s.video.lanes k v } }
/-- Change a decompressor lane. -/
def State.updLane (s : State) (k : Nat) (f : Lane → Lane) : State := s.setLane k (f (s.lane k))

/-- Beam: a beam. -/
def State.beam (s : State) (k : Nat) : Beam := Map.get (fun _ => {}) s.video.beams k
/-- Write a beam. -/
def State.setBeam (s : State) (k : Nat) (v : Beam) : State :=
  { s with video := { s.video with beams := Map.put (fun _ => {}) s.video.beams k v } }
/-- Change a beam. -/
def State.updBeam (s : State) (k : Nat) (f : Beam → Beam) : State := s.setBeam k (f (s.beam k))

/-- Link: a Beam Link. -/
def State.link (s : State) (k : Nat) : Link := Map.get (fun _ => {}) s.video.links k
/-- Write a Beam Link. -/
def State.setLink (s : State) (k : Nat) (v : Link) : State :=
  { s with video := { s.video with links := Map.put (fun _ => {}) s.video.links k v } }
/-- Change a Beam Link. -/
def State.updLink (s : State) (k : Nat) (f : Link → Link) : State := s.setLink k (f (s.link k))

/-- Tile: a drive tile. -/
def State.tile (s : State) (k : Nat) : Tile := Map.get (fun _ => {}) s.drive.tiles k
/-- Write a drive tile. -/
def State.setTile (s : State) (k : Nat) (v : Tile) : State :=
  { s with drive := { s.drive with tiles := Map.put (fun _ => {}) s.drive.tiles k v } }
/-- Change a drive tile. -/
def State.updTile (s : State) (k : Nat) (f : Tile → Tile) : State := s.setTile k (f (s.tile k))

/-- Bus: a DC bus. -/
def State.bus (s : State) (k : Nat) : Bus := Map.get (fun _ => {}) s.drive.buses k
/-- Write a DC bus. -/
def State.setBus (s : State) (k : Nat) (v : Bus) : State :=
  { s with drive := { s.drive with buses := Map.put (fun _ => {}) s.drive.buses k v } }
/-- Change a DC bus. -/
def State.updBus (s : State) (k : Nat) (f : Bus → Bus) : State := s.setBus k (f (s.bus k))

/-- Group: a tile group. -/
def State.group (s : State) (k : Nat) : Group := Map.get (fun _ => {}) s.drive.groups k
/-- Write a tile group. -/
def State.setGroup (s : State) (k : Nat) (v : Group) : State :=
  { s with drive := { s.drive with groups := Map.put (fun _ => {}) s.drive.groups k v } }
/-- Change a tile group. -/
def State.updGroup (s : State) (k : Nat) (f : Group → Group) : State := s.setGroup k (f (s.group k))

/-- Axis: an axis, by object address. -/
def State.axis (s : State) (k : Nat) : AxisSt := Map.get (fun _ => {}) s.drive.axes k
/-- Write an axis, by object address. -/
def State.setAxis (s : State) (k : Nat) (v : AxisSt) : State :=
  { s with drive := { s.drive with axes := Map.put (fun _ => {}) s.drive.axes k v } }
/-- Change an axis, by object address. -/
def State.updAxis (s : State) (k : Nat) (f : AxisSt → AxisSt) : State := s.setAxis k (f (s.axis k))

/-- Poly: a POLY tile. -/
def State.poly (s : State) (k : Nat) : PolySt := Map.get (fun _ => {}) s.drive.polys k
/-- Write a POLY tile. -/
def State.setPoly (s : State) (k : Nat) (v : PolySt) : State :=
  { s with drive := { s.drive with polys := Map.put (fun _ => {}) s.drive.polys k v } }
/-- Change a POLY tile. -/
def State.updPoly (s : State) (k : Nat) (f : PolySt → PolySt) : State := s.setPoly k (f (s.poly k))

/-- Loop: the loops of a tile. -/
def State.loop (s : State) (k : Nat) : Loop := Map.get (fun _ => {}) s.drive.loops k
/-- Write the loops of a tile. -/
def State.setLoop (s : State) (k : Nat) (v : Loop) : State :=
  { s with drive := { s.drive with loops := Map.put (fun _ => {}) s.drive.loops k v } }
/-- Change the loops of a tile. -/
def State.updLoop (s : State) (k : Nat) (f : Loop → Loop) : State := s.setLoop k (f (s.loop k))

/-- Heat: a HEAT tile. -/
def State.heat (s : State) (k : Nat) : Heat := Map.get (fun _ => {}) s.drive.heats k
/-- Write a HEAT tile. -/
def State.setHeat (s : State) (k : Nat) (v : Heat) : State :=
  { s with drive := { s.drive with heats := Map.put (fun _ => {}) s.drive.heats k v } }
/-- Change a HEAT tile. -/
def State.updHeat (s : State) (k : Nat) (f : Heat → Heat) : State := s.setHeat k (f (s.heat k))

/-- Leg: an HV leg, by 4 x tile + leg. -/
def State.leg (s : State) (k : Nat) : HvLeg := Map.get (fun _ => {}) s.drive.legs k
/-- Write an HV leg, by 4 x tile + leg. -/
def State.setLeg (s : State) (k : Nat) (v : HvLeg) : State :=
  { s with drive := { s.drive with legs := Map.put (fun _ => {}) s.drive.legs k v } }
/-- Change an HV leg, by 4 x tile + leg. -/
def State.updLeg (s : State) (k : Nat) (f : HvLeg → HvLeg) : State := s.setLeg k (f (s.leg k))

/-- Rail: a rail. -/
def State.rail (s : State) (k : Nat) : Rail := Map.get (fun _ => {}) s.rails.rails k
/-- Write a rail. -/
def State.setRail (s : State) (k : Nat) (v : Rail) : State :=
  { s with rails := { s.rails with rails := Map.put (fun _ => {}) s.rails.rails k v } }
/-- Change a rail. -/
def State.updRail (s : State) (k : Nat) (f : Rail → Rail) : State := s.setRail k (f (s.rail k))

/-- Sensor: a thermal sensor. -/
def State.sensor (s : State) (k : Nat) : Sensor := Map.get (fun _ => {}) s.therm.sensors k
/-- Write a thermal sensor. -/
def State.setSensor (s : State) (k : Nat) (v : Sensor) : State :=
  { s with therm := { s.therm with sensors := Map.put (fun _ => {}) s.therm.sensors k v } }
/-- Change a thermal sensor. -/
def State.updSensor (s : State) (k : Nat) (f : Sensor → Sensor) : State := s.setSensor k (f (s.sensor k))

/-- A memory instance; instances 11 and 12 and the supervisor memories are zeroed by the boot ROM (R395). (DESIGN CHOICE: assumption 16) -/
def State.mem (s : State) (k : Nat) : Mem := Map.get (fun _ => {}) s.mems k
/-- Write a memory instance. -/
def State.setMem (s : State) (k : Nat) (v : Mem) : State := { s with mems := Map.put (fun _ => {}) s.mems k v }
/-- Change a memory instance. -/
def State.updMem (s : State) (k : Nat) (f : Mem → Mem) : State := s.setMem k (f (s.mem k))

/-- The stored value of a parameter (R79). -/
def State.param (s : State) (a : Nat) : Nat := Map.get paramReset s.params a
/-- Store a parameter value. -/
def State.setParam (s : State) (a v : Nat) : State := { s with params := Map.put paramReset s.params a v }
/-- A parameter by class, instance and PID. -/
def State.par (s : State) (c i p : Nat) : Nat := s.param (addr c i p)
/-- A signed parameter by class, instance and PID (R83). -/
def State.parI (s : State) (c i p : Nat) : Int := sext 64 (s.param (addr c i p))

/-- The active copy of a table (R88): empty stands for all zero. -/
def State.table (s : State) (id inst : Nat) : Bytes := Map.get (fun _ => []) s.sheets.active (id * 0x10000 + inst)
/-- Write the active copy of a table. -/
def State.setTable (s : State) (id inst : Nat) (b : Bytes) : State :=
  { s with sheets := { s.sheets with active := Map.put (fun _ => []) s.sheets.active (id * 0x10000 + inst) b } }
/-- The staging copy of a table id (R88). -/
def State.staging (s : State) (id : Nat) : Staging := Map.get (fun _ => {}) s.sheets.staging id
/-- Write the staging copy of a table id. -/
def State.setStaging (s : State) (id : Nat) (v : Staging) : State :=
  { s with sheets := { s.sheets with staging := Map.put (fun _ => {}) s.sheets.staging id v } }

end Sys2Proof.Machine
end

