-- ==== Sys2Proof/Machine/Ops.lean ====
section
/-!
DEFINITION. The operations that the meanings share: which units are there (R1 to R4), free values, groups (R23 to R26),
which objects take part in a sealed sheet (R119), latched faults and events (R67, R427, R428), spoils (R125), and what
leaves the package.
-/
namespace Sys2Proof.Machine

/-- A signed payload field in canonical form (R83). -/
def i64 (x : Int) : Nat := wrapBits 64 x

/-- A list without its repeats, in order of first occurrence. -/
def uniq (xs : List Nat) : List Nat := xs.foldl (fun a x => if a.contains x then a else a ++ [x]) []

/-! ### Units present and in service -/

/-- Stations of the die (Table 0-1). -/
def State.nSt (s : State) : Nat := if s.die.variant = 3 then 4 else if s.die.variant = 2 then 6 else 8

/-- The die provides the unit (R1). Only the classes of Table 3-7 differ between variants. -/
def State.present (s : State) (c i : Nat) : Bool :=
  if c = clsSTN ∨ c = clsLE then decide (i < s.nSt)
  else if c = clsBEAM then decide (i < 32 * s.nSt)
  else if c = clsVL ∨ c = clsDL then decide (i < 4 * s.nSt)
  else if c = clsDT then decide (i < 8 * s.nSt)
  else decide (i < classInstances c)

/-- The unit is present and has not been removed from service (R4). -/
def State.inService (s : State) (c i : Nat) : Bool :=
  s.present c i && !(Map.get (fun _ => false) s.removed (obj c i))

/-- DDR5 channels that the die provides (Table 0-1). -/
def State.nCh (s : State) : Nat := if s.die.variant = 3 then 1 else 2

/-- In-service instances of a class, in ascending order. -/
def State.units (s : State) (c : Nat) : List Nat :=
  (List.range (classInstances c)).filter (fun i => s.inService c i)

/-- An object address names a unit that is there: every event of any other is dropped (R3, R431). -/
def State.objHere (s : State) (o : Nat) : Bool := s.inService (aCls o) (aIdx o)

/-- The guard is in TRIPPED or CRITICAL: lanes, video fetch and compressor lane stand still (R384). -/
def State.tripped (s : State) : Bool := decide (3 ≤ s.therm.state)

/-- The Beam Links are blanked: by the laser interlock or by a trip (R227, R384). -/
def State.dark (s : State) : Bool := s.video.blanked || s.tripped

/-! ### Free values -/

/-- Take the next free value. (DESIGN CHOICE: assumption 4) -/
def State.fresh (s : State) : Nat × State := (Config.freeNat s.free, { s with free := s.free + 1 })

/-- An exact result held as a signed 64-bit number. The manual does not say what a sum outside that range leaves: a free value. (DESIGN CHOICE: assumption 4; DEDUCED: assumption 24) -/
def State.int64 (s : State) (x : Int) : Int × State :=
  if -(2 ^ 63) ≤ x ∧ x < 2 ^ 63 then (x, s) else (sext 64 s.fresh.1, s.fresh.2)

/-- `n` free bytes. (DESIGN CHOICE: assumption 4) -/
def State.freshBytes (s : State) (n : Nat) : Bytes × State :=
  ((List.range n).map (fun i => Config.freeByte (s.free + i)), { s with free := s.free + n })

/-! ### RC counters and W1C bits (R13) -/

/-- One more event in a tempo. -/
def Recent.add (r : Recent) (t : Tempo) : Recent := { at_ := some t, n := if r.at_ = some t then r.n + 1 else 1 }

/-- The events of a tempo. -/
def Recent.now (r : Recent) (t : Tempo) : Nat := if r.at_ = some t then r.n else 0

/-! ### What leaves the package -/

/-- Send something out of the package. (DESIGN CHOICE: assumption 5) -/
def State.emit (s : State) (o : Out) : State := { s with out := s.out ++ [o] }

/-- A register or BAR access reaches the device only over a link that is up (R41, R49), and not in D3hot. (DEDUCED: assumption 15; PRESUMED: assumption 43) -/
def HostLink.reachable (h : HostLink) : Bool := h.linkUp && !h.cfg.d3

/-- An access of BAR0, BAR2 or BAR4. -/
def State.access (s : State) (f : State → State) : State := if s.host.reachable then f s else s

/-- A word of the MSI-X table (Table 3-2): entry `w / 4`; word 3 of an entry is its vector control, with the mask in bit 0. -/
def State.msixWord (s : State) (w : Nat) : Nat := Map.get (fun k => if k % 4 = 3 then 1 else 0) s.host.msix w

/-- A vector may be sent: MSI-X is enabled, neither the function nor the vector is masked, and the link carries it. -/
def State.mayVector (s : State) (v : Nat) : Bool :=
  s.host.msixEn && !s.host.cfg.fnMask && !bit (s.msixWord (4 * v + 3)) 0 && s.host.reachable

/-- Signal an MSI-X vector (R68): sent when MSI-X is enabled and the vector is unmasked, else its PBA bit is set. -/
def State.signal (s : State) (v : Nat) : State :=
  if s.mayVector v then s.emit (.msix v)
  else { s with host := { s.host with pba := Nat.lor s.host.pba (2 ^ v) } }

/-! ### Groups -/

/-- The tiles and groups below an object, itself included, to a depth of `n` groups. -/
def State.below (s : State) : Nat → Nat → List Nat
  | 0, o => [o]
  | n + 1, o => if aCls o = clsGRP then o :: (s.group (aIdx o)).members.flatMap (s.below n) else [o]

/-- An object with everything below it (R119: at every depth). No chain of groups is longer than the 128 groups. -/
def State.span (s : State) (o : Nat) : List Nat := s.below 128 o

/-- The tiles at the bottom of an object, in service or not. -/
def State.tilesOf (s : State) (o : Nat) : List Nat := (s.span o).filter (fun x => aCls x == clsDT) |>.map aIdx

/-- The group that an object is a direct member of. -/
def State.parent (s : State) (o : Nat) : Option Nat :=
  (s.drive.groups.find? (fun e => e.2.members.contains o)).map (fun e => obj clsGRP e.1)

/-- The groups that contain an object, innermost first. -/
def State.parents (s : State) : Nat → Nat → List Nat
  | 0, _ => []
  | n + 1, o => match s.parent o with
    | none => []
    | some g => g :: s.parents n g

/-- The outermost enabled group that contains an object (R25). -/
def State.outer (s : State) (o : Nat) : Option Nat :=
  ((s.parents 128 o).filter (fun g => (s.group (aIdx g)).enabled)).getLast?

/-- The tile mode of dt.mode (Table 4-4). -/
def State.tMode (s : State) (k : Nat) : Nat := s.par clsDT k 0x000

/-! ### Sealed sheets -/

/-- The tickets that are SEALED or RUNNING, in ascending number. -/
def State.sealedTks (s : State) : List Nat :=
  (s.sheets.tickets.filter (fun e => e.2.state == 3 || e.2.state == 4)).map (fun e => e.1)

/-- Some sheet is sealed. -/
def State.anySealed (s : State) : Bool := !s.sealedTks.isEmpty

/-- The tickets that are ARMED, in ascending number. -/
def State.armedTks (s : State) : List Nat :=
  (s.sheets.tickets.filter (fun e => e.2.state == 2)).map (fun e => e.1)

/-- The object participates in a sealed sheet (R119). -/
def State.participates (s : State) (o : Nat) : Bool :=
  s.sealedTks.any (fun k => (s.ticket k).held.contains o)

/-- The actions of a ticket. -/
def Ticket.actions (t : Ticket) : List Action := t.entries.flatMap (fun e => e.actions)

/-- Stations that an IMAGE_START of the ticket targets: its imaging stations (R118). -/
def Ticket.imaging (t : Ticket) : List Nat :=
  uniq ((t.actions.filter (fun a => a.kind == 5)).map (fun a => aIdx a.target))

/-- The objects of an imaging station (R119): itself, its beams, and the VL and DL units of its ranks. -/
def stationObjs (n : Nat) : List Nat :=
  obj clsSTN n :: ((List.range 32).map (fun b => obj clsBEAM (32 * n + b))
    ++ (List.range 4).map (fun r => obj clsVL (4 * n + r)) ++ (List.range 4).map (fun r => obj clsDL (4 * n + r)))

/-- The participating objects of a ticket (R119). -/
def State.holds (s : State) (t : Ticket) : List Nat :=
  uniq (((t.actions.map (fun a => aObj a.target)).filter (fun o => aCls o != clsDEV)).flatMap s.span
    ++ t.imaging.flatMap stationObjs
    ++ (if 1 ≤ t.basis then [obj clsME (t.basis - 1)] else [])
    ++ t.extra.flatMap (fun p => s.span p.obj))

/-! ### Latched faults and events -/

/-- A fault of this code is latched on this object. -/
def State.latched (s : State) (code o : Nat) : Bool := s.faults.any (fun f => f.code == code && f.obj == o)

/-- Some fault is latched on the object itself (R428). -/
def State.faultOn (s : State) (o : Nat) : Bool := s.faults.any (fun f => f.obj == o)

/-- The object, or for a group any member at any depth, has a latched fault (R24, R105). -/
def State.anyFault (s : State) (o : Nat) : Bool := (s.span o).any s.faultOn

/-- Record a fault of a sealed sheet (Table 5-12: FIRST_FAULT and FAULT_COUNT). (DEDUCED: assumption 22) -/
def Ticket.faulted (t : Ticket) (code : Nat) : Ticket :=
  { t with firstFault := if t.faultCount = 0 then code else t.firstFault, faultCount := satAdd 16 t.faultCount 1 }

/-- Latch a fault unless it is latched already (R428), with FIRST_CODE and FIRST_TEMPO (Table 3-14). -/
def State.latchNew (s : State) (code o : Nat) : State :=
  if s.latched code o then s
  else
    let first := s.faults.isEmpty
    let s1 : State := { s with
      faults := s.faults ++ [{ code := code, obj := o, tempo := s.tempo }]
      firstCode := if first then code else s.firstCode
      firstTempo := if first then s.tempo else s.firstTempo }
    (s1.sealedTks.filter (fun k => (s1.ticket k).held.contains o)).foldl
      (fun u k => u.updTicket k (fun t => t.faulted code)) s1

/-- Remove a fault record; FIRST_CODE and FIRST_TEMPO return to 0 with the last one (Table 3-14). -/
def State.unlatch (s : State) (code o : Nat) : State :=
  let fs := s.faults.filter (fun f => !(f.code == code && f.obj == o))
  { s with
    faults := fs
    firstCode := if fs.isEmpty then 0 else s.firstCode
    firstTempo := if fs.isEmpty then 0 else s.firstTempo }

/-- An event to raise: its code, source, payload fields, the objects it latches a fault on, and whether it affects a
sealed sheet by more than such a latch. -/
structure Ev where
  code : Nat
  obj : Nat := objDEV
  fields : List Nat := []
  latch : List Nat := []
  sheet : Bool := false
  count : Nat := 1

/-- Put an event at its place in a backlog: tempo order, and ascending code within a tempo (R65). (DESIGN CHOICE: assumption 8) -/
def insertEv (e : EvMsg) : List EvMsg → List EvMsg
  | [] => [e]
  | x :: xs => if e.tempo < x.tempo ∨ (e.tempo = x.tempo ∧ e.code < x.code) then e :: x :: xs else x :: insertEv e xs

/-- Queue an event, or count it as discarded when the 512 entries are full (R67). -/
def State.queueEv (s : State) (e : EvMsg) : State :=
  if s.host.backlog.length < 512 then { s with host := { s.host with backlog := insertEv e s.host.backlog } }
  else { s with host := { s.host with
    lostCount := s.host.lostCount + 1
    lostTempo := if s.host.lostCount = 0 then e.tempo else s.host.lostTempo } }

/-- Raise an event (R427, R428, R431). (DESIGN CHOICE: assumption 8) -/
def State.raise (s : State) (e : Ev) : State :=
  if s.objHere e.obj then
    let new := e.latch.filter (fun o => s.objHere o && !s.latched e.code o)
    let onSheet := e.sheet || new.any s.participates
    (new.foldl (fun u o => u.latchNew e.code o) s).queueEv
      { code := e.code, obj := e.obj, tempo := s.tempo, count := e.count, latched := !new.isEmpty, sheet := onSheet,
        fields := e.fields.map (fun x => x % 2 ^ 64) }
  else s

/-- Raise a rate-limited event: posted on its first occurrence and then at the first occurrence after each period, with the
payload of the first occurrence it stands for and their number, as COUNT and, where the event's payload has a count, as
that field too. `sub` tells apart sources that share an object address. (DEDUCED: assumption 14) -/
def State.raiseLimited (s : State) (e : Ev) (period : Nat) (sub : Nat := 0) (countField : Bool := false) : State :=
  if s.objHere e.obj then
    let k := e.code * 2 ^ 32 + e.obj + sub
    let r := Map.get (fun _ => ({} : Rate)) s.host.rates k
    let due := match r.last with
      | none => true
      | some t => decide (t + period ≤ s.tempo)
    let set := fun (v : Rate) => { s with host := { s.host with rates := Map.put (fun _ => {}) s.host.rates k v } }
    let fs := if r.count = 0 then e.fields else r.first
    if due then
      (set ⟨some s.tempo, 0, []⟩).raise
        { e with count := r.count + 1, fields := if countField then fs ++ [r.count + 1] else fs }
    else set ⟨r.last, r.count + 1, fs⟩
  else s

/-! ### Spoils (R125) -/

/-- Spoil a station of a sealed sheet: the first spoil sets the cause and raises 0x0220. -/
def State.spoil (s : State) (tk st cause line : Nat) : State :=
  let t := s.ticket tk
  if t.state ≠ 3 ∧ t.state ≠ 4 then s
  else if bit t.spoil st then s
  else
    (s.setTicket tk { t with
      spoil := Nat.lor t.spoil (2 ^ st), causes := Map.put (fun _ => 0) t.causes st cause }).raise
      { code := 0x0220, obj := obj clsSTN st, sheet := true
        fields := [obj clsTK tk, obj clsSTN st, cause, line] }

/-- Count lines of a station sent blank or clocked from the coasting model (Table 5-12: BLANK). -/
def State.addBlank (s : State) (tk st n : Nat) : State :=
  s.updTicket tk (fun t => { t with blank := Map.upd (fun _ => 0) t.blank st (fun x => (x + n) % 2 ^ 32) })

/-- The line number of a spoil that concerns no particular line (R125). -/
abbrev noLine : Nat := 0xffffffffffffffff

/-! ### Ledger and PWRFLT_N -/

/-- The device holds PWRFLT_N low while it has a cause (R373): pairs of event code and object. -/
def State.assertPwrflt (s : State) (code o : Nat) : State :=
  if s.aon.pwrflt.contains (code, o) then s else { s with aon := { s.aon with pwrflt := s.aon.pwrflt ++ [(code, o)] } }

/-- A cause of PWRFLT_N ends. -/
def State.dropPwrflt (s : State) (code o : Nat) : State :=
  { s with aon := { s.aon with pwrflt := s.aon.pwrflt.filter (fun e => e != (code, o)) } }

end Sys2Proof.Machine
end

