-- ==== Sys2Proof/Machine/Phase.lean ====
section
/-!
DEFINITION. The phases of a tempo (R17, Table 1-2), the order of the acts of phase 4 (R109), and the passing of a tempo. A row
that the manual places in a phase enters it before it acts: where the tempo has gone past that place, the row is one of the
next tempo.
-/
namespace Sys2Proof.Machine

/-- A place in a tempo: the phase, a rank in it, and up to three numbers that order the acts of one rank. -/
def placeOf (phase rank : Nat) (a b c : Nat := 0) : Nat :=
  (((phase * 8 + rank) * 2 ^ 64 + a % 2 ^ 64) * 2 ^ 8 + b % 2 ^ 8) * 2 ^ 10 + c % 2 ^ 10

/-- PSL down frames leave with what the tempo before left (R18, R258); then the phases of Table 1-2, with the Beam Link frames after
the lines that the events of phase 3 start. (DEDUCED: assumption 7) -/
abbrev inFrames : Nat := placeOf 0 0
abbrev inCapture : Nat := placeOf 1 0
abbrev inProtect : Nat := placeOf 2 0
abbrev inEvents : Nat := placeOf 3 0
abbrev inLinks : Nat := placeOf 3 1
abbrev inTimeouts : Nat := placeOf 5 0

/-- Direct writes and commands, and an accepted MODE_SET (R109, steps 1 and 2). (DEDUCED: assumption 7) -/
abbrev inDirect : Nat := placeOf 4 0
abbrev inModeSet : Nat := placeOf 4 1

/-- Slot castles, timeline castles and seal evaluations, each in its order, and flag falls (R109). -/
def inSlot (slot : Nat) : Nat := placeOf 4 2 0 0 slot
def inTimeline (sealTempo tk entry : Nat) : Nat := placeOf 4 3 sealTempo tk entry
def inSeal (tk : Nat) : Nat := placeOf 4 4 0 0 tk
def inFall (tk : Nat) : Nat := placeOf 5 1 0 0 tk

/-- An armed slot's position trigger has been reached by the position captured (R104). -/
def Castle.notePos (c : Castle) (now : Tempo) (pos : Nat → Int) : Castle :=
  if c.state = 2 ∧ c.basis ≠ 0 ∧ c.reachedAt = none ∧ c.trigger ≤ pos (c.basis - 1) then { c with reachedAt := some now } else c

/-- The same of a ticket's seal point and of its BASE entries (R114, R122). -/
def Ticket.notePos (t : Ticket) (now : Tempo) (pos : Nat → Int) : Ticket :=
  if 2 ≤ t.state ∧ t.basis ≠ 0 then
    let x := pos (t.basis - 1)
    { t with
      opened := if t.opened = none ∧ t.feed + t.sealOff ≤ x then some now else t.opened
      entries := t.entries.map (fun e =>
        if !e.afterFeed && e.reachedAt.isNone && decide (t.feed + e.offset ≤ x) then { e with reachedAt := some now } else e) }
  else t

/-- Note which position triggers the positions captured in this tempo reach for the first time. -/
def State.notePos (s : State) : State :=
  let pos := fun me => (s.enc me).pos
  { s with sheets := { s.sheets with
    castles := s.sheets.castles.map (fun e => (e.1, e.2.notePos s.tempo pos))
    tickets := s.sheets.tickets.map (fun e => (e.1, e.2.notePos s.tempo pos)) } }

/-- Phase 3 ends: what the device then holds is what preconditions are judged on (R106). -/
def State.endEvents (s : State) : State :=
  if s.snap.isSome then s else { s.notePos with snap := some s.notePos.toBase }

/-- The state that preconditions are judged on: the end of phase 3 of the tempo (R106). -/
def State.judged (s : State) : State := match s.snap with
  | some b => { toBase := b }
  | none => s

/-- The strip that a lane works on. -/
def State.laneStrip (s : State) (l : Nat) : Option QStrip :=
  let t := s.station (l / 4)
  let x := s.lane l
  if x.strip < t.qBase then none else t.queue[x.strip - t.qBase]?

/-- The lane's fetcher has something to ask for, and room for it: its lane queue takes the input of one sub-stream (R180). -/
def State.laneWants (s : State) (l : Nat) : Bool :=
  (s.laneStrip l).isSome && s.inService clsDL l && !s.tripped && !(s.lane l).granted && !(s.lane l).fetched

/-- Note since when a lane's fetcher has asked without a break. -/
def State.noteLane (s : State) (l : Nat) : State :=
  let x := s.lane l
  if s.laneWants l then (if x.since.isNone then s.setLane l { x with since := some s.tempo } else s)
  else if x.since.isSome && !x.granted then s.setLane l { x with since := none } else s

/-- Note which fetch requests became eligible in this tempo (R180). -/
def State.noteLanes (s : State) : State := (List.range 32).foldl (fun u l => u.noteLane l) s

/-- One tempo passes: the counter counts while it runs (R8, R129). (DESIGN CHOICE: assumption 2) -/
def State.tick (s : State) : State :=
  if s.running then { s.endEvents.noteLanes with tempo := (s.tempo + 1) % 2 ^ 64, place := 0, snap := none } else s

/-- Come to a place in the tempo, or in the next tempo where this one has gone past it (R17). (DEDUCED: assumption 7) -/
def State.enter (s : State) (p : Nat) : State :=
  if s.running then
    let s1 := if p < s.place then s.tick else s
    { (if inDirect ≤ p then s1.endEvents else s1) with place := p }
  else s

end Sys2Proof.Machine
end

