-- ==== Sys2Proof/Machine/Operands.lean ====
section
/-!
DEFINITION. What every Atotte command shares: the fields of ARG and payload (R73), the statuses of Table 4-17 with the
order of R75, the checks on modes, addresses and objects (R79, R81, R89), and the response (R72, R74, R76).
-/
namespace Sys2Proof.Machine

/-! ### Status codes (Table 4-17) -/

abbrev stOK : Nat := 0x0000
abbrev stACCEPTED : Nat := 0x0001
abbrev stMALFORMED : Nat := 0x0010
abbrev stUNKNOWN_OPCODE : Nat := 0x0011
abbrev stBAD_ARG : Nat := 0x0012
abbrev stRESERVED_VALUE : Nat := 0x0013
abbrev stBAD_VALUE : Nat := 0x0014
abbrev stUNKNOWN_ADDRESS : Nat := 0x0020
abbrev stNOT_PRESENT : Nat := 0x0021
abbrev stUNSUPPORTED : Nat := 0x0022
abbrev stREAD_ONLY : Nat := 0x0023
abbrev stWRONG_MODE : Nat := 0x0030
abbrev stBUSY : Nat := 0x0031
abbrev stMISSING_DATA : Nat := 0x0032
abbrev stWRONG_STATE : Nat := 0x0033
abbrev stDESC_INVALID : Nat := 0x0034
abbrev stTIMEOUT : Nat := 0x0035
abbrev stCRC_MISMATCH : Nat := 0x0036
abbrev stSHEET_LOCKED : Nat := 0x0040
abbrev stCONFLICT : Nat := 0x0041
abbrev stNO_RESOURCE : Nat := 0x0042
abbrev stTOO_LATE : Nat := 0x0043
abbrev stNOT_IN_CASTLE : Nat := 0x0044
abbrev stGROUP_RULE : Nat := 0x0050
abbrev stGROUP_ENABLED : Nat := 0x0051
abbrev stGROUP_MEMBER : Nat := 0x0052
abbrev stFAULT_LATCHED : Nat := 0x0060
abbrev stINTERLOCK_OPEN : Nat := 0x0061
abbrev stBUS_NACK : Nat := 0x0062

/-- INDEX of a status that concerns no list item (Table 4-2). -/
abbrev noIndex : Nat := 0xffff

/-- The statuses in the order of R75, each line's first status first. (DEDUCED: assumption 10) -/
def statusOrder : List Nat :=
  [stMALFORMED, stUNKNOWN_OPCODE, stBAD_ARG, stWRONG_MODE, stBUSY, stUNKNOWN_ADDRESS, stNOT_PRESENT, stUNSUPPORTED,
   stREAD_ONLY, stNOT_IN_CASTLE, stBAD_VALUE, stRESERVED_VALUE, stMISSING_DATA, stWRONG_STATE, stGROUP_RULE,
   stGROUP_ENABLED, stGROUP_MEMBER, stINTERLOCK_OPEN, stSHEET_LOCKED, stFAULT_LATCHED, stCRC_MISMATCH, stDESC_INVALID,
   stCONFLICT, stNO_RESOURCE, stTOO_LATE]

/-- A refusal that applies: its status, the list item it concerns, and the data that goes with it. -/
structure Ref where
  code : Nat
  index : Nat := noIndex
  data : Bytes := []
  deriving DecidableEq, Repr

/-- A refusal that applies when a check fails. -/
def refuse (fails : Bool) (code : Nat) (index : Nat := noIndex) : List Ref := if fails then [{ code, index }] else []

/-- The refusal reported (R75): the first status of the order that applies, and of that the first in list order. (DEDUCED: assumption 10) -/
def firstRef (rs : List Ref) : Option Ref :=
  statusOrder.findSome? (fun c => rs.find? (fun r => r.code == c))

/-- The refusals of list records, each with its position as INDEX. -/
def refuseEach {α : Type} (xs : List α) (f : Nat → α → List Nat) : List Ref :=
  xs.zipIdx.flatMap (fun e => (f e.2 e.1).map (fun c => { code := c, index := e.2 }))

end Sys2Proof.Machine

namespace Sys2Proof
open Sys2Proof.Machine

/-! ### Fields of a message -/

/-- `n` bytes of ARG from header byte `b` (8 to 15), little-endian. -/
def Msg.argN (m : Msg) (b n : Nat) : Nat := field m.arg.toNat (8 * (b - 8)) (8 * n)

/-- A set bit in a reserved ARG field (R73); the mask has bit 0 for bit 0 of header byte 8. (DEDUCED: assumption 10) -/
def Msg.argRes (m : Msg) (mask : Nat) : List Ref := refuse (Nat.land m.arg.toNat mask != 0) stBAD_ARG

/-- PLEN must be what the command requires (R73). -/
def Msg.plen (m : Msg) (n : Nat) : List Ref := refuse (m.payload.length != n) stMALFORMED

/-- A little-endian field of the payload. -/
def Msg.pay (m : Msg) (off n : Nat) : Nat := leAt m.payload off n

/-- CHECK_ONLY (Table 4-1). -/
def Msg.checkOnly (m : Msg) : Bool := bit m.flags.toNat 1

end Sys2Proof

namespace Sys2Proof.Machine

/-- The payload cut into records of `w` bytes. -/
def records (w : Nat) (p : Bytes) : List Bytes := (List.range (p.length / w)).map (fun i => bytesAt p (w * i) w)

/-! ### Checks -/

/-- The modes in which a command is accepted (R89). -/
def State.inModes (s : State) (ms : List Mode) : List Ref := refuse (!ms.contains s.md.mode) stWRONG_MODE

/-- The status of an object address under R79 and R81. -/
def State.addrStatus (s : State) (a : Nat) : List Nat :=
  if classInstances (aCls a) = 0 ∨ classInstances (aCls a) ≤ aIdx a then [stUNKNOWN_ADDRESS]
  else if s.inService (aCls a) (aIdx a) then [] else [stNOT_PRESENT]

/-- The status of a parameter address under R81. (DEDUCED: assumption 12) -/
def State.paramStatus (s : State) (a : Nat) : List Nat :=
  match findFamily (aCls a) (aPid a) with
  | none => [stUNKNOWN_ADDRESS]
  | some _ => s.addrStatus a

/-- A command's object argument: PID 0 (R79), a class that the command takes, defined and in service (R81). An undefined class
is an unknown address. -/
def State.objRefs (s : State) (o : Nat) (classes : List Nat) : List Ref :=
  refuse (aPid o != 0) stBAD_ARG ++ refuse (classInstances (aCls o) != 0 && !classes.contains (aCls o)) stBAD_ARG
    ++ (s.addrStatus o).map (fun c => { code := c })

/-! ### Responses -/

/-- Where the response of a command goes. -/
def State.replyOf (s : State) (op : Nat) (m : Msg) : Reply :=
  { ring := m.ring, opcode := op, tag := m.tag.toNat, quiet := bit m.flags.toNat 0
    epoch := match (s.ring m.ring).taken with
      | some t => if t.opcode = op ∧ t.msg = m then t.epoch else (s.ring m.ring).epoch
      | none => (s.ring m.ring).epoch }

/-- The response message (R74). -/
def Reply.msg (r : Reply) (code index : Nat) (data : Bytes) (t : Tempo) : OutMsg :=
  { opcode := r.opcode, tag := r.tag, code := code, tempo := t
    payload := toLE 2 data.length ++ toLE 2 index ++ data }

/-- Answer a command: its response waits for the response queue, unless it is quiet (Table 4-1) or its ring has been
disabled since (R60, R70). The ring's next command may start once its own command has been answered (R65). -/
def State.post (s : State) (r : Reply) (code : Nat) (index : Nat := noIndex) (data : Bytes := []) : State :=
  let g := s.ring r.ring
  let silent := !g.en || g.epoch != r.epoch || (r.quiet && code == stOK && data.isEmpty)
  s.setRing r.ring { g with
    taken := match g.taken with
      | some t => if t.epoch = r.epoch then none else some t
      | none => none
    waiting := if silent then g.waiting else g.waiting ++ [r.msg code index data s.tempo] }

/-- Answer OK, with result data if there is any. -/
def State.ok (s : State) (r : Reply) (data : Bytes := []) : State := s.post r stOK noIndex data

/-- Answer ACCEPTED: the effect goes on, and an event reports its end (R76). (DEDUCED: assumption 9) -/
def State.accepted (s : State) (r : Reply) : State := s.post r stACCEPTED

/-- A W command runs on: it holds back the later commands of its ring (R76). -/
def State.hold (s : State) (op : Nat) (m : Msg) : State :=
  s.updRing m.ring (fun g => { g with
    taken := some { opcode := op, msg := m, epoch := (s.replyOf op m).epoch, begun := true } })

/-- Firmware runs, and the message is the one that it has taken from its ring and not yet begun (R64, R65). -/
def State.takes (s : State) (op : Nat) (m : Msg) : Bool :=
  s.md.boot == .running && (match (s.ring m.ring).taken with
    | some t => t.opcode == op && t.msg == m && !t.begun
    | none => false)

/-- The frame of every Atotte command: firmware has taken the message; the first refusal of R75 is answered; CHECK_ONLY answers OK
without effect; otherwise the effect runs, and answers by itself. (DEDUCED: assumption 9) -/
def State.command (s : State) (op : Nat) (m : Msg) (refs : List Ref) (effect : Reply → State → State) : State :=
  if s.takes op m then
    let r := s.replyOf op m
    match firstRef refs with
    | some x => s.post r x.code x.index x.data
    | none => if m.checkOnly then s.ok r else effect r s
  else s

/-- All modes in which firmware runs, and the lists of the group tables. -/
abbrev modesCfSb : List Mode := [.configure, .standby]
abbrev modesCfSbSh : List Mode := [.configure, .standby, .safeHold]

end Sys2Proof.Machine
end

