-- ==== Sys2Proof/Machine/Ageing.lean ====
section
/-!
DEFINITION. The AGEING table (R388, R389, Table 16-6).
-/
namespace Sys2Proof.Machine

/-- The active AGEING table. -/
def State.ageing (s : State) : Bytes := bytesAt (s.table 0x09 0) 0 5120

/-- A field of it. -/
def State.ageField (s : State) (off n : Nat) : Nat := leAt (s.table 0x09 0) off n

/-- Write a field of it. -/
def State.setAgeField (s : State) (off n v : Nat) : State := s.setTable 0x09 0 (pokeBytes s.ageing off (toLE n v))

/-- Store a measured value as LAST of the entry at an offset, and as BASE when that is 0 (R388). -/
def State.age (s : State) (off v : Nat) : State :=
  let s1 := if s.ageField off 4 = 0 then s.setAgeField off 4 v else s
  s1.setAgeField (off + 4) 4 v

/-- Offsets of the entries of Table 16-6. -/
abbrev ageRO (i : Nat) : Nat := 0x040 + 8 * i
abbrev ageBeam (i : Nat) : Nat := 0x0c0 + 8 * i
abbrev ageTile (i : Nat) : Nat := 0x8c0 + 8 * i
abbrev agePoly (i : Nat) : Nat := 0xac0 + 8 * i
abbrev ageHeat (i : Nat) : Nat := 0xcc0 + 8 * i
abbrev ageSession (i : Nat) : Nat := 0xec0 + 32 * i

end Sys2Proof.Machine
end

