-- ==== Sys2Proof/Machine/Clock.lean ====
section
/-!
DEFINITION. Tempo, encoders, gearing and TSYNC (chapter 6). The PLL rows stand in Machine/Pll.lean, which needs the stations
and links.
-/
namespace Sys2Proof.Machine

/-! ### Gearing (R155, R156) -/

/-- One count through the ratio in force: the division rounds towards minus infinity (R155). -/
def Gear.count (g : Gear) (delta : Int) : Gear :=
  let acc : Int := (g.r : Int) + g.n * delta
  { g with s := g.s + acc / (g.d : Int), r := (acc % (g.d : Int)).toNat }

/-- A count of the master, with S held in its 64 bits. -/
def State.geared (s : State) (g : Gear) (delta : Int) : Gear × State :=
  let x := s.int64 (g.count delta).s
  ({ g.count delta with s := x.1 }, x.2)

/-- Apply the pending ratio (R156): the remainder is rescaled; a slave that had none follows from the S it held. -/
def Gear.switchTo (g : Gear) (p : GearPend) : Gear :=
  if p.master = 0 then { s := g.s }
  else { master := p.master, n := p.n, d := p.d, s := g.s, r := if g.d = 0 then 0 else g.r * p.d / g.d, pend := none }

/-- The master whose position a pending ratio waits for: its own, or for a disengagement the one in force. -/
def Gear.waitsFor (g : Gear) : Nat := match g.pend with
  | none => 0
  | some p => if p.master = 0 then g.master else p.master

/-- 2^32: positions are carried to 2^-32 pu and speeds to 2^-32 pu/s (R288). -/
abbrev q32 : Int := 4294967296

/-- What a gear switch does to an axis (R296): an engage ends any profile and follows S from x; a disengage stops from the
geared speed. Stations have no axis. -/
def State.axisGear (s : State) (o : Nat) (engage : Bool) : State :=
  if aCls o = clsSTN then s
  else s.updAxis o (fun a =>
    let goal := if engage then Prof.geared else .stopping
    match a.state with
    | .faulted => a
    | .held => { a with heldFrom := goal, loaded := none, regear := false }
    | _ => { a with state := goal, loaded := none, regear := false, sHist := [], turn := .none })

/-- The slave position that a switch starts from: S for a station and for a slave that follows already, and x for an axis
that has no gear engaged (R287). (DEDUCED: assumption 24) -/
def State.gearStart (s : State) (o : Nat) (g : Gear) : Gear :=
  if g.master = 0 ∧ aCls o ≠ clsSTN then { g with s := (s.axis o).x / q32 } else g

/-! ### st.reg.ok (R250), which a gear switch may change -/

/-- The ticket that a station draws now and its scan, when that sheet is sealed. -/
def State.drawing (s : State) (n : Nat) : Option Drawing :=
  match (s.station n).draw with
  | some d => if (s.ticket d.tk).state = 3 ∨ (s.ticket d.tk).state = 4 then some d else none
  | none => none

/-- The facet being decided draws a line of a sealed sheet, now or next (Table 19-1: SHEET). -/
def State.scanSheet (s : State) (n : Nat) : Bool :=
  (s.drawing n).isSome || (s.station n).starting.any (fun e => decide (e.2 < s.tempo))

/-- st.reg.ok: 1 for a station that is not geared; it reads its reset value 0 in OFF. (DEDUCED: assumption 31) -/
def State.regVal (s : State) (n : Nat) : Bool :=
  (s.station n).sync != .off && ((s.gear (obj clsSTN n)).master == 0 || (s.station n).regOk)

/-- A fall of st.reg.ok from its value `was` raises 0x0710, a rise 0x0711. -/
def State.regChange (s : State) (n : Nat) (was : Bool) : State :=
  let o := obj clsSTN n
  if was && !s.regVal n then
    s.raise { code := 0x0710, obj := o, fields := [o, i64 (s.station n).err], sheet := s.scanSheet n }
  else if !was && s.regVal n then s.raise { code := 0x0711, obj := o, fields := [o] }
  else s

/-- A station's gear has engaged or disengaged: its registration starts afresh (R248, R250). -/
def State.stationGear (s : State) (o : Nat) (was : Bool) : State :=
  if aCls o = clsSTN then
    (s.updStation (aIdx o) (fun t => { t with phiSet := false, regOk := false, oks := [] })).regChange (aIdx o) was
  else s

/-- A count of encoder `me` at one gearing unit: the ratio in force takes the count, and the count that reaches P then
switches the ratio (R156). -/
def State.gearCount (s : State) (me : Nat) (delta pos : Int) (o : Nat) : State :=
  let g := s.gear o
  let on := decide (g.master = me + 1 ∧ g.d ≠ 0)
  let g1 := if on then (s.geared g delta).1 else g
  let s := if on then (s.geared g delta).2 else s
  match g1.pend with
  | some p =>
    if g1.waitsFor = me + 1 ∧ p.p ≤ pos then
      let g2 := s.gearStart o g1
      let s1 := s.setGear o (g2.switchTo p)
      let was := s.regVal (aIdx o)
      let s2 := if p.master = 0 then (s1.axisGear o false).stationGear o was
        else if g.master = 0 then (s1.axisGear o true).stationGear o was else s1
      s2.raise { code := 0x0320, obj := o, fields := [o, i64 p.p, i64 g2.s] }
    else s.setGear o g1
  | none => s.setGear o g1

/-- A count of an encoder at every gearing unit. -/
def State.gearCounts (s : State) (me : Nat) (delta pos : Int) : State :=
  (uniq (s.clk.gears.map (fun e => e.1))).foldl (fun u o => u.gearCount me delta pos o) s

/-- The condition LOCKED of a station (R238): facet timing LOCKED, the SPLL and the station's VPLL LOCKED, and when geared,
st.reg.ok. -/
def State.stnLocked (s : State) (n : Nat) : Bool :=
  let t := s.station n
  t.sync == .locked && (s.pll 0).state == .locked && (s.pll (8 + n)).state == .locked
    && ((s.gear (obj clsSTN n)).master == 0 || t.regOk)

/-! ### Master encoders (R151 to R154) -/

/-- me.enable. -/
def State.meOn (s : State) (me : Nat) : Bool := s.par clsME me 0x000 == 1

/-- Up or down of a count: A leads B means that the level that changed ends unequal to B when it is A, and equal when it is
B; me.dir turns the sense (Table 6-6). -/
def countStep (dir : Nat) (aChanged a b : Bool) : Int :=
  let lead := if aChanged then a != b else a == b
  if lead == (dir == 0) then 1 else -1

/-- A count captured: position, counts since the index, history of the last 65,536 tempo, and every gearing unit (R131). (DEDUCED: assumption 24) -/
def State.meCount (s : State) (me : Nat) (delta : Int) : State :=
  let e := s.enc me
  let pos := (s.int64 (e.pos + delta)).1
  let e' := { e with pos := pos, idxRun := e.idxRun + delta, hist := (s.tempo, pos) :: e.hist.filter (fun h => decide (s.tempo < h.1 + 65536)) }
  ((s.int64 (e.pos + delta)).2.setEnc me e').gearCounts me delta pos

/-- An illegal transition (R151, R152). -/
def State.meIllegal (s : State) (me : Nat) : State :=
  let e := s.enc me
  let errs := s.tempo :: e.errs.filter (fun t => decide (s.tempo < t + 1000000))
  let s1 := (s.setEnc me { e with errCount := satAdd 32 e.errCount 1, errs := errs, lastErr := s.tempo }).raiseLimited
    { code := 0x0310, obj := obj clsME me, fields := [obj clsME me] } 1000000 0 true
  if s.par clsME me 0x003 < errs.length then
    s1.raise { code := 0x0311, obj := obj clsME me, fields := [obj clsME me, errs.length], latch := [obj clsME me] }
  else s1

/-- me.rate (R154) in Q16: from the oldest to the newest count captured from tempo t - 65,535 on. (DEDUCED: assumption 24) -/
def State.meRate (s : State) (me : Nat) : Int :=
  let h := (s.enc me).hist.filter (fun x => decide (s.tempo < x.1 + 65536))
  match h, h.getLast? with
  | a :: _ :: _, some b =>
    if b.1 < a.1 then Int.tdiv ((a.2 - b.2) * 65536 * 65536) ((a.1 - b.1 : Nat) : Int) else 0
  | _, _ => 0

/-- A level has stood since its edge at the ball for me.filter samples, and this is the tempo of its capture (R151). -/
def State.meAccepts (s : State) (me edge : Nat) : Bool := decide (edge + 3 + s.par clsME me 0x002 = s.tempo)

/-- ME_COUNT_CAPTURE: the levels of A and B that stand since an edge at the ball in tempo `edge`. -/
def execMeCountCapture (me : Idx) (levels : Levels) (edge : Tempo) (s : State) : Host.Outcome State Fault Refusal :=
  .next (
    let s := s.enter inCapture
    let a := levels.a
    let b := levels.b
    if decide (me < 8) && s.meOn me && s.meAccepts me edge then
      let e := s.enc me
      if !e.started then s.setEnc me { e with started := true, a := a, b := b }
      else
        let s1 := s.setEnc me { e with a := a, b := b }
        if e.a != a && e.b != b then s1.meIllegal me
        else if e.a != a || e.b != b then s1.meCount me (countStep (s.par clsME me 0x001) (e.a != a) a b)
        else s1
    else s)

/-- ME_INDEX_EDGE: a rising edge of the index is accepted (R151, R153). -/
def execMeIndexEdge (e : IndexEdge) (s : State) : Host.Outcome State Fault Refusal :=
  .next (
    let s := s.enter inCapture
    let me := e.me
    let mode := s.par clsME me 0x004
    if decide (me < 8) && s.meOn me && mode != 0 && s.meAccepts me e.edge then
      let e := s.enc me
      let found := e.idxRun.natAbs
      let s1 := s.setEnc me { e with idxPos := e.pos, idxTempo := s.tempo, idxSeen := true, idxRun := 0 }
      let off := ((found : Int) - (s.par clsME me 0x005 : Int)).natAbs
      if mode = 2 ∧ e.idxSeen ∧ s.par clsME me 0x006 < off then
        s1.raise { code := 0x0312, obj := obj clsME me, fields := [obj clsME me, found] }
      else s1
    else s)

/-! ### TSYNC (R132 to R137) -/

/-- dev.tsync.role. -/
def State.tsRole (s : State) : Nat := s.par clsDEV 0 0x010

/-- The cells of a TSYNC frame for counter value M (Table 6-1). -/
def tsyncCells (m : Nat) : List Bool :=
  let body := bitsMSB 44 (m / 2 ^ 20)
  true :: body ++ bitsMSB 8 (crc8Bits body)

/-- TSYNC_FRAME_SEND: the leader drives a frame at every multiple of 2^20 tempo (R133). -/
def execTsyncFrameSend (s : State) : Host.Outcome State Fault Refusal :=
  .next (
    if s.running && s.tsRole == 1 && s.md.pressOk && s.tempo % 2 ^ 20 == 0 then s.emit (.tsync (tsyncCells s.tempo)) else s)

/-- No castle slot is ARMED and no ticket is ARMED, SEALED or RUNNING (R136). -/
def State.nothingArmed (s : State) : Bool :=
  s.sheets.castles.all (fun e => e.2.state != 2) && s.sheets.tickets.all (fun e => decide (e.2.state < 2))

/-- A follower may load its counter now (R136). (DEDUCED: assumption 25) -/
def State.mayLoad (s : State) : Bool :=
  (s.md.mode == .configure && s.md.pressOk) || (s.md.mode == .standby && s.nothingArmed)

/-- TSYNC_FRAME_RECEIVE: a frame whose marker edge was captured in tempo `edge`, with M[63:20] = `mk` and its CRC (R135 to
R137). (DEDUCED: assumption 25) -/
def execTsyncFrameReceive (edge : Tempo) (mk : Nat) (crc : Byte) (s : State) : Host.Outcome State Fault Refusal :=
  .next (
    let s := s.enter inCapture
    if s.running && s.tsRole == 2 && crc8Bits (bitsMSB 44 mk) == crc.toNat && decide (edge ≤ s.tempo) then
      let want : Nat := mk % 2 ^ 44 * 2 ^ 20 + s.par clsDEV 0 0x011
      let diff : Int := (edge : Int) - (want : Int)
      if s.mayLoad && edge != want then
        let new : Nat := (want + (s.tempo - edge)) % 2 ^ 64
        { s with tempo := new, follower := true
                 clk := { s.clk with tsLoaded := true, tsLast := new, tsAgrees := true, tsLost := false } }.raise
          { code := 0x0307, fields := [s.tempo, new] }
      else
        let s1 := { s with clk := { s.clk with
          tsLast := s.tempo, tsAgrees := decide (diff.natAbs ≤ 1), tsLost := false } }
        if s.clk.tsLoaded && decide (1 < diff.natAbs) then
          s1.raise { code := 0x0306, fields := [i64 diff], latch := [objDEV] }
        else s1
    else s)

/-- TSYNC_LOST: three frame periods without a valid frame after a load (R137). (DEDUCED: assumption 25) -/
def execTsyncLost (s : State) : Host.Outcome State Fault Refusal :=
  .next (
    let s := s.enter inTimeouts
    if s.running && s.tsRole == 2 && s.clk.tsLoaded && !s.clk.tsLost && decide (s.clk.tsLast + 3 * 2 ^ 20 ≤ s.tempo) then
      { s with clk := { s.clk with tsLost := true, tsAgrees := false } }.raise
        { code := 0x0305, fields := [s.clk.tsLast], latch := [objDEV] }
    else s)

end Sys2Proof.Machine
end

