-- ==== Sys2Proof/Machine/Protect.lean ====
section
/-!
DEFINITION. Power Stage Link and protection, the shared part (chapter 11): frames (R255 to R261), gate composition (R264,
R265), the two-step turn-off with group follow (R271, R272), protection states (R273, R274) and bus stages (R281 to R283).
-/
namespace Sys2Proof.Machine

/-! ### Parameters of a tile -/

/-- A parameter of tile `k`. -/
def State.dt (s : State) (k p : Nat) : Nat := s.par clsDT k p

/-- The tile is in a motor mode: STEP, SIXSTEP, POLY or DCM (R287). -/
def State.isMotor (s : State) (k : Nat) : Bool := decide (1 ≤ s.tMode k ∧ s.tMode k ≤ 4)

/-- Dead time of a leg in tempo, rounded up (R264). -/
def State.deadT (s : State) (k leg : Nat) : Nat := ceilDiv (s.dt k (0x010 + leg)) 2

/-- The off-confirm time of a leg in tempo (R267). -/
def State.offokT (s : State) (k leg : Nat) : Nat := ceilDiv (s.dt k (0x014 + leg)) 2

/-- Soft step 1 in tempo (R271). -/
def State.softT (s : State) (k : Nat) : Nat := ceilDiv (s.dt k 0x01c) 20 * 10

/-- dt.prot.cfg. -/
def State.protCfg (s : State) (k : Nat) : Nat := s.dt k 0x023

/-- The bus a tile is a member of (Table 11-14). -/
def State.busOf (s : State) (k : Nat) : Option Nat :=
  if bit (s.protCfg k) 43 then some (field (s.protCfg k) 40 3) else none

/-- SD_EN of channel `j`: I1, I2, I3, VBUS. -/
def State.sdEn (s : State) (k j : Nat) : Bool := bit (s.protCfg k) (44 + j)

/-- The tiles in service that are members of a bus. -/
def State.busTiles (s : State) (b : Nat) : List Nat :=
  (s.units clsDT).filter (fun k => s.busOf k == some b)

/-- The value of an endpoint register (Table 11-3). -/
def State.cfgValue (s : State) (k r : Nat) : Nat :=
  let c := s.protCfg k
  if r = 1 then field c 0 10 else if r = 2 then field c 10 10 else if r = 3 then field c 20 10
  else if r = 4 then field c 30 10
  else if 5 ≤ r ∧ r ≤ 7 then ceilDiv (s.dt k (0x018 + (r - 5))) 10
  else if 8 ≤ r ∧ r ≤ 10 then max 1 (s.dt k (0x010 + (r - 8)) / 10 - 1)
  else if r = 11 then ceilDiv (s.dt k 0x01c) 20
  else if r = 12 then field c 44 4
  else 0x3a5

/-- The registers of the set in the order sent (R260). -/
def cfgRegs : List Nat := [1, 2, 3, 4, 5, 6, 7, 8, 9, 10, 11, 12, 15]

/-- Begin to send the whole set (R260). -/
def State.startCfg (s : State) (k tries : Nat) : State :=
  s.updTile k (fun t => { t with cfgQueue := cfgRegs, cfgSent := [], configured := false, cfgTries := tries })

/-! ### Frames -/

/-- A down frame from its bits [23:8], SEQ and CRC (Table 11-1, R256). -/
def downFrame (top seq : Nat) : BitVec 24 :=
  let body := top % 2 ^ 16 * 16 + seq % 16
  BitVec.ofNat 24 (body * 16 + crc4 (bitsMSB 20 body))

/-- The CRC of an up frame matches (R256). -/
def upCrcOk (w : Nat) : Bool := crc4 (bitsMSB 20 (w / 16)) == w % 16

/-- Bits [23:8] of a GATE frame: gate bits, EDGE, OFFMODE, PUMP. -/
def gateTop (gates edge offmode : Nat) (pump : Bool) : Nat := gates * 2 ^ 8 + edge * 2 ^ 3 + offmode * 2 + b2n pump

/-- Bits [23:8] of a CMD frame. -/
def cmdTop (op arg : Nat) : Nat := 1 * 2 ^ 14 + op * 2 ^ 10 + arg

/-- Bits [23:8] of a CFG frame. -/
def cfgTop (reg value : Nat) : Nat := 2 * 2 ^ 14 + reg * 2 ^ 10 + value

/-- Bits [23:8] of an IDLE frame. -/
abbrev idleTop : Nat := 3 * 2 ^ 14

/-- The frame period that a tempo lies in (R255). -/
abbrev periodOf (t : Nat) : Nat := t / 20

/-- The place of switch `i` (0 to 5: G1H, G1L ... G3H, G3L) in the gate and OFFOK fields. -/
abbrev swBit (i : Nat) : Nat := 2 ^ (5 - i)

/-- The opposite switch of the same leg. -/
abbrev opposite (i : Nat) : Nat := if i % 2 = 0 then i + 1 else i - 1

/-- A switch of a tile. -/
def Tile.sw (t : Tile) (i : Nat) : Switch := Map.get (fun _ => {}) t.switches i

/-- Write a switch of a tile. -/
def Tile.setSw (t : Tile) (i : Nat) (v : Switch) : Tile := { t with switches := Map.put (fun _ => {}) t.switches i v }

/-- The gate bits of the switches that are on. -/
def Tile.onBits (t : Tile) : Nat := (List.range 6).foldl (fun a i => if (t.sw i).on then a + swBit i else a) 0

/-- The pump clock in frame period `n` (R280): `u` frames a period, 1 for the first half. -/
def State.pumpAt (s : State) (k n : Nat) : Bool :=
  let f := s.dt k 0x022
  let u := roundDiv 25000 f
  if s.tMode k = 7 then false else decide (n % u < u / 2)

/-! ### Requests of the mode unit -/

/-- The switch of a leg that a drive asks on at an offset into its period: high side (`hi`) or low side. -/
def LegDrive.wants (d : LegDrive) (period off : Nat) (hi : Bool) : Bool :=
  match d with
  | .off => false
  | .low => !hi
  | .high => hi
  | .pwm on =>
    let st := (period - on) / 2
    (decide (st ≤ off) && decide (off < st + on)) == hi
  | .square anti on =>
    let first := decide (off < on)
    let second := decide (period / 2 ≤ off) && decide (off < period / 2 + on)
    if hi != anti then first else second

/-- The modulation in force at a tempo. -/
def Tile.modAt (t : Tile) (x : Tempo) : Modulation := if t.modFrom ≤ x then t.modNext else t.mod

/-- The object that carries the axis of a tile (R287): the outermost enabled group, or the tile. -/
def State.axisOf (s : State) (k : Nat) : Nat := (s.outer (obj clsDT k)).getD (obj clsDT k)

/-- The bus of a tile is in ZERO (Table 11-12). -/
def State.busZero (s : State) (k : Nat) : Bool :=
  match s.busOf k with
  | some b => (s.bus b).stage == 2
  | none => false

/-- A field of the active FB_SCALE table of tile `k` (Tables 12-2 and 14-1). -/
def State.fb (s : State) (k off n : Nat) : Nat := leAt (s.table 0x07 k) off n
/-- A signed field of it. -/
def State.fbI (s : State) (k off n : Nat) : Int := sext (8 * n) (s.fb k off n)

/-- A fault of a tile that is no motor holds its gates off: a heater's (R348, R350), an implausible measurement (R341) or an
uncorrectable error of its loop engine (Table 17-3). -/
def State.loopFault (s : State) (k : Nat) : Bool :=
  !s.isMotor k && [0x0a01, 0x0e10, 0x0b01, 0x0b02, 0x0b03, 0x0b04].any (fun c => s.latched c (obj clsDT k))

/-- A POLY tile in OFF or FAULTED requests all gates off (Table 12-7). -/
def State.polyOff (s : State) (k : Nat) : Bool :=
  s.tMode k == 3 && ((s.poly k).stage == .off || (s.poly k).stage == .faulted)

/-- The two zero-vector pulses of CATCH (R318): all low sides on for CATCH_PULSE from CATCH_OFF on and CATCH_GAP later. -/
def State.catchPulse (s : State) (k : Nat) (x : Tempo) : Bool :=
  let t0 := (s.poly k).entered + s.fb k 88 4 * 500
  let t1 := t0 + s.fb k 96 4 * 500
  let len := ceilDiv (s.fb k 92 4) 2
  (decide (t0 ≤ x) && decide (x < t0 + len)) || (decide (t1 ≤ x) && decide (x < t1 + len))

/-- Leg `j` (0 to 2) of an HV tile is on and neither off after an arc nor held off (R353, R355). -/
def State.legLive (s : State) (k j : Nat) : Bool :=
  let l := s.leg (4 * k + j)
  l.on && l.offUntil.isNone && !l.heldOff

/-- All gates of a running tile are requested off: group policy HOLD_COAST (R272), a motion fault of its axis (R309), a fault
of a tile that is no motor, a polygon stage without drive, the output switched off, or a heater in Safe-hold (R357). -/
def State.gatesOff (s : State) (k : Nat) : Bool :=
  (s.tile k).holdGates || (s.isMotor k && (s.axis (s.axisOf k)).state == .faulted) || s.loopFault k || s.polyOff k
    || !(s.tile k).outOn || (s.md.mode == .safeHold && s.tMode k == 5)

/-- The level that the mode unit of a running tile requests of switch `i` at a tempo. -/
def State.wants (s : State) (k i : Nat) (x : Tempo) : Bool :=
  if s.gatesOff k then false
  else if s.tMode k == 3 && (s.poly k).stage == .catch then i % 2 == 1 && s.catchPulse k x
  else if s.tMode k == 6 && !s.legLive k (i / 2) then false
  else if s.isMotor k && s.busZero k then i % 2 == 1 && (s.tMode k != 4 || decide (i < 4))
  else
    let m := (s.tile k).modAt x
    (m.legs.getD (i / 2) .off).wants m.period ((x - m.base) % m.period) (i % 2 == 0)

/-! ### Composition of a GATE frame (R264, R265) -/

/-- The earliest edge of a frame whose effect begins at tempo `w` at which a switch is to be at a level. (DEDUCED: assumption 32) -/
def State.edgeFor (s : State) (k i w : Nat) (level : Bool) : Option Nat :=
  (List.range 20).find? (fun e => s.wants k i (w + e) == level)

/-- The edge at which a switch that is off turns on in the frame with effect from `w`, under R264: not before the request,
the dead time after the opposite switch's turn-off, and the sample that showed that switch off. (DEDUCED: assumption 32) -/
def State.onEdge (s : State) (k i w : Nat) : Option Nat :=
  let y := (s.tile k).sw (opposite i)
  match s.edgeFor k i w true, y.okCap with
  | some e, some c =>
    let tY := match y.offAt with
      | some (n, g) => 20 * (n + 3) + g + s.deadT k (i / 2)
      | none => 0
    let t := max (w + e) (max tY (20 * (c + 4)))
    if !y.on && decide (t < w + 20) && s.wants k i t then some (t - w) else none
  | _, _ => none

/-- The smallest of a list. -/
def minOf (xs : List Nat) (d : Nat) : Nat := xs.foldl min d

/-- What a RUN tile's GATE frame of period `n` carries: switches to turn off, switches to turn on, and EDGE. Turn-offs are
never delayed, so they set the edge, and a turn-on that may not come so early waits for the next frame; without a turn-off,
the latest turn-on sets it. A switch that is no longer requested on at that edge is not turned on. (DEDUCED: assumption 32) -/
def State.planGate (s : State) (k n : Nat) : List Nat × List Nat × Nat :=
  let w := 20 * (n + 3)
  let t := s.tile k
  let offs := (List.range 6).filterMap (fun i =>
    if (t.sw i).on then (s.edgeFor k i w false).map (fun e => (i, e)) else none)
  let ons := (List.range 6).filterMap (fun i =>
    if (t.sw i).on then none else (s.onEdge k i w).map (fun e => (i, e)))
  let edge := if offs.isEmpty then (ons.map (fun x => x.2)).foldl max 0 else minOf (offs.map (fun x => x.2)) 19
  (offs.map (fun x => x.1), (ons.filter (fun x => decide (x.2 ≤ edge) && s.wants k x.1 (w + edge))).map (fun x => x.1), edge)

/-- Legs with a cross-command (R265): both switches are requested on at once. -/
def State.crossLegs (s : State) (k n : Nat) : List Nat :=
  (List.range 3).filter (fun j => (List.range 20).any (fun e =>
    s.wants k (2 * j) (20 * (n + 3) + e) && s.wants k (2 * j + 1) (20 * (n + 3) + e)))

/-- Mark a switch off by the frame of period `n` with an edge, and open its off-confirm window (R267). -/
def State.switchOff (s : State) (k i n edge : Nat) : State :=
  s.updTile k (fun t => t.setSw i { on := false, offAt := some (n, edge), okCap := none,
                                    window := some (n, 20 * n + 120 + s.offokT k (i / 2)) })

/-- Mark every switch that is on off. -/
def State.allOff (s : State) (k n edge : Nat) : State :=
  (List.range 6).foldl (fun u i => if ((u.tile k).sw i).on then u.switchOff k i n edge else u) s

/-! ### Two-step turn-off, group follow, retry -/

/-- Note the last event of class 0x08 of a tile (Table 11-14: LAST_EVENT) and raise it. -/
def State.raiseDt (s : State) (k : Nat) (e : Ev) : State :=
  (s.updTile k (fun t => { t with lastEvent := e.code })).raise { e with obj := obj clsDT k }

/-- The bottom tiles of the outermost enabled group of a tile, without the tile itself. -/
def State.mates (s : State) (k : Nat) : List Nat :=
  match s.outer (obj clsDT k) with
  | none => []
  | some g => uniq ((s.tilesOf g).filter (fun j => j != k && s.inService clsDT j))

/-- Retry faults of a tile in the last 60 s (R273). -/
def Tile.recent (t : Tile) (now : Tempo) : List Tempo := t.tries.filter (fun x => decide (now < x + 30000000000))

/-- Put a tile into TWO_STEP from the frame period that begins next. -/
def State.twoStep (s : State) (k : Nat) (retry : Bool) (cause : Nat) : State :=
  s.updTile k (fun t => { t with
    prot := .twoStep, since := s.tempo, twoStepAt := periodOf s.tempo + 1, retry := retry, faultAt := s.tempo
    lastCause := cause, released := false
    tries := if retry then s.tempo :: t.recent s.tempo else t.recent s.tempo })

/-- A tile's outputs can be turned off by a reaction: it is ENABLING or in RUN (R270), or it follows its group since this
very tempo (R272: each tile keeps its own retry count). -/
def State.canTurnOff (s : State) (k : Nat) : Bool :=
  let t := s.tile k
  t.prot == .run || t.prot == .enabling || (t.prot == .twoStep && t.lastCause == 0 && t.since == s.tempo)

/-- The members of the outermost enabled group follow a tile's turn-off under grp.policy (R272). Under HOLD_COAST the manual gives
no end to the hold: a member drives again after its own next enable or disable. (DESIGN CHOICE: assumption 32) -/
def State.follow (s : State) (k : Nat) : State :=
  match s.outer (obj clsDT k) with
  | none => s
  | some g =>
    let policy := s.par clsGRP (aIdx g) 0x000
    let acting := (s.mates k).filter (fun j => (s.tile j).prot == .run || (s.tile j).prot == .enabling)
    let s1 := acting.foldl (fun u j =>
      if policy = 0 then u.twoStep j false 0 else u.updTile j (fun t => { t with holdGates := true })) s
    s1.raise { code := 0x0812, obj := g, fields := [g, policy, obj clsDT k] }

/-- Turn a tile off in two steps for a cause of Table 11-6, with its group. -/
def State.turnOff (s : State) (k : Nat) (retry : Bool) (cause : Nat) : State :=
  if s.canTurnOff k then
    let joined := (s.tile k).prot == .twoStep
    let s1 := s.twoStep k retry cause
    if joined then s1 else s1.follow k
  else s

/-- Put a tile into LATCHED; the tiles of its group that wait go there too (R274). -/
def State.latchTile (s : State) (k : Nat) : State :=
  let go := fun (u : State) (j : Nat) => u.updTile j (fun t => { t with prot := .latched, since := s.tempo, released := false })
  ((s.mates k).filter (fun j => (s.tile j).prot == .retryWait)).foldl go (go s k)

/-- Step 3 of Table 11-7 has been reached: RETRY_WAIT or LATCHED (R273). A tile that only followed its group, or that
Safe-hold turned off, waits. -/
def State.afterTwoStep (s : State) (k : Nat) : State :=
  let t := s.tile k
  if t.lastCause = 0 then s.updTile k (fun t => { t with prot := .retryWait, since := s.tempo })
  else if t.retry && decide ((t.recent s.tempo).length ≤ s.dt k 0x021) then
    s.updTile k (fun t => { t with prot := .retryWait, since := s.tempo })
  else
    let s1 := s.latchTile k
    if t.retry then
      s1.raiseDt k { code := 0x0811, latch := [obj clsDT k]
                     fields := [obj clsDT k, (t.recent s.tempo).length, t.lastCause] }
    else s1

/-- The wait of a tile has passed (R274). -/
def State.waitPassed (s : State) (k : Nat) : Bool := decide ((s.tile k).faultAt + s.dt k 0x020 * 500000 ≤ s.tempo)

/-- The conditions of R274 for a waiting tile, its flags apart: its wait, its link, the mode, and the tiles of its group. -/
def State.nearRelease (s : State) (k : Nat) : Bool :=
  let t := s.tile k
  t.prot == .retryWait && !t.released && t.sync && s.waitPassed k
    && (s.md.mode != .safeHold || s.dt k 0x001 == 1 || s.dt k 0x002 == 1)
    && (s.mates k).all (fun j => (s.tile j).prot == .run || ((s.tile j).prot == .retryWait && s.waitPassed j))

/-- Every condition of R274 holds for a tile. -/
def State.mayRelease (s : State) (k : Nat) : Bool := s.nearRelease k && decide (16 ≤ (s.tile k).cleanRun)

/-- Send RETRY_RELEASE (Table 11-2). -/
def State.release (s : State) (k : Nat) : State :=
  s.updTile k (fun t => { t with released := true, cmdQueue := t.cmdQueue ++ [(1, 0)] })

/-! ### Buses (R281 to R283) -/

/-- V_b (R281). (DEDUCED: assumption 33) -/
def State.vBus (s : State) (b : Nat) : Nat :=
  ((s.busTiles b).filter (fun k => s.sdEn k 3)).foldl (fun a k => max a (s.tile k).vbus) 0

/-- A field of dev.bus.limits: 0 BRAKE_OFF, 1 BRAKE_ON, 2 FREEZE, 3 ZERO, 4 HARD. -/
def State.busLimit (s : State) (b j : Nat) : Nat := field (s.par clsDEV 0 (0x040 + b)) (12 * j) 12

/-- Why the chopper of a bus is unavailable (R282, 0x0834): 1 none named, 2 absent, 3 not RUN, 4 fault. (DEDUCED: assumption 33) -/
def State.chopperReason (s : State) (b : Nat) : Option Nat :=
  let k := s.par clsDEV 0 (0x048 + b)
  if k = 255 then some 1
  else if !s.inService clsDT k then some 2
  else if s.faultOn (obj clsDT k) then some 4
  else if (s.tile k).prot != .run then some 3
  else none

/-! ### Parameter readout (Table 11-14) -/

/-- The code of a protection state (Table 11-8). -/
def Prot.code : Prot → Nat
  | .disabled => 0 | .enabling => 1 | .run => 2 | .twoStep => 3 | .retryWait => 4 | .latched => 5

/-- dt.prot.status. -/
def State.protStatus (s : State) (k : Nat) : Nat :=
  let t := s.tile k
  t.prot.code + b2n t.sync * 2 ^ 3 + b2n t.configured * 2 ^ 4 + t.epType * 2 ^ 5
    + min 15 (t.recent s.tempo).length * 2 ^ 8 + t.flags * 2 ^ 12 + t.lastEvent * 2 ^ 16 + t.gates * 2 ^ 32
    + t.offok * 2 ^ 38 + min 65535 t.errors * 2 ^ 48

/-- dev.bus.state. -/
def State.busStatus (s : State) (b : Nat) : Nat :=
  let u := s.bus b
  u.vb + u.stage * 2 ^ 12 + b2n (u.chopping && (s.chopperReason b).isNone) * 2 ^ 14 + b2n u.unavailable * 2 ^ 15

end Sys2Proof.Machine
end

