-- ==== Sys2Proof/Machine/Motion.lean ====
section
/-!
DEFINITION. Motion, the shared part (chapter 12): the FB_SCALE table, axes and their tiles, the profile generator (R292 to
R294), holds and motion faults (R309 to R311), commutation into modulations (R301 to R305) and the polygon stages (R312).
-/
namespace Sys2Proof.Machine

/-! ### FB_SCALE (Tables 12-2 and 14-1) -/

/-- SENSOR: 0 NONE, 1 ENCODER, 2 RESOLVER. -/
def State.sensorOf (s : State) (k : Nat) : Nat := s.fb k 1 1
/-- PWM_PERIOD. -/
def State.pwmPeriod (s : State) (k : Nat) : Nat := s.fb k 20 4
/-- V_LIMIT, OVERSPEED, FOLLOW_TOL, STOP_DECEL and SAT_SAMPLES of a tile. -/
def State.vLimit (s : State) (k : Nat) : Nat := s.fb k 48 4
def State.overspeed (s : State) (k : Nat) : Nat := s.fb k 52 4
def State.followTol (s : State) (k : Nat) : Nat := s.fb k 56 4
def State.stopDecel (s : State) (k : Nat) : Nat := s.fb k 60 4
def State.satSamples (s : State) (k : Nat) : Nat := s.fb k 64 2
/-- SHARE of a group member in Q16 (R321). -/
def State.shareOf (s : State) (k : Nat) : Int := s.fbI k 68 4

/-- The DC bus voltage as the tile sees it, V_t in 2^-16 mV (R301). -/
def State.vT (s : State) (k : Nat) : Int := ((s.tile k).vbus : Int) * s.fbI k 16 4

/-! ### Axes -/

/-- The tile is enabled and past ENABLING: RUN, or off for protection. -/
def State.tileOn (s : State) (k : Nat) : Bool :=
  let p := (s.tile k).prot
  p == .run || p == .twoStep || p == .retryWait

/-- The bottom tiles of an axis object that are in service. -/
def State.axisTiles (s : State) (o : Nat) : List Nat := uniq ((s.tilesOf o).filter (fun k => s.inService clsDT k))

/-- The lead tile of an axis (R321). -/
def State.leadOf (s : State) (o : Nat) : Nat :=
  if aCls o = clsGRP then
    let l := s.par clsGRP (aIdx o) 0x007
    if l = 255 then minOf (s.axisTiles o) 255 else l
  else aIdx o

/-- The axis is enabled: every bottom tile is past ENABLING, and a group is itself enabled (R322). -/
def State.axisOn (s : State) (o : Nat) : Bool :=
  let ts := s.axisTiles o
  !ts.isEmpty && ts.all (fun k => s.tileOn k && s.isMotor k) && (aCls o != clsGRP || (s.group (aIdx o)).enabled)

/-- The axis has a position sensor on its lead tile (R300). -/
def State.axisSensor (s : State) (o : Nat) : Bool := s.sensorOf (s.leadOf o) != 0

/-- x_m of an axis in 2^-32 pu; the reference stands in where there is no sensor (R300). (DEDUCED: assumption 34) -/
def State.axisXm (s : State) (o : Nat) : Int :=
  if s.axisSensor o then (s.tile (s.leadOf o)).xm * q32 else (s.axis o).x

/-- v_m of an axis in 2^-32 pu/s, signed (R300). -/
def State.axisVm (s : State) (o : Nat) : Int :=
  if s.axisSensor o then (s.tile (s.leadOf o)).vm else (s.axis o).v * (s.axis o).dir

/-- The bus of some tile of the axis is in FREEZE (R310) or in ZERO (R311). -/
def State.axisBus (s : State) (o stage : Nat) : Bool :=
  (s.axisTiles o).any (fun k => match s.busOf k with
    | some b => (s.bus b).stage == stage
    | none => false)

/-- The gearing unit of an object: a member of a group reads that of the outermost enabled group (Table 6-7). -/
def State.gearOf (s : State) (o : Nat) : Gear := s.gear ((s.outer o).getD o)

/-! ### The profile generator -/

/-- A product with dt = 1,024 / 500,000,000 s, truncated (R288). -/
def timesDt (v : Int) : Int := Int.tdiv (v * 1024) 500000000

/-- A speed or an acceleration in 2^-32 units. -/
abbrev up32 (x : Nat) : Int := (x : Int) * q32

/-- The braking distance of R292 from speed `v` (2^-32 pu/s), in 2^-32 pu. -/
def brakeDist (mv : Move) (v : Int) : Int :=
  let sq := fun (x : Int) => Int.tdiv (x * x) q32
  if up32 mv.vKnee < v then
    Int.tdiv (sq v - sq (up32 mv.vKnee)) (2 * mv.d2) + Int.tdiv (sq (up32 mv.vKnee) - sq (up32 mv.vStop)) (2 * mv.d1)
  else Int.tdiv (sq v - sq (up32 mv.vStop)) (2 * mv.d1)

/-- Deceleration in force at a speed: D2 above V_KNEE, D1 below. -/
def Move.decel (mv : Move) (v : Int) : Int := if up32 mv.vKnee < v then up32 mv.d2 else up32 mv.d1

/-- What a tick did: still under way, at V_MAX of a VELOCITY move, or at its target. -/
inductive TickEnd where
  | moving | atSpeed | done
  deriving DecidableEq, Repr

/-- One tick in MOVING (R292): `hold` forbids acceleration (saturation, R306), `freeze` forbids lowering v (R310). (DEDUCED: assumption 34) -/
def AxisSt.tickMove (a : AxisSt) (hold freeze : Bool) : AxisSt × TickEnd :=
  let mv := a.mv
  let v0 := if a.fresh then up32 mv.vStart else a.v
  let rem := a.dir * (mv.target - a.x)
  let brake := !mv.vel && decide (rem ≤ brakeDist mv v0 + timesDt v0)
  let acc : Int :=
    if up32 mv.vMax < v0 then -(mv.decel v0)
    else if brake then -(mv.decel v0)
    else if hold then 0
    else if v0 < up32 mv.vKnee then up32 mv.a1 else if v0 < up32 mv.vMax then up32 mv.a2 else 0
  let acc := if freeze && decide (acc < 0) then 0 else acc
  let floor := max (up32 mv.vStop) (up32 8)
  let v1 := v0 + timesDt acc
  let v :=
    if up32 mv.vMax < v0 then (if freeze then v0 else max (up32 mv.vMax) v1)
    else min (up32 mv.vMax) (max floor v1)
  let x := a.x + a.dir * timesDt v
  let a1 := { a with x := x, v := v, a := acc * a.dir, fresh := false }
  if mv.vel then (a1, if v = up32 mv.vMax then .atSpeed else .moving)
  else if a.dir * (mv.target - x) ≤ 0 && !freeze then
    ({ a1 with x := mv.target, v := 0, a := 0 }, .done)
  else (a1, .moving)

/-- One tick of slowing to rest at a deceleration (R293, R294). -/
def AxisSt.tickSlow (a : AxisSt) (decel : Int) (freeze : Bool) : AxisSt :=
  let v := if freeze then a.v else max 0 (a.v - timesDt decel)
  { a with v := v, x := a.x + a.dir * timesDt v, a := if freeze then 0 else -(decel * a.dir) }

/-- The direction of a move from a position. -/
def Move.dirFrom (mv : Move) (x : Int) : Int :=
  if mv.vel then mv.dir else if mv.target - x < 0 then -1 else 1

/-- Start a profile from rest (R292). -/
def AxisSt.startFresh (a : AxisSt) (mv : Move) : AxisSt :=
  { a with state := .moving, mv := mv, dir := mv.dirFrom a.x, v := 0, a := 0, fresh := true, turn := .none, regear := false }

/-- Start a profile on an axis that may be moving (R293). -/
def AxisSt.replace (a : AxisSt) (mv : Move) : AxisSt :=
  if a.v = 0 then a.startFresh mv
  else
    let d := mv.dirFrom a.x
    let rem := d * (mv.target - a.x)
    if d ≠ a.dir ∨ (!mv.vel ∧ rem < brakeDist mv a.v) then
      { a with state := .moving, mv := mv, turn := .slow, fresh := false, regear := false }
    else { a with state := .moving, mv := mv, dir := d, turn := .none, fresh := false, regear := false }

/-- Start or replace a profile now: from rest on a fresh tick grid (R288), or from the present speed (R293). -/
def AxisSt.resume (a : AxisSt) (mv : Move) (now : Tempo) : AxisSt :=
  if a.v = 0 then { (a.startFresh mv) with nextTick := now + 1 } else a.replace mv

/-- The speed of the gearing unit's S over the last 16 ticks of 1,024 tempo in 2^-32 pu/s, signed (R296); `hist` holds S at
each of them, newest first. -/
def gearSpeed (hist : List Int) (now : Int) : Int :=
  match hist.getLast? with
  | some old => Int.tdiv ((now - old) * 500000000 * 4194304) (hist.length : Int)
  | none => 0

/-- Speed in pu/s as a payload field. -/
def puPerS (v : Int) : Int := Int.tdiv v q32

/-! ### Faults and holds -/

/-- Change the stage of a POLY tile; each change raises 0x0920 (R312). -/
def State.polyTo (s : State) (k : Nat) (st : Poly) : State :=
  let p := s.poly k
  if p.stage = st then s
  else
    let code : Poly → Nat := fun
      | .off => 0 | .align => 1 | .blind => 2 | .observer => 3 | .sync => 4 | .coast => 5 | .catch => 6 | .faulted => 7
    let known := st == .observer || st == .sync || st == .coast
    (s.setPoly k { p with stage := st, entered := s.tempo, vMeas := if known then p.vMeas else 0 }).raise
      { code := 0x0920, obj := obj clsDT k
        fields := [obj clsDT k, code p.stage, code st, i64 (puPerS p.vRamp)] }

/-- A run-out program ends (R385): its event, with 0 for time and 1 for protection. `o` is the axis or HEAT tile. -/
def State.endRunout (s : State) (o cause : Nat) : State :=
  let k := s.leadOf o
  if (s.tile k).runout.isSome then
    (s.updTile k (fun t => { t with runout := none, runoutDone := true })).raise
      { code := 0x0d12, obj := obj clsDT k, fields := [o, cause] }
  else s

/-- A motion fault: the axis enters FAULTED and coasts (R309); its POLY tiles go to OFF. -/
def State.coastAxis (s : State) (o : Nat) : State :=
  let s1 := s.updAxis o (fun a => { a with state := .faulted, loaded := none, turn := .none })
  ((s1.axisTiles o).foldl (fun u k => if u.tMode k = 3 then u.polyTo k .off else u) s1).endRunout o 1

/-- Latch a motion fault on the axis object (R309). -/
def State.motionFault (s : State) (o code : Nat) (fields : List Nat) : State :=
  (s.raise { code := code, obj := o, fields := fields, latch := [o] }).coastAxis o

/-- A fault of one tile whose axis then coasts: position sensor, plausibility (Table 19-5: COAST). -/
def State.tileCoast (s : State) (k code : Nat) (fields : List Nat) : State :=
  (s.raise { code := code, obj := obj clsDT k, fields := fields, latch := [obj clsDT k] }).coastAxis (s.axisOf k)

/-- Something holds the axis (R311): a tile of it is off for protection, or its bus is in ZERO. -/
def State.holdCause (s : State) (o : Nat) : Bool :=
  (s.axisTiles o).any (fun k => (s.tile k).prot == .twoStep || (s.tile k).prot == .retryWait) || s.axisBus o 2

/-- The axis resumes when a hold ends (R311); I_i of its tiles starts at 0 (R338). A geared axis that was on its way back to
its master sets out again. -/
def State.endHold (s : State) (o : Nat) : State :=
  let a := s.axis o
  let poly := s.tMode (s.leadOf o) == 3
  let sensor := s.axisSensor o
  let vm := s.axisVm o
  let a1 := if sensor then { a with x := s.axisXm o, v := (vm.natAbs : Int), dir := if vm < 0 then -1 else 1 }
            else { a with v := 0 }
  let s0 := (s.axisTiles o).foldl (fun u k =>
    let v := u.updLoop k (fun l => { l with iI := 0 })
    if v.tMode k = 3 ∧ (v.poly k).stage ≠ .off ∧ (v.poly k).stage ≠ .faulted then v.polyTo k .catch else v) s
  let s1 := if sensor || poly then s0
    else s0.raise { code := 0x0915, obj := o, fields := [o, i64 (a.x / q32)] }
  match if a.regear then Prof.geared else a.heldFrom with
  | .geared =>
    let g := s.gear o
    let vs := gearSpeed a.sHist g.s
    let mv : Move := { a.mv with vel := true, dir := if vs < 0 then -1 else 1, vMax := (puPerS vs).natAbs, vStop := 0 }
    s1.setAxis o { (a1.resume mv s.tempo) with regear := true, heldStart := false }
  | .moving | .atSpeed => s1.setAxis o { (a1.resume a.mv s.tempo) with heldStart := false }
  | .deferred =>
    match a.loaded, a.heldStart with
    | some mv, true =>
      (s1.setAxis o { ({ a1 with v := 0 }.resume mv s.tempo) with loaded := none, heldStart := false }).raise
        { code := 0x0902, obj := o, fields := [o, s.tempo + 1] }
    | _, _ => s1.setAxis o { a1 with state := .deferred, v := 0, heldStart := false }
  | .idle => s1.setAxis o { a1 with state := .idle, v := 0, heldStart := false }
  | st => s1.setAxis o { a1 with state := st, heldStart := false }

/-- Bring the hold of an axis up to date after protection or a bus changed. -/
def State.refreshAxis (s : State) (o : Nat) : State :=
  let a := s.axis o
  if s.holdCause o then
    if a.state = .held ∨ a.state = .faulted then s
    else (s.setAxis o { a with state := .held, heldFrom := a.state }).endRunout o 1
  else if a.state = .held then s.endHold o else s

/-- The axes that tiles belong to. -/
def State.axesOf (s : State) (ks : List Nat) : List Nat :=
  uniq ((ks.filter (fun k => s.isMotor k)).map (fun k => s.axisOf k))

/-- Bring the holds of several tiles' axes up to date. -/
def State.refresh (s : State) (ks : List Nat) : State :=
  ks.foldl (fun u k => if u.tMode k = 5 ∧ (u.tile k).prot ≠ .run then u.endRunout (obj clsDT k) 1 else u)
    ((s.axesOf ks).foldl (fun u o => u.refreshAxis o) s)

/-- Tiles whose state a reaction on tile `k` may change: itself and its group. -/
def State.circle (s : State) (k : Nat) : List Nat := k :: s.mates k

/-- An axis that becomes enabled stands at its measured position (R309 gives it for FAULT_CLEAR). -/
def State.startAxis (s : State) (o : Nat) : State :=
  s.updAxis o (fun a => { a with state := .idle, x := s.axisXm o, v := 0, a := 0, loaded := none, turn := .none, regear := false
                                 sat := false, satRun := 0, limited := false, heldStart := false })

/-! ### Commutation (R301 to R305) -/

/-- A product of a 2^-16 quantity with a Q16 factor, truncated. -/
def mul16 (a b : Int) : Int := Int.tdiv (a * b) 65536

/-- The duty of a leg as high-side tempo in a PWM period: 0.5 + u / V_t, clamped, and set to 0 or 1 within the dead time of
them (R301). With V_t = 0 the quotient has no value: a free value. (DESIGN CHOICE: assumption 35) -/
def State.legOn (s : State) (k leg : Nat) (u : Int) : Nat × State :=
  let p := s.pwmPeriod k
  let vt := s.vT k
  let (raw, s1) := if vt = 0 then let (f, s2) := s.fresh; (f % (p + 1), s2)
    else ((clampI 0 p (Int.tdiv ((p : Int) * vt + 2 * u * p) (2 * vt))).toNat, s)
  let dead := s.dt k (0x010 + leg)
  (if raw ≤ dead then 0 else if p ≤ raw + dead then p else raw, s1)

/-- The drive of each leg from `leg` on: its voltage less the common value, or floating (R301). -/
def State.driveEach (s : State) (k : Nat) (mid : Int) : List (Option Int) → Nat → List LegDrive × State
  | [], _ => ([], s)
  | none :: us, leg => let (ds, s1) := s.driveEach k mid us (leg + 1); (.off :: ds, s1)
  | some u :: us, leg =>
    let (on, s1) := s.legOn k leg (u - mid)
    let (ds, s2) := s1.driveEach k mid us (leg + 1)
    (.pwm on :: ds, s2)

/-- Drive the legs given with their voltages (2^-16 mV); the others float (R301). -/
def State.driveLegs (s : State) (k : Nat) (us : List (Option Int)) (start : Tempo) : State :=
  let driven := us.filterMap id
  let top := driven.foldl max (driven.headD 0)
  let low := driven.foldl min (driven.headD 0)
  let mid := Int.tdiv (top + low) 2
  let (legs, s1) := s.driveEach k mid us 0
  s1.updTile k (fun t => { t with
    mod := if t.modFrom ≤ s.tempo then t.modNext else t.mod
    modNext := { legs := legs, period := max 1 (s.pwmPeriod k), base := start }, modFrom := start })

/-- U_avail in 2^-16 mV (R302). -/
def State.uAvail (s : State) (k : Nat) : Int :=
  let v := (s.vT k).natAbs
  let m := s.tMode k
  if m = 3 ∨ (m = 1 ∧ s.fb k 2 1 = 3) then (isqrt (v * v / 3) : Nat)
  else if m = 1 then (isqrt (v * v / 2) : Nat)
  else (v : Int)

/-- The measured position of a tile as R336 and Table 12-1 use it, in pu: x_m, or the reference of its axis. -/
def State.xmOf (s : State) (k : Nat) : Int :=
  if s.sensorOf k = 0 then (s.axis (s.axisOf k)).x / q32 else (s.tile k).xm

/-- THETA_OFFSET of a SIXSTEP tile: what its alignment found, or the field of its table (R304). -/
def State.thetaOffset (s : State) (k : Nat) : Nat := if bit (s.fb k 6 1) 0 then (s.tile k).thetaOff else s.fb k 12 2

/-- The electrical angle θe of a tile (Table 12-1). Between resolver words x_m goes on at the measured speed (R299). A SIXSTEP
member without a sensor takes its lead's and adds its own THETA_OFFSET (R321). -/
def State.thetaE (s : State) (k : Nat) : Nat :=
  let own := fun (j : Nat) =>
    if s.tMode j = 1 then
      let m : Int := 512 * s.fb j 2 1
      ((((s.axis (s.axisOf j)).x / q32) % (max m 1)) * 65536 / (max m 1)).toNat
    else if s.sensorOf j = 2 then
      let t := s.tile j
      (Int.tdiv ((t.xm + Int.tdiv (t.vm * t.resAge * 20) (500000000 * q32)) * s.fb j 3 1) (max 1 (s.fb j 4 1 : Int)) % 65536).toNat
    else (((s.tile j).xm % (max 1 (s.fb j 8 4 : Int))) * 65536 / (max 1 (s.fb j 8 4 : Int))).toNat
  let lead := s.leadOf (s.axisOf k)
  if s.tMode k = 2 then
    (if s.sensorOf k = 0 then own lead + s.thetaOffset lead + s.thetaOffset k else own k + s.thetaOffset k) % 65536
  else own k % 65536

/-- The commutation angle of a SIXSTEP tile (R304). -/
def State.sixAngle (s : State) (k : Nat) : Nat :=
  let adv := Int.tdiv (s.fbI k 44 4 * puPerS (s.axisVm (s.axisOf k))) 1000
  (((s.thetaE k : Int) + s.fbI k 40 2 + Int.tdiv adv 65536) % 65536).toNat

/-- Positive and negative leg (from 0) of a six-step sector (Table 12-6). -/
def sectorLegs (n : Nat) : Nat × Nat :=
  match n with
  | 0 => (0, 1) | 1 => (0, 2) | 2 => (1, 2) | 3 => (1, 0) | 4 => (2, 0) | _ => (2, 1)

/-- The sector of an angle (R304). -/
abbrev sectorOf (theta : Nat) : Nat := 6 * theta / 65536

/-- The leg voltages of a six-step drive with line voltage U, faded within SOFTEN of a sector boundary (R304). -/
def sixVoltages (theta soften : Nat) (u : Int) : List (Option Int) :=
  let n := sectorOf theta
  let base := fun (m j : Nat) => let e := sectorLegs (m % 6)
    if e.1 = j then some (Int.tdiv u 2) else if e.2 = j then some (-(Int.tdiv u 2)) else none
  -- the factor of R304 in halves: `num` / (2 x SOFTEN), and the leg floats where it is 0
  let scale := fun (x : Option Int) (num : Nat) => if num = 0 then none else x.map (fun y => Int.tdiv (y * num) (2 * soften))
  -- the nearest boundary: below, between sectors n - 1 and n, or above, between n and n + 1
  let below := theta - (65536 * n + 5) / 6
  let above := (65536 * (n + 1) + 5) / 6 - theta
  (List.range 3).map (fun j =>
    if soften = 0 then base n j
    else if 2 * below < soften then
      match base (n + 5) j, base n j with
      | some y, none => scale (some y) (soften - 2 * below)
      | none, some y => scale (some y) (soften + 2 * below)
      | _, z => z
    else if 2 * above ≤ soften then
      match base n j, base (n + 1) j with
      | some y, none => scale (some y) (soften + 2 * above)
      | none, some y => scale (some y) (soften - 2 * above)
      | z, _ => z
    else base n j)

/-- 65,536 x the sine of an angle. (DESIGN CHOICE: assumption 35) -/
def sinT (theta : Nat) : Int := Config.cosT ((theta + 49152) % 65536)

/-- Three sinusoidal leg voltages of amplitude U at an angle (R303). -/
def sineVoltages (u : Int) (theta : Nat) : List (Option Int) :=
  [some (mul16 u (Config.cosT (theta % 65536))), some (mul16 u (Config.cosT ((theta + 65536 * 2 / 3 + 1) % 65536))),
   some (mul16 u (Config.cosT ((theta + 65536 / 3 + 1) % 65536)))]

/-- The leg voltages of a tile with amplitude U (2^-16 mV) at its commutation angle, by mode (R303 to R305). -/
def State.legVoltages (s : State) (k : Nat) (u : Int) (theta : Nat) : List (Option Int) :=
  let m := s.tMode k
  if m = 1 then
    if s.fb k 2 1 = 2 then [some (mul16 u (Config.cosT (theta % 65536))), some (mul16 u (sinT theta)), some 0]
    else sineVoltages u theta
  else if m = 2 then sixVoltages theta (s.fb k 14 2) u
  else if m = 3 then sineVoltages u theta
  else [some (Int.tdiv u 2), some (-(Int.tdiv u 2)), none]

/-! ### AT_TARGET (R323) -/

/-- The station that names a tile in st.poly_tile. -/
def State.polyStation (s : State) (k : Nat) : Option Nat :=
  (s.units clsSTN).find? (fun n => s.par clsSTN n 0x011 == k)

/-- AT_TARGET of one axis object (Table 12-10). -/
def State.atTargetOne (s : State) (o : Nat) : Bool :=
  let a := s.axis o
  let k := s.leadOf o
  if s.tMode k = 3 then
    (s.poly k).stage == .sync && (s.poly k).rampEnd.isSome
      && (match s.polyStation k with
          | some n => (s.gear (obj clsSTN n)).master == 0 || (s.station n).regOk
          | none => true)
  else match a.state with
    | .idle | .atSpeed => true
    | .geared => (s.gear o).pend.isNone && !a.limited
        && (s.followTol k == 0 || decide (((s.gear o).s - s.axisXm o / q32).natAbs ≤ s.followTol k))
    | _ => false

/-! ### Poly speeds -/

/-- v_nom of the station a POLY tile serves (R316) in 2^-32 pu/s. -/
def State.vNom (s : State) (n : Nat) : Int :=
  let g := s.gear (obj clsSTN n)
  if g.master = 0 then
    let p := s.par clsSTN n 0x002
    if p = 0 then 0 else 65536 * 64 * 500000000 * q32 / (p : Int)
  else if g.d = 0 then 0
  else Int.tdiv (s.meRate (g.master - 1) * g.n * 500000000 * 65536) ((g.d : Int) * 65536)

/-- The speed that facet period P (1/64 tempo) stands for, in 2^-32 pu/s (R316). -/
def periodSpeed (p : Nat) : Int := if p = 0 then 0 else 65536 * 64 * 500000000 * q32 / (p : Int)

/-- The target speed of a POLY tile's ramp in 2^-32 pu/s: V_TARGET or v_nom (R313), and v_nom in SYNC and COAST (R316). -/
def State.polyTarget (s : State) (k : Nat) : Int :=
  let p := s.poly k
  let v := if p.stage = .sync ∨ p.stage = .coast then 0 else leAt p.start 24 4
  if v ≠ 0 then up32 v else match s.polyStation k with
    | some n => s.vNom n
    | none => 0

/-- Electrical frequency (1/65,536 cycle per s) as a speed in 2^-32 pu/s (R313). -/
def State.freqSpeed (s : State) (k : Nat) (f : Int) : Int :=
  match s.polyStation k with
  | some n => Int.tdiv (f * s.par clsSTN n 0x000) (max 1 (s.fb k 3 1 : Int)) * q32
  | none => 0

end Sys2Proof.Machine
end

