-- ==== Sys2Proof/Machine/Loops.lean ====
section
/-!
DEFINITION. Loop engines (chapter 13): the sample grid, measured currents, the polygon's angle and ramp (R314 to R316), speed
and position loops, notches, cogging and friction, current loops, plausibility, and the ageing monitors they feed (R388).
Currents are in 2^-16 cu, voltages in 2^-16 mV, speeds in 2^-32 pu/s; every product is truncated (R331).
-/
namespace Sys2Proof.Machine

/-! ### Grid and coefficients -/

/-- Member `j` of dt.loop.coef (Q16). -/
def State.coef (s : State) (k j : Nat) : Int := s.parI clsDT k (0x100 + j)

/-- I_MAX of a tile in 2^-16 cu, derated (R390): whole cu. -/
def State.iMax (s : State) (k : Nat) : Int := Int.fdiv (s.coef k 7 * (s.tile k).derate) (65536 * 65536) * 65536

/-- le.cur_period of a tile's engine. -/
def State.curPeriod (s : State) (k : Nat) : Nat := s.par clsLE (k / 8) 0x001

/-- k + 1 of the sample whose compute tempo is the present one (R325), if it is one. (DESIGN CHOICE: assumption 35) -/
def State.sampleNo (s : State) (k : Nat) : Option Nat :=
  let c0 := 68 + 64 * (k % 8)
  let p := 20 * s.curPeriod k
  if c0 + p ≤ s.tempo ∧ (s.tempo - c0) % p = 0 then some ((s.tempo - c0) / p) else none

/-- The tempo from which the voltages of sample `n` - 1 govern (R326). -/
def State.governs (s : State) (k n : Nat) : Tempo := 20 * n * s.curPeriod k + 640

/-- The loops of a tile are held (R338, R350). -/
def State.loopsHeld (s : State) (k : Nat) : Bool :=
  let st := (s.axis (s.axisOf k)).state
  (s.tile k).prot != .run || (s.isMotor k && (st == .held || st == .faulted)) || s.loopFault k

/-- The loops of a tile start anew: at every enable and at FAULT_CLEAR (R338). -/
def State.resetLoops (s : State) (k : Nat) : State :=
  s.updLoop k (fun l => { l with
    iV := 0, iI := 0, xCorr := 0, r := 0, notch1 := {}, notch2 := {}, posCount := 0, counts := [], satRun := 0
    condU := 0, condI := 0, condN := 0 })

/-! ### Measured currents (R329, Table 13-2) -/

/-- The measured value of a channel in cu: the mean of the outputs of the window. -/
def Sinc.mean (c : Sinc) : Int := if c.outs = 0 then c.last else roundDivI c.sum c.outs

/-- Channel `j` (0 to 2) of a tile. -/
def Tile.chan (t : Tile) (j : Nat) : Sinc := Map.get (fun _ => {}) t.sinc j

/-- The mode is one with a current loop (Table 13-2), in its present stage. -/
def State.currentMode (s : State) (k : Nat) : Bool :=
  let st := (s.poly k).stage
  s.tMode k == 2 || s.tMode k == 4 || (s.tMode k == 3 && (st == .observer || st == .sync || st == .coast))

/-- The current of a tile in 2^-16 cu from its legs' currents (Table 13-2). -/
def State.tileCurrent (s : State) (k : Nat) (m1 m2 m3 : Int) : Int :=
  let pick := fun (j : Nat) => if j = 0 then m1 else if j = 1 then m2 else m3
  if s.tMode k = 2 then
    let e := sectorLegs (sectorOf (s.sixAngle k))
    (pick e.1 - pick e.2) * 32768
  else if s.tMode k = 3 then
    let th := (s.poly k).thc
    Int.tdiv (2 * (m1 * Config.cosT (th % 65536) + m2 * Config.cosT ((th + 43691) % 65536)
      + m3 * Config.cosT ((th + 21846) % 65536))) 3
  else if s.tMode k = 4 then (m1 - m2) * 32768
  else 0

/-- Take the measured values of a sample. -/
def State.measure (s : State) (k : Nat) : State :=
  let t := s.tile k
  let m1 := (t.chan 0).mean
  let m2 := (t.chan 1).mean
  let m3 := (t.chan 2).mean
  s.updLoop k (fun l => { l with i1 := m1, i2 := m2, i3 := m3, i := s.tileCurrent k m1 m2 m3 })

/-! ### The polygon's angle and ramp (R313 to R317) -/

/-- The length of a sample of the tile, times a rate per second, truncated. -/
def State.perSample (s : State) (k : Nat) (rate : Int) : Int := Int.tdiv (rate * (20 * s.curPeriod k : Nat)) 500000000

/-- A difference of two angles, wrapped to ±32,768. -/
def wrapAngle (d : Int) : Int := sext 16 (wrapBits 16 d)

/-- x of a POLY tile in the beam-detect stages (R315), in pu, at a time in 1/64 tempo. -/
def State.polyX (s : State) (k : Nat) (now : Nat) : Nat :=
  let p := s.poly k
  65536 * p.nf + (if p.facetP = 0 then 0 else 65536 * (now - p.facetB) / p.facetP)

/-- θb of a POLY tile (R315). -/
def State.thetaB (s : State) (k x : Nat) : Nat :=
  match s.polyStation k with
  | some n => x * s.fb k 3 1 / max 1 (s.par clsSTN n 0x000) % 65536
  | none => 0

/-- HAND_FREQ, U0, K_VF and the other fields of the start profile (Table 12-8). -/
def PolySt.field (p : PolySt) (off n : Nat) : Nat := leAt p.start off n

/-- The knee of the ramp: V_KNEE, or the target speed (R313). -/
def State.polyKnee (s : State) (k : Nat) : Int :=
  let v := (s.poly k).field 36 4
  if v = 0 then s.polyTarget k else up32 v

/-- One sample of the speed ramp (R313, R316, R317). -/
def State.polyRamp (s : State) (k : Nat) : State :=
  let p := s.poly k
  if p.stopping then
    let v := max 0 (p.vRamp - s.perSample k (up32 (s.stopDecel k)))
    let s1 := s.setPoly k { p with vRamp := v, rampEnd := none }
    if v < s.freqSpeed k (p.field 12 4) then (s1.polyTo k .off).endRunout (obj clsDT k) 0 else s1
  else
    let target := s.polyTarget k
    if p.rampEnd.isSome then s.setPoly k { p with vRamp := target }
    else
      let a := up32 (if p.vRamp < s.polyKnee k then p.field 28 4 else p.field 32 4)
      let v := min target (p.vRamp + s.perSample k a)
      s.setPoly k { p with vRamp := v, rampEnd := if v = target then some s.tempo else none }

/-- One sample of BLIND (R314): the open-loop frequency and angle, and the comparison with the observer's angle. -/
def State.polyBlind (s : State) (k thetaO : Nat) (vo : Int) : State :=
  let p := s.poly k
  let hand : Nat := p.field 12 4 * 2 ^ 32
  let freq := min hand (p.freq + (s.perSample k (up32 (p.field 8 4))).toNat)
  let theta := (p.theta + (s.perSample k freq).toNat) % 2 ^ 48
  let thc : Nat := theta / 2 ^ 32
  let d := wrapAngle ((thetaO : Int) - (thc : Int))
  let agree := if freq = hand ∧ d.natAbs ≤ s.fb k 80 2 then p.agree + 1 else 0
  let p1 := { p with freq := freq, theta := theta, thc := thc, agree := agree }
  if agree ≥ s.fb k 82 2 ∧ freq = hand ∧ 1 ≤ agree then
    (s.setPoly k { p1 with delta := -d, vRamp := vo, vMeas := vo, rampEnd := none, agree := 0 }).polyTo k .observer
  else s.setPoly k p1

/-- One sample of OBSERVER (R314): the observer's angle with the offset that slews out, and the ramp. -/
def State.polyObserve (s : State) (k thetaO : Nat) (vo : Int) : State :=
  let p := s.poly k
  let slew : Int := s.fb k 84 2
  let delta := if 0 ≤ p.delta then max 0 (p.delta - slew) else min 0 (p.delta + slew)
  (s.setPoly k { p with
    delta := delta, vMeas := vo, thc := (((thetaO : Int) + delta) % 65536).toNat }).polyRamp k

/-- The polygon's angle for a sample. The observer's angle and speed are free values: the manual names its inputs and gives no
computation. (DESIGN CHOICE: assumption 35) -/
def State.polySample (s : State) (k : Nat) : State :=
  match (s.poly k).stage with
  | .align => s.updPoly k (fun p => { p with thc := 0 })
  | .blind =>
    let (a, s1) := s.fresh
    let (v, s2) := s1.fresh
    s2.polyBlind k (a % 65536) v
  | .observer =>
    let (a, s1) := s.fresh
    let (v, s2) := s1.fresh
    s2.polyObserve k (a % 65536) v
  | .sync | .coast =>
    let thb := s.thetaB k (s.polyX k (64 * s.tempo))
    (s.updPoly k (fun p => { p with
      thc := (thb + p.offset) % 65536, vMeas := periodSpeed p.facetP })).polyRamp k
  | _ => s

/-! ### References -/

/-- v of a tile's axis, signed, in 2^-32 pu/s; a POLY tile's is its ramp's. -/
def State.refV (s : State) (k : Nat) : Int :=
  if s.tMode k = 3 then (s.poly k).vRamp else let a := s.axis (s.axisOf k); a.v * a.dir

/-- a of a tile's axis in 2^-32 pu/s^2; a POLY tile's is its ramp's. -/
def State.refA (s : State) (k : Nat) : Int :=
  if s.tMode k = 3 then
    let p := s.poly k
    if p.stopping then -(up32 (s.stopDecel k))
    else if p.rampEnd.isSome then 0
    else up32 (if p.vRamp < s.polyKnee k then p.field 28 4 else p.field 32 4)
  else (s.axis (s.axisOf k)).a

/-- v_m of a tile: its axis's, or the measured speed of a POLY tile's stage (R316). -/
def State.measV (s : State) (k : Nat) : Int := if s.tMode k = 3 then (s.poly k).vMeas else s.axisVm (s.axisOf k)

/-- v_cmd without the position loop: v, or for a POLY tile its ramp and in SYNC and COAST the phase loop (R316). -/
def State.cmdV (s : State) (k : Nat) : Int :=
  if s.tMode k = 3 then
    let p := s.poly k
    let vmax := up32 (s.fb k 112 4)
    match p.stage, s.polyStation k with
    | .sync, some n | .coast, some n =>
      let e := if (s.gear (obj clsSTN n)).master = 0 then 0 else (s.station n).err
      p.vRamp + clampI (-vmax) vmax (s.fbI k 104 4 * e * 65536 + p.integ)
    | _, _ => p.vRamp
  else s.refV k

/-- Sign of a number. -/
def sgn (x : Int) : Int := if x < 0 then -1 else if x = 0 then 0 else 1

/-- A Q16 coefficient per 1,000 pu/s times a speed: in 2^-16. -/
def perSpeed (c v : Int) : Int := Int.tdiv (Int.tdiv (c * v) 1000) q32

/-! ### Notches (R334) -/

/-- The speed-sample rate in mHz, rounded down. -/
def State.speedRate (s : State) (k : Nat) : Nat := 25000000000 / (s.curPeriod k * s.par clsLE (k / 8) 0x002)

/-- A notch that its fields leave usable. -/
def State.notchUsable (s : State) (k : Nat) (f w d : Int) : Bool :=
  decide (10 * 65536 ≤ f) && decide (f * (s.curPeriod k * s.par clsLE (k / 8) 0x002 : Nat) * 10 ≤ 4 * 25000000 * 65536)
    && decide (0 < w) && decide (w < f) && decide (0 ≤ d) && decide (d ≤ 65536)

/-- One speed sample through a notch: the output and the notch after. -/
def Notch.run (z : Notch) (cs : List Int) (u : Int) : Int × Notch :=
  let c := fun (i : Nat) => cs.getD i 0
  let q := fun (a b : Int) => Int.tdiv (a * b) q32
  let y := q (c 0) u + q (c 1) z.u1 + q (c 2) z.u2 - q (c 3) z.y1 - q (c 4) z.y2
  (y, { z with u1 := u, u2 := z.u1, y1 := y, y2 := z.y1 })

/-- One speed sample at notch `n` (1 or 2) of a tile. (DESIGN CHOICE: assumption 35) -/
def State.notchStep (s : State) (k n : Nat) (z : Notch) (u : Int) : Int × Notch × State :=
  let sel := s.coef k 14 / 65536
  if sel ≠ n ∧ sel ≠ 3 then (u, {}, s)
  else
    let f := s.coef k (5 + 3 * n)
    let w := s.coef k (6 + 3 * n)
    let d := s.coef k (7 + 3 * n)
    let changed := !z.on || z.f != f || z.w != w || z.d != d
    let z1 : Notch := if z.on then { z with f := f, w := w, d := d }
      else { on := true, f := f, w := w, d := d, u1 := u, u2 := u, y1 := u, y2 := u }
    if s.notchUsable k f w d then
      let (y, z2) := z1.run (Config.notchCoef f w d (s.speedRate k)) u
      (y, z2, s)
    else
      (u, { z1 with u1 := u, u2 := u, y1 := u, y2 := u },
        if changed then s.raise { code := 0x0a02, obj := obj clsDT k, fields := [obj clsDT k, n, i64 f, i64 w, i64 d] } else s)

/-! ### Speed and position loops (R331, R339) -/

/-- The tile runs a speed loop now (Table 13-2); in COAST it holds its output (R317). -/
def State.speedMode (s : State) (k : Nat) : Bool :=
  let st := (s.poly k).stage
  s.tMode k == 2 || (s.tMode k == 4 && s.sensorOf k != 0) || (s.tMode k == 3 && (st == .observer || st == .sync))

/-- The position loop runs in this profile state (Table 13-2). -/
def State.posMode (s : State) (k : Nat) : Bool :=
  let st := (s.axis (s.axisOf k)).state
  (s.tMode k == 2 || s.tMode k == 4) && (st == .moving || st == .stopping || st == .idle || st == .geared)

/-- A position sample, when it is due. -/
def State.positionSample (s : State) (k : Nat) : State :=
  let l := s.loop k
  let due := decide (s.par clsLE (k / 8) 0x003 ≤ l.posCount + 1)
  let o := s.axisOf k
  let x := if !s.posMode k then 0
    else if due then Int.tdiv (s.coef k 4 * ((s.axis o).x - s.axisXm o)) 65536 else l.xCorr
  s.setLoop k { l with posCount := if due then 0 else l.posCount + 1, xCorr := x }

/-- A speed sample. -/
def State.speedLoop (s : State) (k : Nat) : State :=
  let l := s.loop k
  let iMax := s.iMax k
  let eV := s.cmdV k + l.xCorr - s.measV k
  let p := perSpeed (s.coef k 2) eV
  let iNew := l.iV + perSpeed (s.coef k 3) eV
  let raw := p + iNew
  let iV := if iMax < (raw.natAbs : Int) ∧ sgn eV = sgn raw then l.iV else iNew
  let (y1, n1, s1) := s.notchStep k 1 l.notch1 (clampI (-iMax) iMax (p + iV))
  let (y2, n2, s2) := s1.notchStep k 2 l.notch2 y1
  s2.updLoop k (fun l => { l with eV := eV, iV := iV, r := y2, notch1 := n1, notch2 := n2 })

/-- The speed sample of sample `n`, if this tile leads its axis and one is due (R327). -/
def State.speedSample (s : State) (k n : Nat) : State :=
  if s.leadOf (s.axisOf k) = k ∧ n % s.par clsLE (k / 8) 0x002 = 0 ∧ s.speedMode k then (s.positionSample k).speedLoop k
  else if s.speedMode k || (s.poly k).stage == .coast then s
  else s.updLoop k (fun l => { l with r := 0 })

/-! ### Cogging and friction (R335 to R337) -/

/-- PU_PER_REV that R337 expects of a tile's table; none where there is no check. -/
def State.expectedRev (s : State) (k : Nat) : Option Nat :=
  if s.tMode k = 2 then
    if s.sensorOf k = 1 then some (s.fb k 8 4 * s.fb k 3 1)
    else if s.sensorOf k = 2 then some (65536 * s.fb k 4 1) else none
  else if s.tMode k = 3 then (s.polyStation k).map (fun n => 65536 * s.par clsSTN n 0x000)
  else none

/-- A table in use does not match the revolution of its tile. -/
def State.tableMismatch (s : State) (id k : Nat) : Bool :=
  let rev := leAt (s.table id k) 0 4
  rev != 0 && (match s.expectedRev k with
    | some e => e != rev
    | none => false)

/-- Report a table in use that does not match (R337). -/
def State.checkTable (s : State) (id k : Nat) : State :=
  if s.tableMismatch id k && s.tMode k != 1 then
    s.raise { code := 0x0a03, obj := obj clsDT k
              fields := [obj clsDT k, id, leAt (s.table id k) 0 4, (s.expectedRev k).getD 0] }
  else s

/-- The position at which a tile uses its tables, in pu (R336); none in a polygon stage without beam detect. -/
def State.tableX (s : State) (k : Nat) : Option Int :=
  if s.tMode k = 3 then
    if (s.poly k).stage == .sync || (s.poly k).stage == .coast then some (s.polyX k (64 * s.tempo)) else none
  else some (s.xmOf k)

/-- The value of a table at a position in 2^-16 cu (R336). -/
def tableAt (tb : Bytes) (x : Int) : Int :=
  let rev := leAt tb 0 4
  if rev = 0 then 0
  else
    let p := ((x - (leAt tb 4 4 : Int)) % (rev : Int)).toNat
    let j := p * 1024 / rev
    let fr := p * 1024 - j * rev
    let e := fun (i : Nat) => sext 16 (leAt tb (8 + 2 * (i % 1024)) 2)
    e j * 65536 + Int.tdiv ((e (j + 1) - e j) * fr * 65536) (rev : Int)

/-- COGGING (0x05) or FRICTION (0x06) of a tile now, in 2^-16 cu. -/
def State.tableNow (s : State) (id k : Nat) : Int :=
  match s.tableX k with
  | some x => if s.tableMismatch id k then 0 else tableAt (s.table id k) x
  | none => 0

/-! ### Current loops (R331, R306) -/

/-- Count a hold at U_avail, or its absence, towards saturation of the axis (R306). -/
def State.saturate (s : State) (k : Nat) (run : Nat) (u avail : Int) : State :=
  let o := s.axisOf k
  let lead := s.leadOf o
  let lim := s.satSamples lead
  if 0 < run then
    let now := decide (lim ≤ run)
    let a := s.axis o
    let s1 := s.setAxis o { a with freeRun := 0, sat := a.sat || now }
    if run = lim then
      s1.raiseLimited { code := 0x0910, obj := o
                        fields := [o, obj clsDT k, i64 (Int.tdiv u 65536), i64 (Int.tdiv avail 65536)] } 1000000 0 true
    else s1
  else if k = lead then
    s.updAxis o (fun a => { a with freeRun := a.freeRun + 1, sat := a.sat && decide (a.freeRun + 1 < lim) })
  else s

/-- The share of the axis reference that a tile takes (R321, R339). -/
def State.shareNow (s : State) (k : Nat) : Int := if aCls (s.axisOf k) = clsGRP then s.shareOf k else 65536

/-- The lead's part of i_ref: r and the feed-forwards, in 2^-16 cu (R331). -/
def State.leadRef (s : State) (j : Nat) : Int :=
  (s.loop j).r + perSpeed (s.coef j 5) (s.refV j)
    + Int.tdiv (Int.tdiv (s.coef j 6 * s.refA j) 1000000) q32 + sgn (s.refV j) * s.tableNow 0x06 j

/-- What a member reads of its lead: as it stood at the end of the tempo before (R339). -/
def State.memberRef (s : State) (lead : Nat) : Int :=
  let l := s.loop lead
  if l.refAt = s.tempo then l.refOld else l.ref

/-- A current sample: U in 2^-16 mV after R306. -/
def State.currentLoop (s : State) (k : Nat) : State :=
  let l := s.loop k
  let iMax := s.iMax k
  let lead := s.leadOf (s.axisOf k)
  let ref := if lead = k then s.leadRef k else s.memberRef lead
  let iRef := clampI (-iMax) iMax (mul16 ref (s.shareNow k) + s.tableNow 0x05 k)
  let eI := iRef - l.i
  let ff := perSpeed (s.coef k 15) (s.measV k)
  let iNew := l.iI + mul16 (s.coef k 1) eI
  let avail := s.uAvail k
  let raw := mul16 (s.coef k 0) eI + iNew + ff
  let iI := if avail < (raw.natAbs : Int) ∧ sgn eI = sgn raw then l.iI else iNew
  let u := mul16 (s.coef k 0) eI + iI + ff
  let held := decide (avail < (u.natAbs : Int))
  let run := if held then l.satRun + 1 else 0
  let l1 := if lead = k then { l with ref := ref, refOld := l.ref, refAt := s.tempo } else l
  (s.setLoop k { l1 with iRef := iRef, iI := iI, u := clampI (-avail) avail u, satRun := run }).saturate k run u avail

/-! ### Plausibility (R340, R341) -/

/-- The rules of Table 13-6 whose condition holds in this sample, as bits 0 to 4. -/
def State.plausible (s : State) (k : Nat) : List Nat :=
  let l := s.loop k
  let m := s.tMode k
  let cur := s.currentMode k
  let iMax := s.iMax k
  let avail := s.uAvail k
  let sd := fun (n : Nat) => (List.range n).all (fun j => s.sdEn k j)
  let need := if m = 4 then sd 2 else sd 3
  let ke := s.coef k 15
  let st := (s.poly k).stage
  let abs := fun (x : Int) => (x.natAbs : Int)
  (if (m == 2 || m == 3 || (m == 1 && s.fb k 2 1 == 3)) && sd 3 && decide (1638 < abs (l.i1 + l.i2 + l.i3)) then [0] else [])
  ++ (if cur && need && decide (max (Int.tdiv iMax 4) (1024 * 65536) < abs (l.iRef - l.i)) && l.satRun == 0 then [1] else [])
  ++ (if cur && need && decide (avail ≤ 2 * abs l.u) && decide (abs l.i < 328 * 65536) then [2] else [])
  ++ (if (m == 2 || (m == 4 && s.sensorOf k == 1) || (m == 3 && (st == .sync || st == .coast))) && need && ke != 0
        && decide (10 * abs l.i < iMax) && decide (up32 (s.vLimit k) ≤ 10 * abs (s.measV k))
        && decide (avail < 5 * abs (l.u - perSpeed ke (s.measV k))) then [3] else [])
  ++ (if s.isMotor k && [(0, l.i1), (1, l.i2), (2, l.i3)].any (fun e => s.sdEn k e.1
        && decide (min (Int.tdiv (3 * iMax) 2) (31130 * 65536) < abs e.2 * 65536)) then [4] else [])

/-- The count of each rule of Table 13-6 that makes a fault. -/
def plausLimit (r : Nat) : Nat :=
  match r with
  | 0 => 8 | 1 => 64 | 2 => 256 | 3 => 256 | 4 => 4 | _ => 16

/-- le.plaus.mask has the rule of the tile's slot. -/
def State.ruleOn (s : State) (k r : Nat) : Bool := bit (s.par clsLE (k / 8) 0x004) (8 * (k % 8) + r)

/-- Supervise a sample of a tile whose loops run; a rule that reaches its count latches 0x0a01, and the axis coasts. -/
def State.supervise (s : State) (k : Nat) : State :=
  let l := s.loop k
  let on := s.plausible k
  let count := fun (r : Nat) =>
    if on.contains r && s.ruleOn k r then Map.get (fun _ => 0) l.counts r + 1 else 0
  let counts := (List.range 5).foldl (fun m r => Map.put (fun _ => 0) m r (count r)) ([] : Map Nat)
  let sd := s.ruleOn k 5 && (List.range 3).any (fun j => s.sdEn k j && decide (16 ≤ ((s.tile k).chan j).run))
  let hit := (List.range 5).filter (fun r => decide (plausLimit r ≤ count r)) ++ (if sd then [5] else [])
  let s1 := s.setLoop k { l with counts := counts }
  if hit.isEmpty || s1.latched 0x0a01 (obj clsDT k) then s1
  else
    let mask := hit.foldl (fun a r => a + 2 ^ r) 0
    let cu := fun (x : Int) => i64 (Int.tdiv x 65536)
    let s2 := s1.raise { code := 0x0a01, obj := obj clsDT k, latch := [obj clsDT k]
                         fields := [obj clsDT k, mask, cu l.i, cu l.iRef, cu l.u, s.tempo] }
    if s.isMotor k then s2.coastAxis (s.axisOf k) else s2

/-! ### Ageing monitors (R388) -/

/-- The conduction index: 64 samples in a row at rest with |i| of at least I_MAX / 4. -/
def State.ageConduction (s : State) (k : Nat) : State :=
  let l := s.loop k
  if s.currentMode k && s.refV k == 0 && decide (s.coef k 7 ≤ 4 * (l.i.natAbs : Int)) then
    let n := l.condN + 1
    let su := l.condU + l.u
    let si := l.condI + l.i
    if n = 64 then
      let s1 := s.setLoop k { l with condN := 0, condU := 0, condI := 0 }
      if si = 0 then s1 else s1.age (ageTile k) (wrapBits 32 (Int.tdiv (su * 1000) si))
    else s.setLoop k { l with condN := n, condU := su, condI := si }
  else s.setLoop k { l with condN := 0, condU := 0, condI := 0 }

/-- Polygon friction: the mean |i| of a second in SYNC after the ramp has ended, at most once per 60 s. -/
def State.ageFriction (s : State) (k : Nat) : State :=
  let l := s.loop k
  let p := s.poly k
  if s.tMode k == 3 && p.stage == .sync && p.rampEnd.isSome then
    match l.fricAt with
    | none => s.setLoop k { l with fricAt := some s.tempo, fricSum := l.i.natAbs, fricN := 1 }
    | some t =>
      let sum := l.fricSum + l.i.natAbs
      let n := l.fricN + 1
      if t + 500000000 ≤ s.tempo then
        let may := match l.fricPost with
          | none => true
          | some q => decide (q + 30000000000 ≤ s.tempo)
        let s1 := s.setLoop k { l with
          fricAt := some s.tempo, fricSum := 0, fricN := 0, fricPost := if may then some s.tempo else l.fricPost }
        if may then s1.age (agePoly k) (sum / n / 65536) else s1
      else s.setLoop k { l with fricSum := sum, fricN := n }
  else s.setLoop k { l with fricAt := none, fricSum := 0, fricN := 0 }

/-! ### Drive of the motor modes -/

/-- STEP's amplitude in 2^-16 mV (R303), the lead's with the tile's share (R321). -/
def State.stepU (s : State) (k : Nat) : Int :=
  let lead := s.leadOf (s.axisOf k)
  let v := s.refV k
  mul16 (if v = 0 then (s.fb lead 24 4 : Int) * 65536
    else (s.fb lead 28 4 : Int) * 65536 + perSpeed (s.fbI lead 32 4) (v.natAbs : Int)) (s.shareNow k)

/-- STEP's angle: θe of x and K_LAG x v / 1,000 as an angle (R303). -/
def State.stepTheta (s : State) (k : Nat) : Nat :=
  let lag := perSpeed (s.fbI k 36 4) (s.refV k)
  let cyc : Int := max 1 (512 * (s.fb k 2 1 : Int))
  (((s.thetaE k : Int) + Int.tdiv lag cyc) % 65536).toNat

/-- The amplitude of ALIGN and BLIND from the start profile, in 2^-16 mV (Tables 12-7 and 12-8). -/
def State.polyU (s : State) (k : Nat) : Int :=
  let p := s.poly k
  if p.stage = .align then
    let ramp := p.field 4 2 * 500000
    if ramp = 0 then (p.field 0 4 : Int) * 65536
    else Int.tdiv ((p.field 0 4 : Int) * 65536 * (min ramp (s.tempo - p.entered) : Nat)) ramp
  else (p.field 16 4 : Int) * 65536 + Int.tdiv (sext 32 (p.field 20 4) * p.freq) (65536 * q32)

/-- Hold an amplitude that no loop supplies at U_avail, and count the hold (R306). -/
def State.holdU (s : State) (k : Nat) (u : Int) : Int × State :=
  let avail := s.uAvail k
  let run := if avail < (u.natAbs : Int) then (s.loop k).satRun + 1 else 0
  (clampI (-avail) avail u, (s.updLoop k (fun l => { l with satRun := run })).saturate k run u avail)

/-- Hand a motor tile's voltages of sample `n` to its modulator. -/
def State.driveMotor (s : State) (k n : Nat) : State :=
  let start := s.governs k n
  if s.tMode k = 1 then
    s.driveLegs k (s.legVoltages k (clampI (-(s.uAvail k)) (s.uAvail k) (s.stepU k)) (s.stepTheta k)) start
  else if s.tMode k = 2 then
    if (s.tile k).aligning.isSome then
      let (u, s1) := s.holdU k ((s.fb k 24 4 : Int) * 65536)
      s1.driveLegs k (sixVoltages 0 (s.fb k 14 2) u) start
    else s.driveLegs k (s.legVoltages k (s.loop k).u (s.sixAngle k)) start
  else if s.tMode k = 3 then
    match (s.poly k).stage with
    | .align | .blind =>
      let (u, s1) := s.holdU k (s.polyU k)
      s1.driveLegs k (s.legVoltages k u (s.poly k).thc) start
    | .observer | .sync | .coast => s.driveLegs k (s.legVoltages k (s.loop k).u (s.poly k).thc) start
    | _ => s
  else s.driveLegs k (s.legVoltages k (s.loop k).u 0) start

/-- A motor tile's sample `n`. -/
def State.motorSample (s : State) (k n : Nat) : State :=
  if s.loopsHeld k then (s.measure k).updLoop k (fun l => { l with counts := [] })
  else
    let s1 := (if s.tMode k = 3 then s.polySample k else s).measure k
    let s2 := if (s1.tile k).aligning.isSome then s1 else s1.speedSample k n
    let s3 := if s2.currentMode k && (s2.tile k).aligning.isNone then s2.currentLoop k else s2
    let s4 := ((s3.ageConduction k).ageFriction k).supervise k
    if s4.loopsHeld k then s4 else s4.driveMotor k n

/-- le.tap_value of a tile's sample, in the unit of Table 13-8. -/
def State.tapValue (s : State) (k q : Nat) : Int :=
  let l := s.loop k
  clampI s32Min s32Max (
    if q = 0 then Int.tdiv l.i 65536 else if q = 1 then Int.tdiv l.iRef 65536 else if q = 2 then Int.tdiv l.u 65536
    else if q = 3 then puPerS l.eV else if q = 4 then Int.tdiv l.iV 65536 else if q = 5 then Int.tdiv l.iI 65536
    else if q = 6 then l.i1 else if q = 7 then l.i2 else l.i3)

/-- Update the tap of the tile's engine when it taps this slot. -/
def State.tap (s : State) (k : Nat) : State :=
  let t := s.par clsLE (k / 8) 0x005
  if field t 0 3 = k % 8 then
    { s with drive := { s.drive with
      leTap := Map.put (fun _ => (0, 0)) s.drive.leTap (k / 8) (s.tapValue k (field t 4 4), s.tempo) } }
  else s

end Sys2Proof.Machine
end

