-- ==== Sys2Proof/Machine/Memory.lean ====
section
/-!
DEFINITION. Memory integrity (chapter 17): the memory instances, the SECDED check (R394), words never written (R395), the
merge buffer (R396, R397), reporting (R398, R399) and the page store's address map (R158).
-/
namespace Sys2Proof.Machine

/-- The one form of the memories: instances and words listed in rising order, none as an unlisted one reads. -/
def Memory.wf (ms : Map Mem) : Bool :=
  Map.wf (fun _ => ({} : Mem)) ms && ms.all (fun e => Map.wf (fun _ => (none : Option (Nat × Nat))) e.2.words)

/-! ### Instances and addresses -/

/-- First store address of CH1 (Table 7-1). -/
abbrev ch1Base : Nat := 0x800000000

/-- Bytes of one GiB. -/
abbrev gib : Nat := 0x40000000

/-- A DDR5 channel is present, trained and in service (R160). -/
def State.chHere (s : State) (c : Nat) : Bool :=
  if c = 0 then !s.store.out0 else decide (c < s.nCh) && !s.store.out1

/-- The trained capacity of a channel in bytes (Table 3-6). -/
def State.chBytes (s : State) (c : Nat) : Nat :=
  if s.chHere c then (if c = 0 then s.store.gib0 else s.store.gib1) * gib else 0

/-- The size in bytes of an instance (Table 17-1). -/
def State.memSize (s : State) (i : Nat) : Nat :=
  if i < 8 then 0x200000 else if i = 8 then 0x40000 else if i = 9 then 0x200000 else if i = 10 then 0x40000
  else if i = 11 then 0x10000 else if i = 12 then 0x1000000 else if i ≤ 16 then 0x10000 else if i = 17 then 0x100000
  else if i = 18 then 0x40000 else if i = 19 then 0x80000 else if i = 20 then 0x10000 else if i = 21 then 0x8000
  else if i = 22 then s.chBytes 0 else if i = 23 then s.chBytes 1 else 0

/-- The lowest address of an instance: a byte offset, or a store address (Table 17-1). -/
def memBase (i : Nat) : Nat := if i = 23 then ch1Base else 0

/-- The instance is present and in service (R394). -/
def State.memHere (s : State) (i : Nat) : Bool :=
  if i < 8 then s.inService clsSTN i
  else if i = 22 then s.chHere 0 else if i = 23 then s.chHere 1 else decide (i < 24)

/-- A byte range lies in an instance. -/
def State.memRange (s : State) (i a n : Nat) : Bool :=
  decide (memBase i ≤ a) && decide (a + n ≤ memBase i + s.memSize i)

/-- The instance of a store address. -/
def storeInst (a : Nat) : Nat := if a < ch1Base then 22 else 23

/-- A store range is there: not absent and not across a channel boundary (R158). -/
def State.storeRange (s : State) (a n : Nat) : Bool := s.memRange (storeInst a) a n

/-- A store range touches the 16 MiB that firmware keeps (R158). -/
def inFirmware (a : Nat) : Bool := decide (a < 0x1000000)

/-! ### The check -/

/-- The columns of odd weight that a data bit may have: those of one bit are the check bits' own (R394). -/
def oddColumns : List Nat :=
  (List.range 256).filter (fun x => let n := ((List.range 8).filter (bit x)).length; n % 2 == 1 && n != 1)

/-- Take `n` different elements of a list, each by a free choice. -/
def pickFrom : Nat → List Nat → List Nat
  | 0, _ => []
  | n + 1, xs => let i := Config.eccPick n % xs.length; xs.getD i 0 :: pickFrom n (xs.eraseIdx i)

/-- The columns of the 64 data bits. (DESIGN CHOICE: assumption 16) -/
def eccColumns : List Nat := pickFrom 64 oddColumns

/-- The check bits of a word (R394): the sum of the columns of its bits. -/
def eccOf (d : Nat) : Nat := ((List.range 64).zip eccColumns).foldl (fun c e => if bit d e.1 then Nat.xor c e.2 else c) 0

/-- How the checker judges a stored word (R394). -/
inductive Judged where
  | clean | ce (bit : Nat) | ue | other
  deriving DecidableEq, Repr

/-- Flip one of the 72 bits of a word: 0 to 63 data, 64 to 71 check. -/
def flip72 (w : Nat × Nat) (i : Nat) : Nat × Nat :=
  if i < 64 then (Nat.xor w.1 (2 ^ i), w.2) else (w.1, Nat.xor w.2 (2 ^ (i - 64)))

/-- The word is a valid codeword. -/
def codeword (w : Nat × Nat) : Bool := w.2 == eccOf w.1

/-- The bit whose flip makes the word valid. -/
def oneBit (w : Nat × Nat) : Option Nat := (List.range 72).find? (fun i => codeword (flip72 w i))

/-- Two flips make the word valid. -/
def twoBits (w : Nat × Nat) : Bool := (List.range 72).any (fun i => (oneBit (flip72 w i)).isSome)

/-- The outcome of R394: `other` is a difference in three or more bits, which may be reported in any way. -/
def judge (w : Nat × Nat) : Judged :=
  if codeword w then .clean else match oneBit w with
    | some i => .ce i
    | none => if twoBits w then .ue else .other

/-! ### Stored words -/

/-- The stored word at a word address. A word that nothing has written holds arbitrary data (R395), a free value; one that
firmware wrote before Standby holds valid data that the manual does not give. (DESIGN CHOICE: assumption 16) -/
def State.wordAt (s : State) (i w : Nat) : (Nat × Nat) × State :=
  match Map.get (fun _ => (none : Option (Nat × Nat))) (s.mem i).words w with
  | some v => (v, s)
  | none =>
    if (s.mem i).zeroed then ((0, eccOf 0), s)
    else
      let (d, s1) := s.fresh
      let d := d % 2 ^ 64
      if (s.mem i).written then ((d, eccOf d), s1)
      else let (c, s2) := s1.fresh; ((d, c % 256), s2)

/-- Store a word as given. -/
def State.putWord (s : State) (i w : Nat) (v : Nat × Nat) : State :=
  s.updMem i (fun m => { m with words := Map.put (fun _ => none) m.words w (some v) })

/-- Store a word with fresh check bits. -/
def State.writeWord (s : State) (i w d : Nat) : State := s.putWord i w (d % 2 ^ 64, eccOf d)

/-! ### Reporting (R398, R399) -/

/-- Count and report a correctable error. The last-error fields keep a UE of the same tempo (R398). -/
def State.reportCe (s : State) (i a bitNo reader : Nat) : State :=
  let m := s.mem i
  let recent := s.tempo :: m.ces.filter (fun t => decide (s.tempo < t + 500000000))
  let ue := decide (0 < m.ueNew.now s.tempo)
  let s1 := s.setMem i { m with
    ceSeen := true, ceCount := satAdd 32 m.ceCount 1, ceNew := m.ceNew.add s.tempo, ces := recent
    last := if ue then m.last else a, info := if ue then m.info else bitNo + reader * 0x100 }
  let s2 := s1.raiseLimited { code := 0x0e01, fields := [i, a, bitNo] } 1000000 i true
  if s.param (addr clsDEV 0 0x080) < recent.length then
    s2.raiseLimited { code := 0x0e02, fields := [i, recent.length] } 500000000 i
  else s2

/-- Some instance's UE_SEEN is 1: FAULT_HW.ECC_UE (R398). -/
def State.anyUe (s : State) : Bool := s.mems.any (fun e => e.2.ueSeen)

/-- Count and report an uncorrectable error: reader code, what it affects, and the objects it latches a fault on. (DEDUCED: assumption 39) -/
def State.reportUe (s : State) (i a reader : Nat) (what : Nat := objDEV) (latch : List Nat := []) (sheet : Bool := false) :
    State :=
  let m := s.mem i
  let s1 := s.setMem i { m with
    ueSeen := true, ueCount := satAdd 32 m.ueCount 1, ueNew := m.ueNew.add s.tempo, last := a, info := 0x7f + 0x80 + reader * 0x100 }
  let s2 := if s.anyUe then s1 else s1.signal 0
  s2.raise { code := 0x0e10, fields := [i, a, reader, what], latch := latch, sheet := sheet }

/-- What a read answers: data, class (0 none, 1 CE, 2 UE) and the bit corrected (Table 17-2). -/
structure Read where
  data : Nat
  cls : Nat
  bitNo : Nat
  deriving DecidableEq, Repr

/-- Read a word through the checker, without report. A word that differs in three or more bits answers in one of the ways
R394 allows, by a free value. -/
def State.checkedWord (s : State) (i w : Nat) : Read × State :=
  let (v, s1) := s.wordAt i w
  match judge v with
  | .clean => ({ data := v.1, cls := 0, bitNo := 0 }, s1)
  | .ce b => ({ data := (flip72 v b).1, cls := 1, bitNo := b }, s1)
  | .ue => ({ data := v.1, cls := 2, bitNo := 0x7f }, s1)
  | .other =>
    let (k, s2) := s1.fresh
    let (b, s3) := s2.fresh
    if k % 3 = 0 then ({ data := v.1, cls := 0, bitNo := 0 }, s3)
    else if k % 3 = 1 then ({ data := (flip72 v (b % 72)).1, cls := 1, bitNo := b % 72 }, s3)
    else ({ data := v.1, cls := 2, bitNo := 0x7f }, s3)

/-- The address of a word (Table 17-1: a byte offset or a store address). -/
abbrev wordAddr (w : Nat) : Nat := 8 * w

/-- Report what a read met. -/
def State.report (s : State) (i w reader : Nat) (r : Read) (what : Nat := objDEV) (latch : List Nat := []) : State :=
  if r.cls = 1 then s.reportCe i (wordAddr w) r.bitNo reader
  else if r.cls = 2 then s.reportUe i (wordAddr w) reader what latch
  else s

/-! ### The merge buffer (R396, R397) -/

/-- Byte `j` of a word. -/
def byteOf (d j : Nat) : Nat := field d (8 * j) 8

/-- The bytes of `new` selected by a mask, over `old`. -/
def mergeBytes (old new mask : Nat) : Nat :=
  ofLE ((List.range 8).map (fun j => BitVec.ofNat 8 (byteOf (if bit mask j then new else old) j)))

/-- Check bits that make a word read as a UE: two of them are wrong (R397). Which two is a free value. -/
def State.badCheck (s : State) (d : Nat) : Nat × State :=
  let (a, s1) := s.fresh
  let (b, s2) := s1.fresh
  (Nat.xor (Nat.xor (eccOf d) (2 ^ (a % 8))) (2 ^ ((a % 8 + 1 + b % 7) % 8)), s2)

/-- Writes that no merge-buffer entry holds bytes of any more have arrived (R396); the second list is what was still
merging before. -/
def State.settle (s : State) (seqs : List Nat) : State :=
  let held := s.mems.flatMap (fun e => e.2.merge.flatMap (fun x => x.seqs))
  { s with store := { s.store with
    flights := s.store.flights.filter (fun f => !(f.merging && seqs.contains f.seq && !held.contains f.seq)) } }

/-- The channels whose store writes an entry holds. -/
def State.channelsOf (s : State) (seqs : List Nat) : List Nat :=
  (s.store.flights.filter (fun f => seqs.contains f.seq)).map (fun f => f.ch)

/-- Drain one entry (R396). A UE met by the read is kept visible, counts with reader 0x6, and marks the descriptors whose
write it is (R397). (DEDUCED: assumption 39) -/
def State.drainEntry (s : State) (i : Nat) (e : Merge) : State :=
  let s1 := s.updMem i (fun m => { m with merge := m.merge.filter (fun x => x.word != e.word) })
  if e.mask = 0xff then (s1.writeWord i e.word e.data).settle e.seqs
  else
    let (r, s2) := s1.checkedWord i e.word
    let s3 := s2.report i e.word 0x6 r
    let d := mergeBytes r.data e.data e.mask
    if r.cls = 2 then
      let (c, s4) := s3.badCheck d
      let s5 := s4.putWord i e.word (d, c)
      ((s5.channelsOf e.seqs).foldl
        (fun u ch => u.updDma ch (fun x => { x with cause := if x.cause = 0 then 7 else x.cause })) s5).settle e.seqs
    else (s3.writeWord i e.word d).settle e.seqs

/-- Drain the entry that holds a word, if one does (a read reaches its word). -/
def State.drainWord (s : State) (i w : Nat) : State :=
  match (s.mem i).merge.find? (fun e => e.word == w) with
  | some e => s.drainEntry i e
  | none => s

/-- Write some bytes of a word: the whole word at once, or through the merge buffer. With all 8 entries in use, the oldest
drains first. -/
def State.writeMasked (s : State) (i w d mask seq : Nat) : State :=
  if mask = 0xff then (s.updMem i (fun m => { m with merge := m.merge.filter (fun x => x.word != w) })).writeWord i w d
  else match (s.mem i).merge.find? (fun e => e.word == w) with
    | some e =>
      let e' := { e with mask := Nat.lor e.mask mask, data := mergeBytes e.data d mask, seqs := e.seqs ++ [seq] }
      let s1 := s.updMem i (fun m => { m with merge := m.merge.map (fun x => if x.word = w then e' else x) })
      if e'.mask = 0xff then s1.drainEntry i e' else s1
    | none =>
      let s1 := match (s.mem i).merge with
        | e :: _ => if 8 ≤ (s.mem i).merge.length then s.drainEntry i e else s
        | [] => s
      s1.updMem i (fun m => { m with
        merge := m.merge ++ [{ word := w, mask := mask, data := d, since := s.tempo, seqs := [seq] }] })

/-- The words that a byte range touches, each with the bytes it covers as a mask and their data. -/
def wordsOf (a : Nat) (d : Bytes) : List (Nat × Nat × Nat) :=
  if d.isEmpty then [] else
    (List.range ((a + d.length - 1) / 8 - a / 8 + 1)).map (fun k =>
      let w := a / 8 + k
      let inside := fun j => decide (a ≤ 8 * w + j) && decide (8 * w + j < a + d.length)
      (w, ofLE ((List.range 8).map (fun j => if inside j then d.getD (8 * w + j - a) 0 else 0)),
        (List.range 8).foldl (fun m j => if inside j then m + 2 ^ j else m) 0))

/-- Write bytes to an instance for store write `seq`. -/
def State.memWrite (s : State) (i a : Nat) (d : Bytes) (seq : Nat) : State :=
  (wordsOf a d).foldl (fun u x => u.writeMasked i x.1 x.2.1 x.2.2 seq) s

/-- Read one word as a reader does: its merge entry drains first, and what the checker finds is reported. -/
def State.readWord (s : State) (i w reader : Nat) (what : Nat := objDEV) (latch : List Nat := []) : Read × State :=
  let (r, s1) := (s.drainWord i w).checkedWord i w
  (r, s1.report i w reader r what latch)

/-- Read words in ascending order: their bytes, and the first that had a UE. -/
def State.readWords (s : State) (i reader : Nat) (what : Nat) (latch : List Nat) : List Nat → Bytes × Option Nat × State
  | [] => ([], none, s)
  | w :: ws =>
    let (r, s1) := s.readWord i w reader what latch
    let (bs, bad, s2) := s1.readWords i reader what latch ws
    (toLE 8 r.data ++ bs, if r.cls = 2 then some w else bad, s2)

/-- Read bytes of an instance: the bytes, how many of them stand before the first word with a UE if there is one, and the state
after. -/
def State.memScan (s : State) (i a n reader : Nat) (what : Nat := objDEV) (latch : List Nat := []) : Bytes × Option Nat × State :=
  if n = 0 then ([], none, s)
  else
    let ws := (List.range ((a + n - 1) / 8 - a / 8 + 1)).map (fun k => a / 8 + k)
    let (bs, bad, s1) := s.readWords i reader what latch ws
    (bytesAt bs (a % 8) n, bad.map (fun w => 8 * w - a), s1)

/-- Read bytes of an instance: the bytes, whether a word had a UE, and the state after. -/
def State.memRead (s : State) (i a n reader : Nat) (what : Nat := objDEV) (latch : List Nat := []) : Bytes × Bool × State :=
  let r := s.memScan i a n reader what latch
  (r.1, r.2.1.isSome, r.2.2)

/-- Read bytes of the page store. -/
def State.storeRead (s : State) (a n reader : Nat) (what : Nat := objDEV) (latch : List Nat := []) : Bytes × Bool × State :=
  s.memRead (storeInst a) a n reader what latch

/-! ### Test port (R400) and registers -/

/-- Test mode may be switched on now (R400). (DEDUCED: assumption 39) -/
def State.testAllowed (s : State) (i : Nat) : Bool :=
  (s.mem i).scrub.isNone
    && ((decide (i ≤ 11 ∨ (17 ≤ i ∧ i ≤ 21)) && s.md.mode == .configure)
      || (decide (i = 22 ∨ i = 23) && (s.md.mode == .configure || s.md.mode == .standby)))

/-- The ECC registers of an instance are open: DRAM_OK (R54), and the instance is there (R394). -/
def State.eccOpen (s : State) (i : Nat) : Bool := s.md.dramOk && s.memHere i

/-- Begin a test operation: only while TEST is 1; DONE clears at GO. -/
def State.testGo (s : State) (i op : Nat) (act : State → Nat → State) : State :=
  if s.eccOpen i && (s.mem i).test then
    let s1 := s.updMem i (fun m => { m with op := op, done := false, testBusy := true })
    let a := (s.mem i).tAddr
    if s.memRange i a 8 then act (s1.drainWord i (a / 8)) (a / 8)
    else s1.updMem i (fun m => { m with done := true, testBusy := false })
  else s

/-- READ_RAW: DATA and CHECK receive the stored bits. -/
def State.testReadRaw (s : State) (i : Nat) : State :=
  s.testGo i 0 (fun u w =>
    let (v, u1) := u.wordAt i w
    u1.updMem i (fun m => { m with tData := v.1, tCheck := v.2 }))

/-- READ_CHECKED: a normal read with reader 0xe; RESULT receives its class and bit. -/
def State.testReadChecked (s : State) (i : Nat) : State :=
  s.testGo i 1 (fun u w =>
    let (r, u1) := u.readWord i w 0xe
    u1.updMem i (fun m => { m with tData := r.data, tClass := r.cls, tBit := r.bitNo }))

/-- WRITE_DATA: DATA is stored and the check bits are kept. -/
def State.testWriteData (s : State) (i : Nat) : State :=
  s.testGo i 2 (fun u w => let (v, u1) := u.wordAt i w; u1.putWord i w ((s.mem i).tData, v.2))

/-- WRITE_CHECK: CHECK is stored and the data bits are kept. -/
def State.testWriteCheck (s : State) (i : Nat) : State :=
  s.testGo i 3 (fun u w => let (v, u1) := u.wordAt i w; u1.putWord i w (v.1, (s.mem i).tCheck))

/-- WRITE_RAW: DATA and CHECK are stored as given. -/
def State.testWriteRaw (s : State) (i : Nat) : State :=
  s.testGo i 4 (fun u w => u.putWord i w ((s.mem i).tData, (s.mem i).tCheck))

/-- WRITE_NORMAL: DATA is stored with the check bits the code gives. -/
def State.testWriteNormal (s : State) (i : Nat) : State :=
  s.testGo i 5 (fun u w => u.writeWord i w (s.mem i).tData)

/-- The operation of Table 17-4 by its code; a reserved one does nothing and leaves DONE at 1. -/
def State.testOp (s : State) (i op : Nat) : State :=
  if op = 0 then s.testReadRaw i else if op = 1 then s.testReadChecked i else if op = 2 then s.testWriteData i
  else if op = 3 then s.testWriteCheck i else if op = 4 then s.testWriteRaw i else if op = 5 then s.testWriteNormal i
  else if s.eccOpen i && (s.mem i).test then s.updMem i (fun m => { m with done := true }) else s

/-- Test mode ends for every instance (R401). -/
def State.endTests (s : State) : State :=
  { s with mems := Map.mapV (fun _ => {}) s.mems (fun _ m => { m with test := false }) }

end Sys2Proof.Machine
end

