-- ==== Sys2Proof/Machine/Heat.lean ====
section
/-!
DEFINITION. HEAT and HV tiles (chapter 14), and CURRENT_SAMPLE, which computes a tile of any mode (R325).
-/
namespace Sys2Proof.Machine

/-! ### FB_SCALE of HEAT and HV (Tables 14-1 to 14-3) -/

/-- F_MIN, F_MAX in Hz. -/
def State.fMin (s : State) (k : Nat) : Nat := s.fb k 8 4
def State.fMax (s : State) (k : Nat) : Nat := s.fb k 12 4

/-- Zones in use. -/
def State.zones (s : State) (k : Nat) : Nat := s.fb k 1 1

/-- A field of zone descriptor `z` (Table 14-2). -/
def State.zone (s : State) (k z off n : Nat) : Nat := s.fb k (64 + 32 * z + off) n
def State.zoneI (s : State) (k z off n : Nat) : Int := s.fbI k (64 + 32 * z + off) n

/-- A field of leg descriptor `j`, from 0 (Table 14-3). -/
def State.legF (s : State) (k j off n : Nat) : Nat := s.fb k (64 + 32 * j + off) n
def State.legFI (s : State) (k j off n : Nat) : Int := s.fbI k (64 + 32 * j + off) n

/-- The last temperature of a zone in m degC. -/
def State.zoneTemp (s : State) (k z : Nat) : Int := Map.get (fun _ => 0) (s.heat k).temps z

/-- A temperature in m degC as 2^-16 degC. -/
def degC (m : Int) : Int := Int.tdiv (m * 65536) 1000

/-- SETPOINT of a HEAT tile, 2^-16 degC, or of a leg, 2^-16 ou. -/
def State.setpoint (s : State) (k j : Nat) : Int := s.coef k (if s.tMode k = 6 then 5 * j else 0)

/-- Move towards a target by at most a step; a step of 0 or less jumps when `jump`. -/
def stepTowards (x target step : Int) : Int :=
  if x < target then min target (x + step) else max target (x - step)

/-! ### Settling windows (R352, R356) -/

/-- SETTLE_MS in tempo. -/
def State.settleT (s : State) (k : Nat) : Nat := s.fb k 52 4 * 500000

/-- Every zone in use lies within its band now (R352). -/
def State.zonesIn (s : State) (k : Nat) : Bool :=
  (List.range (s.zones k)).all (fun z =>
    decide ((degC (s.zoneTemp k z) - (s.setpoint k 0 + degC (s.zoneI k z 20 4))).natAbs ≤ (s.coef k 2).natAbs))

/-- What R352 asks beside the settle time: the output on, the scan passed, sp_eff at SETPOINT, and the zones in their bands. -/
def State.heatIn (s : State) (k : Nat) : Bool :=
  let h := s.heat k
  (s.tile k).outOn && h.scanned && h.spEff == s.setpoint k 0 && s.zonesIn k

/-- The temperature of the control zone. -/
def State.ctrlTemp (s : State) (k : Nat) : Int := s.zoneTemp k (s.fb k 2 1)

/-- The tempo since which a condition has held without a break. -/
def since (old : Option Tempo) (now : Tempo) (holds : Bool) : Option Tempo :=
  if holds then (if old.isNone then some now else old) else none

/-- Follow the window of a HEAT tile: the zones' settle time, and the end of IN_WINDOW. -/
def State.heatWindow (s : State) (k : Nat) : State :=
  let h := s.heat k
  let ok := s.heatIn k
  let s1 := s.setHeat k { h with okSince := since h.okSince s.tempo (s.zonesIn k), inWindow := h.inWindow && ok }
  if h.inWindow && !ok then
    s1.raise { code := 0x0b05, obj := obj clsDT k, fields := [obj clsDT k, 0, i64 (s.ctrlTemp k)] }
  else s1

/-- The output of a leg is on and y lies in its band now (R356). -/
def State.yIn (s : State) (k j : Nat) : Bool :=
  let l := s.leg (4 * k + j)
  l.on && decide ((l.y - s.setpoint k j).natAbs ≤ (s.coef k (5 * j + 2)).natAbs)

/-- What R356 asks of a leg beside the settle time. -/
def State.legIn (s : State) (k j : Nat) : Bool := s.yIn k j && (s.leg (4 * k + j)).spEff == s.setpoint k j

/-- A leg keeps IN_WINDOW, or leaves it. -/
def State.legKeep (s : State) (k j : Nat) (ok : Bool) : State :=
  let l := s.leg (4 * k + j)
  let s1 := s.setLeg (4 * k + j) { l with inWindow := l.inWindow && ok }
  if l.inWindow && !ok then
    s1.raise { code := 0x0b13, obj := obj clsDT k, fields := [obj clsDT k, j + 1, 0, i64 (Int.tdiv l.y 65536)] }
  else s1

/-- Follow the window of a leg: its settle time, and the end of IN_WINDOW. -/
def State.legWindow (s : State) (k j : Nat) : State :=
  (s.updLeg (4 * k + j) (fun l => { l with okSince := since l.okSince s.tempo (s.yIn k j) })).legKeep k j (s.legIn k j)

/-- An output that is off, or off after an arc, leaves its window, and its settle time starts anew. -/
def State.legLeave (s : State) (k j : Nat) : State :=
  (s.updLeg (4 * k + j) (fun l => { l with okSince := none })).legKeep k j false

/-! ### Outputs (R345, R348, R351, R354, R357) -/

/-- Begin a resonance scan (R348). -/
def State.startScan (s : State) (k : Nat) : State :=
  s.updHeat k (fun h => { h with scanning := true, scanned := false, point := 0, hold := 0, best := 0, bestPoint := 0 })

/-- The enable rules of a heater's output (R351): sp_eff from the control zone's temperature less its ZONE_OFFSET, I_t 0. -/
def State.enableHeat (s : State) (k : Nat) : State :=
  let z := s.fb k 2 1
  (s.updHeat k (fun h => { h with
    spEff := degC (s.zoneTemp k z - s.zoneI k z 20 4), iT := 0, iP := 0, pRef := 0, waiting := false })).startScan k

/-- A leg's output starts at zero (R354). -/
def HvLeg.start (l : HvLeg) : HvLeg := { l with spEff := 0, integ := 0, d := 0, mPrev := none, satRun := 0 }

/-- OUTPUT_ENABLE on a HEAT or HV tile (R345). -/
def State.outputEnable (s : State) (k v : Nat) : State :=
  let on := bit v 0
  if s.tMode k = 5 then
    let was := (s.tile k).outOn
    let s1 := s.updTile k (fun t => { t with outOn := on })
    if on && !was then
      if (s.tile k).prot == .run then s1.enableHeat k else s1.updHeat k (fun h => { h with waiting := true })
    else if on then s1
    else (s1.updHeat k (fun h => { h with scanning := false, scanned := false, iP := 0, waiting := false })).heatWindow k
  else if s.tMode k = 6 then
    let mask := if field v 8 3 = 0 then 7 else field v 8 3
    (List.range 3).foldl (fun u j =>
      if !bit mask j then u
      else if on then
        let l := u.leg (4 * k + j)
        if l.on && !l.heldOff then u
        else if l.on && l.arcs.contains s.tempo then u
        else u.updLeg (4 * k + j) (fun l => { l.start with on := true, heldOff := false, offUntil := none, arcs := [] })
      else (u.updLeg (4 * k + j) (fun l => { l with on := false, d := 0, offUntil := none })).legLeave k j) s
  else s.updTile k (fun t => { t with outOn := on })

/-- A HEAT or HV tile reaches RUN (R345, R357). -/
def State.outputsRun (s : State) (k : Nat) : State :=
  if s.tMode k = 5 then
    if !(s.tile k).outOn then s else if (s.heat k).waiting then s.enableHeat k else s.startScan k
  else if s.tMode k = 6 then
    (List.range 3).foldl (fun u j => u.updLeg (4 * k + j) (fun l => if l.on then l.start else l)) s
  else s

/-! ### Drive -/

/-- Hand a modulation to the modulator from a tempo on. -/
def State.setMod (s : State) (k : Nat) (m : Modulation) (start : Tempo) : State :=
  s.updTile k (fun t => { t with mod := t.modAt s.tempo, modNext := m, modFrom := start })

/-- The bridge at frequency `f` (2^-16 Hz) with each switch on for `duty` of its half-period (R347): the first bridge period
that begins at or after `start`. -/
def State.driveBridge (s : State) (k : Nat) (f duty : Int) (start : Tempo) : State :=
  let t := max 2 (roundDiv (500000000 * 65536) f.toNat)
  let on := (Int.tdiv (duty * (t / 2 : Nat)) 65536).toNat
  let cur := (s.tile k).modNext
  let base := match cur.legs with
    | .square _ _ :: _ => if cur.base ≤ start then cur.base + ceilDiv (start - cur.base) cur.period * cur.period else cur.base
    | _ => start
  s.setMod k { legs := [.square false on, .square true on, .off], period := t, base := base } base

/-! ### A HEAT tile's sample (R348, R350, R351) -/

/-- The frequency of a scan point in 2^-16 Hz. -/
def State.scanFreq (s : State) (k p : Nat) : Int :=
  (s.fMax k : Int) * 65536 - Int.tdiv (((s.fMax k : Int) - s.fMin k) * 65536 * p) 64

/-- One sample of a resonance scan: each point is held for 4 samples, and i_dc is I3 of the last of them. (DEDUCED: assumption 36) -/
def State.scanSample (s : State) (k n : Nat) : State :=
  let h := s.heat k
  let m := (s.loop k).i3
  let h1 := if h.point = 65 then h
    else if h.hold = 4 then
      let better := decide (h.point = 0 ∨ h.best < m)
      { h with best := if better then m else h.best, bestPoint := if better then h.point else h.bestPoint
               point := h.point + 1, hold := if h.point = 64 then 4 else 1 }
    else { h with hold := h.hold + 1 }
  (s.setHeat k h1).driveBridge k (s.scanFreq k (min 64 h1.point)) (s.fbI k 28 4) (s.governs k n)

/-- The temperature sample (R351), in 2^-16 degC and 2^-16 W. -/
def State.temperatureSample (s : State) (k : Nat) : State :=
  let h := s.heat k
  let z := s.fb k 2 1
  let sp := s.setpoint k 0
  let ramp := Int.tdiv (s.coef k 1 * s.fb k 40 4) 1000000
  let spEff := if s.coef k 1 = 0 then sp else stepTowards h.spEff sp ramp
  let e := spEff + degC (s.zoneI k z 20 4) - degC (s.zoneTemp k z)
  let pMax := s.coef k 5
  let p := mul16 (s.coef k 3) e
  let iNew := h.iT + mul16 (s.coef k 4) e
  let raw := p + iNew + s.coef k 6
  let iT := if (pMax < raw ∧ 0 < e) ∨ (raw < 0 ∧ e < 0) then h.iT else iNew
  s.setHeat k { h with spEff := spEff, iT := iT, pRef := clampI 0 pMax (p + iT + s.coef k 6), roundDone := false }

/-- f_floor in 2^-16 Hz (R348). -/
def State.fFloor (s : State) (k : Nat) : Int :=
  let f : Int := (s.heat k).fRes * 65536
  f + Int.tdiv (f * s.fb k 24 4) 1000000

/-- The power sample (R351). While p_ref is 0 the bridge is off and I_p is 0. -/
def State.powerSample (s : State) (k n : Nat) : State :=
  let h := s.heat k
  if h.pRef = 0 then
    (s.setHeat k { h with iP := 0 }).setMod k {} (s.governs k n)
  else
    let top : Int := (s.fMax k : Int) * 65536
    let floor := s.fFloor k
    let p := Int.tdiv (s.vT k * (s.loop k).i3 * s.fbI k 32 4) (65536 * 1000 * 1000000)
    let e := h.pRef - p
    let iNew := h.iP + mul16 (s.coef k 8) e
    let raw := top - mul16 (s.coef k 7) e - iNew
    let iP := if (raw < floor ∧ 0 < e) ∨ (top < raw ∧ e < 0) then h.iP else iNew
    let f := clampI floor top (top - mul16 (s.coef k 7) e - iP)
    (s.setHeat k { h with iP := iP, f := f }).driveBridge k f 65536 (s.governs k n)

/-- Watch the tank current (R350): 4 samples in a row beyond ITANK_MAX. -/
def State.tankCheck (s : State) (k : Nat) : State :=
  let big := ((s.tile k).chan 0).big
  let run := if (s.fb k 36 4 : Int) < big then (s.heat k).tankRun + 1 else 0
  let s1 := s.updHeat k (fun h => { h with tankRun := run })
  if run = 4 then
    s1.raise { code := 0x0b04, obj := obj clsDT k, fields := [obj clsDT k, i64 big], latch := [obj clsDT k] }
  else s1

/-- A HEAT tile's sample `n`. -/
def State.heatSample (s : State) (k n : Nat) : State :=
  let s1 := (s.measure k).tankCheck k
  let rest := fun (u : State) => u.updHeat k (fun h => { h with roundDone := false })
  if s1.loopsHeld k then rest s1
  else
    let s2 := s1.supervise k
    if !(s2.tile k).outOn then (rest s2).updHeat k (fun h => { h with iP := 0 })
    else if (s2.heat k).scanning then (rest s2).scanSample k n
    else if !(s2.heat k).scanned then rest s2
    else ((if (s2.heat k).roundDone then s2.temperatureSample k else s2).powerSample k n).heatWindow k

/-! ### An HV tile's sample (R353 to R355) -/

/-- An arc on a leg (R355): off for ARC_OFF_MS, or past ARC_LIMIT in a second held off with a fault. (DEDUCED: assumption 36) -/
def State.arc (s : State) (k j : Nat) (step : Int) : State :=
  let l := s.leg (4 * k + j)
  let arcs := s.tempo :: l.arcs.filter (fun t => decide (s.tempo < t + 500000000))
  let past := decide (s.legF k j 26 1 < arcs.length)
  let s1 := ((s.setLeg (4 * k + j) { l with
      arcs := arcs, d := 0, heldOff := past, mPrev := none
      offUntil := if past then none else some (s.tempo + s.legF k j 27 1 * 500000) }).legLeave k j).raiseLimited
    { code := 0x0b10, obj := obj clsDT k, fields := [obj clsDT k, j + 1, i64 step] } 1000000 (j + 1) true
  if past then
    s1.raise { code := 0x0b11, obj := obj clsDT k, fields := [obj clsDT k, j + 1, arcs.length], latch := [obj clsDT k] }
  else s1

/-- A leg's regulation (R354), in 2^-16 ou and 2^-16 of a period. -/
def State.legRegulate (s : State) (k j : Nat) (m : Int) : State :=
  let l := s.leg (4 * k + j)
  let b := 5 * j
  let y := Int.tdiv ((m - s.legFI k j 8 4) * s.legFI k j 4 4) 1000
  let spEff := stepTowards l.spEff (s.coef k b) (Int.tdiv (s.coef k (b + 1) * (s.curPeriod k * 40 : Nat)) 1000000)
  let e := spEff - y
  let ff := mul16 (s.legFI k j 20 4) spEff
  let dMax : Int := s.legF k j 16 2
  let p := mul16 (s.coef k (b + 3)) e
  let iNew := l.integ + mul16 (s.coef k (b + 4)) e
  let raw := ff + p + iNew
  let integ := if (dMax < raw ∧ 0 < e) ∨ (raw < 0 ∧ e < 0) then l.integ else iNew
  let d := clampI 0 dMax (ff + p + integ)
  let run := if d = dMax then l.satRun + 1 else 0
  let s1 := s.setLeg (4 * k + j) { l with y := y, spEff := spEff, integ := integ, d := d, mPrev := some m, satRun := run }
  let s2 := if run = s.legF k j 28 2 then
      s1.raiseLimited { code := 0x0b12, obj := obj clsDT k
                        fields := [obj clsDT k, j + 1, i64 (Int.tdiv y 65536), i64 (Int.tdiv (s.coef k b) 65536)] }
        1000000 (j + 1) true
    else s1
  s2.legWindow k j

/-- How far the measured value of a leg has moved in the direction of an arc since its sample before (R355). -/
def State.arcStep (s : State) (k j : Nat) : Int :=
  let m := ((s.tile k).chan j).mean
  match (s.leg (4 * k + j)).mPrev with
  | some p => if s.legF k j 1 1 = 0 then p - m else m - p
  | none => 0

/-- A leg's part of a sample. -/
def State.legSample (s : State) (k j : Nat) : State :=
  if s.legF k j 0 1 = 1 && s.legLive k j then
    if (s.legF k j 24 2 : Int) < s.arcStep k j then s.arc k j (s.arcStep k j)
    else s.legRegulate k j ((s.tile k).chan j).mean
  else s

/-- An arc seen in the tempo in which the tile turns off is counted (R355). (DEDUCED: assumption 36) -/
def State.legCount (s : State) (k j : Nat) : State :=
  if s.legF k j 0 1 = 1 && s.legLive k j && decide ((s.legF k j 24 2 : Int) < s.arcStep k j) then
    s.updLeg (4 * k + j) (fun l => { l with arcs := s.tempo :: l.arcs.filter (fun t => decide (s.tempo < t + 500000000)) })
  else s

/-- What a leg asks of its half-bridge (R353). -/
def State.legDrive (s : State) (k j : Nat) : LegDrive :=
  let p := s.pwmPeriod k
  let on := ((s.leg (4 * k + j)).d.toNat * p) / 65536
  if s.legF k j 0 1 = 1 && s.legLive k j && decide (s.dt k (0x010 + j) < 2 * on) then .pwm on else .off

/-- An HV tile's sample `n`. -/
def State.hvSample (s : State) (k n : Nat) : State :=
  let s1 := s.measure k
  if s1.loopsHeld k then
    if (s1.tile k).prot = .twoStep ∧ (s1.tile k).since = s1.tempo then (List.range 3).foldl (fun u j => u.legCount k j) s1 else s1
  else
    let s2 := (List.range 3).foldl (fun u j => u.legSample k j) (s1.supervise k)
    s2.setMod k { legs := (List.range 3).map (fun j => s2.legDrive k j), period := max 1 (s2.pwmPeriod k), base := s.governs k n }
      (s.governs k n)

/-! ### Rows -/

/-- CURRENT_SAMPLE: an enabled tile in the compute tempo of its slot (R325). An uncorrectable error of the engine's memory
acts as a motion fault of the tile (Table 17-3). (DESIGN CHOICE: assumption 35) -/
def execCurrentSample (tile : Idx) (ue : Option Nat) (s : State) : Host.Outcome State Fault Refusal :=
  .next (
    let s := s.enter inEvents
    match s.sampleNo tile with
    | none => s
    | some n =>
      if decide (tile < 64) && s.inService clsDT tile && (s.tile tile).prot != .disabled && s.running then
        match ue with
        | some a =>
          let s0 := s.reportUe 19 a 0xa (obj clsDT tile) [obj clsDT tile]
          let s1 := { s0 with sheets := { s0.sheets with rewritten := Map.put (fun _ => 0) s0.sheets.rewritten tile 0 } }
          if s1.isMotor tile then s1.coastAxis (s1.axisOf tile) else s1
        | none =>
          (if s.isMotor tile then s.motorSample tile n
           else if s.tMode tile = 5 then s.heatSample tile n
           else if s.tMode tile = 6 then s.hvSample tile n
           else if s.loopsHeld tile then s.measure tile else (s.measure tile).supervise tile).tap tile
      else s)

/-- RESONANCE_SCAN_DONE: the last point of a scan has been taken (R348). -/
def execResonanceScanDone (tile : Idx) (s : State) : Host.Outcome State Fault Refusal :=
  .next (
    let h := s.heat tile
    if decide (tile < 64) && s.tMode tile == 5 && h.scanning && h.point == 65 && !s.loopsHeld tile then
      let f := (Int.tdiv (s.scanFreq tile h.bestPoint) 65536).toNat
      if h.bestPoint = 0 ∨ h.bestPoint = 64 then
        (s.setHeat tile { h with scanning := false, fPrev := h.fRes, fRes := f, iP := 0 }).raise
          { code := 0x0b01, obj := obj clsDT tile, fields := [obj clsDT tile, f, h.fRes, 1], latch := [obj clsDT tile] }
      else
        ((s.setHeat tile { h with
            scanning := false, scanned := true, fPrev := h.fRes, fRes := f, iP := 0, f := s.fMax tile * 65536 }).raise
          { code := 0x0b01, obj := obj clsDT tile, fields := [obj clsDT tile, f, h.fRes, 0] }).age (ageHeat tile) f
    else s)

/-- Zone polling, overtemperature detection and status events run (R349, R350, R357): for every tile whose mode and active
table agree, and in Safe-hold for those flagged FUSER_SAFETY. (DEDUCED: assumption 36) -/
def State.heatAlive (s : State) (k : Nat) : Bool :=
  s.running && s.inService clsDT k && s.fb k 0 1 == s.tMode k && (s.md.mode != .safeHold || s.dt k 0x002 == 1)

/-- A missed or invalid read of a zone; the third in a row latches 0x0b03 (R350). (DEDUCED: assumption 36) -/
def State.badRead (s : State) (k z cause : Nat) : State :=
  let n := Map.get (fun _ => 0) (s.heat k).bad z + 1
  let s1 := s.updHeat k (fun h => { h with
    bad := Map.put (fun _ => 0) h.bad z (if n = 3 then 0 else n), lastBad := Map.put (fun _ => false) h.lastBad z true })
  if n = 3 then
    s1.raise { code := 0x0b03, obj := obj clsDT k, fields := [obj clsDT k, z, cause], latch := [obj clsDT k] }
  else s1

/-! ### The transfers of an SPI controller (R349, R420, R422) -/

/-- What an SPI controller does and has to do, what runs first. -/
def State.spiQueue (s : State) (c : Nat) : List SpiJob := Map.get (fun _ => []) s.io.spi c

/-- Set what an SPI controller has to do. -/
def State.putSpi (s : State) (c : Nat) (q : List SpiJob) : State :=
  { s with io := { s.io with spi := Map.put (fun _ => []) s.io.spi c q } }

/-- Start a job of an SPI controller. -/
def State.spiSend (s : State) (c : Nat) (j : SpiJob) : State := match j with
  | .zone k z _ => s.emit (.spi c (s.zone k z 1 1) (s.zone k z 2 1) (toLE (s.zone k z 3 1) (s.zone k z 4 4)))
  | .xfer x => s.emit (.spi c x.target x.mode x.tx)

/-- The job is a read of a zone of a tile. -/
def SpiJob.reads (k : Nat) : SpiJob → Bool
  | .zone t _ _ => t == k
  | .xfer _ => false

/-- Put a job behind those that wait: reads of the poll engine come before transfers. -/
def SpiJob.behind (j : SpiJob) (q : List SpiJob) : List SpiJob := match j with
  | .xfer _ => q ++ [j]
  | .zone _ _ _ => q.takeWhile (fun x => match x with
      | .zone _ _ _ => true
      | .xfer _ => false) ++ j :: q.dropWhile (fun x => match x with
      | .zone _ _ _ => true
      | .xfer _ => false)

/-- A job comes to an SPI controller: it starts at once where none runs. -/
def State.spiPush (s : State) (c : Nat) (j : SpiJob) : State := match s.spiQueue c with
  | [] => (s.putSpi c [j]).spiSend c j
  | x :: q => s.putSpi c (x :: j.behind q)

/-- The job that ran has ended, and the next one starts. -/
def State.spiPop (s : State) (c : Nat) : State := match s.spiQueue c with
  | _ :: j :: q => (s.putSpi c (j :: q)).spiSend c j
  | _ => s.putSpi c []

/-- The controller on which a zone of a tile is being read, and the round of the read. -/
def State.zoneRead (s : State) (k z : Nat) : Option (Nat × Tempo) := (List.range 4).findSome? (fun c => match s.spiQueue c with
  | .zone t y r :: _ => if t = k ∧ y = z then some (c, r) else none
  | _ => none)

/-- Reads of a tile that have not started are not made any more. -/
def State.dropReads (s : State) (k : Nat) : State := (List.range 4).foldl (fun u c => match u.spiQueue c with
  | x :: q => u.putSpi c (x :: q.filter (fun j => !j.reads k))
  | [] => u) s

/-- ZONE_POLL: a period begins; zones still being read are missed, and the poll engines read the zones of the round. (DEDUCED: assumption 36) -/
def execZonePoll (tile : Idx) (s : State) : Host.Outcome State Fault Refusal :=
  .next (
    let h := s.heat tile
    let due := match h.round with
      | none => true
      | some t => decide (t + s.fb tile 40 4 * 500 ≤ s.tempo)
    if decide (tile < 64) && s.tMode tile == 5 && s.heatAlive tile && due then
      let s1 := h.out.foldl (fun u z => u.badRead tile z 1) s
      let zs := List.range (s.zones tile)
      let s2 := (s1.updHeat tile (fun h => { h with out := zs, round := some s.tempo })).dropReads tile
      zs.foldl (fun u z => u.spiPush (s.zone tile z 0 1) (.zone tile z s.tempo)) s2
    else s)

/-- The temperature that a zone's bytes give in m degC (R349). -/
def State.zoneValue (s : State) (k z : Nat) (rx : Bytes) : Int :=
  let w := s.zone k z 10 1
  let raw := field (ofBE (bytesAt rx 0 (s.zone k z 8 1))) (s.zone k z 9 1) w
  let code : Int := if bit (s.zone k z 11 1) 0 then sext w raw else (raw : Int)
  mul16 code (s.zoneI k z 12 4) + s.zoneI k z 16 4

/-- A read of the round has completed with its bytes (R349, R350). -/
def State.zoneDone (s : State) (tile zone : Nat) (rx : Bytes) : State :=
    let h := s.heat tile
    if decide (tile < 64) && s.tMode tile == 5 && s.heatAlive tile && h.out.contains zone then
      let v := s.zoneValue tile zone rx
      let out := h.out.filter (fun z => z != zone)
      let s1 := s.setHeat tile { h with out := out, roundDone := h.roundDone || out.isEmpty }
      let s2 :=
        if v < -40000 ∨ 400000 < v then s1.badRead tile zone 2
        else
          let s2 := s1.updHeat tile (fun h => { h with
            temps := Map.put (fun _ => 0) h.temps zone v, bad := Map.put (fun _ => 0) h.bad zone 0
            lastBad := Map.put (fun _ => false) h.lastBad zone false })
          if s.zoneI tile zone 24 4 < v then
            s2.raise { code := 0x0b02, obj := obj clsDT tile, fields := [obj clsDT tile, zone, i64 v], latch := [obj clsDT tile] }
          else s2
      s2.heatWindow tile
    else s

/-- ZONE_READ_DONE: the read that an SPI controller makes completes; one of an earlier round is a missed read already. -/
def execZoneReadDone (tile zone : Idx) (rx : Bytes) (s : State) : Host.Outcome State Fault Refusal :=
  .next (match s.zoneRead tile zone with
    | some (c, r) => if (s.heat tile).round = some r then (s.spiPop c).zoneDone tile zone rx else s.spiPop c
    | none => s)

/-- HEAT_WINDOW_SETTLED: SETTLE_MS in window have passed (R352). -/
def execHeatWindowSettled (tile : Idx) (s : State) : Host.Outcome State Fault Refusal :=
  .next (
    let s := s.enter inEvents
    let h := s.heat tile
    match h.okSince with
    | some t =>
      if decide (tile < 64) && s.tMode tile == 5 && !h.inWindow && s.heatIn tile && decide (t + s.settleT tile ≤ s.tempo) then
        (s.setHeat tile { h with inWindow := true }).raise
          { code := 0x0b05, obj := obj clsDT tile, fields := [obj clsDT tile, 1, i64 (s.ctrlTemp tile)] }
      else s
    | none => s)

/-- HV_WINDOW_SETTLED: SETTLE_MS in window have passed on a leg, numbered from 0 (R356). -/
def execHvWindowSettled (tile leg : Idx) (s : State) : Host.Outcome State Fault Refusal :=
  .next (
    let s := s.enter inEvents
    let l := s.leg (4 * tile + leg)
    match l.okSince with
    | some t =>
      if decide (tile < 64) && decide (leg < 3) && s.tMode tile == 6 && !l.inWindow && s.legIn tile leg
          && decide (t + s.settleT tile ≤ s.tempo) then
        (s.setLeg (4 * tile + leg) { l with inWindow := true }).raise
          { code := 0x0b13, obj := obj clsDT tile, fields := [obj clsDT tile, leg + 1, 1, i64 (Int.tdiv l.y 65536)] }
      else s
    | none => s)

/-- HV_ARC_OFF_EXPIRE: the off time after an arc has passed and the leg ramps from zero (R355). -/
def execHvArcOffExpire (tile leg : Idx) (s : State) : Host.Outcome State Fault Refusal :=
  .next (
    let s := s.enter inTimeouts
    let l := s.leg (4 * tile + leg)
    match l.offUntil with
    | some t =>
      if decide (tile < 64) && decide (leg < 3) && s.tMode tile == 6 && decide (t ≤ s.tempo) then
        s.setLeg (4 * tile + leg) { l.start with offUntil := none }
      else s
    | none => s)

/-- HEAT_HV_STATUS_REPORT: REPORT_MS have passed (R358). -/
def execHeatHvStatusReport (tile : Idx) (s : State) : Host.Outcome State Fault Refusal :=
  .next (
    let ms := s.fb tile 44 4
    let h := s.heat tile
    let q := fun (x : Int) => i64 (Int.tdiv x 65536)
    if decide (tile < 64) && (s.tMode tile == 5 || s.tMode tile == 6) && s.heatAlive tile && decide (0 < ms)
        && decide (h.reportAt + ms * 500000 ≤ s.tempo) then
      let fs := if s.tMode tile = 5 then
          (List.range (s.zones tile)).map (fun z => i64 (s.zoneTemp tile z)) ++ [q h.f]
        else (List.range 3).map (fun j => q (s.leg (4 * tile + j)).y) ++ (List.range 3).map (fun j => i64 (s.leg (4 * tile + j)).d)
      (s.setHeat tile { h with reportAt := s.tempo }).raise
        { code := 0x0b06, obj := obj clsDT tile, fields := obj clsDT tile :: fs }
    else s)

end Sys2Proof.Machine
end

