-- ==== Sys2Proof/Machine/PslRows.lean ====
section
/-!
DEFINITION. The rows of chapter 11: enabling and disabling tiles, down and up frames, slow words, timeouts, diagnostics
and buses.
-/
namespace Sys2Proof.Machine

/-! ### Enabling (R275, with R289, R321, R326, R330, R339, R347 and R353) -/

/-- SD_EN covers the channels the tile's mode needs (R330, R347, R353). -/
def State.sdOk (s : State) (k : Nat) : Bool :=
  let m := s.tMode k
  if m = 2 ∨ m = 3 then s.sdEn k 0 && s.sdEn k 1 && s.sdEn k 2
  else if m = 4 then s.sdEn k 0 && s.sdEn k 1
  else if m = 5 then s.sdEn k 0 && s.sdEn k 2 && s.sdEn k 3
  else if m = 6 then s.sdEn k 3 && (List.range 3).all (fun j => s.legF k j 0 1 != 1 || s.sdEn k j)
  else true

/-- A tile is fit to be enabled, its faults apart. -/
def State.tileFit (s : State) (k : Nat) : Bool :=
  let t := s.tile k
  let c := s.protCfg k
  let m := s.tMode k
  t.sync && t.configured && field c 0 10 != 0 && field c 10 10 != 0 && field c 20 10 != 0
    && decide (field c 0 10 < field c 10 10)
    && (m == 7 || s.fb k 0 1 == m)
    && (m == 0 || m == 5 || m == 7 || (s.pwmPeriod k != 0 && 20 * s.curPeriod k % s.pwmPeriod k == 0))
    && s.sdOk k && (!s.isMotor k || decide (65536 ≤ s.coef k 7))

/-- A group is fit to be enabled (R26, R321, R339): neither it nor a group inside it is degraded. -/
def State.groupFit (s : State) (o : Nat) : Bool :=
  let ks := s.axisTiles o
  aCls o != clsGRP ||
    ((s.span o).all (fun x => aCls x != clsGRP || !(s.group (aIdx x)).degraded)
      && (s.par clsGRP (aIdx o) 0x007 == 255 || ks.contains (s.par clsGRP (aIdx o) 0x007))
      && ks.all (fun k => s.curPeriod k == s.curPeriod (ks.headD 0)))

/-- The checks that commands to a tile or group share: the object, group membership (R24), and for `lock` participation in
a sealed sheet and for `fault` a latched fault (R97). -/
def State.tileRefs (s : State) (o : Nat) (lock fault : Bool) : List Ref :=
  s.objRefs o [clsDT, clsGRP] ++ refuse (s.parent o).isSome stGROUP_MEMBER
    ++ refuse (lock && (s.span o).any s.participates) stSHEET_LOCKED ++ refuse (fault && s.anyFault o) stFAULT_LATCHED

/-- One tile enters ENABLING (Table 11-8): SLOW_SELECT (R298), loops and outputs as at every enable. -/
def State.enableTile (s : State) (k : Nat) : State :=
  if (s.tile k).prot ≠ .disabled then s
  else
    let index := s.sensorOf k == 1 || (s.units clsSTN).any (fun n => s.par clsSTN n 0x011 == k && s.par clsSTN n 0x00f == 1)
    let arg := b2n (s.sensorOf k == 2) + 2 + 4 * b2n index
    let s1 := (s.resetLoops k).updTile k (fun t => { t with
      prot := .enabling, since := s.tempo, goodUv := 0, disabling := false, latchedOff := false, holdGates := false
      outOn := s.tMode k != 5 || t.outOn, cmdQueue := t.cmdQueue ++ [(4, arg)], indexSeen := false, resAngle := none, resBad := 0
      resAge := 0, encErrs := [], overRun := 0, aligning := none, runoutDone := false, mod := {}, modNext := {} })
    (s1.checkTable 0x05 k).checkTable 0x06 k

/-- TILE_ENABLE. -/
def execTileEnable (m : Msg) (s : State) : Host.Outcome State Fault Refusal :=
  .next (
    let s := s.enter inDirect
    let o := m.argN 8 4
    let ks := s.axisTiles o
    s.command 0x0600 m
      (m.plen 0 ++ m.argRes 0xffffffff00000000 ++ s.inModes [.warmUp, .ready, .print, .runOut] ++ s.tileRefs o true true
        ++ refuse (ks.any (fun k => (s.tile k).prot == .latched)) stFAULT_LATCHED
        ++ refuse (!ks.all (fun k => (s.tile k).prot == .latched || s.tileFit k) || !s.groupFit o) stWRONG_STATE)
      (fun r u =>
        let u1 := if aCls o = clsGRP then u.updGroup (aIdx o) (fun g => { g with enabled := true }) else u
        (ks.foldl (fun v k => v.enableTile k) u1).ok r))

/-- One tile is disabled (Table 11-8, R236 apart): gates off in the next frame, outputs and loops at rest. -/
def State.disableTile (s : State) (k : Nat) : State :=
  let s1 := if s.tMode k = 3 then s.polyTo k .off else s
  let s2 := if s.tMode k = 5 then (s1.outputEnable k 0).endRunout (obj clsDT k) 0
    else if s.tMode k = 6 then s1.outputEnable k 0 else s1
  if (s.tile k).prot = .disabled then s2
  else s2.updTile k (fun t => { t with
    prot := .disabled, since := s.tempo, disabling := true, released := false, outOn := false, holdGates := false
    aligning := none })

/-- An axis whose tiles are disabled has neither a profile nor a gear. -/
def State.restAxis (s : State) (o : Nat) : State :=
  (((s.updAxis o (fun a => { a with state := .idle, v := 0, a := 0, loaded := none, turn := .none, regear := false })).updGear o
    (fun g => { s := g.s })).endRunout o 0)

/-- Disable an object with every tile at its bottom (R322). -/
def State.disableObj (s : State) (o : Nat) : State :=
  let ks := s.axisTiles o
  let s1 := if ks.any (fun k => s.isMotor k) then s.restAxis o else s
  let s2 := ks.foldl (fun u k => u.disableTile k) s1
  if aCls o = clsGRP then s2.updGroup (aIdx o) (fun g => { g with enabled := false }) else s2

/-- TILE_DISABLE. -/
def execTileDisable (m : Msg) (s : State) : Host.Outcome State Fault Refusal :=
  .next (
    let s := s.enter inDirect
    let o := m.argN 8 4
    s.command 0x0601 m (m.plen 0 ++ m.argRes 0xffffffff00000000 ++ s.tileRefs o true false)
      (fun r u => (u.disableObj o).ok r))

/-! ### Down frames (R255 to R261, R264, R265, R271, R280) -/

/-- Send a frame in period `n`. -/
def State.sendFrame (s : State) (k n top : Nat) : State :=
  (s.updTile k (fun t => { t with seq := (t.seq + 1) % 16, lastPeriod := some n })).emit (.psl k (downFrame top (s.tile k).seq))

/-- Send a GATE frame. -/
def State.sendGate (s : State) (k n gates edge offmode : Nat) (pump : Bool) : State :=
  (s.updTile k (fun t => { t with gates := gates, pump := pump })).sendFrame k n (gateTop gates edge offmode pump)

/-- A CMD frame of a diagnostic step marks the period it was sent in. -/
def State.markSent (s : State) (k n op arg : Nat) : State :=
  s.updTile k (fun t => { t with diag := t.diag.map (fun d =>
    if d.sentAt.isNone && (op == 3 || (op == 2 && arg != 0)) then { d with sentAt := some n } else d) })

/-- Send the CMD or CFG frame that waits longest, commands first; `other` when none waits. -/
def State.sendWaiting (s : State) (k n : Nat) (other : State) : State :=
  let t := s.tile k
  match t.cmdQueue, t.cfgQueue with
  | (op, arg) :: rest, _ =>
    ((s.updTile k (fun t => { t with cmdQueue := rest })).markSent k n op arg).sendFrame k n (cmdTop op arg)
  | [], r :: rest =>
    let v := s.cfgValue k r
    (s.updTile k (fun t => { t with cfgQueue := rest, cfgSent := t.cfgSent ++ [(r, v)] })).sendFrame k n (cfgTop r v)
  | [], [] => other

/-- A GATE frame, or a CMD or CFG frame in its place where R261 lets it. -/
def State.gateOrWaiting (s : State) (k n gates edge offmode : Nat) (pump : Bool) : State :=
  let t := s.tile k
  let g := s.sendGate k n gates edge offmode pump
  if gates = t.gates ∧ pump = t.pump ∧ offmode = 0 ∧ edge = 0 then s.sendWaiting k n g else g

/-- The frame of a RUN tile (R264, R265). -/
def State.runFrame (s : State) (k n : Nat) : State :=
  let cross := s.crossLegs k n
  let (offs, ons0, edge) := s.planGate k n
  let ons := ons0.filter (fun i => !cross.contains (i / 2))
  let s1 := cross.foldl (fun u j => u.raiseLimited
    { code := 0x0805, obj := obj clsDT k, fields := [obj clsDT k, j + 1, 0] } 1000000 0 true) s
  let s2 := if cross.isEmpty then s1 else s1.updTile k (fun t => { t with lastEvent := 0x0805 })
  let s3 := offs.foldl (fun u i => u.switchOff k i n edge) s2
  let s4 := ons.foldl (fun u i => u.updTile k (fun t => t.setSw i { (t.sw i) with on := true })) s3
  s4.gateOrWaiting k n (s4.tile k).onBits (if offs.isEmpty && ons.isEmpty then 0 else edge) 0 (s.pumpAt k n)

/-- The frame of a tile in TWO_STEP (Table 11-7). -/
def State.twoStepFrame (s : State) (k n : Nat) : State :=
  let t := s.tile k
  let soft := s.softT k
  let i := n - t.twoStepAt
  if n < t.twoStepAt then s.sendGate k n t.gates 0 0 t.pump
  else if i < soft / 20 then s.sendGate k n 0 0 1 t.pump
  else if i = soft / 20 then (s.allOff k n (soft % 20)).sendGate k n 0 (soft % 20) 2 t.pump
  else s.gateOrWaiting k n 0 0 0 t.pump

/-- The frame of a tile that is off for good: all gates off until every switch has confirmed, then IDLE. -/
def State.offFrame (s : State) (k n : Nat) (waiting : Bool) : State :=
  if waiting && (s.tile k).offok != 63 then (s.allOff k n 0).gateOrWaiting k n 0 0 0 false
  else
    let s1 := (s.allOff k n 0).updTile k (fun t => { t with disabling := false, latchedOff := true, gates := 0, pump := false })
    s1.sendWaiting k n (s1.sendFrame k n idleTop)

/-- PSL_DOWN_FRAME: the down frame of the period that begins in this tempo, from the state that the tempo before left. (DEDUCED: assumption 32) -/
def execPslDownFrame (tile : Idx) (s : State) : Host.Outcome State Fault Refusal :=
  .next (
    let s := s.enter inFrames
    let n := periodOf s.tempo
    let t := s.tile tile
    if s.running && decide (tile < 64) && s.inService clsDT tile && s.tempo % 20 == 0 && t.lastPeriod != some n then
      match t.prot with
      | .disabled => s.offFrame tile n t.disabling
      | .enabling | .retryWait => (s.allOff tile n 0).gateOrWaiting tile n 0 0 0 (s.pumpAt tile n)
      | .run => s.runFrame tile n
      | .twoStep => s.twoStepFrame tile n
      | .latched => s.offFrame tile n (!t.latchedOff)
    else s)

/-! ### Up frames (R257, R262, R263, R267, R268, R270, R281, R297, R329) -/

/-- An event 0x0801 for the short that waits for its FAULT word (R270). -/
def State.postShort (s : State) (k cause first later sw blank : Nat) : State :=
  let t := s.tile k
  (s.updTile k (fun t => { t with shortAt := none, lastEvent := 0x0801 })).queueEv
    { code := 0x0801, obj := obj clsDT k, tempo := s.tempo, latched := true, sheet := s.participates (obj clsDT k)
      fields := [obj clsDT k, cause, first, later, sw, blank, t.shortAt.getD s.tempo] }

/-- A short seen: the fault is latched at once and the tile turns off; the event waits for the FAULT word. (DEDUCED: assumption 32) -/
def State.shortSeen (s : State) (k cause : Nat) : State :=
  if s.canTurnOff k then
    let s1 := if s.latched 0x0801 (obj clsDT k) then s else s.latchNew 0x0801 (obj clsDT k)
    (s1.updTile k (fun t => { t with shortCause := cause, shortAt := some s.tempo })).turnOff k true cause
  else s

/-- A link fault (R262): on an enabled tile a cause of Table 11-6, on a disabled one a report. -/
def State.linkFault (s : State) (k cause : Nat) : State :=
  let t := s.tile k
  if t.prot = .disabled then s.raiseDt k { code := 0x0802, fields := [obj clsDT k, cause] }
  else if s.canTurnOff k then
    (s.raiseDt k { code := 0x0802, fields := [obj clsDT k, cause], latch := [obj clsDT k] }).turnOff k true 4
  else s

/-- UV in RUN. -/
def State.uvSeen (s : State) (k : Nat) : State :=
  if (s.tile k).prot = .run then
    (s.raiseDt k { code := 0x0803, fields := [obj clsDT k, 2], latch := [obj clsDT k] }).turnOff k true 3
  else s

/-- Step a channel's decimator by one bit; at an output, `y` (R329). -/
def Sinc.bit (c : Sinc) (b : Bool) : Sinc :=
  let a1 := (c.a1 + b2n b) % 2 ^ 32
  let a2 := (c.a2 + a1) % 2 ^ 32
  { c with a1 := a1, a2 := a2, a3 := (c.a3 + a2) % 2 ^ 32 }

/-- The third difference at an output, from 0 to R^3. -/
def Sinc.out (c : Sinc) : Nat × Sinc :=
  let d1 := (c.a3 + 2 ^ 32 - c.c1) % 2 ^ 32
  let d2 := (d1 + 2 ^ 32 - c.c2) % 2 ^ 32
  let y := (d2 + 2 ^ 32 - c.c3) % 2 ^ 32
  (y, { c with c1 := c.a3, c2 := d1, c3 := d2 })

/-- A current channel in period `m`: at an output the value in cu joins the sample's window; `counts` says whether SD_RANGE
counts (R340). -/
def Sinc.frame (c : Sinc) (b : Bool) (m osr pc : Nat) (counts : Bool) : Sinc :=
  let c1 := c.bit b
  if m % osr ≠ 0 then (if counts then c1 else { c1 with run := 0 })
  else
    let (y, c2) := c1.out
    let r3 := osr * osr * osr
    let v := clampI (-32767) 32767 (roundDivI ((2 * (y : Int) - r3) * 32768) r3)
    let fresh := decide (m % pc = osr % pc)
    { c2 with
      last := v
      sum := if fresh then v else c2.sum + v
      outs := if fresh then 1 else c2.outs + 1
      big := if fresh then (v.natAbs : Int) else max c2.big (v.natAbs : Int)
      run := if counts && decide (29491 < v.natAbs) then c2.run + 1 else 0 }

/-- The sigma-delta bits of a frame sampled in period `m`. -/
def State.sincFrame (s : State) (k m w : Nat) : State :=
  let osr := max 1 (s.par clsLE (k / 8) 0x000)
  let counts := !s.loopsHeld k && s.ruleOn k 5
  let chans := (List.range 3).foldl (fun (a : Map Sinc) j =>
    if s.sdEn k j then Map.upd (fun _ => {}) a j (fun c => c.frame (bit w (12 - j)) m osr (s.curPeriod k) counts) else a)
    (s.tile k).sinc
  let v0 := (s.tile k).vbusSinc.bit (bit w 9)
  let (vb, v1) := if s.sdEn k 3 ∧ m % 32 = 0 then
      let (y, c) := v0.out
      (min 4095 (y / 8), c)
    else ((s.tile k).vbus, v0)
  s.updTile k (fun t => { t with sinc := chans, vbusSinc := if s.sdEn k 3 then v1 else t.vbusSinc, vbus := vb })

/-- A position sensor fault (R297, R299). -/
def State.sensorFault (s : State) (k cause count : Nat) : State :=
  (s.updTile k (fun t => { t with sensorSince := s.tempo })).tileCoast k 0x0914 [obj clsDT k, cause, count]

/-- The tile encoder in a frame (R297); an errored frame repeats the levels before it and makes no count. -/
def State.encFrame (s : State) (k w : Nat) (ok : Bool) : State :=
  let t := s.tile k
  if s.sensorOf k ≠ 1 ∨ !s.isMotor k then s
  else
    let a := bit w 8
    let b := bit w 7
    if !t.encStarted then s.setTile k { t with encStarted := true, encA := a, encB := b }
    else
      let need := s.fb k 5 1 + 1
      let ra := if a = t.encA then 0 else t.encRunA + 1
      let rb := if b = t.encB then 0 else t.encRunB + 1
      let ca := ok && decide (need ≤ ra)
      let cb := ok && decide (need ≤ rb)
      let t1 := { t with
        encA := if ca then a else t.encA, encB := if cb then b else t.encB
        encRunA := if ca then 0 else ra, encRunB := if cb then 0 else rb }
      if ca && cb then
        let errs := s.tempo :: t.encErrs.filter (fun x => decide (s.tempo < x + 1000000))
        let s1 := s.setTile k { t1 with encErrs := errs, sensorSince := s.tempo }
        if 4 < errs.length ∧ !s1.latched 0x0914 (obj clsDT k) then s1.sensorFault k 1 errs.length else s1
      else if ca || cb then
        s.setTile k { t1 with xm := t.xm + countStep (b2n (bit (s.fb k 6 1) 1)) ca t1.encA t1.encB }
      else s.setTile k t1

/-- Frames without a valid resolver word (R299). -/
def State.resFrame (s : State) (k : Nat) : State :=
  let t := s.tile k
  if s.sensorOf k ≠ 2 ∨ !s.isMotor k ∨ t.prot = .disabled then s
  else
    let s1 := s.setTile k { t with resAge := t.resAge + 1 }
    if t.resAge + 1 = 256 then s1.sensorFault k 2 256 else s1

/-- The slow channel in an unerrored frame captured in period `c` (R263). A word of another type that stood in front does not
count against the resolver (R299). -/
def Tile.slowFrame (t : Tile) (c : Nat) (b : Bool) : Tile :=
  let seqOf := match t.lastPeriod with
    | some n => (t.seq + 15 + 16 * (n + 16) - (n + 6 - c)) % 16
    | none => 1
  match t.slow with
  | none => if b && seqOf == 0 then { t with slow := some [true] } else t
  | some bs =>
    let bs1 := bs ++ [b]
    if bs1.length < 32 then { t with slow := some bs1 }
    else if crc4 (bs1.take 28) = (bs1.drop 28).foldl (fun a x => 2 * a + b2n x) 0 then
      { t with slow := none, slowWord := some bs1 }
    else { t with slow := none, errors := satAdd 16 t.errors 1, badWord := t.badWord + 1 }

/-- OFFOK of a good frame sampled in period `m`, captured in period `c` (R264, R267). -/
def Tile.offokFrame (t : Tile) (m c offok : Nat) : Tile :=
  (List.range 6).foldl (fun u i =>
    let w := u.sw i
    let off := bit offok (5 - i)
    let after := match w.offAt with
      | some (n, _) => decide (n + 4 ≤ m)
      | none => true
    let win := match w.window with
      | some (n, e) => if off && decide (n + 4 ≤ m) then none else some (n, e)
      | none => none
    let cap := if w.on || !off then none else if after then (if w.okCap.isSome then w.okCap else some c) else none
    u.setSw i { w with window := win, okCap := cap }) { t with offok := offok }

/-- Observe a comparator self-test (R279). -/
def Diag.watch (d : Diag) (c flags : Nat) : Diag :=
  match d.steps, d.sentAt with
  | .comparator x :: _, some n =>
    let f := if x < 3 then bit flags 2 else if x < 6 then bit flags 1 else bit flags 0
    { d with
      seen := d.seen || (f && decide (n + 4 ≤ c) && decide (c ≤ n + 20))
      late := d.late || (f && decide (n + 36 ≤ c) && decide (c ≤ n + 52))
      frames := d.frames + 1 }
  | _, _ => d

/-- A tile reaches RUN: outputs, alignment (R304) and, when its axis is whole, the axis (R322). -/
def State.reachRun (s : State) (k : Nat) : State :=
  let first := (s.tile k).prot == .enabling
  let s1 := s.updTile k (fun t => { t with
    prot := .run, since := s.tempo, released := false
    aligning := if first && s.tMode k == 2 && bit (s.fb k 6 1) 0 then some s.tempo else t.aligning })
  let s2 := s1.outputsRun k
  if first && s2.isMotor k && s2.axisOn (s2.axisOf k) then s2.startAxis (s2.axisOf k) else s2

/-- The flags of a frame captured in period `c` without the one that a self-test forces (R279). -/
def Diag.mask (d : Diag) (c flags : Nat) : Nat :=
  match d.steps, d.sentAt with
  | .comparator x :: _, some n =>
    let b := if x < 3 then 4 else if x < 6 then 2 else 1
    if n + 4 ≤ c ∧ c ≤ n + 52 ∧ flags / b % 2 = 1 then flags - b else flags
  | _, _ => flags

/-- The flags of a frame while the tile is in a state that acts on them (R268, R270, Table 11-8). -/
def State.flagsFrame (s : State) (k flags : Nat) : State :=
  let t := s.tile k
  let short := decide (2 ≤ flags)
  let cause := if bit flags 1 then 2 else 1
  match t.prot with
  | .enabling =>
    if short then s.shortSeen k cause
    else
      let good := if bit flags 0 then 0 else t.goodUv + 1
      let s1 := s.setTile k { t with goodUv := good }
      if 16 ≤ good then s1.reachRun k else s1
  | .run => if short then s.shortSeen k cause else if bit flags 0 then s.uvSeen k else s
  | _ => s

/-- The up TYPE of a good frame (Table 11-4). -/
def State.typeFrame (s : State) (k old new flags : Nat) : State :=
  let t := s.tile k
  let s1 := s.updTile k (fun t => { t with epType := new })
  if new = 2 then
    if t.configured then
      (s1.raiseDt k { code := 0x0807, fields := [obj clsDT k, 1] }).startCfg k 0
    else if t.cfgQueue.isEmpty && t.cfgSent.isEmpty then s1.startCfg k 0 else s1
  else if new = 3 ∧ old ≠ 3 then
    if t.prot = .twoStep ∨ t.prot = .retryWait ∨ t.prot = .latched then s1
    else (s1.raiseDt k { code := 0x0806, fields := [obj clsDT k, 1, 0], latch := [obj clsDT k] }).turnOff k false 6
  else if new = 1 ∧ flags = 0 ∧ (old ≠ 1 ∨ t.prot ≠ .disabled) then s1.linkFault k 4
  else if new = 0 ∧ t.released then
    let s2 := [0x0801, 0x0802, 0x0803].foldl (fun u c => u.unlatch c (obj clsDT k)) s1
    ((s2.reachRun k).raiseDt k { code := 0x0810, fields := [obj clsDT k, (t.recent s.tempo).length] })
  else s1

/-- A receiver takes a frame that passes or fails (R257). -/
def Receiver.note (r : Receiver) (pass : Bool) : Receiver :=
  if pass then { inStep := r.inStep || decide (8 ≤ r.good + 1), good := r.good + 1 }
  else { inStep := r.inStep && decide (r.bad = 0), bad := r.bad + 1 }

/-- What a frame says of the link (R257, R262): a frame that fails its CRC says nothing of the endpoint's receiver. -/
def Tile.linkFrame (t : Tile) (c : Nat) (crc echo : Bool) : Tile :=
  let up := t.up.note crc
  let down := if crc then t.down.note echo else t.down
  let ok := crc && echo
  { t with
    upAt := some c, up := up, down := down, sync := up.inStep && down.inStep, badRun := if ok then 0 else t.badRun + 1
    errors := if ok then t.errors else satAdd 16 t.errors 1, slow := if ok then t.slow else none }

/-- Take the fields of a frame captured in period `c`, but for its slow bit. -/
def Tile.wordFrame (t : Tile) (c now w : Nat) : Tile :=
  let flags := field w 13 3
  { t with
    lastWord := some w, flags := flags, cleanRun := if flags = 0 then t.cleanRun + 1 else 0
    spoilt := if flags ≠ 0 ∧ 16 ≤ t.cleanRun then some now else t.spoilt
    diag := t.diag.map (fun (d : Diag) => d.watch c flags) }.offokFrame (c - 3) c (field w 16 6)

/-- What the fields of a frame bring about. -/
def State.fieldsFrame (s : State) (k c w : Nat) (ok : Bool) : State :=
  let flags := match (s.tile k).diag with
    | some d => d.mask c (field w 13 3)
    | none => field w 13 3
  let old := (s.tile k).epType
  let s1 := s.updTile k (fun t => let t1 := t.wordFrame c s.tempo w; if ok then t1.slowFrame c (bit w 6) else t1)
  (s1.flagsFrame k flags).typeFrame k old (field w 22 2) flags

/-- A frame of a receiver in step: in place of the fields of an errored frame stand those of the frame before (R262). -/
def State.frameIn (s : State) (k c w : Nat) (ok : Bool) : State :=
  if ok then s.fieldsFrame k c w true
  else match (s.tile k).lastWord with
    | some x => s.fieldsFrame k c x false
    | none => s

/-- Post the event of a short whose FAULT word has not come within 72 frames (R270). -/
def State.lateShort (s : State) (k : Nat) : State :=
  match (s.tile k).shortAt with
  | some t0 => if t0 + 1440 ≤ s.tempo then s.postShort k (s.tile k).shortCause 0 0 0 0 else s
  | none => s

/-- Keep what a frame leaves for later: x_m of the last 64 frames (R298). -/
def State.historyFrame (s : State) (k : Nat) : State :=
  s.updTile k (fun t => { t with xmFrames := (t.xm :: t.xmFrames).take 64 })

/-- PSL_UP_FRAME: the frame captured in this tempo, the first of a period. -/
def execPslUpFrame (tile : Idx) (w : BitVec 24) (s : State) : Host.Outcome State Fault Refusal :=
  .next (
    let s := s.enter inCapture
    let c := periodOf s.tempo
    let t := s.tile tile
    let x := w.toNat
    if s.running && decide (tile < 64) && s.inService clsDT tile && s.tempo % 20 == 0 && decide (3 ≤ c) && t.upAt != some c then
      let echo := match t.lastPeriod with
        | some n => decide (field x 4 2 = (t.seq + 15 + 16 * (n + 16) - (n + 6 - c)) % 4)
        | none => true
      let crc := upCrcOk x
      let ok := crc && echo
      let s0 := s.updTile tile (fun t => t.linkFrame c crc echo)
      let sF := if t.up.inStep then s0.frameIn tile c x ok else s0
      let s1 := if !ok && t.badRun == 1 then sF.linkFault tile (if crc then 2 else 1) else sF
      let word := (s1.tile tile).lastWord.getD 0
      let s2 := (((s1.sincFrame tile (c - 3) word).encFrame tile word ok).resFrame tile).historyFrame tile
      (s2.lateShort tile).refresh (s.circle tile)
    else s)

/-! ### Slow words (Table 11-5) -/

/-- The data of a good slow word of a type that has arrived. -/
def Tile.word (t : Tile) (type : Nat) : Option Nat :=
  match t.slowWord with
  | some bs =>
    let num := fun (xs : List Bool) => xs.foldr (fun b a => b2n b + 2 * a) 0
    if num ((bs.drop 1).take 3) = type then some (num ((bs.drop 4).take 24)) else none
  | none => none

/-- Take a slow word of a type and act on its data; a word other than a resolver's explains 32 frames without one. -/
def State.onWord (s : State) (k type : Nat) (act : State → Nat → State) : State :=
  if decide (k < 64) && s.inService clsDT k then
    match (s.tile k).word type with
    | some d => act (s.updTile k (fun t => { t with
        slowWord := none, resAge := if type = 5 then t.resAge else t.resAge - 32 })) d
    | none => s
  else s

/-- The lowest leg (1 to 3) of a mask. -/
def legOf (mask : Nat) : Nat := if bit mask 0 then 1 else if bit mask 1 then 2 else if bit mask 2 then 3 else 0

/-- SLOW_FAULT (R266, R270). -/
def execSlowFault (tile : Idx) (s : State) : Host.Outcome State Fault Refusal :=
  .next (
    let s := s.enter inProtect
    (s.onWord tile 1 (fun u d =>
    let first := field d 0 3
    let many := decide (first ≠ 0 ∧ first ≠ 1 ∧ first ≠ 2 ∧ first ≠ 4)
    let kinds := field d 12 3
    if bit d 17 then
      (u.updTile tile (fun t => { t with lastEvent := 0x0805 })).raiseLimited
        { code := 0x0805, obj := obj clsDT tile, fields := [obj clsDT tile, legOf first, 1] } 1000000 0 true
    else if bit d 15 then (u.updTile tile (fun t => { t with down := {}, sync := false })).linkFault tile 3
    else
      let u1 := if (u.tile tile).shortAt.isNone && decide (kinds % 4 ≠ 0) then
        u.shortSeen tile (if bit kinds 1 then 2 else 1) else u
      if (u1.tile tile).shortAt.isSome then
        u1.postShort tile (if many then 3 else (u1.tile tile).shortCause) first (field d 3 3) (field d 6 6) (field d 16 1)
      else u1)).refresh (s.circle tile))

/-- SLOW_CFG_ACK (R260): the set counts when every value matches; a mismatch sends it again, up to three times. -/
def execSlowCfgAck (tile : Idx) (s : State) : Host.Outcome State Fault Refusal :=
  .next (s.onWord tile 2 (fun u d =>
    let r := field d 0 4
    let v := field d 4 10
    let t := u.tile tile
    match t.cfgSent.find? (fun e => e.1 == r) with
    | none => u
    | some e =>
      if e.2 = v then
        let left := t.cfgSent.filter (fun x => x.1 != r)
        let done := r == 15 && left.isEmpty
        u.setTile tile { t with
          cfgSent := left, configured := t.configured || done, wasConfigured := t.wasConfigured || done }
      else
        let u1 := (u.updTile tile (fun t => { t with lastEvent := 0x0806, cfgQueue := [], cfgSent := [] })).raiseLimited
          { code := 0x0806, obj := obj clsDT tile, fields := [obj clsDT tile, 2, r] } 1000000 0 false
        if t.cfgTries < 3 then u1.startCfg tile (t.cfgTries + 1) else u1))

/-- SLOW_RESOLVER (R299). -/
def execSlowResolver (tile : Idx) (s : State) : Host.Outcome State Fault Refusal :=
  .next (s.onWord tile 5 (fun u d =>
    let t := u.tile tile
    if u.sensorOf tile ≠ 2 ∨ !u.isMotor tile then u
    else if field d 16 4 ≠ 0 then
      let u1 := u.setTile tile { t with resBad := t.resBad + 1, sensorSince := u.tempo }
      if t.resBad + 1 = 4 then u1.sensorFault tile 2 4 else u1
    else
      let a := field d 0 16
      let step := match t.resAngle with
        | some p => wrapAngle ((a : Int) - p)
        | none => 0
      u.setTile tile { t with resAngle := some a, resBad := 0, resAge := 0, xm := t.xm + step }))

/-- SLOW_TEMP: the endpoint's temperature in 0.5 degC. -/
def execSlowTemp (tile : Idx) (s : State) : Host.Outcome State Fault Refusal :=
  .next (s.onWord tile 6 (fun u d => u.updTile tile (fun t => { t with epTemp := sext 12 d })))

/-- SLOW_IDENT: the endpoint's maker code, protocol version and maker-defined byte. -/
def execSlowIdent (tile : Idx) (s : State) : Host.Outcome State Fault Refusal :=
  .next (s.onWord tile 7 (fun u d => u.updTile tile (fun t => { t with ident := d })))

/-! ### Timeouts of protection (R267, R271, R273, R274) -/

/-- OFFOK_TIMEOUT: a window of switch `sw` (0 to 5) that ends open. -/
def execOffokTimeout (tile sw : Idx) (s : State) : Host.Outcome State Fault Refusal :=
  .next (
    let s := s.enter inTimeouts
    match ((s.tile tile).sw sw).window with
    | some (_, e) =>
      if decide (tile < 64) && decide (sw < 6) && s.inService clsDT tile && decide (e ≤ s.tempo) then
        let s1 := s.updTile tile (fun t => t.setSw sw { (t.sw sw) with window := none })
        let p := (s.tile tile).prot
        if p = .twoStep ∨ p = .retryWait ∨ p = .latched then s1
        else ((s1.raiseDt tile { code := 0x0804, fields := [obj clsDT tile, sw], latch := [obj clsDT tile] }).turnOff
          tile false 5).refresh (s.circle tile)
      else s
    | none => s)

/-- TWO_STEP_DONE: step 3 of Table 11-7 has been reached. -/
def execTwoStepDone (tile : Idx) (s : State) : Host.Outcome State Fault Refusal :=
  .next (
    let s := s.enter inTimeouts
    let t := s.tile tile
    if decide (tile < 64) && t.prot == .twoStep && decide (t.twoStepAt + s.softT tile / 20 + 1 ≤ periodOf s.tempo) then
      (s.afterTwoStep tile).refresh (s.circle tile)
    else s)

/-- A flag captured in the tempo in which the release would be decided is a new fault (R274): it counts, and the wait begins
anew. (DEDUCED: assumption 32) -/
def State.newFault (s : State) (k : Nat) : State :=
  let t := s.tile k
  let tries := s.tempo :: t.recent s.tempo
  let s1 := s.setTile k { t with tries := tries, faultAt := s.tempo }
  if tries.length ≤ s.dt k 0x021 then s1
  else (s1.latchTile k).raiseDt k { code := 0x0811, latch := [obj clsDT k], fields := [obj clsDT k, tries.length, t.lastCause] }

/-- RETRY_WAIT_EXPIRE: the wait of a tile has passed. -/
def execRetryWaitExpire (tile : Idx) (s : State) : Host.Outcome State Fault Refusal :=
  .next (
    let s := s.enter inTimeouts
    let t := s.tile tile
    if decide (tile < 64) && t.prot == .retryWait && !t.released && s.waitPassed tile then
      if s.nearRelease tile && t.spoilt == some s.tempo then (s.newFault tile).refresh (s.circle tile)
      else if (s.mates tile).any (fun j => (s.tile j).prot == .latched) then (s.latchTile tile).refresh (s.circle tile)
      else if s.mayRelease tile then
        ((s.mates tile).filter s.mayRelease).foldl (fun u j => u.release j) (s.release tile)
      else s
    else s)

/-- RETRY_FURTHER_WAIT_EXPIRE: a further wait has passed and the tile still waits. -/
def execRetryFurtherWaitExpire (tile : Idx) (s : State) : Host.Outcome State Fault Refusal :=
  .next (
    let s := s.enter inTimeouts
    let t := s.tile tile
    if decide (tile < 64) && t.prot == .retryWait && !t.released && decide (t.faultAt + 2 * (s.dt tile 0x020 * 500000) ≤ s.tempo) then
      (s.latchTile tile).refresh (s.circle tile)
    else s)

/-- ENABLING_TIMEOUT: 500,000 tempo in ENABLING (Table 11-8). -/
def execEnablingTimeout (tile : Idx) (s : State) : Host.Outcome State Fault Refusal :=
  .next (
    let s := s.enter inTimeouts
    let t := s.tile tile
    if decide (tile < 64) && t.prot == .enabling && decide (t.since + 500000 ≤ s.tempo) then
      ((s.latchTile tile).raiseDt tile { code := 0x0803, fields := [obj clsDT tile, 1], latch := [obj clsDT tile] }).refresh
        (s.circle tile)
    else s)

/-! ### Diagnostics (R276 to R279) -/

/-- The seven comparator self-tests. -/
def selftests : List DiagStep := (List.range 7).map DiagStep.comparator

/-- The steps of a test kind (Table 11-10). -/
def State.diagSteps (s : State) (k kind : Nat) : List DiagStep :=
  let bus := (List.range 3).map DiagStep.bus
  let gnd := (List.range 3).map DiagStep.ground
  let cont := [DiagStep.continuity 0, .continuity 1]
  if kind = 1 then bus else if kind = 2 then gnd else if kind = 3 then cont else if kind = 4 then selftests
  else bus ++ gnd ++ (if s.isMotor k then cont else []) ++ selftests

/-- The CMD of a step (Table 11-2). -/
def DiagStep.cmd : DiagStep → Nat × Nat
  | .bus j => (2, 4 * (j + 1))
  | .ground j | .continuity j => (2, j + 1)
  | .comparator n => if n < 3 then (3, 1 + 4 * (n + 1)) else if n < 6 then (3, 2 + 4 * (n - 2)) else (3, 3)

/-- The result record (Table 11-11). -/
def Diag.record (d : Diag) (now : Tempo) : Bytes :=
  let fail := decide (d.legFail ≠ 0 ∨ d.opens ≠ 0 ∨ d.testFail ≠ 0)
  let outcome := if d.silent then 4 else b2n fail + 2 * b2n d.fallback
  toLE 1 d.kind ++ toLE 1 outcome ++ toLE 1 d.legFail ++ toLE 1 d.opens ++ toLE 1 d.testFail ++ toLE 3 0
    ++ toLE 8 (now - d.start)

/-- Send the next step of a run, or end it (R278). -/
def State.diagNext (s : State) (k : Nat) (d : Diag) : State :=
  match d.steps with
  | st :: _ =>
    s.updTile k (fun t => { t with
      diag := some { d with sentAt := none, seen := false, late := false, frames := 0 }, cmdQueue := t.cmdQueue ++ [st.cmd] })
  | [] =>
    let rec_ := d.record s.tempo
    ((s.updTile k (fun t => { t with diag := none })).ok d.reply rec_).raiseDt k
      { code := 0x0820, fields := [obj clsDT k, leAt rec_ 0 8, leAt rec_ 8 8] }

/-- DIAG_RUN: BUSY while a run of the tile goes on. (DESIGN CHOICE: assumption 11) -/
def execDiagRun (m : Msg) (s : State) : Host.Outcome State Fault Refusal :=
  .next (
    let s := s.enter inDirect
    let o := m.argN 8 4
    let kind := m.argN 12 1
    let k := aIdx o
    s.command 0x0640 m
      (m.plen 0 ++ m.argRes 0xffffff0000000000 ++ refuse (decide (kind = 0 ∨ 5 < kind)) stBAD_ARG ++ s.inModes [.standby]
        ++ s.objRefs o [clsDT] ++ refuse (kind == 3 && (s.tMode k == 5 || s.tMode k == 6 || s.tMode k == 7)) stBAD_ARG
        ++ refuse ((s.tile k).prot != .disabled || !(s.tile k).configured) stWRONG_STATE
        ++ refuse (s.tile k).diag.isSome stBUSY)
      (fun r u => (u.hold 0x0640 m).diagNext k { reply := r, kind := kind, start := u.tempo, steps := u.diagSteps k kind }))

/-- Legs wired to each other in the motor (R276): all three, but legs 1 and 2 in DCM. -/
def State.wired (s : State) (k : Nat) : List Nat := if s.tMode k = 4 then [0, 1] else [0, 1, 2]

/-- Stop the test currents (R276). -/
def State.stopCurrents (s : State) (k : Nat) : State := s.updTile k (fun t => { t with cmdQueue := t.cmdQueue ++ [(2, 0)] })

/-- The fallback outcome (R277): the self-test runs in place of the test-current steps. -/
def State.diagFallback (s : State) (k : Nat) (d : Diag) : State :=
  (s.stopCurrents k).diagNext k { d with fallback := true, steps := selftests }

/-- SLOW_DIAG: the result of a test-current step. -/
def execSlowDiag (tile : Idx) (s : State) : Host.Outcome State Fault Refusal :=
  .next (s.onWord tile 3 (fun u w =>
    match (u.tile tile).diag with
    | none => u
    | some d =>
      let high := fun (j : Nat) => bit w j
      let low := fun (j : Nat) => bit w (3 + j)
      if d.sentAt.isNone then u
      else match d.steps with
        | .bus j :: rest =>
          if !bit w 6 then u.diagFallback tile d
          else (u.stopCurrents tile).diagNext tile { d with
            steps := rest, legFail := if low j then d.legFail else Nat.lor d.legFail (2 ^ j) }
        | .ground j :: rest =>
          if !bit w 6 then u.diagFallback tile d
          else (u.stopCurrents tile).diagNext tile { d with
            steps := rest, legFail := if high j then d.legFail else Nat.lor d.legFail (2 ^ (3 + j)) }
        | .continuity j :: rest =>
          if !bit w 6 then u.diagFallback tile d
          else (u.stopCurrents tile).diagNext tile { d with
            steps := rest
            opens := ((u.wired tile).filter (fun i => i != j && !high i)).foldl (fun a i => Nat.lor a (2 ^ i)) d.opens }
        | _ => u))

/-- DIAG_STEP_TIMEOUT: no DIAG word within 250,000 tempo of the TEST_CURRENT (R277). -/
def execDiagStepTimeout (tile : Idx) (s : State) : Host.Outcome State Fault Refusal :=
  .next (
    let s := s.enter inTimeouts
    match (s.tile tile).diag with
    | none => s
    | some d => match d.steps, d.sentAt with
      | .comparator _ :: _, _ => s
      | _ :: _, some n => if decide (tile < 64) && decide (20 * n + 250000 ≤ s.tempo) then s.diagFallback tile d else s
      | _, _ => s)

/-- SELFTEST_WINDOW_END: 52 periods after a COMP_SELFTEST the comparator is judged (R279). -/
def execSelftestWindowEnd (tile : Idx) (s : State) : Host.Outcome State Fault Refusal :=
  .next (
    let s := s.enter inTimeouts
    match (s.tile tile).diag with
    | none => s
    | some d => match d.steps, d.sentAt with
      | .comparator x :: rest, some n =>
        if decide (tile < 64) && decide (n + 52 < periodOf s.tempo) then
          s.diagNext tile { d with
            steps := rest, silent := d.silent || d.frames == 0
            testFail := if d.seen && !d.late then d.testFail else Nat.lor d.testFail (2 ^ x) }
        else s
      | _, _ => s)

/-! ### Buses (R281 to R283) -/

/-- The chopper's switches (R282): all low sides together. -/
def State.chop (s : State) (b : Nat) (on : Bool) : State :=
  let k := s.par clsDEV 0 (0x048 + b)
  let n := periodOf s.tempo
  (s.updBus b (fun u => { u with chopping := on, chopAt := n })).setMod k
    { legs := if on then [.low, .low, .low] else [], period := 1, base := s.tempo } s.tempo

/-- The chopper at a new V_b. -/
def State.chopper (s : State) (b vb : Nat) : State :=
  let on := s.busLimit b 1
  let u := s.bus b
  let free := decide (u.chopAt + 25 ≤ periodOf s.tempo)
  match s.chopperReason b with
  | some why =>
    let tell := decide (on ≤ vb) && !u.above && !u.told
    let s1 := s.setBus b { u with unavailable := true, chopping := false, above := decide (on ≤ vb), told := u.told || tell }
    if tell then s1.raise { code := 0x0834, fields := [b, why] } else s1
  | none =>
    let s1 := s.setBus b { u with unavailable := false, above := decide (on ≤ vb), told := false }
    if !u.chopping && decide (on ≤ vb) && free then s1.chop b true
    else if u.chopping && decide (vb ≤ s.busLimit b 0) && free then s1.chop b false
    else s1

/-- Enter a stage (Table 11-12). (DEDUCED: assumption 33) -/
def State.busEnter (s : State) (b vb stage : Nat) : State :=
  let s1 := s.updBus b (fun u => { u with stage := stage })
  if stage = 1 then s1.raise { code := 0x0830, fields := [b, vb] }
  else if stage = 2 then s1.raise { code := 0x0831, fields := [b, vb] }
  else
    let ks := s.busTiles b
    let on := ks.filter (fun k => s.canTurnOff k)
    let s2 := s1.raise { code := 0x0832, fields := [b, vb] ++ on.map (obj clsDT), latch := ks.map (obj clsDT) }
    on.foldl (fun u k => (u.updTile k (fun t => { t with lastEvent := 0x0832 })).turnOff k false 9) s2

/-- BUS_VOLTAGE_UPDATE: a fast VBUS value of a member of a bus has changed. (DEDUCED: assumption 33) -/
def execBusVoltageUpdate (tile : Idx) (s : State) : Host.Outcome State Fault Refusal :=
  .next (
    let s := s.enter inProtect
    match s.busOf tile with
    | none => s
    | some b =>
      if decide (tile < 64) && s.inService clsDT tile && s.sdEn tile 3 then
        let vb := s.vBus b
        let s1 := (s.updBus b (fun u => { u with
          vb := vb, quiet := if s.busLimit b 1 < vb then none else if u.quiet.isSome then u.quiet else some s.tempo })).chopper b vb
        let stage := if s.busLimit b 4 ≤ vb then 3 else if s.busLimit b 3 ≤ vb then 2 else if s.busLimit b 2 ≤ vb then 1 else 0
        (if (s.bus b).stage < stage then s1.busEnter b vb stage else s1).refresh (s.busTiles b)
      else s)

/-- Axes that passed their targets while the bus was in FREEZE run back (R310). -/
def State.overshoot (s : State) (o : Nat) : State :=
  let a := s.axis o
  if a.passed then
    (s.setAxis o { (a.replace a.mv) with passed := false }).raise
      { code := 0x0917, obj := o, fields := [o, i64 (a.mv.target / q32), i64 (a.x / q32)] }
  else s

/-- BUS_STAGE_FALL: V_b has stayed at or below BRAKE_ON for 500,000 tempo; HARD also waits for its tiles to be disabled. -/
def execBusStageFall (bus : Idx) (s : State) : Host.Outcome State Fault Refusal :=
  .next (
    let s := s.enter inEvents
    let u := s.bus bus
    match u.quiet with
    | none => s
    | some t =>
      if decide (bus < 8) && decide (0 < u.stage) && decide (t + 500000 ≤ s.tempo)
          && (u.stage != 3 || (s.busTiles bus).all (fun k => (s.tile k).prot == .disabled)) then
        let s1 := s.setBus bus { u with stage := u.stage - 1, quiet := some s.tempo }
        let s2 := s1.refresh (s.busTiles bus)
        if u.stage = 1 then
          (s2.axesOf (s.busTiles bus)).foldl (fun v o => v.overshoot o) (s2.raise { code := 0x0833, fields := [bus] })
        else s2
      else s)

end Sys2Proof.Machine
end

