-- ==== Sys2Proof/Machine/Deflate.lean ====
section
/-!
DEFINITION. Raw DEFLATE as the lanes decode it and as CL0 codes it (R189, R190, R197; RFC 1951), and the line predictors
(R187).
-/
namespace Sys2Proof.Machine

/-- Bits of bytes, the least significant first. -/
def bitsLSB (bs : List Byte) : List Bool := bs.flatMap (fun b => (List.range 8).map (fun i => bit b.toNat i))

/-- Pack bits into bytes, the least significant first, with zeros after the last. -/
def packBits (bs : List Bool) : List Byte :=
  (List.range (ceilDiv bs.length 8)).map (fun k =>
    BitVec.ofNat 8 ((List.range 8).foldl (fun a i => if bs.getD (8 * k + i) false then a + 2 ^ i else a) 0))

/-- The number in a list of bits, the least significant first. -/
def bitsNat : List Bool → Nat
  | [] => 0
  | b :: bs => b2n b + 2 * bitsNat bs

/-- `n` bits of a number, the least significant first. -/
def natBits : Nat → Nat → List Bool
  | 0, _ => []
  | n + 1, x => (x % 2 == 1) :: natBits n (x / 2)

/-- Take `n` bits; none when fewer are left. -/
def takeBits (n : Nat) (bs : List Bool) : Option (Nat × List Bool) :=
  if bs.length < n then none else some (bitsNat (bs.take n), bs.drop n)

/-! ### Huffman codes -/

/-- Symbols in the order of their canonical codes: by length, and then by number. -/
def codeOrder (lens : List Nat) : List Nat :=
  (List.range 16).flatMap (fun l => if l = 0 then [] else ((lens.zipIdx).filter (fun e => e.1 == l)).map (fun e => e.2))

/-- The number of codes of a length. -/
def codesOf (lens : List Nat) (l : Nat) : Nat := (lens.filter (fun x => x == l)).length

/-- What reading a symbol finds. -/
inductive Sym where
  | sym (n : Nat) (rest : List Bool)
  | noCode
  | inputEnd

/-- Read a symbol, from length `l` on: the code so far, the first code of this length, and the symbols passed. -/
def symFrom (lens order : List Nat) : Nat → Nat → Nat → Nat → Nat → List Bool → Sym
  | 0, _, _, _, _, _ => .noCode
  | n + 1, l, code, first, passed, bs =>
    if order.length ≤ passed then .noCode
    else match bs with
      | [] => .inputEnd
      | b :: rest =>
        let c := 2 * code + b2n b
        let k := codesOf lens l
        if c < first + k then .sym (order.getD (passed + (c - first)) 0) rest
        else symFrom lens order n (l + 1) c (2 * (first + k)) (passed + k) rest

/-- Read a symbol of a code. -/
def readSym (lens : List Nat) (bs : List Bool) : Sym := symFrom lens (codeOrder lens) 15 1 0 0 0 bs

/-- 2^15 for a complete prefix code, more for an over-subscribed one. -/
def kraft (lens : List Nat) : Nat := (lens.map (fun l => if l = 0 then 0 else 2 ^ (15 - l))).foldl (· + ·) 0

/-- The lengths form a complete prefix code. -/
def complete (lens : List Nat) : Bool := kraft lens == 32768

/-- The lengths of the fixed codes (RFC 1951). -/
def fixedLit : List Nat := List.replicate 144 8 ++ List.replicate 112 9 ++ List.replicate 24 7 ++ List.replicate 8 8
def fixedDist : List Nat := List.replicate 32 5

/-- Base and extra bits of the match length of symbol 257 + `k`. -/
def lenBase (k : Nat) : Nat × Nat :=
  if k < 8 then (3 + k, 0) else if k = 28 then (258, 0) else (3 + (4 + k % 4) * 2 ^ (k / 4 - 1), k / 4 - 1)

/-- Base and extra bits of the distance of symbol `k`. -/
def distBase (k : Nat) : Nat × Nat := if k < 4 then (1 + k, 0) else (1 + (2 + k % 2) * 2 ^ (k / 2 - 1), k / 2 - 1)

/-! ### Decoding (R189, R190) -/

/-- The order in which HCLEN sends code-length code lengths. -/
def clOrder : List Nat := [16, 17, 18, 0, 8, 7, 9, 6, 10, 5, 11, 4, 12, 3, 13, 2, 14, 1, 15]

/-- Read `n` code lengths of 3 bits. -/
def readCl : Nat → List Bool → Option (List Nat × List Bool)
  | 0, bs => some ([], bs)
  | n + 1, bs => match takeBits 3 bs with
    | none => none
    | some (x, rest) => (readCl n rest).map (fun r => (x :: r.1, r.2))

/-- What reading a header finds: the literal/length and distance lengths, an error of Table 8-4. -/
inductive Header where
  | ok (lit dist : List Nat) (rest : List Bool)
  | err (code : Nat)

/-- Read code lengths until there are `n`. -/
def readLens (cl : List Nat) (n : Nat) : Nat → List Nat → List Bool → Except Nat (List Nat × List Bool)
  | 0, acc, bs => if acc.length = n then .ok (acc, bs) else .error 3
  | f + 1, acc, bs =>
    if acc.length = n then .ok (acc, bs)
    else if n < acc.length then .error 3
    else match readSym cl bs with
      | .inputEnd => .error 8
      | .noCode => .error 3
      | .sym x rest =>
        if x < 16 then readLens cl n f (acc ++ [x]) rest
        else
          let (extra, base, v) := if x = 16 then (2, 3, acc.getLast?.getD 0) else if x = 17 then (3, 3, 0) else (7, 11, 0)
          match takeBits extra rest with
          | none => .error 8
          | some (k, rest1) =>
            if x = 16 ∧ acc = [] then .error 3 else readLens cl n f (acc ++ List.replicate (base + k) v) rest1

/-- Read a dynamic header after BTYPE and judge it whole. -/
def readDynamic (bs : List Bool) : Header :=
  match takeBits 14 bs with
  | none => .err 8
  | some (h, r0) =>
    let hlit := h % 32
    let hdist := h / 32 % 32
    match readCl (h / 1024 + 4) r0 with
    | none => .err 8
    | some (xs, r1) =>
      let cl := (List.range 19).map (fun s => ((clOrder.zip xs).lookup s).getD 0)
      if !complete cl then .err 3
      else match readLens cl (hlit + 257 + hdist + 1) 400 [] r1 with
        | .error c => .err c
        | .ok (ls, r2) =>
          let lit := ls.take (hlit + 257)
          let dist := ls.drop (hlit + 257)
          let used := dist.filter (fun l => l != 0)
          if 29 < hlit || lit.getD 256 0 == 0 || !complete lit || !(complete dist || used == [] || used == [1]) then .err 3
          else .ok lit dist r2

/-- Where decoding stands: a block header comes, the symbols of a block, the bytes of a stored block. -/
inductive InfMode where
  | header
  | symbols (final : Bool) (lit dist : List Nat)
  | stored (final : Bool) (left : Nat)

/-- What a sub-stream decodes to: its bytes up to the first error, and that error with the input byte at which its element
begins. -/
structure Inflated where
  out : List Byte
  err : Option (Nat × Nat)

/-- Append a match to the output, which is held last byte first. -/
def copyMatch (dist : Nat) : Nat → List Byte → List Byte
  | 0, out => out
  | n + 1, out => copyMatch dist n (out.getD (dist - 1) 0 :: out)

/-- The end of the final block, with bits of input left after it. -/
def atEnd (total : Nat) (out : List Byte) (at_ left : Nat) : Inflated :=
  ⟨out.reverse, if out.length < total then some (7, at_) else if 8 ≤ left then some (8, at_) else none⟩

/-- Decode from where it stands. `nbits` is the length of the readable input in bits, `lost` what stands behind it from a word with
an uncorrectable error on, and `blocks` the headers read. Where bits are missing that lie in the lost input, the stream read's
error is met, which comes before every other of the element (Table 8-4). -/
def inflateFrom (nbits lost total : Nat) : Nat → InfMode → Nat → List Byte → List Bool → Inflated
  | 0, _, _, out, bs => ⟨out.reverse, some (8, (nbits - bs.length) / 8)⟩
  | f + 1, mode, blocks, out, bs =>
    let at_ := (nbits - bs.length) / 8
    let stop := fun (code : Nat) => (⟨out.reverse, some (code, at_)⟩ : Inflated)
    let short := fun (code : Nat) => stop (if 0 < lost then 10 else code)
    match mode with
    | .header =>
      match takeBits 3 bs with
      | none => short 8
      | some (h, r) =>
        let final := h % 2 == 1
        let begin_ := fun (m : InfMode) (rest : List Bool) =>
          if 1024 ≤ blocks then stop 9 else inflateFrom nbits lost total f m (blocks + 1) out rest
        match h / 2 with
        | 0 =>
          let r1 := r.drop (r.length % 8)
          match takeBits 16 r1 with
          | none => short 8
          | some (len, r2) =>
            let past := decide (total < out.length + len)
            match takeBits 16 r2 with
            | none => short (if past then 6 else 8)
            | some (nlen, r3) =>
              if len + nlen ≠ 65535 then stop 2
              else if past then stop 6
              else begin_ (.stored final len) r3
        | 1 => begin_ (.symbols final fixedLit fixedDist) r
        | 2 => match readDynamic r with
          | .err c => if c = 8 then short 8 else stop c
          | .ok lit dist r1 => begin_ (.symbols final lit dist) r1
        | _ => stop 1
    | .stored final left =>
      if left = 0 then
        if final then atEnd total out at_ (bs.length + lost) else inflateFrom nbits lost total f .header blocks out bs
      else match takeBits 8 bs with
        | none => short 8
        | some (b, r) => inflateFrom nbits lost total f (.stored final (left - 1)) blocks (BitVec.ofNat 8 b :: out) r
    | .symbols final lit dist =>
      match readSym lit bs with
      | .inputEnd => short 8
      | .noCode => stop 4
      | .sym x r =>
        if x < 256 then
          if total ≤ out.length then stop 6
          else inflateFrom nbits lost total f mode blocks (BitVec.ofNat 8 x :: out) r
        else if x = 256 then
          if final then atEnd total out ((nbits - r.length) / 8) (r.length + lost)
          else inflateFrom nbits lost total f .header blocks out r
        else if 285 < x then stop 4
        else
          let (lb, le) := lenBase (x - 257)
          match takeBits le r with
          | none => short (if total < out.length + lb + bitsNat r then 6 else 8)
          | some (lx, r1) =>
            let len := lb + lx
            let past := if total < out.length + len then 6 else 8
            match readSym dist r1 with
            | .inputEnd => short past
            | .noCode => stop 4
            | .sym y r2 =>
              if 29 < y then stop 4
              else
                let (db, de) := distBase y
                match takeBits de r2 with
                | none => short (if out.length < db + bitsNat r2 then 5 else past)
                | some (dx, r3) =>
                  if out.length < db + dx then stop 5
                  else if total < out.length + len then stop 6
                  else inflateFrom nbits lost total f mode blocks (copyMatch (db + dx) len out) r3

/-- Decode a sub-stream that must give `total` bytes; `ue` is how many of its bytes stand before an uncorrectable error. -/
def inflate (input : List Byte) (total : Nat) (ue : Option Nat := none) : Inflated :=
  let good := input.take (ue.getD input.length)
  inflateFrom (8 * good.length) (8 * (input.length - good.length)) total (16 * input.length + 4) .header 0 [] (bitsLSB good)

/-! ### Line predictors (R187) -/

/-- Apply or undo the predictor on one byte: `p` is the byte of the line before. -/
def predByte (pred : Nat) (undo : Bool) (p c : Byte) : Byte :=
  let a := c.toNat
  let b := p.toNat
  if pred = 1 then c ^^^ p
  else if pred = 2 then
    let n := fun (x y : Nat) => if undo then (x + y) % 16 else (x + 16 - y) % 16
    BitVec.ofNat 8 (n (a % 16) (b % 16) + 16 * n (a / 16) (b / 16))
  else c

/-- Cut bytes into lines of `w` bytes. -/
def linesOf (w n : Nat) (d : List Byte) : List (List Byte) := (List.range n).map (fun k => bytesAt d (w * k) w)

/-- Undo the predictor through the lines of a sub-stream; `p` is the line before. -/
def undoLines (pred : Nat) : List Byte → List (List Byte) → List (List Byte)
  | _, [] => []
  | p, d :: ds => let c := (p.zip d).map (fun e => predByte pred true e.1 e.2); c :: undoLines pred c ds

/-- Apply the predictor to the lines of a sub-stream. -/
def predLines (pred : Nat) : List Byte → List (List Byte) → List (List Byte)
  | _, [] => []
  | p, c :: cs => (p.zip c).map (fun e => predByte pred false e.1 e.2) :: predLines pred c cs

/-- The lines of raster codes of a decoded sub-stream. -/
def rasterLines (pred w n : Nat) (d : List Byte) : List (List Byte) := undoLines pred (List.replicate w 0) (linesOf w n d)

/-- CRC-32 register after `n` zero bytes. -/
def crcZeros : Nat → Nat → Nat
  | 0, c => c
  | n + 1, c => crcZeros n (crc32Byte c 0)

/-- The CRC-32 of two byte strings one after the other, from the CRC of each and the length of the second. -/
def crcJoin (a b n : Nat) : Nat := Nat.xor (crcZeros n a) b

/-! ### Coding (R197) -/

/-- The length of the match of position `p` with an earlier position `q`, up to `n`. -/
def matchLen (d : List Byte) (p q n : Nat) : Nat :=
  ((List.range n).takeWhile (fun i => d.getD (p + i) 0 == d.getD (q + i) 0)).length

/-- The positions with the same three bytes before `p` in the window, nearest first. -/
def candidates (d : List Byte) (p : Nat) : List Nat :=
  ((List.range (min p 32768)).map (fun i => p - 1 - i)).filter (fun q => 3 ≤ matchLen d p q 3)

/-- The longest match at `p` before `stop` among the candidates that a level examines, the nearest of equal length: length and
distance; length 0 for none. -/
def bestMatch (level : Nat) (d : List Byte) (stop p : Nat) : Nat × Nat :=
  if stop < p + 3 then (0, 0)
  else ((candidates d p).take (2 ^ (level - 1))).foldl (fun b q =>
    let n := matchLen d p q (min 258 (stop - p))
    if b.1 < n then (n, p - q) else b) (0, 0)

/-- The literals and matches of a block: a literal is (byte, 0), a match (length, distance). -/
def tokensFrom (level : Nat) (d : List Byte) (stop : Nat) : Nat → Nat → List (Nat × Nat)
  | 0, _ => []
  | f + 1, p =>
    if stop ≤ p then []
    else
      let m := bestMatch level d stop p
      if m.1 < 3 || (4 ≤ level && m.1 < (bestMatch level d stop (p + 1)).1) then
        ((d.getD p 0).toNat, 0) :: tokensFrom level d stop f (p + 1)
      else m :: tokensFrom level d stop f (p + m.1)

/-- The canonical code of a symbol, first bit first. -/
def codeBits (lens : List Nat) (s : Nat) : List Bool :=
  let l := lens.getD s 0
  let first := (List.range l).foldl (fun c k => 2 * (c + if k = 0 then 0 else codesOf lens k)) 0
  let rank := ((lens.take s).filter (fun x => x == l)).length
  (natBits l (first + rank)).reverse

/-- The largest symbol whose base does not exceed a value. -/
def symbolFor (base : Nat → Nat × Nat) (n v : Nat) : Nat := ((List.range n).filter (fun k => (base k).1 ≤ v)).length - 1

/-- A literal or match in a pair of codes. -/
def codeToken (lit dist : List Nat) (t : Nat × Nat) : List Bool :=
  if t.2 = 0 then codeBits lit t.1
  else
    let k := symbolFor lenBase 29 t.1
    let y := symbolFor distBase 30 t.2
    codeBits lit (257 + k) ++ natBits (lenBase k).2 (t.1 - (lenBase k).1)
      ++ codeBits dist y ++ natBits (distBase y).2 (t.2 - (distBase y).1)

/-- Literals and matches up to the end of their block, in a pair of codes. -/
def codeTokens (lit dist : List Nat) (ts : List (Nat × Nat)) : List Bool := ts.flatMap (codeToken lit dist) ++ codeBits lit 256

/-- The codes have one for every symbol that a block's literals and matches need. -/
def covers (lit dist : List Nat) (ts : List (Nat × Nat)) : Bool :=
  lit.getD 256 0 != 0 && ts.all (fun t => if t.2 = 0 then lit.getD t.1 0 != 0
    else lit.getD (257 + symbolFor lenBase 29 t.1) 0 != 0 && dist.getD (symbolFor distBase 30 t.2) 0 != 0)

/-- Code lengths that cover every block: all 286 and 30 symbols, with codes as even as they can be. -/
def evenLit : List Nat := List.replicate 226 8 ++ List.replicate 60 9
def evenDist : List Nat := List.replicate 2 4 ++ List.replicate 28 5

/-- Their header: HLIT 29, HDIST 29, HCLEN 8, and codes of 2 bits for the lengths 4, 5, 8 and 9. -/
def evenHeader : List Bool :=
  natBits 14 (29 + 29 * 32 + 8 * 1024) ++ ((clOrder.take 12).flatMap (fun l => natBits 3 (if [4, 5, 8, 9].contains l then 2 else 0)))
    ++ (evenLit ++ evenDist).flatMap (fun l => codeBits ((List.range 19).map (fun x => if [4, 5, 8, 9].contains x then 2 else 0)) l)

/-- A dynamic-code block after BTYPE: a header that R189 allows and whose codes cover the block, and the block in these codes. -/
def dynamicBody (ts : List (Nat × Nat)) : List Bool :=
  let h := Config.dynamicHeader ts
  match readDynamic h with
  | .ok lit dist [] => if covers lit dist ts then h ++ codeTokens lit dist ts else evenHeader ++ codeTokens evenLit evenDist ts
  | _ => evenHeader ++ codeTokens evenLit evenDist ts

/-- A stored block after `used` bits. -/
def storedBlock (used : Nat) (final : Bool) (d : List Byte) : List Bool :=
  [final, false, false] ++ List.replicate ((8 - (used + 3) % 8) % 8) false
    ++ natBits 16 d.length ++ natBits 16 (65535 - d.length) ++ bitsLSB d

/-- The block that CL0 emits for bytes `p` to `stop` of a sub-stream after `used` bits: the smallest of the permitted kinds, the
lower BTYPE on a tie. (DEDUCED: assumption 28) -/
def codeBlock (level : Nat) (dyn : Bool) (d : List Byte) (used p stop : Nat) : List Bool :=
  let final := stop == d.length
  let stored := storedBlock used final (bytesAt d p (stop - p))
  if level = 0 then stored
  else
    let ts := tokensFrom level d stop (stop - p) p
    let fixed := [final, true, false] ++ codeTokens fixedLit fixedDist ts
    let best := if fixed.length < stored.length then fixed else stored
    let dynamic := [final, false, true] ++ dynamicBody ts
    if dyn ∧ dynamic.length < best.length then dynamic else best

/-- Code a sub-stream in blocks of 65,535 bytes. -/
def deflateFrom (level : Nat) (dyn : Bool) (d : List Byte) : Nat → Nat → List Bool → List Bool
  | 0, _, bs => bs
  | f + 1, p, bs =>
    if d.length ≤ p then bs
    else
      let stop := min d.length (p + 65535)
      deflateFrom level dyn d f stop (bs ++ codeBlock level dyn d bs.length p stop)

/-- Code a sub-stream (R197). -/
def deflate (level : Nat) (dyn : Bool) (d : List Byte) : List Byte :=
  packBits (deflateFrom level dyn d (ceilDiv d.length 65535) 0 [])

end Sys2Proof.Machine
end

