-- ==== Sys2Proof/Machine/Container.lean ====
section
/-!
DEFINITION. Strip containers (R183): the checks of a header that stand for themselves (Table 8-2), and the container that CL0 makes
of a source (R195 to R198).
-/
namespace Sys2Proof.Machine

/-! ### Headers (Table 8-1) -/

/-- LENr of a header. -/
def hdrLen (h : Bytes) (r : Nat) : Nat := leAt h (8 + 3 * r) 3

/-- The bytes of a container, from its header. -/
def boxBytes (h : Bytes) : Nat := 32 + hdrLen h 0 + hdrLen h 1 + hdrLen h 2 + hdrLen h 3

/-- A reserved bit of a header is set, or PRED is 0x3. -/
def hdrReserved (h : Bytes) : Bool :=
  bit (leAt h 2 1) 7 || leAt h 3 1 != leAt h 3 1 % 4 || leAt h 3 1 % 4 == 3 || decide (4096 ≤ leAt h 4 2) || decide (64 ≤ leAt h 6 1)
    || leAt h 7 1 != 0 || leAt h 24 4 != 0

/-- The container runs out of the store, into the firmware range or across channels, or a LENr is below 2. -/
def State.boxRange (s : State) (a : Nat) (h : Bytes) : Bool :=
  (List.range 4).any (fun r => decide (hdrLen h r < 2)) || !s.storeRange a (boxBytes h) || inFirmware a

/-- Checks 2 to 5 of Table 8-2, which need the header alone. -/
def hdrForm (h : Bytes) : Nat :=
  if leAt h 0 2 ≠ 0xc753 then 0x01
  else if leAt h 28 4 ≠ crc32 (bytesAt h 0 28) then 0x03
  else if leAt h 2 1 % 16 ≠ 1 then 0x02
  else if hdrReserved h then 0x08
  else 0

/-! ### What CL0 makes (R195 to R198) -/

/-- The rank whose sub-stream holds a line of a strip (R186). -/
def rankOf (i : Nat) : Nat := i % 32 / 8

/-- The largest container that a strip of four sub-streams of `n` bytes compresses to (R198). -/
def boxBound (n : Nat) : Nat := 32 + 4 * (n + 5 * ceilDiv n 65535)

/-- What CL0 makes of a source: a container, or a status with its data. -/
inductive Made where
  | box (b : Bytes)
  | fail (code : Nat) (data : Bytes)

/-- A container from the four sub-streams' raster lines. -/
def buildBox (level : Nat) (dyn : Bool) (pred station width16 lines32 crc : Nat) (subs : List (List Bytes)) : Bytes :=
  let zero := List.replicate (8 * width16) (0 : Byte)
  let cs := subs.map (fun ls => deflate level dyn ((predLines pred zero ls).flatten))
  let h := toLE 2 0xc753 ++ toLE 1 (1 + 16 * station) ++ toLE 1 pred ++ toLE 2 width16 ++ toLE 1 lines32 ++ toLE 1 0
    ++ cs.flatMap (fun c => toLE 3 c.length) ++ toLE 4 crc ++ toLE 4 0
  h ++ toLE 4 (crc32 h) ++ cs.flatten

/-- The sub-streams of a RAW source (R186). -/
def rawSubs (width16 : Nat) (d : Bytes) : List (List Bytes) :=
  let w := 8 * width16
  let n := d.length / max 1 w
  (List.range 4).map (fun r => (linesOf w n d).zipIdx.filterMap (fun e => if rankOf e.2 = r then some e.1 else none))

/-- The sub-streams of a CONTAINER source, or the first decode error in order of rank. -/
def boxSubs (h d : Bytes) : List Nat → Except Nat (List (List Bytes))
  | [] => .ok []
  | r :: rs =>
    let w := 8 * leAt h 4 2
    let n := 8 * leAt h 6 1
    let off := 32 + ((List.range r).map (hdrLen h)).foldl (· + ·) 0
    let x := inflate (bytesAt d off (hdrLen h r)) (n * w)
    match x.err with
    | some (c, _) => .error c
    | none => (boxSubs h d rs).map (fun ls => rasterLines (leAt h 3 1 % 4) w n x.out :: ls)

/-- The header checks of a CONTAINER source: 1 to 5, 8 and 9 of Table 8-2 (R195), and that it lies in the source length. -/
def State.boxCause (s : State) (a len : Nat) (h : Bytes) : Nat :=
  if hdrForm h ≠ 0 then hdrForm h
  else if leAt h 6 1 = 0 ∨ 32 < leAt h 6 1 then 0x06
  else if s.boxRange a h ∨ len < boxBytes h then 0x09
  else 0

/-- What CL0 makes of a source. -/
def State.jobResult (s : State) (j : Job) (d : Bytes) : Made :=
  if j.container then
    let h := bytesAt d 0 32
    let c := s.boxCause j.src j.len h
    if c ≠ 0 then .fail stBAD_VALUE (toLE 1 c)
    else match boxSubs h d [0, 1, 2, 3] with
      | .error c => .fail stBAD_VALUE (toLE 1 c)
      | .ok subs =>
        .box (buildBox j.level j.dyn j.pred (field (leAt h 2 1) 4 3) (leAt h 4 2) (leAt h 6 1) (leAt h 20 4) subs)
  else
    let subs := rawSubs j.width16 d
    .box (buildBox j.level j.dyn j.pred j.station j.width16 (j.len / (256 * max 1 j.width16)) (crc32 (subs.map (fun x => x.flatten)).flatten) subs)

end Sys2Proof.Machine
end

