-- ==== Sys2Proof/Machine/Pll.lean ====
section
/-!
DEFINITION. PLLs (R138 to R150): lock detection, coasting, band slots, temperature compensation, and starting a clock (R42).
Identifiers are those of Table 6-9: 0 SPLL, 1 HPLL, 2 DPLL, 3 and 4 BLPLL0 and BLPLL1, 8 + n VPLLn.
-/
namespace Sys2Proof.Machine

/-- The PLL is there. -/
def State.pllHere (s : State) (p : Nat) : Bool := decide (p < 5) || (decide (8 ≤ p ∧ p < 16) && s.inService clsSTN (p - 8))

/-- The code of a PLL state (Table 6-3a). -/
def PllState.code : PllState → Nat
  | .off => 0 | .search => 1 | .recall => 2 | .acquire => 3 | .locked => 4 | .coasting => 5

/-- The lock tolerance of a PLL in ppm (Table 6-3). -/
def State.pllTol (s : State) (p : Nat) : Nat := if p < 5 then s.par clsDEV 0 (0x028 + p) else s.par clsSTN (p - 8) 0x073

/-! ### Ratios, windows and OUT4 edges (R138, R139, R143) -/

/-- The ratio in force, in 2^-32 (Table 6-2): fixed but for a VPLL. -/
def State.pllRatio (s : State) (p : Nat) : Nat :=
  if p = 0 then 160 * 2 ^ 32 else if p = 1 then 80 * 2 ^ 32 else if p = 2 then 128 * 2 ^ 32
  else if p < 8 then 825 * 2 ^ 31 else (s.pll p).ratio

/-- A period of the reference in tempo (Table 6-2): 100 MHz, 25 MHz, and 62.5 MHz for a VPLL. -/
def pllRefPeriod (p : Nat) : Nat := if p = 1 then 5 else if p < 8 then 20 else 8

/-- The length of a lock window in tempo: 2^k reference periods (R139, Table 6-3). -/
def State.pllWinLen (s : State) (p : Nat) : Nat :=
  2 ^ (if p < 5 then s.par clsDEV 0 (0x020 + p) else s.par clsSTN (p - 8) 0x072) * pllRefPeriod p

/-- A lock window begins. -/
def Pll.openWindow (l : Pll) (t : Tempo) : Pll := { l with winAt := t, winMark := t, winAcc := 0 }

/-- The ratio summed over the tempo of the present window up to tempo `t`. -/
def State.winSum (s : State) (p t : Nat) : Nat :=
  let l := s.pll p
  l.winAcc + s.pllRatio p * (min t (l.winAt + s.pllWinLen p) - l.winMark)

/-- The expected count of the window, in 2^-32: the ratio integrated over its reference periods (R139). -/
def State.pllExpected (s : State) (p : Nat) : Nat := s.winSum p ((s.pll p).winAt + s.pllWinLen p) / pllRefPeriod p

/-- Put a ratio in force in a VPLL; while it is COASTING its frequency stays frozen (R141, R144). (DEDUCED: assumption 23) -/
def State.setRatio (s : State) (p r : Nat) : State :=
  if (s.pll p).state = .coasting then s
  else s.updPll p (fun l => { l with ratio := r, winAcc := s.winSum p s.tempo, winMark := max l.winMark s.tempo })

/-- D4 of a station. -/
def State.outDiv (s : State) (n : Nat) : Nat := s.par clsSTN n 0x064

/-- A period of OUT4 in 2^-38 tempo, times the ratio in 2^-32. -/
def State.edgeUnit (s : State) (n : Nat) : Nat := 8 * s.outDiv n * 2 ^ 70

/-- The time, in 2^-38 tempo, of the OUT4 edge `k` edges after the one that edges are counted from (R143, R234); OUT4 stands late by
its delay in steps of 1/64 period. An edge's time is kept rounded down. (DESIGN CHOICE: assumption 31) -/
def State.edgeTime (s : State) (n : Nat) (k : Int) : Int :=
  let l := s.pll (8 + n)
  l.edgeT + (64 * k + s.par clsSTN n 0x06a) * (s.edgeUnit n : Int) / (64 * max 1 l.ratio : Nat)

/-- The same without the delay of the output. -/
def State.edgeBase (s : State) (n : Nat) (k : Int) : Int :=
  let l := s.pll (8 + n)
  l.edgeT + k * (s.edgeUnit n : Int) / (max 1 l.ratio : Nat)

/-- How many edges after that one the first OUT4 edge at or after a time, in 2^-38 tempo, comes. -/
def State.edgesTo (s : State) (n : Nat) (time : Int) : Nat :=
  let l := s.pll (8 + n)
  let d := ((time - l.edgeT) * 64 * (max 1 l.ratio : Nat) - (s.par clsSTN n 0x06a * s.edgeUnit n : Nat)).toNat
  ceilDiv d (64 * max 1 (s.edgeUnit n))

/-- The output of a VPLL begins: the number of its first edge, and where in a period it lies, are free values. (DESIGN CHOICE: assumption 31) -/
def State.edgesBegin (s : State) (p : Nat) : State :=
  if p < 8 then s
  else
    let (a, s1) := s.fresh
    let (b, s2) := s1.fresh
    s2.updPll p (fun l => { l with
      edgeN := a % 65536, edgeT := s.tempo * 2 ^ 38 + b % (1 + s.edgeUnit (p - 8) / max 1 l.ratio) })

/-! ### Temperature (R149, R150) -/

/-- The sensor that serves a PLL (Table 16-1). -/
def pllSensor (p : Nat) : Nat :=
  if p = 0 then 15 else if p = 1 then 2 else if p = 2 then 3 else if p = 3 then 0 else if p = 4 then 1
  else 5 + (p - 8) / 2

/-- The neighbours of a sensor (Table 16-1), ascending. -/
def neighbours (t : Nat) : List Nat :=
  match t with
  | 0 => [2, 5] | 1 => [6, 7] | 2 => [0, 3, 9] | 3 => [2, 4, 14] | 4 => [3, 10] | 5 => [0, 6, 9] | 6 => [1, 5, 15]
  | 7 => [1, 8, 15] | 8 => [7, 12, 13] | 9 => [2, 5, 14, 15] | 10 => [4, 11, 14] | 11 => [10, 12, 13]
  | 12 => [8, 11, 14, 15] | 13 => [8, 11] | 14 => [3, 9, 10, 12] | _ => [6, 7, 9, 12]

/-- The temperature that a PLL uses, in 1/8 °C; none when no sensor is usable. -/
def State.pllTemp (s : State) (p : Nat) : Option Int :=
  let t := pllSensor p
  if !(s.sensor t).suspect then some (s.sensor t).temp
  else
    let ok := (neighbours t).filter (fun n => !(s.sensor n).suspect)
    if ok.isEmpty then none
    else some (Int.tdiv (ok.foldl (fun a n => a + (s.sensor n).temp) 0) (ok.length : Int))

/-- Report the first substitution of a PLL's sensor (R150). -/
def State.pllSubst (s : State) (p : Nat) : State :=
  let t := pllSensor p
  if (s.sensor t).suspect && !(s.pll p).subst && (s.pllTemp p).isSome then
    (s.updPll p (fun l => { l with subst := true })).raise { code := 0x0309, fields := [p, obj clsTS t] }
  else s

/-! ### Transitions (R139, R140) -/

/-- Enter LOCKED. -/
def State.pllLock (s : State) (p : Nat) : State :=
  let l := s.pll p
  (s.setPll p ({ l with state := .locked, inTol := 0, outTol := 0, everLocked := true, recallSlot := none }.openWindow s.tempo)).raise
    { code := 0x0301, fields := [p, l.state.code] }

/-- Enter COASTING: the tuning word stays as it is. -/
def State.pllCoast (s : State) (p : Nat) (refLost : Bool) (fields : List Nat) : State :=
  (s.updPll p (fun l => { l with
    state := .coasting, refLost := refLost, coastWin := 0, inTol := 0, outTol := 0, frozen := l.tune }.openWindow s.tempo)).raise
    { code := if refLost then 0x0303 else 0x0302, fields := p :: fields
      sheet := (List.range 8).any (fun n => (p == 0 || p == 8 + n) && (s.station n).draw.isSome)
      latch := if refLost ∧ p = 0 then [objDEV] else [] }

/-- Enter SEARCH. -/
def State.pllSearch (s : State) (p : Nat) : State :=
  s.updPll p (fun l => { l with state := .search, inTol := 0, outTol := 0, recallSlot := none })

/-- Enter ACQUIRE; coming out of a search or a recall, the output begins. -/
def State.pllAcquire (s : State) (p : Nat) : State :=
  (if (s.pll p).state = .coasting then s else s.edgesBegin p).updPll p (fun l =>
    { l with state := .acquire, inTol := 0, outTol := 0 }.openWindow s.tempo)

/-! ### Band slots (R146 to R148) -/

/-- A field of band slot `k` of station `n` (Table 6-5). -/
def State.slotField (s : State) (n k off w : Nat) : Nat := leAt (s.table 0x08 n) (16 * k + off) w

/-- Store the present band, tuning word, temperature and ratio as slot `k` (R147). -/
def State.storeSlot (s : State) (n k : Nat) : State :=
  let s := s.pllSubst (8 + n)
  let l := s.pll (8 + n)
  let temp := (s.pllTemp (8 + n)).getD l.corrTemp / 8
  let slot := toLE 1 1 ++ toLE 1 l.band ++ toLE 2 l.tune ++ toLE 1 (wrapBits 8 temp) ++ toLE 1 0
    ++ toLE 2 (l.ratio / 2 ^ 32) ++ toLE 4 (l.ratio % 2 ^ 32) ++ toLE 4 0
  s.setTable 0x08 n (pokeBytes (bytesAt (s.table 0x08 n) 0 128) (16 * k) slot)

/-- Recall slot `k`, or search when it is invalid, with 0x0308 (R148). The corrected tuning word is the slot's at its own
temperature, and else a free value: the fused coefficient is not given. (DESIGN CHOICE: assumption 23) -/
def State.recallSlot (s : State) (n k : Nat) : State :=
  let p := 8 + n
  if bit (s.slotField n k 0 1) 0 then
    let now := (s.pllTemp p).getD (s.pll p).corrTemp
    let (f, s1) := (s.pllSubst p).fresh
    let tune := s.slotField n k 2 2 % 4096
    let s2 := s1.updPll p (fun l => { l with
      band := s.slotField n k 1 1, tune := if now = 8 * sext 8 (s.slotField n k 4 1) then tune else f % 4096
      corrTemp := now, recallSlot := some k, recallWin := 0 })
    (s2.updPll p (fun l => { l with state := .recall })).pllAcquire p
  else (s.raise { code := 0x0308, obj := obj clsSTN n, fields := [obj clsSTN n, k, 0] }).pllSearch p

/-- A write of st.vpll.band_slot: 8 forces a search. It starts a stopped VPLL (R42), but not in Configure, where none may run
(Table 2-1): the value then stands for the start. -/
def State.bandSlot (s : State) (n k : Nat) : State :=
  if (s.pll (8 + n)).state = .off ∧ s.md.mode = .configure then s
  else if k = 8 then s.pllSearch (8 + n) else s.recallSlot n k

/-! ### Rows -/

/-- Start a clock (R42, Table 6-3a): a VPLL with a valid slot recalls it. (DESIGN CHOICE: assumption 23) -/
def State.startPll (s : State) (p : Nat) : State :=
  if (s.pll p).state = .off then
    let n := p - 8
    let k := s.par clsSTN n 0x078
    if decide (8 ≤ p) && decide (k < 8) && bit (s.slotField n k 0 1) 0 then s.recallSlot n k else s.pllSearch p
  else s

/-- CLOCK_START: firmware requests a clock for a unit in a mode that permits it (Table 2-1). (DESIGN CHOICE: assumption 23) -/
def execClockStart (unit : ClockUnit) (s : State) : Host.Outcome State Fault Refusal :=
  .next (
    if s.md.boot = .running ∧ s.md.mode ≠ .dormant then
      match unit with
      | .dpll => s.startPll 2
      | .blpll half => if half < 2 ∧ s.md.mode ≠ .configure then s.startPll (3 + half) else s
      | .vpll n =>
        if decide (n < 8) && s.inService clsSTN n && (s.station n).enabled then s.startPll (8 + n) else s
    else s)

/-- PLL_BAND_FOUND: the search ends with a band. The tuning word it ends with is a free value. (DESIGN CHOICE: assumption 23) -/
def execPllBandFound (pll band : Nat) (s : State) : Host.Outcome State Fault Refusal :=
  .next (
    if s.pllHere pll ∧ (s.pll pll).state = .search ∧ s.md.mode ≠ .dormant then
      let (f, s1) := (s.pllSubst pll).fresh
      (s1.updPll pll (fun l => { l with
        band := band % 64, tune := f % 4096, corrTemp := (s.pllTemp pll).getD l.corrTemp })).pllAcquire pll
    else s)

/-- A window of a PLL that acquires or is locked. (DESIGN CHOICE: assumption 23) -/
def State.pllWindow (s : State) (p count expected : Nat) (ok : Bool) : State :=
  let (f, s0) := s.fresh
  let s1 := if ok then s0.updPll p (fun l => { l with tune := f % 4096 }) else s0
  let l := s1.pll p
  let l1 := { l with inTol := if ok then l.inTol + 1 else 0, outTol := if ok then 0 else l.outTol + 1
                     recallWin := l.recallWin + 1, lastCount := count }.openWindow s.tempo
  let s2 := s1.setPll p l1
  if l.state = .acquire ∧ l1.inTol = 4 then s2.pllLock p
  else match l.recallSlot with
    | some k =>
      if l1.recallWin = 8 then
        (s2.raise { code := 0x0308, obj := obj clsSTN (p - 8), fields := [obj clsSTN (p - 8), k, 1] }).pllSearch p
      else if l1.outTol = 2 then s2.pllCoast p false [count, expected] else s2
    | none => if l1.outTol = 2 then s2.pllCoast p false [count, expected] else s2

/-- PLL_LOCK_WINDOW: the window of the lock detector under way ends with its count, beside the one that is expected (R139). The closed loop's tuning word is a free
value. -/
def execPllLockWindow (pll count expected : Nat) (s : State) : Host.Outcome State Fault Refusal :=
  .next (
    let l := s.pll pll
    if s.pllHere pll && s.running && s.md.mode != .dormant && decide (l.winAt + s.pllWinLen pll ≤ s.tempo)
        && decide (expected = s.pllExpected pll / 2 ^ 32) then
      let want := s.pllExpected pll
      let dev := ((count * 2 ^ 32 : Nat) - (want : Int)).natAbs
      let ok := decide (dev ≤ 2 * 2 ^ 32 ∨ dev * 1000000 ≤ want * s.pllTol pll)
      match l.state with
      | .acquire | .locked => s.pllWindow pll count (want / 2 ^ 32) ok
      | .coasting =>
        let s1 := s.setPll pll ({ l with
          coastWin := l.coastWin + 1, recallWin := l.recallWin + 1, lastCount := count }.openWindow s.tempo)
        match l.recallSlot with
        | some k =>
          if l.recallWin + 1 = 8 then
            (s1.raise { code := 0x0308, obj := obj clsSTN (pll - 8), fields := [obj clsSTN (pll - 8), k, 1] }).pllSearch pll
          else if (if l.refLost then 4 else 1) ≤ l.coastWin + 1 then s1.pllAcquire pll else s1
        | none => if (if l.refLost then 4 else 1) ≤ l.coastWin + 1 then s1.pllAcquire pll else s1
      | _ => s
    else s)

/-- PLL_REF_LOST: no reference edge for 4 nominal periods. A PLL that coasts already goes on, and waits for 4 windows with its
reference; a loss at the SPLL latches its fault (R140, R142). (DEDUCED: assumption 23) -/
def execPllRefLost (pll : Nat) (s : State) : Host.Outcome State Fault Refusal :=
  .next (
    let s := s.enter inEvents
    if s.pllHere pll && s.md.mode != .dormant then
      match (s.pll pll).state with
      | .locked => s.pllCoast pll true []
      | .coasting =>
        let s1 := s.updPll pll (fun l => { l with refLost := true, coastWin := 0 }.openWindow s.tempo)
        if pll = 0 then s1.latchNew 0x0303 objDEV else s1
      | _ => s
    else s)

/-- A cadence of 1,048,576 tempo has come round again (R149). -/
def cadenceDue (last : Option Tempo) (now : Tempo) : Bool := match last with
  | none => true
  | some t => decide (t + 1048576 ≤ now)

/-- PLL_TEMP_CORRECTION: a PLL reads its sensor, once in every 1,048,576 tempo, and the on-die references are corrected on the same
cadence (R149). The correction of a frozen word is a free value. (DESIGN CHOICE: assumption 23) -/
def execPllTempCorrection (pll : Nat) (s : State) : Host.Outcome State Fault Refusal :=
  .next (
    if s.pllHere pll && s.running && s.md.mode != .dormant && (s.pll pll).state != .off && cadenceDue (s.pll pll).readAt s.tempo then
      let s0 := s.updPll pll (fun l => { l with readAt := some s.tempo })
      let refs : State := if cadenceDue s.clk.refsAt s.tempo then { s0 with clk := { s0.clk with refsAt := some s.tempo } } else s0
      let s1 := refs.pllSubst pll
      let l := s1.pll pll
      match s1.pllTemp pll with
      | none => s1
      | some t =>
        match l.state with
        | .locked | .acquire =>
          if 32 ≤ (t - l.corrTemp).natAbs then
            s1.setPll pll { l with trim := if l.corrTemp < t then l.trim - 1 else l.trim + 1, corrTemp := t }
          else s1
        | .coasting =>
          if t = l.corrTemp then s1
          else let (f, s2) := s1.fresh; s2.setPll pll { l with frozen := f % 4096, corrTemp := t }
        | _ => s1
    else s)

end Sys2Proof.Machine
end

