-- ==== Sys2Proof/Machine/Video.lean ====
section
/-!
DEFINITION. What the video path shares: beams and their roles (R207 to R209), the lane queue and the swath of a station (R202
to R204), and the end of a ticket's image on a station (R251, R252).
-/
namespace Sys2Proof.Machine

/-! ### Lines and beams -/

/-- Bytes of a line, W / 2, of a station (R184: the active pixels rounded up to a multiple of 16). -/
def State.lineBytes (s : State) (n : Nat) : Nat := 8 * ceilDiv (s.par clsSTN n 0x003) 16

/-- C, the line slots of a station's swath (R202). -/
def State.swathC (s : State) (n : Nat) : Nat := 2097152 / max 1 (s.lineBytes n)

/-- S, the spare count of a station (R207). -/
def State.spares (s : State) (n : Nat) : Nat := s.par clsSTN n 0x090

/-- L, the lines that a station draws in a scan (R207). -/
def State.scanL (s : State) (n : Nat) : Nat := 32 - s.spares n

/-- Beam roles (Table 9-1), in the order of their codes. -/
inductive Role where
  | imaging | spare | promoted | replaced | outOfService
  deriving DecidableEq, Repr

/-- The code of a role. -/
def Role.code : Role → Nat
  | .imaging => 0 | .spare => 1 | .promoted => 2 | .replaced => 3 | .outOfService => 4

/-- The role of beam `b` of station `n`. -/
def State.role (s : State) (n b : Nat) : Role :=
  if !s.inService clsBEAM (32 * n + b) then .outOfService
  else if b < s.spares n then
    if s.promotions.contains (32 * n + b, 32 * n + b + s.scanL n) then .promoted else .spare
  else if s.scanL n ≤ b && s.promotions.contains (32 * n + b - s.scanL n, 32 * n + b) then .replaced
  else .imaging

/-- Station `n` has a promoted spare. -/
def State.hasPromoted (s : State) (n : Nat) : Bool := (List.range (s.spares n)).any (fun b => s.role n b == .promoted)

/-- The image line that beam `b` draws in scan `k` (R207, R209); none for a beam that emits nothing. -/
def State.ownLine (s : State) (n b k : Nat) : Option Int :=
  let l : Int := s.scanL n
  match s.role n b with
  | .imaging => some (l * k + b - s.spares n)
  | .promoted => some (l * ((k : Int) - 1) + b + l - s.spares n)
  | _ => none

/-- Scans of an image of a number of lines (R207; R209: one more with a promoted spare). -/
def State.scansOf (s : State) (n lines : Nat) : Nat := ceilDiv lines (s.scanL n) + b2n (s.hasPromoted n)

/-- The image lines that scan `k` draws of an image, beam by beam. -/
def State.drawnIn (s : State) (n k lines : Nat) : List Nat :=
  (List.range 32).filterMap (fun b => match s.ownLine n b k with
    | some i => if 0 ≤ i ∧ i < lines then some i.toNat else none
    | none => none)

/-- How many image lines scan `k` draws of an image. -/
def State.linesIn (s : State) (n k lines : Nat) : Nat := (s.drawnIn n k lines).length

/-- The lowest image line that scan `k` draws (R209: a promoted spare's line is of the scan before); without one, the image's
last line at most. -/
def State.firstIn (s : State) (n k lines : Nat) : Nat := match s.drawnIn n k lines with
  | [] => min (lines - 1) (s.scanL n * k)
  | i :: is => minOf is i

/-! ### The lane queue and the swath -/

/-- The place of a line of a strip in its sub-stream. -/
def subLine (i : Nat) : Nat := i / 32 * 8 + i % 8

/-- The line of a strip that line `l` of sub-stream `r` is. -/
def stripLine (r l : Nat) : Nat := l / 8 * 32 + 8 * r + l % 8

/-- A line of a strip was blanked by an error (R192, R193). -/
def QStrip.isBlank (q : QStrip) (i : Nat) : Bool :=
  q.blanked.any (fun e => e.1 == rankOf i && decide (e.2 ≤ subLine i))
    || (match q.crcFrom with
        | some x => decide (x ≤ i)
        | none => false)

/-- The strip of a station's queue that holds queue number `q`. -/
def Station.stripOf (t : Station) (q : Nat) : Option QStrip :=
  t.queue.find? (fun e => decide (e.first ≤ q) && decide (q < e.first + e.lines))

/-- A line stands in the swath: `none` while it is not complete, no bytes when an error blanked it. -/
def State.swLine (s : State) (n q : Nat) : Option Bytes :=
  let t := s.station n
  match t.stripOf q with
  | none => none
  | some e =>
    if e.isBlank (q - e.first) then some []
    else
      let l := Map.get (fun _ => ({} : SwLine)) t.swath (q % s.swathC n)
      if l.q = q ∧ !l.data.isEmpty then some l.data else none

/-- Put a decoded line into its slot of the swath. -/
def State.putLine (s : State) (n q : Nat) (d : Bytes) : State :=
  s.updStation n (fun t => { t with swath := Map.put (fun _ => {}) t.swath (q % s.swathC n) { q := q, data := d } })

/-- The first line of the queue that is not behind the beams. -/
def Station.front (t : Station) : Nat :=
  match t.queue.find? (fun e => decide (t.qFloor < e.first + e.lines)) with
  | some e => max t.qFloor e.first
  | none => t.qEnd

/-- q0 of R203 and the first line of the next scan not yet begun. -/
def State.scanQ (s : State) (n : Nat) : Nat × Nat :=
  let t := s.station n
  match t.draw with
  | none => (t.front, t.front)
  | some d =>
    let top := d.q0 + d.lines
    let a := min top (d.q0 + s.scanL n * d.scan)
    let b := min top (d.q0 + s.scanL n * (d.scan + 1))
    if !d.begun then (a, a) else if t.lineEnd ≤ s.tempo then (b, b) else (a, b)

/-- A lane may write line `q` (R203). -/
def State.hasRoom (s : State) (n q : Nat) : Bool :=
  decide (q + 16 + s.spares n < (s.scanQ n).1 + s.swathC n)

/-- The queue number of the line that a lane writes next in its strip. -/
def State.laneQ (s : State) (l : Nat) (e : QStrip) : Nat := e.first + stripLine (l % 4) (s.lane l).line

/-- The lane has a line of its strip still to write. -/
def State.laneMore (s : State) (l : Nat) (e : QStrip) : Bool := decide (stripLine (l % 4) (s.lane l).line < e.lines)

/-- dl.state (Table 9-8). -/
def State.laneCode (s : State) (l : Nat) : Nat :=
  match s.laneStrip l with
  | none => 0
  | some e =>
    if !(s.lane l).fetched then 3
    else if s.laneMore l e && !s.hasRoom (l / 4) (s.laneQ l e) then 2 else 1

/-- Complete lines in a row from queue number `q` on. -/
def State.fillFrom (s : State) (n q : Nat) : Nat :=
  ((List.range (s.swathC n)).takeWhile (fun i => (s.swLine n (q + i)).isSome)).length

/-- st.fill_ahead (R203). -/
def State.fillAhead (s : State) (n : Nat) : Nat := s.fillFrom n (s.scanQ n).2

/-- The strips of a ticket in a station's queue. -/
def Station.stripsOf (t : Station) (tk : Nat) : List QStrip := t.queue.filter (fun e => e.tk == tk)

/-- The lines of a ticket's image that stand in a station's queue. -/
def Station.imageLines (t : Station) (tk : Nat) : Nat := ((t.stripsOf tk).map (fun e => e.lines)).foldl (· + ·) 0

/-- The station still images another sealed sheet, or has one's image to come. -/
def State.imagesEarlier (s : State) (n tk : Nat) : Bool :=
  (s.station n).queue.any (fun e => e.tk != tk && ((s.ticket e.tk).state == 3 || (s.ticket e.tk).state == 4)
    && decide ((s.station n).qFloor < e.first + e.lines))

/-- The prefill depth is met for a ticket on one of its imaging stations (R204, Table 5-9). -/
def State.prefilled (s : State) (n tk : Nat) : Bool :=
  let t := s.station n
  let own := t.stripsOf tk
  match own.head?, own.getLast? with
  | some a, some z =>
    let start := if s.imagesEarlier n tk then (s.scanQ n).2 else a.first
    let depth := min (s.par clsSTN n 0x091) (z.first + z.lines - start)
    decide (depth ≤ s.fillFrom n start)
  | _, _ => true

/-! ### Changes of the queue -/

/-- A lane begins the strip it stands at again. -/
def Lane.restart (l : Lane) (strip : Nat) : Lane :=
  { strip := strip, work := l.work, errors := l.errors }

/-- Change the lanes of a station. -/
def State.updLanes (s : State) (n : Nat) (f : Lane → Lane) : State :=
  (List.range 4).foldl (fun u r => u.updLane (4 * n + r) f) s

/-- Number the strips of a list from a queue number on, without the marks of earlier decoding. -/
def renumber : Nat → List QStrip → List QStrip
  | _, [] => []
  | q, e :: es => { e with first := q, blanked := [], crcFrom := none, done := [] } :: renumber (q + e.lines) es

/-- The number of elements for which two lists agree from the front on. -/
def agree : List QStrip → List QStrip → Nat
  | a :: as, b :: bs => if a = b then 1 + agree as bs else 0
  | _, _ => 0

/-- Give a station's queue new contents. What both have in front stays; every strip after that is numbered afresh and decoded
again (R202). -/
def State.setQueue (s : State) (n : Nat) (new : List QStrip) : State :=
  let t := s.station n
  let k := agree t.queue new
  let keep := t.queue.take k
  let q := match keep.getLast? with
    | some e => e.first + e.lines
    | none => (match t.queue.head? with
      | some e => e.first
      | none => t.qEnd)
  let tail := renumber q (new.drop k)
  let stop := match tail.getLast? with
    | some e => e.first + e.lines
    | none => q
  let s1 := s.setStation n { t with
    queue := keep ++ tail, qEnd := stop
    swath := t.swath.filter (fun e => decide (e.2.q < q)) }
  s1.updLanes n (fun l => if t.qBase + k ≤ l.strip ∨ l.strip < t.qBase then l.restart (max t.qBase (min l.strip (t.qBase + k))) else l)

/-- The lines behind the beams that a strip is kept for: of the image under way, those of the bow window and of promoted spares
(R203). -/
def State.kept (s : State) (n : Nat) (e : QStrip) : Nat := match (s.station n).draw with
  | some d => if d.tk = e.tk then 16 + s.spares n else 0
  | none => 0

/-- Take strips that are behind the beams, and that every lane in service has passed, out of the queue. -/
def State.prune (s : State) (n : Nat) : State :=
  let t := s.station n
  let low := ((List.range 4).filter (fun r => s.inService clsDL (4 * n + r))).foldl (fun m r => min m (s.lane (4 * n + r)).strip)
    (t.qBase + t.queue.length)
  let k := ((t.queue.zipIdx).takeWhile (fun e =>
    decide (e.1.first + e.1.lines + s.kept n e.1 ≤ t.qFloor) && decide (t.qBase + e.2 < low))).length
  s.setStation n { t with queue := t.queue.drop k, qBase := t.qBase + k }

/-- The ticket's image on a station has ended, or has been cut: the lines not drawn are passed over, and the lanes decode and
discard them (R252). -/
def State.endImage (s : State) (n tk : Nat) : State :=
  let t := s.station n
  let stop := match (t.stripsOf tk).getLast? with
    | some e => e.first + e.lines
    | none => t.qFloor
  (s.setStation n { t with
    qFloor := max t.qFloor stop
    draw := match t.draw with
      | some d => if d.tk = tk then none else some d
      | none => none
    starting := t.starting.filter (fun e => e.1 != tk) }).prune n

/-- A ticket that is not sealed leaves a station's queue: it fell, was disarmed, or its header check was withdrawn. -/
def State.unqueue (s : State) (n tk : Nat) : State :=
  let t := s.station n
  if t.queue.any (fun e => e.tk == tk) then s.setQueue n (t.queue.filter (fun e => e.tk != tk)) else s

/-- Seal points of two tickets on one basis can be compared: the first is before the second. -/
def Ticket.before (a b : Ticket) : Bool := a.basis == b.basis && decide (a.feed + a.sealOff < b.feed + b.sealOff)

/-- Queue the strips of a resident ticket whose headers are valid on station `n`: behind every sealed ticket and every other
ticket whose seal point is not later (R202: tickets stand in the order in which they are sealed). -/
def State.enqueue (s : State) (n tk : Nat) (strips : List QStrip) : State :=
  let t := s.station n
  let k := s.ticket tk
  let later := fun (e : QStrip) => (s.ticket e.tk).state == 2 && Ticket.before k (s.ticket e.tk)
  let front := t.queue.takeWhile (fun e => !later e)
  s.setQueue n (front ++ strips ++ t.queue.drop front.length)

/-- A ticket is sealed: on each station its strips move in front of those of tickets that are not (R202). -/
def State.sealQueue (s : State) (n tk : Nat) : State :=
  let t := s.station n
  let open_ := fun (e : QStrip) => (s.ticket e.tk).state == 2 && e.tk != tk
  let front := t.queue.takeWhile (fun e => !open_ e && e.tk != tk)
  let rest := t.queue.drop front.length
  s.setQueue n (front ++ rest.filter (fun e => e.tk == tk) ++ rest.filter (fun e => e.tk != tk))

/-- The stations that a ticket images on. -/
def Ticket.stations (t : Ticket) : List Nat := uniq (t.images.map (fun i => i.station))

/-- A ticket's images end on every station: the exit castle or Safe-hold. -/
def State.endImages (s : State) (tk : Nat) : State :=
  (uniq ((s.ticket tk).stations ++ (s.ticket tk).imaging)).foldl (fun u n => u.endImage n tk) s

/-! ### Blanking and emission -/

/-- The mode permits BD pulses (Table 2-1). -/
def State.bdMode (s : State) : Bool :=
  s.md.mode == .warmUp || s.md.mode == .ready || s.md.mode == .print || s.md.mode == .runOut

/-- The mode permits imaging (Table 2-1). -/
def State.imageMode (s : State) : Bool := s.md.mode == .print || s.md.mode == .runOut

/-- Tempo of `num`/64 pixels in units of 1/64 tempo at a VPLL ratio of `r` / 2^32. -/
def State.pixTime (s : State) (n : Nat) (num : Int) (r : Nat) : Int :=
  num * (8 * s.outDiv n * 2 ^ 32 : Nat) / (max 1 r : Nat)

/-- R_nom (R242). -/
def State.rNom (s : State) (n : Nat) : Nat := roundDiv (s.par clsSTN n 0x001 * s.outDiv n * 2 ^ 32) 62500000

/-- A ratio held to INT 26 to 51 and to an OUT4 frequency of 50 to 250 MHz (R242). -/
def State.holdRatio (s : State) (n r : Nat) : Nat :=
  let lo := max (26 * 2 ^ 32) (ceilDiv (50000000 * s.outDiv n * 2 ^ 32) 62500000)
  let hi := min (52 * 2 ^ 32 - 1) (250000000 * s.outDiv n * 2 ^ 32 / 62500000)
  min hi (max lo r)

/-- OUT4's frequency in Hz at a ratio, rounded down. -/
def State.out4Hz (s : State) (n r : Nat) : Nat := 62500000 * r / (2 ^ 32 * max 1 (s.outDiv n))

/-- A Beam Link control block (R214): type, six field bytes, CRC-8. -/
def ctlBlock (type : Nat) (body : Bytes) : Bytes :=
  let b := BitVec.ofNat 8 type :: bytesAt body 0 6
  b ++ [BitVec.ofNat 8 (crc8 b)]

abbrev blkIDLE : Bytes := ctlBlock 0x1e []
abbrev blkBLANK : Bytes := ctlBlock 0x78 []

/-- Queue a control block for slot 0 of a coming frame. (DEDUCED: assumption 29) -/
def State.sendBlock (s : State) (l : Nat) (b : Bytes) : State := s.updLink l (fun x => { x with slot0 := x.slot0 ++ [b] })

/-- Start PX of a link whose output is enabled: EDGE_SYNC waits for the next frame (R143, R216). -/
def State.startPx (s : State) (l : Nat) : State :=
  if s.par clsSTN (l / 4) (0x06c + l % 4) = 1 then s.updLink l (fun x => { x with pxWait := true }) else s

/-- A link without its PX. -/
def Link.pxOff (x : Link) : Link := { x with pxOn := false, pxWait := false, pxAt := none, pxHold := false }

/-- Hold PX of a link low. -/
def State.stopPx (s : State) (l : Nat) : State :=
  let s1 := s.updLink l Link.pxOff
  if (s.link l).pxOn then s1.emit (.px l none 0) else s1

/-- A link without what it was sending. -/
def Link.quiet (x : Link) : Link := { x with slot0 := [], marker := none, line := none }

/-- Line number of an image line for a spoil (R125). -/
def lineNo (i : Int) : Nat := (max 0 i).toNat

/-- Files of rank `r` that draw a line of the image in its present scan: file and image line. -/
def State.filesIn (s : State) (n r : Nat) (d : Drawing) : List (Nat × Int) :=
  (List.range 8).filterMap (fun f => match s.ownLine n (8 * r + f) d.scan with
    | some i => if 0 ≤ i ∧ i < d.lines then some (f, i) else none
    | none => none)

/-- Lines of link `l` sent blank in the present scan: BLANK counts them, unless they are counted as clocked from the coasting
model already, and the station is spoiled. A file whose own line lies outside the image concerns the line of it that is nearest. -/
def State.blankLines (s : State) (l : Nat) (d : Drawing) (fs : List (Nat × Int)) (cause : Nat) : State :=
  match fs.head? with
  | none => s
  | some e =>
    let s1 := if (s.link l).coast then s else s.addBlank d.tk (l / 4) fs.length
    s1.spoil d.tk (l / 4) cause (min (d.lines - 1) (lineNo e.2))

end Sys2Proof.Machine
end

