-- ==== Sys2Proof/Machine/Scan.lean ====
section
/-!
DEFINITION. Scan synchronisation and registration (chapter 10): beam detect, facet timing, line start, registration, and the
start and end of images on a station.
-/
namespace Sys2Proof.Machine

/-! ### Station parameters and tables -/

/-- LEN_PPM and BD_CORR of a facet (R244). -/
def State.lenPpm (s : State) (n i : Nat) : Int := sext 32 (leAt (s.table 0x04 n) (8 * i) 4)
def State.bdCorr (s : State) (n i : Nat) : Int := sext 32 (leAt (s.table 0x04 n) (8 * i + 4) 4)

/-- st.facets. -/
def State.facets (s : State) (n : Nat) : Nat := max 1 (s.par clsSTN n 0x000)

/-- st.bd.half_window in 1/64 tempo. -/
def State.halfWin (s : State) (n : Nat) : Nat := 64 * s.par clsSTN n 0x007

/-- The facet period to count with: the last accepted one, or st.scan_period before there is one. -/
def State.facetPeriod (s : State) (n : Nat) : Nat :=
  if (s.station n).period = 0 then s.par clsSTN n 0x002 else (s.station n).period

/-- A period is in tolerance (R236). -/
def State.periodOk (s : State) (n p : Nat) : Bool :=
  let sp := s.par clsSTN n 0x002
  decide (((p : Int) - sp).natAbs * 1000000 ≤ sp * s.par clsSTN n 0x00d)

/-- The rank and file of st.bd.beam: the link that carries BD pulses, and FILE. -/
def State.bdLink (s : State) (n : Nat) : Nat := 4 * n + s.par clsSTN n 0x008 / 8

/-! ### States -/

/-- st.reg.ok of a geared station is 0 after any state other than LOCKED (R250). -/
def State.dropReg (s : State) (n : Nat) : State :=
  (s.updStation n (fun t => { t with regOk := false, oks := [] })).regChange n (s.regVal n)

/-- The POLY tile that a station names (R249). -/
def State.polyTile (s : State) (n : Nat) : Option Nat :=
  let k := s.par clsSTN n 0x011
  if k < 64 ∧ s.inService clsDT k ∧ s.tMode k = 3 then some k else none

/-- A POLY tile in SYNC or COAST returns to the observer: Δ = θc - θo, with the observer's angle a free value (R319). -/
def State.polyToObserver (s : State) (k : Nat) : State :=
  match (s.poly k).stage with
  | .sync | .coast =>
    let (a, s1) := s.fresh
    (s1.updPoly k (fun p => { p with delta := wrapAngle ((p.thc : Int) - (a % 65536 : Nat)), rampEnd := p.rampEnd })).polyTo k .observer
  | _ => s

/-- Change the state of facet timing (Table 10-3), with its event. -/
def State.syncTo (s : State) (n : Nat) (st : Sync) (code : Nat) (fields : List Nat) : State :=
  let t := s.station n
  let leaves := decide (t.sync = .locked ∧ st ≠ .locked)
  let s1 := if leaves then s.dropReg n else s
  let s2 := s1.updStation n (fun t => { t with sync := st, lockRun := if st = .seeking then 0 else t.lockRun })
  let s3 := if code = 0 then s2
    else s2.raise { code := code, obj := obj clsSTN n, fields := obj clsSTN n :: fields, sheet := code ≠ 0x0701 && s.scanSheet n }
  if leaves ∧ st = .seeking then (match s3.polyTile n with
    | some k => s3.polyToObserver k
    | none => s3)
  else s3

/-- The code of a facet timing state. -/
def Sync.code : Sync → Nat
  | .off => 0 | .seeking => 1 | .locked => 2 | .coasting => 3 | .lost => 4

/-! ### The POLY tile (R249, R315 to R320) -/

/-- Pass an accepted edge to the POLY tile: facet, B, P and e. -/
def State.polyEdge (s : State) (n : Nat) (ok : Bool) : State :=
  match s.polyTile n with
  | none => s
  | some k =>
    let t := s.station n
    let b := (t.bModel.getD 0).toNat
    let note := fun (u : State) => u.updPoly k (fun p => { p with nf := t.facet, facetB := b, facetP := t.period })
    match (s.poly k).stage with
    | .observer =>
      if s.stnLocked n then
        let s1 := note s
        let thb := s1.thetaB k (65536 * t.facet)
        ((s1.updPoly k (fun p => { p with
          offset := (((p.thc : Int) - p.delta - thb) % 65536).toNat, integ := 0
          rampEnd := if p.field 24 4 = 0 then p.rampEnd else none })).polyTo k .sync)
      else s
    | .coast => if ok then (note (s.updPoly k (fun p => { p with integ := 0 }))).polyTo k .sync else note s
    | .sync =>
      let s1 := note s
      let vmax := up32 (s.fb k 112 4)
      let e : Int := if (s.gear (obj clsSTN n)).master = 0 then 0 else t.err
      let (a, s2) := s1.fresh
      let d := wrapAngle ((a % 65536 : Nat) - ((s2.poly k).thc : Int))
      let s3 := s2.updPoly k (fun p => { p with integ := clampI (-vmax) vmax (p.integ + s.fbI k 108 4 * e * 65536) })
      if s.fb k 86 2 < d.natAbs then
        s3.raiseLimited { code := 0x0923, obj := obj clsDT k, fields := [obj clsDT k, i64 d] } 1000000 0 true
      else s3
    | _ => s

/-- Pass a miss marker; `blanked` says that the interlock made beam detect unavailable, `lost` that the station is LOST now. -/
def State.polyMiss (s : State) (n : Nat) (blanked lost : Bool) : State :=
  match s.polyTile n with
  | none => s
  | some k =>
    let t := s.station n
    let s1 := s.updPoly k (fun p => { p with nf := t.facet, facetB := (t.bModel.getD 0).toNat })
    match (s.poly k).stage with
    | .sync => if blanked then s1.polyToObserver k else if lost then s1.polyTo k .catch else s1.polyTo k .coast
    | .coast => if blanked then s1.polyToObserver k else if lost then s1.polyTo k .catch else s1
    | _ => s

/-! ### Images (R251, R252) -/

/-- The image under way on a station is cut by another ticket's scan 0. -/
def State.cutImage (s : State) (n new : Nat) : State :=
  match (s.station n).draw with
  | none => s
  | some d =>
    let left := ((List.range (s.scansOf n d.lines)).filter (fun k => d.scan ≤ k)).foldl (fun a k => a + s.linesIn n k d.lines) 0
    let s1 := ((s.addBlank d.tk n left).spoil d.tk n 5 (s.firstIn n d.scan d.lines)).endImage n d.tk
    s1.raise { code := 0x0721, obj := obj clsSTN n, fields := [obj clsSTN n, obj clsTK d.tk, obj clsTK new, left], sheet := true }

/-- Scan 0 of a ticket's image is this facet. -/
def State.beginImage (s : State) (n tk : Nat) : State :=
  let s1 := s.cutImage n tk
  let t := s1.station n
  let lines := t.imageLines tk
  let q0 := match (t.stripsOf tk).head? with
    | some e => e.first
    | none => t.front
  let s2 := s1.raise { code := 0x0720, obj := obj clsSTN n, fields := [obj clsSTN n, obj clsTK tk, s.tempo, t.facet] }
  if lines = 0 then s2
  else s2.setStation n { t with qFloor := max t.qFloor q0, draw := some { tk := tk, scan := 0, begun := false, q0 := q0, lines := lines } }

/-- At a decision tempo: the image under way goes to its next scan or ends, and images due start. -/
def State.nextScan (s : State) (n : Nat) : State :=
  let t := s.station n
  let s1 := match t.draw with
    | none => s
    | some d =>
      if s.scansOf n d.lines ≤ d.scan + 1 then s.endImage n d.tk
      else (s.setStation n { t with
        draw := some { d with scan := d.scan + 1, begun := false }
        qFloor := max t.qFloor (min (d.q0 + d.lines) (d.q0 + s.scanL n * (d.scan + 1))) })
  let due := t.starting.filter (fun e => decide (e.2 < s.tempo))
  let s2 := s1.updStation n (fun t => { t with starting := t.starting.filter (fun e => !decide (e.2 < s.tempo)) })
  due.foldl (fun u e => u.beginImage n e.1) s2

/-- Lines of a sealed sheet whose decision tempo falls while the station is not LOCKED (R238). -/
def State.coastCheck (s : State) (n : Nat) : State :=
  let coast := !s.stnLocked n
  let s1 := s.updStation n (fun t => { t with coastLine := coast })
  match s1.drawing n with
  | none => s1
  | some d =>
    let k := s1.linesIn n d.scan d.lines
    if coast && k != 0 then (s1.addBlank d.tk n k).spoil d.tk n 3 (s1.firstIn n d.scan d.lines) else s1

/-! ### Decisions (R240 to R243) -/

/-- What a decision tempo takes for the line start (R243). -/
def State.lineAdjOf (s : State) (n : Nat) : Int :=
  64 * s.par clsSTN n 0x004 + s.parI clsSTN n (0x040 + (s.station n).facet % 16) + s.parI clsSTN n 0x050

/-- A decision with the model timestamp `b` of facet `i`: the ratio (R242), the next prediction (R240), the image's next scan and
the check of R238. -/
def State.decideFacet (s : State) (n : Nat) (b : Int) (i : Nat) : State :=
  let p := s.facetPeriod n
  let sp : Int := s.par clsSTN n 0x002
  let raw := (roundDivI ((s.rNom n : Int) * sp * (1000000 + s.lenPpm n i)) (max 1 (p * 1000000))).toNat
  let r := s.holdRatio n raw
  let s1 := s.updStation n (fun t => { t with
    decTempo := s.tempo, decRatio := r, boundary := true, lineQ := none, bModel := some b
    pred := some (b + p - s.bdCorr n ((i + 1) % s.facets n)) })
  let s2 := s1.updStation n (fun t => { t with lineAdj := s1.lineAdjOf n })
  let s3 := if r = raw then s2
    else
      let s4 := s2.raiseLimited
        { code := 0x0707, obj := obj clsSTN n, fields := [obj clsSTN n, raw, r], sheet := s.scanSheet n } 1000000
      if (s4.station n).sync = .locked then s4.syncTo n .seeking 0 [] else s4
  (s3.nextScan n).coastCheck n

/-- The registration of an accepted edge (R247, R248, R250). -/
def State.register (s : State) (n : Nat) : State :=
  let g := s.gear (obj clsSTN n)
  let t := s.station n
  if g.master = 0 then s
  else
    let phase := s.parI clsSTN n 0x051
    let slew : Int := s.par clsSTN n 0x053
    let phi := if t.phiSet then wrapAngle (t.phiEff + clampI (-slew) slew (wrapAngle (phase - t.phiEff))) else wrapAngle g.s
    let e := wrapAngle (g.s - phi)
    let oks := (decide (e.natAbs ≤ s.par clsSTN n 0x054) :: t.oks).take 8
    let ok := decide (t.sync = .locked) && decide (oks.length = 8) && oks.all id
    (s.setStation n { t with phiSet := true, phiEff := phi, err := e, oks := oks, regOk := ok }).regChange n (s.regVal n)

/-- Transitions of Table 10-3 at an accepted edge of facet `i`, with its period if it has one. -/
def State.edgeState (s : State) (n i : Nat) (p : Option Nat) : State :=
  let t := s.station n
  let ok := match p with
    | some x => s.periodOk n x
    | none => false
  match t.sync with
  | .seeking =>
    let run := if ok then t.lockRun + 1 else 0
    let s1 := s.setStation n { t with lockRun := run }
    if decide (s.par clsSTN n 0x00e ≤ run) && t.idxOk then s1.syncTo n .locked 0x0701 [i, t.sync.code] else s1
  | .lost => (s.syncTo n .seeking 0 []).updStation n (fun t => { t with lockRun := b2n ok })
  | .coasting =>
    if ok then s.syncTo n .locked 0x0701 [i, t.sync.code] else s.syncTo n .seeking 0x0703 [i, p.getD 0, s.par clsSTN n 0x002]
  | .locked => if ok then s else s.syncTo n .seeking 0x0703 [i, p.getD 0, s.par clsSTN n 0x002]
  | .off => s

/-- Accept an edge with a raw timestamp (R240). After seek pulses, the facets since the model's last are whole model periods. -/
def State.acceptEdge (s : State) (n raw : Nat) : State :=
  let t := s.station n
  let step : Nat := match t.seek, t.bModel with
    | true, some b => max 1 (roundDiv (((raw : Int) - b).toNat) (max 1 (s.facetPeriod n)))
    | _, _ => 1
  let start := t.idxPend || (s.par clsSTN n 0x00f == 0 && !t.idxOk)
  let i := if start then 0 else (t.facet + step) % s.facets n
  let b : Int := (raw : Int) + s.bdCorr n i
  let p : Option Nat := t.bAcc.map (fun a => ((b - a) / ((t.since + step : Nat) : Int)).toNat)
  let s1 := s.setStation n { t with
    facet := i, idxOk := t.idxOk || start, idxPend := false, idxCount := t.idxCount + step, bAcc := some b, bModel := some b
    raw := raw, since := 0, missed := 0, seek := false, seekLit := none, period := p.getD t.period }
  let s2 := (s1.edgeState n i p).register n
  (s2.decideFacet n b i).polyEdge n (match p with
    | some x => s.periodOk n x
    | none => false)

/-- A stray edge (R233). -/
def State.strayEdge (s : State) (n : Nat) : State :=
  (s.updStation n (fun t => { t with stray := satAdd 32 t.stray 1 })).raiseLimited
    { code := 0x0706, obj := obj clsSTN n, fields := [obj clsSTN n] } 1000000 0 true

/-- The station's facet timing runs. -/
def State.scanOn (s : State) (n : Nat) : Bool := s.inService clsSTN n && (s.station n).enabled && (s.station n).sync != .off

/-- The tempo in which an edge is captured: the first that begins at least 3 + st.bd.min_width tempo after it (R232). -/
def State.captureTempo (s : State) (n raw : Nat) : Tempo := ceilDiv raw 64 + 3 + s.par clsSTN n 0x006

/-- BD_EDGE_CAPTURE: an edge of BDn, whose new level has held for st.bd.min_width tempo, with its timestamp in 1/64 tempo. An edge
that is not of st.bd.polarity, or that follows another in its tempo of capture, is none (R232). -/
def execBdEdgeCapture (st : Idx) (edge : BdEdge) (s : State) : Host.Outcome State Fault Refusal :=
  .next (
    let s := s.enter inCapture
    let raw := edge.raw
    if decide (st < 8) && s.scanOn st && edge.rising == (s.par clsSTN st 0x005 == 0) && decide (s.captureTempo st raw = s.tempo)
        && (s.station st).bdAt != some s.tempo then
      let s := s.updStation st (fun t => { t with bdAt := some s.tempo })
      let t := s.station st
      let hit :=
        if t.seek || t.pred.isNone then (match t.seekLit with
          | some (a, z) => decide (a ≤ raw) && decide (raw ≤ z)
          | none => false)
        else (match t.pred with
          | some p => decide (((raw : Int) - p).natAbs ≤ s.halfWin st)
          | none => false)
      if hit then s.acceptEdge st raw else s.strayEdge st
    else s)

/-- The decision tempo of a miss (R240): the tempo after the first one that begins at or after pred + h + 3 + st.bd.min_width. -/
def State.missTempo (s : State) (n : Nat) (pred : Int) : Int :=
  let t := pred + s.halfWin n + 64 * (3 + s.par clsSTN n 0x006)
  1 - (-t) / 64

/-- BD_WINDOW_MISS: a window closes with no accepted edge (R236, R240, R241). (DESIGN CHOICE: assumption 31) -/
def execBdWindowMiss (st : Idx) (s : State) : Host.Outcome State Fault Refusal :=
  .next (
    let s := s.enter inTimeouts
    let t := s.station st
    match t.pred with
    | some p =>
      if decide (st < 8) && s.scanOn st && decide (s.missTempo st p ≤ s.tempo) then
        let i := (t.facet + 1) % s.facets st
        let b := t.bAcc.getD p + ((t.since + 1) * s.facetPeriod st : Nat)
        let counts := !s.video.blanked && decide ((64 * s.video.relAt : Nat) + (s.halfWin st : Int) ≤ p)
        let s1 := s.setStation st { t with
          facet := i, since := t.since + 1, idxCount := t.idxCount + 1, bModel := some b
          missed := if counts then t.missed + 1 else t.missed
          seek := t.seek || t.sync == .seeking, lockRun := 0 }
        let s2 := if t.sync = .locked then s1.syncTo st .coasting 0x0702 [i, i64 p] else s1
        let lost := decide ((s2.station st).sync = .coasting ∧ 8 ≤ (s2.station st).missed)
        let s3 := if lost then
            (s2.syncTo st .lost 0x0704 [t.raw / 64]).updStation st (fun t => { t with seek := true })
          else s2
        (s3.decideFacet st b i).polyMiss st s.video.blanked lost
      else s
    | none => s)

/-! ### Index (R239) -/

/-- FACET_INDEX_EDGE: the index edge that a GPIO or the POLY tile has passed to the station. -/
def execFacetIndexEdge (st : Idx) (s : State) : Host.Outcome State Fault Refusal :=
  .next (
    let s := s.enter inCapture
    let t := s.station st
    if decide (st < 8) && s.scanOn st && t.idxArm && s.par clsSTN st 0x00f != 0 then
      let bad := t.idxSeen && t.idxOk && decide (t.idxCount ≠ s.facets st)
      let keep := t.idxOk && !bad
      let s1 := s.setStation st { t with idxArm := false, idxSeen := true, idxOk := keep, idxPend := !keep, idxCount := 0 }
      if bad then
        if t.sync = .locked then s1.syncTo st .seeking 0x0705 [t.idxCount]
        else s1.raise { code := 0x0705, obj := obj clsSTN st, fields := [obj clsSTN st, t.idxCount], sheet := s.scanSheet st }
      else s1
    else s)

/-- GPIO_EDGE_CAPTURE: an accepted edge of a GPIO (R418, R419); a rising one may be a station's facet index. (DEDUCED: assumption 24) -/
def execGpioEdgeCapture (pin : Idx) (level : Bool) (s : State) : Host.Outcome State Fault Refusal :=
  .next (
    let s := s.enter inCapture
    let cfg := s.par clsGPIO pin 0x000
    if decide (pin < 32) && bit cfg (if level then 4 else 5) then
      let g := s.gpio pin
      let s1 := s.setGpio pin { capTempo := s.tempo - 3 - field cfg 8 8, level := level, overrun := g.overrun || g.unread, unread := true
                                captures := (g.captures + 1) % 65536 }
      if level then
        ((s.units clsSTN).filter (fun n => s.par clsSTN n 0x00f == 2 && s.par clsSTN n 0x010 == pin)).foldl
          (fun u n => u.updStation n (fun t => { t with idxArm := true })) s1
      else s1
    else s)

/-- SLOW_INDEX (R298): the tile takes x_m at the frame in which its index rose; a POLY tile passes the edge to its station. -/
def execSlowIndex (tile : Idx) (s : State) : Host.Outcome State Fault Refusal :=
  .next (s.onWord tile 4 (fun u d =>
    if !bit d 5 then u
    else
      let t := u.tile tile
      let x := t.xmFrames.getD (63 - field d 0 5) t.xm
      let u1 := u.setTile tile { t with indexSeen := true }
      let u2 := if t.indexSeen then u1
        else u1.raise { code := 0x0905, obj := obj clsDT tile, fields := [obj clsDT tile, i64 x] }
      match u.polyStation tile with
      | some n => if u.tMode tile = 3 ∧ u.par clsSTN n 0x00f = 1 then u2.updStation n (fun t => { t with idxArm := true }) else u2
      | none => u2))

/-! ### Seek pulses (R237) and the facet boundary (R242 to R244, R234, R225) -/

/-- The facet period that the named POLY tile's speed implies, or st.scan_period. -/
def State.seekPeriod (s : State) (n : Nat) : Nat :=
  match s.polyTile n with
  | some k =>
    let v := ((s.poly k).vMeas).natAbs
    if v = 0 then s.par clsSTN n 0x002 else 65536 * 64 * 500000000 * 2 ^ 32 / v
  | none => s.par clsSTN n 0x002

/-- A station may light BD pulses (R234, R227). -/
def State.mayPulse (s : State) (n : Nat) : Bool := s.scanOn n && s.bdMode && !s.dark

/-- The block of a BD pulse or a monitor request (Table 9-2). -/
def pulseBlock (type file code edge width : Nat) : Bytes :=
  ctlBlock type (toLE 1 file ++ toLE 1 code ++ toLE 2 edge ++ toLE 1 width)

/-- The number of the first OUT4 edge at or after a time in 1/64 tempo (R234). -/
def State.edgeAt (s : State) (n : Nat) (time : Int) : Nat := (s.pll (8 + n)).edgeN + s.edgesTo n (time * 2 ^ 32)

/-- The tempo in which the frame begins that the next block queued for slot 0 of a link leaves in. -/
def State.nextSlot0 (s : State) (l : Nat) : Tempo := (s.tempo / 64 + 1 + (s.link l).slot0.length) * 64

/-- SEEK_PULSE: the next seek pulse of a station without a prediction (R237): its edge is the first of OUT4 at or after the last
pulse by a facet period and half a width, and no earlier than 1,024 tempo after its frame (R234). The first pulse comes as soon as
it may. (DESIGN CHOICE: assumption 31) -/
def execSeekPulse (st : Idx) (s : State) : Host.Outcome State Fault Refusal :=
  .next (
    let t := s.station st
    let l := s.bdLink st
    let width := (s.pixTime st (64 * 16 * s.par clsSTN st 0x00c : Nat) (s.pll (8 + st)).ratio).toNat
    let soonest := 64 * (s.nextSlot0 l + 1024)
    let next := match t.seekLit with
      | none => soonest
      | some (a, _) => a + s.seekPeriod st + width / 2
    if decide (st < 8) && s.mayPulse st && (s.link l).state == .up && (t.seek || t.pred.isNone) && decide (next ≤ soonest + 64 * 64) then
      let e := s.edgeAt st (max next soonest : Nat)
      let at_ := (s.edgeTime st (e - (s.pll (8 + st)).edgeN) / 2 ^ 32).toNat
      (s.setStation st { t with seekLit := some (at_, at_ + width) }).sendBlock l
        (pulseBlock 0x2d (s.par clsSTN st 0x008 % 8) (s.par clsSTN st 0x009) e (s.par clsSTN st 0x00c))
    else s)

/-- The monitor request of a link for the coming window (R225, R234): each UP link sends one every st.mon_period scans. -/
def State.monRequest (s : State) (n r : Nat) (pred : Int) : State :=
  let l := 4 * n + r
  let x := s.link l
  if x.state ≠ .up then s
  else if x.monScans + 1 < s.par clsSTN n 0x096 then s.setLink l { x with monScans := x.monScans + 1 }
  else
    let emits := fun (m : Nat) => match s.role n (8 * r + m / 2 % 8) with
      | .imaging | .promoted => true
      | _ => false
    match (List.range 16).find? (fun j => emits (x.monCount + j)) with
    | none => s.setLink l { x with monScans := 0 }
    | some j =>
      let m := x.monCount + j
      let edge := s.edgeAt n pred + s.par clsSTN n 0x00a
      (s.setLink l { x with monScans := 0, monCount := m + 1 }).sendBlock l
        (pulseBlock 0x66 (m / 2 % 8) (s.par clsSTN n (0x094 + m % 2)) edge (s.par clsSTN n 0x00b))

/-- The BD pulse for the coming window (R234). -/
def State.bdPulse (s : State) (n : Nat) (pred : Int) : State :=
  let width := ceilDiv (2 * s.par clsSTN n 0x007 * (s.pll (8 + n)).ratio) (16 * (8 * max 1 (s.outDiv n) * 2 ^ 32))
  if (s.link (s.bdLink n)).state = .up then
    s.sendBlock (s.bdLink n) (pulseBlock 0x2d (s.par clsSTN n 0x008 % 8) (s.par clsSTN n 0x009)
      (s.edgeAt n (pred - s.halfWin n)) width)
  else s

/-- The first OUT4 edge at or after the facet boundary d + 64 (R242): how many edges after the one edges are counted from. -/
def State.boundaryEdge (s : State) (n : Nat) : Nat := s.edgesTo n (((s.station n).decTempo + 64) * 2 ^ 38 : Nat)

/-- OUT4 of a station has edges: its VPLL runs and the output is enabled (R143). -/
def State.out4On (s : State) (n : Nat) : Bool :=
  s.par clsSTN n 0x070 == 1 && (s.pll (8 + n)).state != .off && (s.pll (8 + n)).state != .search

/-- FACET_BOUNDARY: the first OUT4 edge at or after d + 64, with its number and the tempo in which it lies. The ratio takes effect there and the line start follows from it
(R242, R243). -/
def execFacetBoundary (st edge : Nat) (time : Tempo) (s : State) : Host.Outcome State Fault Refusal :=
  .next (
    let s := s.enter inEvents
    let t := s.station st
    let k := s.boundaryEdge st
    let at_ := s.edgeTime st k
    if decide (st < 8) && s.scanOn st && t.boundary && s.out4On st && decide (at_ < (s.tempo + 1) * 2 ^ 38)
        && decide (edge = (s.pll (8 + st)).edgeN + k) && decide ((time : Int) = at_ / 2 ^ 38) then
      let s0 := (s.setRatio (8 + st) t.decRatio).updPll (8 + st) (fun p => { p with edgeN := edge, edgeT := (s.edgeBase st k).toNat })
      let r := (s0.pll (8 + st)).ratio
      let b := t.bModel.getD 0
      let q := (64 * edge : Nat) - roundDivI ((at_ - b * 2 ^ 32) * r) (8 * 2 ^ 64 * max 1 (s.outDiv st)) + t.lineAdj
      let far := (List.range 4).foldl (fun (m : Int) r => max m (s.parI clsVL (4 * st + r) 0x001)) 0
      let stop := b + s.pixTime st (t.lineAdj + far + (64 * s.par clsSTN st 0x003 : Nat)) r
      let s1 := s0.setStation st { t with boundary := false, lineQ := some q, lineEnd := (-((-stop) / 64)).toNat }
      let s2 := (List.range 4).foldl (fun u r => u.updLink (4 * st + r) (fun l => { l with lineDue := true, marker := none, coast := t.coastLine })) s1
      match t.pred with
      | some p =>
        if s.mayPulse st && !t.seek then
          let s3 := s2.bdPulse st p
          if s.stnLocked st then (List.range 4).foldl (fun u r => u.monRequest st r p) s3 else s3
        else s2
      | none => s2
    else s)

/-! ### STATION_ENABLE and STATION_DISABLE (R235, R236) -/

/-- The checks of Table 10-1, in 1/64 tempo times st.px_hz, so that every side is exact. -/
def State.enableChecks (s : State) (n : Nat) : Bool :=
  let px := s.par clsSTN n 0x001
  let p : Int := 500000000
  let sp : Int := s.par clsSTN n 0x002
  let act : Int := s.par clsSTN n 0x003
  let start : Int := s.par clsSTN n 0x004
  let h : Int := s.par clsSTN n 0x007
  let mo : Int := s.par clsSTN n 0x00a
  let mw : Int := s.par clsSTN n 0x00b
  let hz : Int := px
  let lead := (max 0 (40 * act * hz - 19 * 500000000 * act)).toNat
  let x : Int := 64 * (ceilDiv lead (19 * 64 * max 1 px) : Nat)
  let pulse : Int := 16 * (ceilDiv (2 * s.par clsSTN n 0x007 * px) (16 * 500000000) : Nat)
  decide (6400000 ≤ sp)
    && decide (3 * sp * hz ≤ 4 * 64 * act * p)
    && decide ((x + 2048 + h) * hz ≤ (start - 160) * p)
    && decide (64 * 1000000 * ((start + 160 + act) * p + (h + 256) * hz) ≤ sp * hz * (1000000 - s.par clsSTN n 0x00d))
    && decide (pulse * p - h * hz ≤ mo * p)
    && decide ((mo + 16 * mw) * p ≤ (start - 160) * p - (x + 1151) * hz)

/-- What refuses a station's enabling with WRONG_STATE (R143, R204, R235, R419). -/
def State.enableBad (s : State) (n : Nat) : Bool :=
  let d4 := s.outDiv n
  let r := s.holdRatio n (s.rNom n)
  let r0 := min (52 * 2 ^ 32 - 1) (max (26 * 2 ^ 32) (s.rNom n))
  let pin := s.par clsSTN n 0x010
  !s.enableChecks n || decide (s.swathC n < s.par clsSTN n 0x091 + 48) || decide (r0 ≠ r)
    || (List.range 4).any (fun j => s.par clsSTN n (0x06c + j) == 1 && s.par clsSTN n (0x060 + j) != d4)
    || s.role n (s.par clsSTN n 0x008) == .replaced
    || (s.par clsSTN n 0x00f == 2 && !bit (s.par clsGPIO pin 0x000) 4)

/-- STATION_ENABLE: facet timing starts in SEEKING, without memory of an earlier run. -/
def execStationEnable (m : Msg) (s : State) : Host.Outcome State Fault Refusal :=
  .next (
    let s := s.enter inDirect
    let o := m.argN 8 4
    let n := aIdx o
    s.command 0x0700 m
      (m.plen 0 ++ m.argRes 0xffffffff00000000 ++ s.inModes [.standby, .warmUp, .ready] ++ s.objRefs o [clsSTN]
        ++ refuse (!s.inService clsBEAM (32 * n + s.par clsSTN n 0x008)) stNOT_PRESENT
        ++ refuse (s.enableBad n) stWRONG_STATE ++ refuse (s.video.ilkA || s.video.ilkB) stINTERLOCK_OPEN
        ++ refuse (s.participates o) stSHEET_LOCKED)
      (fun r u =>
        if (u.station n).enabled then u.ok r
        else
          let t := u.station n
          let r0 := u.holdRatio n (u.rNom n)
          let hz := u.out4Hz n r0
          let u1 := (u.setStation n { (({} : Station)) with
            enabled := true, sync := .seeking, seek := true, outOn := t.outOn
            stray := t.stray, queue := t.queue, qBase := t.qBase, qEnd := t.qEnd, qFloor := t.qFloor, swath := t.swath }).updPll (8 + n)
              (fun p => { p with ratio := r0 })
          let u2 := if (250 - 25 * u.therm.grade) * 1000000 < hz then
            u1.raise { code := 0x0d22, obj := o, fields := [o, hz, u.therm.grade] } else u1
          (u2.regChange n (u.regVal n)).ok r))

/-- A link is no longer UP: DOWN, with its PX low and nothing to send. -/
def State.linkIdle (s : State) (l : Nat) : State :=
  (s.stopPx l).updLink l (fun x => { x.quiet with state := if x.state = .up then .down else x.state, lineDue := false })

/-- Gate a BLPLL that no station of its half uses any more (R42); its links that are UP go DOWN (R221). (DEDUCED: assumption 23) -/
def State.gateBlpll (s : State) (half : Nat) : State :=
  if (List.range 4).any (fun k => (s.station (4 * half + k)).enabled) || (s.pll (3 + half)).state == .off then s
  else
    ((List.range 16).foldl (fun u k => u.linkIdle (16 * half + k)) s).updPll (3 + half) (fun l => { l with
      state := .off, inTol := 0, outTol := 0 })

/-- A station is switched off: facet timing OFF, its links that are UP go DOWN (Table 9-3), its PX stop, and the clocks that no unit
uses any more stop (R42). -/
def State.disableStation (s : State) (n : Nat) : State :=
  let s1 := (List.range 4).foldl (fun u r => u.linkIdle (4 * n + r)) s
  let t := s1.station n
  let s2 := (s1.setStation n { (({} : Station)) with
    outOn := t.outOn, err := t.err
    stray := t.stray, queue := t.queue, qBase := t.qBase, qEnd := t.qEnd, qFloor := t.qFloor, swath := t.swath }).regChange n
      (s.regVal n)
  let s3 := (s2.updPll (8 + n) (fun l => { (({} : Pll)) with subst := l.subst })).gateBlpll (n / 4)
  match s3.polyTile n with
  | some k => s3.polyToObserver k
  | none => s3

/-- STATION_DISABLE. -/
def execStationDisable (m : Msg) (s : State) : Host.Outcome State Fault Refusal :=
  .next (
    let s := s.enter inDirect
    let o := m.argN 8 4
    s.command 0x0701 m
      (m.plen 0 ++ m.argRes 0xffffffff00000000 ++ s.objRefs o [clsSTN] ++ refuse (s.participates o) stSHEET_LOCKED)
      (fun r u => (u.disableStation (aIdx o)).ok r))

/-! ### PROMOTE (R208) -/

/-- PROMOTE: a spare takes over a beam's lines, or with its own address gives them back. -/
def execPromote (m : Msg) (s : State) : Host.Outcome State Fault Refusal :=
  .next (
    let s := s.enter inDirect
    let a := m.argN 8 4
    let b := m.argN 12 4
    let p := aIdx a
    let n := p / 32
    let back := decide (a = b)
    let partner := p + s.scanL n
    s.command 0x0111 m
      (m.plen 0 ++ s.inModes modesCfSb ++ s.objRefs a [clsBEAM] ++ s.objRefs b [clsBEAM]
        ++ refuse (decide (s.spares n ≤ p % 32) || (!back && decide (aIdx b ≠ partner))) stBAD_ARG
        ++ refuse ((s.station n).enabled || (if back then s.role n (p % 32) != .promoted
            else s.role n (p % 32) != .spare || s.role n (aIdx b % 32) != .imaging)) stWRONG_STATE)
      (fun r u =>
        let u1 := { u with promotions :=
          if back then u.promotions.filter (fun e => e.1 != p) else u.promotions ++ [(p, partner)] }
        (u1.raise { code := 0x0640, obj := a, fields := [a, obj clsBEAM partner, b2n (!back)] }).ok r))

end Sys2Proof.Machine
end

