-- ==== Sys2Proof/Machine/Beams.lean ====
section
/-!
DEFINITION. Beam Links (chapter 9): the beam mapper, frames, training, the backchannel and the laser interlock.
-/
namespace Sys2Proof.Machine

/-! ### Offsets and pulse values (R210, R211, R246) -/

/-- A division that rounds towards minus infinity. -/
def floorDiv (a : Int) (b : Nat) : Int := a / (max 1 b : Nat)

/-- off(b, x) of R246 before it is held, for the 16 pixels that begin at `x'`. -/
def State.offRaw (s : State) (n b x' : Nat) : Int :=
  let bow := s.table 0x02 n
  let skew := s.table 0x03 n
  let pitch := max 1 (s.par clsSTN n 0x012)
  let e := fun (j : Nat) => sext 16 (leAt bow (128 * b + 2 * j) 2)
  let j := x' / pitch
  let bw := if 63 ≤ j then e 63 else e j + floorDiv ((e (j + 1) - e j) * (x' - j * pitch : Nat)) pitch
  s.parI clsSTN n 0x052
    + floorDiv (bw + sext 32 (leAt skew (8 * b) 4) + floorDiv (sext 32 (leAt skew (8 * b + 4) 4) * x') 65536 + 128) 256

/-- off(b, x) held to -16 to +16. -/
def State.offOf (s : State) (n b x' : Nat) : Int := clampI (-16) 16 (s.offRaw n b x')

/-- The 16-pixel steps of a line. -/
def State.steps16 (s : State) (n : Nat) : List Nat := (List.range (ceilDiv (s.par clsSTN n 0x003) 16)).map (fun i => 16 * i)

/-- The link value of R210 for a code. -/
def State.pulseOf (s : State) (n b code : Nat) : Nat :=
  let e := leAt (s.table 0x01 n) (16 * b + code) 1 % 32
  if e = 0 then 0 else min 31 ((e * s.par clsBEAM (32 * n + b) 0x000 + 0x8000) / 65536)

/-- The value of beam `b` at pixel `x` when it draws image line `own` of an image of `lines` lines that begins at queue number
`q0` (R206, R210). -/
def State.pixValue (s : State) (n b : Nat) (own : Int) (lines q0 x : Nat) : Nat :=
  let i := own + s.offOf n b (x / 16 * 16)
  if i < 0 ∨ (lines : Int) ≤ i then 0
  else match s.swLine n (q0 + i.toNat) with
    | some d => if d.isEmpty then 0 else s.pulseOf n b (field (leAt d (x / 2) 1) (4 * (x % 2)) 4)
    | none => 0

/-- The lines that beam `b` reads in a scan (R205). -/
def State.linesRead (s : State) (n b : Nat) (own : Int) (lines : Nat) : List Nat :=
  let offs := (s.steps16 n).map (fun x => s.offOf n b x)
  let lo := own + offs.foldl min (offs.headD 0)
  let hi := own + offs.foldl max (offs.headD 0)
  (List.range 65).filterMap (fun (k : Nat) => let i : Int := lo + (k : Int); if i ≤ hi ∧ 0 ≤ i ∧ i < lines then some i.toNat else none)

/-- Pack 40-bit pixel words, least significant bit first, into 64-bit data blocks (R215). -/
def dataBlocks (ws : List Nat) : List Nat :=
  let all := ws.zipIdx.foldl (fun a e => a + e.1 * 2 ^ (40 * e.2)) 0
  (List.range (ceilDiv (40 * ws.length) 64)).map (fun j => field all (64 * j) 64)

/-! ### The mapper (R205, R206, R217) -/

/-- Where a link's line of the present facet starts: E', F', the tempo in which its marker's frame begins and that of its mapper
start (R217). -/
structure LineAt where
  edge : Nat
  fine : Nat
  frame : Tempo
  start : Tempo

/-- The lead X of R217 at a ratio. -/
def State.leadX (s : State) (n r : Nat) : Nat :=
  let p := s.par clsSTN n 0x003
  64 * ceilDiv (40 * p * r - 19 * p * (8 * s.outDiv n * 2 ^ 32)) (19 * 64 * max 1 r)

/-- The line start of link `l`, whose edge lies at or after the facet boundary. -/
def State.lineAt (s : State) (l : Nat) (q : Int) : LineAt :=
  let n := l / 4
  let q' := q + s.parI clsVL l 0x001
  let ts := s.edgeTime n (q' / 64 - (s.pll (8 + n)).edgeN) / 2 ^ 38
  let frame := ((ts - 1024) / 64 * 64).toNat
  { edge := ((q' / 64) % 65536).toNat, fine := (q' % 64).toNat, frame := frame
    start := frame - s.leadX n (s.pll (8 + n)).ratio }

/-- Begin to send a line: LINE_HEAD and its data blocks (R215, R217). -/
def State.sendLine (s : State) (l seq blank : Nat) (noData : Bool) (ws : List Nat) : State :=
  let p := s.par clsSTN (l / 4) 0x003
  s.updLink l (fun x => { x with line := some {
    head := some (ctlBlock 0x4b (toLE 2 seq ++ toLE 2 p ++ toLE 1 blank ++ toLE 1 (b2n noData)))
    blocks := if noData then [] else dataBlocks ws, start := s.tempo } })

/-- The pixel from which an uncorrectable error at a swath address blanks a beam. -/
def State.swathPixel (s : State) (n a : Nat) : Nat := a / 8 * 8 % max 1 (s.lineBytes n) * 2

/-- An uncorrectable error in the calibration tables that a mapper reads (Table 17-3, reader 2). Which of PULSE, BOW and SKEW
the word belongs to is a free value: the manual does not lay out the memory. (DEDUCED: assumption 39) -/
def State.tableUe (s : State) (n a : Nat) : State :=
  let (f, s1) := s.fresh
  let e := (1 + f % 3, n)
  let s2 := { s1 with sheets := { s1.sheets with
    ueTables := if s1.sheets.ueTables.contains e then s1.sheets.ueTables else s1.sheets.ueTables ++ [e] } }
  s2.reportUe 20 a 0x2 (obj clsSTN n) [obj clsSTN n] true

/-- Draw the line of an image on link `l` (R205, R206, R210, R246). -/
def State.drawLine (s : State) (l seq : Nat) (d : Drawing) (ue : MapperUe) : State :=
  let n := l / 4
  let r := l % 4
  let s0 := s.updLink l (fun x => { x with sent := ((seq, d.tk, d.scan) :: x.sent).take 256 })
  let owns := (List.range 8).filterMap (fun f => (s.ownLine n (8 * r + f) d.scan).map (fun i => (f, i)))
  let past := owns.findSome? (fun e => (s.steps16 n).findSome? (fun x =>
    let v := s.offRaw n (8 * r + e.1) x
    if v < -16 ∨ 16 < v then some (8 * r + e.1, x, v) else none))
  let s1 := match past with
    | some (b, x, v) => s0.raiseLimited
        { code := 0x0712, obj := obj clsSTN n, fields := [obj clsSTN n, obj clsBEAM (32 * n + b), x, i64 v] } 1000000
    | none => s0
  let inside := fun (e : Nat × Int) => decide (0 ≤ e.2) && decide (e.2 < d.lines)
  let reads := fun (e : Nat × Int) => s.linesRead n (8 * r + e.1) e.2 d.lines
  let late := owns.filter (fun e => (reads e).any (fun i => (s.swLine n (d.q0 + i)).isNone))
  let bad : List (Nat × Int) := match ue with
    | .tables _ => owns.filter (fun e => !late.contains e && inside e)
    | _ => []
  let dead := owns.filter (fun e => !bad.contains e && !late.contains e && inside e
    && s.swLine n (d.q0 + e.2.toNat) == some [])
  let torn : List (Nat × Int) := match ue with
    | .swath fs _ => owns.filter (fun e => bit fs e.1 && !late.contains e && !dead.contains e && !(reads e).isEmpty)
    | _ => []
  let mask := fun (es : List (Nat × Int)) => es.foldl (fun m e => m + 2 ^ e.1) 0
  let s2 := if (s1.link l).coast then s1 else s1.addBlank d.tk n dead.length
  let s3 := s2.blankLines l d late 1
  let s4 := if late.isEmpty then s3
    else s3.raiseLimited { code := 0x0620, obj := obj clsSTN n, sheet := true
                           fields := [obj clsSTN n, obj clsVL l, d.scan, mask late * 2 ^ (8 * r)] } 1000000 0 true
  let s5 := match ue with
    | .tables a => (s4.tableUe n a).blankLines l d bad 1
    | .swath _ a => (s4.reportUe n a 0x1 (obj clsSTN n) [] true).blankLines l d torn 1
    | .none => s4
  let cut : Nat := match ue with
    | .swath _ a => s.swathPixel n a
    | _ => 0
  let live := owns.filter (fun e => !bad.contains e && !late.contains e && !dead.contains e)
  let val := fun (x : Nat) (e : Nat × Int) =>
    if torn.contains e ∧ cut ≤ x then 0 else s.pixValue n (8 * r + e.1) e.2 d.lines d.q0 x * 2 ^ (5 * e.1)
  let ws := (List.range (s.par clsSTN n 0x003)).map (fun x =>
    if (s.station n).outOn then live.foldl (fun a e => a + val x e) 0 else 0)
  s5.sendLine l seq (mask (bad ++ late ++ dead)) false ws

/-- A line of link `l` that starts while the station's VPLL is not LOCKED counts as clocked from the coasting model (R142), once. -/
def State.coastLink (s : State) (l : Nat) (d : Drawing) : State :=
  let fs := s.filesIn (l / 4) (l % 4) d
  match fs.head? with
  | some e =>
    if (s.link l).coast || (s.pll (8 + l / 4)).state == .locked then s
    else (((s.addBlank d.tk (l / 4) fs.length).spoil d.tk (l / 4) 3 (lineNo e.2))).updLink l (fun x => { x with coast := true })
  | none => s

/-- After the interlock, a line is blank unless its marker's frame begins 1,000 tempo after the restart of PX (R228). -/
def Link.heldAt (x : Link) (frame : Tempo) : Bool := x.pxHold && (match x.pxAt with
  | some t => decide (frame < t + 1000)
  | none => true)

/-- MAPPER_START: in the tempo of its mapper start, the mapper of link `link` checks its beams' lines and begins the line. -/
def execMapperStart (link : Idx) (ue : MapperUe) (s : State) : Host.Outcome State Fault Refusal :=
  .next (
    let s := s.enter inEvents
    let n := link / 4
    match (s.station n).lineQ with
    | none => s
    | some q =>
      let at_ := s.lineAt link q
      if decide (link < 32) && s.inService clsVL link && s.scanOn n && (s.link link).lineDue && s.tempo == at_.start then
        let s0 := s.updStation n (fun t => { t with draw := t.draw.map (fun d => { d with begun := true }) })
        let d := s0.drawing n
        let s1 := (match d with
          | some d => s0.coastLink link d
          | none => s0).updLink link (fun x => { x with lineDue := false })
        let x := s1.link link
        let blank := fun (cause : Nat) => match d with
          | some d => s1.blankLines link d (s1.filesIn n (link % 4) d) cause
          | none => s1
        if s.video.blanked || x.heldAt at_.frame then blank 4
        else if x.state ≠ .up then blank 1
        else
          let mark := ctlBlock 0x33 (toLE 2 x.seq ++ toLE 2 at_.edge ++ toLE 1 at_.fine)
          let s2 := s1.updLink link (fun x => { x with
            seq := (x.seq + 1) % 65536, marker := some (at_.frame, mark), pxHold := false })
          match d with
          | some d => s2.drawLine link x.seq d ue
          | none => s2.sendLine link x.seq 0 true []
      else s)

/-! ### Frames (R213, R216, R217, R219, R227) -/

/-- The data block of a line that comes `k` blocks after its first is ready in slot `slot` of the frame that begins in tempo `frame`:
the mapper produces one 40-bit word in each OUT4 cycle from its start on, and a slot lasts 3.2 tempo. `num` / `den` is a period of
OUT4 in tempo. -/
def LineOut.ready (x : LineOut) (num den frame slot k : Nat) : Bool :=
  decide (5 * ceilDiv (8 * (k + 1)) 5 * num ≤ (5 * (frame - x.start) + 16 * slot) * den)

/-- The blocks of a line in the slots of a frame from `slot` on, and what is left of the line. -/
def LineOut.fill (num den frame : Nat) : Nat → Nat → LineOut → List LinkBlock × LineOut
  | 0, _, x => ([], x)
  | n + 1, slot, x =>
    let (b, x1) : LinkBlock × LineOut := match x.head, x.blocks with
      | some h, _ => (.ctl h, { x with head := none })
      | none, w :: ws => if x.ready num den frame slot x.done then (.data w, { x with blocks := ws, done := x.done + 1 }) else (.ctl blkIDLE, x)
      | none, [] => (.ctl blkIDLE, x)
    let (bs, x2) := LineOut.fill num den frame n (slot + 1) x1
    (b :: bs, x2)

/-- EDGE_SYNC leaves: PX is enabled 512 tempo later at a falling edge of its output, and V numbers the first rising edge after that
(R143, R216). (DESIGN CHOICE: assumption 31) -/
def State.edgeSync (s : State) (l : Nat) : Bytes × State :=
  let n := l / 4
  let half : Int := s.edgeUnit n / (2 * max 1 (s.pll (8 + n)).ratio)
  let k := s.edgesTo n (((s.tempo + 512) * 2 ^ 38 : Nat) - half)
  let v := ((s.pll (8 + n)).edgeN + k + 1) % 65536
  let at_ := (-(-(s.edgeTime n k + half) / 2 ^ 38)).toNat
  (ctlBlock 0x55 (toLE 2 v), s.updLink l (fun x => { x with pxWait := false, pxAt := some at_, edgeV := v }))

/-- The control block of slot 0: the marker of a line whose frame this is, an EDGE_SYNC, or what has waited longest. -/
def State.slotZero (s : State) (l : Nat) : Bytes × State :=
  let x := s.link l
  match x.marker.filter (fun m => m.1 == s.tempo) with
  | some m => (m.2, s.setLink l { x with marker := none })
  | none =>
    if x.pxWait then s.edgeSync l
    else match x.slot0 with
      | b :: bs =>
        let sent := fun (t : Training) => if leAt b 0 1 = 0x87 then { t with sentAt := some s.tempo } else t
        (b, s.setLink l { x with slot0 := bs, train := x.train.map sent })
      | [] => (blkIDLE, s)

/-- PX runs once its start has come. -/
def State.pxRun (s : State) (l : Nat) : State :=
  let x := s.link l
  if !x.pxOn && x.pxAt.any (fun t => decide (t ≤ s.tempo)) then
    (s.setLink l { x with pxOn := true }).emit (.px l (some x.edgeV) (s.par clsSTN (l / 4) (0x066 + l % 4)))
  else s

/-- The BLPLL of a link clocks it. -/
def State.serialised (s : State) (l : Nat) : Bool :=
  let p := s.pll (3 + l / 16)
  p.everLocked && p.state != .off && p.state != .search

/-- BEAM_LINK_FRAME: the frame of 20 slots that begins in this tempo leaves; without its BLPLL a link is at electrical idle. -/
def execBeamLinkFrame (link : Idx) (s : State) : Host.Outcome State Fault Refusal :=
  .next (
    let s := s.enter inLinks
    if decide (link < 32) && s.inService clsVL link && s.running && s.tempo % 64 == 0 && (s.link link).frameAt != some s.tempo
        && s.serialised link then
      let s0 := (s.pxRun link).updLink link (fun x => { x with frameAt := some s.tempo })
      if s.dark then s0.emit (.frame link 0 (List.replicate 20 (.ctl blkBLANK)))
      else match (s.link link).state with
        | .down | .faulted => s0.emit (.frame link 0 (List.replicate 20 (.ctl blkIDLE)))
        | .training | .up =>
          let n := link / 4
          let (b, s1) := s0.slotZero link
          match (s1.link link).line with
          | none => s1.emit (.frame link 0 (.ctl b :: List.replicate 19 (.ctl blkIDLE)))
          | some x =>
            let (bs, y) := x.fill (8 * s.outDiv n * 2 ^ 32) (s.pll (8 + n)).ratio s.tempo 19 1
            (s1.updLink link (fun z => { z with line := if y.head.isNone && y.blocks.isEmpty then none else some y })).emit
              (.frame link 0 (.ctl b :: bs))
    else s)

/-! ### Training (R219, R220, R415) -/

/-- LINK_TRAIN: the link enters TRAINING with the transmitter level of vl.tx_level; steps 1 and 2 check its PLLs (Table 9-4). (DEDUCED: assumption 29) -/
def execLinkTrain (m : Msg) (s : State) : Host.Outcome State Fault Refusal :=
  .next (
    let s := s.enter inDirect
    let o := m.argN 8 4
    let l := aIdx o
    s.command 0x0710 m
      (m.plen 0 ++ m.argRes 0xffffffff00000000 ++ s.inModes [.standby, .warmUp, .ready] ++ s.objRefs o [clsVL]
        ++ refuse ((s.link l).state != .down) stWRONG_STATE ++ refuse (s.video.ilkA || s.video.ilkB) stINTERLOCK_OPEN
        ++ refuse (s.participates o) stSHEET_LOCKED)
      (fun r u =>
        let fail := if (u.pll (3 + l / 16)).state ≠ .locked then 1 else if (u.pll (8 + l / 4)).state ≠ .locked then 7 else 0
        (u.updLink l (fun x => { x.quiet with
          state := .training, train := some { reply := r, start := u.tempo, since := u.tempo, fail := fail }
          txLevel := u.par clsVL l 0x007 })).hold 0x0710 m))

/-- 1,024 edges of PX have passed since its start (Table 9-4, step 7). -/
def State.pxCounted (s : State) (l : Nat) : Bool := (s.link l).pxAt.any (fun t =>
  decide (t + ceilDiv (1024 * 8 * s.outDiv (l / 4) * 2 ^ 32) (max 1 (s.pll (8 + l / 4)).ratio) ≤ s.tempo))

/-- The result of a training run that has come to its end (Table 9-4): 0, or the code of the first step that failed; none while it goes
on. (DEDUCED: assumption 29) -/
def State.trainResult (s : State) (l : Nat) (t : Training) (countEqual : Bool) : Option Nat :=
  let ended := decide (t.start + 1000000 ≤ s.tempo)
  let late := ended || decide (t.since + 50000 ≤ s.tempo)
  if t.ilk then some 8
  else if t.fail ≠ 0 then some t.fail
  else if t.step ≤ 3 then (if late then some 2 else none)
  else if t.step = 4 then (if late then some 3 else none)
  else if t.step = 5 then (if ended then some 4 else none)
  else if t.step = 6 then (if ended then some 5 else none)
  else if s.pxCounted l then some (if countEqual then 0 else 6)
  else if ended then some 6 else none

/-- LINK_TRAIN_DONE: the run has come to its end; `countEqual`: the driver's STATUS count of PX edges equals the device's (step 7).
(DEDUCED: assumption 29) -/
def execLinkTrainDone (link : Idx) (countEqual : Bool) (s : State) : Host.Outcome State Fault Refusal :=
  .next (
    let x := s.link link
    match x.train with
    | none => s
    | some t => match s.trainResult link t countEqual with
      | none => s
      | some c =>
        let timed := c = 0 ∨ c = 5 ∨ c = 6
        let s1 := if c = 0 then s else s.stopPx link
        let s2 := s1.updLink link (fun y => { y.quiet with
          state := if c = 0 then .up else .down, train := none, rtt := if timed then t.rtt % 2 ^ 32 else y.rtt })
        let s3 := s2.raise { code := if c = 0 then 0x0610 else 0x0611, obj := obj clsVL link
                             fields := [obj clsVL link, if c = 0 then t.rtt % 2 ^ 32 else c] }
        s3.ok t.reply (toLE 1 c ++ toLE 3 0 ++ toLE 4 (if timed then t.rtt % 2 ^ 32 else 0)))

/-! ### The backchannel (R222 to R226, R388) -/

/-- Step `k` of a training run has passed: the next one begins. -/
def State.trainNext (s : State) (l k : Nat) : State :=
  s.updLink l (fun x => { x with train := x.train.map (fun t => { t with step := k + 1, since := s.tempo }) })

/-- The training run of a link that has come to step `k` and still goes on. -/
def State.trainAt (s : State) (l k : Nat) : Bool := match (s.link l).train with
  | some t => t.step == k && t.fail == 0 && !t.ilk && (decide (5 ≤ k) || decide (s.tempo ≤ t.since + 50000))
  | none => false

/-- Send a management read of a driver address (Table 9-2). -/
def State.mgmtRead (s : State) (l a : Nat) : State := s.sendBlock l (ctlBlock 0x87 (toLE 1 1 ++ toLE 2 a))

/-- Take a backchannel packet of a type; a damaged one is discarded and counted (R223). A valid one ends step 3 of a training run. -/
def State.bcPacket (s : State) (l : Nat) (p : Bytes) (type : Nat) (act : State → State) : State :=
  if decide (l < 32) && s.inService clsVL l then
    if p.length ≠ 8 ∨ crc8 (p.take 7) ≠ leAt p 7 1 then s.updLink l (fun x => { x with bcErr := satAdd 32 x.bcErr 1 })
    else
      let s0 := s.updLink l (fun x => { x with lastPkt := s.tempo })
      let s1 := if s0.trainAt l 3 then s0.trainNext l 3 else s0
      if leAt p 0 1 = type then act s1 else s1
  else s

/-- A link goes FAULTED (R222). -/
def State.linkDown (s : State) (l code f : Nat) : State :=
  ((s.stopPx l).updLink l (fun x => { x.quiet with state := .faulted })).raise
    { code := code, obj := obj clsVL l, fields := [obj clsVL l, f], latch := [obj clsVL l] }

/-- BC_STATUS. In training, block lock lets the management reads begin (Table 9-4). -/
def execBcStatus (link : Idx) (p : Bytes) (s : State) : Host.Outcome State Fault Refusal :=
  .next (
    let s := s.enter inCapture
    s.bcPacket link p 0x01 (fun u =>
    let x := u.link link
    let hot := bit (leAt p 6 1) 0 && !bit (leAt x.status 5 1) 0
    let u1 := u.setLink link { x with status := bytesAt p 1 6, ctlErr := leAt p 4 1 }
    let u2 := if hot then
      u1.raise { code := 0x0632, obj := obj clsVL link, fields := [obj clsVL link, i64 (sext 8 (leAt p 5 1))] } else u1
    if x.state = .up ∧ !bit (leAt p 1 1) 0 then u2.linkDown link 0x0612 (leAt p 1 1)
    else if u2.trainAt link 4 && bit (leAt p 1 1) 0 then (u2.trainNext link 4).mgmtRead link 0
    else u2))

/-- The tempo of an edge number near the present facet's boundary (R225). -/
def State.edgeTempo (s : State) (n e : Nat) : Nat :=
  (s.edgeTime n (wrapAngle ((e : Int) - (s.pll (8 + n)).edgeN)) / 2 ^ 38).toNat

/-- BC_MON: a power sample of an emitter; a pair at the two codes gives its slope. (DEDUCED: assumption 29) -/
def execBcMon (link : Idx) (p : Bytes) (s : State) : Host.Outcome State Fault Refusal :=
  .next (
    let s := s.enter inCapture
    s.bcPacket link p 0x02 (fun u =>
    let n := link / 4
    let b := 8 * link + leAt p 1 1 % 8
    let code := leAt p 2 1 % 32
    let power := leAt p 3 2 % 4096
    let c0 := u.par clsSTN n 0x094
    let c1 := u.par clsSTN n 0x095
    let x := u.beam b
    let low := match x.samples.head? with
      | some e => if e.code = c0 ∧ code = c1 ∧ c0 ≠ c1 then some e.power else none
      | none => none
    let pairs := match low with
      | some q => (Int.tdiv (((power : Int) - q) * 65536) ((c1 : Int) - c0) :: x.pairs).take 16
      | none => x.pairs
    let u1 := u.setBeam b { x with
      samples := ({ tempo := u.edgeTempo n (leAt p 5 2), code := code, power := power } :: x.samples).take 4, pairs := pairs }
    let u2 := if low.isSome then
      u1.age (ageBeam b) (wrapBits 32 (Int.tdiv (pairs.foldl (· + ·) 0) pairs.length)) else u1
    let win := u.par clsBEAM b 0x003
    if !u.inService clsBEAM b then u
    else if code = c1 ∧ (power < field win 0 12 ∨ field win 16 12 < power) then
      u2.raise { code := 0x0631, obj := obj clsBEAM b, fields := [obj clsBEAM b, code, power] }
    else u2))

/-- BC_LINE_LOST: the driver did not hold a line in full (R218, R222). -/
def execBcLineLost (link : Idx) (p : Bytes) (s : State) : Host.Outcome State Fault Refusal :=
  .next (
    let s := s.enter inCapture
    s.bcPacket link p 0x03 (fun u =>
    let n := link / 4
    let seq := leAt p 1 2
    let mask := leAt p 3 1
    let files := (List.range 8).filter (fun f => bit mask f)
    let x := u.link link
    let u1 := u.setLink link { x with linesLost := satAdd 32 x.linesLost files.length }
    let hit := (x.sent.find? (fun e => e.1 == seq)).filter (fun e => (u.ticket e.2.1).state == 3 || (u.ticket e.2.1).state == 4)
    let u2 := u1.raiseLimited { code := 0x0614, obj := obj clsVL link, sheet := hit.isSome
                                fields := [obj clsVL link, seq, mask] } 1000000 0 true
    match hit, files.head? with
    | some (_, tk, k), some f =>
      (u2.addBlank tk n files.length).spoil tk n 1 (lineNo ((u2.ownLine n (8 * (link % 4) + f) k).getD 0))
    | _, _ => u2))

/-- Change the training run of a link. -/
def State.updTrain (s : State) (l : Nat) (f : Training → Training) : State :=
  s.updLink l (fun x => { x with train := x.train.map f })

/-- A management read of address 0x0001 has been answered: after the sixteenth, the largest round trip decides step 6, and EDGE_SYNC
and PX follow (Table 9-4). -/
def State.trainRead (s : State) (l : Nat) (t : Training) : State :=
  let rtt := max t.rtt (s.tempo - t.sentAt.getD s.tempo)
  let s1 := s.updTrain l (fun t => { t with rtt := rtt, reads := t.reads + 1 })
  if t.reads + 1 < 16 then s1.mgmtRead l 1
  else if rtt ≤ 400 then (s1.trainNext l 6).startPx l
  else s1.updTrain l (fun t => { t with fail := 5 })

/-- BC_MGMT_RSP: the driver's answer to a management read. In training, its protocol version decides step 5 (Table 9-4). -/
def execBcMgmtRsp (link : Idx) (p : Bytes) (s : State) : Host.Outcome State Fault Refusal :=
  .next (
    let s := s.enter inCapture
    s.bcPacket link p 0x04 (fun u =>
    let a := leAt p 1 2
    let u1 := if a = 0 then u.updLink link (fun x => { x with drv := leAt p 3 3 }) else u
    if u1.trainAt link 5 && a == 0 then
      if Config.drvMajor (leAt p 3 3) = 1 then (u1.trainNext link 5).mgmtRead link 1
      else u1.updTrain link (fun t => { t with fail := 4 })
    else if u1.trainAt link 6 && a == 1 then (match (u1.link link).train with
      | some t => u1.trainRead link t
      | none => u1)
    else u1))

/-- BC_EMITTER_FAULT (R226). -/
def execBcEmitterFault (link : Idx) (p : Bytes) (s : State) : Host.Outcome State Fault Refusal :=
  .next (
    let s := s.enter inCapture
    s.bcPacket link p 0x05 (fun u =>
    ((List.range 8).filter (fun f => bit (leAt p 1 1) f)).foldl (fun v f =>
      let b := obj clsBEAM (8 * link + f)
      v.raise { code := 0x0630, obj := b, fields := [b, leAt p 2 1], latch := [b] }) u))

/-- BACKCHANNEL_LOST: no valid packet for 32,000 tempo on an UP link (R224). -/
def execBackchannelLost (link : Idx) (s : State) : Host.Outcome State Fault Refusal :=
  .next (
    let s := s.enter inTimeouts
    let x := s.link link
    if decide (link < 32) && x.state == .up && decide (x.lastPkt + 32000 ≤ s.tempo) then s.linkDown link 0x0613 x.lastPkt else s)

/-- BEAM_MONITOR: the last four samples of a beam, newest first, 16 bytes each: tempo, code, power. The manual
gives the samples no layout. (DESIGN CHOICE: assumption 11) -/
def execBeamMonitor (m : Msg) (s : State) : Host.Outcome State Fault Refusal :=
  .next (
    let s := s.enter inDirect
    let o := m.argN 8 4
    s.command 0x0720 m
      (m.plen 0 ++ m.argRes 0xffffffff00000000 ++ s.inModes [.standby, .warmUp, .ready, .print, .runOut] ++ s.objRefs o [clsBEAM])
      (fun r u => u.ok r ((List.range 4).flatMap (fun i =>
        match (u.beam (aIdx o)).samples[i]? with
        | some e => toLE 8 e.tempo ++ toLE 2 e.code ++ toLE 2 e.power ++ toLE 4 0
        | none => toLE 16 0))))

/-! ### The laser interlock (R227 to R229, R58, R68) -/

/-- The image line that an opening blanks first on a station: the lowest one of the scan under way, or once its line has ended of
the next scan, or line 0 of an image that has not begun. -/
def State.ilkLine (s : State) (n tk : Nat) : Nat :=
  match (s.station n).draw with
  | some d =>
    if d.tk = tk then s.firstIn n (if d.begun && decide ((s.station n).lineEnd ≤ s.tempo) then d.scan + 1 else d.scan) d.lines
    else 0
  | none => 0

/-- Darken a link: PX low, nothing left to send, BLANK_ALL in the slots of the frame under way that have not begun (R227). -/
def State.darken (s : State) (l : Nat) : State :=
  let s1 := (s.stopPx l).updLink l Link.quiet
  match (s.link l).frameAt with
  | some f =>
    let k := ceilDiv (5 * (s.tempo - f)) 16
    if k < 20 ∧ s.serialised l then s1.emit (.frame l k (List.replicate (20 - k) (.ctl blkBLANK))) else s1
  | none => s1

/-- An opening blanks a link, and a training run of it fails (R220, R227). -/
def State.blankLink (s : State) (l : Nat) : State := (s.darken l).updTrain l (fun t => { t with ilk := true })

/-- Nothing blanks the links any longer: PX of every UP link starts again. (DEDUCED: assumption 30) -/
def State.relight (s : State) : State :=
  if s.dark then s
  else (List.range 32).foldl (fun u l =>
    if (u.link l).state = .up then (u.updLink l (fun x => { x with pxHold := true })).startPx l else u) s

/-- Blank every link and stop every PX output. (DEDUCED: assumption 30) -/
def State.blankAll (s : State) (mask : Nat) : State :=
  let hit := s.sealedTks.any (fun k => !(s.ticket k).imaging.isEmpty)
  let s1 := (List.range 32).foldl (fun u l => u.blankLink l) { s with video := { s.video with blanked := true } }
  let s2 := s1.sealedTks.foldl (fun u k =>
    (u.ticket k).imaging.foldl (fun v n => v.spoil k n 4 (v.ilkLine n k)) u) s1
  s2.raise { code := 0x0601, fields := [mask, s.tempo], sheet := hit }

/-- ILK_OPEN: the levels of ILK_A_N and ILK_B_N after a change of one of them that has held for 20 ns, an opening or a closing. (DEDUCED: assumption 30) -/
def execIlkOpen (a b : Bool) (s : State) : Host.Outcome State Fault Refusal :=
  .next (
    let s := s.enter inProtect
    let was := s.video.ilkA || s.video.ilkB
    let now := a || b
    let changed := decide (a ≠ s.video.ilkA ∨ b ≠ s.video.ilkB)
    let s1 : State := { s with video := { s.video with
      ilkA := a, ilkB := b, openSeen := s.video.openSeen || now || was
      ilkSince := if changed then s.tempo else s.video.ilkSince
      openAt := if now || was then some s.tempo else s.video.openAt
      ilkCount := if now && !was then satAdd 32 s.video.ilkCount 1 else s.video.ilkCount
      ilkNew := if now && !was then s.video.ilkNew.add s.tempo else s.video.ilkNew
      ilkLast := if now && !was then s.tempo else s.video.ilkLast } }
    let s2 := if changed then s1.signal 49 else s1
    if now && (!was || !s.video.blanked) then s2.blankAll (b2n a + 2 * b2n b) else s2)

/-- ILK_RELEASE: both inputs have been low without a break for 500,000 tempo. (DEDUCED: assumption 30) -/
def execIlkRelease (s : State) : Host.Outcome State Fault Refusal :=
  .next (
    let s := s.enter inTimeouts
    if s.video.blanked && !s.video.ilkA && !s.video.ilkB && decide (s.video.ilkSince + 500000 ≤ s.tempo) then
      let s1 : State := { s with video := { s.video with
        blanked := false, relAt := s.tempo
        stations := s.video.stations.filterMap (fun e =>
          let t := { e.2 with missed := 0 }
          if t = {} then none else some (e.1, t)) } }
      s1.relight.raise { code := 0x0602, fields := [s.tempo] }
    else s)

/-- ILK_DISAGREE: one input high and the other low for more than 2,500,000 tempo. (DEDUCED: assumption 30) -/
def execIlkDisagree (s : State) : Host.Outcome State Fault Refusal :=
  .next (
    let s := s.enter inTimeouts
    if s.video.ilkA != s.video.ilkB && decide (s.video.ilkSince + 2500000 < s.tempo) && !s.latched 0x0603 objDEV then
      s.raise { code := 0x0603, fields := [b2n s.video.ilkA + 2 * b2n s.video.ilkB], latch := [objDEV] }
    else s)

end Sys2Proof.Machine
end

