-- ==== Sys2Proof/Machine/DmaOps.lean ====
section
/-!
DEFINITION. The operations of a DMA channel that its rows share (R161 to R167, R176): its requests, the steps of its chain, its
failures, and its way into IDLE.
-/
namespace Sys2Proof.Machine

/-- The channel is host-owned (R161). -/
def State.hostOwned (s : State) (ch : Nat) : Bool := s.par clsDMA ch 0x002 == 0

/-- The place of a channel's class in the order of R179. -/
def State.dmaClass (s : State) (ch : Nat) : Nat := s.par clsDMA ch 0x000 + 1

/-- A request to write to the store. -/
def Req.toStore (r : Req) : Bool := r.write && !r.ctl && r.res != .hostSlots

/-- Queue a request. A store write takes the next number. -/
def State.addReq (s : State) (q : Req) : State :=
  if q.toStore then
    let k := s.store.flightSeq + 1
    { s with store := { s.store with flightSeq := k, reqs := s.store.reqs ++ [{ q with seq := k }] } }
  else { s with store := { s.store with reqs := s.store.reqs ++ [q] } }

/-- A request of a channel that waits from now on. -/
def State.reqOf (s : State) (ch : Nat) (res : Resource) (write : Bool) (a : Nat) (d : Bytes) (n : Nat) : Req :=
  { res := res, cls := s.dmaClass ch, since := s.tempo, who := ch, write := write, addr := a, data := d, len := n }

/-- The resource at which a channel reaches its descriptors (R161). -/
def State.descRes (s : State) (ch : Nat) : Resource := if s.hostOwned ch then .hostSlots else .descSram

/-- The channel comes to a step that reads or writes a descriptor, and asks for it. -/
def State.descStep (s : State) (ch : Nat) (step : DmaStep) : State :=
  let s1 := s.updDma ch (fun d => { d with step := step, slot := false })
  let a := (s.dma ch).cur
  let q := if step = .finish then s1.reqOf ch (s.descRes ch) true (a + 4) [] 4 else s1.reqOf ch (s.descRes ch) false a [] 32
  s1.addReq { q with ctl := true }

/-- The channel's descriptor fails with a cause: what has been granted stands, and nothing more is requested (R164). -/
def State.descFail (s : State) (ch cause : Nat) : State :=
  let s1 := s.updDma ch (fun d => { d with cause := if d.cause = 0 then cause else d.cause })
  ({ s1 with store := { s1.store with reqs := s1.store.reqs.filter (fun q => q.who != ch) } }).descStep ch .finish

/-- The channel cannot follow its chain (R176). -/
def State.dmaFault (s : State) (ch kind : Nat) : State :=
  (s.updDma ch (fun d => { d with state := .faulted, step := .rest })).raise
    { code := 0x0402, obj := obj clsDMA ch, fields := [obj clsDMA ch, (s.dma ch).cur, kind], latch := [obj clsDMA ch] }

/-- The channel has come into IDLE: its vector is sent if EN is 1 (R167). -/
def State.idleVector (s : State) (ch : Nat) : State := if (s.dma ch).irqEn then s.signal (17 + ch) else s

/-- The channel goes to IDLE at the descriptor that CUR names. -/
def State.dmaIdle (s : State) (ch : Nat) : State :=
  (s.updDma ch (fun d => { d with state := .idle, step := .rest, last := d.cur })).idleVector ch

end Sys2Proof.Machine
end

