-- ==== Sys2Proof/Machine/MotionRows.lean ====
section
/-!
DEFINITION. The rows of chapter 12 and the run-out programs of R385.
-/
namespace Sys2Proof.Machine

/-! ### Commands -/

/-- The profile of a MOVE payload (Table 12-3), with a relative target counted from `x` (2^-32 pu). -/
def profileOf (m : Msg) (x : Int) : Move :=
  let t := sext 64 (m.pay 40 8) * q32
  { vel := m.pay 0 1 == 2, dir := if m.pay 2 1 = 1 then -1 else 1
    vStart := m.pay 4 4, vKnee := m.pay 8 4, vMax := m.pay 12 4, vStop := m.pay 16 4
    a1 := m.pay 20 4, a2 := m.pay 24 4, d2 := m.pay 28 4, d1 := m.pay 32 4
    target := if m.pay 0 1 = 1 then x + t else t }

/-- The profile obeys R290. -/
def Move.ok (v : Move) (limit : Nat) : Bool :=
  decide (v.vStart ≤ v.vKnee) && decide (v.vKnee ≤ v.vMax) && decide (v.vMax ≤ limit) && decide (v.vStop ≤ v.vKnee)
    && decide (1 ≤ v.a1) && decide (1 ≤ v.a2) && decide (1 ≤ v.d2) && decide (1 ≤ v.d1)

/-- Load a deferred profile. -/
def AxisSt.defer (a : AxisSt) (mv : Move) : AxisSt :=
  match a.state with
  | .idle => { a with loaded := some mv, state := .deferred }
  | .held => { a with loaded := some mv, heldFrom := if a.heldFrom = .idle then .deferred else a.heldFrom }
  | _ => { a with loaded := some mv }

/-- Start a profile now; an axis in HELD starts it when the hold ends. (DEDUCED: assumption 34) -/
def AxisSt.begin (a : AxisSt) (mv : Move) (now : Tempo) : AxisSt :=
  match a.state with
  | .held => { a with mv := mv, heldFrom := .moving, loaded := none, heldStart := false, regear := false }
  | _ => { (a.resume mv now) with loaded := none }

/-- MOVE. (DEDUCED: assumption 9; DEDUCED: assumption 34) -/
def execMove (m : Msg) (s : State) : Host.Outcome State Fault Refusal :=
  .next (
    let s := s.enter inDirect
    let o := m.argN 8 4
    let a := s.axis o
    let mv := profileOf m a.x
    s.command 0x0610 m
      (m.plen 48 ++ m.argRes 0xffffffff00000000
        ++ refuse (decide (1 < m.pay 1 1) || m.pay 3 1 != 0 || m.pay 36 4 != 0) stBAD_ARG
        ++ s.inModes [.warmUp, .ready, .print, .runOut, .safeHold] ++ s.tileRefs o true true
        ++ refuse (decide (2 < m.pay 0 1) || decide (1 < m.pay 2 1) || (mv.vel && m.pay 40 8 != 0)
            || !mv.ok (s.vLimit (s.leadOf o))) stBAD_VALUE
        ++ refuse (!s.axisOn o || s.tMode (s.leadOf o) == 3 || a.state == .geared
            || (a.state == .held && a.heldFrom == .geared)) stWRONG_STATE)
      (fun r u =>
        (u.updAxis o (fun a => if bit (m.pay 1 1) 0 then a.defer mv else a.begin mv u.tempo)).accepted r))

/-- STOP on a motor axis (R294). -/
def State.stopAxis (s : State) (o : Nat) : State :=
  let a := s.axis o
  let cut := fun (u : State) => u.updGear o (fun g => { s := g.s, r := 0 })
  match a.state with
  | .moving | .atSpeed => s.setAxis o { a with state := .stopping, turn := .none, loaded := none, regear := false }
  | .deferred => s.setAxis o { a with state := .idle, loaded := none }
  | .geared => cut (s.setAxis o { a with state := .stopping, loaded := none, sHist := [] })
  | .held =>
    let goal := if a.heldFrom = .deferred ∨ a.heldFrom = .idle then Prof.idle else .stopping
    let s1 := s.setAxis o { a with heldFrom := goal, loaded := none, heldStart := false, regear := false }
    if a.heldFrom = .geared then cut s1 else s1
  | _ => s

/-- STOP on a POLY tile (R317): the speed ramps down; below HAND_FREQ the tile is off at once. (DESIGN CHOICE: assumption 31) -/
def State.stopPoly (s : State) (k : Nat) : State :=
  match (s.poly k).stage with
  | .observer | .sync | .coast => s.updPoly k (fun p => { p with stopping := true })
  | .align | .blind | .catch => s.polyTo k .off
  | _ => s

/-- STOP on an axis of any mode. -/
def State.stopObj (s : State) (o : Nat) : State :=
  if s.tMode (s.leadOf o) = 3 then s.stopPoly (s.leadOf o) else s.stopAxis o

/-- STOP goes on after its acceptance: the axis still moves. -/
def State.stillMoves (s : State) (o : Nat) : Bool :=
  (s.axis o).state == .stopping || (s.tMode (s.leadOf o) == 3 && (s.poly (s.leadOf o)).stopping)

/-- STOP. (DEDUCED: assumption 9) -/
def execStop (m : Msg) (s : State) : Host.Outcome State Fault Refusal :=
  .next (
    let s := s.enter inDirect
    let o := m.argN 8 4
    s.command 0x0611 m
      (m.plen 0 ++ m.argRes 0xffffffff00000000 ++ s.inModes [.warmUp, .ready, .print, .runOut, .safeHold] ++ s.tileRefs o true false)
      (fun r u => let u1 := u.stopObj o; if u1.stillMoves o then u1.accepted r else u1.ok r))

/-- GEAR_SET (R156, R296). -/
def execGearSet (m : Msg) (s : State) : Host.Outcome State Fault Refusal :=
  .next (
    let s := s.enter inDirect
    let o := m.argN 8 4
    let mst := m.pay 0 1
    let n := sext 32 (m.pay 4 4)
    let d := m.pay 8 4
    let p := sext 64 (m.pay 16 8)
    let g := s.gear o
    let on := if mst = 0 then g.master else mst
    s.command 0x0620 m
      (m.plen 24 ++ m.argRes 0xffffffff00000000 ++ refuse (m.pay 1 3 != 0 || m.pay 12 4 != 0) stBAD_ARG
        ++ s.inModes [.standby, .warmUp, .ready, .print, .runOut] ++ s.objRefs o [clsDT, clsGRP, clsSTN]
        ++ refuse (decide (8 < mst) || d == 0 || (mst == 0 && (n != 0 || d != 1))) stBAD_VALUE
        ++ refuse (mst == 0 && g.master == 0) stWRONG_STATE ++ refuse (s.parent o).isSome stGROUP_MEMBER
        ++ refuse ((s.span o).any s.participates) stSHEET_LOCKED ++ refuse (s.anyFault o) stFAULT_LATCHED
        ++ refuse (decide (on ≠ 0 ∧ p ≤ (s.enc (on - 1)).pos)) stTOO_LATE)
      (fun r u => (u.updGear o (fun g => { g with pend := some { master := mst, n := n, d := d, p := p } })).accepted r))

/-- POLY_START (R313). -/
def execPolyStart (m : Msg) (s : State) : Host.Outcome State Fault Refusal :=
  .next (
    let s := s.enter inDirect
    let o := m.argN 8 4
    let k := aIdx o
    let knee := m.pay 36 4
    let target := if m.pay 24 4 = 0 then (match s.polyStation k with
        | some n => s.vNom n
        | none => 0)
      else up32 (m.pay 24 4)
    s.command 0x0630 m
      (m.plen 48 ++ m.argRes 0xffffffff00000000 ++ refuse (m.pay 44 4 != 0) stBAD_ARG ++ s.inModes [.warmUp, .ready]
        ++ s.objRefs o [clsDT]
        ++ refuse ([(0, 4), (4, 2), (6, 2), (8, 4), (12, 4), (16, 4), (20, 4), (28, 4), (32, 4), (40, 2), (42, 2)].any
            (fun e => m.pay e.1 e.2 == 0) || decide (target < up32 knee) || decide (s.vLimit k < m.pay 24 4)) stBAD_VALUE
        ++ refuse ((s.tile k).prot != .run || s.tMode k != 3 || (s.poly k).stage != .off || (s.polyStation k).isNone) stWRONG_STATE
        ++ refuse (s.parent o).isSome stGROUP_MEMBER
        ++ refuse (s.participates o) stSHEET_LOCKED ++ refuse (s.faultOn o) stFAULT_LATCHED)
      (fun r u => ((u.setPoly k { (({} : PolySt)) with start := m.payload }).polyTo k .align).accepted r))

/-- PROFILE_START (R295). -/
def State.profileStart (s : State) (o : Nat) : State :=
  let a := s.axis o
  match a.state, a.loaded with
  | .deferred, some mv =>
    (s.setAxis o { (a.startFresh mv) with loaded := none, nextTick := s.tempo + 1 }).raise
      { code := 0x0902, obj := o, fields := [o, s.tempo + 1] }
  | .held, some _ =>
    if a.heldFrom = .deferred then s.setAxis o { a with heldStart := true }
    else s.raise { code := 0x0903, obj := o, fields := [o, 6] }
  | st, _ =>
    let code : Nat := match st with
      | .idle => 0 | .deferred => 1 | .moving => 2 | .atSpeed => 3 | .stopping => 4 | .geared => 5 | .held => 6 | .faulted => 7
    s.raise { code := 0x0903, obj := o, fields := [o, code] }

/-! ### The profile tick (R288, R292 to R296, R300, R306 to R311) -/

/-- v_m of the tiles with a sensor, from x_m over the last 16 ticks (R300), and overspeed (R307). -/
def State.tickSensors (s : State) (o : Nat) : State :=
  let past := s.overspeed (s.leadOf o)
  (s.axisTiles o).foldl (fun u k =>
    if u.sensorOf k = 0 then u
    else
      let t := u.tile k
      let old := t.xmHist.getLastD t.xm
      let vm := Int.tdiv ((t.xm - old) * q32 * 500000000) 16384
      let run := if up32 past < (vm.natAbs : Int) then t.overRun + 1 else 0
      let u1 := u.setTile k { t with vm := vm, xmHist := (t.xm :: t.xmHist).take 16, overRun := run }
      if run = 16 ∧ (u.axis o).state ≠ .faulted then
        u1.motionFault o 0x0913 [o, obj clsDT k, i64 (puPerS vm)]
      else u1) s

/-- An axis comes to rest: IDLE, or DEFERRED when a profile is loaded; a run-out program that has had its time ends. -/
def State.comeToRest (s : State) (o code : Nat) : State :=
  let a := s.axis o
  let s1 := s.setAxis o { a with v := 0, a := 0, state := if a.loaded.isSome then .deferred else .idle }
  let s2 := s1.raise { code := code, obj := o
                       fields := if code = 0x0901 then [o, i64 (a.x / q32), s.tempo] else [o, i64 (a.x / q32)] }
  let k := s2.leadOf o
  match (s2.tile k).runout with
  | some t => if t + s2.dt k 0x003 * 500000 ≤ s2.tempo then s2.endRunout o 0 else s2
  | none => s2

/-- The geared speed now, and the history after this tick. -/
def State.gearTick (s : State) (o : Nat) : Int × List Int :=
  let a := s.axis o
  let now := (s.gear o).s
  (gearSpeed a.sHist now, (now :: a.sHist).take 16)

/-- Re-engage a gear when the move back to its master has reached the geared speed (R311). -/
def State.tryRegear (s : State) (o : Nat) (vs : Int) : State :=
  let a := s.axis o
  let g := s.gear o
  if a.regear ∧ 1000 * (a.v - (vs.natAbs : Int)).natAbs ≤ vs.natAbs ∧ a.turn = .none then
    let x := a.x / q32
    ((s.setAxis o { a with state := .geared, regear := false, sHist := [] }).setGear o { g with s := x, r := 0 }).raise
      { code := 0x0916, obj := o, fields := [o, i64 g.s, i64 x] }
  else s

/-- The tick of an axis in GEARED (R296, R307). -/
def State.tickGeared (s : State) (o : Nat) : State :=
  let a := s.axis o
  let (vs, hist) := s.gearTick o
  let lim := up32 (s.vLimit (s.leadOf o))
  let past := decide (lim < (vs.natAbs : Int))
  let s1 := s.setAxis o { a with
    x := (s.gear o).s * q32, v := min lim (vs.natAbs : Int), dir := if vs < 0 then -1 else 1, a := 0, sHist := hist, limited := past }
  if past && !a.limited then
    s1.raiseLimited { code := 0x0911, obj := o
                      fields := [o, i64 (puPerS vs), s.vLimit (s.leadOf o)] } 1000000 0 true
  else s1

/-- The tick of an axis in MOVING or AT_SPEED. -/
def State.tickMoving (s : State) (o : Nat) : State :=
  let a0 := s.axis o
  let (vs, hist) := s.gearTick o
  let freeze := s.axisBus o 1
  let a := if a0.regear then { a0 with sHist := hist, mv := { a0.mv with vMax := (puPerS vs).natAbs } } else a0
  match a.turn with
  | .slow =>
    let b := a.tickSlow (a.mv.decel a.v) freeze
    s.setAxis o (if b.v = 0 then { b with turn := .rest } else b)
  | .rest => s.setAxis o { (a.startFresh a.mv) with regear := a.regear }
  | .none =>
    let (b, e) := a.tickMove a.sat freeze
    let passed := freeze && !a.mv.vel && decide (b.dir * (b.mv.target - b.x) ≤ 0)
    let s1 := s.setAxis o { b with passed := b.passed || passed, state := if e = .atSpeed then .atSpeed else .moving }
    if e = .done then s1.comeToRest o 0x0901 else if a.regear then s1.tryRegear o vs else s1

/-- The following error (R308). -/
def State.followCheck (s : State) (o : Nat) : State :=
  let k := s.leadOf o
  let a := s.axis o
  let err := a.x - s.axisXm o
  if s.sensorOf k ≠ 0 ∧ s.followTol k ≠ 0 ∧ up32 (s.followTol k) < (err.natAbs : Int) then
    s.motionFault o 0x0912 [o, i64 (err / q32)]
  else s

/-- Saturation of STEP tiles, counted in ticks (R306). -/
def State.stepSaturation (s : State) (o : Nat) : State :=
  (s.axisTiles o).foldl (fun u k =>
    if u.tMode k ≠ 1 then u
    else
      let amp := u.stepU k
      let avail := u.uAvail k
      let run := if avail < amp then (u.loop k).satRun + 1 else 0
      (u.updLoop k (fun l => { l with satRun := run })).saturate k run amp avail) s

/-- PROFILE_TICK of the axis with object address `ax`, at a tempo of its tick grid (R288). -/
def execProfileTick (ax : Nat) (s : State) : Host.Outcome State Fault Refusal :=
  .next (
    let s := s.enter inDirect
    let a := s.axis ax
    if (aCls ax == clsDT || aCls ax == clsGRP) && s.objHere ax && s.axisOn ax && (s.parent ax).isNone && s.running
        && decide (a.nextTick ≤ s.tempo) && (s.tempo - a.nextTick) % 1024 == 0 then
      let s1 := (s.updAxis ax (fun a => { a with nextTick := s.tempo + 1024 })).tickSensors ax
      match (s1.axis ax).state with
      | .held => s1.updAxis ax (fun a => { a with sHist := if a.heldFrom = .geared ∨ a.regear then (s1.gearTick ax).2 else a.sHist })
      | .faulted => s1
      | .moving | .atSpeed => ((s1.tickMoving ax).stepSaturation ax).followCheck ax
      | .stopping =>
        let b := (s1.axis ax).tickSlow (up32 (s1.stopDecel (s1.leadOf ax))) (s1.axisBus ax 1)
        let s2 := s1.setAxis ax b
        (((if b.v = 0 then s2.comeToRest ax 0x0904 else s2)).stepSaturation ax).followCheck ax
      | .geared => ((s1.tickGeared ax).stepSaturation ax).followCheck ax
      | .idle | .deferred => (s1.stepSaturation ax).followCheck ax
    else s)

/-! ### Alignment and polygon start (R304, R312, R315, R318) -/

/-- SIXSTEP_ALIGN_DONE: 100,000,000 tempo of alignment; THETA_OFFSET is the value that makes θe 0 here. (DEDUCED: assumption 34) -/
def execSixstepAlignDone (tile : Idx) (s : State) : Host.Outcome State Fault Refusal :=
  .next (
    match (s.tile tile).aligning with
    | some t =>
      if decide (tile < 64) && decide (t + 100000000 ≤ s.tempo) then
        let off := (((s.tile tile).thetaOff : Int) - s.thetaE tile) % 65536
        s.updTile tile (fun t => { t with aligning := none, thetaOff := off.toNat })
      else s
    | none => s)

/-- POLY_ALIGN_DONE: ALIGN_RAMP_MS and ALIGN_HOLD_MS have passed. -/
def execPolyAlignDone (tile : Idx) (s : State) : Host.Outcome State Fault Refusal :=
  .next (
    let p := s.poly tile
    if decide (tile < 64) && p.stage == .align && decide (p.entered + (p.field 4 2 + p.field 6 2) * 500000 ≤ s.tempo) then
      (s.setPoly tile { p with freq := 0, theta := 0, agree := 0 }).polyTo tile .blind
    else s)

/-- POLY_BLIND_TIMEOUT: BLIND lasts too long. -/
def execPolyBlindTimeout (tile : Idx) (s : State) : Host.Outcome State Fault Refusal :=
  .next (
    let s := s.enter inTimeouts
    let p := s.poly tile
    if decide (tile < 64) && p.stage == .blind && decide (p.entered + p.field 40 2 * 500000 ≤ s.tempo) then
      (s.polyTo tile .faulted).raise
        { code := 0x0921, obj := obj clsDT tile, fields := [obj clsDT tile, 1], latch := [obj clsDT tile] }
    else s)

/-- POLY_SYNC_TIMEOUT: the ramp ended SYNC_TIMEOUT ago and the station is not LOCKED. -/
def execPolySyncTimeout (tile : Idx) (s : State) : Host.Outcome State Fault Refusal :=
  .next (
    let s := s.enter inTimeouts
    let p := s.poly tile
    let locked := match s.polyStation tile with
      | some n => s.stnLocked n
      | none => false
    match p.rampEnd with
    | some t =>
      if decide (tile < 64) && p.stage == .observer && !locked && !p.syncFail && decide (t + p.field 42 2 * 500000 ≤ s.tempo) then
        (s.setPoly tile { p with syncFail := true }).raise
          { code := 0x0921, obj := obj clsDT tile, fields := [obj clsDT tile, 2] }
      else s
    | none => s)

/-- POLY_CATCH_DONE: the pulses of CATCH have given back-EMF (mV), angle and speed (pu/s). -/
def execPolyCatchDone (tile : Idx) (emf angle speed : Nat) (s : State) : Host.Outcome State Fault Refusal :=
  .next (
    let p := s.poly tile
    let len := s.fb tile 88 4 * 500 + s.fb tile 96 4 * 500 + ceilDiv (s.fb tile 92 4) 2
    if decide (tile < 64) && p.stage == .catch && decide (p.entered + len ≤ s.tempo) then
      let ok := decide (s.fb tile 100 4 ≤ emf)
      let s1 := if ok then
          (s.setPoly tile { p with delta := 0, vRamp := up32 speed, vMeas := up32 speed, rampEnd := none, thc := angle % 65536
                                   syncFail := false }).polyTo tile .observer
        else if p.stopping then (s.polyTo tile .off).endRunout (obj clsDT tile) 0
        else (s.setPoly tile { (({} : PolySt)) with start := p.start, stage := p.stage }).polyTo tile .align
      s1.raise { code := 0x0922, obj := obj clsDT tile
                 fields := [obj clsDT tile, emf, angle, speed, if ok then 0 else 1] }
    else s)

/-! ### Run-out programs (R385) -/

/-- Start the run-out program of an axis or of a HEAT tile. -/
def State.startRunout (s : State) (o : Nat) : State :=
  let k := s.leadOf o
  let s1 := s.updTile k (fun t => { t with runout := some s.tempo, runoutDone := false })
  let a := s.axis o
  if s.tMode k ≠ 3 ∧ s.isMotor k ∧ a.state = .geared then
    let (vs, _) := s.gearTick o
    let mv : Move := { a.mv with vel := true, dir := if vs < 0 then -1 else 1, vMax := (puPerS vs).natAbs, vStop := 0
                                 a1 := max 1 a.mv.a1, a2 := max 1 a.mv.a2, d1 := max 1 a.mv.d1, d2 := max 1 a.mv.d2 }
    (s1.setAxis o { a with state := .atSpeed, mv := mv, v := (vs.natAbs : Int), dir := mv.dir, sHist := [] }).updGear o
      (fun g => { s := g.s })
  else s1

/-- RUNOUT_PROGRAM_EXPIRE: dt.runout_ms has passed; the axis takes STOP, and a program already at rest ends. -/
def execRunoutProgramExpire (ax : Nat) (s : State) : Host.Outcome State Fault Refusal :=
  .next (
    let s := s.enter inTimeouts
    let k := s.leadOf ax
    match (s.tile k).runout with
    | some t =>
      if (aCls ax == clsDT || aCls ax == clsGRP) && s.objHere ax && decide (t + s.dt k 0x003 * 500000 ≤ s.tempo) then
        if !s.isMotor k then s.endRunout ax 0
        else
          let s1 := s.stopObj ax
          if s1.tMode k = 3 then (if (s1.poly k).stage = .off then s1.endRunout ax 0 else s1)
          else if (s1.axis ax).state = .idle ∨ (s1.axis ax).state = .deferred then s1.endRunout ax 0 else s1
      else s
    | none => s)

end Sys2Proof.Machine
end

