-- ==== Sys2Proof/Machine/Tables.lean ====
section
/-!
DEFINITION. Tables (R88): their sizes, what a commit checks of each format (R146, R211, R244, R245, R289, R335, R346, R389),
which staging copies are held (R103), and the commit itself.
-/
namespace Sys2Proof.Machine

/-- Bytes of a table (Table 4-8); 0 for an id that is not defined. -/
def tableSize (id : Nat) : Nat :=
  match id with
  | 1 => 512 | 2 => 4096 | 3 => 256 | 4 => 128 | 5 => 2056 | 6 => 2056 | 7 => 256 | 8 => 128 | 9 => 5120 | _ => 0

/-- The class of a table's instances (Table 4-8). -/
def tableClass (id : Nat) : Nat :=
  if id = 9 then clsDEV else if 5 ≤ id ∧ id ≤ 7 then clsDT else clsSTN

/-- The table has lock L (Table 4-8). -/
def tableLocked (id : Nat) : Bool := decide (1 ≤ id ∧ id ≤ 4)

/-! ### Formats -/

/-- A field of a format: offset, bytes, whether it is signed, and its range. -/
structure Fld where
  off : Nat
  w : Nat
  sgn : Bool
  lo : Int
  hi : Int
  deriving DecidableEq, Repr

/-- A field's value. -/
def Fld.value (f : Fld) (b : Bytes) : Int :=
  if f.sgn then sext (8 * f.w) (leAt b f.off f.w) else ((leAt b f.off f.w : Nat) : Int)

/-- A field lies outside its range. -/
def Fld.bad (f : Fld) (b : Bytes) : Bool := decide (f.value b < f.lo ∨ f.hi < f.value b)

/-- The first field, in ascending order, that is out of range. -/
def firstBad (fs : List Fld) (b : Bytes) : Option Nat := (fs.find? (fun f => f.bad b)).map (fun f => f.off)

/-- An unsigned field with a range. -/
def uF (off w : Nat) (lo hi : Int) : Fld := ⟨off, w, false, lo, hi⟩
/-- A signed field with a range. -/
def sF (off w : Nat) (lo hi : Int) : Fld := ⟨off, w, true, lo, hi⟩
/-- A Q16 field above 0. -/
def qF (off : Nat) : Fld := ⟨off, 4, true, 1, 0x7fffffff⟩
/-- A field that its mode does not use. -/
def zF (off w : Nat) : Fld := ⟨off, w, false, 0, 0⟩

/-- The reserved bytes of a range of offsets, each with its whole mask. -/
def resBytes (lo hi : Nat) : List (Nat × Nat) := (List.range (hi + 1 - lo)).map (fun i => (lo + i, 0xff))

/-- Fields of a motor mode's FB_SCALE (Table 12-2), in ascending order: those that mode and sensor use with their ranges, and
the others at 0. `grp` marks a member of a group. -/
def motorFields (b : Bytes) (grp : Bool) : List Fld :=
  let m := leAt b 0 1
  let sen := leAt b 1 1
  let step := m == 1
  let six := m == 2
  let poly := m == 3
  let dcm := m == 4
  let f := fun (used : Bool) (x : Fld) => if used then x else zF x.off x.w
  let u32 : Int := 0xffffffff
  [uF 0 1 1 4,
   (if step || poly then uF 1 1 0 0 else if six && !grp then uF 1 1 1 2 else uF 1 1 0 2),
   f step (uF 2 1 2 3), f (six || poly) (uF 3 1 1 32), f (sen == 2) (uF 4 1 1 8), f (sen == 1) (uF 5 1 0 3),
   f (six || dcm) (uF 6 1 0 255), f (six && sen == 1) (uF 8 4 4 16777216), f six (uF 12 2 0 65535), f six (uF 14 2 0 5461),
   qF 16, uF 20 4 1000 50000, f (step || (six && bit (leAt b 6 1) 0)) (uF 24 4 0 u32), f step (uF 28 4 0 u32), f step (sF 32 4 (-0x80000000) 0x7fffffff),
   f step (sF 36 4 (-0x80000000) 0x7fffffff), f six (sF 40 2 (-32768) 32767), f six (sF 44 4 (-0x80000000) 0x7fffffff),
   uF 48 4 1 u32, f (sen != 0) (uF 52 4 ((leAt b 48 4 : Nat) + 1) u32), f (sen != 0) (uF 56 4 0 u32), uF 60 4 1 u32,
   uF 64 2 1 65535, (if grp || leAt b 68 4 != 0 then sF 68 4 4096 131072 else zF 68 4),
   f poly (uF 72 4 1 u32), f poly (uF 76 4 1 u32), f poly (uF 80 2 0 65535), f poly (uF 82 2 1 65535),
   f poly (uF 84 2 1 4096), f poly (uF 86 2 0 65535), f poly (uF 88 4 10 100000), f poly (uF 92 4 200 20000),
   f poly (uF 96 4 20 10000), f poly (uF 100 4 0 u32), f poly (sF 104 4 (-0x80000000) 0x7fffffff),
   f poly (sF 108 4 (-0x80000000) 0x7fffffff), f poly (uF 112 4 0 u32)]

/-- Fields of zone descriptor `z` in use (Table 14-2). -/
def zoneFields (b : Bytes) (z : Nat) : List Fld :=
  let o := 64 + 32 * z
  let len := leAt b (o + 8) 1
  [uF o 1 0 3, uF (o + 1) 1 0 3, uF (o + 2) 1 0 3, uF (o + 3) 1 0 4, uF (o + 8) 1 1 8,
   uF (o + 9) 1 0 (min 63 (8 * (len : Int) - leAt b (o + 10) 1)), uF (o + 10) 1 8 32,
   sF (o + 20) 4 (-50000) 50000, sF (o + 24) 4 (-0x80000000) 350000]

/-- Fields of a HEAT tile's FB_SCALE (Table 14-1). -/
def heatFields (b : Bytes) : List Fld :=
  let zones := leAt b 1 1
  [uF 1 1 1 4, uF 2 1 0 ((zones : Int) - 1), uF 8 4 10000 500000, uF 12 4 ((leAt b 8 4 : Nat) + 1) 500000, qF 16,
   uF 24 4 0 200000, sF 28 4 3277 32768, qF 32, uF 36 4 1 32767, uF 40 4 1000 1000000, uF 44 4 0 60000, uF 52 4 0 10000]
    ++ (List.range (min 4 zones)).flatMap (fun z => zoneFields b z)

/-- Fields of leg descriptor `j`, from 0 (Table 14-3). -/
def legFields (b : Bytes) (j : Nat) : List Fld :=
  let o := 64 + 32 * j
  uF o 1 0 1 :: (if leAt b o 1 = 1 then
    [uF (o + 1) 1 0 1, uF (o + 2) 1 0 1, qF (o + 4), sF (o + 8) 4 (-4096) 4096, uF (o + 12) 4 1 32767, uF (o + 16) 2 1 62259,
     sF (o + 20) 4 0 0x7fffffff, uF (o + 24) 2 16 32767, uF (o + 26) 1 1 255, uF (o + 27) 1 1 255, uF (o + 28) 2 1 65535]
    else [])

/-- Fields of an HV tile's FB_SCALE (Table 14-1). -/
def hvFields (b : Bytes) : List Fld :=
  [qF 16, uF 20 4 1000 50000, uF 44 4 0 60000, uF 52 4 0 10000] ++ (List.range 3).flatMap (fun j => legFields b j)

/-- The reserved bits of a format: byte offsets with the mask of the reserved bits, in ascending order. -/
def reservedBits (id : Nat) (b : Bytes) : List (Nat × Nat) :=
  match id with
  | 1 => (List.range 512).map (fun i => (i, 0xe0))
  | 7 =>
    let m := leAt b 0 1
    if m = 5 then
      resBytes 3 7 ++ resBytes 20 23 ++ resBytes 48 51 ++ resBytes 56 63
        ++ (List.range 4).flatMap (fun z => (64 + 32 * z + 11, 0xfe) :: resBytes (64 + 32 * z + 28) (64 + 32 * z + 31))
        ++ resBytes 192 255
    else if m = 6 then
      resBytes 1 15 ++ resBytes 24 43 ++ resBytes 48 51 ++ resBytes 56 63
        ++ (List.range 3).flatMap (fun j => let o := 64 + 32 * j
            (o + 3, 0xff) :: resBytes (o + 18) (o + 19) ++ resBytes (o + 30) (o + 31))
        ++ resBytes 160 255
    else (6, 0xfc) :: (7, 0xff) :: resBytes 42 43 ++ resBytes 66 67 ++ resBytes 116 255
  | 8 => (List.range 8).flatMap (fun k =>
      [(16 * k, 0xfe), (16 * k + 1, 0xc0), (16 * k + 3, 0xf0), (16 * k + 5, 0xff)] ++ resBytes (16 * k + 12) (16 * k + 15))
  | 9 => (2, 0xfe) :: (3, 0xff) :: resBytes 0x12 0x3f
      ++ (List.range 32).flatMap (fun i => (0xec0 + 32 * i + 13, 0xff) :: resBytes (0xec0 + 32 * i + 18) (0xec0 + 32 * i + 31))
      ++ resBytes 0x12c0 0x13ff
  | _ => []

/-- The first byte with a reserved bit set. -/
def firstReserved (id : Nat) (b : Bytes) : Option Nat :=
  ((reservedBits id b).find? (fun e => Nat.land (leAt b e.1 1) e.2 != 0)).map (fun e => e.1)

/-- The fields of a format with their ranges, in ascending order. -/
def State.tableFields (s : State) (id inst : Nat) (b : Bytes) : List Fld :=
  match id with
  | 2 => (List.range 2048).map (fun i => sF (2 * i) 2 (-4096) 4096)
  | 3 => (List.range 32).flatMap (fun i => [sF (8 * i) 4 (-4096) 4096, sF (8 * i + 4) 4 (-8192) 8192])
  | 4 => (List.range 16).flatMap (fun i => [sF (8 * i) 4 (-10000) 10000, sF (8 * i + 4) 4 (-4096) 4096])
  | 5 | 6 =>
    let rev := leAt b 0 4
    (if 1 ≤ rev ∧ rev ≤ 1023 then [zF 0 4] else [])
      ++ (if rev = 0 then [] else [uF 4 4 0 ((rev : Int) - 1)])
      ++ (if id = 6 then (List.range 1024).map (fun j => sF (8 + 2 * j) 2 0 32767) else [])
  | 7 =>
    let m := leAt b 0 1
    if m = 5 then heatFields b else if m = 6 then hvFields b else motorFields b (s.parent (obj clsDT inst)).isSome
  | 8 => (List.range 8).flatMap (fun k => if bit (leAt b (16 * k) 1) 0 then [uF (16 * k + 6) 2 26 51] else [])
  | 9 => [uF 0 2 1 1, uF 4 8 (s.die.dieId : Nat) (s.die.dieId : Nat)]
  | _ => []

/-! ### Staging copies (R88, R103) -/

/-- The action commits table `id`. -/
def Action.commits (a : Action) (id : Nat) : Bool := a.kind == 2 && a.table == id

/-- A castle slot other than `slot` holds the staging copy of a table. -/
def State.castleHolds (s : State) (id : Nat) (slot : Option Nat) : Bool :=
  s.sheets.castles.any (fun e => some e.1 != slot && e.2.state == 2 && e.2.actions.any (fun a => a.commits id))

/-- A ticket other than `tk` holds the staging copy of a table, for an entry that has not been evaluated. -/
def State.ticketHolds (s : State) (id : Nat) (tk : Option Nat) : Bool :=
  s.sheets.tickets.any (fun e => some e.1 != tk && decide (2 ≤ e.2.state) &&
    e.2.entries.any (fun x => !x.done && x.actions.any (fun a => a.commits id)))

/-- The staging copy of a table is held by a castle or ticket other than those named. -/
def State.stagingHeld (s : State) (id : Nat) (slot tk : Option Nat) : Bool := s.castleHolds id slot || s.ticketHolds id tk

/-- The checks of a commit in the order of R88: the first that fails; DATA gives an offset in 4 bytes. (DESIGN CHOICE: assumption
11) `own` marks a sealed sheet's own timeline castle. -/
def State.commitRef (s : State) (id inst crc : Nat) (slot tk : Option Nat) (own : Bool) : Option Ref :=
  let st := s.staging id
  let at_ := fun (c : Nat) (o : Nat) => some ({ code := c, data := toLE 4 o } : Ref)
  if s.stagingHeld id slot tk then some { code := stBUSY }
  else if st.inst ≠ some inst then some { code := stWRONG_STATE }
  else if !own && tableLocked id && s.participates (obj clsSTN inst) then some { code := stSHEET_LOCKED }
  else match firstReserved id st.data with
    | some o => at_ stRESERVED_VALUE o
    | none => match firstBad (s.tableFields id inst st.data) st.data with
      | some o => at_ stBAD_VALUE o
      | none => if crc32 st.data = crc then none else some { code := stCRC_MISMATCH }

/-- A table that an uncorrectable error concerned has been committed: the fault of its station clears with the last such
table (Table 17-3, reader 2). -/
def State.tableMended (s : State) (id inst : Nat) : State :=
  if s.sheets.ueTables.contains (id, inst) then
    let left := s.sheets.ueTables.filter (fun e => e != (id, inst))
    let s1 := { s with sheets := { s.sheets with ueTables := left } }
    if left.any (fun e => e.2 == inst) then s1 else s1.unlatch 0x0e10 (obj clsSTN inst)
  else s

/-- Note what has been written again for a tile after an uncorrectable error of its loop engine. -/
def State.noteRewritten (s : State) (k b : Nat) : State :=
  { s with sheets := { s.sheets with rewritten := Map.upd (fun _ => 0) s.sheets.rewritten k (fun m => Nat.lor m (2 ^ b)) } }

/-- A commit that passes (R88): the active copy becomes the staging copy, which becomes empty. -/
def State.commitTable (s : State) (id inst : Nat) : State :=
  let d := (s.staging id).data
  let s1 := (s.setTable id inst (if d.all (fun b => b == 0) then [] else d)).setStaging id {}
  let s2 := { s1 with md := { s1.md with committed := Map.put (fun _ => false) s1.md.committed (id * 0x10000 + inst) true } }
  match id with
  | 5 | 6 => (if (s.tile inst).prot = .disabled then s2 else s2.checkTable id inst).noteRewritten inst (11 + id)
  | 9 => { s2 with ageNew := bit (leAt d 2 1) 0 }
  | 7 => s2
  | _ => s2.tableMended id inst

end Sys2Proof.Machine
end

