-- ==== Sys2Proof/Machine/Params.lean ====
section
/-!
DEFINITION. Parameters: what one reads (R83, R85), the checks of a write (R81 to R84, R87), and what a write does beside
storing its value.
-/
namespace Sys2Proof.Machine

/-! ### Reading -/

/-- A used rail (Table 15-1). -/
def State.railUsed (s : State) (i : Nat) : Bool := decide (5 ≤ i ∧ i < 32) && s.par clsRAIL i 0x001 != 0

/-- The used host rails. -/
def State.usedRails (s : State) : List Nat := (List.range 32).filter s.railUsed

/-- The code of a rail state (Table 15-3). -/
def RailState.code : RailState → Nat
  | .unused => 0 | .off => 1 | .waiting => 2 | .rising => 3 | .up => 4 | .falling => 5 | .failed => 6 | .blocked => 7

/-- The state of a rail (R361): an own rail is UP, RISING during the wake, FALLING during its power-down, or OFF; a host rail
that is not used is UNUSED. -/
def State.railState (s : State) (i : Nat) : RailState :=
  if i < 5 then
    if Map.get (fun _ => false) s.aon.ownUp i then (if s.aon.wake = .down ∧ 0 < i then .falling else .up)
    else if (s.aon.wake = .rl00 ∧ i = 0) ∨ (s.aon.wake = .rails ∧ 0 < i) then .rising
    else .off
  else if s.railUsed i then (s.rail i).state else .unused

/-- SEQDN_OUT (R372): high while no used host rail is RISING, UP or FALLING; high in Dormant. -/
def State.seqDnOut (s : State) : Bool :=
  s.md.mode == .dormant || s.usedRails.all (fun i =>
    (s.rail i).state != .rising && (s.rail i).state != .up && (s.rail i).state != .falling)

/-- dev.seq.pins (Table 15-5). -/
def State.seqPins (s : State) : Nat :=
  let drives := !s.aon.pwrflt.isEmpty
  b2n s.aon.seqUpIn + 2 * b2n s.aon.seqUpOut + 4 * b2n s.aon.seqDnIn + 8 * b2n s.seqDnOut
    + 16 * b2n (!(drives || s.aon.pwrfltExt)) + 32 * b2n drives

/-- The die maximum in Q16. -/
def eighths (x : Int) : Nat := i64 (x * 8192)

/-- A parameter of a gearing unit, counted from its first (Table 6-7): master, num, den, pending, switch_pos, slave_pos. -/
def State.gearParam (s : State) (o j : Nat) : Nat :=
  let g := s.gearOf o
  if j = 0 then g.master else if j = 1 then i64 g.n else if j = 2 then g.d
  else if j = 3 then b2n g.pend.isSome
  else if j = 4 then (match g.pend with
    | some p => wrapBits 64 p.p
    | none => 0)
  else wrapBits 64 g.s

/-- The frequency of OUT5 in kHz while it is enabled (R143). -/
def State.monKhz (s : State) (n : Nat) : Nat :=
  if s.par clsSTN n 0x071 = 1 ∧ (s.pll (8 + n)).state ≠ .off then
    62500 * (s.pll (8 + n)).ratio / (2 ^ 32 * max 1 (s.par clsSTN n 0x065))
  else 0

/-- The code of a link state (Table 9-3). -/
def LinkState.code : LinkState → Nat
  | .down => 0 | .training => 1 | .up => 2 | .faulted => 3

/-- The code of a DMA channel state (Table 7-6). -/
def DmaState.code : DmaState → Nat
  | .closed => 0 | .idle => 1 | .running => 2 | .faulted => 3

/-- Read-only parameters of class DEV. -/
def State.roDev (s : State) (p : Nat) : Nat :=
  if 0x030 ≤ p ∧ p ≤ 0x034 then (s.pll (p - 0x030)).state.code
  else if 0x050 ≤ p ∧ p ≤ 0x057 then s.busStatus (p - 0x050)
  else if p = 0x062 then s.seqPins
  else if p = 0x071 then eighths s.therm.max
  else if p = 0x072 then s.therm.maxSensor
  else if p = 0x073 then s.therm.step
  else if p = 0x074 then s.therm.state
  else if p = 0x075 then s.aon.ledger.length
  else if p = 0x077 then s.therm.vcore
  else s.therm.grade

/-- Read-only parameters of class STN. -/
def State.roStn (s : State) (n p : Nat) : Nat :=
  let t := s.station n
  if p = 0x018 then t.sync.code
  else if p = 0x019 then t.facet
  else if p = 0x01a then t.period
  else if p = 0x01b then t.raw / 64
  else if p = 0x01c then t.raw % 64
  else if p = 0x01d then t.missed
  else if p = 0x01e then t.stray
  else if p = 0x055 then i64 t.err
  else if p = 0x056 then i64 t.phiEff
  else if p = 0x057 then b2n (s.regVal n)
  else if p = 0x074 then (s.pll (8 + n)).state.code
  else if p = 0x075 then s.monKhz n
  else if p = 0x076 then (s.pll (8 + n)).ratio
  else if 0x080 ≤ p ∧ p ≤ 0x085 then s.gearParam (obj clsSTN n) (p - 0x080)
  else if p = 0x092 then (if s.md.pressOk then s.swathC n else 0)
  else s.fillAhead n

/-- Read-only parameters of classes BEAM, VL and DL. -/
def State.roBeam (s : State) (c i p : Nat) : Nat :=
  if c = clsBEAM then
    if p = 1 then b2n (decide (i % 32 < s.spares (i / 32))) else (s.role (i / 32) (i % 32)).code
  else if c = clsVL then
    let l := s.link i
    if p = 0 then l.state.code else if p = 2 then l.rtt else if p = 3 then l.drv else if p = 4 then l.ctlErr
    else if p = 5 then l.bcErr else l.linesLost
  else
    let l := s.lane i
    if p = 0 then s.laneCode i
    else if p = 1 then (s.station (i / 4)).qBase + (s.station (i / 4)).queue.length - l.strip
    else if p = 2 then l.work % 2 ^ 64 else l.errors

/-- Read-only parameters of classes DT, LE, GRP and ME. -/
def State.roDrive (s : State) (c i p : Nat) : Nat :=
  if c = clsDT then
    if p = 0x004 then (s.tile i).derate
    else if p = 0x024 then s.protStatus i
    else s.gearParam (obj clsDT i) (p - 0x0c0)
  else if c = clsLE then
    let t := Map.get (fun _ => ((0 : Int), 0)) s.drive.leTap i
    if p = 6 then i64 t.1 else if p = 7 then t.2
    else i64 (Int.tdiv (s.loop (8 * i + (p - 8))).i 65536)
  else if c = clsGRP then s.gearParam (obj clsGRP i) (p - 1)
  else
    let e := s.enc i
    if p = 8 then wrapBits 64 e.pos
    else if p = 9 then (if s.meOn i then i64 (clampI s32Min s32Max (s.meRate i)) else 0)
    else if p = 0xa then wrapBits 64 e.idxPos else if p = 0xb then e.idxTempo else e.errCount

/-- Parameters of RL00 to RL04 (R359, Table 2-4b, R370). (DEDUCED: assumption 12) -/
def State.ownRail (s : State) (i p : Nat) : Nat :=
  if p = 1 then 1000 else if p = 2 then 5000 else if p = 3 then 10000 else if p = 5 then 0xff0000a0
  else if p = 6 then (s.railState i).code else if p = 7 then (s.rail i).tempo else 0

/-- Read-only parameters of the other classes. -/
def State.roRest (s : State) (c i p : Nat) : Nat :=
  if c = clsRAIL then (if p = 6 then (s.railState i).code else (s.rail i).tempo)
  else if c = clsTS then
    let t := s.sensor i
    if p = 0 then eighths t.temp else if p = 1 then b2n t.suspect else if p = 2 then i64 t.rate else eighths t.peak
  else if c = clsDMA then (s.dma i).state.code
  else if c = clsCL then
    if p = 8 then b2n s.store.job.isSome else if p = 9 then s.store.jobs.length
    else if p = 0xa then s.store.clIn % 2 ^ 64 else s.store.clOut % 2 ^ 64
  else if c = clsGPIO then
    let g := s.gpio i
    if p = 2 then g.capTempo else b2n g.level + 2 * b2n g.overrun + g.captures * 65536
  else 0

/-- The value of a parameter in canonical form (R83); 0 where the address is refused (R3, R85). -/
def State.readParam (s : State) (a : Nat) : Nat :=
  let c := aCls a
  let i := aIdx a
  let p := aPid a
  match findFamily c p with
  | none => 0
  | some f =>
    if !s.inService c i then 0
    else if c = clsRAIL ∧ i < 5 then s.ownRail i p
    else if f.win ≠ .ro then s.param a
    else if c = clsDEV then s.roDev p
    else if c = clsSTN then s.roStn i p
    else if c = clsBEAM ∨ c = clsVL ∨ c = clsDL then s.roBeam c i p
    else if c = clsDT ∨ c = clsLE ∨ c = clsGRP ∨ c = clsME then s.roDrive c i p
    else s.roRest c i p

/-- A read of gpio.cap_tempo clears OVERRUN (R419), and the capture has been read. -/
def State.readEffect (s : State) (a : Nat) : State :=
  if aCls a = clsGPIO ∧ aPid a = 0x002 then s.updGpio (aIdx a) (fun g => { g with overrun := false, unread := false })
  else s

/-! ### Ranges -/

/-- The range of dt.loop.coef[j] of a tile in the mode in force, as Q16 (Tables 13-3, 14-4, 14-5). -/
def State.coefRange (s : State) (k j : Nat) : Int × Int :=
  let m := s.tMode k
  let any : Int × Int := (s32Min, s32Max)
  if m = 5 then
    if j = 0 then (0, 300 * 65536) else if j = 1 then (0, 100 * 65536) else if j = 2 then (6554, 50 * 65536)
    else if j = 5 then (0, 20000 * 65536) else if j = 6 then (0, s.parI clsDT k 0x105)
    else if j = 3 ∨ j = 4 ∨ j = 7 ∨ j = 8 then (0, s32Max) else any
  else if m = 6 then
    if j = 15 then any
    else if j % 5 = 0 then (0, (s.legF k (j / 5) 12 4 : Int) * 65536)
    else if j % 5 = 1 then (656, 10000 * 65536) else if j % 5 = 2 then (656, s32Max) else (0, s32Max)
  else if 1 ≤ m ∧ m ≤ 4 then
    if j = 7 then (if (s.tile k).prot = .disabled then any else (65536, 32767 * 65536))
    else if j = 14 then (0, 3 * 65536) else any
  else any

/-- The range of a parameter of one instance: the family's, or what depends on the state. -/
def State.rangeOf (s : State) (f : Family) (i p : Nat) : Int × Int :=
  if f.cls = clsDT ∧ 0x100 ≤ p then s.coefRange i (p - 0x100)
  else if f.cls = clsSTN ∧ p = 0x091 then (48, (s.swathC i : Int) - 48)
  else (f.lo, f.hi)

/-- The default of a parameter: the family's, and V0 for dev.vcore.mv (Table 16-7a). -/
def State.defaultOf (s : State) (f : Family) (p : Nat) : Nat :=
  if f.cls = clsDEV ∧ p = 0x077 then s.die.v0 else f.resetOf p

/-- Conditions on a value that its range alone does not say, with the state. -/
def State.extraOk (s : State) (c i p v : Nat) : Bool :=
  extraRangeOk c p v
    && (c != clsLE || p != 0x001 || v % max 1 (s.par clsLE i 0x000) == 0)
    && (c != clsLE || p != 0x000 || s.par clsLE i 0x001 % max 1 v == 0)
    && (c != clsDT || p != 0x10e || s.tMode i == 0 || decide (4 < s.tMode i) || v % 65536 == 0)

/-- The statuses of a value (R83). (DEDUCED: assumption 10) -/
def State.valueStatus (s : State) (f : Family) (i p v : Nat) : List Nat :=
  let mask := reservedMask f.cls p
  let r := s.rangeOf f i p
  let x := f.ty.toInt v
  if !f.ty.holds v then [stBAD_VALUE]
  else if mask ≠ 0 then
    (if s.extraOk f.cls i p v then [] else [stBAD_VALUE])
      ++ (if Nat.land v mask ≠ 0 || reservedFieldValue f.cls p v then [stRESERVED_VALUE] else [])
  else if r.1 ≤ x ∧ x ≤ r.2 ∧ s.extraOk f.cls i p v then [] else [stBAD_VALUE]

/-! ### Write windows (R84) -/

/-- The owning object is disabled or unarmed (window T). -/
def State.ownerIdle (s : State) (c i : Nat) : Bool :=
  if c = clsDT then (s.tile i).prot == .disabled
  else if c = clsGRP then !(s.group i).enabled
  else if c = clsSTN then !(s.station i).enabled
  else if c = clsBEAM then !(s.station (i / 32)).enabled
  else if c = clsLE then (List.range 8).all (fun j => (s.tile (8 * i + j)).prot == .disabled)
  else if c = clsME then !s.meOn i
  else if c = clsDMA then (s.dma i).state == .closed
  else if c = clsTK then decide ((s.ticket i).state < 2)
  else true

/-- The statuses of a write window. -/
def State.windowStatus (s : State) (f : Family) (i : Nat) : List Nat :=
  match f.win with
  | .ro => [stREAD_ONLY]
  | .d => if s.md.mode ≠ .configure then [stWRONG_MODE] else if s.md.pressOk then [stWRONG_STATE] else []
  | .s => if s.md.mode = .configure ∨ s.md.mode = .standby then [] else [stWRONG_MODE]
  | .t => if s.ownerIdle f.cls i then [] else [stWRONG_STATE]
  | .a => []

/-- What else refuses a direct write: a rail of the device's own (R359), a store of a slot (R147). -/
def State.writeStatus (s : State) (c i p : Nat) : List Nat :=
  if c = clsRAIL ∧ i < 5 then [stWRONG_STATE]
  else if c = clsSTN ∧ p = 0x077 then
    (if (s.pll (8 + i)).state = .locked then [] else [stWRONG_STATE])
      ++ (if (s.staging 0x08).inst.isSome then [stBUSY] else [])
  else []

/-- A direct write is locked by a sealed sheet (R84). -/
def State.writeLocked (s : State) (a : Nat) : Bool :=
  match findFamily (aCls a) (aPid a) with
  | some f => f.lock && s.participates (aObj a)
  | none => false

/-- The status of a direct write (R81 to R84, R75); none when it passes. -/
def State.writeRef (s : State) (a v : Nat) : Option Nat :=
  let c := aCls a
  let i := aIdx a
  let p := aPid a
  match findFamily c p with
  | none => some stUNKNOWN_ADDRESS
  | some f =>
    (firstRef ((s.addrStatus a ++ s.windowStatus f i ++ s.valueStatus f i p v ++ s.writeStatus c i p
      ++ (if s.writeLocked a then [stSHEET_LOCKED] else [])).map (fun x => { code := x }))).map (fun r => r.code)

/-- The statuses of a PARAM_SET record (R87, R102). -/
def State.castleWrite (s : State) (a v : Nat) : List Nat :=
  match findFamily (aCls a) (aPid a) with
  | none => [stUNKNOWN_ADDRESS]
  | some f =>
    s.addrStatus a ++ (if f.win = .a then [] else [stNOT_IN_CASTLE]) ++ s.valueStatus f (aIdx a) (aPid a) v

/-! ### What a write does -/

/-- The level that a GPIO output drives: none for an input, and none for a released open drain. -/
def State.gpioDrive (s : State) (i : Nat) : Option Bool :=
  let d := field (s.par clsGPIO i 0x000) 0 2
  let on := s.par clsGPIO i 0x001 == 1
  if d = 1 then some on else if d = 2 then (if on then none else some false) else none

/-- A change of what a GPIO drives leaves the package. -/
def State.gpioOut (s : State) (before : Option Bool) (i : Nat) : State :=
  match s.gpioDrive i with
  | some b => if before = some b then s else s.emit (.gpio i b)
  | none => s

/-- Parameters of a tile that feed its endpoint registers (Table 11-3). -/
def feedsCfg (p : Nat) : Bool :=
  decide (0x010 ≤ p ∧ p ≤ 0x012) || decide (0x018 ≤ p ∧ p ≤ 0x01a) || p == 0x01c || p == 0x023

/-- Note that a loop coefficient of a tile has been loaded (R48). -/
def State.noteCoef (s : State) (k : Nat) : State :=
  { s with md := { s.md with coefs := Map.put (fun _ => false) s.md.coefs k true } }

/-- Apply a value that has passed its checks, with what its parameter's rule adds. -/
def State.applyParam (s : State) (a v : Nat) : State :=
  let c := aCls a
  let i := aIdx a
  let p := aPid a
  let old := s.param a
  let s1 := s.setParam a v
  if c = clsSTN then
    if (0x040 ≤ p ∧ p ≤ 0x050) ∧ (s.station i).decTempo = s.tempo ∧ (s.station i).enabled then
      s1.updStation i (fun t => { t with lineAdj := s1.lineAdjOf i })
    else if p = 0x077 then (if (s.pll (8 + i)).state = .locked ∧ (s.staging 8).inst = none then s1.storeSlot i v else s1)
    else if p = 0x078 then s1.bandSlot i v
    else s1
  else if c = clsDT then
    if 0x100 ≤ p then
      let s2 := (s1.noteRewritten i (p - 0x100)).noteCoef i
      if s.tMode i = 5 then s2.heatWindow i
      else if s.tMode i = 6 then (List.range 3).foldl (fun u j => u.legWindow i j) s2 else s2
    else if feedsCfg p && old != v && (s.tile i).prot == .disabled then s1.startCfg i 0 else s1
  else if c = clsME then
    if p = 0x000 then s1.updEnc i (fun e => { e with
      started := e.started && old == v, idxSeen := e.idxSeen && old == v, hist := if v = 0 then [] else e.hist })
    else if p = 0x007 then s1.updEnc i (fun e => { e with pos := sext 64 v })
    else s1
  else if c = clsGPIO then s1.gpioOut (s.gpioDrive i) i
  else if c = clsRAIL ∧ p = 0x001 ∧ v = 0 then s1.setRail i {}
  else s1

end Sys2Proof.Machine
end

