-- ==== Sys2Proof/Machine/Castles.lean ====
section
/-!
DEFINITION. What castles and tickets share (chapter 5): action records (R101, R102), preconditions (R104, R105), triggers
(R104), applying an action (R101, R103), conflicts (R108), and how a ticket leaves its arming or its seal (R120, R121, R123,
R127).
-/
namespace Sys2Proof.Machine

/-! ### Action records -/

/-- The fields of an action record (Table 5-2). -/
def actionOf (b : Bytes) : Action := { target := leAt b 0 4, kind := leAt b 4 1, table := leAt b 5 1, value := leAt b 8 8 }

/-- The legs an OUTPUT_ENABLE names on an HV tile (R345). -/
def Action.legs (a : Action) : Nat := if field a.value 8 3 = 0 then 7 else field a.value 8 3

/-- Two actions have the same kind and act on the same thing (R102, R108, R345). -/
def State.sameThing (s : State) (a b : Action) : Bool :=
  a.kind == b.kind && a.target == b.target && (a.kind != 2 || a.table == b.table)
    && (a.kind != 3 || aCls a.target != clsDT || s.tMode (aIdx a.target) != 6 || Nat.land a.legs b.legs != 0)

/-- The classes that an action kind takes as its object. -/
def Action.classes (a : Action) : List Nat :=
  if a.kind = 2 then [tableClass a.table] else if a.kind = 3 then [clsDT, clsGRP, clsSTN]
  else if a.kind = 4 then [clsDT, clsGRP] else [clsSTN]

/-- The bits of VALUE that are reserved. -/
def State.reservedValue (s : State) (a : Action) : Nat :=
  if a.kind = 2 then a.value / 2 ^ 32
  else if a.kind = 3 then
    (if aCls a.target = clsDT ∧ s.tMode (aIdx a.target) = 6 then Nat.land a.value 0xfffffffffffff8fe else a.value / 2)
  else a.value

/-- The action is addressed to a DT or GRP object that is a member of another group (R24, R102). -/
def State.toMember (s : State) (a : Action) : Bool := (a.kind == 3 || a.kind == 4) && (s.parent a.target).isSome

/-- The statuses of an action record at CASTLE_STAGE (R87, R101, R102), duplicates apart. (DEDUCED: assumption 21) -/
def State.actionStatus (s : State) (b : Bytes) : List Nat :=
  let a := actionOf b
  if leAt b 6 2 ≠ 0 ∨ a.kind = 0 ∨ 5 < a.kind ∨ (a.kind ≠ 2 ∧ a.table ≠ 0) then [stBAD_ARG]
  else if a.kind = 1 then s.castleWrite a.target a.value
  else if s.reservedValue a ≠ 0 ∨ aPid a.target ≠ 0 then [stBAD_ARG]
  else
    let known := a.kind != 2 || tableSize a.table != 0
    (if known && classInstances (aCls a.target) != 0 && !a.classes.contains (aCls a.target) then [stBAD_ARG] else [])
      ++ s.addrStatus a.target
      ++ (if !known then [stBAD_VALUE] else if a.kind = 2 ∧ 7 ≤ a.table then [stNOT_IN_CASTLE] else [])
      ++ (if s.toMember a then [stGROUP_MEMBER] else [])

/-! ### Triggers and preconditions -/

/-- A trigger is not ahead (R103): a tempo that is not later than the present one, or a position of ME(basis - 1) that has been
reached. -/
def State.reached (s : State) (basis : Nat) (trigger : Int) : Bool :=
  if basis = 0 then decide (trigger ≤ (s.tempo : Int)) else decide (trigger ≤ (s.enc (basis - 1)).pos)

/-- A castle slot's trigger is reached in this tempo (R104). -/
def State.firesNow (s : State) (c : Castle) : Bool :=
  if c.basis = 0 then decide (c.trigger = (s.tempo : Int)) else c.reachedAt == some s.tempo

/-- A trigger field: unsigned for a tempo, signed for a position (Table 5-3). -/
def triggerOf (basis : Nat) (x : Nat) : Int := if basis = 0 then (x : Int) else sext 64 x

/-- A precondition record (R104). -/
def preOf (b : Bytes) : Pre := { obj := leAt b 0 4, cond := leAt b 4 1 }

/-- A class takes a condition (Table 5-4). -/
def condTakes (cond c : Nat) : Bool :=
  if cond = 1 then true
  else if cond = 2 then [clsDT, clsGRP, clsSTN, clsDMA].contains c
  else if cond = 3 then c == clsSTN
  else if cond = 4 then c == clsDT
  else if cond = 5 then c == clsDT || c == clsGRP
  else if cond = 6 then c == clsDEV
  else [clsDT, clsGRP, clsSTN].contains c

/-- The statuses of a precondition record at arming or build (R105). -/
def State.preStatus (s : State) (b : Bytes) : List Nat :=
  let p := preOf b
  let c := aCls p.obj
  if leAt b 5 3 ≠ 0 ∨ p.cond = 0 ∨ 7 < p.cond ∨ aPid p.obj ≠ 0 then [stBAD_ARG]
  else if classInstances c ≠ 0 ∧ !condTakes p.cond c then [stBAD_ARG]
  else if p.cond = 4 ∧ c = clsDT ∧ s.tMode (aIdx p.obj) ≠ 5 ∧ s.tMode (aIdx p.obj) ≠ 6 then [stBAD_ARG]
  else s.addrStatus p.obj

/-- IN_WINDOW of a HEAT or HV tile (R352, R356). -/
def State.inWindow (s : State) (k : Nat) : Bool :=
  if s.tMode k = 5 then (s.heat k).inWindow
  else (List.range 3).all (fun j => s.legF k j 0 1 != 1 || !(s.leg (4 * k + j)).on || (s.leg (4 * k + j)).inWindow)

/-- The object is enabled: a group with the group that contains it; a DMA channel while it is IDLE or RUNNING (R162). -/
def State.isEnabled (s : State) (o : Nat) : Bool :=
  let i := aIdx o
  if aCls o = clsDT then (s.tile i).prot != .disabled
  else if aCls o = clsGRP then (o :: s.parents 128 o).any (fun g => (s.group (aIdx g)).enabled)
  else if aCls o = clsSTN then (s.station i).enabled
  else (s.dma i).state == .idle || (s.dma i).state == .running

/-- No fault is latched on the object; for a station, on none of its beams either (R226). -/
def State.noFault (s : State) (o : Nat) : Bool :=
  !s.faultOn o && (aCls o != clsSTN || (List.range 32).all (fun b => !s.faultOn (obj clsBEAM (32 * aIdx o + b))))

/-- A condition holds for one object (Table 5-4); for one that is not there it is false (R105). (DEDUCED: assumption 21) -/
def State.condOne (s : State) (o cond : Nat) : Bool :=
  s.objHere o && (
    if cond = 1 then s.noFault o
    else if cond = 2 then s.isEnabled o
    else if cond = 3 then s.stnLocked (aIdx o)
    else if cond = 4 then s.inWindow (aIdx o)
    else if cond = 5 then s.atTargetOne o
    else if cond = 6 then !s.video.ilkA && !s.video.ilkB
    else !s.participates o)

/-- A precondition is true: for a group, for it and for every member (R105, R323). -/
def State.preTrue (s : State) (p : Pre) : Bool := (s.span p.obj).all (fun o => s.condOne o p.cond)

/-- The mask of the records that are false at the end of phase 3 (R106). -/
def State.preMask (s : State) (ps : List Pre) : Nat :=
  ps.zipIdx.foldl (fun m e => if s.judged.preTrue e.1 then m else m + 2 ^ e.2) 0

/-! ### Applying an action -/

/-- Apply an action in phase 4. An object that has left service, or has become a member of another group, is passed over, and
the action counts as applied (R103). `tk` is the ticket whose entry the action stands in. (DEDUCED: assumption 21) -/
def State.applyAction (s : State) (tk : Option Idx) (a : Action) : State :=
  let i := aIdx a.target
  if a.kind = 1 then (if (s.paramStatus a.target).isEmpty then s.applyParam a.target a.value else s)
  else if !s.objHere a.target || s.toMember a then s
  else if a.kind = 2 then (if (s.staging a.table).inst = some i then s.commitTable a.table i else s)
  else if a.kind = 3 then
    (if aCls a.target = clsSTN then s.updStation i (fun t => { t with outOn := bit a.value 0 })
     else (s.axisTiles a.target).foldl (fun u k => u.outputEnable k a.value) s)
  else if a.kind = 4 then s.profileStart a.target
  else match tk with
    | some k => s.updStation i (fun t => { t with starting := t.starting ++ [(k, s.tempo)] })
    | none => s

/-- Apply actions in order. -/
def State.applyActions (s : State) (tk : Option Idx) (as : List Action) : State :=
  as.foldl (fun u a => u.applyAction tk a) s

/-- A slot castle's action meets what a sealed sheet has locked (R107). (DEDUCED: assumption 21) -/
def State.meetsLock (s : State) (a : Action) : Bool :=
  if a.kind = 1 then s.writeLocked a.target
  else if a.kind = 2 then tableLocked a.table && s.participates a.target
  else (s.span a.target).any s.participates

/-! ### Arming -/

/-- The castles that an arming is compared with (R108): trigger and actions of every armed slot, and of every BASE entry of an
ARMED or SEALED ticket. -/
def State.armedCastles (s : State) : List (Nat × Int × List Action) :=
  (s.sheets.castles.filter (fun e => e.2.state == 2)).map (fun e => (e.2.basis, e.2.trigger, e.2.actions))
    ++ (s.sheets.tickets.filter (fun e => e.2.state == 2 || e.2.state == 3)).flatMap (fun e =>
      (e.2.entries.filter (fun x => !x.afterFeed)).map (fun x => (e.2.basis, e.2.feed + x.offset, x.actions)))

/-- A castle conflicts with an armed one (R108). -/
def State.conflicts (s : State) (basis : Nat) (trigger : Int) (as : List Action) : Bool :=
  s.armedCastles.any (fun c => c.1 == basis && c.2.1 == trigger && c.2.2.any (fun b => as.any (fun a => s.sameThing a b)))

/-- The refusals of the TABLE_COMMIT and group checks of arming slot `slot` or ticket `tk` (R103), each with the action's
position; a staging copy is busy while another castle or ticket holds it. (DEDUCED: assumption 21) -/
def State.armRefs (s : State) (slot tk : Option Nat) (as : List Action) : List Ref :=
  as.zipIdx.flatMap (fun e =>
    (if e.1.kind = 2 then
      ((s.commitRef e.1.table (aIdx e.1.target) (e.1.value % 2 ^ 32) slot tk false).map (fun r => { r with index := e.2 })).toList
     else [])
    ++ refuse (s.toMember e.1) stGROUP_MEMBER e.2)

/-- Disarm a slot (R110). -/
def State.disarmSlot (s : State) (slot outcome : Nat) : State :=
  s.updCastle slot (fun c => { c with
    state := 1, outcome := outcome, basis := 0, trigger := 0, pres := [], reachedAt := none })

/-- Entry into Safe-hold, Configure or Dormant disarms every ARMED slot (R110). -/
def State.disarmSlots (s : State) : State :=
  (s.sheets.castles.filter (fun e => e.2.state == 2)).foldl (fun u e => u.disarmSlot e.1 3) s

/-! ### The end of an arming and of a sealed sheet -/

/-- The ticket returns to BUILT with its entries kept, and releases timeline memory and lane queues. -/
def State.releaseTicket (s : State) (tk : Idx) : State :=
  let s1 := ((s.ticket tk).stations).foldl (fun u n => if (u.ticket tk).state = 2 then u.unqueue n tk else u) s
  let s2 := s1.updTicket tk (fun t => { t with
    state := 1, resident := false, held := [], opened := none, fell := none, evalAt := none
    entries := t.entries.map (fun e => { e with done := false, reachedAt := none })
    images := t.images.map (fun i => { i with hdr := [], raw := [] }) })
  { s2 with sheets := { s2.sheets with queue := s2.sheets.queue.filter (fun q => q != tk) } }

/-- A ticket falls, and does not slip. -/
def State.fall (s : State) (tk : Idx) (mask outcome : Nat) : State :=
  ((s.releaseTicket tk).updTicket tk (fun t => { t with sealOutcome := 2, fallMask := mask })).raise
    { code := 0x0211, obj := obj clsTK tk, fields := [obj clsTK tk, mask, outcome] }

/-- Entry into Configure, Standby, Safe-hold or Dormant disarms every ARMED ticket as a mode fall (R121). -/
def State.disarmTickets (s : State) : State := s.armedTks.foldl (fun u k => u.fall k 1 3) s

/-- The payload of a sheet report (Table 5-12). -/
def Ticket.report (t : Ticket) (outcome : Nat) : Bytes :=
  toLE 4 t.serial ++ toLE 1 outcome ++ toLE 1 t.spoil
    ++ toLE 1 (b2n (t.faultCount != 0) + 2 * b2n (t.slips != 0)) ++ toLE 1 t.slips ++ toLE 8 t.sealTempo ++ toLE 8 t.feedTempo
    ++ toLE 2 t.missed ++ toLE 2 t.firstMissed ++ toLE 2 t.firstFault ++ toLE 2 t.faultCount
    ++ (List.range 8).map (fun n => BitVec.ofNat 8 (Map.get (fun _ => 0) t.causes n)) ++ toLE 4 0
    ++ (List.range 8).flatMap (fun n => toLE 4 (Map.get (fun _ => 0) t.blank n)) ++ List.replicate 28 0

/-- A sealed sheet ends: its images end, its report is queued, and it returns to BUILT. -/
def State.endSheet (s : State) (tk : Idx) (outcome : Nat) : State :=
  let s1 := s.endImages tk
  let s2 := { s1 with sheets := { s1.sheets with
    reports := s1.sheets.reports ++ [({ ticket := tk, tempo := s.tempo, payload := (s1.ticket tk).report outcome } : Report)] } }
  s2.releaseTicket tk

/-- Safe-hold ends a sealed sheet: ABORTED, with every present station spoiled (R36). (DEDUCED: assumption 22) -/
def State.abortSheet (s : State) (tk : Idx) : State :=
  ((List.range s.nSt).foldl (fun u n => u.spoil tk n 6 noLine) s).endSheet tk 2

/-- Safe-hold ends every sealed sheet. -/
def State.abortSheets (s : State) : State := s.sealedTks.foldl (fun u k => u.abortSheet k) s

/-- Count an entry that was not fired (R123, R124). -/
def Ticket.miss (t : Ticket) (i : Nat) : Ticket :=
  { t with missed := satAdd 16 t.missed 1, firstMissed := if t.missed = 0 then i else t.firstMissed }

end Sys2Proof.Machine
end

