-- ==== Sys2Proof/Machine/Modes.lean ====
section
/-!
DEFINITION. Modes, the shared part: a mode change with what it ends (R37, R121, R401), what Standby permits (Table 2-1),
Safe-hold (R36, R384, R430), the watchdog (R37), and the run-out of the press (R385, Table 2-2).
-/
namespace Sys2Proof.Machine

/-- The code of a mode (Table 2-1). -/
def Mode.code : Mode → Nat
  | .dormant => 0 | .configure => 1 | .standby => 2 | .warmUp => 3 | .ready => 4 | .print => 5 | .runOut => 6 | .safeHold => 7

/-- The mode of a code. -/
def modeOf (c : Nat) : Mode :=
  match c with
  | 0 => .dormant | 1 => .configure | 2 => .standby | 3 => .warmUp | 4 => .ready | 5 => .print | 6 => .runOut | _ => .safeHold

/-- Change the mode: 0x0c10 is raised and test mode ends (R401). The cause codes of 0x0c10 are not given: a free value. `hw`
marks a hardware transition (R35). (DESIGN CHOICE: assumption 17) -/
def State.toMode (s : State) (m : Mode) (hw : Bool) : State :=
  if s.md.mode = m then s
  else
    let (c, s1) := s.fresh
    ({ s1 with md := { s1.md with mode := m, hwAt := if hw then some s.tempo else s1.md.hwAt } }.endTests).raise
      { code := 0x0c10, fields := [s.md.mode.code, m.code, c] }

/-! ### Standby -/

/-- The axes of the device: one for every tile or group of tiles that has a mode. -/
def State.allAxes (s : State) : List Nat := uniq (((s.units clsDT).filter (fun k => s.tMode k != 0)).map (fun k => s.axisOf k))

/-- A tile's outputs may be on. -/
def State.tileLive (s : State) (k : Nat) : Bool :=
  (s.tile k).prot != .disabled && (s.tile k).prot != .latched

/-- Standby permits no motion, no HV output and no heater power (Table 2-1): every tile that is on is disabled. -/
def State.restDrive (s : State) : State :=
  let live := (s.units clsDT).filter s.tileLive
  let s1 := (s.allAxes.filter (fun o => (s.axisTiles o).any s.tileLive && s.isMotor (s.leadOf o))).foldl (fun u o => u.restAxis o) s
  let s2 := live.foldl (fun u k => u.disableTile k) s1
  (List.range 128).foldl (fun u g => if (u.group g).enabled then u.updGroup g (fun x => { x with enabled := false }) else u) s2

/-- Firmware writes the memories of R395 before the transition from Configure, and again those that were in test mode
(R401). (DESIGN CHOICE: assumption 16) -/
def State.writeMems (s : State) : State :=
  ((List.range 22).filter (fun i => decide (i ≤ 10 ∨ 17 ≤ i) || (i == 11 && (s.mem i).words != []))).foldl
    (fun u i => u.updMem i (fun m => { m with words := [], written := true })) s

/-- Enter Standby: every endpoint is sent its whole set (R260). -/
def State.enterStandby (s : State) (hw : Bool) : State :=
  let s1 := if s.md.mode = .configure then s.writeMems else s.restDrive
  ((s1.units clsDT).foldl (fun u k => u.startCfg k 0) s1.disarmTickets).toMode .standby hw

/-- Every motion, HV and heater output is off (Table 2-2). -/
def State.outputsOff (s : State) : Bool :=
  (s.units clsDT).all (fun k =>
    !s.tileLive k
    || (if s.tMode k = 3 then (s.poly k).stage == .off || (s.poly k).stage == .faulted
        else if s.tMode k = 5 then !(s.tile k).outOn
        else if s.tMode k = 6 then (List.range 3).all (fun j => !(s.leg (4 * k + j)).on)
        else match (s.axis (s.axisOf k)).state with
          | .idle | .deferred | .faulted | .held => true
          | _ => false))

/-- The outputs begin to go off: axes stop, heaters and HV outputs are switched off. -/
def State.stopAll (s : State) : State :=
  let s1 := (s.allAxes.filter (fun o => s.isMotor (s.leadOf o) && (s.axisTiles o).any s.tileLive)).foldl (fun u o => u.stopObj o) s
  ((s.units clsDT).filter (fun k => s.tMode k == 5 || s.tMode k == 6)).foldl (fun u k => u.outputEnable k 0) s1

/-! ### Safe-hold (R36, R384, R385) -/

/-- The axis, or the heater, is flagged to run out: the flags of its lead tile (R384, R357). -/
def State.runsOut (s : State) (o : Nat) : Bool :=
  let k := s.leadOf o
  (s.axisTiles o).any s.tileLive
    && ((s.isMotor k && (s.dt k 0x001 == 1 || s.dt k 0x002 == 1)) || (s.tMode k == 5 && s.dt k 0x002 == 1))

/-- The tiles at the entry into Safe-hold: those flagged begin their run-out programs, and every other one turns off in two
steps. -/
def State.holdTiles (s : State) : State :=
  let s1 := s.allAxes.foldl (fun u o =>
    if u.runsOut o then (if (u.tile (u.leadOf o)).runout.isSome then u else u.startRunout o)
    else (u.axisTiles o).foldl (fun v k => if v.canTurnOff k then v.twoStep k false 0 else v) u) s
  s1.refresh (s1.units clsDT)

/-- 0x0c12 carries the lowest code of the causes that fall in the tempo of the entry (R430). -/
def State.lowerCause (s : State) (code : Nat) : State :=
  { s with host := { s.host with backlog := s.host.backlog.map (fun e =>
      if e.code = 0x0c12 ∧ e.tempo = s.tempo then { e with fields := e.fields.map (fun f => min f code) } else e) } }

/-- Enter Safe-hold for an event, or at the host's request: sealed sheets are aborted, and slots and tickets disarmed. (DESIGN CHOICE: assumption 17; DEDUCED: assumption 18) -/
def State.enterSafeHold (s : State) (code : Nat) (hw : Bool := true) : State :=
  match s.md.mode with
  | .warmUp | .ready | .print | .runOut =>
    let s1 := s.abortSheets.disarmTickets.disarmSlots
    let s2 := ({ s1 with md := { s1.md with pend := none } }.toMode .safeHold hw).raise
      { code := 0x0c12, fields := [code], sheet := s.anySealed }
    s2.holdTiles
  | .safeHold => if hw then s.lowerCause code else s
  | _ => s

/-- The watchdog has expired and no sheet remains sealed (R37). -/
def State.watchdogHold (s : State) : State :=
  if s.md.wdExpired && s.sealedTks.isEmpty then s.enterSafeHold 0x0c11 else s

/-- The supervisor watchdog expires (R37): 0x0c11, and FAULT_HW.WATCHDOG with vector 0 (Table 3-20). (DEDUCED: assumption 40) -/
def State.watchdogExpires (s : State) : State :=
  if s.md.wdExpired then s
  else
    let s1 := { s with watchdog := true, md := { s.md with wdExpired := true } }.signal 0
    (s1.raise { code := 0x0c11, fields := [s.md.wdMs], latch := [objDEV] }).watchdogHold

/-! ### Run-out of the press -/

/-- The axes whose lead tile is flagged EVACUATE. -/
def State.evacuees (s : State) : List Nat :=
  s.allAxes.filter (fun o => s.isMotor (s.leadOf o) && s.dt (s.leadOf o) 0x001 == 1 && (s.axisTiles o).any s.tileLive)

/-- Every EVACUATE axis has finished its run-out program. -/
def State.runoutsDone (s : State) : Bool := s.evacuees.all (fun o => (s.tile (s.leadOf o)).runout.isNone)

/-- The last sealed sheet has passed its exit castle: Print returns to Ready, Run-out starts its programs, and an expired
watchdog now holds. (DEDUCED: assumption 18) -/
def State.afterExit (s : State) : State :=
  if !s.sealedTks.isEmpty then s
  else if s.md.wdExpired then s.watchdogHold
  else if s.md.mode = .print then s.toMode .ready false
  else if s.md.mode = .runOut then s.evacuees.foldl (fun u o => u.startRunout o) s
  else s

/-- Leave Run-out for its exit target. -/
def State.leaveRunOut (s : State) : State :=
  if s.md.exitTarget = .standby then s.enterStandby false else s.toMode s.md.exitTarget false

end Sys2Proof.Machine
end

