-- ==== Sys2Proof/Machine/Sheets.lean ====
section
/-!
DEFINITION. Castle slot and ticket commands (Table 4-13, R100 to R103, R110 to R115, R433).
-/
namespace Sys2Proof.Machine

/-! ### Slots -/

/-- A slot argument, with the bytes after it reserved. -/
def slotArg (m : Msg) : List Ref := m.argRes 0xffffffffffffff00 ++ refuse (decide (63 < m.argN 8 1)) stBAD_ARG

/-- The list of actions with the records of a message: each is checked against those before it (R102). -/
def State.stageRefs (s : State) (slot : Nat) (rs : List Bytes) : List Ref :=
  let old := (s.castle slot).actions
  refuseEach rs (fun i b =>
    let before := old ++ (rs.take i).map actionOf
    s.actionStatus b ++ (if before.any (fun a => s.sameThing a (actionOf b)) then [stCONFLICT] else [])
      ++ (if 256 ≤ before.length then [stNO_RESOURCE] else []))

/-- CASTLE_STAGE. -/
def execCastleStage (m : Msg) (s : State) : Host.Outcome State Fault Refusal :=
  .next (
    let s := s.enter inDirect
    let slot := m.argN 8 1
    let n := m.payload.length
    let rs := records 16 m.payload
    s.command 0x0400 m
      (refuse (n == 0 || n % 16 != 0 || decide (1008 < n)) stMALFORMED ++ slotArg m
        ++ refuse ((s.castle slot).state == 2) stWRONG_STATE ++ s.stageRefs slot rs)
      (fun r u =>
        let u1 := u.updCastle slot (fun c => { c with state := 1, actions := c.actions ++ rs.map actionOf })
        u1.ok r (toLE 2 (u1.castle slot).actions.length)))

/-- CASTLE_ARM. -/
def execCastleArm (m : Msg) (s : State) : Host.Outcome State Fault Refusal :=
  .next (
    let s := s.enter inDirect
    let slot := m.argN 8 1
    let n := m.payload.length
    let basis := m.pay 0 1
    let trig := triggerOf basis (m.pay 8 8)
    let ps := records 8 (m.payload.drop 16)
    let as := (s.castle slot).actions
    s.command 0x0401 m
      (refuse (decide (n < 16) || n % 8 != 0 || decide (144 < n)) stMALFORMED ++ slotArg m
        ++ refuse (decide (8 < basis) || m.pay 1 7 != 0) stBAD_ARG
        ++ s.inModes [.standby, .warmUp, .ready, .print, .runOut]
        ++ refuseEach ps (fun _ b => s.preStatus b) ++ refuse ((s.castle slot).state != 1) stWRONG_STATE
        ++ refuseEach as (fun _ a => if a.kind = 5 then [stWRONG_STATE] else [])
        ++ s.armRefs (some slot) none as ++ refuse (s.conflicts basis trig as) stCONFLICT ++ refuse (s.reached basis trig) stTOO_LATE)
      (fun r u => (u.updCastle slot (fun c => { c with
        state := 2, basis := basis, trigger := trig, pres := ps.map preOf, reachedAt := none })).ok r))

/-- CASTLE_DISARM. -/
def execCastleDisarm (m : Msg) (s : State) : Host.Outcome State Fault Refusal :=
  .next (
    let s := s.enter inDirect
    let slot := m.argN 8 1
    let c := s.castle slot
    let late := if c.state = 2 then c.reachedAt.isSome || s.reached c.basis c.trigger else c.outcome == 1 || c.outcome == 2
    s.command 0x0402 m
      (m.plen 0 ++ slotArg m ++ refuse (c.state != 2 && !late) stWRONG_STATE ++ refuse late stTOO_LATE)
      (fun r u => (u.disarmSlot slot 3).ok r))

/-- CASTLE_CLEAR: accepted in STAGED (Table 5-1). (DESIGN CHOICE: assumption 11) -/
def execCastleClear (m : Msg) (s : State) : Host.Outcome State Fault Refusal :=
  .next (
    let s := s.enter inDirect
    let slot := m.argN 8 1
    s.command 0x0403 m (m.plen 0 ++ slotArg m ++ refuse ((s.castle slot).state != 1) stWRONG_STATE)
      (fun r u => (u.setCastle slot {}).ok r))

/-- CASTLE_STATUS (Table 5-15). -/
def execCastleStatus (m : Msg) (s : State) : Host.Outcome State Fault Refusal :=
  .next (
    let s := s.enter inDirect
    let c := s.castle (m.argN 8 1)
    s.command 0x0404 m (m.plen 0 ++ slotArg m)
      (fun r u => u.ok r (toLE 1 c.state ++ toLE 1 c.outcome ++ toLE 2 c.actions.length ++ toLE 1 c.basis
        ++ toLE 1 c.pres.length ++ toLE 2 0 ++ toLE 8 (wrapBits 64 c.trigger))))

/-! ### Building a ticket (R112, R113) -/

/-- Castle entries, actions, precondition entries and image entries of a ticket. -/
def Ticket.nActions (t : Ticket) : Nat := t.actions.length
def Ticket.nPres (t : Ticket) : Nat := (t.entries.map (fun e => e.pres.length)).foldl (· + ·) 0

/-- A sum over every ticket but one. -/
def State.othersSum (s : State) (tk : Nat) (f : Ticket → Nat) : Nat :=
  ((s.sheets.tickets.filter (fun e => e.1 != tk)).map (fun e => f e.2)).foldl (· + ·) 0

/-- What holds of a castle entry record. -/
def State.castleEntry (s : State) (b : Bytes) : TEntry :=
  { afterFeed := leAt b 0 1 == 2, feed := bit (leAt b 2 1) 0, exit := bit (leAt b 2 1) 1, spoil := leAt b 3 1
    offset := sext 64 (leAt b 8 8), actions := (s.castle (leAt b 1 1)).actions }

/-- Statuses of a castle entry. -/
def State.castleEntryStatus (s : State) (tk : Nat) (t : Ticket) (b : Bytes) : List Nat :=
  let slot := leAt b 1 1
  let e := s.castleEntry b
  if 4 ≤ leAt b 2 1 ∨ leAt b 4 4 ≠ 0 then [stBAD_ARG]
  else if 63 < slot ∨ (e.afterFeed ∧ e.offset < 0) then [stBAD_VALUE]
  else
    (if (s.castle slot).state != 1 then [stWRONG_STATE] else [])
      ++ (if e.actions.any s.toMember then [stGROUP_MEMBER] else [])
      ++ (if 1024 ≤ t.entries.length ∨ 16384 < t.nActions + e.actions.length
            ∨ 32768 ≤ s.othersSum tk (fun x => x.entries.length) + t.entries.length
            ∨ 262144 < s.othersSum tk Ticket.nActions + t.nActions + e.actions.length then [stNO_RESOURCE] else [])

/-- Statuses of a precondition entry: it attaches to the nearest castle entry before it. -/
def State.preEntryStatus (s : State) (t : Ticket) (b : Bytes) : List Nat :=
  match t.entries.getLast? with
  | none => [stBAD_ARG]
  | some e =>
    if leAt b 1 7 ≠ 0 ∨ e.feed ∨ e.exit ∨ 16 ≤ e.pres.length then [stBAD_ARG] else s.preStatus (bytesAt b 8 8)

/-- Statuses of an image entry (R113, R159). -/
def State.imageEntryStatus (s : State) (tk : Nat) (t : Ticket) (b : Bytes) : List Nat :=
  let n := leAt b 1 1
  if leAt b 2 2 ≠ 0 ∨ leAt b 6 2 ≠ 0 then [stBAD_ARG]
  else
    (if n ≤ 7 ∧ !s.inService clsSTN n then [stNOT_PRESENT] else [])
      ++ (if 7 < n ∨ leAt b 8 8 % 4096 ≠ 0 ∨ !s.storeRange (leAt b 8 8) 1 ∨ inFirmware (leAt b 8 8) then [stBAD_VALUE] else [])
      ++ (if 256 ≤ (t.images.filter (fun i => i.station == n)).length
            ∨ 16384 ≤ s.othersSum tk (fun x => x.images.length) + t.images.length then [stNO_RESOURCE] else [])

/-- Append an entry record to a ticket under construction, with the statuses that refuse it. -/
def State.buildEntry (s : State) (tk : Nat) (t : Ticket) (b : Bytes) : Ticket × List Nat :=
  let type := leAt b 0 1
  if type = 1 ∨ type = 2 then ({ t with entries := t.entries ++ [s.castleEntry b] }, s.castleEntryStatus tk t b)
  else if type = 4 then
    ({ t with entries := match t.entries.getLast? with
        | some e => t.entries.dropLast ++ [{ e with pres := e.pres ++ [preOf (bytesAt b 8 8)] }]
        | none => [] }, s.preEntryStatus t b)
  else if type = 3 then
    ({ t with images := t.images ++ [{ station := leAt b 1 1, strip := leAt b 4 2, addr := leAt b 8 8 }] },
      s.imageEntryStatus tk t b)
  else (t, [stBAD_ARG])

/-- Build entries in payload order: the ticket, and the refusals with the position of each record. -/
def State.buildEntries (s : State) (tk : Nat) : Nat → Ticket → List Bytes → Ticket × List Ref
  | _, t, [] => (t, [])
  | i, t, b :: bs =>
    let (t1, cs) := s.buildEntry tk t b
    let (t2, rs) := s.buildEntries tk (i + 1) t1 bs
    (t2, cs.map (fun c => { code := c, index := i }) ++ rs)

/-- A ticket argument, with the bytes after it reserved. -/
def ticketArg (m : Msg) : List Ref := m.argRes 0xffffffffffff0000 ++ refuse (decide (255 < m.argN 8 2)) stBAD_ARG

/-- TICKET_BUILD. (DESIGN CHOICE: assumption 11) -/
def execTicketBuild (m : Msg) (s : State) : Host.Outcome State Fault Refusal :=
  .next (
    let s := s.enter inDirect
    let tk := m.argN 8 2
    let n := m.payload.length
    let t := s.ticket tk
    let built := s.buildEntries tk 0 t (records 16 m.payload)
    s.command 0x0410 m
      (refuse (n == 0 || n % 16 != 0 || decide (1008 < n)) stMALFORMED ++ ticketArg m
        ++ refuse (decide (3 ≤ t.state)) stSHEET_LOCKED ++ refuse (t.state == 2) stWRONG_STATE ++ built.2)
      (fun r u =>
        let t1 := { built.1 with state := 1 }
        (u.setTicket tk t1).ok r (toLE 2 t1.entries.length ++ toLE 2 t1.nPres ++ toLE 2 t1.images.length ++ toLE 2 0
          ++ toLE 4 t1.nActions)))

/-! ### Arming a ticket (R114, R115) -/

/-- The smallest offset of a BASE entry. -/
def Ticket.minBase (t : Ticket) : Int :=
  ((t.entries.filter (fun e => !e.afterFeed)).map (fun e => e.offset)).foldl min 0

/-- Every image entry's station is the target of an IMAGE_START, and its strips are 0 to n - 1, each once (R115). -/
def Ticket.imagesOk (t : Ticket) : Bool :=
  t.stations.all (fun n =>
    let strips := (t.images.filter (fun i => i.station == n)).map (fun i => i.strip)
    t.imaging.contains n && (List.range strips.length).all strips.contains)

/-- Exactly one FEED entry, BASE with offset 0, and exactly one EXIT entry (R115). -/
def Ticket.shapeOk (t : Ticket) : Bool :=
  let feeds := t.entries.filter (fun e => e.feed)
  feeds.length == 1 && feeds.all (fun e => !e.afterFeed && e.offset == 0) && (t.entries.filter (fun e => e.exit)).length == 1
    && t.imagesOk

/-- TICKET_SEAL_ARM. (DESIGN CHOICE: assumption 11) -/
def execTicketSealArm (m : Msg) (s : State) : Host.Outcome State Fault Refusal :=
  .next (
    let s := s.enter inDirect
    let tk := m.argN 8 2
    let n := m.payload.length
    let t := s.ticket tk
    let basis := m.pay 0 1
    let feed := triggerOf basis (m.pay 8 8)
    let off := sext 64 (m.pay 16 8)
    let win := m.pay 24 4
    let span := m.pay 28 4
    let ps := records 8 (m.payload.drop 32)
    s.command 0x0411 m
      (refuse (decide (n < 32) || n % 8 != 0 || decide (160 < n)) stMALFORMED ++ ticketArg m
        ++ refuse (decide (8 < basis) || m.pay 1 7 != 0 || !t.shapeOk) stBAD_ARG
        ++ s.inModes [.warmUp, .ready, .print, .runOut]
        ++ refuse (decide (0 ≤ off) || decide (500000 < win) || decide (span < 16)) stBAD_VALUE
        ++ refuseEach ps (fun _ b => s.preStatus b) ++ refuse (t.state != 1) stWRONG_STATE
        ++ (s.armRefs none (some tk) t.actions).map (fun x => { x with index := noIndex })
        ++ refuse ((t.entries.filter (fun e => !e.afterFeed)).any (fun e => s.conflicts basis (feed + e.offset) e.actions)) stCONFLICT
        ++ refuse (s.reached basis (feed + off) || (basis == 0 && decide (t.minBase - (off + win) < 1000000))) stTOO_LATE)
      (fun r u =>
        let u1 := u.updTicket tk (fun t => { t with
          state := 2, sealOutcome := 0, basis := basis, feed := feed, sealOff := off, window := win, maxSpan := span
          extra := ps.map preOf, resident := false, slips := 0, fallMask := 0, opened := none, evalAt := none, lastMask := 0 })
        { u1 with sheets := { u1.sheets with queue := u1.sheets.queue ++ [tk] } }.ok r))

/-- The seal point of a ticket has been reached (R114). -/
def State.sealReached (s : State) (tk : Nat) : Bool :=
  let t := s.ticket tk
  t.opened.isSome || s.reached t.basis (t.feed + t.sealOff)

/-- TICKET_DISARM. -/
def execTicketDisarm (m : Msg) (s : State) : Host.Outcome State Fault Refusal :=
  .next (
    let s := s.enter inDirect
    let tk := m.argN 8 2
    let t := s.ticket tk
    s.command 0x0412 m
      (m.plen 0 ++ ticketArg m ++ refuse (decide (t.state < 2)) stWRONG_STATE ++ refuse (decide (3 ≤ t.state)) stSHEET_LOCKED
        ++ refuse (t.state == 2 && s.sealReached tk) stTOO_LATE)
      (fun r u => ((u.releaseTicket tk).updTicket tk (fun t => { t with sealOutcome := 3 })).ok r))

/-- TICKET_FREE. -/
def execTicketFree (m : Msg) (s : State) : Host.Outcome State Fault Refusal :=
  .next (
    let s := s.enter inDirect
    let tk := m.argN 8 2
    let t := s.ticket tk
    s.command 0x0413 m
      (m.plen 0 ++ ticketArg m ++ refuse (t.state == 2) stWRONG_STATE ++ refuse (decide (3 ≤ t.state)) stSHEET_LOCKED)
      (fun r u => (u.setTicket tk {}).ok r))

/-- TICKET_STATUS (Table 5-16). -/
def execTicketStatus (m : Msg) (s : State) : Host.Outcome State Fault Refusal :=
  .next (
    let s := s.enter inDirect
    let t := s.ticket (m.argN 8 2)
    s.command 0x0414 m (m.plen 0 ++ ticketArg m)
      (fun r u => u.ok r (toLE 1 t.state ++ toLE 1 t.sealOutcome ++ toLE 2 t.entries.length ++ toLE 2 t.nPres
        ++ toLE 2 t.images.length ++ toLE 4 t.nActions ++ toLE 1 (b2n t.resident) ++ toLE 1 t.slips ++ toLE 2 t.fallMask
        ++ toLE 8 (if t.state < 2 then 0 else wrapBits 64 t.feed))))

end Sys2Proof.Machine
end

