-- ==== Sys2Proof/Machine/SealRows.lean ====
section
/-!
DEFINITION. What castles and tickets do by themselves: slot triggers (R106, R107), residency (R115), the seal (R117 to R119),
flag falls and slips (R120), the timeline of a sealed sheet (R122 to R124), its exit (R123) and its overrun (R125).
-/
namespace Sys2Proof.Machine

/-- CASTLE_TRIGGER: an armed slot's trigger is reached in this tempo. -/
def execCastleTrigger (slot : Idx) (s : State) : Host.Outcome State Fault Refusal :=
  .next (
    let s := s.enter (inSlot slot)
    let c := s.castle slot
    if decide (slot < 64) && c.state == 2 && s.firesNow c then
      let mask := s.preMask c.pres + (if c.actions.any s.judged.meetsLock then 2 ^ 16 else 0)
      if mask = 0 then (s.applyActions none c.actions).disarmSlot slot 1
      else (s.disarmSlot slot 2).raise { code := 0x0201, fields := [slot, mask] }
    else s)

/-! ### Residency (R115, R27) -/

/-- Castle entries and actions of the tickets in timeline memory. -/
def State.memoryUsed (s : State) : Nat × Nat :=
  (s.sheets.tickets.filter (fun e => e.2.resident)).foldl (fun a e => (a.1 + e.2.entries.length, a.2 + e.2.nActions)) (0, 0)

/-- A ticket fits in the timeline memory then free. -/
def State.fits (s : State) (tk : Nat) : Bool :=
  let t := s.ticket tk
  decide (s.memoryUsed.1 + t.entries.length ≤ 16384) && decide (s.memoryUsed.2 + t.nActions ≤ 131072)

/-- TICKET_RESIDENT: firmware makes the first waiting ticket that fits resident; it passes over those that do not. -/
def execTicketResident (tk : Idx) (s : State) : Host.Outcome State Fault Refusal :=
  .next (
    if s.md.boot = .running ∧ (s.sheets.queue.filter s.fits).head? = some tk ∧ (s.ticket tk).state = 2 then
      let s1 := s.updTicket tk (fun t => { t with resident := true })
      { s1 with sheets := { s1.sheets with queue := s1.sheets.queue.filter (fun q => q != tk) } }
    else s)

/-! ### The seal (R117 to R119) -/

/-- The bytes of a strip container, from its header (R183). -/
def Image.size (i : Image) : Nat := 32 + leAt i.raw 8 3 + leAt i.raw 11 3 + leAt i.raw 14 3 + leAt i.raw 17 3

/-- A page holds a byte of the container. -/
def Image.onPage (i : Image) (p : Nat) : Bool := decide (i.addr / 4096 ≤ p) && decide (p ≤ (i.addr + i.size - 1) / 4096)

/-- LEAD: the smallest BASE offset is at least 2 ms away. -/
def State.leadOk (s : State) (t : Ticket) : Bool :=
  let at_ := t.feed + t.minBase
  if t.basis = 0 then decide (1000000 ≤ at_ - (s.tempo : Int))
  else
    let me := t.basis - 1
    let rate := s.meRate me
    decide (rate ≤ 0 ∨ -((-(rate * 1000000)) / 4294967296) ≤ at_ - (s.enc me).pos)

/-- The 32 bytes that stand at a container's address. -/
def State.storeHeader (s : State) (a : Nat) : Bytes := (s.storeRead a 32 1).1

/-- The pages of a strip that has no valid header yet are those of the header that stands in the store. -/
def State.stripOf (s : State) (i : Image) : Image := if i.raw = [] then { i with raw := s.storeHeader i.addr } else i

/-- FENCE: no page of the ticket's strips is dirty. -/
def State.fenceOk (s : State) (t : Ticket) : Bool :=
  let is := t.images.map s.stripOf
  s.store.pages.all (fun e => e.2.kind == 0 || is.all (fun i => !i.onPage e.1))

/-- HEADERS: every strip's header is valid for the four ranks of its station. -/
def Ticket.headersOk (t : Ticket) : Bool :=
  t.images.all (fun i => (List.range 4).all (fun r => Map.get (fun _ => none) i.hdr r == some 0))

/-- PREFILL: the lanes of each imaging station hold the strips, and the prefill depth is met. -/
def State.prefillOk (s : State) (tk : Nat) : Bool :=
  let t := s.ticket tk
  t.imaging.all (fun n =>
    ((s.station n).stripsOf tk).length == (t.images.filter (fun i => i.station == n)).length && s.prefilled n tk)

/-- The preconditions of Table 5-9, bit 0 first, judged on the end of phase 3 (R117); the mode counts as it stands, and so do
the tickets sealed earlier in the tempo (R106, Table 5-9). -/
def State.sealConds (s : State) (tk : Nat) : List Bool :=
  let j := s.judged
  let t := j.ticket tk
  let os := j.holds t
  [ s.md.mode == .ready || s.md.mode == .print,
    !j.md.wdExpired,
    j.leadOk t,
    t.resident && decide (s.sealedTks.length < 64),
    j.fenceOk t,
    t.headersOk,
    j.prefillOk tk,
    t.imaging.all (fun n => j.inService clsSTN n && j.stnLocked n),
    os.all (fun o => aCls o != clsDT || (j.tMode (aIdx o) != 5 && j.tMode (aIdx o) != 6) || j.condOne o 4),
    os.all j.noFault,
    t.imaging.isEmpty || (!j.video.ilkA && !j.video.ilkB),
    t.extra.all j.preTrue ]

/-- The mask of the preconditions that are false. -/
def State.sealMask (s : State) (tk : Nat) : Nat :=
  (s.sealConds tk).zipIdx.foldl (fun m e => if e.1 then m else m + 2 ^ e.2) 0

/-- Seal a ticket: it participates from this tempo (R119), its strips move up in the lanes' queues (R202), and Ready becomes
Print. `evals` counts the evaluations of its window. -/
def State.sealTicket (s : State) (tk evals : Nat) : State :=
  let t := s.ticket tk
  let n := (s.sheets.serial + 1) % 2 ^ 32
  let u : State := { s with sheets := { s.sheets with serial := n } }
  let s1 := u.setTicket tk { t with
    state := 3, sealOutcome := 1, serial := n, held := s.holds t, sealTempo := s.tempo, feedTempo := 0, spoil := 0, causes := []
    blank := [], missed := 0, firstMissed := 0xffff, firstFault := 0, faultCount := 0, opened := none, fell := none }
  let s2 := t.stations.foldl (fun u k => u.sealQueue k tk) s1
  let s3 := s2.raise { code := 0x0210, obj := obj clsTK tk, fields := [obj clsTK tk, n, evals] }
  if s3.md.mode = .ready then s3.toMode .print false else s3

/-- The memory instance of a timeline or action word: timeline memory (8) first, then action memory (9). -/
def timelineInst (a : Nat) : Nat × Nat := if a < 0x40000 then (8, a) else (9, a - 0x40000)

/-- The tempo in which the seal point of a ticket was reached (R104, R114). -/
def Ticket.sealAt (t : Ticket) : Option Tempo := if t.basis = 0 then some (t.feed + t.sealOff).toNat else t.opened

/-- The tempo is one of the ticket's evaluation window (R117). -/
def Ticket.inSealWindow (t : Ticket) (now : Tempo) : Bool := match t.sealAt with
  | some x => decide (x ≤ now ∧ now ≤ x + t.window)
  | none => false

/-- An uncorrectable error met before the seal takes the ticket out of timeline memory; firmware copies it again (Table 17-3,
reader 4), and its headers are read anew when it is resident again (R184). (DEDUCED: assumption 22) -/
def State.loseResidency (s : State) (tk : Nat) (ue : Option Nat) : State :=
  match ue with
  | none => s
  | some a =>
    let u := s.reportUe (timelineInst a).1 (timelineInst a).2 4 (obj clsTK tk)
    if (s.ticket tk).resident then
      let v := u.updTicket tk (fun t => { t with resident := false, images := t.images.map (fun i => { i with hdr := [] }) })
      { v with sheets := { v.sheets with queue := v.sheets.queue ++ [tk] } }
    else u

/-- SEAL_EVALUATION: the seal engine evaluates an ARMED ticket, once in each tempo of its window (R117). `ue`: its reads meet an
uncorrectable error, and the ticket loses residency, so that RESOURCE is false (Table 17-3, reader 4). (DEDUCED: assumption 22) -/
def execSealEvaluation (tk : Idx) (ue : Option Nat) (s : State) : Host.Outcome State Fault Refusal :=
  .next (
    let s := s.enter (inSeal tk)
    let t := s.ticket tk
    if decide (tk < 256) && t.state == 2 && t.inSealWindow s.tempo && t.evalAt != some s.tempo then
      let s1 := s.loseResidency tk ue
      let seen := s1.sealMask tk
      let mask := if ue.isSome then Nat.lor seen 8 else seen
      let s2 := s1.updTicket tk (fun t => { t with evalAt := some s.tempo, lastMask := mask })
      if mask = 0 then s2.sealTicket tk (s.tempo + 1 - t.sealAt.getD s.tempo) else s2
    else s)

/-! ### Flag fall (R117, R120) -/

/-- The tickets that a slip of `tk` moves: itself, and every ARMED ticket of its basis whose feed trigger is later. -/
def State.movers (s : State) (tk : Nat) : List Nat :=
  let t := s.ticket tk
  s.armedTks.filter (fun k => k == tk || ((s.ticket k).basis == t.basis && decide (t.feed < (s.ticket k).feed)))

/-- What a fall does (Table 5-10): 0 the pitch stays empty, 1 a slip, 2 a slip that is blocked, 3 a mode fall. -/
def State.slipOutcome (s : State) (tk mask : Nat) : Nat :=
  let t := s.ticket tk
  let pitch := s.par clsTK tk 0x001
  if bit mask 0 ∨ s.md.mode = .runOut then 3
  else if s.par clsTK tk 0x000 = 0 ∨ pitch = 0 then 0
  else if s.sealedTks.any (fun k => (s.ticket k).basis == t.basis && decide (t.feed < (s.ticket k).feed))
    || (s.movers tk).any (fun k => s.reached t.basis ((s.ticket k).feed + (pitch : Int) + (s.ticket k).sealOff)) then 2
  else 1

/-- Move a ticket by a pitch: its window, if open, closes, and its seal point is reached afresh. -/
def Ticket.moved (t : Ticket) (pitch : Nat) (fell : Option (Tempo × Nat)) : Ticket :=
  { t with feed := t.feed + pitch, slips := satAdd 8 t.slips 1, opened := none, fell := fell, evalAt := none, lastMask := 0
           entries := t.entries.map (fun e => { e with reachedAt := none }) }

/-- The window of an ARMED ticket ends in this tempo without a seal: it falls, with the mask of this tempo's evaluation (R117). A
ticket that an earlier slip of the tempo moved falls all the same (R109). (DEDUCED: assumption 22) -/
def State.falls (s : State) (tk : Nat) : Option Nat :=
  let t := s.ticket tk
  if t.state ≠ 2 then none
  else match t.fell.filter (fun f => f.1 == s.tempo) with
    | some f => some f.2
    | none =>
      let mask := if t.evalAt = some s.tempo then t.lastMask else s.sealMask tk
      if t.sealAt.map (· + t.window) = some s.tempo ∧ mask ≠ 0 then some mask else none

/-- The slip of a ticket that falls (R120): itself and every later ARMED ticket of its basis move by its pitch. (DEDUCED: assumption 22) -/
def State.slip (s : State) (tk : Nat) : State :=
  (s.movers tk).foldl (fun u k => u.updTicket k (fun x => x.moved (s.par clsTK tk 0x001)
    (if k = tk then none else (s.falls k).map (fun m => (s.tempo, m))))) s

/-- FLAG_FALL: the window of an ARMED ticket has passed without a seal. (DEDUCED: assumption 22) -/
def execFlagFall (tk : Idx) (s : State) : Host.Outcome State Fault Refusal :=
  .next (
    let s := s.enter (inFall tk)
    if 256 ≤ tk then s
    else match s.falls tk with
      | none => s
      | some mask =>
        let out := s.slipOutcome tk mask
        if out = 1 then
          ((s.slip tk).updTicket tk (fun x => { x with sealOutcome := 2, fallMask := mask })).raise
            { code := 0x0211, obj := obj clsTK tk, fields := [obj clsTK tk, mask, 1] }
        else s.fall tk mask out)

/-! ### The timeline (R122 to R124) -/

/-- The trigger of a ticket's entry is reached in this tempo, and in no other (R122). -/
def State.entryReached (s : State) (t : Ticket) (e : TEntry) : Bool :=
  if e.afterFeed then t.state == 4 && decide ((t.feedTempo : Int) + e.offset = (s.tempo : Int))
  else if t.basis = 0 then decide (t.feed + e.offset = (s.tempo : Int))
  else e.reachedAt == some s.tempo

/-- The place of a ticket's entry among the timeline castles of a tempo (R109): by seal tempo, ticket and entry; an entry measured
from the feed comes after it. (DEDUCED: assumption 7) -/
def Ticket.entryPlace (t : Ticket) (tk entry : Nat) : Nat :=
  let feedAt := (t.entries.findIdx? (fun e => e.feed)).getD 0
  let after := match t.entries[entry]? with
    | some e => e.afterFeed
    | none => false
  inTimeline t.sealTempo tk (if after then max entry feedAt else entry)

/-- Mark an entry evaluated. -/
def Ticket.entryDone (t : Ticket) (i : Nat) : Ticket :=
  { t with entries := t.entries.zipIdx.map (fun e => if e.2 = i then { e.1 with done := true } else e.1) }

/-- The FEED castle fires: the ticket is RUNNING. -/
def Ticket.fed (t : Ticket) (now : Tempo) : Ticket := { t with state := 4, feedTempo := now }

/-- An entry whose preconditions are false: nothing is applied, and the stations of its mask are spoiled (R124). (DEDUCED: assumption 22) -/
def State.entryMissed (s : State) (tk i : Nat) (e : TEntry) (mask : Nat) : State :=
  let s1 := (s.updTicket tk (fun t => t.miss i)).raise
    { code := 0x0221, obj := obj clsTK tk, sheet := true, fields := [obj clsTK tk, i, mask] }
  (List.range 8).foldl (fun u n => if bit e.spoil n then u.spoil tk n 5 noLine else u) s1

/-- The seal engine's reads for a sealed ticket meet an uncorrectable error at a timeline or action word: Safe-hold (Table 5-11,
Table 17-3, reader 3). -/
def State.timelineUe (s : State) (tk a : Nat) : State :=
  (s.reportUe (timelineInst a).1 (timelineInst a).2 3 (obj clsTK tk) [objDEV] true).enterSafeHold 0x0e10

/-- TIMELINE_ENTRY_TRIGGER: the trigger of a sealed ticket's entry has been reached. `ue`: the seal engine's reads meet an
uncorrectable error (Table 17-3, reader 3). -/
def execTimelineEntryTrigger (tk : Idx) (entry : Nat) (ue : Option Nat) (s : State) : Host.Outcome State Fault Refusal :=
  .next (
    let s := s.enter ((s.ticket tk).entryPlace tk entry)
    let t := s.ticket tk
    match t.entries[entry]? with
    | none => s
    | some e =>
      if decide (tk < 256) && decide (3 ≤ t.state) && !e.done && !e.exit && s.entryReached t e then
        match ue with
        | some a => s.timelineUe tk a
        | none =>
          let s1 := s.updTicket tk (fun t => if e.feed then (t.entryDone entry).fed s.tempo else t.entryDone entry)
          let mask := s.preMask e.pres
          if mask = 0 then s1.applyActions (some tk) e.actions else s1.entryMissed tk entry e mask
      else s)

/-- EXIT_CASTLE: the EXIT entry of a sealed ticket fires, and the sheet ends (R123). -/
def execExitCastle (x : ExitRead) (s : State) : Host.Outcome State Fault Refusal :=
  .next (
    let tk := x.tk
    let s := s.enter ((s.ticket tk).entryPlace tk (((s.ticket tk).entries.findIdx? (fun e => e.exit)).getD 0))
    let t := s.ticket tk
    match t.entries.find? (fun e => e.exit) with
    | none => s
    | some e =>
      if decide (tk < 256) && decide (3 ≤ t.state) && s.entryReached t e then
        match x.ue with
        | some a => s.timelineUe tk a
        | none =>
          let left := (t.entries.zipIdx.filter (fun x => !x.1.done && !x.1.exit)).map (fun x => x.2)
          let s1 := s.updTicket tk (fun t => left.foldl (fun u i => u.miss i) (if e.feed then t.fed s.tempo else t))
          let s2 := s1.applyActions (some tk) e.actions
          (s2.endSheet tk (if (s2.ticket tk).spoil = 0 then 0 else 1)).afterExit
      else s)

/-- SHEET_OVERRUN: the exit has not fired MAX_SPAN after the seal. -/
def execSheetOverrun (tk : Idx) (s : State) : Host.Outcome State Fault Refusal :=
  .next (
    let s := s.enter inTimeouts
    let t := s.ticket tk
    if decide (tk < 256) && decide (3 ≤ t.state) && decide (t.sealTempo + t.maxSpan * 65536 ≤ s.tempo) then
      (s.raise { code := 0x0222, obj := obj clsTK tk, fields := [obj clsTK tk, t.sealTempo], latch := [obj clsTK tk]
                 sheet := true }).enterSafeHold 0x0222
    else s)

end Sys2Proof.Machine
end

