-- ==== Sys2Proof/Machine/Store.lean ====
section
/-!
DEFINITION. The page store: its address map and allocation (R158, R160), the fence state of pages (R170), locked pages (R173),
withdrawn header checks (R185), and store fences (R171, R172).
-/
namespace Sys2Proof.Machine

/-- The modes of the store commands (Table 4-14). -/
abbrev modesStore : List Mode := [.configure, .standby, .warmUp, .ready, .print, .runOut]

/-- Commands of Table 4-14 need DRAM_OK (R96). -/
def State.dramRefs (s : State) : List Ref := refuse (!s.md.dramOk) stWRONG_STATE

/-! ### Training (R160) -/

/-- The end of one channel's training: its capacity, or out of service with 0x0420. -/
def State.trained (s : State) (c : Nat) (r : TrainDram) : State :=
  if s.nCh ≤ c then s
  else match r with
    | .ok g =>
      let g := min g 32
      { s with store := if c = 0 then { s.store with gib0 := g } else { s.store with gib1 := g } }
    | .fail step =>
      ({ s with store := if c = 0 then { s.store with out0 := true } else { s.store with out1 := true } }).raise
        { code := 0x0420, fields := [c, step % 256] }

/-- DRAM_TRAINING_DONE: DRAM_OK becomes 1 when every channel still in service has trained, and one has. -/
def execDramTrainingDone (ch0 ch1 : TrainDram) (s : State) : Host.Outcome State Fault Refusal :=
  .next (
    if s.md.boot = .running ∧ !s.md.dramOk then
      let s1 := (s.trained 0 ch0).trained 1 ch1
      { s1 with md := { s1.md with dramOk := s1.chHere 0 || s1.chHere 1 } }
    else s)

/-! ### Allocation (R96, R158) -/

/-- The first page of a channel for the host, and the page after its last. -/
def State.hostPages (s : State) (c : Nat) : Nat × Nat :=
  if c = 0 then (4096, s.chBytes 0 / 4096) else (ch1Base / 4096, (ch1Base + s.chBytes 1) / 4096)

/-- The runs of free pages from page `lo` to before `hi`, past regions in ascending order: first page and number. -/
def freeRuns : Nat → Nat → List (Nat × Nat) → List (Nat × Nat)
  | lo, hi, [] => if lo < hi then [(lo, hi - lo)] else []
  | lo, hi, (a, n) :: rs =>
    if a / 4096 + n ≤ lo ∨ hi ≤ a / 4096 then freeRuns lo hi rs
    else (if lo < a / 4096 then [(lo, a / 4096 - lo)] else []) ++ freeRuns (a / 4096 + n) hi rs

/-- The `k`-th page at which a region of `n` pages fits, in ascending order through the runs. -/
def fitAt (n : Nat) : Nat → List (Nat × Nat) → Option Nat
  | _, [] => none
  | k, (a, m) :: rs => if m < n then fitAt n k rs else if k < m - n + 1 then some (a + k) else fitAt n (k - (m - n + 1)) rs

/-- The number of pages at which a region of `n` pages fits. -/
def fits (n : Nat) (rs : List (Nat × Nat)) : Nat := rs.foldl (fun t r => if r.2 < n then t else t + (r.2 - n + 1)) 0

/-- The free runs of a channel, or of both for 0xff. -/
def State.runsOf (s : State) (c : Nat) : List (Nat × Nat) :=
  (if c = 255 then [0, 1] else [c]).flatMap (fun x =>
    if s.chHere x then freeRuns (s.hostPages x).1 (s.hostPages x).2 s.store.regions else [])

/-- List a region in ascending order. -/
def insertRegion (r : Nat × Nat) : List (Nat × Nat) → List (Nat × Nat)
  | [] => [r]
  | x :: xs => if r.1 < x.1 then r :: x :: xs else x :: insertRegion r xs

/-- STORE_ALLOC. Which of the places that fit is returned is not given: a free value. (DEDUCED: assumption 26) -/
def execStoreAlloc (m : Msg) (s : State) : Host.Outcome State Fault Refusal :=
  .next (
    let s := s.enter inDirect
    let n := m.argN 8 4
    let c := m.argN 12 1
    s.command 0x0500 m
      (m.plen 0 ++ m.argRes 0xffffff0000000000 ++ refuse (n == 0 || !(c == 0 || c == 1 || c == 255)) stBAD_ARG
        ++ s.inModes modesStore ++ s.dramRefs ++ refuse (c < 2 && !s.chHere c) stNOT_PRESENT
        ++ refuse (fits n (s.runsOf c) == 0) stNO_RESOURCE)
      (fun r u =>
        let (k, u1) := u.fresh
        let rs := u.runsOf c
        match fitAt n (k % fits n rs) rs with
        | none => u1.post r stNO_RESOURCE
        | some p => { u1 with store := { u1.store with regions := insertRegion (4096 * p, n) u1.store.regions } }.ok r
            (toLE 8 (4096 * p))))

/-- The tickets with locked pages: SEALED or RUNNING (R173). -/
def State.lockedPage (s : State) (p : Nat) : Bool :=
  s.sealedTks.any (fun k => (s.ticket k).images.any (fun i => i.onPage p))

/-- STORE_FREE. -/
def execStoreFree (m : Msg) (s : State) : Host.Outcome State Fault Refusal :=
  .next (
    let s := s.enter inDirect
    let a := m.pay 0 8
    let region := s.store.regions.find? (fun r => r.1 == a)
    let holds := match region with
      | some r => s.sealedTks.any (fun k => (s.ticket k).images.any (fun i => decide (r.1 < i.addr + i.size) && decide (i.addr < r.1 + 4096 * r.2)))
      | none => false
    s.command 0x0501 m
      (m.plen 8 ++ m.argRes 0xffffffffffffffff ++ s.inModes (modesStore ++ [.safeHold]) ++ s.dramRefs
        ++ refuse region.isNone stBAD_VALUE ++ refuse holds stSHEET_LOCKED)
      (fun r u => { u with store := { u.store with regions := u.store.regions.filter (fun x => x.1 != a) } }.ok r))

/-! ### Pages (R170, R173, R185) -/

/-- The pages of a byte range. -/
def pagesOf (a n : Nat) : List Nat := if n = 0 then [] else (List.range ((a + n - 1) / 4096 - a / 4096 + 1)).map (fun k => a / 4096 + k)

/-- Withdraw the header checks whose header stands on a page (R185). -/
def State.withdraw (s : State) (p : Nat) : State :=
  (s.sheets.tickets.map (fun e => e.1)).foldl (fun u k =>
    let t := u.ticket k
    if t.images.any (fun i => i.addr / 4096 == p && i.hdr != []) then
      let u1 := u.updTicket k (fun x => { x with
        images := x.images.map (fun i => if i.addr / 4096 = p then { i with hdr := [] } else i) })
      if t.state = 3 ∨ t.state = 4 then u1
      else (uniq ((t.images.filter (fun i => i.addr / 4096 == p)).map (fun i => i.station))).foldl (fun v n => v.unqueue n k) u1
    else u) s

/-- A write of channel `c` is granted on a page. One that an earlier opening of the channel made DIRTY stays so until a fence on
0xff (R171). (DEDUCED: assumption 26) -/
def State.dirty (s : State) (c p : Nat) : State :=
  let old := Map.get (fun _ => ({} : Page)) s.store.pages p
  let new : Page := { kind := if old.kind = 2 ∨ (old.kind = 1 ∧ old.ch ≠ c) then 2 else 1, ch := c
                      epoch := if old.kind = 1 ∧ old.ch = c then old.epoch else (s.dma c).opens, last := s.tempo }
  ({ s with store := { s.store with pages := Map.put (fun _ => {}) s.store.pages p new } }).withdraw p

/-- A fence on channel `c` in its opening `epoch` (255: on every channel), accepted at tempo `t`, makes a page FENCED when it
completes. -/
def fenceHits (c epoch : Nat) (t : Tempo) (p : Page) : Bool :=
  (p.kind == 1 && (c == 255 || (p.ch == c && p.epoch == epoch)) || p.kind == 2 && c == 255) && decide (p.last ≤ t)

/-- Make pages FENCED; the decode errors recorded against a container with one of them are forgotten, and its header is read anew
(R191). -/
def State.fenceAll (s : State) (hit : Nat → Page → Bool) : State :=
  let ps := (s.store.pages.filter (fun e => hit e.1 e.2)).map (fun e => e.1)
  let gone := s.store.badBoxes.filter (fun b => ps.any (fun p => (pagesOf b.1 b.2).contains p))
  let again := fun (i : Image) => if gone.any (fun b => b.1 == i.addr) then { i with hdr := [] } else i
  { s with
    store := { s.store with
      pages := s.store.pages.filter (fun e => !hit e.1 e.2)
      badBoxes := s.store.badBoxes.filter (fun b => !gone.contains b) }
    sheets := if gone.isEmpty then s.sheets else { s.sheets with
      tickets := s.sheets.tickets.map (fun e => (e.1, { e.2 with images := e.2.images.map again })) } }

/-- The pages that a fence covers become FENCED (R170). -/
def State.fencePages (s : State) (c : Nat) (t : Tempo) : State := s.fenceAll (fun _ p => fenceHits c (s.dma c).opens t p)

/-! ### Fences (R171, R172) -/

/-- A store write is still on its way: it waits for its grant, or has not arrived in DRAM. -/
def State.onItsWay (s : State) (q : Nat) : Bool :=
  s.store.flights.any (fun f => f.seq == q) || s.store.reqs.any (fun r => r.toStore && r.seq == q)

/-- The writes that a fence on a channel covers: those it issued since its DMA_OPEN; for 0xff, those of every channel. -/
def State.covered (s : State) (c : Nat) : List Nat :=
  (s.store.flights.filter (fun f => c == 255 || (f.ch == c && f.live))).map (fun f => f.seq)
    ++ (s.store.reqs.filter (fun r => r.toStore && (c == 255 || r.who == c))).map (fun r => r.seq)

/-- Every covered write has arrived or been lost. -/
def State.fenceDone (s : State) (f : Fence) : Bool := f.cover.all (fun q => !s.onItsWay q)

/-- A fence completes with OK. (DEDUCED: assumption 26) -/
def State.fenceEnd (s : State) (f : Fence) : State := (s.fencePages f.ch f.accepted).ok f.reply

/-- STORE_FENCE: it may complete in the tempo of acceptance. (DEDUCED: assumption 26) -/
def execStoreFence (m : Msg) (s : State) : Host.Outcome State Fault Refusal :=
  .next (
    let s := s.enter inDirect
    let c := m.argN 8 1
    let t := m.argN 12 4
    s.command 0x0502 m
      (m.plen 0 ++ m.argRes 0x00000000ffffff00 ++ refuse (decide (t < 1) || decide (31 < c ∧ c ≠ 255)) stBAD_ARG
        ++ s.inModes (modesStore ++ [.safeHold]) ++ s.dramRefs
        ++ refuse (decide (c < 32) && (s.dma c).state == .closed) stWRONG_STATE)
      (fun r u =>
        let f : Fence := { reply := r, ch := c, accepted := u.tempo, deadline := u.tempo + 256 * t, cover := u.covered c }
        if u.fenceDone f then u.fenceEnd f
        else
          let u1 := u.hold 0x0502 m
          { u1 with store := { u1.store with fences := u1.store.fences ++ [f] } }))

/-- The fence that waits on a ring. -/
def State.fenceOf (s : State) (ring : Nat) : Option Fence := s.store.fences.find? (fun f => f.reply.ring == ring)

/-- Take a ring's fence off the list. -/
def State.dropFence (s : State) (f : Fence) : State := { s with store := { s.store with fences := s.store.fences.erase f } }

/-- STORE_FENCE_COMPLETE. -/
def execStoreFenceComplete (ring : Idx) (s : State) : Host.Outcome State Fault Refusal :=
  .next (match s.fenceOf ring with
    | none => s
    | some f => if s.fenceDone f then (s.dropFence f).fenceEnd f else s)

/-- STORE_FENCE_TIMEOUT: pages stay as they are. An arrival in the last tempo of the timeout counts (R19). (DEDUCED: assumption 26) -/
def execStoreFenceTimeout (ring : Idx) (s : State) : Host.Outcome State Fault Refusal :=
  .next (
    let s := s.enter inTimeouts
    match s.fenceOf ring with
    | none => s
    | some f =>
      if s.fenceDone f ∨ s.tempo < f.deadline then s
      else
        let left := (s.store.pages.filter (fun e => e.2.kind == 2 && f.ch == 255 || e.2.kind == 1 && (f.ch == 255 || e.2.ch == f.ch))).length
        ((s.dropFence f).raise
          { code := 0x0405, obj := if f.ch = 255 then objDEV else obj clsDMA f.ch, fields := [f.ch, left] }).post f.reply stTIMEOUT)

/-! ### Store writes in flight (R172, R174) -/

/-- The write reaches DRAM: whole words at once, the rest through the merge buffer. -/
def State.land (s : State) (f : Flight) : State :=
  let s1 : State := { s with store := { s.store with
    flights := s.store.flights.map (fun x => if x.seq = f.seq then { x with merging := true } else x) } }
  (s1.memWrite (storeInst f.addr) f.addr f.data f.seq).settle [f.seq]

/-- DRAM_WRITE_ARRIVAL: a write that a close overtook arrives or is lost, by a free value (R174). -/
def execDramWriteArrival (seq : Nat) (s : State) : Host.Outcome State Fault Refusal :=
  .next (
    let s := s.enter inCapture
    match s.store.flights.find? (fun f => f.seq == seq && !f.merging) with
    | none => s
    | some f =>
      if f.live then s.land f
      else
        let (k, s1) := s.fresh
        if k % 2 = 0 then s1.land f
        else { s1 with store := { s1.store with flights := s1.store.flights.filter (fun x => x.seq != seq) } })

/-- MERGE_BUFFER_DRAIN: 64 tempo after its allocation an entry drains (R396). -/
def execMergeBufferDrain (inst : Idx) (word : Nat) (s : State) : Host.Outcome State Fault Refusal :=
  .next (match (s.mem inst).merge.find? (fun e => e.word == word) with
    | some e => if e.since + 64 ≤ s.tempo then s.drainEntry inst e else s
    | none => s)

end Sys2Proof.Machine
end

