-- ==== Sys2Proof/Machine/DmaRows.lean ====
section
/-!
DEFINITION. The DMA engine (R161 to R169, R173 to R181): channels, descriptors, the chain, requests at the shared resources,
and completion.
-/
namespace Sys2Proof.Machine

/-- The channel is there, and its registers are open (R165). -/
def State.dmaOpen (s : State) (ch : Nat) : Bool := s.md.dramOk && decide (ch < 32)

/-! ### Opening and closing (R162, R174) -/

/-- The channel number of a command. -/
def State.chRefs (m : Msg) : List Ref := m.plen 0 ++ m.argRes 0xffffffffffffff00 ++ refuse (decide (31 < m.argN 8 1)) stBAD_ARG

/-- Open a channel: the registers that R162 names are 0, the seen bits clear, and a fault of its earlier life is forgotten
(R176). (DEDUCED: assumption 27) -/
def State.openDma (s : State) (ch : Nat) : State :=
  let s1 := (s.faults.filter (fun f => f.obj == obj clsDMA ch)).foldl (fun u f => u.unlatch f.code f.obj) s
  (s1.setDma ch { state := .idle, irqEn := (s.dma ch).irqEn, opens := (s.dma ch).opens + 1 }).idleVector ch

/-- DMA_OPEN. (DEDUCED: assumption 26; DEDUCED: assumption 27) -/
def execDmaOpen (m : Msg) (s : State) : Host.Outcome State Fault Refusal :=
  .next (
    let s := s.enter inDirect
    let ch := m.argN 8 1
    s.command 0x0510 m
      (State.chRefs m ++ s.inModes modesStore ++ s.dramRefs ++ refuse ((s.dma ch).state != .closed) stWRONG_STATE)
      (fun r u => (u.openDma ch).ok r))

/-- A descriptor is in progress: it has been named by CUR, and its STATUS is not written yet. -/
def Dma.inProgress (d : Dma) : Bool := d.state == .running && d.step != .lookAgain

/-- Close a channel: its requests that wait for a grant are dropped, its granted store writes may arrive or be lost, and its
registers and counts are undefined, free values. (DEDUCED: assumption 27) -/
def State.closeDma (s : State) (ch : Nat) : State :=
  let d := s.dma ch
  if d.state = .closed then s
  else
    let s1 := if d.inProgress then s.raise { code := 0x0403, obj := obj clsDMA ch, fields := [obj clsDMA ch, d.cur] } else s
    let (a, s2) := s1.fresh
    let (b, s3) := s2.fresh
    let (c, s4) := s3.fresh
    let (e, s5) := s4.fresh
    let (f, s6) := s5.fresh
    let (g, s7) := s6.fresh
    let (h, s8) := s7.fresh
    let s9 := s8.setDma ch {
      state := .closed, next := a % 2 ^ 64 / 32 * 32, last := b % 2 ^ 64, cur := c % 2 ^ 64, doneCount := e % 2 ^ 32
      badCount := f % 2 ^ 32, badAddr := g % 2 ^ 64, badSeen := bit h 0, doneSeen := bit h 1, irqEn := bit h 2, opens := d.opens }
    { s9 with store := { s9.store with
      reqs := s9.store.reqs.filter (fun q => q.who != ch)
      flights := s9.store.flights.map (fun x => if x.ch = ch then { x with live := false } else x) } }

/-- DMA_CLOSE. -/
def execDmaClose (m : Msg) (s : State) : Host.Outcome State Fault Refusal :=
  .next (
    let s := s.enter inDirect
    s.command 0x0511 m (State.chRefs m ++ s.dramRefs) (fun r u => (u.closeDma (m.argN 8 1)).ok r))

/-! ### Registers (R165, R166) -/

/-- The chain of an IDLE channel starts at an address (R166). -/
def State.startChain (s : State) (ch a : Nat) : State :=
  if (s.dma ch).state = .idle then (s.updDma ch (fun d => { d with state := .running, cur := a })).descStep ch .readDesc else s

/-- A write of DMA_DOORBELL: STOP closes, RING starts an IDLE channel at NEXT. -/
def State.doorbell (s : State) (ch v : Nat) : State :=
  if !s.dmaOpen ch || !s.hostOwned ch then s
  else if bit v 1 then s.closeDma ch
  else if bit v 0 then s.startChain ch (s.dma ch).next
  else s

/-- Firmware writes descriptors to descriptor SRAM, and rings a channel of its own (R161, R166). (DESIGN CHOICE: assumption 26) -/
def State.fwRing (s : State) (ch : Nat) (ws : List (Nat × Bytes)) (next : Nat) : State :=
  if s.md.boot = .running ∧ s.dmaOpen ch ∧ !s.hostOwned ch then
    (ws.foldl (fun u w => u.memWrite 10 w.1 w.2 0) s).startChain ch next
  else s

/-- DMA_DOORBELL_RING. -/
def execDmaDoorbellRing (ch : Idx) (by_ : Ringer) (s : State) : Host.Outcome State Fault Refusal :=
  .next (
    let s := s.enter inCapture
    match by_ with
    | .host v => s.access (fun u => u.doorbell ch v.toNat)
    | .firmware ws next => s.fwRing ch ws next)

/-- DMA_DOORBELL_STOP. -/
def execDmaDoorbellStop (ch : Idx) (v : Word) (s : State) : Host.Outcome State Fault Refusal :=
  .next (
    let s := s.enter inCapture
    s.access (fun u => u.doorbell ch v.toNat))

/-- A write of DMA_STATUS: 1 clears BAD_SEEN or DONE_SEEN, unless it is set in the same tempo (R13). -/
def State.clearDma (s : State) (ch v : Nat) : State :=
  if s.dmaOpen ch then
    s.updDma ch (fun d => { d with
      badSeen := d.badSeen && (!bit v 3 || decide (0 < d.badNew.now s.tempo))
      doneSeen := d.doneSeen && (!bit v 4 || decide (0 < d.doneNew.now s.tempo)) })
  else s

/-- DMA_STATUS_CLEAR. -/
def execDmaStatusClear (ch : Idx) (v : Word) (s : State) : Host.Outcome State Fault Refusal :=
  .next (s.access (fun u => u.clearDma ch v.toNat))

/-- A read of DMA_DONE_COUNT returns and clears it; what this tempo counted is kept for the next read (R13). -/
def State.takeDone (s : State) (ch : Nat) : Nat × State :=
  let k := (s.dma ch).doneNew.now s.tempo
  if s.dmaOpen ch then ((s.dma ch).doneCount - k, s.updDma ch (fun d => { d with doneCount := k })) else (0, s)

/-- A read of DMA_BAD_COUNT returns and clears it; what this tempo counted is kept for the next read (R13). -/
def State.takeBad (s : State) (ch : Nat) : Nat × State :=
  let k := (s.dma ch).badNew.now s.tempo
  if s.dmaOpen ch then ((s.dma ch).badCount - k, s.updDma ch (fun d => { d with badCount := k })) else (0, s)

/-! ### Descriptors (Tables 7-3 to 7-5) -/

/-- The fields of a descriptor's 32 bytes. -/
def descOf (b : Bytes) : Desc :=
  { ctrl := leAt b 0 4, status := leAt b 4 4, src := leAt b 8 8, dst := leAt b 16 8, link := leAt b 24 8 / 32 * 32 }

def Desc.isEnd (d : Desc) : Bool := bit d.ctrl 0
def Desc.linkValid (d : Desc) : Bool := bit d.ctrl 1
def Desc.irq (d : Desc) : Bool := bit d.ctrl 2
def Desc.kind (d : Desc) : Nat := field d.ctrl 4 3
def Desc.length (d : Desc) : Nat := field d.ctrl 8 24

/-- The store ranges of a descriptor. -/
def Desc.ranges (d : Desc) : List Nat :=
  match d.kind with
  | 0 | 4 | 5 | 6 => [d.dst]
  | 2 => [d.src, d.dst]
  | _ => [d.src]

/-- The first cause of Table 7-5 that a descriptor meets when it starts; 0 for none. -/
def State.descCause (s : State) (ch : Nat) (d : Desc) : Nat :=
  let own := s.hostOwned ch
  if bit d.ctrl 3 || bit d.ctrl 7 || d.status != 0 then 1
  else if own && !(d.kind == 0 || d.kind == 1 || d.kind == 2 || d.kind == 5) then 2
  else if d.length = 0 then 3
  else if d.ranges.any (fun a => !s.storeRange a d.length || (own && inFirmware a)) then 4
  else 0

/-- The scheduler of a store address. -/
def dramOf (a : Nat) : Resource := .dram (storeInst a - 22)

/-- Change the job that CL0 runs. -/
def State.updJob (s : State) (f : Job → Job) : State := { s with store := { s.store with job := s.store.job.map f } }

/-- The job that CL0 runs over a channel. -/
def State.jobOn (s : State) (ch : Nat) : Option Job := s.store.job.filter (fun j => j.ch == ch)

/-- The job on a channel fails, unless it has failed already: the status it ends with, and its data (R200). -/
def State.jobFails (s : State) (ch code : Nat) (data : Bytes := []) : State :=
  if (s.jobOn ch).isSome then s.updJob (fun j => { j with fail := some (j.fail.getD (code, data)) }) else s

/-- CL0 has its whole source: it makes the container, or meets an error (R195). -/
def State.compress (s : State) (j : Job) : State :=
  match s.jobResult j j.input with
  | .box b => s.updJob (fun x => { x with box := some b })
  | .fail code data => s.jobFails j.ch code data

/-- A COMP_DRAIN descriptor goes on: the next bytes of the container, up to LENGTH. CL0 reports an error for a job that has failed, and
where it runs none over the channel; the last descriptor of a chain is BAD where bytes are left at LENGTH (Table 7-5). (DESIGN CHOICE: assumption 28) -/
def State.drain (s : State) (ch : Nat) : State :=
  let d := (s.dma ch).desc
  let dst := d.dst + (s.dma ch).moved
  match s.jobOn ch with
  | none => s.descFail ch 8
  | some j => match j.fail, j.box with
    | none, some b =>
      let room := d.length - (s.dma ch).moved
      if b.length ≤ j.outAt then s.descStep ch .finish
      else if room = 0 then
        (if d.isEnd || !d.linkValid then (s.jobFails ch stBAD_VALUE).descFail ch 8 else s.descStep ch .finish)
      else
        let n := min 512 (min room (b.length - j.outAt))
        s.addReq (s.reqOf ch (dramOf dst) true dst (bytesAt b j.outAt n) n)
    | _, _ => s.descFail ch 8

/-- Bytes left of a 4 KiB page from an address on (R179). -/
def pageLeft (a : Nat) : Nat := 4096 - a % 4096

/-- A channel goes on with its transfer: the request for its next 512 bytes or fewer, or the end. Data of supervisor memory are
read and written without a shared resource. COMP_FEED reads the source of a job. -/
def State.nextReq (s : State) (ch : Nat) : State :=
  let x := s.dma ch
  let d := x.desc
  let left := d.length - x.moved
  let src := d.src + x.moved
  let dst := d.dst + x.moved
  if d.kind = 4 then s.drain ch
  else if left = 0 then s.descStep ch .finish
  else match d.kind with
    | 0 => s.addReq (s.reqOf ch .hostSlots false src [] (min (min 512 left) (pageLeft src)))
    | 1 => s.addReq (s.reqOf ch (dramOf src) false src [] (min (min 512 left) (pageLeft dst)))
    | 2 | 3 | 7 => s.addReq (s.reqOf ch (dramOf src) false src [] (min 512 left))
    | 5 =>
      let n := min 512 left
      s.addReq (s.reqOf ch (dramOf dst) true dst ((List.range n).map (fun j => BitVec.ofNat 8 (byteOf d.src ((dst + j) % 8)))) n)
    | 6 =>
      let n := min 512 left
      let (b, bad, s1) := s.memRead 12 src n 6
      if bad then s1.descFail ch 7 else s1.addReq (s1.reqOf ch (dramOf dst) true dst b n)
    | _ => s.descStep ch .finish

/-- Bytes of a transfer have reached their destination's queue. -/
def State.moved (s : State) (ch n : Nat) : State := (s.updDma ch (fun d => { d with moved := d.moved + n })).nextReq ch

/-- What the read of a descriptor at CUR returns: nothing yet, an error kind of Table 7-8, or its 32 bytes. Descriptor SRAM is read
here; an address outside it cannot be read. (DEDUCED: assumption 27) -/
def State.readDesc (s : State) (ch : Nat) (d : HostData) : Option (Except Nat Bytes) × State :=
  let a := (s.dma ch).cur
  let o := obj clsDMA ch
  if s.hostOwned ch then
    (if !s.host.linkUp then some (.error 2) else match d with
      | .none => none
      | .busError => some (.error 1)
      | .bytes b => some (.ok b), s)
  else if !s.memRange 10 a 32 then (some (.error 3), s)
  else
    let (b, bad, s1) := s.memRead 10 a 32 5 o [o]
    (some (if bad then .error 3 else .ok b), s1)

/-- The descriptor of a channel begins: it is checked, and its transfer starts (R164). A COMP_DRAIN of a job whose source has been
fed starts with CL0 making the container. -/
def State.beginDesc (s : State) (ch : Nat) (e : Desc) : State :=
  let s1 := s.updDma ch (fun y => { y with desc := e, moved := 0, cause := 0, step := .transfer })
  let c := s.descCause ch e
  if c ≠ 0 then s1.descFail ch c
  else match s1.jobOn ch with
    | some j => if e.kind = 4 ∧ j.box = none ∧ j.fail = none then (s1.compress j).nextReq ch else s1.nextReq ch
    | none => s1.nextReq ch

/-- DMA_DESCRIPTOR_START: the descriptor at CUR, whose read has been granted, is read and checked, and its transfer begins. -/
def execDmaDescriptorStart (ch : Idx) (d : HostData) (s : State) : Host.Outcome State Fault Refusal :=
  .next (
    let x := s.dma ch
    if x.state ≠ .running ∨ x.step ≠ .readDesc ∨ !x.slot then s
    else match s.readDesc ch d with
      | (none, _) => s
      | (some (.error k), s1) => s1.dmaFault ch k
      | (some (.ok b), s1) => s1.beginDesc ch (descOf b))

/-! ### Grants (R179, R173) -/

/-- A request goes before another: class, then the longer wait, then the lower number. -/
def Req.before (a b : Req) : Bool :=
  decide (a.cls < b.cls) || (a.cls == b.cls && (decide (a.since < b.since) || (a.since == b.since && decide (a.who < b.who))))

/-- The DMA engine may grant requests in this tempo: p percent of the tempi, spread evenly (R181). (DESIGN CHOICE: assumption 27) -/
def State.dmaTempo (s : State) : Bool := decide (s.tempo * s.therm.step / 100 < (s.tempo + 1) * s.therm.step / 100)

/-- A request may be granted: data of CL0 only while the compressor lane does not stand still (R384). -/
def State.mayGrant (s : State) (q : Req) : Bool :=
  q.ctl || !s.tripped || !((s.dma q.who).desc.kind == 3 || (s.dma q.who).desc.kind == 4)

/-- The DMA request that a resource grants. (DEDUCED: assumption 27) -/
def State.winner (s : State) (res : Resource) : Option Req :=
  if !s.dmaTempo then none
  else (s.store.reqs.filter (fun q => q.res == res && s.mayGrant q)).foldl (fun w q => match w with
    | none => some q
    | some x => if q.before x then some q else some x) none

/-- The writes of a channel to a byte range that are on their way land first: every requester reads its own writes (R396). (DEDUCED: assumption 26) -/
def State.landOwn (s : State) (ch a n : Nat) : State :=
  (s.store.flights.filter (fun f => f.ch == ch && f.live && !f.merging
    && decide (f.addr < a + n) && decide (a < f.addr + f.data.length))).foldl (fun u f => u.land f) s

/-- Bytes of a container have left CL0. -/
def State.drained (s : State) (ch n : Nat) : State :=
  if (s.dma ch).desc.kind = 4 then
    let s1 := s.updJob (fun j => { j with outAt := j.outAt + n })
    { s1 with store := { s1.store with clOut := (s1.store.clOut + n) % 2 ^ 64 } }
  else s

/-- A store write is granted: its pages are DIRTY, and it leaves the engine, unless a page is locked (R173). A job whose output meets
a locked page ends with SHEET_LOCKED (R200). -/
def State.grantWrite (s : State) (q : Req) : State :=
  let ps := pagesOf q.addr q.len
  if ps.any s.lockedPage then
    (if (s.dma q.who).desc.kind = 4 then s.jobFails q.who stSHEET_LOCKED else s).descFail q.who 5
  else
    let s1 := ps.foldl (fun u p => u.dirty q.who p) s
    let f : Flight := { seq := q.seq, ch := q.who, addr := q.addr, data := q.data, granted := s.tempo, live := true, merging := false }
    (({ s1 with store := { s1.store with flights := s1.store.flights ++ [f] } }).drained q.who q.len).moved q.who q.len

/-- A job's source bytes have been read. -/
def State.fed (s : State) (ch : Nat) (b : Bytes) : State :=
  let s1 := if (s.jobOn ch).isSome then s.updJob (fun j => { j with input := j.input ++ b }) else s
  { s1 with store := { s1.store with clIn := (s1.store.clIn + b.length) % 2 ^ 64 } }

/-- A store read is granted: its data go on to the descriptor's destination. CL0 is the reader of a COMP_FEED (Table 17-3, reader 9),
and where it runs no job over the channel it reports an error. -/
def State.grantRead (s : State) (q : Req) : State :=
  let feed := decide ((s.dma q.who).desc.kind = 3)
  let cl := obj clsCL 0
  let (b, bad, s1) := (s.landOwn q.who q.addr q.len).storeRead q.addr q.len (if feed then 9 else 6)
    (if feed then cl else objDEV) (if feed then [cl] else [])
  let x := s1.dma q.who
  let dst := x.desc.dst + x.moved
  if bad then (if feed then s1.jobFails q.who stFAULT_LATCHED else s1).descFail q.who 7
  else match x.desc.kind with
    | 1 => s1.addReq (s1.reqOf q.who .hostSlots true dst b q.len)
    | 3 => if (s1.jobOn q.who).isSome then (s1.fed q.who b).moved q.who q.len else s1.descFail q.who 8
    | 7 => (s1.memWrite 12 dst b 0).moved q.who q.len
    | _ => s1.addReq (s1.reqOf q.who (dramOf dst) true dst b q.len)

/-- No-Snoop of a channel's data requests to host memory (R178). -/
def State.noSnoop (s : State) (ch : Nat) : Bool := s.par clsDMA ch 0x001 == 1

/-- A request at the host link is granted: a posted write leaves, or a read leaves and returns. (DEDUCED: assumption 27) -/
def State.grantHost (s : State) (q : Req) (data : HostData) : State :=
  if !s.host.linkUp then s.descFail q.who 6
  else if q.write then (s.emit (.hostWrite q.addr q.data (s.noSnoop q.who))).moved q.who q.len
  else
    let s1 := s.emit (.hostRead q.addr q.len (s.noSnoop q.who))
    match data with
    | .busError => s1.descFail q.who 6
    | .bytes b =>
      let x := s1.dma q.who
      let dst := x.desc.dst + x.moved
      s1.addReq (s1.reqOf q.who (dramOf dst) true dst (bytesAt b 0 q.len) q.len)
    | .none => s

/-- An access of a descriptor is granted. A read of host memory leaves at once, never with No-Snoop (R178). -/
def State.grantCtl (s : State) (q : Req) : State :=
  let s1 := s.updDma q.who (fun d => { d with slot := true })
  if q.res = .hostSlots ∧ !q.write ∧ s.host.linkUp then s1.emit (.hostRead q.addr q.len) else s1

/-- Grant a DMA request. -/
def State.grantDma (s : State) (q : Req) (data : HostData) : State :=
  if !q.ctl && q.res == .hostSlots && !q.write && data == .none && s.host.linkUp then s
  else
    let s1 : State := { s with store := { s.store with reqs := s.store.reqs.erase q } }
    if q.ctl then s1.grantCtl q
    else if q.res = .hostSlots then s1.grantHost q data else if q.write then s1.grantWrite q else s1.grantRead q

/-! ### The chain (R167, R169, R175) -/

/-- Write the STATUS word of a descriptor; with the link down nothing reaches host memory (R70). -/
def State.writeDescStatus (s : State) (ch v : Nat) : State :=
  let a := (s.dma ch).cur + 4
  if !s.hostOwned ch then s.memWrite 10 a (toLE 4 v) 0
  else if s.host.linkUp then s.emit (.hostWrite a (toLE 4 v)) else s

/-- The cause that a descriptor ends with: one whose STATUS write meets a link that is down has failed with HOST_BUS (R70, R164).
(DEDUCED: assumption 27) -/
def State.endCause (s : State) (ch : Nat) : Nat :=
  let x := s.dma ch
  if x.cause = 0 ∧ s.hostOwned ch ∧ !s.host.linkUp then 6 else x.cause

/-- Count a descriptor that has ended: done, or BAD with 0x0401 (R175). -/
def State.countDesc (s : State) (ch cause : Nat) : State :=
  if cause = 0 then
    s.updDma ch (fun d => { d with doneSeen := true, doneCount := satAdd 32 d.doneCount 1, doneNew := d.doneNew.add s.tempo })
  else
    (s.updDma ch (fun d => { d with
      badSeen := true, badCount := satAdd 32 d.badCount 1, badNew := d.badNew.add s.tempo, badAddr := d.cur })).raiseLimited
      { code := 0x0401, obj := obj clsDMA ch, fields := [obj clsDMA ch, (s.dma ch).cur, cause] } 1000000 0 true

/-- DMA_DESCRIPTOR_COMPLETE: STATUS, whose write has been granted, the counts, the vector, and the way on. -/
def execDmaDescriptorComplete (ch : Idx) (s : State) : Host.Outcome State Fault Refusal :=
  .next (
    let s := s.enter inCapture
    let x := s.dma ch
    if x.state ≠ .running ∨ x.step ≠ .finish ∨ !x.slot then s
    else
      let c := s.endCause ch
      let s1 := (s.writeDescStatus ch (if c = 0 then 1 else 2 + 256 * c)).countDesc ch c
      let s2 := if x.desc.irq && x.irqEn then s1.signal (17 + ch) else s1
      if x.desc.isEnd then s2.descStep ch .lookAgain
      else if x.desc.linkValid then (s2.updDma ch (fun d => { d with cur := x.desc.link })).descStep ch .readDesc
      else s2.dmaIdle ch)

/-- DMA_LOOK_AGAIN: CTRL and LINK of the tail, whose read has been granted, are read once more. -/
def execDmaLookAgain (ch : Idx) (d : HostData) (s : State) : Host.Outcome State Fault Refusal :=
  .next (
    let x := s.dma ch
    if x.state ≠ .running ∨ x.step ≠ .lookAgain ∨ !x.slot then s
    else match s.readDesc ch d with
      | (none, _) => s
      | (some (.error k), s1) => s1.dmaFault ch k
      | (some (.ok b), s1) =>
        let e := descOf b
        if e.isEnd || !e.linkValid then s1.dmaIdle ch
        else (s1.updDma ch (fun y => { y with cur := e.link })).descStep ch .readDesc)

end Sys2Proof.Machine
end

