-- ==== Sys2Proof/Machine/Lanes.lean ====
section
/-!
DEFINITION. The decompressor lanes (R183 to R194, R202, R203): header checks, video fetch, decoded lines, decode errors, and the
CRC of a strip; and the grant of a shared resource (R179, R180), which video fetch and DMA channels share.
-/
namespace Sys2Proof.Machine

/-! ### Header checks (R184, Table 8-2) -/

/-- The first failing check of an image entry's header; 0 when it is valid. `last`: the entry is its station's last. -/
def State.headerCause (s : State) (i : Image) (last : Bool) (h : Bytes) (bad : Bool) : Nat :=
  let lines := leAt h 6 1
  if bad then 0x0a
  else if hdrForm h ≠ 0 then hdrForm h
  else if field (leAt h 2 1) 4 3 ≠ i.station then 0x04
  else if 8 * leAt h 4 2 ≠ s.lineBytes i.station then 0x05
  else if lines = 0 ∨ 32 < lines ∨ (lines < 32 ∧ !last) then 0x06
  else if s.boxRange i.addr h then 0x09
  else if s.store.badBoxes.any (fun b => b.1 == i.addr) then 0x0b
  else 0

/-- The strips of a ticket on a station, in order, as its lanes queue them. -/
def Ticket.strips (t : Ticket) (tk n : Nat) : List QStrip :=
  let mine := t.images.filter (fun i => i.station == n)
  let ks := mine.map (fun i => i.strip)
  ((List.range (ks.foldl max 0 + 1)).filter (fun k => ks.contains k)).flatMap (fun k =>
    (mine.filter (fun i => i.strip == k)).map (fun i =>
      { tk := tk, strip := k, addr := i.addr, first := 0, lines := 32 * leAt i.raw 6 1, pred := leAt i.raw 3 1 % 4
        lens := (List.range 4).map (hdrLen i.raw), crc := leAt i.raw 20 4 }))

/-- Report a header check that failed, once for each image entry and cause. -/
def State.hdrInvalid (s : State) (tk : Nat) (i : Image) (cause : Nat) : State :=
  if cause = 0 ∨ i.hdr.any (fun e => e.2 == some cause) then s
  else s.raise { code := 0x0501, obj := obj clsSTN i.station
                 fields := [obj clsTK tk, obj clsSTN i.station, i.strip, i.addr, cause] }

/-- HEADER_CHECK: a lane's fetcher reads the header of an image entry of a resident ticket, whose page is FENCED (R185). Once all
headers of the ticket on the station are valid, its strips are queued (R202). -/
def execHeaderCheck (tk : Idx) (entry : Nat) (rank : Idx) (s : State) : Host.Outcome State Fault Refusal :=
  .next (
    let t := s.ticket tk
    match t.images[entry]? with
    | none => s
    | some i =>
      let fenced := (Map.get (fun _ => ({} : Page)) s.store.pages (i.addr / 4096)).kind == 0
      if s.tripped || !t.resident || t.state != 2 || decide (4 ≤ rank) || !s.inService clsDL (4 * i.station + rank) || !fenced
          || (Map.get (fun _ => none) i.hdr rank).isSome then s
      else
        let (h, bad, s1) := s.storeRead i.addr 32 7 (obj clsTK tk)
        let last := !t.images.any (fun x => x.station == i.station && decide (i.strip < x.strip))
        let cause := s.headerCause i last h bad
        let i' : Image := { i with hdr := Map.put (fun _ => none) i.hdr rank (some cause), raw := if bad then i.raw else h }
        let s2 := (s1.hdrInvalid tk i cause).updTicket tk (fun x => { x with images := x.images.set entry i' })
        let t2 := s2.ticket tk
        let mine := t2.images.filter (fun x => x.station == i.station)
        if mine.all (fun x => (List.range 4).all (fun r => Map.get (fun _ => none) x.hdr r == some 0))
            && ((s2.station i.station).stripsOf tk).isEmpty then
          s2.enqueue i.station tk (t2.strips tk i.station)
        else s2)

/-! ### Video fetch (R179, R180) -/

/-- The store address and length of the sub-stream that a lane's fetcher asks for. -/
def QStrip.sub (e : QStrip) (r : Nat) : Nat × Nat :=
  (e.addr + 32 + ((e.lens.take r).foldl (· + ·) 0), e.lens.getD r 0)

/-- The lane's fetcher asks the scheduler of a channel. -/
def State.laneAsks (s : State) (l : Nat) (res : Resource) : Bool :=
  s.laneWants l && (s.laneStrip l).any (fun e => dramOf e.addr == res)

/-- The lane whose fetch is granted: the one that has waited longest, then the lowest number. -/
def State.laneWinner (s : State) (res : Resource) : Option Nat :=
  let w := fun (l : Nat) => ((s.lane l).since).getD s.tempo
  ((List.range 32).filter (fun l => s.laneAsks l res)).foldl (fun b l => match b with
    | none => some l
    | some x => if w l < w x then some l else some x) none

/-- SHARED_RESOURCE_GRANT: video fetch first, and then the DMA classes in order. (DEDUCED: assumption 27) -/
def execSharedResourceGrant (res : Resource) (data : HostData) (s : State) : Host.Outcome State Fault Refusal :=
  .next (
    let s := s.enter inCapture
    match s.laneWinner res with
    | some l => s.updLane l (fun x => { x with since := some (x.since.getD s.tempo), granted := true })
    | none => match s.winner res with
      | some q => s.grantDma q data
      | none => s)

/-- FETCH_RETURN: the sub-stream's bytes reach the lane; one that took more than 1,000 tempo is reported (R180). (DEDUCED: assumption 28) -/
def execFetchReturn (lane : Idx) (s : State) : Host.Outcome State Fault Refusal :=
  .next (
    let s := s.enter inCapture
    match s.laneStrip lane with
    | none => s
    | some e =>
      let x := s.lane lane
      if s.tripped || !s.inService clsDL lane || !x.granted || x.fetched then s
      else
        let a := e.sub (lane % 4)
        let (b, ue, s1) := s.memScan (storeInst a.1) a.1 a.2 7 (obj clsTK e.tk)
        let wait := s.tempo - x.since.getD s.tempo
        let s2 := if 1000 < wait then s1.raise { code := 0x0410, fields := [storeInst e.addr - 22, obj clsDL lane, wait] } else s1
        s2.updLane lane (fun y => { y with granted := false, fetched := true, fetchUe := ue, input := b }))

/-! ### Decode errors (R190 to R193) -/

/-- The ticket of a strip is sealed. -/
def State.stripSealed (s : State) (e : QStrip) : Bool := (s.ticket e.tk).state == 3 || (s.ticket e.tk).state == 4

/-- Record a decode error against a container: every header check of it that stood fails from now on, and the tickets that are
not sealed leave their stations' queues (R191). -/
def State.recordBox (s : State) (e : QStrip) : State :=
  let n := 32 + e.lens.foldl (· + ·) 0
  let s1 : State := { s with store := { s.store with
    badBoxes := if s.store.badBoxes.contains (e.addr, n) then s.store.badBoxes else s.store.badBoxes ++ [(e.addr, n)] } }
  s1.armedTks.foldl (fun u k =>
    let hits := (u.ticket k).images.filter (fun i => i.addr == e.addr && i.hdr != [])
    if hits.isEmpty then u
    else
      let u1 := hits.foldl (fun v i => v.hdrInvalid k i 0x0b) u
      let u2 := u1.updTicket k (fun t => { t with images := t.images.map (fun i =>
        if i.addr = e.addr then { i with hdr := (i.hdr).map (fun x => (x.1, if x.2 = some 0 then some 0x0b else x.2)) } else i) })
      (uniq (hits.map (fun i => i.station))).foldl (fun v n => v.unqueue n k) u2) s1

/-- Change a strip of a station's queue. -/
def State.updStrip (s : State) (n : Nat) (first : Nat) (f : QStrip → QStrip) : State :=
  s.updStation n (fun t => { t with queue := t.queue.map (fun e => if e.first = first then f e else e) })

/-- The lane goes on to the next strip of its queue. -/
def State.laneNext (s : State) (l : Nat) : State := (s.updLane l (fun x => x.restart (x.strip + 1))).prune (l / 4)

/-- A decode error of a lane: code, input byte, and whether it is recorded against the container. In a sealed sheet the lines not
yet written are blanked and the station is spoiled; otherwise the lane's output is discarded, and an error that is not the
container's is followed by another attempt. (DEDUCED: assumption 28) -/
def State.decodeError (s : State) (l : Nat) (e : QStrip) (code at_ : Nat) (record : Bool) : State :=
  let n := l / 4
  let r := l % 4
  let sealed := s.stripSealed e
  let more := s.laneMore l e
  let line := stripLine r (s.lane l).line
  let s1 := (s.updLane l (fun x => { x with errors := satAdd 32 x.errors 1 })).raise
    { code := 0x0510, obj := obj clsDL l, sheet := sealed && more
      fields := [obj clsDL l, obj clsTK e.tk, e.strip, b2n sealed, code, at_, if sealed ∧ more then line else 0xffff] }
  let s2 :=
    if sealed ∧ more then
      (s1.updStrip n e.first (fun q => { q with blanked := q.blanked ++ [(r, (s.lane l).line)], done := q.done ++ [(r, none)] })).spoil
        e.tk n 2 (1024 * e.strip + line)
    else s1
  let s3 := if sealed ∧ more then s2.laneNext l else s2
  if record then s3.recordBox e
  else if sealed then s3
  else
    let mine := fun (q : Nat) => decide (e.first ≤ q) && decide (q < e.first + e.lines) && rankOf (q - e.first) == r
    (s3.updStation n (fun t => { t with swath := t.swath.filter (fun x => !mine x.2.q) })).updLane l (fun x => x.restart x.strip)

/-! ### Lines (R187, R203) -/

/-- What a lane decodes of its sub-stream. (DEDUCED: assumption 28) -/
def State.laneDecode (s : State) (l : Nat) (e : QStrip) : Inflated :=
  inflate (s.lane l).input (e.lines / 4 * s.lineBytes (l / 4)) (s.lane l).fetchUe

/-- LANE_LINE_WRITE: with room in the swath, the lane writes its next line, or stops at a decode error. Its working time is not
given: a free value. `ue`: an uncorrectable error in its history (Table 17-3, reader 8), which is not recorded. -/
def execLaneLineWrite (lane : Idx) (ue : Option Nat) (s : State) : Host.Outcome State Fault Refusal :=
  .next (
    let s := s.enter inCapture
    match s.laneStrip lane with
    | none => s
    | some e =>
      let x := s.lane lane
      let n := lane / 4
      if s.tripped || !s.inService clsDL lane || !x.fetched || !s.laneMore lane e || !s.hasRoom n (s.laneQ lane e) then s
      else match ue with
        | some a => (s.reportUe 17 a 0x8 (obj clsDL lane) [] (s.stripSealed e)).decodeError lane e 0x0a 0 false
        | none =>
          let w := s.lineBytes n
          let d := s.laneDecode lane e
          if w * (x.line + 1) ≤ d.out.length then
            let (f, s1) := s.fresh
            let line := ((rasterLines e.pred w (x.line + 1) d.out).getLast?).getD []
            (s1.putLine n (s.laneQ lane e) line).updLane lane (fun y => { y with line := y.line + 1, work := (y.work + f) % 2 ^ 64 })
          else match d.err with
            | some (c, at_) => s.decodeError lane e c at_ true
            | none => s.decodeError lane e 7 0 true)

/-! ### The CRC of a strip (R188, R193) -/

/-- The CRC of the four sub-streams in order, each of `n` bytes. -/
def joinCrcs (n : Nat) (cs : List Nat) : Nat := cs.foldl (fun a c => crcJoin a c n) 0

/-- The CRC of a strip does not match: the lines not started yet are blanked in a sealed sheet. -/
def State.crcMismatch (s : State) (l : Nat) (e : QStrip) (crc : Nat) : State :=
  let n := l / 4
  let sealed := s.stripSealed e
  let from_ := (s.scanQ n).2 - e.first
  let blank := if sealed then e.lines - from_ else 0
  let s1 := (s.updLane l (fun x => { x with errors := satAdd 32 x.errors 1 })).raise
    { code := 0x0511, obj := obj clsSTN n, sheet := sealed
      fields := [obj clsSTN n, obj clsTK e.tk, e.strip, e.crc, crc, blank] }
  let s2 := if sealed then
      (s1.updStrip n e.first (fun q => { q with crcFrom := some from_ })).spoil e.tk n 2 (1024 * e.strip + from_)
    else s1
  s2.recordBox e

/-- LANE_SUBSTREAM_COMPLETE: the lane has written every line of its sub-stream. An error behind the last line is reported and
recorded; with the fourth lane the CRC is compared. -/
def execLaneSubstreamComplete (lane : Idx) (s : State) : Host.Outcome State Fault Refusal :=
  .next (
    let s := s.enter inCapture
    match s.laneStrip lane with
    | none => s
    | some e =>
      let n := lane / 4
      if s.tripped || !s.inService clsDL lane || !(s.lane lane).fetched || s.laneMore lane e then s
      else
        let d := s.laneDecode lane e
        let bytes := e.lines / 4 * s.lineBytes n
        let crc := crc32 ((rasterLines e.pred (s.lineBytes n) (e.lines / 4) d.out).flatten)
        let s1 := match d.err with
          | some (c, at_) => s.decodeError lane e c at_ true
          | none => s
        if (s1.station n).queue.any (fun q => q.first == e.first && q.tk == e.tk) then
          let done := e.done ++ [(lane % 4, some crc)]
          let s2 := s1.updStrip n e.first (fun q => { q with done := done })
          let cs := (List.range 4).map (fun r => (done.lookup r).getD none)
          let s3 :=
            if 4 ≤ done.length ∧ cs.all (fun c => c.isSome) then
              let sum := joinCrcs bytes (cs.map (fun c => c.getD 0))
              if sum = e.crc then s2 else s2.crcMismatch lane e sum
            else s2
          if (s3.station n).queue.any (fun q => q.first == e.first && q.tk == e.tk) then s3.laneNext lane else s3
        else s1)

end Sys2Proof.Machine
end

