-- ==== Sys2Proof/Machine/Compress.lean ====
section
/-!
DEFINITION. The compressor lane CL0 (R195 to R200).
-/
namespace Sys2Proof.Machine

/-- Bytes of one sub-stream of a source: of a RAW one from its length, of a CONTAINER from its header; 0 when neither tells. -/
def State.subBytes (s : State) (src len : Nat) : Nat :=
  if s.par clsCL 0 0x000 = 0 then len / 4
  else
    let (h, _, _) := s.storeRead src 32 9
    8 * leAt h 6 1 * (8 * leAt h 4 2)

/-- A store range that a job may not use. -/
def State.badRange (s : State) (a n : Nat) : Bool := n == 0 || !s.storeRange a n || inFirmware a

/-- Two byte ranges overlap. -/
def overlap (a n b m : Nat) : Bool := decide (a < b + m) && decide (b < a + n)

/-- The idle firmware-owned channels of class COMPRESSOR (R161). -/
def State.jobChannels (s : State) : List Nat :=
  (List.range 32).filter (fun c => (s.dma c).state == .idle && !s.hostOwned c && s.par clsDMA c 0x000 == 2)

/-- COMPRESS_JOB: it answers at its end (Table 4-14). (DEDUCED: assumption 28) -/
def execCompressJob (m : Msg) (s : State) : Host.Outcome State Fault Refusal :=
  .next (
    let s := s.enter inDirect
    let level := m.argN 8 1
    let dyn := m.argN 9 1
    let src := m.pay 0 8
    let dst := m.pay 8 8
    let len := m.pay 16 8
    let limit := m.pay 24 8
    let raw := s.par clsCL 0 0x000 == 0
    let line := 8 * s.par clsCL 0 0x003
    s.command 0x0520 m
      (m.plen 32 ++ m.argRes 0xffffffffffff0000 ++ refuse (decide (9 < level) || decide (1 < dyn)) stBAD_ARG
        ++ s.inModes modesStore ++ s.dramRefs ++ refuse (dyn == 1 && s.die.variant != 1) stUNSUPPORTED
        ++ refuse (raw && !(len % (32 * line) == 0 && decide (1 ≤ len / (32 * line)) && decide (len / (32 * line) ≤ 32))) stBAD_VALUE
        ++ refuse (dst % 4096 != 0 || s.badRange src len || s.badRange dst limit || overlap src len dst limit
          || decide (limit < boxBound (s.subBytes src len))) stBAD_VALUE
        ++ refuse ((pagesOf dst limit).any s.lockedPage) stSHEET_LOCKED
        ++ refuse s.jobChannels.isEmpty stNO_RESOURCE)
      (fun r u =>
        let u1 := u.hold 0x0520 m
        { u1 with store := { u1.store with jobs := u1.store.jobs ++ [{
          reply := r, level := level, dyn := dyn == 1, src := src, dst := dst, len := len, limit := limit, container := !raw
          pred := u.par clsCL 0 0x001, station := u.par clsCL 0 0x002, width16 := u.par clsCL 0 0x003
          bound := boxBound (u.subBytes src len) }] } }))

/-- The largest LENGTH of a descriptor (Table 7-3). -/
abbrev maxLength : Nat := 0xffffff

/-- Descriptors of a kind for `n` bytes from an address on: kind, address, bytes. -/
def descsFor (kind a n : Nat) : List (Nat × Nat × Nat) :=
  (List.range (ceilDiv n maxLength)).map (fun k => (kind, a + k * maxLength, min maxLength (n - k * maxLength)))

/-- The chain of a job (R195): COMP_FEED of the source, and COMP_DRAIN to the destination up to the bound of R198. -/
def Job.chain (j : Job) : List (Nat × Nat × Nat) := descsFor 3 j.src j.len ++ descsFor 4 j.dst j.bound

/-- The 32 bytes of descriptor `i` of a chain of `n` that stands from offset 0 of descriptor SRAM on (Table 7-3). -/
def chainDesc (n i : Nat) (d : Nat × Nat × Nat) : Bytes :=
  toLE 4 ((if i + 1 = n then 1 else 2) + d.1 * 16 + d.2.2 * 256) ++ toLE 4 0
    ++ toLE 8 (if d.1 = 3 then d.2.1 else 0) ++ toLE 8 (if d.1 = 3 then 0 else d.2.1)
    ++ toLE 8 (if i + 1 = n then 0 else 32 * (i + 1))

/-- COMPRESS_JOB_START: CL0 is idle and takes the oldest job, and with it the lowest idle channel, which firmware starts at the chain
that it has written. (DESIGN CHOICE: assumption 28) -/
def execCompressJobStart (s : State) : Host.Outcome State Fault Refusal :=
  .next (match s.store.job, s.store.jobs, s.jobChannels with
    | none, j :: rest, c :: _ =>
      if s.tripped then s
      else
        let ds := j.chain
        let s1 : State := { s with store := { s.store with job := some { j with ch := c }, jobs := rest } }
        (ds.zipIdx.foldl (fun u e => u.memWrite 10 (32 * e.2) (chainDesc ds.length e.2 e.1) 0) s1).startChain c 0
    | _, _, _ => s)

/-- The job ends: it answers, and 0x0520 reports the same. -/
def State.jobEnd (s : State) (j : Job) (code : Nat) (data : Bytes) : State :=
  (({ s with store := { s.store with job := none } }).raise
    { code := 0x0520, obj := obj clsCL 0, fields := [code, j.input.length, j.outAt, j.level, b2n j.dyn] }).post j.reply code noIndex data

/-- After any result but OK the destination holds undefined data, and its pages are DIRTY (R200). (DEDUCED: assumption 28) -/
def State.jobFail (s : State) (j : Job) (code : Nat) (data : Bytes) : State :=
  let (b, s1) := s.freshBytes j.limit
  let s2 := ((pagesOf j.dst j.limit).filter (fun p => !s.lockedPage p)).foldl (fun u p =>
    let a := max (4096 * p) j.dst
    (u.dirty j.ch p).memWrite (storeInst a) a (bytesAt b (a - j.dst) (min 4096 (j.dst + j.limit - 4096 * p))) 0) s1
  s2.jobEnd j code data

/-- No write to a page of a range is on its way to DRAM. -/
def State.allLanded (s : State) (a n : Nat) : Bool :=
  s.store.flights.all (fun f => !(pagesOf f.addr f.data.length).any (fun p => (pagesOf a n).contains p))

/-- An uncorrectable error in CL0's memory (Table 17-3, reader 9): the job fails, and a descriptor of it in progress with it. -/
def State.clError (s : State) (j : Job) (a : Nat) : State :=
  let s1 := (s.reportUe 18 a 0x9 (obj clsCL 0) [obj clsCL 0]).jobFails j.ch stFAULT_LATCHED
  let x := s1.dma j.ch
  if x.state = .running ∧ x.step = .transfer ∧ x.desc.kind = 4 then s1.descFail j.ch 8 else s1

/-- A job whose channel runs no more comes to its end: with its container once all of it has arrived in DRAM, whose pages are FENCED
then (R171); with what it failed with; or, when its channel was closed or faulted under it, with a status that the manual does
not give: a free choice among those of R200. -/
def State.jobDone (s : State) (j : Job) : State :=
  match j.fail, j.box with
  | some (code, data), _ => s.jobFail j code data
  | none, some b =>
    if b.length ≤ j.outAt then
      (if s.allLanded j.dst b.length then
        (s.fenceAll (fun p _ => (pagesOf j.dst b.length).contains p)).jobEnd j stOK (toLE 8 b.length)
      else s)
    else let (k, s1) := s.fresh; s1.jobFail j ([stSHEET_LOCKED, stFAULT_LATCHED, stBAD_VALUE].getD (k % 3) stBAD_VALUE) []
  | none, none => let (k, s1) := s.fresh; s1.jobFail j ([stSHEET_LOCKED, stFAULT_LATCHED, stBAD_VALUE].getD (k % 3) stBAD_VALUE) []

/-- COMPRESS_JOB_END: the job's chain has run, and it ends. `ue`: an uncorrectable error in CL0's history or hash memory. (DEDUCED: assumption 28) -/
def execCompressJobEnd (ue : Option Nat) (s : State) : Host.Outcome State Fault Refusal :=
  .next (match s.store.job with
    | none => s
    | some j =>
      if s.tripped then s
      else
        let s1 := match ue with
          | some a => s.clError j a
          | none => s
        if (s1.dma j.ch).state = .running then s1
        else match s1.store.job with
          | some j1 => s1.jobDone j1
          | none => s1)

end Sys2Proof.Machine
end

