-- ==== Sys2Proof/Machine/Ecc.lean ====
section
/-!
DEFINITION. Scrubbing (R402, R403) and the ECC registers with their test port (R398, R400, R401).
-/
namespace Sys2Proof.Machine

/-! ### Scrubbing -/

/-- The reader code of an instance's normal user (Tables 17-1 and 17-3), under which a scrub counts. -/
def scrubReader (i : Nat) : Nat :=
  if i < 8 then 0x1 else if i < 10 then 0x3 else if i = 10 then 0x5 else if i = 11 then 0xc else if i = 12 then 0xb
  else if i = 17 then 0x8 else if i = 18 then 0x9 else if i = 19 then 0xa else if i = 20 then 0x2 else if i = 21 then 0xd else 0x7

/-- SCRUB: it answers when the range has been read. -/
def execScrub (m : Msg) (s : State) : Host.Outcome State Fault Refusal :=
  .next (
    let s := s.enter inDirect
    let i := m.argN 8 1
    let a := m.pay 0 8
    let n := m.pay 8 8
    s.command 0x0820 m
      (m.plen 16 ++ m.argRes 0xffffffffffffff00 ++ refuse (decide ((13 ≤ i ∧ i ≤ 16) ∨ 23 < i)) stBAD_ARG
        ++ refuse (s.mem i).scrub.isSome stBUSY ++ refuse (!s.memHere i) stNOT_PRESENT
        ++ refuse (a % 8 != 0 || n % 8 != 0 || n == 0 || !s.memRange i a n) stBAD_VALUE
        ++ refuse (s.mem i).test stWRONG_STATE)
      (fun r u => (u.hold 0x0820 m).updMem i (fun x => { x with scrub := some (r, a, n, u.tempo) })))

/-- What a scrub has counted: CEs fixed, words with a UE, the first of them and the last. -/
structure Scrubbed where
  fixed : Nat := 0
  ues : Nat := 0
  first : Option Nat := none
  last : Option Nat := none

/-- Scrub one word: it is read and counted without any outcome, and written back corrected when it had a CE. (DEDUCED: assumption 39) -/
def State.scrubWord (s : State) (i w : Nat) (c : Scrubbed) : State × Scrubbed :=
  let (r, s1) := (s.drainWord i w).checkedWord i w
  if r.cls = 1 then (((s1.reportCe i (wordAddr w) r.bitNo (scrubReader i)).writeWord i w r.data), { c with fixed := c.fixed + 1 })
  else if r.cls = 2 then
    (s1.reportUe i (wordAddr w) (scrubReader i),
      { c with ues := c.ues + 1, first := some (c.first.getD (wordAddr w)), last := some (wordAddr w) })
  else (s1, c)

/-- SCRUB_DONE: the range has been read in ascending order, and 0x0e20 and the answer give the counts. No other write falls
between a word's read and its write-back. (DEDUCED: assumption 39) -/
def execScrubDone (inst : Idx) (s : State) : Host.Outcome State Fault Refusal :=
  .next (match (s.mem inst).scrub with
    | none => s
    | some (r, a, n, t) =>
      let (s1, c) := (List.range (n / 8)).foldl (fun x k => x.1.scrubWord inst (a / 8 + k) x.2) (s, {})
      let s2 := s1.updMem inst (fun x => { x with scrub := none })
      let none_ := 2 ^ 64 - 1
      (s2.raise { code := 0x0e20, fields := [inst, n / 8, c.fixed, c.ues] }).ok r
        (toLE 8 (n / 8) ++ toLE 4 c.fixed ++ toLE 4 0 ++ toLE 4 c.ues ++ toLE 8 (c.first.getD none_) ++ toLE 8 (c.last.getD none_)
          ++ toLE 4 (min (2 ^ 32 - 1) (s.tempo - t))))

/-! ### Registers (Table 17-2) -/

/-- A write of ECC_STATUS: 1 clears CE_SEEN or UE_SEEN, unless it is set in the same tempo (R13). -/
def State.clearEcc (s : State) (i v : Nat) : State :=
  if s.eccOpen i then
    s.updMem i (fun m => { m with
      ceSeen := m.ceSeen && (!bit v 2 || decide (0 < m.ceNew.now s.tempo))
      ueSeen := m.ueSeen && (!bit v 3 || decide (0 < m.ueNew.now s.tempo)) })
  else s

/-- ECC_STATUS_CLEAR. -/
def execEccStatusClear (inst : Idx) (v : Word) (s : State) : Host.Outcome State Fault Refusal :=
  .next (s.access (fun u => u.clearEcc inst v.toNat))

/-- A read of ECC_CE_COUNT returns and clears it; what this tempo counted is kept for the next read (R13). -/
def State.takeCe (s : State) (i : Nat) : Nat × State :=
  let k := (s.mem i).ceNew.now s.tempo
  if s.eccOpen i then ((s.mem i).ceCount - k, s.updMem i (fun m => { m with ceCount := k })) else (0, s)

/-- A read of ECC_UE_COUNT returns and clears it; what this tempo counted is kept for the next read (R13). -/
def State.takeUe (s : State) (i : Nat) : Nat × State :=
  let k := (s.mem i).ueNew.now s.tempo
  if s.eccOpen i then ((s.mem i).ueCount - k, s.updMem i (fun m => { m with ueCount := k })) else (0, s)

/-- TEST_EN: on where R400 allows it, off at once. -/
def State.setTest (s : State) (i : Nat) (on : Bool) : State :=
  if s.eccOpen i then s.updMem i (fun m => { m with test := on && (m.test || s.testAllowed i) }) else s

/-- A write of ECC_TEST_CTRL: TEST_EN, OP, and with GO the operation. A reserved OP is not stored (R12). (DEDUCED: assumption 39) -/
def State.writeTestCtrl (s : State) (i v : Nat) : State :=
  let s1 := s.setTest i (bit v 0)
  let s2 := if s.eccOpen i ∧ field v 1 3 < 6 then s1.updMem i (fun m => { m with op := field v 1 3 }) else s1
  if bit v 4 then s2.testOp i (field v 1 3) else s2

/-- ECC_TEST_ENABLE. -/
def execEccTestEnable (inst : Idx) (v : Word) (s : State) : Host.Outcome State Fault Refusal :=
  .next (s.access (fun u => u.writeTestCtrl inst v.toNat))

/-- READ_RAW. -/
def execReadRaw (inst : Idx) (s : State) : Host.Outcome State Fault Refusal := .next (s.access (fun u => u.testReadRaw inst))

/-- READ_CHECKED. -/
def execReadChecked (inst : Idx) (s : State) : Host.Outcome State Fault Refusal := .next (s.access (fun u => u.testReadChecked inst))

/-- WRITE_DATA. -/
def execWriteData (inst : Idx) (s : State) : Host.Outcome State Fault Refusal := .next (s.access (fun u => u.testWriteData inst))

/-- WRITE_CHECK. -/
def execWriteCheck (inst : Idx) (s : State) : Host.Outcome State Fault Refusal := .next (s.access (fun u => u.testWriteCheck inst))

/-- WRITE_RAW. -/
def execWriteRaw (inst : Idx) (s : State) : Host.Outcome State Fault Refusal := .next (s.access (fun u => u.testWriteRaw inst))

/-- WRITE_NORMAL. -/
def execWriteNormal (inst : Idx) (s : State) : Host.Outcome State Fault Refusal := .next (s.access (fun u => u.testWriteNormal inst))

/-- ECC_TEST_DONE: the operation that GO began completes. -/
def execEccTestDone (inst : Idx) (s : State) : Host.Outcome State Fault Refusal :=
  .next (if (s.mem inst).testBusy then s.updMem inst (fun m => { m with done := true, testBusy := false }) else s)

/-- A write of one of the test registers. -/
def State.writeTestReg (s : State) (i off v : Nat) : State :=
  let low := fun (x : Nat) => x / 2 ^ 32 * 2 ^ 32 + v
  let high := fun (x : Nat) => x % 2 ^ 32 + v * 2 ^ 32
  let set := fun (f : Mem → Mem) => if s.eccOpen i then s.updMem i f else s
  if off = 0x1c then set (fun m => { m with tAddr := low m.tAddr / 8 * 8 })
  else if off = 0x20 then set (fun m => { m with tAddr := high m.tAddr })
  else if off = 0x24 then set (fun m => { m with tData := low m.tData })
  else if off = 0x28 then set (fun m => { m with tData := high m.tData })
  else if off = 0x2c then set (fun m => { m with tCheck := v % 256 })
  else s

end Sys2Proof.Machine
end

