-- ==== Sys2Proof/Machine/Service.lean ====
section
/-!
DEFINITION. Description, service and group commands (Table 4-11; PROMOTE stands in Machine/Scan.lean), and the checks of the
press description (R92).
-/
namespace Sys2Proof.Machine

/-! ### PRESS_COMMIT (R92) -/

/-- A parameter address when a condition on it is broken. -/
def broken (c i p : Nat) (bad : Bool) : List Nat := if bad then [addr c i p] else []

/-- Tile and group rules (R24, R344, R385). -/
def State.tileFaults (s : State) : List Nat :=
  (s.units clsDT).flatMap (fun k =>
    let m := s.tMode k
    broken clsDT k 0x001 ((m == 5 || m == 6) && s.par clsDT k 0x001 == 1)
      ++ broken clsDT k 0x002 (m == 6 && s.par clsDT k 0x002 == 1)
      ++ broken clsDT k 0x000 ((m == 5 || m == 6) && (s.parent (obj clsDT k)).isSome))
  ++ (List.range 128).flatMap (fun g =>
    let ks := s.tilesOf (obj clsGRP g)
    [0x000, 0x001, 0x002].flatMap (fun p => ks.flatMap (fun k =>
      broken clsDT k p (s.par clsDT k p != s.par clsDT (ks.headD 0) p))))

/-- Scan limits (Table 0-5; the other limits are the ranges of the parameters) and st.poly_tile (R249, R321). -/
def State.stationFaults (s : State) : List Nat :=
  (s.units clsSTN).flatMap (fun n =>
    let t := s.par clsSTN n 0x011
    broken clsSTN n 0x003 (decide (256 * 500000000 * s.par clsSTN n 0x003 < 3 * s.par clsSTN n 0x002 * s.par clsSTN n 0x001))
      ++ broken clsSTN n 0x011 (t != 255 &&
        (!s.inService clsDT t || s.tMode t != 3 || (s.parent (obj clsDT t)).isSome)))

/-- Buses (R282, R285). -/
def State.busFaults (s : State) : List Nat :=
  (List.range 8).flatMap (fun b =>
    let member := fun (k : Nat) => s.inService clsDT k && bit (s.par clsDT k 0x023) 43 && field (s.par clsDT k 0x023) 40 3 == b
    let ch := s.par clsDEV 0 (0x048 + b)
    let lim := s.par clsDEV 0 (0x040 + b)
    let f := fun (lo : Nat) => field lim lo 12
    broken clsDEV 0 (0x048 + b) (ch != 255 && (!member ch || s.tMode ch != 7))
      ++ broken clsDEV 0 (0x040 + b) ((List.range 64).any member &&
        !(decide (f 0 < f 12) && decide (f 12 ≤ f 24) && decide (f 24 ≤ f 36) && decide (f 36 < f 48))))

/-- The rails reached from a set of rails by `n` rounds of dependencies. -/
def State.depClosure (s : State) : Nat → List Nat → List Nat
  | 0, is => is
  | n + 1, is => s.depClosure n (uniq (is ++ is.flatMap (fun i => (List.range 32).filter (fun j => bit (s.par clsRAIL i 0x000) j))))

/-- A rail depends on itself through others. -/
def State.railCycle (s : State) (i : Nat) : Bool :=
  (s.depClosure 32 ((List.range 32).filter (fun j => bit (s.par clsRAIL i 0x000) j))).contains i

/-- Rails (R360). -/
def State.railFaults (s : State) : List Nat :=
  s.usedRails.flatMap (fun i =>
    broken clsRAIL i 0x000 ((List.range 32).any (fun j => bit (s.par clsRAIL i 0x000) j && !s.railUsed j) || s.railCycle i)
      ++ broken clsRAIL i 0x002 (decide (s.par clsRAIL i 0x002 ≤ s.par clsRAIL i 0x001))
      ++ broken clsRAIL i 0x005 (field (s.par clsRAIL i 0x005) 0 2 == 1 && field (s.par clsRAIL i 0x005) 32 16 == 0))

/-- The first offending parameter address, in ascending order. (DESIGN CHOICE: assumption 11) -/
def State.pressFault (s : State) : Option Nat :=
  (s.tileFaults ++ s.stationFaults ++ s.busFaults ++ s.railFaults).min?

/-- PRESS_COMMIT. -/
def execPressCommit (m : Msg) (s : State) : Host.Outcome State Fault Refusal :=
  .next (
    let s := s.enter inDirect
    s.command 0x0100 m
    (m.plen 0 ++ m.argRes 0xffffffffffffffff ++ s.inModes [.configure] ++ refuse s.md.pressOk stWRONG_STATE
      ++ (s.pressFault.map (fun a => ({ code := stDESC_INVALID, data := toLE 4 a } : Ref))).toList)
    (fun r u => { u with md := { u.md with pressOk := true } }.ok r))

/-- PRESS_CLEAR. -/
def execPressClear (m : Msg) (s : State) : Host.Outcome State Fault Refusal :=
  .next (
    let s := s.enter inDirect
    s.command 0x0101 m (m.plen 0 ++ m.argRes 0xffffffffffffffff ++ s.inModes [.configure])
    (fun r u => { u with md := { u.md with pressOk := false } }.ok r))

/-! ### SERVICE_SET (R4) -/

/-- The command whose run a unit that goes out of service was in the middle of is answered as for an absent unit. (DESIGN CHOICE: assumption 19) -/
def State.answerRun (s : State) (r : Option Reply) : State := match r with
  | some x => s.post x stNOT_PRESENT
  | none => s

/-- A unit goes out of use: from then on it behaves as an absent one (R4). (DESIGN CHOICE: assumption 19) -/
def State.idleUnit (s : State) (c i : Nat) : State :=
  if c = clsSTN then (s.disableStation i).setGear (obj clsSTN i) {}
  else if c = clsBEAM then s.setBeam i {}
  else if c = clsVL then ((s.stopPx i).setLink i {}).answerRun ((s.link i).train.map (fun t => t.reply))
  else if c = clsDL then s.updLane i (fun l => { strip := l.strip })
  else
    let s0 := s.answerRun ((s.tile i).diag.map (fun d => d.reply))
    let s1 := (((((s0.disableTile i).setTile i {}).setLoop i {}).setPoly i {}).setHeat i {}).setAxis (obj clsDT i) {}
    ((List.range 3).foldl (fun u j => u.setLeg (4 * i + j) {}) s1).setGear (obj clsDT i) {}

/-- The in-service bit of a unit. A group that contains a removed tile becomes degraded (R26). (DESIGN CHOICE: assumption 19) -/
def State.setService (s : State) (c i : Nat) (back : Bool) : State :=
  if back then
    let s1 := { s with removed := Map.put (fun _ => false) s.removed (obj c i) false }
    if c = clsDL then s1.updLane i (fun l => { l with strip := max l.strip (s.station (i / 4)).qBase }) else s1
  else
    let s1 := s.idleUnit c i
    let s2 := if c = clsDT then (s1.parents 128 (obj c i)).foldl
      (fun u g => u.updGroup (aIdx g) (fun x => { x with degraded := true })) s1 else s1
    { s2 with removed := Map.put (fun _ => false) s2.removed (obj c i) true }

/-- SERVICE_SET. (DESIGN CHOICE: assumption 19) -/
def execServiceSet (m : Msg) (s : State) : Host.Outcome State Fault Refusal :=
  .next (
    let s := s.enter inDirect
    let o := m.argN 8 4
    let back := m.argN 12 1
    let c := aCls o
    let i := aIdx o
    let here := if back = 1 then s.present c i else s.inService c i
    s.command 0x0110 m
      (m.plen 0 ++ m.argRes 0xffffff0000000000
        ++ refuse (aPid o != 0 || decide (1 < back)
          || (classInstances c != 0 && !([clsSTN, clsBEAM, clsVL, clsDL, clsDT].contains c))) stBAD_ARG
        ++ s.inModes modesCfSbSh
        ++ (if classInstances c ≤ i then refuse true stUNKNOWN_ADDRESS else refuse (!here) stNOT_PRESENT))
      (fun r u => (if back = 1 ∧ s.inService c i then u else u.setService c i (back == 1)).ok r))

/-! ### Groups (R23, R24, R93, R344) -/

/-- A group object argument, and whether it or a group that contains it is enabled. -/
def State.groupRefs (s : State) (o : Nat) : List Ref :=
  s.objRefs o [clsGRP] ++ refuse ((o :: s.parents 128 o).any (fun g => (s.group (aIdx g)).enabled)) stGROUP_ENABLED

/-- The statuses of member `j` of a proposed list: rules of membership, and a mode unlike the first tile's in the outermost
group that would contain it. (DESIGN CHOICE: assumption 11) -/
def State.memberStatus (s : State) (o : Nat) (ms : List Nat) (j x : Nat) : List Nat :=
  if aPid x ≠ 0 then [stBAD_ARG]
  else if classInstances (aCls x) ≠ 0 ∧ aCls x ≠ clsDT ∧ aCls x ≠ clsGRP then [stBAD_VALUE]
  else if !(s.addrStatus x).isEmpty then s.addrStatus x
  else
    let new := s.updGroup (aIdx o) (fun g => { g with members := ms })
    let top := ((s.parents 128 o).getLast?).getD o
    let first := ((new.tilesOf top).headD 0)
    let enabled := if aCls x = clsDT then (s.tile (aIdx x)).prot != .disabled else (s.group (aIdx x)).enabled
    let elsewhere := match s.parent x with
      | some p => p != o
      | none => false
    (if (ms.take j).contains x || elsewhere || (s.span x).contains o
        || (new.tilesOf x).any (fun k => s.tMode k == 5 || s.tMode k == 6 || s.tMode k != s.tMode first)
      then [stGROUP_RULE] else []) ++ (if enabled then [stWRONG_STATE] else [])

/-- GROUP_SET: the whole membership is replaced, which rebuilds a degraded group (R26). -/
def execGroupSet (m : Msg) (s : State) : Host.Outcome State Fault Refusal :=
  .next (
    let s := s.enter inDirect
    let o := m.argN 8 4
    let n := m.payload.length
    let ms := (records 4 m.payload).map ofLE
    s.command 0x0120 m
      (refuse (n == 0 || n % 4 != 0 || decide (512 < n)) stMALFORMED ++ m.argRes 0xffffffff00000000
        ++ s.inModes [.configure, .standby, .warmUp, .ready, .safeHold] ++ s.groupRefs o
        ++ refuseEach ms (fun j x => s.memberStatus o ms j x))
      (fun r u => (u.setGroup (aIdx o) { members := ms }).ok r))

/-- GROUP_GET: enabled and degraded as one byte each, and the member list. (DESIGN CHOICE: assumption 11) -/
def execGroupGet (m : Msg) (s : State) : Host.Outcome State Fault Refusal :=
  .next (
    let s := s.enter inDirect
    let o := m.argN 8 4
    let g := s.group (aIdx o)
    s.command 0x0121 m (m.plen 0 ++ m.argRes 0xffffffff00000000 ++ s.objRefs o [clsGRP])
      (fun r u => u.ok r (toLE 1 (b2n g.enabled) ++ toLE 1 (b2n g.degraded) ++ g.members.flatMap (toLE 4))))

/-- GROUP_CLEAR. -/
def execGroupClear (m : Msg) (s : State) : Host.Outcome State Fault Refusal :=
  .next (
    let s := s.enter inDirect
    let o := m.argN 8 4
    s.command 0x0122 m
      (m.plen 0 ++ m.argRes 0xffffffff00000000 ++ s.inModes [.configure, .standby, .warmUp, .ready, .safeHold]
        ++ s.groupRefs o)
      (fun r u => (u.setGroup (aIdx o) {}).ok r))

end Sys2Proof.Machine
end

