-- ==== Sys2Proof/Machine/Rails.lean ====
section
/-!
DEFINITION. Rail sequencing and cascade (chapter 15): the power-up and power-downs of the host rails, their failures, the
cascade pins and PWRFLT_N, and the ledger (R386).
-/
namespace Sys2Proof.Machine

/-! ### The ledger (R386) -/

/-- 0x0d13, once after each wake, when all 64 slots are used. (DESIGN CHOICE: assumption 17; DEDUCED: assumption 37) -/
def State.ledgerCheck (s : State) : State :=
  if 64 ≤ s.aon.ledger.length ∧ !s.aon.ledgerFull then
    { s with aon := { s.aon with ledgerFull := true } }.raise { code := 0x0d13 }
  else s

/-- Start or queue a ledger entry; none when every slot is used or spoken for. (DEDUCED: assumption 37) -/
def State.ledgerWrite (s : State) (kind source : Nat) : State :=
  if s.aon.ledger.length + s.aon.ledgerQueue.length < 64 then
    { s with aon := { s.aon with ledgerQueue := s.aon.ledgerQueue ++ [
      ({ kind := kind, source := source, mode := s.md.mode.code, temp := s.therm.max / 8, tempo := s.tempo, ok := true } : LedgerEntry)] } }
  else s

/-- LEDGER_WRITE_DONE: the entry being written is complete, and the next one starts. -/
def execLedgerWriteDone (s : State) : Host.Outcome State Fault Refusal :=
  .next (match s.aon.ledgerQueue with
    | [] => s
    | e :: rest =>
      let s1 : State := { s with aon := { s.aon with ledgerQueue := rest, ledger := s.aon.ledger ++ [e] } }
      if s.md.mode = .dormant then s1 else s1.ledgerCheck)

/-! ### Rails -/

/-- The rails a rail depends on (Table 15-1). -/
def State.deps (s : State) (i : Nat) : List Nat := (List.range 32).filter (fun j => bit (s.par clsRAIL i 0x000) j)

/-- The used rails that depend on a rail directly. -/
def State.dependants (s : State) (i : Nat) : List Nat := s.usedRails.filter (fun j => (s.deps j).contains i)

/-- The used rails that depend on a rail, directly or through others. -/
def State.allDependants (s : State) (i : Nat) : List Nat := s.usedRails.filter (fun j => (s.depClosure 32 (s.deps j)).contains i)

/-- A field of rail.cfg (Table 15-2). -/
def State.railCfg (s : State) (i lo w : Nat) : Nat := field (s.par clsRAIL i 0x005) lo w

/-- Microseconds in tempo. -/
abbrev us (n : Nat) : Nat := 500 * n

/-- RAILEN of a rail: an own rail that rises or is up; in Dormant the KEEP bits; and else a host rail that is RISING or UP
(Tables 15-3 and 2-6). -/
def State.railEn (s : State) (i : Nat) : Bool :=
  if i < 5 then s.railState i == .rising || s.railState i == .up
  else (s.rail i).state == .rising || (s.rail i).state == .up

/-- A rail enters a state. SEQUP_OUT goes low in the tempo in which a used host rail leaves UP (R372). -/
def State.toRail (s : State) (i : Nat) (st : RailState) : State :=
  let r := s.rail i
  if r.state = st then s
  else
    let s1 := s.setRail i { r with
      state := st, tempo := s.tempo, fell := if r.state = .falling then some s.tempo else r.fell, asTime := false, polls := 0, vmode := none
      kept := false, low := false }
    if r.state = .up ∧ s.railUsed i then { s1 with aon := { s1.aon with seqUpOut := false } } else s1

/-- The used rails in a state, as a mask. -/
def State.railMask (s : State) (st : RailState) : Nat := maskOf (s.usedRails.filter (fun i => (s.rail i).state == st))

/-- A sequence of this chapter is running (R364). -/
def State.sequencing (s : State) : Bool :=
  s.rails.up.isSome || !s.rails.downs.isEmpty || s.rails.runoutDown || s.aon.wake == .down

/-- 0x0c07: the cause codes are not given, a free value. (DESIGN CHOICE: assumption 17) -/
def State.sequenceDone (s : State) (last : Nat) : State :=
  let (c, s1) := s.fresh
  s1.raise { code := 0x0c07, fields := [c, s1.railMask .up, s1.railMask .failed, last] }

/-! ### Power-up (R364) -/

/-- The failed or blocked rail that blocks a waiting rail. -/
def State.blocker (s : State) (i : Nat) : Option Nat :=
  (s.deps i).find? (fun j => (s.rail j).state == .failed || (s.rail j).state == .blocked)

/-- Waiting rails of which a dependency is FAILED or BLOCKED enter BLOCKED with 0x0c06, through `n` rounds. -/
def State.blockRails (s : State) : Nat → State
  | 0 => s
  | n + 1 =>
    (s.usedRails.foldl (fun u i =>
      match (u.rail i).state, u.blocker i with
      | .waiting, some j => (u.toRail i .blocked).raise { code := 0x0c06, obj := obj clsRAIL i, fields := [obj clsRAIL i, obj clsRAIL j] }
      | _, _ => u) s).blockRails n

/-- A waiting rail may rise: each of its dependencies is UP, and its delay has passed since the last became UP. (DEDUCED: assumption 37) -/
def State.mayRise (s : State) (i : Nat) : Bool :=
  (s.rail i).state == .waiting &&
    (s.deps i).all (fun j => (s.rail j).state == .up && decide ((s.rail j).tempo + us (s.par clsRAIL i 0x004) ≤ s.tempo))

/-- The power-up ends when no rail is WAITING or RISING. -/
def State.upEnd (s : State) : State :=
  match s.rails.up with
  | none => s
  | some r =>
    if s.usedRails.any (fun i => (s.rail i).state == .waiting || (s.rail i).state == .rising) then s
    else
      let good := s.usedRails.all (fun i => (s.rail i).state == .up)
      let s1 : State := { s with
        rails := { s.rails with up := none, upWait := none }
        aon := { s.aon with seqUpOut := s.aon.seqUpOut || good } }
      let s2 := s1.sequenceDone (s1.railMask .blocked)
      s2.post r (if good then stOK else stFAULT_LATCHED) noIndex
        (toLE 4 (s1.railMask .up) ++ toLE 4 (s1.railMask .failed) ++ toLE 4 (s1.railMask .blocked))

/-- A running power-up goes as far as it can in this tempo. -/
def State.upAdvance (s : State) : State :=
  if s.rails.up.isSome && s.rails.upWait.isNone then
    let s1 := s.blockRails 32
    let s2 := (s1.usedRails.filter s1.mayRise).foldl (fun u i => u.toRail i .rising) s1
    s2.upEnd
  else s

/-- The power-up starts: kept rails count as UP, or fail when their PG is low (R371), and every OFF or BLOCKED rail waits. -/
def State.upStart (s : State) : State :=
  let s1 := s.usedRails.foldl (fun u i =>
    let r := u.rail i
    if r.kept then
      if r.low then (u.toRail i .failed).raise
        { code := 0x0c02, obj := obj clsRAIL i, fields := [obj clsRAIL i, 0xff], latch := [obj clsRAIL i] }
      else u.setRail i { r with kept := false }
    else if r.state = .off ∨ r.state = .blocked then u.toRail i .waiting else u) s
  let s2 : State := { s1 with rails := { s1.rails with upWait := none } }
  s2.upAdvance

/-- RAIL_SEQUENCE with ARG byte 8 = 1. -/
def execRailSequenceUp (m : Msg) (s : State) : Host.Outcome State Fault Refusal :=
  .next (
    let s := s.enter inDirect
    s.command 0x0800 m
    (m.plen 0 ++ m.argRes 0xffffffffffffff00 ++ refuse (m.argN 8 1 != 1) stBAD_ARG ++ s.inModes modesCfSb
      ++ refuse s.sequencing stBUSY)
    (fun r u =>
      let u1 := u.hold 0x0800 m
      if u.aon.seqUpIn then { u1 with rails := { u1.rails with up := some r } }.upStart
      else { u1 with rails := { u1.rails with up := some r, upWait := some (u.tempo + 500000 * u.par clsDEV 0 0x060) } }))

/-- SEQUP_IN_HIGH. -/
def execSequpInHigh (s : State) : Host.Outcome State Fault Refusal :=
  .next (
    let s1 : State := { s with aon := { s.aon with seqUpIn := true } }
    if s.rails.upWait.isSome then s1.upStart else s1)

/-- RAIL_DELAY_EXPIRE. -/
def execRailDelayExpire (rail : Idx) (s : State) : Host.Outcome State Fault Refusal :=
  .next (
    let s := s.enter inTimeouts
    if s.railUsed rail ∧ s.mayRise rail then s.upAdvance else s)

/-! ### Power-down (R365 to R367) -/

/-- A power-down has started: it waits for SEQDN_IN no longer. -/
def State.downsOn (s : State) : List Down := s.rails.downs.filter (fun d => d.wait.isNone)

/-- The rail belongs to a power-down that has started. -/
def State.inDown (s : State) (i : Nat) : Bool := s.downsOn.any (fun d => d.scope.contains i)

/-- A rail of a scope may go down: every rail that depends on it is down, and its delay has passed since the last of them
left FALLING. -/
def State.mayFall (s : State) (i : Nat) : Bool :=
  ((s.rail i).state == .rising || (s.rail i).state == .up) &&
    (s.dependants i).all (fun j =>
      ((s.rail j).state == .off || (s.rail j).state == .failed || (s.rail j).state == .blocked) &&
        (match (s.rail j).fell with
          | some t => decide (t + us (s.par clsRAIL i 0x004) ≤ s.tempo)
          | none => true))

/-- RL01 to RL04 turn off together (R370). -/
def State.ownDown (s : State) : State :=
  if s.aon.wake = .down then s else { s with aon := { s.aon with wake := .down, downAt := s.tempo } }

/-- A scope is down. -/
def State.scopeDown (s : State) (d : Down) : Bool :=
  d.scope.all (fun i => (s.rail i).state == .off || (s.rail i).state == .failed || (s.rail i).state == .unused)

/-- A power-down completes: 0x0c07, its answer, and what follows it (Table 15-4). -/
def State.downDone (s : State) (d : Down) : State :=
  let s1 := s.sequenceDone (maskOf d.timed)
  let s2 := match d.reply with
    | none => s1
    | some r => if d.timed.isEmpty then s1.ok r else s1.post r stTIMEOUT noIndex (toLE 4 (maskOf d.timed))
  match d.cause with
  | .dormant | .ownRail => s2.ownDown
  | _ => s2

/-- The power-downs that have started go as far as they can in this tempo. -/
def State.downAdvance (s : State) : State :=
  let scope := (List.range 32).filter s.inDown
  let s1 := scope.foldl (fun u i =>
    if (u.rail i).state = .waiting ∨ (u.rail i).state = .blocked then u.toRail i .off else u) s
  let s2 := (scope.filter s1.mayFall).foldl (fun u i => u.toRail i .falling) s1
  let done := s2.rails.downs.filter (fun d => d.wait.isNone && s2.scopeDown d)
  let s3 : State := { s2 with rails := { s2.rails with
    downs := s2.rails.downs.filter (fun d => !(d.wait.isNone && s2.scopeDown d)) } }
  done.foldl (fun u d => u.downDone d) s3

/-- A power-down starts. Any but a dependant shutdown stops a running power-up. (DEDUCED: assumption 37) -/
def State.startDown (s : State) (cause : DownCause) (scope : List Nat) (waits : Bool) (reply : Option Reply) : State :=
  let s1 := if cause = .dependant then s
    else match s.rails.up with
      | none => s
      | some r =>
        let u := (s.usedRails.filter (fun i => (s.rail i).state == .waiting)).foldl (fun v i => v.toRail i .off) s
        let u1 : State := { u with rails := { u.rails with up := none, upWait := none } }
        (u1.sequenceDone (u1.railMask .blocked)).post r stFAULT_LATCHED noIndex
          (toLE 4 (u1.railMask .up) ++ toLE 4 (u1.railMask .failed) ++ toLE 4 (u1.railMask .blocked))
  let wait := if waits && !s.aon.seqDnIn then some (s.tempo + 500000 * s.par clsDEV 0 0x060) else none
  { s1 with rails := { s1.rails with downs := s1.rails.downs ++ [({ cause, scope, wait, reply } : Down)] } }.downAdvance

/-- RAIL_SEQUENCE with ARG byte 8 = 0. -/
def execRailSequenceDown (m : Msg) (s : State) : Host.Outcome State Fault Refusal :=
  .next (
    let s := s.enter inDirect
    s.command 0x0800 m
    (m.plen 0 ++ m.argRes 0xffffffffffffff00 ++ refuse (m.argN 8 1 != 0) stBAD_ARG ++ s.inModes modesCfSb
      ++ refuse s.sequencing stBUSY)
    (fun r u => (u.hold 0x0800 m).startDown .sequence u.usedRails true (some r)))

/-- SEQDN_IN_HIGH. -/
def execSeqdnInHigh (s : State) : Host.Outcome State Fault Refusal :=
  .next (
    let s1 : State := { s with aon := { s.aon with seqDnIn := true }, rails := { s.rails with
      downs := s.rails.downs.map (fun (d : Down) => { d with wait := none }) } }
    s1.downAdvance)

/-- CASCADE_WAIT_TIMEOUT: a waiting power-up ends with TIMEOUT; a waiting power-down starts without SEQDN_IN. -/
def execCascadeWaitTimeout (s : State) : Host.Outcome State Fault Refusal :=
  .next (
    let s := s.enter inTimeouts
    let late := fun (d : Down) => match d.wait with
      | some t => decide (t ≤ s.tempo)
      | none => false
    match s.rails.up, s.rails.upWait with
    | some r, some t =>
      if t ≤ s.tempo then
        ({ s with rails := { s.rails with up := none, upWait := none } }.raise
          { code := 0x0c08, fields := [0, s.seqPins] }).post r stTIMEOUT
      else s
    | _, _ =>
      if s.rails.downs.any late then
        ({ s with rails := { s.rails with downs := s.rails.downs.map (fun (d : Down) => if late d then { d with wait := none } else d) } }.raise
          { code := 0x0c08, fields := [1, s.seqPins] }).downAdvance
      else s)

/-- RAIL_STATUS. -/
def execRailStatus (m : Msg) (s : State) : Host.Outcome State Fault Refusal :=
  .next (
    let s := s.enter inDirect
    s.command 0x0801 m (m.plen 0 ++ m.argRes 0xffffffffffffffff)
    (fun r u => u.ok r ((List.range 32).flatMap (fun i => toLE 1 (u.railState i).code))))

/-! ### Failures (R368, R369, R373) -/

/-- Take down the rails that depend on a failed one; those that wait enter BLOCKED. (DEDUCED: assumption 37) -/
def State.dependantDown (s : State) (i : Nat) : State :=
  let scope := (s.allDependants i).filter (fun j => (s.rail j).state == .rising || (s.rail j).state == .up)
  let s1 := s.upAdvance
  if scope.isEmpty then s1.downAdvance else s1.startDown .dependant scope false none

/-- Every run-out program has finished. -/
def State.noRunout (s : State) : Bool := (s.units clsDT).all (fun k => (s.tile k).runout.isNone)

/-- A power-down that PWRFLT_N asked for starts once no run-out program runs (Table 15-4). -/
def State.pwrfltDown (s : State) : State :=
  if s.rails.runoutDown ∧ (s.md.mode ≠ .safeHold ∨ s.noRunout) then
    { s with rails := { s.rails with runoutDown := false } }.startDown .pwrflt s.usedRails false none
  else s

/-- RAIL_SETTLED: PG has been high for the settle time, in the window that its rise timeout leaves; a kept rail seen low is
good again. -/
def execRailSettled (rail : Idx) (s : State) : Host.Outcome State Fault Refusal :=
  .next (
    let s := s.enter inTimeouts
    let r := s.rail rail
    if s.railUsed rail ∧ r.state = .rising ∧ r.tempo + us (s.par clsRAIL rail 0x001) ≤ s.tempo
        ∧ s.tempo ≤ r.tempo + us (s.par clsRAIL rail 0x002) then (s.toRail rail .up).upAdvance
    else if r.kept then s.setRail rail { r with low := false }
    else s)

/-- RAIL_RISE_TIMEOUT: cause NEVER_GOOD, or CHATTER with the number of restarts (R368). -/
def execRailRiseTimeout (r : RiseEnd) (s : State) : Host.Outcome State Fault Refusal :=
  .next (
    let s := s.enter inTimeouts
    let rail := r.rail
    let drops := r.drops
    let r := s.rail rail
    if s.railUsed rail ∧ r.state = .rising ∧ r.tempo + us (s.par clsRAIL rail 0x002) ≤ s.tempo then
      ((s.toRail rail .failed).raise
        { code := 0x0c01, obj := obj clsRAIL rail, latch := [obj clsRAIL rail]
          fields := [obj clsRAIL rail, if drops.isSome then 2 else 1, drops.getD 0] }).dependantDown rail
    else s)

/-- RAIL_LOST. In the power-down of the rail a low PG is a fall; a kept rail that does not yet count is marked low (R371). -/
def execRailLost (rail : Idx) (s : State) : Host.Outcome State Fault Refusal :=
  .next (
    let s := s.enter inEvents
    let r := s.rail rail
    if decide (rail < 5) || r.state != .up || s.inDown rail then s
    else if r.kept then s.setRail rail { r with low := true }
    else if !s.railUsed rail then s
    else
      let loss := s.railCfg rail 2 2
      let o := obj clsRAIL rail
      let s1 := ((s.toRail rail .failed).raise { code := 0x0c02, obj := o, fields := [o, loss], latch := [o], sheet := loss != 0 && s.anySealed }).dependantDown rail
      let s2 := if loss = 2 then s1.assertPwrflt 0x0c02 o else s1
      if loss = 0 then s2 else s2.enterSafeHold 0x0c02)

/-- RAIL_TURN_OFF: the next rail of a power-down, or a power-down that waited for run-out programs. -/
def execRailTurnOff (rail : Idx) (s : State) : Host.Outcome State Fault Refusal :=
  .next (
    let s1 := s.pwrfltDown
    if s1.inDown rail ∧ s1.mayFall rail then s1.downAdvance else s1)

/-- A rail has fallen. -/
def State.fallen (s : State) (i : Nat) : State := (s.toRail i .off).downAdvance

/-- A PMBUS rail is treated as TIME for the rest of this power-down (R366). -/
def State.pmbusFallback (s : State) (i cause : Nat) : State :=
  (s.updRail i (fun r => { r with asTime := true })).raise { code := 0x0c0a, obj := obj clsRAIL i, fields := [obj clsRAIL i, cause] }

/-- The transfer of a PMBus command to a rail's device, after PAGE. (DEDUCED: assumption 37) -/
def State.pmbus (s : State) (i cmd n : Nat) : State :=
  let out := fun (u : State) (d : Bytes) (rd : Nat) => u.emit (.i2c (s.railCfg i 14 2) (s.railCfg i 16 7) d rd)
  let page := s.railCfg i 24 8
  out (if page = 0xff then s else out s (toLE 1 0 ++ toLE 1 page) 0) (toLE 1 cmd) n

/-! ### The transfers of an I2C controller (R366, R422) -/

/-- A PMBus read of a rail is due: one every 125,000 tempo from the tempo in which RAILEN went low (R366). -/
def State.pollDue (s : State) (i : Nat) : Bool :=
  s.railUsed i && (s.rail i).state == .falling && s.railCfg i 0 2 == 1 && !(s.rail i).asTime
    && decide ((s.rail i).tempo + (s.rail i).polls * 125000 ≤ s.tempo)

/-- The transfers of an I2C controller, the one that runs or comes next first. -/
def State.i2cQueue (s : State) (c : Nat) : List Xfer := Map.get (fun _ => []) s.io.i2c c

/-- Set the transfers of an I2C controller. -/
def State.putI2c (s : State) (c : Nat) (q : List Xfer) : State :=
  { s with io := { s.io with i2c := Map.put (fun _ => []) s.io.i2c c q } }

/-- No transfer runs on an I2C controller. -/
def State.i2cFree (s : State) (c : Nat) : Bool := match s.i2cQueue c with
  | x :: _ => !x.on
  | [] => true

/-- The sequencer has a read to make on an I2C controller. -/
def State.seqWaits (s : State) (c : Nat) : Bool := s.usedRails.any (fun i => s.railCfg i 14 2 == c && s.pollDue i)

/-- The next transfer starts, where none runs and the sequencer has nothing to read. -/
def State.i2cNext (s : State) (c : Nat) : State := match s.i2cQueue c with
  | x :: q =>
    if x.on || s.seqWaits c then s
    else (s.putI2c c ({ x with on := true } :: q)).emit (.i2c c x.target x.tx x.rxLen)
  | [] => s

/-- RAIL_FALLEN: PG low for its debounce, or the end of the fall timeout for a TIME rail; for RL01 to RL04 in the own-rail
power-down, PG low (R370). -/
def execRailFallen (rail : Idx) (s : State) : Host.Outcome State Fault Refusal :=
  .next (
    let r := s.rail rail
    let limit := r.tempo + us (s.par clsRAIL rail 0x003)
    let src := s.railCfg rail 0 2
    if 1 ≤ rail ∧ rail < 5 ∧ s.aon.wake = .down then
      { s with aon := { s.aon with ownUp := Map.put (fun _ => false) s.aon.ownUp rail false } }
    else if s.railUsed rail ∧ r.state = .falling then
      if src = 2 ∨ r.asTime then (if limit ≤ s.tempo then s.fallen rail else s)
      else if src = 0 then (if s.tempo ≤ limit then s.fallen rail else s)
      else s
    else s)

/-- RAIL_FALL_TIMEOUT. -/
def execRailFallTimeout (rail : Idx) (s : State) : Host.Outcome State Fault Refusal :=
  .next (
    let s := s.enter inTimeouts
    let r := s.rail rail
    let src := s.railCfg rail 0 2
    if s.railUsed rail ∧ r.state = .falling ∧ src ≠ 2 ∧ !r.asTime ∧ r.tempo + us (s.par clsRAIL rail 0x003) ≤ s.tempo then
      let o := obj clsRAIL rail
      let s1 := (s.toRail rail .failed).raise { code := 0x0c03, obj := o, fields := [o, src], latch := [o] }
      let s2 := (s1.ledgerWrite 4 rail).assertPwrflt 0x0c03 o
      { s2 with rails := { s2.rails with
        downs := s2.rails.downs.map (fun (d : Down) => if d.scope.contains rail then { d with timed := d.timed ++ [rail] } else d) } }.downAdvance
    else s)

/-- PWRFLT_SEEN: another circuit holds PWRFLT_N low for 1 µs while this device does not (R373). -/
def execPwrfltSeen (s : State) : Host.Outcome State Fault Refusal :=
  .next (
    let s := s.enter inProtect
    if s.running ∧ s.aon.pwrflt.isEmpty ∧ !s.aon.pwrfltReported then
      let act := s.par clsDEV 0 0x061
      let s1 := { s with aon := { s.aon with pwrfltExt := true, pwrfltReported := true } }.raise
        { code := 0x0c09, fields := [act, s.tempo], sheet := act != 0 && s.anySealed }
      let s2 := if act = 0 then s1 else s1.enterSafeHold 0x0c09
      if act = 2 then { s2 with rails := { s2.rails with runoutDown := true } }.pwrfltDown else s2
    else s)

/-- PWRFLT_N_RELEASE: no party holds the line any more. -/
def execPwrfltNRelease (s : State) : Host.Outcome State Fault Refusal :=
  .next (
    if s.aon.pwrflt.isEmpty then { s with aon := { s.aon with pwrfltExt := false, pwrfltReported := false } } else s)

end Sys2Proof.Machine
end

