-- ==== Sys2Proof/Machine/Signature.lean ====
section
/-!
DEFINITION. The signature check of the boot ROM (R43, R44): ECDSA on curve P-384 with SHA-384, by FIPS 186-5. The curve and
the hash are those of FIPS 186-5 (SP 800-186) and FIPS 180-4, which the manual names and does not repeat. (PRESUMED: assumption 44)
-/
namespace Sys2Proof.Machine

/-! ### SHA-384 -/

/-- The first `n` primes from a number on. -/
def primesFrom : Nat → Nat → List Nat → List Nat
  | 0, _, acc => acc
  | fuel + 1, k, acc => if acc.any (fun p => k % p == 0) then primesFrom fuel (k + 1) acc else primesFrom fuel (k + 1) (acc ++ [k])

/-- The first 80 primes: 409 is the 80th. -/
def primes80 : List Nat := primesFrom 408 2 []

/-- The largest `r` below `2^n` with `f r` at most `x`, for a rising `f`. -/
def rootBits (f : Nat → Nat) (x : Nat) : Nat → Nat → Nat
  | 0, r => r
  | n + 1, r => rootBits f x n (if f (r + 2 ^ n) ≤ x then r + 2 ^ n else r)

/-- The constants of SHA-512's rounds: the first 64 bits of the fractions of the cube roots of the first 80 primes. -/
def shaK : List Nat := primes80.map (fun p => rootBits (fun r => r * r * r) (p * 2 ^ 192) 68 0 % 2 ^ 64)

/-- The initial hash of SHA-384: the first 64 bits of the fractions of the square roots of the ninth to the sixteenth prime. -/
def sha384Init : List Nat := ((primes80.drop 8).take 8).map (fun p => rootBits (fun r => r * r) (p * 2 ^ 128) 70 0 % 2 ^ 64)

/-- A 64-bit word turned right. -/
def rotr (n x : Nat) : Nat := (x / 2 ^ n + x * 2 ^ (64 - n)) % 2 ^ 64

def shaBig0 (x : Nat) : Nat := Nat.xor (Nat.xor (rotr 28 x) (rotr 34 x)) (rotr 39 x)
def shaBig1 (x : Nat) : Nat := Nat.xor (Nat.xor (rotr 14 x) (rotr 18 x)) (rotr 41 x)
def shaSmall0 (x : Nat) : Nat := Nat.xor (Nat.xor (rotr 1 x) (rotr 8 x)) (x / 2 ^ 7)
def shaSmall1 (x : Nat) : Nat := Nat.xor (Nat.xor (rotr 19 x) (rotr 61 x)) (x / 2 ^ 6)

/-- The message schedule, newest word first: `n` more words after the 16 of the block. -/
def shaSchedule : Nat → List Nat → List Nat
  | 0, w => w
  | n + 1, w => shaSchedule n
      ((shaSmall1 (w.getD 1 0) + w.getD 6 0 + shaSmall0 (w.getD 14 0) + w.getD 15 0) % 2 ^ 64 :: w)

/-- One round on the eight working words. -/
def shaRound (v : List Nat) (kw : Nat) : List Nat :=
  let g := fun i => v.getD i 0
  let ch := Nat.xor (Nat.land (g 4) (g 5)) (Nat.land (2 ^ 64 - 1 - g 4) (g 6))
  let maj := Nat.xor (Nat.xor (Nat.land (g 0) (g 1)) (Nat.land (g 0) (g 2))) (Nat.land (g 1) (g 2))
  let t1 := (g 7 + shaBig1 (g 4) + ch + kw) % 2 ^ 64
  [(t1 + shaBig0 (g 0) + maj) % 2 ^ 64, g 0, g 1, g 2, (g 3 + t1) % 2 ^ 64, g 4, g 5, g 6]

/-- The blocks of 128 bytes hashed in order. -/
def shaBlocks (ks : List Nat) (h : List Nat) (bs : List Byte) : List Nat :=
  (List.range (bs.length / 128)).foldl (fun h i =>
    let block := bytesAt bs (128 * i) 128
    let w := ((List.range 16).map (fun j => ofBE (bytesAt block (8 * j) 8))).reverse
    let ws := (shaSchedule 64 w).reverse
    let v := (ks.zip ws).foldl (fun v kw => shaRound v (kw.1 + kw.2)) h
    (h.zip v).map (fun x => (x.1 + x.2) % 2 ^ 64)) h

/-- The padded message: a 1 bit, zeros, and the length in bits as 16 bytes, big-endian. -/
def shaPad (m : List Byte) : List Byte :=
  m ++ [0x80] ++ List.replicate ((239 - m.length % 128) % 128) 0 ++ (toLE 16 (8 * m.length)).reverse

/-- SHA-384, as a number. -/
def sha384 (m : List Byte) : Nat := ((shaBlocks shaK sha384Init (shaPad m)).take 6).foldl (fun a w => a * 2 ^ 64 + w) 0

/-! ### Curve P-384 -/

/-- The field prime of P-384. -/
def p384 : Nat := 2 ^ 384 - 2 ^ 128 - 2 ^ 96 + 2 ^ 32 - 1

/-- The order of the base point. -/
def p384Order : Nat :=
  0xffffffffffffffffffffffffffffffffffffffffffffffffc7634d81f4372ddf581a0db248b0a77aecec196accc52973

/-- The base point. -/
def p384Base : Nat × Nat :=
  (0xaa87ca22be8b05378eb1c71ef320ad746e1d3b628ba79b9859f741e082542a385502f25dbf55296c3a545e3872760ab7,
   0x3617de4a96262c6f5d9e98bf9292dc29f8f41dbd289a147ce9da3113b5f0b8c00a60b1ce1d7e819d7a431d7c90ea0e5f)

/-- A power modulo `m`, over the lowest `n` bits of the exponent. -/
def powMod (m : Nat) : Nat → Nat → Nat → Nat
  | 0, _, _ => 1 % m
  | n + 1, b, e => (if e % 2 = 1 then b else 1) * powMod m n (b * b % m) (e / 2) % m

/-- The inverse modulo a prime (0 of 0). -/
def invMod (m x : Nat) : Nat := powMod m 384 (x % m) (m - 2)

/-- A difference modulo the field prime. -/
def subP (a b : Nat) : Nat := (a + (p384 - b % p384)) % p384

/-- The sum of two points; `none` is the point at infinity. -/
def addP (a b : Option (Nat × Nat)) : Option (Nat × Nat) :=
  match a, b with
  | none, q => q
  | q, none => q
  | some (x, y), some (u, v) =>
    if x = u ∧ (y + v) % p384 = 0 then none
    else
      let l := if x = u then (subP (3 * x * x) 3) * invMod p384 (2 * y) % p384 else subP v y * invMod p384 (subP u x) % p384
      let w := subP (l * l) (x + u)
      some (w, subP (l * subP x w) y)

/-- A multiple of a point, over the lowest `n` bits of the factor. -/
def mulP : Nat → Nat → Option (Nat × Nat) → Option (Nat × Nat)
  | 0, _, _ => none
  | n + 1, k, q =>
    let rest := mulP n (k / 2) (addP q q)
    if k % 2 = 1 then addP q rest else rest

/-- ECDSA verifies `(r, s)` over a message against a public key. -/
def ecdsaOk (key : Nat × Nat) (m : List Byte) (r s : Nat) : Bool :=
  if r = 0 ∨ p384Order ≤ r ∨ s = 0 ∨ p384Order ≤ s then false
  else
    let w := invMod p384Order s
    match addP (mulP 384 (sha384 m * w % p384Order) (some p384Base)) (mulP 384 (r * w % p384Order) (some key)) with
    | none => false
    | some (x, _) => x % p384Order == r

end Sys2Proof.Machine
end

