-- ==== Sys2Proof/Machine/Power.lean ====
section
/-!
DEFINITION. Resets (R38, R47), the wake sequence and Dormant (R39 to R41), own-rail faults and their power-down (R370), and
boot (R43 to R45, R395).
-/
namespace Sys2Proof.Machine

/-! ### Resets -/

/-- The records of faults that hold PWRFLT_N low: they stay until FAULT_CLEAR or a standby power-on (R373). CRITICAL stays until
a pin reset too (Table 16-2). -/
def State.heldFaults (s : State) : List FaultRec :=
  s.faults.filter (fun f => s.aon.pwrflt.contains (f.code, f.obj) || (f.code == 0x0d11 && s.therm.state == 4))

/-- The guard state that a reset of the main domain leaves: a trip and CRITICAL stay (Table 16-2). -/
def State.keptGuard (s : State) : Nat :=
  if s.therm.state = 4 then 4 else if s.aon.pwrflt.contains (0x0d10, objDEV) then 3 else 0

/-- Keep only some latched-fault records. (DEDUCED: assumption 20) -/
def State.keepFaults (s : State) (fs : List FaultRec) : State :=
  { s with faults := fs, firstCode := (fs.head?.map (fun f => f.code)).getD 0, firstTempo := (fs.head?.map (fun f => f.tempo)).getD 0 }

/-- Every main-domain unit and every memory is cleared (Table 2-3); the always-on domain, the die and the levels at the
interlock and PERST# inputs stay. (DEDUCED: assumption 40) -/
def State.mainReset (s : State) : State :=
  { State.reset with
    die := s.die, free := s.free, pending := s.pending, out := s.out, aon := s.aon
    md := { State.reset.md with mode := s.md.mode }
    host := { State.reset.host with perst := s.host.perst }
    video := { State.reset.video with ilkA := s.video.ilkA, ilkB := s.video.ilkB }
    thermTrip := s.faults.any (fun f => f.code == 0x0d10) && s.aon.pwrflt.contains (0x0d10, objDEV)
    therm := { State.reset.therm with vcore := s.die.v0, state := s.keptGuard } }.keepFaults s.heldFaults

/-- The host rails while the device is in Dormant: those with a fault that is kept are FAILED, the other KEEP bits of the strap
image are up, and the rest are off. -/
def State.keptRails (s : State) : Map Rail :=
  (List.range 32).foldl (fun m i =>
    if i < 5 then m
    else if s.aon.pwrflt.any (fun e => e.2 == obj clsRAIL i) then Map.put (fun _ => {}) m i { state := .failed }
    else if bit s.aon.keep i then Map.put (fun _ => {}) m i { state := .up, kept := true } else m) []

/-- The device is in Dormant: the main domain loses its power, every own rail is off, and a WAKE_N whose filter ended during
the power-down starts the wake (R41). (DEDUCED: assumption 40) -/
def State.goDormant (s : State) : State :=
  let s1 := s.mainReset
  { s1 with
    md := { s1.md with mode := .dormant }
    rails := { s1.rails with rails := s.keptRails }
    aon := { s1.aon with
      ownUp := [], wake := if s.aon.wakePending && !s.aon.resetLow then .rl00 else .idle, wakePending := false
      ledgerFull := false, seqUpOut := false } }

/-- RL00 to RL04 are good. -/
def State.ownGood (s : State) : Bool := (List.range 5).all (fun i => Map.get (fun _ => false) s.aon.ownUp i)

/-- PIN_RESET: the main domain is cleared, and a wake or own-rail power-down stops (R424). With RL00 to RL04 good the device
ends in Configure, with SPLL to lock and the boot ROM to start; otherwise it ends in Dormant. -/
def execPinReset (s : State) : Host.Outcome State Fault Refusal :=
  .next (
    let good := s.ownGood && s.aon.wake != .down
    let s1 : State := { s with
      aon := { s.aon with resetLow := true, wakePending := false }
      therm := { s.therm with state := if s.therm.state = 4 then 3 else s.therm.state } }
    if good ∧ s.md.mode ≠ .dormant then
      let s2 := s1.mainReset
      ({ s2 with aon := { s2.aon with wake := .spll, seqUpOut := false } }).toMode .configure true
    else s1.goDormant)

/-- RESET_N_RELEASE: the boot ROM may start, and a wake may. -/
def execResetNRelease (s : State) : Host.Outcome State Fault Refusal :=
  .next { s with aon := { s.aon with resetLow := false } }

/-- STANDBY_POWER_ON: everything but the ledger is cleared, and the device is in Dormant. -/
def execStandbyPowerOn (s : State) : Host.Outcome State Fault Refusal :=
  .next (
    let s1 : State := { s with therm := {}, aon := { ({} : Aon) with ledger := s.aon.ledger, resetLow := s.aon.resetLow, wake := .idle } }
    s1.goDormant.keepFaults [])

/-- STANDBY_POWER_LOSS: everything stops; the ledger entry being written is left with CHECK_OK 0 (R386). -/
def execStandbyPowerLoss (s : State) : Host.Outcome State Fault Refusal :=
  .next (
    let cut := (s.aon.ledgerQueue.take 1).map (fun e => { e with ok := false })
    let s1 : State := { s with therm := {}, aon := { ({} : Aon) with
      ledger := s.aon.ledger ++ cut, standbyOn := false, resetLow := s.aon.resetLow, wake := .idle } }
    s1.goDormant.keepFaults [])

/-- Instance `i` after a firmware reset: the memories of the cores are initialised again, swath, timeline, action and descriptor
SRAM are unwritten (Table 2-6), no scrub runs, and only the page store keeps valid data that the run before wrote. -/
def Mem.afterReset (i : Nat) (x : Mem) : Mem :=
  if i = 11 ∨ i = 12 then { x with words := [], merge := [], zeroed := true, test := false, scrub := none }
  else if i ≤ 10 then { x with words := [], merge := [], zeroed := false, written := false, test := false, scrub := none }
  else { x with written := decide (22 ≤ i) && x.written, scrub := none }

/-- The fault records that a firmware reset leaves: those of the always-on domain and the rails, and a trip. (DEDUCED: assumption 20) -/
def State.restartFaults (s : State) : List FaultRec :=
  s.faults.filter (fun f =>
    s.aon.pwrflt.contains (f.code, f.obj) || aCls f.obj == clsRAIL || f.code == 0x0d10 || f.code == 0x0d11)

/-- What a firmware reset leaves (Table 2-3): the units that firmware runs and every parameter are cleared; the page store, its regions
and error records, the PLLs, the rails and the always-on domain stay. (DESIGN CHOICE: assumption 19; DEDUCED: assumption 40) -/
def State.restarted (s : State) : State :=
  let z := State.reset
  let trip := s.latched 0x0d10 objDEV
  { z with
    die := s.die, free := s.free, pending := s.pending, out := s.out, aon := s.aon, rails := s.rails
    tempo := s.tempo, running := s.running, jtag := s.jtag, place := s.place
    md := { z.md with
      mode := s.md.mode, boot := .awaiting, rejectCode := s.md.rejectCode, rejectCount := s.md.rejectCount, hwAt := s.md.hwAt }
    host := { z.host with
      linkUp := s.host.linkUp, perst := s.host.perst, training := s.host.training, msixEn := s.host.msixEn, cfg := s.host.cfg
      msix := s.host.msix, pba := s.host.pba, tempoHi := s.host.tempoHi
      rings := (List.range 16).foldl (fun m n =>
        Map.put (fun k => { vec := 1 + k }) m n { ({ vec := 1 + n } : Ring) with epoch := (s.ring n).epoch + 1 }) [] }
    thermTrip := s.thermTrip && trip
    clk := { z.clk with plls := Map.mapV (fun _ => {}) s.clk.plls (fun _ l => { l with subst := false }), refsAt := s.clk.refsAt }
    store := { z.store with
      regions := s.store.regions, pages := s.store.pages, badBoxes := s.store.badBoxes
      flights := s.store.flights.map (fun f => { f with live := false }), flightSeq := s.store.flightSeq
      dma := Map.mapV (fun _ => {}) s.store.dma (fun _ d => { opens := d.opens }) }
    video := { z.video with
      ilkA := s.video.ilkA, ilkB := s.video.ilkB, blanked := s.video.blanked, openSeen := s.video.openSeen
      ilkCount := s.video.ilkCount, ilkNew := s.video.ilkNew, openAt := s.video.openAt, ilkLast := s.video.ilkLast, ilkSince := s.video.ilkSince, relAt := s.video.relAt }
    therm := if trip then { s.therm with plan := none, due := none } else { z.therm with vcore := s.die.v0, convAt := s.therm.convAt }
    mems := Map.mapV (fun _ => {}) s.mems Mem.afterReset }

/-- A firmware reset: a write of BOOT_CTRL with FW_RESET. Vector 0 is sent where BOOT_STATUS.STATE changes (Table 3-20). -/
def State.firmwareReset (s : State) (v : Nat) : State :=
  if bit v 1 && s.md.boot != .locked && [Mode.configure, .standby, .safeHold].contains s.md.mode then
    let s1 := [11, 12].foldl (fun u i => u.updMem i (fun m => { m with zeroed := true })) s.restarted
    let s2 := (s1.keepFaults s.restartFaults).toMode .configure true
    if s.md.boot = .awaiting then s2 else s2.signal 0
  else s

/-- FIRMWARE_RESET. -/
def execFirmwareReset (v : Word) (s : State) : Host.Outcome State Fault Refusal := .next (s.access (fun u => u.firmwareReset v.toNat))

/-! ### The wake sequence (R40) -/

/-- WAKE_FILTER_DONE: in Dormant RL00 is enabled; in a power-down the wake waits for its end (R41). -/
def execWakeFilterDone (s : State) : Host.Outcome State Fault Refusal :=
  .next (
    if !s.aon.standbyOn || s.aon.resetLow then s
    else if s.md.mode = .dormant then
      match s.aon.wake with
      | .idle => { s with aon := { s.aon with wake := .rl00 } }
      | .down => { s with aon := { s.aon with wakePending := true } }
      | _ => s
    else if s.aon.wake = .down ∨ s.rails.downs.any (fun d => d.cause == .dormant || d.cause == .ownRail) then
      { s with aon := { s.aon with wakePending := true } }
    else s)

/-- OWN_RAIL_SETTLED: RL00 enables RL01 to RL04; the last of those starts SPLL and then HPLL. -/
def execOwnRailSettled (rail : Idx) (s : State) : Host.Outcome State Fault Refusal :=
  .next (
    let up : State := { s with aon := { s.aon with ownUp := Map.put (fun _ => false) s.aon.ownUp rail true } }
    match s.aon.wake with
    | .rl00 => if rail = 0 then { up with aon := { up.aon with wake := .rails } } else s
    | .rails =>
      if 1 ≤ rail ∧ rail < 5 then
        if up.ownGood then ({ up with aon := { up.aon with wake := .spll } }.startPll 0).startPll 1 else up
      else s
    | _ => s)

/-- An event that the always-on domain meets without the main domain is reported after the next wake. (DESIGN CHOICE: assumption 17) -/
def State.note (s : State) (code rail last : Nat) : State :=
  { s with aon := { s.aon with notes := s.aon.notes ++ [(code, rail, last)] } }

/-- A hard fault of an own rail (R370): ledger, PWRFLT_N. -/
def State.hardFault (s : State) (rail : Nat) : State := (s.ledgerWrite 3 rail).assertPwrflt 0x0c04 objDEV

/-- OWN_RAIL_RISE_TIMEOUT: the wake ends in the own-rail power-down and Dormant. -/
def execOwnRailRiseTimeout (rail : Idx) (s : State) : Host.Outcome State Fault Refusal :=
  .next (
    if s.aon.wake = .rl00 ∧ rail = 0 then ((s.note 0x0c04 rail 0).hardFault rail).goDormant
    else if s.aon.wake = .rails ∧ 1 ≤ rail ∧ rail < 5 ∧ !Map.get (fun _ => false) s.aon.ownUp rail then
      ((s.note 0x0c04 rail 0).hardFault rail).ownDown
    else s)

/-- Report what the always-on domain noted, with the faults it latches (R39, R370). (DESIGN CHOICE: assumption 17) -/
def State.reportNotes (s : State) : State :=
  s.aon.notes.foldl (fun u n =>
    let o := if n.1 = 0x0c05 then obj clsRAIL n.2.1 else objDEV
    u.raise { code := n.1, obj := o, latch := [o], fields := if n.1 = 0x0c05 then [o] else [obj clsRAIL n.2.1, n.2.2] })
    { s with aon := { s.aon with notes := [] } }

/-- WAKE_SPLL_LOCKED: the tempo counter starts from 0, the mode becomes Configure, and link training starts if PERST# is
released (R41). -/
def execWakeSpllLocked (s : State) : Host.Outcome State Fault Refusal :=
  .next (
    if s.aon.wake = .spll ∧ !s.running ∧ !s.aon.resetLow then
      let s1 : State := { s with
        aon := { s.aon with wake := .idle }, tempo := 0, running := true
        host := { s.host with training := s.host.perst } }
      (((((s1.startPll 0).startPll 1).toMode .configure true).pllAcquire 0).pllLock 0).reportNotes.ledgerCheck
    else s)

/-! ### Dormant and the own rails -/

/-- Stop a clock (R42). -/
def State.stopPll (s : State) (p : Nat) : State := s.updPll p (fun l => { l with state := .off, recallSlot := none, inTol := 0, outTol := 0 })

/-- A response to DORMANT_ENTER still waits for its ring. -/
def Ring.owes (g : Ring) (r : Reply) : Bool :=
  g.waiting.any (fun m => m.opcode == r.opcode && m.tag == r.tag)

/-- Once the response of DORMANT_ENTER has been posted, or is not to be, the link enters L2, the fast clocks are gated and the
power-down runs (R41, R90). SPLL and the tempo counter go on until the main domain loses its power. (DEDUCED: assumption 18) -/
def State.leaveL0 (s : State) : State :=
  match s.md.leaving with
  | some r =>
    if (s.ring r.ring).owes r then s
    else
      let s1 : State := { s with md := { s.md with leaving := none }, host := { s.host with linkUp := false, training := false } }
      let s2 := ([1, 2, 3, 4] ++ (List.range 8).map (fun n => 8 + n)).foldl (fun (u : State) p => u.stopPll p) s1
      s2.startDown .dormant (s2.usedRails.filter (fun i => !bit s2.aon.keep i)) true none
  | none => s

/-- DORMANT_PG_LOST (R39): only bits set in KEEP and in WATCH count. -/
def execDormantPgLost (rail : Idx) (s : State) : Host.Outcome State Fault Refusal :=
  .next (
    if s.md.mode = .dormant ∧ 5 ≤ rail ∧ rail < 32 ∧ bit s.aon.keep rail ∧ bit s.aon.watch rail ∧ (s.rail rail).state = .up then
      let s1 := (s.setRail rail { state := .failed }).note 0x0c05 rail 0
      (s1.ledgerWrite 5 rail).assertPwrflt 0x0c05 (obj clsRAIL rail)
    else s)

/-- OWN_RAIL_FAULT: PG of one of RL01 to RL04 low for 10 µs in operation. -/
def execOwnRailFault (rail : Idx) (s : State) : Host.Outcome State Fault Refusal :=
  .next (
    if 1 ≤ rail ∧ rail < 5 ∧ s.md.mode ≠ .dormant ∧ s.running ∧ s.aon.wake ≠ .down then
      let s1 := (s.raise { code := 0x0c04, fields := [obj clsRAIL rail, 1], latch := [objDEV], sheet := s.anySealed }).hardFault rail
      (s1.enterSafeHold 0x0c04).startDown .ownRail s.usedRails false none
    else s)

/-- OWN_RAIL_FAULT_RL00: every RAILEN but the KEEP bits goes low at once, and the device is in Dormant. -/
def execOwnRailFaultRl00 (s : State) : Host.Outcome State Fault Refusal :=
  .next (
    if Map.get (fun _ => false) s.aon.ownUp 0 then
      ((s.note 0x0c04 0 (if s.md.mode = .dormant then 0 else 1)).hardFault 0).goDormant
    else s)

/-- OWN_RAIL_POWER_DOWN: RL00 turns off once RL01 to RL04 are low or 10 ms after they turned off; one still high is reported,
and the device is in Dormant. (DEDUCED: assumption 37) -/
def execOwnRailPowerDown (s : State) : Host.Outcome State Fault Refusal :=
  .next (
    let high := [1, 2, 3, 4].filter (fun i => Map.get (fun _ => false) s.aon.ownUp i)
    if s.aon.wake = .down ∧ (high.isEmpty ∨ !s.running ∨ s.aon.downAt + 5000000 ≤ s.tempo) then
      (high.foldl (fun u i => ((u.note 0x0c03 i 0).ledgerWrite 4 i).assertPwrflt 0x0c03 objDEV) s).goDormant
    else s)

/-! ### Boot (R43 to R45, R395) -/

/-- Change BOOT_STATUS.STATE: vector 0 is signalled (Table 3-20). -/
def State.toBoot (s : State) (b : Boot) : State := { s with md := { s.md with boot := b } }.signal 0

/-- BOOT_ROM_INIT_DONE: the window and the supervisor memories read zero. (DEDUCED: assumption 41) -/
def execBootRomInitDone (s : State) : Host.Outcome State Fault Refusal :=
  .next (
    if s.md.boot = .init ∧ s.running ∧ s.md.mode ≠ .dormant then
      (([11, 12].foldl (fun u i => u.updMem i (fun m => { m with words := [], zeroed := true })) s).toBoot .awaiting)
    else s)

/-- A write of BOOT_CTRL with GO and without FW_RESET (R56): the window locks. (DEDUCED: assumption 41) -/
def State.bootGo (s : State) (v : Nat) : State :=
  if bit v 0 && !bit v 1 && (s.md.boot == .awaiting || s.md.boot == .rejected) then s.toBoot .checking else s

/-- BOOT_CTRL_GO. -/
def execBootCtrlGo (v : Word) (s : State) : Host.Outcome State Fault Refusal := .next (s.access (fun u => u.bootGo v.toNat))

/-- Bytes of the image window. -/
def State.image (s : State) (off n : Nat) : Bytes := (List.range n).map (fun j => Map.get (fun _ => (0 : Byte)) s.md.window (off + j))

/-- A little-endian field of the image header (Table 2-5a). -/
def State.imageN (s : State) (off n : Nat) : Nat := ofLE (s.image off n)

/-- Segment `i`: offset, length, load address. -/
def State.segment (s : State) (i : Nat) : Nat × Nat × Nat :=
  (s.imageN (0x20 + 16 * i) 4, s.imageN (0x24 + 16 * i) 4, s.imageN (0x28 + 16 * i) 4)

/-- The segments are inside the body and apart, and load into supervisor memory, addressed as in Table 17-1. (DEDUCED: assumption 41) -/
def State.segmentsOk (s : State) : Bool :=
  let n := s.imageN 0x1c 4
  let segs := (List.range n).map s.segment
  decide (1 ≤ n ∧ n ≤ 8)
    && segs.all (fun g => decide (0x100 ≤ g.1 ∧ g.1 + g.2.1 ≤ s.imageN 0x08 4 - 96) && decide (g.2.2 + g.2.1 ≤ s.memSize 12))
    && (List.range n).all (fun i => (List.range i).all (fun j =>
      decide ((s.segment i).1 + (s.segment i).2.1 ≤ (s.segment j).1 ∨ (s.segment j).1 + (s.segment j).2.1 ≤ (s.segment i).1)))

/-- FLAGS, the reserved words of the header and its unused segment entries are zero. -/
def State.reservedOk (s : State) : Bool :=
  s.imageN 0x06 2 == 0 && (s.image 0xa0 96).all (fun b => b == 0)
    && (List.range 8).all (fun i =>
      s.imageN (0x2c + 16 * i) 4 == 0 && (decide (i < s.imageN 0x1c 4) || (s.image (0x20 + 16 * i) 16).all (fun b => b == 0)))

/-- The signature, two little-endian integers of 48 bytes (R43), verifies against the fused key (R44). -/
def State.signed (s : State) : Bool :=
  let len := s.imageN 0x08 4
  ecdsaOk Config.fusedKey (s.image 0 (len - 96)) (s.imageN (len - 96) 48) (s.imageN (len - 48) 48)

/-- The reject code of the first failing check of Table 2-5b; 0 when the image passes. Bits of VARIANT_MASK outside 1 to 3 are not
checked. (DEDUCED: assumption 41) -/
def State.bootReject (s : State) : Nat :=
  let len := s.imageN 0x08 4
  if !s.die.fuseOk then 0x08
  else if s.imageN 0 4 ≠ 0x41565253 then 0x01
  else if s.imageN 4 2 ≠ 1 then 0x02
  else if len < 0x160 ∨ 0x800000 < len ∨ len % 16 ≠ 0 then 0x03
  else if !bit (s.imageN 0x14 4) s.die.variant then 0x04
  else if !s.segmentsOk then 0x05
  else if !s.reservedOk then 0x06
  else if !s.signed then 0x07
  else 0

/-- BOOT_CHECK_DONE: the firmware starts with its watchdog armed at 1,000 ms (R37), or the image is rejected, the eighth time
for good (R45). -/
def execBootCheckDone (s : State) : Host.Outcome State Fault Refusal :=
  .next (
    if s.md.boot ≠ .checking then s
    else
      let c := s.bootReject
      if c = 0 then
        let s1 := ((List.range (s.imageN 0x1c 4)).map s.segment).foldl (fun u g => u.memWrite 12 g.2.2 (s.image g.1 g.2.1) 0) s
        { s1 with md := { s1.md with
          window := [], cmdsetVer := s.imageN 0x0c 4, fwVer := s.imageN 0x10 4, entry := s.imageN 0x18 4, wdMs := 1000
          wdAt := s.tempo, wdExpired := false } }.toBoot .running
      else
        let n := s.md.rejectCount + 1
        { s with md := { s.md with rejectCode := c, rejectCount := n } }.toBoot (if 8 ≤ n then .locked else .rejected))

/-- WATCHDOG_EXPIRE: the firmware has not served its watchdog, armed with a period of 1 to 1,000 ms, for that period (R37), or a
supervisor core met an uncorrectable error (Table 17-3, reader 0xb). When the firmware last armed it is the firmware's own
affair: it is no earlier than its start. (DEDUCED: assumption 40) -/
def execWatchdogExpire (cause : WatchdogCause) (s : State) : Host.Outcome State Fault Refusal :=
  .next (
    let s := s.enter inTimeouts
    if s.md.boot = .running then
      match cause with
      | .ue a => (s.reportUe 12 a 0xb objDEV [objDEV]).watchdogExpires
      | .silent ms =>
        if 1 ≤ ms ∧ ms ≤ 1000 ∧ s.md.wdAt + 500000 * ms ≤ s.tempo then
          { s with md := { s.md with wdMs := ms } }.watchdogExpires
        else s
    else s)

end Sys2Proof.Machine
end

