-- ==== Sys2Proof/Machine/Thermal.lean ====
section
/-!
DEFINITION. The thermal guard (R375 to R387), and the ageing table and margin plan (R389 to R391).
-/
namespace Sys2Proof.Machine

/-! ### Sensors (R375, R376) -/

/-- The neighbours of a sensor that are HEALTHY. -/
def State.healthyNear (s : State) (t : Nat) : List Nat := (neighbours t).filter (fun n => !(s.sensor n).suspect)

/-- A sensor with a new reading, before any check. -/
def Sensor.capture (x : Sensor) (r : Int) : Sensor :=
  let hist := r :: x.hist.take 1024
  { x with
    temp := r, hist := hist, peak := if x.hist.isEmpty then r else max x.peak r
    rate := match hist[1024]? with
      | some old => roundDivI ((r - old) * 8192 * 37253) 10000
      | none => x.rate }

/-- The check of a sensor against the neighbours that were HEALTHY: readings in 1/8 °C, 96 for 12 °C. -/
def Sensor.check (x : Sensor) (near : List Int) : Sensor :=
  let apart := near.all (fun y => decide (96 < (x.temp - y).natAbs))
  if near.isEmpty then { x with run := 0 }
  else if x.suspect then
    if apart then { x with run := 0 }
    else if x.run + 1 = 64 then { x with suspect := false, run := 0 } else { x with run := x.run + 1 }
  else
    if !apart then { x with run := 0 }
    else if x.run + 1 = 4 then { x with suspect := true, run := 0 } else { x with run := x.run + 1 }

/-- Capture 16 readings and check every sensor before any state changes, with 0x0d05 and 0x0d06. -/
def State.captureSensors (s : State) (rs : List Int) : State :=
  let s1 := (List.range 16).foldl (fun u t => u.updSensor t (fun x => x.capture (rs.getD t 0))) s
  let next := (List.range 16).map (fun t => (t, (s1.sensor t).check ((s1.healthyNear t).map (fun n => (s1.sensor n).temp))))
  next.foldl (fun u e =>
    let was := (s1.sensor e.1).suspect
    let u1 := u.setSensor e.1 e.2
    let o := obj clsTS e.1
    if e.2.suspect && !was then
      u1.raise { code := 0x0d05, obj := o, fields := o :: eighths e.2.temp :: (neighbours e.1).map (fun n => eighths (s1.sensor n).temp) }
    else if was && !e.2.suspect then u1.raise { code := 0x0d06, obj := o, fields := [o, eighths e.2.temp] }
    else u1) s1

/-! ### Maximum, rate and blindness (R377, R378) -/

/-- The HEALTHY sensors. -/
def State.healthy (s : State) : List Nat := (List.range 16).filter (fun t => !(s.sensor t).suspect)

/-- The sensor with the highest reading of a list, the lowest number first. -/
def State.hottest (s : State) (ts : List Nat) : Option Nat :=
  ts.foldl (fun b t => match b with
    | none => some t
    | some x => if (s.sensor x).temp < (s.sensor t).temp then some t else some x) none

/-- The die maximum; with no HEALTHY sensor it stays as it was. (DEDUCED: assumption 38) -/
def State.dieMax (s : State) : State :=
  match s.hottest s.healthy with
  | none => s
  | some t =>
    let m := (s.sensor t).temp
    { s with therm := { s.therm with
      max := m, maxSensor := t, peakMax := max s.therm.peakMax m
      hot := if 800 ≤ m then some s.tempo else s.therm.hot, coolSince := s.therm.coolSince && decide (m < 800) } }

/-- The rate check: four conversions in a row above the limit ask for a step, at most once per 50,000,000 tempo. -/
def State.checkRates (s : State) : State :=
  (List.range 16).foldl (fun u t =>
    let x := u.sensor t
    let past := !x.suspect && decide ((u.par clsDEV 0 0x070 : Int) < x.rate)
    let run := if past then x.rateRun + 1 else 0
    let due := match x.rateAt with
      | none => true
      | some a => decide (a + 50000000 ≤ u.tempo)
    let u1 := u.setSensor t { x with rateRun := run, rateAt := if decide (4 ≤ run) && due then some u.tempo else x.rateAt }
    if decide (4 ≤ run) && due then
      { u1 with therm := { u1.therm with ratePend := true } }.raise
        { code := 0x0d04, obj := obj clsTS t, fields := [obj clsTS t, i64 x.rate] }
    else u1) s

/-! ### The throttle (R380) -/

/-- The throttle takes a step: 0x0d03, and the tempo spent below 100 % is counted. -/
def State.setStep (s : State) (p cause : Nat) : State :=
  if p = s.therm.step then s
  else
    let was := match s.therm.slowSince with
      | some t => s.tempo - t
      | none => 0
    { s with therm := { s.therm with
      step := p, stepAt := some s.tempo, coolSince := decide (s.therm.max < 800)
      slowTempo := if p = 100 then s.therm.slowTempo + was else s.therm.slowTempo
      slowSince := if p = 100 then none else some (s.therm.slowSince.getD s.tempo) } }.raise
      { code := 0x0d03, fields := [s.therm.step, p, cause] }

/-- The guard is blind with fewer than 8 HEALTHY sensors. (DEDUCED: assumption 38) -/
def State.checkBlind (s : State) : State :=
  let hs := s.healthy
  if 8 ≤ hs.length then { s with therm := { s.therm with blind := false } }
  else if s.therm.blind then s
  else
    ({ s with therm := { s.therm with blind := true } }.raise { code := 0x0d07, fields := [maskOf hs], latch := [objDEV] }).setStep 30 5

/-- The step of one evaluation; a step asked for by the rate puts the guard in THROTTLE (Table 16-2). While the trip lasts the
step stays (R387). -/
def State.throttle (s : State) : State :=
  let free := match s.therm.stepAt with
    | none => true
    | some t => decide (t + 50000000 ≤ s.tempo)
  if 3 ≤ s.therm.state ∨ !free then s
  else if 824 ≤ s.therm.max then ({ s with therm := { s.therm with ratePend := false } }).setStep (max 30 (s.therm.step - 10)) 1
  else if s.therm.ratePend then
    ({ s with therm := { s.therm with ratePend := false, state := 2 } }).setStep (max 30 (s.therm.step - 10)) 2
  else if s.therm.coolSince then s.setStep (min 100 (s.therm.step + 10)) 3
  else s

/-! ### Guard states (R379, Table 16-2) -/

/-- Enter a state of the guard. -/
def State.toGuard (s : State) (g : Nat) : State := { s with therm := { s.therm with state := g } }

/-- NORMAL, with 0x0d02. -/
def State.guardNormal (s : State) : State := (s.toGuard 0).raise { code := 0x0d02, fields := [eighths s.therm.max] }

/-- The states below the trip, before the throttle's step: 97 °C is 776, 100 °C 800 and 103 °C 824. (DEDUCED: assumption 38) -/
def State.guard (s : State) : State :=
  let m := s.therm.max
  let s1 := if s.therm.state = 0 ∧ 800 ≤ m then
      (s.toGuard 1).raise { code := 0x0d01, fields := [obj clsTS s.therm.maxSensor, eighths m] } else s
  if s1.therm.state = 1 ∧ 824 ≤ m then s1.toGuard 2
  else if s1.therm.state = 1 ∧ m < 776 then s1.guardNormal
  else s1

/-- THROTTLE ends when the step is back at 100 %. -/
def State.guardEnd (s : State) : State :=
  if s.therm.state = 2 ∧ s.therm.step = 100 ∧ s.therm.max < 824 then (if s.therm.max < 776 then s.guardNormal else s.toGuard 1) else s

/-! ### Trip and CRITICAL (R383, R384) -/

/-- The trip: the Beam Links go dark with it. (DEDUCED: assumption 38) -/
def State.trip (s : State) : State :=
  let t := s.therm.maxSensor
  let s1 := ({ s with thermTrip := true, therm := { s.therm with state := 3, trips := s.therm.trips + 1, ratePend := false } }.signal 0).raise
    { code := 0x0d10, fields := [obj clsTS t, eighths s.therm.max, s.md.mode.code], latch := [objDEV], sheet := s.anySealed }
  let s2 := ((s1.assertPwrflt 0x0d10 objDEV).ledgerWrite 1 t).setStep 30 4
  ((List.range 32).foldl (fun u l => u.darken l) s2).enterSafeHold 0x0d10

/-- CRITICAL: every tile still on turns off, and the power-down of an own-rail fault runs. -/
def State.critical (s : State) : State :=
  let t := s.therm.maxSensor
  let s1 := ((s.toGuard 4).raise
    { code := 0x0d11, fields := [obj clsTS t, eighths s.therm.max], latch := [objDEV], sheet := s.anySealed }).ledgerWrite 2 t
  let s2 := ((s1.units clsDT).filter s1.canTurnOff).foldl (fun u k => u.twoStep k false 0) s1
  s2.startDown .ownRail s2.usedRails false none

/-- The evaluation of the guard (R379): maximum, blindness, rate, states, throttle, trip and CRITICAL. (DEDUCED: assumption 38) -/
def State.evaluate (s : State) : State :=
  let s1 := ((s.dieMax).checkBlind).checkRates
  let s2 := if s1.therm.state < 3 ∧ s1.therm.max < 920 ∧ !s1.healthy.isEmpty then ((s1.guard).throttle).guardEnd else s1
  let s3 := if s2.therm.state < 3 ∧ (920 ≤ s2.therm.max ∨ s2.healthy.isEmpty) then s2.trip else s2
  if s3.therm.state = 3 ∧ 1000 ≤ s3.therm.max then s3.critical else s3

/-- A conversion completes in this tempo: 131,072 tempo after the last one, or a multiple of that (R375). (DEDUCED: assumption 38) -/
def State.converts (s : State) : Bool :=
  s.running && s.md.mode != .dormant && (match s.therm.convAt with
    | some t => decide (t < s.tempo) && (s.tempo - t) % 131072 == 0
    | none => true)

/-- THERMAL_CONVERSION: the 16 readings, in 1/8 °C. No sensor runs in Dormant. -/
def execThermalConversion (readings : List Int) (s : State) : Host.Outcome State Fault Refusal :=
  .next (
    let s := s.enter inProtect
    if s.converts then
      (({ s with therm := { s.therm with convAt := some s.tempo } } : State).captureSensors readings).evaluate
    else s)

/-! ### AGEING_NEW (R389) -/

/-- AGEING_NEW. -/
def execAgeingNew (m : Msg) (s : State) : Host.Outcome State Fault Refusal :=
  .next (
    let s := s.enter inDirect
    s.command 0x0810 m (m.plen 0 ++ m.argRes 0xffffffffffffffff ++ s.inModes modesCfSb)
    (fun r u =>
      let head := toLE 2 1 ++ toLE 1 1 ++ toLE 1 0 ++ toLE 8 u.die.dieId
      ({ u.setTable 0x09 0 (head ++ List.replicate (5120 - 12) (0 : Byte)) with ageNew := true }).ok r))

/-! ### The margin plan (R390) -/

/-- BASE and LAST of an entry. -/
def State.ageBase (s : State) (off : Nat) : Nat := s.ageField off 4
def State.ageLast (s : State) (off : Nat) : Nat := s.ageField (off + 4) 4

/-- Both values of an entry are nonzero: a ratio may be taken. -/
def State.ageBoth (s : State) (off : Nat) : Bool := s.ageBase off != 0 && s.ageLast off != 0

/-- ceil(s / 2,000) for the largest slowdown s. -/
def State.slowSteps (s : State) : Nat :=
  (List.range 16).foldl (fun a i =>
    if s.ageBoth (ageRO i) then max a (ceilDiv ((s.ageBase (ageRO i) - s.ageLast (ageRO i)) * 500) (s.ageBase (ageRO i))) else a) 0

/-- The largest slowdown in whole ppm. -/
def State.slowPpm (s : State) : Nat :=
  (List.range 16).foldl (fun a i =>
    if s.ageBoth (ageRO i) then max a ((s.ageBase (ageRO i) - s.ageLast (ageRO i)) * 1000000 / s.ageBase (ageRO i)) else a) 0

/-- The pulse scale of a beam as Q16, held to 0.5 to 2.0. -/
def State.planScale (s : State) (b : Nat) : Nat :=
  if s.ageBoth (ageBeam b) then min 131072 (max 32768 (s.ageBase (ageBeam b) * 65536 / s.ageLast (ageBeam b))) else 65536

/-- The derate of a tile as Q16. -/
def State.planDerate (s : State) (k : Nat) : Nat :=
  let b := s.ageBase (ageTile k)
  let l := s.ageLast (ageTile k)
  if !s.ageBoth (ageTile k) || decide (10 * l ≤ 11 * b) then 65536
  else max 32768 ((210 * b - 100 * l) * 65536 / (100 * b))

/-- Beam `b` of station `n` should be replaced by its spare partner. -/
def State.suggests (s : State) (new : Bool) (n b : Nat) : Bool :=
  let i := 32 * n + b
  s.role n b == .imaging && decide (s.scanL n ≤ b) && s.role n (b - s.scanL n) == .spare
    && ((!new && s.ageBoth (ageBeam i) && decide (16 * s.ageLast (ageBeam i) < 10 * s.ageBase (ageBeam i)))
      || s.latched 0x0630 (obj clsBEAM i))

/-- The promotion suggestions: spare and replaced beam, at most 32. -/
def State.suggestions (s : State) (new : Bool) : List (Nat × Nat) :=
  ((s.units clsSTN).flatMap (fun n => ((List.range 32).filter (fun b => s.suggests new n b)).map (fun b =>
    (obj clsBEAM (32 * n + b - s.scanL n), obj clsBEAM (32 * n + b))))).take 32

/-- The drift reports: which kind (0 ring oscillator, 1 conduction, 2 friction, 3 resonance), index, and entry. The codes of the
kinds are not given: a free value stands for each in 0x0d21. -/
def State.drifts (s : State) : List (Nat × Nat × Nat) :=
  let at_ := fun (kind : Nat) (ix : List Nat) (off : Nat → Nat) (bad : Nat → Nat → Bool) =>
    (ix.filter (fun i => s.ageBoth (off i) && bad (s.ageBase (off i)) (s.ageLast (off i)))).map (fun i => (kind, i, off i))
  at_ 0 (List.range 16) ageRO (fun b l => decide (b < (b - l) * 50))
    ++ at_ 1 (s.units clsDT) ageTile (fun b l => decide (11 * b < 10 * l))
    ++ at_ 2 (s.units clsDT) agePoly (fun b l => decide (5 * b < 4 * l))
    ++ at_ 3 (s.units clsDT) ageHeat (fun b l => decide (b < ((b : Int) - l).natAbs * 20))

/-- Raise 0x0d21 for each drift. (DEDUCED: assumption 38) -/
def State.reportDrifts (s : State) : State :=
  let ds := s.drifts
  let base := s.free
  let s1 : State := { s with free := s.free + 4 }
  ds.foldl (fun u d => u.raise
    { code := 0x0d21, fields := [Config.freeNat (base + d.1), d.2.1, s.ageBase d.2.2, s.ageLast d.2.2] }) s1

/-- The mantissa of VOUT_COMMAND in the linear format of a VOUT_MODE whose low five bits are a signed exponent: mV / 1000 × 2^-N. Where
that is no whole number the manual gives no rounding: a free choice between the two next to it. (DEDUCED: assumption 38) -/
def State.voutMantissa (s : State) (v mode : Nat) : Nat × State :=
  let n := sext 5 (mode % 32)
  let num := if 0 ≤ n then v else v * 2 ^ n.natAbs
  let den := if 0 ≤ n then 1000 * 2 ^ n.natAbs else 1000
  if num % den = 0 then (num / den, s) else (num / den + s.fresh.1 % 2, s.fresh.2)

/-- The write of the core voltage over PMBus, in the format of the regulator's VOUT_MODE: linear where its bits 7 to 5 are 0. (PRESUMED: assumption 38) -/
def State.writeVcore (s : State) (v : Nat) (a : VcoreAnswer) : State :=
  let cfg := s.par clsDEV 0 0x076
  let out := fun (u : State) (d : Bytes) (n : Nat) => u.emit (.i2c (field cfg 14 2) (field cfg 16 7) d n)
  let page := field cfg 24 8
  let s1 := out (if page = 0xff then s else out s (toLE 1 0 ++ toLE 1 page) 0) (toLE 1 0x20) 1
  match a with
  | .nack => s1.raise { code := 0x0d23, fields := [1, v] }
  | .mode x =>
    if field x 5 3 ≠ 0 then s1.raise { code := 0x0d23, fields := [2, v] }
    else
      let (y, s2) := s1.voutMantissa v x
      let s3 := out s2 (toLE 1 0x21 ++ toLE 2 y) 0
      { s3 with therm := { s3.therm with vcore := v } }

/-- The summary of a plan. -/
def planSummary (v grade flags ppm mask scaled : Nat) (sug : List (Nat × Nat)) : Bytes :=
  bytesAt (toLE 2 v ++ toLE 1 grade ++ toLE 1 flags ++ toLE 4 ppm ++ toLE 8 mask ++ toLE 2 scaled ++ toLE 1 sug.length ++ toLE 1 0
    ++ sug.flatMap (fun e => toLE 4 e.1 ++ toLE 4 e.2)) 0 276

/-- A record as consecutive payload fields, padded with zeros (Table 19-1). -/
def recordFields (d : Bytes) : List Nat := (List.range (ceilDiv d.length 8)).map (fun i => leAt d (8 * i) 8)

/-- Measure the ring oscillators; one that could not be measured reads 0. -/
def State.measureRo (s : State) (ro : List Nat) : State :=
  (List.range 16).foldl (fun u i =>
    if ro.getD i 0 % 2 ^ 32 = 0 then u else u.age (ageRO i) (ro.getD i 0 % 2 ^ 32)) s

/-- The session record of a plan (Table 16-6). (DEDUCED: assumption 38) -/
def State.sessionRecord (s : State) (n v grade flags ppm : Nat) : Bytes :=
  let slow := s.therm.slowTempo + (match s.therm.slowSince with
    | some t => s.tempo - t
    | none => 0)
  bytesAt (toLE 4 n ++ toLE 2 v ++ toLE 1 grade ++ toLE 1 flags ++ toLE 4 ppm ++ toLE 1 (wrapBits 8 (s.therm.peakMax / 8)) ++ toLE 1 0
    ++ toLE 2 (min 65535 (slow / 500000000)) ++ toLE 2 (min 65535 s.therm.trips)) 0 32

/-- Apply a plan: voltage, grade, pulse scales, derates, drift reports, the AGEING table's session and 0x0d20; with its summary (R390). -/
def State.applyPlan (s : State) (p : PlanObs) : Bytes × State :=
  let new := bit (s.ageField 2 1) 0
  let s1 := s.measureRo p.ro
  let steps := if new then 0 else s1.slowSteps
  let v0 := s.die.v0
  let v := if new then v0 else min 800 (max 700 (v0 + 5 * steps))
  let x := v0 + 5 * steps - 800
  let grade := if new then 0 else min 3 (ceilDiv x 10)
  let cfg := s.par clsDEV 0 0x076
  let s2 := if bit cfg 0 then s1.writeVcore v p.vcore else s1
  let beams := s2.units clsBEAM
  let tiles := s2.units clsDT
  let scale := fun (b : Nat) => if new then 65536 else s1.planScale b
  let derate := fun (k : Nat) => if new then 65536 else s1.planDerate k
  let s3 := beams.foldl (fun u b => u.setParam (addr clsBEAM b 0x000) (scale b)) s2
  let s4 := tiles.foldl (fun u k => u.updTile k (fun t => { t with derate := derate k })) s3
  let flags := b2n new + 2 * b2n (bit cfg 0 && p.vcore.written)
  let sum := planSummary v grade flags s1.slowPpm (maskOf (tiles.filter (fun k => decide (derate k < 65536))))
    ((beams.filter (fun b => scale b != 65536)).length) (s1.suggestions new)
  let n := (s1.ageField 0x0c 4 + 1) % 2 ^ 32
  let s5 := (s4.setAgeField 0x0c 4 n).setAgeField 0x10 2 v0
  let s6 := s5.setTable 0x09 0 (pokeBytes s5.ageing (ageSession (n % 32)) (s5.sessionRecord n v grade flags s1.slowPpm))
  let s7 := { s6 with therm := { s6.therm with grade := grade, plan := none, due := none } }.reportDrifts
  (sum, s7.raise { code := 0x0d20, fields := recordFields sum })

/-- A plan completes: it is applied, and answered, or the mode change that waited for it is made (R34). A MODE_SET to Warm-up that came
while MARGIN_PLAN ran has its own plan next; with the watchdog expired, Warm-up gives way to Safe-hold at once (R37). -/
def State.finishPlan (s : State) (p : PlanObs) (reply : Option Reply) : State :=
  let (sum, s8) := s.applyPlan p
  let entry : Bool := match s8.md.pend with
    | some t => t.target == .warmUp
    | none => false
  match reply with
  | some r => ({ s8 with therm := { s8.therm with plan := if entry then some none else none } }).ok r sum
  | none => if entry then ({ s8 with md := { s8.md with pend := none } }.toMode .warmUp false).watchdogHold else s8

/-- MARGIN_PLAN: it answers when the plan is done. One plan runs at a time, and a second one is BUSY. (DESIGN CHOICE:
assumption 11) -/
def execMarginPlan (m : Msg) (s : State) : Host.Outcome State Fault Refusal :=
  .next (
    let s := s.enter inDirect
    s.command 0x0811 m
    (m.plen 0 ++ m.argRes 0xffffffffffffffff ++ s.inModes [.standby, .warmUp] ++ refuse s.therm.plan.isSome stBUSY)
    (fun r u =>
      let u1 := u.hold 0x0811 m
      { u1 with therm := { u1.therm with plan := some (some r) } }))

/-- The I2C controller of the core regulator is free for the plan's write, or the plan writes nothing (R422). -/
def State.planFree (s : State) : Bool :=
  let cfg := s.par clsDEV 0 0x076
  let c := field cfg 14 2
  !bit cfg 0 || (s.i2cFree c && !s.seqWaits c)

/-- A plan whose write has waited for its controller completes. -/
def State.planResume (s : State) : State := match s.therm.due, s.therm.plan with
  | some p, some r => if s.planFree then s.finishPlan p r else s
  | _, _ => s

/-- MARGIN_PLAN_DONE: the plan is computed; it completes once its write may be made. (DEDUCED: assumption 38) -/
def execMarginPlanDone (p : PlanObs) (s : State) : Host.Outcome State Fault Refusal :=
  .next (
    if s.therm.plan.isSome && s.therm.due.isNone then
      ({ s with therm := { s.therm with due := some p } } : State).planResume
    else s)

end Sys2Proof.Machine
end

