-- ==== Sys2Proof/Machine/ModeRows.lean ====
section
/-!
DEFINITION. The mode commands and the end of a pending transition (R34, R35, R41, R48, Table 2-2).
-/
namespace Sys2Proof.Machine

/-- The targets that MODE_SET reaches from a mode (Table 2-2). -/
def Mode.reaches : Mode → List Mode
  | .configure => [.standby]
  | .standby => [.warmUp]
  | .warmUp => [.ready, .standby, .safeHold]
  | .ready => [.warmUp, .runOut, .safeHold]
  | .print => [.runOut, .safeHold]
  | .runOut => [.safeHold]
  | .safeHold => [.standby]
  | .dormant => []

/-- A table has been committed since it was last cleared (R48). -/
def State.tableLoaded (s : State) (id inst : Nat) : Bool := Map.get (fun _ => false) s.md.committed (id * 0x10000 + inst)

/-- Every item of Table 2-7 that Warm-up needs is loaded: pulse, bow, skew and facet tables of the stations, the feedback scaling and
loop coefficients of the tiles whose mode has loops, the cogging and friction tables of those whose current loop uses them
(Table 13-2), and an ageing baseline or NEW. (DEDUCED: assumption 18) -/
def State.calibrated (s : State) : Bool :=
  (s.units clsSTN).all (fun n => [1, 2, 3, 4].all (fun t => s.tableLoaded t n))
    && (s.units clsDT).all (fun k => s.tMode k == 0 || s.tMode k == 7
      || (s.tableLoaded 7 k && Map.get (fun _ => false) s.md.coefs k
        && (decide (s.tMode k < 2 ∨ 4 < s.tMode k) || (s.tableLoaded 5 k && s.tableLoaded 6 k))))
    && (s.tableLoaded 9 0 || s.ageNew)

/-- A latched fault of this code on any object. -/
def State.anyLatched (s : State) (code : Nat) : Bool := s.faults.any (fun f => f.code == code)

/-- The unmet parts of the condition of a transition, with the status of each (R34). (DEDUCED: assumption 18) -/
def State.transitionRefs (s : State) (t : Mode) : List Ref :=
  match s.md.mode, t with
  | .configure, .standby => refuse (!s.md.dramOk) stWRONG_STATE ++ refuse (!s.md.pressOk) stMISSING_DATA
  | .standby, .warmUp =>
    refuse (!s.calibrated) stMISSING_DATA ++ refuse (s.latched 0x0d10 objDEV) stFAULT_LATCHED
  | .warmUp, .ready =>
    refuse (s.video.ilkA || s.video.ilkB) stINTERLOCK_OPEN
      ++ refuse (!((s.units clsSTN).all s.stnLocked
        && (s.units clsDT).all (fun k => (s.tMode k != 5 && s.tMode k != 6) || s.inWindow k))) stWRONG_STATE
      ++ refuse (!s.faults.isEmpty) stFAULT_LATCHED
  | .ready, .warmUp => refuse s.anySealed stWRONG_STATE
  | .safeHold, .standby =>
    refuse (s.anyLatched 0x0222 || s.latched 0x0e10 objDEV || s.anyLatched 0x0c11) stFAULT_LATCHED
  | _, _ => []

/-- The exit targets of Run-out. -/
abbrev exitTargets : List Mode := [.ready, .warmUp, .standby]

/-- A transition is made or becomes pending. The plan of Warm-up's entry follows one that MARGIN_PLAN has running. -/
def State.transit (s : State) (t exit : Mode) (r : Reply) : State :=
  match s.md.mode, t with
  | .standby, .warmUp =>
    ({ s with md := { s.md with pend := some ⟨.warmUp, none⟩ }, therm := { s.therm with
      plan := if s.therm.plan.isSome then s.therm.plan else some none } }).accepted r
  | .warmUp, .standby =>
    let s1 := s.stopAll
    if s1.outputsOff then (s1.enterStandby false).ok r
    else ({ s1 with md := { s1.md with pend := some ⟨.standby, none⟩ } }).accepted r
  | .ready, .runOut =>
    (({ s with md := { s.md with exitTarget := exit } }.toMode .runOut false).leaveRunOut).ok r
  | .print, .runOut => ({ s with md := { s.md with exitTarget := exit } }.toMode .runOut false).ok r
  | _, .standby => (s.enterStandby false).ok r
  | _, .safeHold => let (c, s1) := s.fresh; (s1.enterSafeHold c false).ok r
  | _, _ => (s.toMode t false).ok r

/-- MODE_SET. It is refused in the tempo of a hardware transition (R35). (DESIGN CHOICE: assumption 11) -/
def execModeSet (m : Msg) (s : State) : Host.Outcome State Fault Refusal :=
  .next (
    let s := s.enter inModeSet
    let t := modeOf (m.argN 8 1 % 8)
    let exit := modeOf (m.argN 9 1 % 8)
    s.command 0x0010 m
      (m.plen 0 ++ m.argRes 0xfffffffffffff8f8 ++ refuse (t == .runOut && !exitTargets.contains exit) stBAD_ARG
        ++ refuse (!s.md.mode.reaches.contains t || s.md.hwAt == some s.tempo) stWRONG_MODE
        ++ refuse s.md.pend.isSome stBUSY ++ s.transitionRefs t)
      (fun r u => u.transit t exit r))

/-- A kept used rail depends on a used rail that is not kept (R371). -/
def State.badKeep (s : State) (keep : Nat) : Bool :=
  (s.usedRails.filter (bit keep)).any (fun i => (s.deps i).any (fun j => s.railUsed j && !bit keep j))

/-- DORMANT_ENTER: the strap image is stored, and once the response has been posted the link and the clocks go and the power-down
runs. (DEDUCED: assumption 18) -/
def execDormantEnter (m : Msg) (s : State) : Host.Outcome State Fault Refusal :=
  .next (
    let s := s.enter inDirect
    let keep := m.pay 0 4 / 32 * 32
    let filt := m.pay 8 1
    s.command 0x0011 m
      (m.plen 16 ++ m.argRes 0xffffffffffffffff ++ refuse (m.pay 9 7 != 0) stBAD_ARG ++ s.inModes modesCfSbSh
        ++ refuse s.md.pend.isSome stBUSY
        ++ refuse (decide (1 ≤ filt ∧ filt ≤ 3) || s.badKeep keep) stBAD_VALUE)
      (fun r u =>
        let u1 : State := { u.ok r with aon := { u.aon with keep := m.pay 0 4, watch := m.pay 4 4, wakeFilt := filt } }
        { u1 with md := { u1.md with pend := some ⟨.dormant, none⟩, leaving := some r } }.leaveL0))

/-- MODE_TRANSITION_COMPLETE: Run-out ends, or Warm-up gives way to Standby with every output off. (DEDUCED: assumption 18) -/
def execModeTransitionComplete (s : State) : Host.Outcome State Fault Refusal :=
  .next (
    let s := s.enter inEvents
    if s.md.mode = .runOut then (if !s.anySealed && s.runoutsDone then s.leaveRunOut else s)
    else match s.md.pend with
      | some p =>
        if p.target = .standby ∧ s.md.mode = .warmUp ∧ s.outputsOff then
          { s with md := { s.md with pend := none } }.enterStandby false
        else s
      | none => s)

end Sys2Proof.Machine
end

