-- ==== Sys2Proof/Machine/Faults.lean ====
section
/-!
DEFINITION. FAULT_LIST and FAULT_CLEAR (R428, R429, Tables 19-3 to 19-6).
-/
namespace Sys2Proof.Machine

/-- FAULT_LIST: the latched faults of a class, oldest first, as many as a response carries. (DESIGN CHOICE: assumption 11) -/
def execFaultList (m : Msg) (s : State) : Host.Outcome State Fault Refusal :=
  .next (
    let s := s.enter inDirect
    let c := m.argN 8 1
    let fs := (s.faults.filter (fun f => c == 0 || f.code / 256 == c)).drop (m.argN 10 2)
    s.command 0x0030 m (m.plen 0 ++ m.argRes 0xffffffff0000ff00 ++ refuse (decide (14 < c)) stBAD_ARG)
      (fun r u => u.ok r ((fs.take 58).flatMap (fun f => toLE 2 f.code ++ toLE 2 0 ++ toLE 4 f.obj ++ toLE 8 f.tempo))))

/-- The codes that latch a fault. -/
def latchingCodes : List Nat :=
  [0x0222, 0x0303, 0x0305, 0x0306, 0x0311, 0x0402, 0x0603, 0x0612, 0x0613, 0x0630, 0x0801, 0x0802, 0x0803, 0x0804, 0x0806, 0x0811,
   0x0832, 0x0912, 0x0913, 0x0914, 0x0921, 0x0a01, 0x0b01, 0x0b02, 0x0b03, 0x0b04, 0x0b11, 0x0c01, 0x0c02, 0x0c03, 0x0c04, 0x0c05,
   0x0c11, 0x0d07, 0x0d10, 0x0d11, 0x0e10]

/-- The condition of the Cleared column for a protection fault of a tile: it waits for no retry, and then by code. -/
def State.protClear (s : State) (code k : Nat) : Bool :=
  let t := s.tile k
  (t.prot == .latched || t.prot == .disabled) && (
    if code = 0x0801 ∨ code = 0x0803 ∨ code = 0x0811 then decide (16 ≤ t.cleanRun)
    else if code = 0x0802 then decide (16 ≤ t.cleanRun) && t.sync
    else if code = 0x0806 then t.epType != 3
    else if code = 0x0832 then
      (match s.busOf k with
        | some b => decide ((s.bus b).vb ≤ field (s.par clsDEV 0 (0x040 + b)) 12 12)
        | none => true)
    else true)

/-- The condition of the Cleared column for the other faults of a tile. -/
def State.tileClear (s : State) (code k : Nat) : Bool :=
  if 0x0801 ≤ code ∧ code ≤ 0x0832 then s.protClear code k
  else if code = 0x0914 then decide ((s.tile k).sensorSince + 1000000 ≤ s.tempo)
  else if code = 0x0b01 ∨ code = 0x0b04 then !(s.tile k).outOn && !(s.heat k).waiting
  else if code = 0x0b02 then (List.range (s.zones k)).all (fun z => decide (s.zoneTemp k z < s.zoneI k z 24 4))
  else if code = 0x0b03 then (List.range (s.zones k)).all (fun z => !Map.get (fun _ => false) (s.heat k).lastBad z)
  else if code = 0x0e10 then decide (Map.get (fun _ => 0) s.sheets.rewritten k % 2 ^ 18 = 2 ^ 18 - 1)
  else true

/-- The condition of the Cleared column of a fault on the device. -/
def State.devClear (s : State) (code : Nat) : Bool :=
  if code = 0x0303 then (s.pll 0).state == .locked
  else if code = 0x0305 ∨ code = 0x0306 then s.clk.tsAgrees
  else if code = 0x0603 then s.video.ilkA == s.video.ilkB
  else if code = 0x0c03 ∨ code = 0x0c04 then s.md.mode == .configure
  else if code = 0x0d07 then decide (8 ≤ s.healthy.length)
  else if code = 0x0d10 then
    modesCfSbSh.contains s.md.mode && (match s.therm.hot with
      | some t => decide (t + 50000000 ≤ s.tempo)
      | none => true)
  else if code = 0x0e10 then s.md.mode == .safeHold && !s.latched 0x0c11 objDEV
  else false

/-- The condition of the Cleared column (Tables 19-3 to 19-6). (DEDUCED: assumption 20) -/
def State.mayClear (s : State) (code o : Nat) : Bool :=
  let c := aCls o
  if c = clsDEV then s.devClear code
  else if c = clsDT then s.tileClear code (aIdx o)
  else if c = clsTK then s.md.mode == .safeHold
  else if c = clsME then decide ((s.enc (aIdx o)).lastErr + 1000000 ≤ s.tempo)
  else if c = clsBEAM then modesCfSb.contains s.md.mode
  else c != clsSTN

/-- The clearing would disable a tile. -/
def State.clearDisables (s : State) (code o : Nat) : Bool :=
  aCls o == clsDT && decide (0x0801 ≤ code ∧ code ≤ 0x0832) && (s.tile (aIdx o)).prot == .latched

/-- A motion fault is latched on the axis or on one of its tiles. -/
def State.motionLatched (s : State) (o : Nat) : Bool :=
  s.latched 0x0912 o || s.latched 0x0913 o
    || (s.axisTiles o).any (fun k => [0x0914, 0x0a01, 0x0e10].any (fun c => s.latched c (obj clsDT k)))

/-- An axis whose last motion fault is cleared returns to IDLE, and its loops start anew (R309, R338). (DEDUCED: assumption 20) -/
def State.axisCleared (s : State) (o : Nat) : State :=
  if (s.axis o).state = .faulted ∧ !s.motionLatched o then
    ((s.axisTiles o).foldl (fun u k => u.resetLoops k) (s.startAxis o)).refreshAxis o
  else s

/-- A LATCHED tile is disabled; its axis rests with its last tile. -/
def State.latchCleared (s : State) (k : Nat) : State :=
  if (s.tile k).prot = .latched then
    let s1 := s.disableTile k
    let o := s1.axisOf k
    if s1.isMotor k && (s1.axisTiles o).all (fun j => (s1.tile j).prot == .disabled) then s1.restAxis o else s1
  else s

/-- The effect of clearing a fault of a tile. -/
def State.tileCleared (s : State) (code k : Nat) : State :=
  if 0x0801 ≤ code ∧ code ≤ 0x0832 then s.latchCleared k
  else if code = 0x0921 then (if (s.poly k).stage = .faulted then s.polyTo k .off else s)
  else if s.isMotor k then s.axisCleared (s.axisOf k)
  else s.resetLoops k

/-- The effect that the Cleared column gives, after the record is gone. (DEDUCED: assumption 20) -/
def State.cleared (s : State) (code o : Nat) : State :=
  let i := aIdx o
  let c := aCls o
  if c = clsDEV then
    (if code = 0x0d10 then State.relight { s with
       thermTrip := false, therm := { s.therm with state := if s.therm.state = 3 then 2 else s.therm.state } }
     else s)
  else if code = 0x0912 ∨ code = 0x0913 then s.axisCleared o
  else if c = clsDT then s.tileCleared code i
  else if c = clsVL then (if (s.link i).state = .faulted then s.updLink i (fun l => { l with state := .down }) else s)
  else if code = 0x0402 then (if (s.dma i).state = .faulted then s.dmaIdle i else s)
  else if c = clsRAIL then (if (s.rail i).state = .failed then s.toRail i .off else s)
  else s

/-- FAULT_CLEAR. A cause of PWRFLT_N ends with its fault (R373). (DEDUCED: assumption 20) -/
def execFaultClear (m : Msg) (s : State) : Host.Outcome State Fault Refusal :=
  .next (
    let s := s.enter inDirect
    let code := m.argN 8 2
    let o := m.argN 12 4
    s.command 0x0031 m
      (m.plen 0 ++ m.argRes 0xffff0000 ++ refuse (!latchingCodes.contains code || aPid o != 0) stBAD_ARG
        ++ (s.addrStatus o).map (fun c => { code := c })
        ++ refuse (!s.latched code o) stWRONG_STATE
        ++ refuse (s.clearDisables code o && s.participates o) stSHEET_LOCKED
        ++ refuse (!s.judged.mayClear code o) stFAULT_LATCHED)
      (fun r u => (((u.unlatch code o).dropPwrflt code o).cleared code o).ok r))

end Sys2Proof.Machine
end

