-- ==== Sys2Proof/Machine/Io.lean ====
section
/-!
DEFINITION. SPI and I2C transfers (R98, R420 to R422).
-/
namespace Sys2Proof.Machine

/-! ### SPI -/

/-- The chip select carries a zone sensor of an in-service HEAT tile (R346). -/
def State.spiTaken (s : State) (ctrl cs : Nat) : Bool :=
  (s.units clsDT).any (fun k => s.tMode k == 5 && (List.range (s.fb k 1 1)).any (fun z =>
    s.fb k (64 + 32 * z) 1 == ctrl && s.fb k (64 + 32 * z + 1) 1 == cs))

/-- SPI_XFER: it answers when the transfer has ended; transfers of one controller run one after the other (R422). (DESIGN CHOICE: assumption 11) -/
def execSpiXfer (m : Msg) (s : State) : Host.Outcome State Fault Refusal :=
  .next (
    let s := s.enter inDirect
    let c := m.argN 8 1
    let cs := m.argN 9 1
    let mode := m.argN 10 1
    let n := m.payload.length
    s.command 0x0900 m
      (refuse (n == 0 || decide (936 < n)) stMALFORMED ++ m.argRes 0xffffffffff000000
        ++ refuse (decide (3 < c) || decide (3 < cs) || decide (3 < mode)) stBAD_ARG ++ refuse (s.spiTaken c cs) stWRONG_STATE)
      (fun r u =>
        (u.hold 0x0900 m).spiPush c (.xfer { reply := r, target := cs, mode := mode, tx := m.payload, rxLen := n })))

/-- SPI_TRANSFER_DONE. -/
def execSpiTransferDone (ctrl : Idx) (rx : Bytes) (s : State) : Host.Outcome State Fault Refusal :=
  .next (match s.spiQueue ctrl with
    | .xfer x :: _ => (s.spiPop ctrl).ok x.reply (bytesAt rx 0 x.rxLen)
    | _ => s)

/-! ### I2C -/

/-- The target belongs to firmware: the device of a used PMBUS rail, or the core regulator (R98, R390). -/
def State.i2cTaken (s : State) (ctrl a : Nat) : Bool :=
  s.usedRails.any (fun i => s.railCfg i 0 2 == 1 && s.railCfg i 14 2 == ctrl && s.railCfg i 16 7 == a)
    || (bit (s.par clsDEV 0 0x076) 0 && field (s.par clsDEV 0 0x076) 14 2 == ctrl && field (s.par clsDEV 0 0x076) 16 7 == a)

/-- The controller serves a used PMBUS rail while a power-down runs (R422). -/
def State.i2cBusy (s : State) (ctrl : Nat) : Bool :=
  !s.downsOn.isEmpty && s.usedRails.any (fun i => s.railCfg i 0 2 == 1 && s.railCfg i 14 2 == ctrl)

/-- The bus of an I2C controller has become free: first the sequencer's reads, then a plan's write, then the waiting transfers (R422). -/
def State.i2cGo (s : State) (c : Nat) : State := s.planResume.i2cNext c

/-- I2C_XFER: it answers when the transfer has ended. (DESIGN CHOICE: assumption 11) -/
def execI2cXfer (m : Msg) (s : State) : Host.Outcome State Fault Refusal :=
  .next (
    let s := s.enter inDirect
    let c := m.argN 8 1
    let a := m.argN 9 1
    let n := m.argN 12 2
    s.command 0x0910 m
      (m.plen (m.argN 10 2) ++ m.argRes 0xffff000000000000 ++ refuse (decide (3 < c) || decide (127 < a) || decide (936 < n)) stBAD_ARG
        ++ refuse (s.i2cBusy c) stBUSY ++ refuse (s.i2cTaken c a) stWRONG_STATE)
      (fun r u =>
        ((u.hold 0x0910 m).putI2c c
          (u.i2cQueue c ++ [({ reply := r, target := a, mode := 0, tx := m.payload, rxLen := n } : Xfer)])).i2cNext c))

/-- I2C_TRANSFER_DONE: with its data, BUS_NACK and the failing byte as INDEX, or TIMEOUT. (DEDUCED: assumption 40) -/
def execI2cTransferDone (ctrl : Idx) (r : I2cEnd) (s : State) : Host.Outcome State Fault Refusal :=
  .next (match s.i2cQueue ctrl with
    | x :: rest =>
      if x.on then
        let s1 := s.putI2c ctrl rest
        (match r with
          | .ok rx => s1.ok x.reply (bytesAt rx 0 x.rxLen)
          | .nack b => s1.post x.reply stBUS_NACK (b % 65536)
          | .timeout => s1.post x.reply stTIMEOUT).i2cGo ctrl
      else s
    | [] => s)

/-- What a PMBus read of a falling rail finds (R366). -/
def State.pmbusRead (s : State) (rail : Nat) (r : PmbusRead) : State :=
  let w := s.rail rail
  match r with
  | .nack => ((s.pmbus rail (if w.vmode.isNone then 0x20 else 0x8b) (if w.vmode.isNone then 1 else 2))).pmbusFallback rail 1
  | .value mode vout =>
    let vm := w.vmode.getD mode.toNat
    let s1 := if w.vmode.isNone then (s.pmbus rail 0x20 1).updRail rail (fun x => { x with vmode := some vm }) else s
    if field vm 5 3 ≠ 0 then s1.pmbusFallback rail 2
    else
      let s2 := s1.pmbus rail 0x8b 2
      let n := sext 5 vm
      let mv := 1000 * (vout % 65536)
      let lim := s.railCfg rail 32 16
      let low := if 0 ≤ n then decide (mv * 2 ^ n.toNat ≤ lim) else decide (mv ≤ lim * 2 ^ (-n).toNat)
      if low then s2.fallen rail else s2

/-- PMBUS_VOUT_POLL: a read that is due, once no transfer runs on its controller; VOUT_MODE once per power-down. (DEDUCED: assumption 37) -/
def execPmbusVoutPoll (rail : Idx) (r : PmbusRead) (s : State) : Host.Outcome State Fault Refusal :=
  .next (
    let c := s.railCfg rail 14 2
    if s.pollDue rail && s.i2cFree c then
      ((s.updRail rail (fun w => { w with polls := (s.tempo - w.tempo) / 125000 + 1 })).pmbusRead rail r).i2cGo c
    else s)

end Sys2Proof.Machine
end

