-- ==== Sys2Proof/Machine/Mailbox.lean ====
section
/-!
DEFINITION. The mailbox rings (R59 to R71): taking command messages, posting responses, events and sheet reports entry by
entry, interrupts, BAR2, and host link resets.
-/
namespace Sys2Proof.Machine

/-- The instance of the mailbox SRAM (Table 17-1). -/
abbrev memMailbox : Nat := 11

/-! ### Rings -/

/-- Entries of a ring's response queue. -/
def Ring.size (g : Ring) : Nat := 2 ^ g.log2

/-- The response queue is full: one entry is always kept free (R61). -/
def Ring.full (g : Ring) : Bool := (g.rspTail + 1) % g.size == g.rspHead % g.size

/-- MB_STATUS.STATE (Table 3-16). -/
def Ring.code (g : Ring) : Nat := if !g.en then 0 else if g.haltCause ≠ 0 then 2 else if g.full then 3 else 1

/-- Stop a ring: the message being written goes back to where it waits, responses not yet written are discarded, and what is
still running answers to nobody (R60, R70). (DESIGN CHOICE: assumption 13) -/
def Ring.stop (g : Ring) : Ring :=
  { g with en := false, haltCause := 0, epoch := g.epoch + 1, waiting := [], cur := .idle, curAt := 0, unsig := 0, sigNow := false }

/-- A write of MB_CTRL (R60). (DESIGN CHOICE: assumption 13) -/
def State.writeRingEn (s : State) (n : Idx) (on : Bool) : State :=
  let g := s.ring n
  if 16 ≤ n then s
  else if on then
    if g.en || decide (g.log2 < 6 ∨ 12 < g.log2) then s
    else s.setRing n { g with
      en := true, cmdHead := 0, cmdTail := 0, rspHead := 0, rspTail := 0, phase := true, seq := 0 }
  else if g.en then s.setRing n g.stop else s

/-- MB_CTRL_EN_WRITE. -/
def execMbCtrlEnWrite (ring : Idx) (v : Word) (s : State) : Host.Outcome State Fault Refusal :=
  .next (s.access (fun u => (u.writeRingEn ring (bit v.toNat 0)).leaveL0))

/-- A write of MB_CMD_TAIL. -/
def State.writeCmdTail (s : State) (n v : Nat) : State := if 16 ≤ n then s else s.updRing n (fun g => { g with cmdTail := v % 64 })

/-- MB_CMD_TAIL_DOORBELL. -/
def execMbCmdTailDoorbell (ring : Idx) (v : Word) (s : State) : Host.Outcome State Fault Refusal :=
  .next (
    let s := s.enter inCapture
    s.access (fun u => u.writeCmdTail ring v.toNat))

/-- A write of MB_RSP_HEAD. -/
def State.writeRspHead (s : State) (n v : Nat) : State := if 16 ≤ n then s else s.updRing n (fun g => { g with rspHead := v % 4096 })

/-- MB_RSP_HEAD_WRITE. -/
def execMbRspHeadWrite (ring : Idx) (v : Word) (s : State) : Host.Outcome State Fault Refusal :=
  .next (s.access (fun u => u.writeRspHead ring v.toNat))

/-! ### Taking a command (R63, R64) -/

/-- The opcodes of the command set (Tables 4-10 to 4-16). -/
def opcodes : List Nat :=
  [0x0000, 0x0001, 0x0010, 0x0011, 0x0020, 0x0021, 0x0030, 0x0031, 0x0100, 0x0101, 0x0110, 0x0111, 0x0120, 0x0121, 0x0122]
    ++ [0x0200, 0x0201, 0x0202, 0x0203, 0x0300, 0x0301, 0x0302, 0x0303, 0x0400, 0x0401, 0x0402, 0x0403, 0x0404, 0x0410, 0x0411]
    ++ [0x0412, 0x0413, 0x0414, 0x0500, 0x0501, 0x0502, 0x0510, 0x0511, 0x0520, 0x0600, 0x0601, 0x0610, 0x0611, 0x0620, 0x0630]
    ++ [0x0640, 0x0700, 0x0701, 0x0710, 0x0720, 0x0800, 0x0801, 0x0810, 0x0811, 0x0820, 0x0900, 0x0910]

/-- Read `n` slots of a command queue from slot `k` on, with wrap: their bytes and whether a word had an uncorrectable
error. -/
def State.readSlots (s : State) (ring : Nat) : Nat → Nat → Bytes × Bool × State
  | _, 0 => ([], false, s)
  | k, n + 1 =>
    let (b, bad, s1) := s.memRead memMailbox (0x1000 * ring + 64 * (k % 64)) 64 0xc
    let (bs, bad1, s2) := s1.readSlots ring (k + 1) n
    (b ++ bs, bad || bad1, s2)

/-- A ring halts with 0x0103 (R63): the ring and the cause are its payload. (DESIGN CHOICE: assumption 13) -/
def State.haltRing (s : State) (n cause : Nat) : State :=
  (s.updRing n (fun g => { g with haltCause := cause })).raise { code := 0x0103, fields := [n, cause] }

/-- Skip a message that is answered without being run. -/
def State.answerSkipped (s : State) (n : Nat) (bs : Bytes) (code : Nat) : State :=
  s.post { ring := n, epoch := (s.ring n).epoch, opcode := leAt bs 0 2, tag := leAt bs 4 2 } code

/-- MAILBOX_COMMAND_TAKE: the ring is enabled, neither halted nor held, and idle; the hello has been posted. The command's own
row then runs it. SLOTS is judged before FLAGS, and FLAGS before the later slots have come. (DESIGN CHOICE: assumption 13) -/
def execMailboxCommandTake (ring : Idx) (ue : Option Nat) (s : State) : Host.Outcome State Fault Refusal :=
  .next (
    let g := s.ring ring
    if s.md.boot != .running || !s.host.helloPosted || decide (16 ≤ ring) || g.code != 1 || g.taken.isSome
        || g.cmdHead == g.cmdTail then s
    else
      let s0 := match ue with
        | some a => s.reportUe memMailbox a 0xc
        | none => s
      let (h, bad0, s1) := s0.readSlots ring g.cmdHead 1
      let slots := leAt h 2 1
      if slots = 0 ∨ 16 < slots then s1.haltRing ring 1
      else if leAt h 3 1 / 4 ≠ 0 then s1.haltRing ring 2
      else if (g.cmdTail + 64 - g.cmdHead) % 64 < slots then s
      else
        let (rest, bad1, s2) := s1.readSlots ring (g.cmdHead + 1) (slots - 1)
        let s3 := s2.updRing ring (fun x => { x with cmdHead := (g.cmdHead + slots) % 64 })
        let plen := leAt h 6 2
        let op := leAt h 0 2
        if bad0 || bad1 || ue.isSome || decide (64 * slots < plen + 16) then s3.answerSkipped ring h stMALFORMED
        else if !opcodes.contains op then s3.answerSkipped ring h stUNKNOWN_OPCODE
        else
          let m : Msg := { ring := ring, tag := BitVec.ofNat 16 (leAt h 4 2), flags := BitVec.ofNat 8 (leAt h 3 1)
                           arg := BitVec.ofNat 64 (leAt h 8 8), payload := bytesAt (h ++ rest) 16 plen }
          s3.updRing ring (fun x => { x with taken := some { opcode := op, msg := m, epoch := x.epoch } }))

/-! ### Posting (R62, R65, R67, R71) -/

/-- The ring to which an event class goes (R91). -/
def State.routeOf (s : State) (cls : Nat) : Nat := Map.get (fun _ => 0) s.host.routes cls

/-- The header of a response-queue message (Table 3-18). -/
def entryHead (opcode entries kind tag code : Nat) (t : Tempo) : Bytes :=
  toLE 2 opcode ++ toLE 1 entries ++ toLE 1 kind ++ toLE 2 tag ++ toLE 2 code ++ toLE 8 t

/-- The 60 bytes of an entry before its final word. -/
def entryPad (b : Bytes) : Bytes := bytesAt b 0 60

/-- The entries of a message: a header with 44 payload bytes, then 60 in each further entry. -/
def messageEntries (opcode kind tag code : Nat) (t : Tempo) (p : Bytes) : List Bytes :=
  let n := 1 + ceilDiv (p.length - 44) 60
  entryPad (entryHead opcode n kind tag code t ++ p.take 44)
    :: (List.range (n - 1)).map (fun k => entryPad (bytesAt p (44 + 60 * k) 60))

/-- The entries of an event (Table 19-1): 4 fields in the first, 7 in each further one. -/
def eventEntries (code o count : Nat) (flags : Nat) (fs : List Nat) (t : Tempo) : List Bytes :=
  let n := 1 + ceilDiv (fs.length - 4) 7
  entryPad (entryHead 0 n 1 0 code t ++ toLE 4 o ++ toLE 2 (min count 0xffff) ++ toLE 1 fs.length ++ toLE 1 flags
      ++ (fs.take 4).flatMap (fun f => toLE 8 f))
    :: (List.range (n - 1)).map (fun k => entryPad (((fs.drop (4 + 7 * k)).take 7).flatMap (fun f => toLE 8 f)))

/-- The entries of the message being written. -/
def Cur.entries : Cur → List Bytes
  | .idle => []
  | .response m => messageEntries m.opcode 0 m.tag m.code m.tempo m.payload
  | .event e => eventEntries e.code e.obj e.count (b2n e.latched + 2 * b2n e.sheet) e.fields e.tempo
  | .report r => messageEntries 0 2 0 r.ticket r.tempo r.payload
  | .lost n t => eventEntries 0x0102 objDEV 1 0 [n, t] t
  | .linkReset n t => eventEntries 0x0101 objDEV 1 0 [n] t

/-- The message is signalled at once (R69): sheet reports and events of class 0x02. -/
def Cur.urgent : Cur → Bool
  | .report _ => true
  | .event e => e.code / 256 == 2
  | _ => false

/-- The next message of a ring: 0x0101 first (R71), then events in tempo order with 0x0102 in the place of the first one lost,
then sheet reports, then responses. (DESIGN CHOICE: assumption 13) -/
def State.nextMsg (s : State) (n : Nat) : Cur :=
  let g := s.ring n
  match (if n = 0 then s.host.linkNote else none) with
  | some t => .linkReset s.host.discarded t
  | none =>
    if !s.host.helloPosted then .idle
    else
      let ev := s.host.backlog.find? (fun e => s.routeOf (e.code / 256) == n)
      let lost := decide (0 < s.host.lostCount) && s.routeOf 1 == n
      match ev with
      | some e => if lost && decide (s.host.lostTempo < e.tempo) then .lost s.host.lostCount s.host.lostTempo else .event e
      | none =>
        if lost then .lost s.host.lostCount s.host.lostTempo
        else match (if s.routeOf 2 = n then s.sheets.reports.head? else none) with
          | some r => .report r
          | none => match g.waiting.head? with
            | some m => .response m
            | none => .idle

/-- A message has been written whole: it leaves the place where it waited. -/
def State.written (s : State) (n : Nat) (c : Cur) : State :=
  match c with
  | .idle => s
  | .response _ => s.updRing n (fun g => { g with waiting := g.waiting.tail })
  | .event e => { s with host := { s.host with backlog := s.host.backlog.erase e } }
  | .report r => { s with sheets := { s.sheets with reports := s.sheets.reports.erase r } }
  | .lost k _ => { s with host := { s.host with lostCount := s.host.lostCount - k } }
  | .linkReset k _ => { s with host := { s.host with linkNote := none, discarded := s.host.discarded - k } }

/-- Write one entry at the tail of a ring's response queue: bytes 0 to 59, and then the final word (R62). -/
def State.writeEntry (s : State) (n : Nat) (b : Bytes) (urgent : Bool) : State :=
  let g := s.ring n
  let at_ := g.rspBase + 64 * g.rspTail
  let s1 := (s.emit (.hostWrite at_ b)).emit (.hostWrite (at_ + 60) (toLE 4 (2 ^ 31 * b2n g.phase + g.seq)))
  let tail := (g.rspTail + 1) % g.size
  s1.setRing n { g with
    rspTail := tail, phase := if tail = 0 then !g.phase else g.phase, seq := (g.seq + 1) % 65536
    unsig := g.unsig + 1, firstUnsig := if g.unsig = 0 then s.tempo else g.firstUnsig, sigNow := g.sigNow || urgent }

/-- A ring may write an entry now. -/
def State.mayPost (s : State) (n : Nat) : Bool :=
  s.md.boot == .running && decide (n < 16) && (s.ring n).en && !(s.ring n).full && s.host.reachable

/-- RESPONSE_ENTRY_POST: the next entry of the message being written, or the first of the next message. An event whose backlog
entry has an uncorrectable error is discarded and counted (Table 17-3, reader 0xd). -/
def execResponseEntryPost (ring : Idx) (ue : Option Nat) (s : State) : Host.Outcome State Fault Refusal :=
  .next (
    if !s.mayPost ring then s
    else
      let g := s.ring ring
      let c := if g.cur = .idle then s.nextMsg ring else g.cur
      let es := c.entries
      match ue, c with
      | some a, .event e =>
        let s1 : State := { s with host := { s.host with
          backlog := s.host.backlog.erase e, lostCount := s.host.lostCount + 1
          lostTempo := if s.host.lostCount = 0 then e.tempo else s.host.lostTempo } }
        (s1.updRing ring (fun x => { x with cur := .idle, curAt := 0 })).reportUe 21 a 0xd
      | _, _ =>
        match es[g.curAt]? with
        | none => s
        | some b =>
          let s1 := s.writeEntry ring b c.urgent
          if g.curAt + 1 = es.length then
            ((s1.updRing ring (fun x => { x with cur := .idle, curAt := 0 })).written ring c).leaveL0
          else s1.updRing ring (fun x => { x with cur := c, curAt := g.curAt + 1 }))

/-- HELLO_POST (R46, R64, Table 3-21): the first entry on MB00, but for 0x0101 (R71). (DESIGN CHOICE: assumption 13) -/
def execHelloPost (s : State) : Host.Outcome State Fault Refusal :=
  .next (
    if s.mayPost 0 && !s.host.helloPosted && s.host.linkNote.isNone then
      let s1 : State := { s with host := { s.host with helloPosted := true } }
      s1.writeEntry 0 (entryPad (entryHead 0 1 3 0 0 s.tempo ++ toLE 4 s.md.cmdsetVer ++ toLE 4 s.md.fwVer ++ toLE 4 s.die.variant)) false
    else s)

/-- RING_INTERRUPT (R69). -/
def execRingInterrupt (ring : Idx) (s : State) : Host.Outcome State Fault Refusal :=
  .next (
    let g := s.ring ring
    if ring < 16 ∧ g.en ∧ 0 < g.unsig ∧ (g.sigNow ∨ g.irqTime = 0 ∨ max 1 g.irqCount ≤ g.unsig
        ∨ g.firstUnsig + 256 * g.irqTime ≤ s.tempo) then
      (s.setRing ring { g with unsig := 0, sigNow := false }).signal g.vec
    else s)

/-! ### BAR2 (R52, R59) -/

/-- The image window is open. -/
def State.windowOpen (s : State) : Bool := s.md.boot == .awaiting || s.md.boot == .rejected

/-- A BAR2 access: 1 to 512 bytes within a region that is open; elsewhere a read returns 0 and a write is ignored. (DEDUCED: assumption 15) -/
def State.bar2 (s : State) (write : Bool) (off len : Nat) (data : Bytes) : State :=
    if len < 1 ∨ 512 < len then s
    else if s.windowOpen && decide (off + len ≤ 0x800000) then
      if write then
        let w := (List.range len).foldl (fun w j => Map.put (fun _ => (0 : Byte)) w (off + j) (data.getD j 0)) s.md.window
        { s with md := { s.md with window := w } }
      else s.emit (.completion ((List.range len).map (fun j => Map.get (fun _ => (0 : Byte)) s.md.window (off + j))))
    else if s.md.boot == .running && decide (0x800000 ≤ off) && decide (off + len ≤ 0x810000) then
      if write then s.memWrite memMailbox (off - 0x800000) (bytesAt data 0 len) 0
      else
        let (b, _, s1) := s.memRead memMailbox (off - 0x800000) len 0xc
        s1.emit (.completion b)
    else if write then s else s.emit (.completion (List.replicate len 0))

/-- BAR2_ACCESS. -/
def execBar2Access (write : Bool) (off : Nat) (len : Nat) (data : Bytes) (s : State) : Host.Outcome State Fault Refusal :=
  .next (s.access (fun u => u.bar2 write off len data))

/-! ### Host link (R41, R70) -/

/-- What a link reset discards of a ring: responses not yet written, and the response of a command in progress, unless the ring
was disabled or the link reset since it was taken (R60). -/
def Ring.lostResponses (g : Ring) : Nat :=
  g.waiting.length + (match g.taken with
    | some t => if t.epoch = g.epoch then 1 else 0
    | none => 0)

/-- A host link reset meets a channel: a descriptor read that is out returns an error, and a transfer whose request to host memory is
out ends with HOST_BUS (R70, R176). -/
def State.linkCuts (s : State) (ch : Nat) : State :=
  let x := s.dma ch
  if x.state = .running ∧ s.hostOwned ch ∧ x.slot ∧ (x.step = .readDesc ∨ x.step = .lookAgain) then s.dmaFault ch 2
  else if s.store.reqs.any (fun q => q.who == ch && q.res == .hostSlots && !q.ctl) then s.descFail ch 6
  else s

/-- HOST_LINK_RESET: rings and MSI-X state are cleared, and 0x0101 is to come first on MB00. A function-level reset leaves the
link up; the other causes take it down, and all but PERST# let it train again. (DEDUCED: assumption 15) -/
def execHostLinkReset (cause : LinkReset) (s : State) : Host.Outcome State Fault Refusal :=
  .next (
    let lost := (List.range 16).foldl (fun a n => a + (s.ring n).lostResponses) 0
    let clear := fun (n : Nat) => ({ ({ vec := 1 + n } : Ring) with
      epoch := (s.ring n).epoch + 1, taken := (s.ring n).taken, pairs := (s.ring n).pairs } : Ring)
    let rings := (List.range 16).foldl (fun m n => Map.put (fun k => { vec := 1 + k }) m n (clear n)) ([] : Map Ring)
    let s1 : State := { s with
      host := { s.host with
        rings := rings, msixEn := false, msix := [], pba := 0, cfg := {}, discarded := s.host.discarded + lost, linkNote := some s.tempo
        linkUp := s.host.linkUp && cause == .flr, perst := s.host.perst && cause != .perst
        training := s.host.perst && (cause == .dlDown || cause == .hotReset) && s.running } }
    ((List.range 32).foldl (fun u ch => u.linkCuts ch) s1).leaveL0)

/-- PERST_DEASSERT: training starts once the device is in Configure. -/
def execPerstDeassert (s : State) : Host.Outcome State Fault Refusal :=
  .next { s with host := { s.host with
    perst := true, training := !s.host.linkUp && s.running && s.md.mode != .dormant } }

/-- HOST_LINK_UP. The rate, 1 to 4, and the width, 1, 2, 4 or 8, are what both ends settle on (R49): free values. (DESIGN CHOICE:
assumption 43) -/
def execHostLinkUp (s : State) : Host.Outcome State Fault Refusal :=
  .next (if s.host.training then
    let (r, s1) := s.fresh
    let (w, s2) := s1.fresh
    { s2 with host := { s2.host with
        training := false, linkUp := true, cfg := { s2.host.cfg with rate := 1 + r % 4, width := 2 ^ (w % 4) } } }
    else s)

end Sys2Proof.Machine
end

