-- ==== Sys2Proof/Machine/Endpoint.lean ====
section
/-!
DEFINITION. The configuration space of the PCI Express endpoint (R49, Table 3-1): identity, base addresses, power state, MSI-X
control, error reporting and the serial number. The layout of the header is that of the PCI Express Base Specification; where the
capabilities stand the manual does not say. (PRESUMED: assumption 43)
-/
namespace Sys2Proof.Machine

/-- IDENT.DEVICE, which is also the Device ID (Tables 3-1 and 3-4). -/
def State.deviceId (s : State) : Nat :=
  if s.die.variant = 1 then 0x8256 else if s.die.variant = 2 then 0x6192 else 0x4128

/-- The size of the BAR pair `k` (Table 3-2): BAR0, BAR2, BAR4. -/
def barSize (k : Nat) : Nat := if k = 0 then 0x100000 else if k = 1 then 0x1000000 else 0x10000

/-- BAR register `j`: 64-bit, the middle pair prefetchable; bits below the size read 0. -/
def Endpoint.bar (e : Endpoint) (j : Nat) : Nat :=
  let v := Map.get (fun _ => 0) e.bars j
  if j % 2 = 1 then v else v / barSize (j / 2) * barSize (j / 2) + (if j = 2 then 0xc else 0x4)

/-- A 4-byte read of the configuration space. -/
def State.readCfg (s : State) (off : Nat) : Nat :=
  let e := s.host.cfg
  if off = 0x00 then 0x1dc7 + s.deviceId * 2 ^ 16
  else if off = 0x04 then e.command + 0x10 * 2 ^ 16
  else if off = 0x08 then s.die.dieStep % 256 + 0x118000 * 2 ^ 8
  else if 0x10 ≤ off ∧ off < 0x28 then e.bar ((off - 0x10) / 4)
  else if off = 0x2c then 0x1dc7
  else if off = 0x34 then 0x40
  else if off = 0x40 then 0x01 + 0x50 * 2 ^ 8 + 0x0003 * 2 ^ 16
  else if off = 0x44 then (if e.d3 then 3 else 0)
  else if off = 0x50 then 0x11 + 0x60 * 2 ^ 8 + (63 + b2n e.fnMask * 2 ^ 14 + b2n s.host.msixEn * 2 ^ 15) * 2 ^ 16
  else if off = 0x54 then 0x0000 + 4
  else if off = 0x58 then 0x8000 + 4
  else if off = 0x60 then 0x10 + 0x0002 * 2 ^ 16
  else if off = 0x64 then 2 + 2 ^ 28
  else if off = 0x68 then e.devCtl
  else if off = 0x6c then 4 + 8 * 2 ^ 4 + 2 * 2 ^ 10
  else if off = 0x70 then (if s.host.linkUp then e.rate + e.width * 2 ^ 4 else 0) * 2 ^ 16
  else if off = 0x100 then 0x0001 + 2 * 2 ^ 16 + 0x140 * 2 ^ 20
  else if off = 0x104 then e.aerStatus
  else if off = 0x108 then e.aerMask
  else if off = 0x10c then e.aerSeverity
  else if off = 0x118 then e.ecrc + 2 ^ 5 + 2 ^ 7
  else if off = 0x140 then 0x0003 + 1 * 2 ^ 16
  else if off = 0x144 then s.die.dieId % 2 ^ 32
  else if off = 0x148 then s.die.dieId / 2 ^ 32 % 2 ^ 32
  else 0

/-- A 4-byte write of the configuration space, but for the MSI-X enable. -/
def Endpoint.write (e : Endpoint) (off v : Nat) : Endpoint :=
  if off = 0x04 then { e with command := Nat.land v 0x0547 }
  else if 0x10 ≤ off ∧ off < 0x28 then { e with bars := Map.put (fun _ => 0) e.bars ((off - 0x10) / 4) v }
  else if off = 0x44 then { e with d3 := v % 4 == 3 || (e.d3 && v % 4 != 0) }
  else if off = 0x50 then { e with fnMask := bit v 30 }
  else if off = 0x68 then { e with devCtl := v % 2 ^ 15 }
  else if off = 0x104 then { e with aerStatus := e.aerStatus - Nat.land e.aerStatus v }
  else if off = 0x108 then { e with aerMask := v }
  else if off = 0x10c then { e with aerSeverity := v }
  else if off = 0x118 then { e with ecrc := Nat.land v 0x140 }
  else e

/-- A read that completes with Completer Abort is logged through AER (R53): bit 15 of Uncorrectable Error Status. -/
def State.logAbort (s : State) : State :=
  { s with host := { s.host with cfg := { s.host.cfg with aerStatus := Nat.lor s.host.cfg.aerStatus (2 ^ 15) } } }

end Sys2Proof.Machine
end

