-- ==== Sys2Proof/Machine/Registers.lean ====
section
/-!
DEFINITION. The direct registers of BAR0 (R53 to R58, Tables 3-3 to 3-16, 7-6, 16-3, 17-2): what each reads as, and what a write
does (R12, R13); and the MSI-X words of BAR4.
-/
namespace Sys2Proof.Machine

/-! ### Reads -/

/-- The low and the high word of a 64-bit pair. -/
def lowWord (x : Nat) : Nat := x % 2 ^ 32
def highWord (x : Nat) : Nat := x / 2 ^ 32 % 2 ^ 32

/-- Word `w` of the mask of the units of a class that satisfy a condition. -/
def maskWord (p : Nat → Bool) (w : Nat) : Nat := maskOf ((List.range 32).filter (fun b => p (32 * w + b)))

/-- The capability words of a class (R55): COUNT at `at_`, PRESENT from `p` and IN_SERVICE from `q`, each of `n` words. -/
def State.capWord (s : State) (c at_ p q n off : Nat) : Nat :=
  if off = at_ then ((List.range (classInstances c)).filter (fun i => s.present c i)).length
  else if p ≤ off ∧ off < p + 4 * n then maskWord (fun i => s.present c i) ((off - p) / 4)
  else if q ≤ off ∧ off < q + 4 * n then maskWord (fun i => s.inService c i) ((off - q) / 4)
  else 0

/-- Identity and capabilities (Tables 3-4 to 3-7). -/
def State.readIdent (s : State) (off : Nat) : Nat :=
  let v := s.die.variant
  if off = 0x000 then
    s.deviceId + v % 16 * 2 ^ 16 + s.die.dieStep % 256 * 2 ^ 20
  else if off = 0x004 then s.die.romVer % 65536
  else if off = 0x008 then lowWord s.die.dieId
  else if off = 0x00c then highWord s.die.dieId
  else if off = 0x010 then b2n (v == 1) + 2 * s.nSt * 2 ^ 8 + 4 * 2 ^ 16
  else if off = 0x014 then
    (if s.md.dramOk then s.chBytes 0 / gib % 256 + s.chBytes 1 / gib % 256 * 2 ^ 8 else 0)
  else if 0x100 ≤ off ∧ off < 0x10c then s.capWord clsSTN 0x100 0x104 0x108 1 off
  else if 0x110 ≤ off ∧ off < 0x160 then s.capWord clsBEAM 0x110 0x120 0x140 8 off
  else if 0x160 ≤ off ∧ off < 0x16c then s.capWord clsVL 0x160 0x164 0x168 1 off
  else if 0x170 ≤ off ∧ off < 0x17c then s.capWord clsDL 0x170 0x174 0x178 1 off
  else if 0x180 ≤ off ∧ off < 0x194 then s.capWord clsDT 0x180 0x184 0x18c 2 off
  else if 0x1a0 ≤ off ∧ off < 0x1ac then s.capWord clsLE 0x1a0 0x1a4 0x1a8 1 off
  else if off = 0x1b0 then s.nCh
  else if off = 0x1b4 then 2 ^ s.nCh - 1
  else if off = 0x1b8 then b2n (s.chHere 0) + 2 * b2n (s.chHere 1)
  else 0

/-- The code of a boot state (Table 3-11). -/
def Boot.code : Boot → Nat
  | .init => 0 | .awaiting => 1 | .checking => 2 | .running => 3 | .rejected => 4 | .locked => 5

/-- Mode, boot and tempo (Tables 3-9 to 3-12). -/
def State.readMode (s : State) (off : Nat) : Nat :=
  if off = 0x1000 then
    s.md.mode.code + (match s.md.pend with
      | some p => 2 ^ 3 + p.target.code * 2 ^ 4
      | none => 0) + b2n s.md.dramOk * 2 ^ 7
  else if off = 0x1014 then
    s.md.boot.code + (if s.die.fuseOk then s.md.rejectCode else 8) * 2 ^ 4 + s.md.rejectCount * 2 ^ 12
  else if off = 0x2000 then lowWord s.tempo
  else if off = 0x2004 then s.host.tempoHi
  else if off = 0x2008 then b2n s.running + 2 * b2n s.follower
  else 0

/-- FAULT_CLASS (Table 3-13). -/
def State.faultClass (s : State) : Nat := maskOf ((List.range 15).filter (fun c => s.faults.any (fun f => f.code / 256 == c)))

/-- The words of a ledger entry (Table 16-3). One whose write was cut off reads with CHECK_OK 0. -/
def LedgerEntry.words (e : LedgerEntry) (i : Nat) : Nat × Nat :=
  if e.ok then
    let w1 := e.tempo / 2 ^ 21 % 2 ^ 32
    let w0 := 3 + e.kind % 8 * 2 ^ 2 + e.source % 32 * 2 ^ 5 + e.mode % 8 * 2 ^ 11 + wrapBits 8 e.temp * 2 ^ 16
    let crc := crc8 (toLE 3 w0 ++ toLE 4 w1)
    (w0 + crc * 2 ^ 24, w1)
  else (1 + Config.tornLedger i % 2 ^ 30 * 4, Config.tornLedger (64 + i) % 2 ^ 32)

/-- Faults, ledger and interlock (Tables 3-13 to 3-15, R386). -/
def State.readFault (s : State) (off : Nat) : Nat :=
  if off = 0x3000 then s.faultClass
  else if off = 0x3004 then
    b2n s.thermTrip + 2 * b2n s.watchdog + 4 * b2n (!s.aon.pwrflt.isEmpty || s.aon.pwrfltExt) + 8 * b2n s.anyUe
      + 16 * b2n (s.md.mode == .safeHold)
  else if off = 0x3008 then s.firstCode
  else if off = 0x300c then lowWord s.firstTempo
  else if off = 0x3010 then highWord s.firstTempo
  else if 0x3100 ≤ off ∧ off < 0x3300 then
    (match s.aon.ledger[(off - 0x3100) / 8]? with
      | some e => if off % 8 = 0 then (e.words ((off - 0x3100) / 8)).1 else (e.words ((off - 0x3100) / 8)).2
      | none => 0)
  else if off = 0x4000 then
    b2n s.video.ilkA + 2 * b2n s.video.ilkB + 4 * b2n s.video.blanked + 8 * b2n s.video.openSeen
  else if off = 0x4004 then s.video.ilkCount
  else if off = 0x4008 then lowWord s.video.ilkLast
  else if off = 0x400c then highWord s.video.ilkLast
  else 0

/-- A ring's registers (Table 3-16). -/
def State.readRing (s : State) (n off : Nat) : Nat :=
  let g := s.ring n
  if off = 0x00 then b2n g.en
  else if off = 0x04 then g.code + g.haltCause * 2 ^ 8
  else if off = 0x08 then g.cmdTail
  else if off = 0x0c then g.cmdHead
  else if off = 0x10 then lowWord g.rspBase
  else if off = 0x14 then highWord g.rspBase
  else if off = 0x18 then g.log2
  else if off = 0x1c then g.rspHead
  else if off = 0x20 then g.rspTail
  else if off = 0x24 then g.vec + g.irqCount * 2 ^ 8 + g.irqTime * 2 ^ 16
  else 0

/-- A DMA channel's registers (Table 7-6). -/
def State.readDma (s : State) (ch off : Nat) : Nat :=
  let d := s.dma ch
  if !s.dmaOpen ch then 0
  else if off = 0x04 then d.state.code + s.par clsDMA ch 0x002 % 2 * 4 + 8 * b2n d.badSeen + 16 * b2n d.doneSeen
  else if off = 0x08 then lowWord d.next
  else if off = 0x0c then highWord d.next
  else if off = 0x10 then lowWord d.last
  else if off = 0x14 then highWord d.last
  else if off = 0x18 then lowWord d.cur
  else if off = 0x1c then highWord d.cur
  else if off = 0x20 then d.doneCount
  else if off = 0x24 then d.badCount
  else if off = 0x28 then lowWord d.badAddr
  else if off = 0x2c then highWord d.badAddr
  else if off = 0x30 then b2n d.irqEn
  else 0

/-- The ECC registers of an instance (Table 17-2). -/
def State.readEcc (s : State) (i off : Nat) : Nat :=
  let m := s.mem i
  if !s.eccOpen i then 0
  else if off = 0x00 then 1 + 2 * b2n m.test + 4 * b2n m.ceSeen + 8 * b2n m.ueSeen + 16 * b2n m.scrub.isSome
  else if off = 0x04 then m.ceCount
  else if off = 0x08 then m.ueCount
  else if off = 0x0c then lowWord m.last
  else if off = 0x10 then highWord m.last
  else if off = 0x14 then m.info
  else if off = 0x18 then b2n m.test + m.op * 2
  else if off = 0x1c then lowWord m.tAddr
  else if off = 0x20 then highWord m.tAddr
  else if off = 0x24 then lowWord m.tData
  else if off = 0x28 then highWord m.tData
  else if off = 0x2c then m.tCheck
  else if off = 0x30 then m.tBit + m.tClass * 2 ^ 7 + b2n m.done * 2 ^ 10
  else 0

/-- Words of BAR4 (Table 3-2): the MSI-X table, and the PBA at 0x8000. -/
def State.readMsix (s : State) (off : Nat) : Nat :=
  if off < 0x400 then s.msixWord (off / 4)
  else if off = 0x8000 then lowWord s.host.pba
  else if off = 0x8004 then highWord s.host.pba
  else 0

/-- What a 4-byte read of a register returns, apart from what the read itself changes (TEMPO_LO and the RC counters); an offset
that no field map names reads 0 (R54). From 0x10_0000 on the offsets are BAR4's, and from 0x20_0000 on those of the configuration
space. -/
def State.readReg (s : State) (off : Nat) : Nat :=
  if off < 0x1000 then s.readIdent off
  else if off < 0x3000 then s.readMode off
  else if off < 0x5000 then s.readFault off
  else if 0x10000 ≤ off ∧ off < 0x10400 then s.readRing ((off - 0x10000) / 0x40) (off % 0x40)
  else if 0x11000 ≤ off ∧ off < 0x11800 then s.readDma ((off - 0x11000) / 0x40) (off % 0x40)
  else if 0x20000 ≤ off ∧ off < 0x20600 then s.readEcc ((off - 0x20000) / 0x40) (off % 0x40)
  else if 0x100000 ≤ off ∧ off < 0x110000 then s.readMsix (off - 0x100000)
  else if 0x200000 ≤ off ∧ off < 0x201000 then s.readCfg (off - 0x200000)
  else 0

/-- A read of ILK_COUNT returns and clears it; an opening of this tempo is kept for the next read (R13, R58). -/
def State.takeIlk (s : State) : Nat × State :=
  let k := s.video.ilkNew.now s.tempo
  (s.video.ilkCount - k, { s with video := { s.video with ilkCount := k } })

/-- A 4-byte read of BAR0: what it returns, and what it leaves (R13, R57). -/
def State.read4 (s : State) (off : Nat) : Nat × State :=
  if off = 0x2000 then (lowWord s.tempo, { s with host := { s.host with tempoHi := highWord s.tempo } })
  else if off = 0x4004 then s.takeIlk
  else if 0x11000 ≤ off ∧ off < 0x11800 ∧ off % 0x40 = 0x20 then s.takeDone ((off - 0x11000) / 0x40)
  else if 0x11000 ≤ off ∧ off < 0x11800 ∧ off % 0x40 = 0x24 then s.takeBad ((off - 0x11000) / 0x40)
  else if 0x20000 ≤ off ∧ off < 0x20600 ∧ off % 0x40 = 0x04 then s.takeCe ((off - 0x20000) / 0x40)
  else if 0x20000 ≤ off ∧ off < 0x20600 ∧ off % 0x40 = 0x08 then s.takeUe ((off - 0x20000) / 0x40)
  else (s.readReg off, s)

/-- An 8-byte read of BAR0 (R53): two 4-byte reads, the lower address first, but for TEMPO, which is read whole (R57). The other
pairs that are read atomically are read here in one state. -/
def State.read8 (s : State) (off : Nat) : Nat × State :=
  if off = 0x2000 then (s.tempo, s)
  else
    let r := s.read4 off
    let r2 := r.2.read4 (off + 4)
    (r.1 + r2.1 * 2 ^ 32, r2.2)

/-- A naturally aligned read of BAR0 completes with what it returns; `wide` is the 8-byte read that contains the register. -/
def State.answer (s : State) (off : Nat) (wide : Bool) : State :=
  if wide then (s.read8 (off / 8 * 8)).2.emit (.completion (toLE 8 (s.read8 (off / 8 * 8)).1))
  else (s.read4 off).2.emit (.completion (toLE 4 (s.read4 off).1))

/-- TEMPO_LO_READ (R57). This row and those of the counters that clear when read are 4-byte reads: one of 8 bytes comes as
BAR0_BAD_ACCESS's access that BAR0 accepts. -/
def execTempoLoRead (s : State) : Host.Outcome State Fault Refusal := .next (s.access (fun u => u.answer 0x2000 false))

/-- ILK_COUNT_READ (R58). -/
def execIlkCountRead (s : State) : Host.Outcome State Fault Refusal := .next (s.access (fun u => u.answer 0x4004 false))

/-- DMA_DONE_COUNT_READ (R165). -/
def execDmaDoneCountRead (ch : Idx) (s : State) : Host.Outcome State Fault Refusal :=
  .next (s.access (fun u => u.answer (0x11020 + 0x40 * ch) false))

/-- DMA_BAD_COUNT_READ (R165). -/
def execDmaBadCountRead (ch : Idx) (s : State) : Host.Outcome State Fault Refusal :=
  .next (s.access (fun u => u.answer (0x11024 + 0x40 * ch) false))

/-- ECC_CE_COUNT_READ (R398). -/
def execEccCeCountRead (inst : Idx) (s : State) : Host.Outcome State Fault Refusal :=
  .next (s.access (fun u => u.answer (0x20004 + 0x40 * inst) false))

/-- ECC_UE_COUNT_READ (R398). -/
def execEccUeCountRead (inst : Idx) (s : State) : Host.Outcome State Fault Refusal :=
  .next (s.access (fun u => u.answer (0x20008 + 0x40 * inst) false))


/-! ### Writes -/

/-- A write of ILK_STATUS: OPEN_SEEN does not clear while an input is open, nor in a tempo in which one has been (R13, R58). (DEDUCED: assumption 15) -/
def State.clearOpenSeen (s : State) (v : Nat) : State :=
  if bit v 3 then
    { s with video := { s.video with openSeen := s.video.ilkA || s.video.ilkB || (s.video.openSeen && s.video.openAt == some s.tempo) } }
  else s

/-- ILK_OPEN_SEEN_CLEAR. -/
def execIlkOpenSeenClear (v : Word) (s : State) : Host.Outcome State Fault Refusal := .next (s.access (fun u => u.clearOpenSeen v.toNat))

/-- A write of BOOT_CTRL (R56). -/
def State.writeBootCtrl (s : State) (v : Nat) : State := if bit v 1 then s.firmwareReset v else s.bootGo v

/-- A write of a ring's registers (R60). -/
def State.writeRing (s : State) (n off v : Nat) : State :=
  let g := s.ring n
  if off = 0x00 then s.writeRingEn n (bit v 0)
  else if off = 0x08 then s.writeCmdTail n v
  else if off = 0x1c then s.writeRspHead n v
  else if off = 0x24 then s.setRing n { g with vec := field v 0 6, irqCount := field v 8 6, irqTime := field v 16 16 }
  else if g.en then s
  else if off = 0x10 then s.setRing n { g with rspBase := highWord g.rspBase * 2 ^ 32 + v / 4096 * 4096 }
  else if off = 0x14 then s.setRing n { g with rspBase := lowWord g.rspBase + v * 2 ^ 32 }
  else if off = 0x18 then s.setRing n { g with log2 := v % 16 }
  else s

/-- A write of a DMA channel's registers (R165). -/
def State.writeDma (s : State) (ch off v : Nat) : State :=
  let d := s.dma ch
  if off = 0x00 then s.doorbell ch v
  else if off = 0x04 then s.clearDma ch v
  else if !s.dmaOpen ch then s
  else if off = 0x30 then s.setDma ch { d with irqEn := bit v 0 }
  else if d.state ≠ .idle ∨ !s.hostOwned ch then s
  else if off = 0x08 then s.setDma ch { d with next := highWord d.next * 2 ^ 32 + v / 32 * 32 }
  else if off = 0x0c then s.setDma ch { d with next := lowWord d.next + v * 2 ^ 32 }
  else s

/-- A write of an instance's ECC registers. -/
def State.writeEcc (s : State) (i off v : Nat) : State :=
  if off = 0x00 then s.clearEcc i v
  else if off = 0x18 then s.writeTestCtrl i v
  else s.writeTestReg i off v

/-- Send the pending vectors that may be sent now, and clear their PBA bits (R49, R68). (DEDUCED: assumption 15) -/
def State.sendPending (s : State) : State :=
  (List.range 64).foldl (fun u v =>
    if bit u.host.pba v && u.mayVector v then
      ({ u with host := { u.host with pba := u.host.pba - 2 ^ v } }).emit (.msix v)
    else u) s

/-- A write of a word of the MSI-X table (Table 3-2). (DEDUCED: assumption 15) -/
def State.writeMsix (s : State) (w v : Nat) : State :=
  { s with host := { s.host with
    msix := Map.put (fun k => if k % 4 = 3 then 1 else 0) s.host.msix w v } }.sendPending

/-- A 4-byte write of a register, numbered as for a read. -/
def State.writeReg (s : State) (off v : Nat) : State :=
  if off % 4 ≠ 0 then s
  else if off = 0x1010 then s.writeBootCtrl v
  else if off = 0x4000 then s.clearOpenSeen v
  else if 0x10000 ≤ off ∧ off < 0x10400 then s.writeRing ((off - 0x10000) / 0x40) (off % 0x40) v
  else if 0x11000 ≤ off ∧ off < 0x11800 then s.writeDma ((off - 0x11000) / 0x40) (off % 0x40) v
  else if 0x20000 ≤ off ∧ off < 0x20600 then s.writeEcc ((off - 0x20000) / 0x40) (off % 0x40) v
  else if 0x100000 ≤ off ∧ off < 0x100400 then s.writeMsix ((off - 0x100000) / 4) v
  else if 0x200000 ≤ off ∧ off < 0x201000 then
    ({ s with host := { s.host with
      cfg := s.host.cfg.write (off - 0x200000) v
      msixEn := if off = 0x200050 then bit v 31 else s.host.msixEn } }).sendPending
  else s

/-- REGISTER_WRITE, by 4 or by 8 bytes: 8 bytes are two writes of 4, the lower address first (R53). The configuration space is
reached in D3hot too. (DEDUCED: assumption 15) -/
def execRegisterWrite (off : Nat) (v : RegValue) (s : State) : Host.Outcome State Fault Refusal :=
  .next (
    let act := fun (u : State) => match v with
      | .word x => u.writeReg off x.toNat
      | .dword x => if off % 8 = 0 then (u.writeReg off (x.toNat % 2 ^ 32)).writeReg (off + 4) (x.toNat / 2 ^ 32) else u
    if 0x200000 ≤ off ∧ s.host.linkUp then act s else s.access act)

/-- BAR0_BAD_ACCESS: an access that is not a naturally aligned one of 4 or 8 bytes (R53): a write is dropped, and a read completes
with Completer Abort and is logged. Where the access is one that BAR0 accepts, a read answers, and a write is REGISTER_WRITE's. (DEDUCED: assumption 15) -/
def execBar0BadAccess (write : Bool) (off : Nat) (len : Nat) (s : State) : Host.Outcome State Fault Refusal :=
  .next (s.access (fun u =>
    if write then u
    else if (len = 4 ∨ len = 8) ∧ off % len = 0 then u.answer off (len == 8)
    else u.logAbort.emit .completerAbort))

end Sys2Proof.Machine
end

