-- ==== Sys2Proof/Machine/Session.lean ====
section
/-!
DEFINITION. Session, parameter and table commands (Tables 4-10 and 4-12; FAULT_LIST and FAULT_CLEAR stand in
Machine/Faults.lean, the mode commands in Machine/ModeRows.lean).
-/
namespace Sys2Proof.Machine

/-! ### Session -/

/-- NOP. -/
def execNop (m : Msg) (s : State) : Host.Outcome State Fault Refusal :=
  .next (
    let s := s.enter inDirect
    s.command 0x0000 m (m.plen 0 ++ m.argRes 0xffffffffffffffff) (fun r u => u.ok r))

/-- The words that the hello and VERSION_GET share (Table 3-21). -/
def State.versions (s : State) : Bytes := toLE 4 s.md.cmdsetVer ++ toLE 4 s.md.fwVer ++ toLE 4 (s.die.variant % 16)

/-- VERSION_GET. -/
def execVersionGet (m : Msg) (s : State) : Host.Outcome State Fault Refusal :=
  .next (
    let s := s.enter inDirect
    s.command 0x0001 m (m.plen 0 ++ m.argRes 0xffffffffffffffff)
    (fun r u => u.ok r (s.versions ++ toLE 4 (s.die.romVer % 65536))))

/-- EVENT_ROUTE. -/
def execEventRoute (m : Msg) (s : State) : Host.Outcome State Fault Refusal :=
  .next (
    let s := s.enter inDirect
    let c := m.argN 8 1
    let g := m.argN 9 1
    s.command 0x0020 m
      (m.plen 0 ++ m.argRes 0xffffffffffff0000 ++ refuse (decide (c < 1 ∨ 14 < c ∨ 15 < g)) stBAD_ARG)
      (fun r u => { u with host := { u.host with routes := Map.put (fun _ => 0) u.host.routes c g } }.ok r))

/-- EVENT_ROUTE_GET. -/
def execEventRouteGet (m : Msg) (s : State) : Host.Outcome State Fault Refusal :=
  .next (
    let s := s.enter inDirect
    s.command 0x0021 m (m.plen 0 ++ m.argRes 0xffffffffffffffff)
    (fun r u => u.ok r ((List.range 14).map (fun i => BitVec.ofNat 8 (Map.get (fun _ => 0) s.host.routes (i + 1))))))

/-! ### Parameters (R85, R86, R432) -/

/-- PARAM_READ. A refused address reads 0 and the other values are returned with it. -/
def execParamRead (m : Msg) (s : State) : Host.Outcome State Fault Refusal :=
  .next (
    let s := s.enter inDirect
    let n := m.argN 8 2
    let as := (records 4 m.payload).map ofLE
    let first := (refuseEach as (fun _ a => s.paramStatus a)).head?
    s.command 0x0200 m
      (m.plen (4 * n) ++ m.argRes 0xffffffffffff0000 ++ refuse (decide (n < 1 ∨ 117 < n)) stBAD_ARG
        ++ (if m.checkOnly then first.toList else []))
      (fun r u =>
        let u1 := (as.filter (fun a => (s.paramStatus a).isEmpty)).foldl (fun v a => v.readEffect a) u
        let data := as.flatMap (fun a => toLE 8 (if (s.paramStatus a).isEmpty then s.readParam a else 0))
        match first with
        | some x => u1.post r x.code x.index data
        | none => u1.ok r data))

/-- The address and value of a pair record of PARAM_WRITE. -/
def pairOf (b : Bytes) : Nat × Nat := (leAt b 0 4, leAt b 8 8)

/-- PARAM_WRITE: every pair is checked before any is applied; PARAM_WRITE_PAIR_APPLY then applies them one by one. A ring
runs one command at a time (R65), so it takes no second one before. (DESIGN CHOICE: assumption 11) -/
def execParamWrite (m : Msg) (s : State) : Host.Outcome State Fault Refusal :=
  .next (
    let s := s.enter inDirect
    let n := m.argN 8 2
    let rs := records 16 m.payload
    let fail := (refuseEach (rs.map pairOf) (fun _ p => (s.writeRef p.1 p.2).toList)).head?
    if (s.ring m.ring).pairs.isSome then s
    else s.command 0x0201 m
      (m.plen (16 * n) ++ m.argRes 0xffffffffffff0000 ++ refuse (decide (n < 1 ∨ 63 < n)) stBAD_ARG
        ++ refuseEach rs (fun _ b => if leAt b 4 4 != 0 then [stBAD_ARG] else []) ++ fail.toList)
      (fun r u => (u.hold 0x0201 m).updRing m.ring (fun g => { g with
        pairs := some { reply := r, pairs := rs.map pairOf } })))

/-- The clock of the unit that a parameter belongs to, when it is gated and may run in this mode (R42, Tables 2-1 and 2-5): a
station's VPLL, a Beam Link's BLPLL. (DEDUCED: assumption 23) -/
def State.gatedClock (s : State) (a : Nat) : Option Nat :=
  let p := if aCls a = clsSTN then 8 + aIdx a else if aCls a = clsBEAM then 8 + aIdx a / 32
    else if aCls a = clsVL then 3 + aIdx a / 16 else 0
  if p ≠ 0 ∧ s.md.mode ≠ .configure ∧ (s.pll p).state = .off then some p else none

/-- The start latency of a clock in tempo (Table 2-5); a larger lock window lengthens it (R138). -/
def State.startLatency (s : State) (p : Nat) : Nat :=
  4 * (s.pllWinLen p - 2 ^ 8 * pllRefPeriod p)
    + (if p < 8 then 50000
       else if s.par clsSTN (p - 8) 0x078 < 8 ∧ bit (s.slotField (p - 8) (s.par clsSTN (p - 8) 0x078) 0 1) 0 then 10000 else 100000)

/-- The job's next pair may be applied in this tempo: it is the next tempo's when its ring has applied one, and it waits for a
clock. -/
def PairJob.due (j : PairJob) (t : Tempo) : Bool :=
  j.lastAt != some t && (match j.clockAt with
    | some c => decide (c ≤ t)
    | none => true)

/-- A pair waits for other rings (R66): a lower ring that is due writes the same parameter first, and what another ring has written
in this tempo is written again in the next. -/
def State.defers (s : State) (ring a : Nat) : Bool :=
  (s.host.appliedAt == some s.tempo && s.host.applied.contains a)
    || (List.range ring).any (fun i => match (s.ring i).pairs with
      | some j => j.due s.tempo && (j.pairs.head?.map (fun p => p.1)) == some a
      | none => false)

/-- Note that a parameter has been written in this tempo. -/
def State.noteApplied (s : State) (a : Nat) : State :=
  { s with host := { s.host with
    applied := if s.host.appliedAt = some s.tempo then s.host.applied ++ [a] else [a], appliedAt := some s.tempo } }

/-- PARAM_WRITE_PAIR_APPLY: firmware applies the next pair of the PARAM_WRITE that runs on a ring, one per tempo at most; the
sheet lock is checked again. A unit whose clock is gated is started, and the pair waits for the start latency (R42). -/
def execParamWritePairApply (ring : Idx) (s : State) : Host.Outcome State Fault Refusal :=
  .next (
    let s := s.enter inDirect
    match (s.ring ring).pairs with
    | none => s
    | some j =>
      if s.md.boot != .running || !j.due s.tempo then s
      else
        let close := fun (u : State) => u.updRing ring (fun g => { g with pairs := none })
        match j.pairs with
        | [] => (close s).ok j.reply
        | (a, v) :: rest =>
          if s.defers ring a then s
          else if s.writeLocked a then (close s).post j.reply stSHEET_LOCKED j.next
          else match (if j.clockAt.isNone then s.gatedClock a else none) with
            | some p =>
              (s.startPll p).updRing ring (fun g => { g with pairs := some { j with clockAt := some (s.tempo + s.startLatency p) } })
            | none =>
              let s1 := (s.applyParam a v).noteApplied a
              if rest.isEmpty then (close s1).ok j.reply
              else s1.updRing ring (fun g => { g with
                pairs := some { j with pairs := rest, next := j.next + 1, lastAt := some s.tempo, clockAt := none } }))

/-- PARAM_DESCRIBE. -/
def execParamDescribe (m : Msg) (s : State) : Host.Outcome State Fault Refusal :=
  .next (
    let s := s.enter inDirect
    let a := m.argN 8 4
    s.command 0x0202 m
      (m.plen 0 ++ m.argRes 0xffffffff00000000 ++ (s.paramStatus a).map (fun c => { code := c }))
      (fun r u => match findFamily (aCls a) (aPid a) with
        | none => u.ok r
        | some f =>
          let lim := s.rangeOf f (aIdx a) (aPid a)
          u.ok r (toLE 1 f.ty.code ++ toLE 1 f.win.code ++ toLE 1 (b2n f.lock) ++ toLE 1 f.unit
            ++ toLE 8 (i64 lim.1) ++ toLE 8 (i64 lim.2) ++ toLE 8 (s.defaultOf f (aPid a)))))

/-- FAMILY_LIST: the families of a class in ascending base PID, as many as a response carries. -/
def execFamilyList (m : Msg) (s : State) : Host.Outcome State Fault Refusal :=
  .next (
    let s := s.enter inDirect
    let c := m.argN 8 1
    let fs := (families.filter (fun f => f.cls == c)).drop (m.argN 10 2)
    s.command 0x0203 m
      (m.plen 0 ++ m.argRes 0xffffffff0000ff00 ++ refuse (classInstances c == 0) stBAD_ARG)
      (fun r u => u.ok r ((fs.take 117).flatMap (fun f =>
        toLE 2 f.base ++ toLE 2 f.n ++ toLE 1 f.ty.code ++ toLE 1 f.win.code ++ toLE 1 (b2n f.lock) ++ toLE 1 0))))

/-! ### Tables (R88, R94) -/

/-- The checks of a table id and an instance that table commands share. -/
def State.tableArgs (s : State) (id inst : Nat) : List Ref :=
  if tableSize id = 0 then refuse true stBAD_ARG
  else if classInstances (tableClass id) ≤ inst then refuse true stUNKNOWN_ADDRESS
  else (s.addrStatus (obj (tableClass id) inst)).map (fun c => { code := c })

/-- TABLE_LOAD. -/
def execTableLoad (m : Msg) (s : State) : Host.Outcome State Fault Refusal :=
  .next (
    let s := s.enter inDirect
    let id := m.argN 8 1
    let inst := m.argN 10 2
    let off := m.argN 12 4
    let st := s.staging id
    let n := m.payload.length
    s.command 0x0300 m
      (refuse (n == 0 || n % 8 != 0) stMALFORMED ++ m.argRes 0xff00
        ++ refuse (off % 8 != 0 || decide (tableSize id < off + n)) stBAD_ARG ++ s.tableArgs id inst
        ++ refuse (s.stagingHeld id none none || (st.inst.isSome && st.inst != some inst)) stBUSY)
      (fun r u =>
        let base := if st.inst.isSome then st.data else bytesAt (s.table id inst) 0 (tableSize id)
        (u.setStaging id { inst := some inst, data := pokeBytes base off m.payload }).ok r))

/-- The commit window of a table (Table 4-8). -/
def State.commitWindow (s : State) (id inst : Nat) : List Ref :=
  if (1 ≤ id ∧ id ≤ 4) ∨ id = 9 then s.inModes modesCfSb
  else if id = 7 ∨ id = 8 then refuse (!s.ownerIdle (tableClass id) inst) stWRONG_STATE
  else []

/-- TABLE_COMMIT. -/
def execTableCommit (m : Msg) (s : State) : Host.Outcome State Fault Refusal :=
  .next (
    let s := s.enter inDirect
    let id := m.argN 8 1
    let inst := m.argN 10 2
    s.command 0x0301 m
      (m.plen 0 ++ m.argRes 0xff00 ++ s.tableArgs id inst ++ s.commitWindow id inst
        ++ (s.commitRef id inst (m.argN 12 4) none none false).toList)
      (fun r u => (u.commitTable id inst).ok r))

/-- TABLE_READ. -/
def execTableRead (m : Msg) (s : State) : Host.Outcome State Fault Refusal :=
  .next (
    let s := s.enter inDirect
    let id := m.argN 8 1
    let inst := m.argN 10 2
    let off := m.argN 12 4
    let staged := m.argN 9 1 == 1
    let st := s.staging id
    let data := if staged then st.data else s.table id inst
    s.command 0x0302 m
      (m.plen 0 ++ refuse (decide (1 < m.argN 9 1) || decide (tableSize id ≤ off)) stBAD_ARG ++ s.tableArgs id inst
        ++ refuse (staged && st.inst != some inst) stWRONG_STATE)
      (fun r u => u.ok r (bytesAt data off (min 936 (tableSize id - off)))))

/-- TABLE_DISCARD. -/
def execTableDiscard (m : Msg) (s : State) : Host.Outcome State Fault Refusal :=
  .next (
    let s := s.enter inDirect
    let id := m.argN 8 1
    s.command 0x0303 m
      (m.plen 0 ++ m.argRes 0xffffffffffffff00 ++ refuse (tableSize id == 0) stBAD_ARG
        ++ refuse (s.stagingHeld id none none) stBUSY)
      (fun r u => (u.setStaging id {}).ok r))

end Sys2Proof.Machine
end

