-- ==== Sys2Proof/Machine/Dispatch.lean ====
section
/-!
DEFINITION. What each command does: one arm for each constructor of `Instr`, one direct call of its meaning.
-/
namespace Sys2Proof.Machine

/-- The effect of a command on everything but the queue. (DEDUCED: assumption 6) -/
def exec (i : Instr) (s : State) : Host.Outcome State Fault Refusal :=
  match i with
  | .nop m => Sys2Proof.Machine.execNop m s
  | .versionGet m => Sys2Proof.Machine.execVersionGet m s
  | .modeSet m => Sys2Proof.Machine.execModeSet m s
  | .dormantEnter m => Sys2Proof.Machine.execDormantEnter m s
  | .eventRoute m => Sys2Proof.Machine.execEventRoute m s
  | .eventRouteGet m => Sys2Proof.Machine.execEventRouteGet m s
  | .faultList m => Sys2Proof.Machine.execFaultList m s
  | .faultClear m => Sys2Proof.Machine.execFaultClear m s
  | .pressCommit m => Sys2Proof.Machine.execPressCommit m s
  | .pressClear m => Sys2Proof.Machine.execPressClear m s
  | .serviceSet m => Sys2Proof.Machine.execServiceSet m s
  | .promote m => Sys2Proof.Machine.execPromote m s
  | .groupSet m => Sys2Proof.Machine.execGroupSet m s
  | .groupGet m => Sys2Proof.Machine.execGroupGet m s
  | .groupClear m => Sys2Proof.Machine.execGroupClear m s
  | .paramRead m => Sys2Proof.Machine.execParamRead m s
  | .paramWrite m => Sys2Proof.Machine.execParamWrite m s
  | .paramWritePairApply ring => Sys2Proof.Machine.execParamWritePairApply ring s
  | .paramDescribe m => Sys2Proof.Machine.execParamDescribe m s
  | .familyList m => Sys2Proof.Machine.execFamilyList m s
  | .tableLoad m => Sys2Proof.Machine.execTableLoad m s
  | .tableCommit m => Sys2Proof.Machine.execTableCommit m s
  | .tableRead m => Sys2Proof.Machine.execTableRead m s
  | .tableDiscard m => Sys2Proof.Machine.execTableDiscard m s
  | .castleStage m => Sys2Proof.Machine.execCastleStage m s
  | .castleArm m => Sys2Proof.Machine.execCastleArm m s
  | .castleDisarm m => Sys2Proof.Machine.execCastleDisarm m s
  | .castleClear m => Sys2Proof.Machine.execCastleClear m s
  | .castleStatus m => Sys2Proof.Machine.execCastleStatus m s
  | .ticketBuild m => Sys2Proof.Machine.execTicketBuild m s
  | .ticketSealArm m => Sys2Proof.Machine.execTicketSealArm m s
  | .ticketDisarm m => Sys2Proof.Machine.execTicketDisarm m s
  | .ticketFree m => Sys2Proof.Machine.execTicketFree m s
  | .ticketStatus m => Sys2Proof.Machine.execTicketStatus m s
  | .storeAlloc m => Sys2Proof.Machine.execStoreAlloc m s
  | .storeFree m => Sys2Proof.Machine.execStoreFree m s
  | .storeFence m => Sys2Proof.Machine.execStoreFence m s
  | .storeFenceComplete ring => Sys2Proof.Machine.execStoreFenceComplete ring s
  | .storeFenceTimeout ring => Sys2Proof.Machine.execStoreFenceTimeout ring s
  | .dmaOpen m => Sys2Proof.Machine.execDmaOpen m s
  | .dmaClose m => Sys2Proof.Machine.execDmaClose m s
  | .compressJob m => Sys2Proof.Machine.execCompressJob m s
  | .compressJobStart => Sys2Proof.Machine.execCompressJobStart s
  | .compressJobEnd ue => Sys2Proof.Machine.execCompressJobEnd ue s
  | .tileEnable m => Sys2Proof.Machine.execTileEnable m s
  | .tileDisable m => Sys2Proof.Machine.execTileDisable m s
  | .move m => Sys2Proof.Machine.execMove m s
  | .stop m => Sys2Proof.Machine.execStop m s
  | .gearSet m => Sys2Proof.Machine.execGearSet m s
  | .polyStart m => Sys2Proof.Machine.execPolyStart m s
  | .diagRun m => Sys2Proof.Machine.execDiagRun m s
  | .stationEnable m => Sys2Proof.Machine.execStationEnable m s
  | .stationDisable m => Sys2Proof.Machine.execStationDisable m s
  | .linkTrain m => Sys2Proof.Machine.execLinkTrain m s
  | .linkTrainDone link countEqual => Sys2Proof.Machine.execLinkTrainDone link countEqual s
  | .beamMonitor m => Sys2Proof.Machine.execBeamMonitor m s
  | .railSequenceUp m => Sys2Proof.Machine.execRailSequenceUp m s
  | .railSequenceDown m => Sys2Proof.Machine.execRailSequenceDown m s
  | .railStatus m => Sys2Proof.Machine.execRailStatus m s
  | .ageingNew m => Sys2Proof.Machine.execAgeingNew m s
  | .marginPlan m => Sys2Proof.Machine.execMarginPlan m s
  | .marginPlanDone p => Sys2Proof.Machine.execMarginPlanDone p s
  | .scrub m => Sys2Proof.Machine.execScrub m s
  | .scrubDone inst => Sys2Proof.Machine.execScrubDone inst s
  | .spiXfer m => Sys2Proof.Machine.execSpiXfer m s
  | .spiTransferDone ctrl rx => Sys2Proof.Machine.execSpiTransferDone ctrl rx s
  | .i2cXfer m => Sys2Proof.Machine.execI2cXfer m s
  | .i2cTransferDone ctrl r => Sys2Proof.Machine.execI2cTransferDone ctrl r s
  | .bootCtrlGo v => Sys2Proof.Machine.execBootCtrlGo v s
  | .bootCheckDone => Sys2Proof.Machine.execBootCheckDone s
  | .bootRomInitDone => Sys2Proof.Machine.execBootRomInitDone s
  | .firmwareReset v => Sys2Proof.Machine.execFirmwareReset v s
  | .helloPost => Sys2Proof.Machine.execHelloPost s
  | .mbCtrlEnWrite ring v => Sys2Proof.Machine.execMbCtrlEnWrite ring v s
  | .mbCmdTailDoorbell ring v => Sys2Proof.Machine.execMbCmdTailDoorbell ring v s
  | .mailboxCommandTake ring ue => Sys2Proof.Machine.execMailboxCommandTake ring ue s
  | .mbRspHeadWrite ring v => Sys2Proof.Machine.execMbRspHeadWrite ring v s
  | .responseEntryPost ring ue => Sys2Proof.Machine.execResponseEntryPost ring ue s
  | .ringInterrupt ring => Sys2Proof.Machine.execRingInterrupt ring s
  | .tempoLoRead => Sys2Proof.Machine.execTempoLoRead s
  | .ilkOpenSeenClear v => Sys2Proof.Machine.execIlkOpenSeenClear v s
  | .ilkCountRead => Sys2Proof.Machine.execIlkCountRead s
  | .dmaStatusClear ch v => Sys2Proof.Machine.execDmaStatusClear ch v s
  | .dmaDoneCountRead ch => Sys2Proof.Machine.execDmaDoneCountRead ch s
  | .dmaBadCountRead ch => Sys2Proof.Machine.execDmaBadCountRead ch s
  | .dmaDoorbellRing ch by_ => Sys2Proof.Machine.execDmaDoorbellRing ch by_ s
  | .dmaDoorbellStop ch v => Sys2Proof.Machine.execDmaDoorbellStop ch v s
  | .eccStatusClear inst v => Sys2Proof.Machine.execEccStatusClear inst v s
  | .eccCeCountRead inst => Sys2Proof.Machine.execEccCeCountRead inst s
  | .eccUeCountRead inst => Sys2Proof.Machine.execEccUeCountRead inst s
  | .eccTestEnable inst v => Sys2Proof.Machine.execEccTestEnable inst v s
  | .readRaw inst => Sys2Proof.Machine.execReadRaw inst s
  | .readChecked inst => Sys2Proof.Machine.execReadChecked inst s
  | .writeData inst => Sys2Proof.Machine.execWriteData inst s
  | .writeCheck inst => Sys2Proof.Machine.execWriteCheck inst s
  | .writeRaw inst => Sys2Proof.Machine.execWriteRaw inst s
  | .writeNormal inst => Sys2Proof.Machine.execWriteNormal inst s
  | .eccTestDone inst => Sys2Proof.Machine.execEccTestDone inst s
  | .bar0BadAccess write off len => Sys2Proof.Machine.execBar0BadAccess write off len s
  | .bar2Access write off len data => Sys2Proof.Machine.execBar2Access write off len data s
  | .registerWrite off v => Sys2Proof.Machine.execRegisterWrite off v s
  | .standbyPowerOn => Sys2Proof.Machine.execStandbyPowerOn s
  | .pinReset => Sys2Proof.Machine.execPinReset s
  | .wakeFilterDone => Sys2Proof.Machine.execWakeFilterDone s
  | .ownRailSettled rail => Sys2Proof.Machine.execOwnRailSettled rail s
  | .ownRailRiseTimeout rail => Sys2Proof.Machine.execOwnRailRiseTimeout rail s
  | .wakeSpllLocked => Sys2Proof.Machine.execWakeSpllLocked s
  | .hostLinkReset cause => Sys2Proof.Machine.execHostLinkReset cause s
  | .ownRailFault rail => Sys2Proof.Machine.execOwnRailFault rail s
  | .ownRailFaultRl00 => Sys2Proof.Machine.execOwnRailFaultRl00 s
  | .ownRailPowerDown => Sys2Proof.Machine.execOwnRailPowerDown s
  | .dormantPgLost rail => Sys2Proof.Machine.execDormantPgLost rail s
  | .ilkOpen a b => Sys2Proof.Machine.execIlkOpen a b s
  | .ilkRelease => Sys2Proof.Machine.execIlkRelease s
  | .ilkDisagree => Sys2Proof.Machine.execIlkDisagree s
  | .tsyncFrameSend => Sys2Proof.Machine.execTsyncFrameSend s
  | .tsyncFrameReceive edge mk crc => Sys2Proof.Machine.execTsyncFrameReceive edge mk crc s
  | .tsyncLost => Sys2Proof.Machine.execTsyncLost s
  | .clockStart unit => Sys2Proof.Machine.execClockStart unit s
  | .pllBandFound pll band => Sys2Proof.Machine.execPllBandFound pll band s
  | .pllLockWindow pll count expected => Sys2Proof.Machine.execPllLockWindow pll count expected s
  | .pllRefLost pll => Sys2Proof.Machine.execPllRefLost pll s
  | .pllTempCorrection pll => Sys2Proof.Machine.execPllTempCorrection pll s
  | .meCountCapture me levels edge => Sys2Proof.Machine.execMeCountCapture me levels edge s
  | .meIndexEdge e => Sys2Proof.Machine.execMeIndexEdge e s
  | .gpioEdgeCapture pin level => Sys2Proof.Machine.execGpioEdgeCapture pin level s
  | .castleTrigger slot => Sys2Proof.Machine.execCastleTrigger slot s
  | .ticketResident tk => Sys2Proof.Machine.execTicketResident tk s
  | .headerCheck tk entry rank => Sys2Proof.Machine.execHeaderCheck tk entry rank s
  | .sealEvaluation tk ue => Sys2Proof.Machine.execSealEvaluation tk ue s
  | .flagFall tk => Sys2Proof.Machine.execFlagFall tk s
  | .timelineEntryTrigger tk entry ue => Sys2Proof.Machine.execTimelineEntryTrigger tk entry ue s
  | .exitCastle x => Sys2Proof.Machine.execExitCastle x s
  | .sheetOverrun tk => Sys2Proof.Machine.execSheetOverrun tk s
  | .modeTransitionComplete => Sys2Proof.Machine.execModeTransitionComplete s
  | .watchdogExpire cause => Sys2Proof.Machine.execWatchdogExpire cause s
  | .dramTrainingDone ch0 ch1 => Sys2Proof.Machine.execDramTrainingDone ch0 ch1 s
  | .dmaDescriptorStart ch d => Sys2Proof.Machine.execDmaDescriptorStart ch d s
  | .dmaDescriptorComplete ch => Sys2Proof.Machine.execDmaDescriptorComplete ch s
  | .dmaLookAgain ch d => Sys2Proof.Machine.execDmaLookAgain ch d s
  | .sharedResourceGrant res data => Sys2Proof.Machine.execSharedResourceGrant res data s
  | .dramWriteArrival seq => Sys2Proof.Machine.execDramWriteArrival seq s
  | .mergeBufferDrain inst word => Sys2Proof.Machine.execMergeBufferDrain inst word s
  | .fetchReturn lane => Sys2Proof.Machine.execFetchReturn lane s
  | .laneLineWrite lane ue => Sys2Proof.Machine.execLaneLineWrite lane ue s
  | .laneSubstreamComplete lane => Sys2Proof.Machine.execLaneSubstreamComplete lane s
  | .mapperStart link ue => Sys2Proof.Machine.execMapperStart link ue s
  | .beamLinkFrame link => Sys2Proof.Machine.execBeamLinkFrame link s
  | .bcStatus link p => Sys2Proof.Machine.execBcStatus link p s
  | .bcMon link p => Sys2Proof.Machine.execBcMon link p s
  | .bcLineLost link p => Sys2Proof.Machine.execBcLineLost link p s
  | .bcMgmtRsp link p => Sys2Proof.Machine.execBcMgmtRsp link p s
  | .bcEmitterFault link p => Sys2Proof.Machine.execBcEmitterFault link p s
  | .backchannelLost link => Sys2Proof.Machine.execBackchannelLost link s
  | .bdEdgeCapture st edge => Sys2Proof.Machine.execBdEdgeCapture st edge s
  | .bdWindowMiss st => Sys2Proof.Machine.execBdWindowMiss st s
  | .facetBoundary st edge time => Sys2Proof.Machine.execFacetBoundary st edge time s
  | .seekPulse st => Sys2Proof.Machine.execSeekPulse st s
  | .facetIndexEdge st => Sys2Proof.Machine.execFacetIndexEdge st s
  | .pslDownFrame tile => Sys2Proof.Machine.execPslDownFrame tile s
  | .pslUpFrame tile w => Sys2Proof.Machine.execPslUpFrame tile w s
  | .slowFault tile => Sys2Proof.Machine.execSlowFault tile s
  | .slowCfgAck tile => Sys2Proof.Machine.execSlowCfgAck tile s
  | .slowDiag tile => Sys2Proof.Machine.execSlowDiag tile s
  | .slowIndex tile => Sys2Proof.Machine.execSlowIndex tile s
  | .slowResolver tile => Sys2Proof.Machine.execSlowResolver tile s
  | .slowTemp tile => Sys2Proof.Machine.execSlowTemp tile s
  | .slowIdent tile => Sys2Proof.Machine.execSlowIdent tile s
  | .offokTimeout tile sw => Sys2Proof.Machine.execOffokTimeout tile sw s
  | .twoStepDone tile => Sys2Proof.Machine.execTwoStepDone tile s
  | .retryWaitExpire tile => Sys2Proof.Machine.execRetryWaitExpire tile s
  | .enablingTimeout tile => Sys2Proof.Machine.execEnablingTimeout tile s
  | .diagStepTimeout tile => Sys2Proof.Machine.execDiagStepTimeout tile s
  | .selftestWindowEnd tile => Sys2Proof.Machine.execSelftestWindowEnd tile s
  | .busVoltageUpdate tile => Sys2Proof.Machine.execBusVoltageUpdate tile s
  | .busStageFall bus => Sys2Proof.Machine.execBusStageFall bus s
  | .profileTick ax => Sys2Proof.Machine.execProfileTick ax s
  | .sixstepAlignDone tile => Sys2Proof.Machine.execSixstepAlignDone tile s
  | .polyAlignDone tile => Sys2Proof.Machine.execPolyAlignDone tile s
  | .polyBlindTimeout tile => Sys2Proof.Machine.execPolyBlindTimeout tile s
  | .polySyncTimeout tile => Sys2Proof.Machine.execPolySyncTimeout tile s
  | .polyCatchDone tile emf angle speed => Sys2Proof.Machine.execPolyCatchDone tile emf angle speed s
  | .currentSample tile ue => Sys2Proof.Machine.execCurrentSample tile ue s
  | .resonanceScanDone tile => Sys2Proof.Machine.execResonanceScanDone tile s
  | .zonePoll tile => Sys2Proof.Machine.execZonePoll tile s
  | .zoneReadDone tile zone rx => Sys2Proof.Machine.execZoneReadDone tile zone rx s
  | .heatWindowSettled tile => Sys2Proof.Machine.execHeatWindowSettled tile s
  | .hvWindowSettled tile leg => Sys2Proof.Machine.execHvWindowSettled tile leg s
  | .hvArcOffExpire tile leg => Sys2Proof.Machine.execHvArcOffExpire tile leg s
  | .sequpInHigh => Sys2Proof.Machine.execSequpInHigh s
  | .cascadeWaitTimeout => Sys2Proof.Machine.execCascadeWaitTimeout s
  | .railDelayExpire rail => Sys2Proof.Machine.execRailDelayExpire rail s
  | .railSettled rail => Sys2Proof.Machine.execRailSettled rail s
  | .railRiseTimeout r => Sys2Proof.Machine.execRailRiseTimeout r s
  | .railLost rail => Sys2Proof.Machine.execRailLost rail s
  | .railTurnOff rail => Sys2Proof.Machine.execRailTurnOff rail s
  | .pmbusVoutPoll rail r => Sys2Proof.Machine.execPmbusVoutPoll rail r s
  | .railFallen rail => Sys2Proof.Machine.execRailFallen rail s
  | .railFallTimeout rail => Sys2Proof.Machine.execRailFallTimeout rail s
  | .pwrfltSeen => Sys2Proof.Machine.execPwrfltSeen s
  | .thermalConversion readings => Sys2Proof.Machine.execThermalConversion readings s
  | .runoutProgramExpire ax => Sys2Proof.Machine.execRunoutProgramExpire ax s
  | .ledgerWriteDone => Sys2Proof.Machine.execLedgerWriteDone s
  | .perstDeassert => Sys2Proof.Machine.execPerstDeassert s
  | .hostLinkUp => Sys2Proof.Machine.execHostLinkUp s
  | .seqdnInHigh => Sys2Proof.Machine.execSeqdnInHigh s
  | .heatHvStatusReport tile => Sys2Proof.Machine.execHeatHvStatusReport tile s
  | .pwrfltNRelease => Sys2Proof.Machine.execPwrfltNRelease s
  | .resetNRelease => Sys2Proof.Machine.execResetNRelease s
  | .standbyPowerLoss => Sys2Proof.Machine.execStandbyPowerLoss s
  | .retryFurtherWaitExpire tile => Sys2Proof.Machine.execRetryFurtherWaitExpire tile s

end Sys2Proof.Machine
end

