-- ==== Sys2Proof/Machine/Step.lean ====
section
/-!
DEFINITION. One step of the block (assumption 2): the command at the front of the queue runs on the state with the rest of
the queue; with no command waiting, one tempo passes.
-/
namespace Sys2Proof.Machine

/-- One step. (DESIGN CHOICE: assumption 2; DESIGN CHOICE: assumption 42) -/
def step (s : State) : Host.Outcome State Fault Refusal :=
  match s.pending with
  | [] => .next s.tick
  | c :: rest => exec c { s with pending := rest }

/-- The state with the command that a word spells at the front of its queue; no word spells one. (DESIGN CHOICE: assumption 2) -/
def State.withFetchWord (s : State) (nbits w : Nat) : State :=
  match decodeTableWord nbits w with
  | some c => { s with pending := c :: s.pending }
  | none => s

end Sys2Proof.Machine
end

