-- ==== Sys2Proof/Safety.lean ====
section
/-!
DEFINITION. What counts as a sound state of the block: its fault records, its event backlog, its tempo and its memories are in
the form the manual gives them. Every step is meant to keep this form.
-/
namespace Sys2Proof.Machine

/-- The identity of a fault record: a code on an object (R428). -/
def FaultRec.key (f : FaultRec) : Nat × Nat := (f.code, f.obj)

/-- A state in the form the manual gives it. -/
structure Sound (s : State) : Prop where
  /-- A code is latched at most once on an object (R428). -/
  oneRecord : (s.faults.map FaultRec.key).Nodup
  /-- With no latched fault, FIRST_CODE and FIRST_TEMPO read 0 (Table 3-14). -/
  firstZero : s.faults = [] → s.firstCode = 0 ∧ s.firstTempo = 0
  /-- The backlog holds at most 512 events (R67). -/
  backlog : s.host.backlog.length ≤ 512
  /-- The tempo counter has 64 bits (R8). -/
  tempo : s.tempo < 2 ^ 64
  /-- The memories are in their one form. -/
  memory : Memory.wf s.mems = true

/-- Sound, and beyond what a command may change: the queue of commands that wait is `q`, and the die is `d`. -/
structure Kept (q : List Instr) (d : Die) (s : State) : Prop where
  queue : s.pending = q
  die : s.die = d
  sound : Sound s

end Sys2Proof.Machine
end

