-- ==== Sys2Proof/WellFormed.lean ====
section
/-!
DEFINITION. The commands that can be put to the block: every instance number names an instance of its kind (Table 0-2), a
message fits the mailbox (Table 3-17), and what a row captures has the form the manual gives it.
-/
namespace Sys2Proof

/-- An Atotte message that a ring can carry: one of the 16 rings, FLAGS without a reserved bit (R63), and at most 1,008 bytes of
payload (Table 3-17). -/
def Msg.wf (m : Msg) : Bool :=
  decide (m.ring < 16) && decide (m.flags.toNat < 4) && decide (m.payload.length ≤ 1008)

/-- A PLL of Table 6-9. -/
def pllOk (p : Nat) : Bool := decide (p < 5) || (decide (8 ≤ p) && decide (p < 16))

/-- A clock that firmware starts: BLPLL0 or BLPLL1, or the VPLL of one of eight stations (Table 2-5). -/
def ClockUnit.wf : ClockUnit → Bool
  | .dpll => true
  | .blpll h => decide (h < 2)
  | .vpll n => decide (n < 8)

/-- A trained capacity of R425, or a step at which training failed. -/
def TrainDram.wf : TrainDram → Bool
  | .ok g => decide (g = 8 ∨ g = 12 ∨ g = 16 ∨ g = 24 ∨ g = 32)
  | .fail _ => true

/-- What a read of a descriptor returns: 32 bytes if any. -/
def HostData.descWf : HostData → Bool
  | .bytes d => decide (d.length = 32)
  | _ => true

/-- Firmware's writes lie in descriptor SRAM, and NEXT is the address of a descriptor there (Table 7-3). -/
def Ringer.wf : Ringer → Bool
  | .host _ => true
  | .firmware ws next => ws.all (fun w => decide (w.1 + w.2.length ≤ 0x40000)) && decide (next < 0x40000) && next % 32 == 0

/-- A resource of R179: one of two channels, the host slots or the descriptor SRAM. -/
def Resource.wf : Resource → Bool
  | .dram c => decide (c < 2)
  | _ => true

/-- Every name and form in a command is one the block has. (DESIGN CHOICE: assumption 1) -/
def Instr.wf : Instr → Bool
  | .nop m | .versionGet m | .modeSet m | .dormantEnter m | .eventRoute m | .eventRouteGet m | .faultList m | .faultClear m
  | .pressCommit m | .pressClear m | .serviceSet m | .promote m | .groupSet m | .groupGet m | .groupClear m | .paramRead m
  | .paramWrite m | .paramDescribe m | .familyList m | .tableLoad m | .tableCommit m | .tableRead m | .tableDiscard m
  | .castleStage m | .castleArm m | .castleDisarm m | .castleClear m | .castleStatus m | .ticketBuild m | .ticketSealArm m
  | .ticketDisarm m | .ticketFree m | .ticketStatus m | .storeAlloc m | .storeFree m | .storeFence m | .dmaOpen m | .dmaClose m
  | .compressJob m | .tileEnable m | .tileDisable m | .move m | .stop m | .gearSet m | .polyStart m | .diagRun m
  | .stationEnable m | .stationDisable m | .linkTrain m | .beamMonitor m | .railSequenceUp m | .railSequenceDown m
  | .railStatus m | .ageingNew m | .marginPlan m | .scrub m | .spiXfer m | .i2cXfer m => m.wf
  | .paramWritePairApply r | .storeFenceComplete r | .storeFenceTimeout r | .mbCtrlEnWrite r _ | .mbCmdTailDoorbell r _
  | .mailboxCommandTake r _ | .mbRspHeadWrite r _ | .responseEntryPost r _ | .ringInterrupt r => decide (r < 16)
  | .compressJobStart | .compressJobEnd _ | .marginPlanDone _ | .bootCtrlGo _ | .bootCheckDone | .bootRomInitDone
  | .firmwareReset _ | .helloPost | .tempoLoRead | .ilkOpenSeenClear _ | .ilkCountRead | .bar0BadAccess _ _ _
  | .registerWrite _ _ | .standbyPowerOn | .pinReset | .wakeFilterDone | .wakeSpllLocked | .hostLinkReset _
  | .ownRailFaultRl00 | .ownRailPowerDown | .ilkRelease | .ilkDisagree | .tsyncFrameSend | .tsyncFrameReceive _ _ _
  | .tsyncLost | .modeTransitionComplete | .dramWriteArrival _ | .sequpInHigh | .cascadeWaitTimeout
  | .pwrfltSeen | .ledgerWriteDone | .perstDeassert | .seqdnInHigh | .pwrfltNRelease | .resetNRelease
  | .standbyPowerLoss | .hostLinkUp => true
  | .watchdogExpire c => (match c with
    | .silent ms => decide (1 ≤ ms ∧ ms ≤ 1000)
    | .ue _ => true)
  | .linkTrainDone l _ | .mapperStart l _ | .beamLinkFrame l | .bcStatus l _ | .bcMon l _ | .bcLineLost l _ | .bcMgmtRsp l _
  | .bcEmitterFault l _ | .backchannelLost l => decide (l < 32)
  | .scrubDone i | .eccStatusClear i _ | .eccCeCountRead i | .eccUeCountRead i | .eccTestEnable i _ | .readRaw i | .readChecked i
  | .writeData i | .writeCheck i | .writeRaw i | .writeNormal i | .eccTestDone i | .mergeBufferDrain i _ => decide (i < 24)
  | .spiTransferDone c _ | .i2cTransferDone c _ => decide (c < 4)
  | .dmaStatusClear c _ | .dmaDoneCountRead c | .dmaBadCountRead c | .dmaDoorbellStop c _
  | .dmaDescriptorComplete c => decide (c < 32)
  | .dmaDoorbellRing c r => decide (c < 32) && r.wf
  | .dmaDescriptorStart c d | .dmaLookAgain c d => decide (c < 32) && d.descWf
  | .bar2Access write _ len data => !write || decide (data.length = len)
  | .ownRailSettled r | .ownRailRiseTimeout r => decide (r < 5)
  | .ownRailFault r => decide (1 ≤ r) && decide (r < 5)
  | .dormantPgLost r | .railDelayExpire r | .railSettled r | .railLost r | .railTurnOff r
  | .pmbusVoutPoll r _ | .railFallen r | .railFallTimeout r => decide (r < 32)
  | .railRiseTimeout r => decide (r.rail < 32)
  | .ilkOpen _ _ => true
  | .clockStart u => u.wf
  | .pllBandFound p _ | .pllLockWindow p _ _ | .pllRefLost p | .pllTempCorrection p => pllOk p
  | .meCountCapture e _ _ => decide (e < 8)
  | .meIndexEdge e => decide (e.me < 8)
  | .gpioEdgeCapture p _ => decide (p < 32)
  | .castleTrigger c => decide (c < 64)
  | .ticketResident t | .sealEvaluation t _ | .flagFall t | .timelineEntryTrigger t _ _ | .sheetOverrun t =>
    decide (t < 256)
  | .exitCastle x => decide (x.tk < 256)
  | .headerCheck t _ r => decide (t < 256) && decide (r < 4)
  | .dramTrainingDone a b => a.wf && b.wf
  | .sharedResourceGrant r _ => r.wf
  | .fetchReturn l | .laneLineWrite l _ | .laneSubstreamComplete l => decide (l < 32)
  | .bdEdgeCapture n _ | .bdWindowMiss n | .facetBoundary n _ _ | .seekPulse n | .facetIndexEdge n => decide (n < 8)
  | .pslDownFrame k | .pslUpFrame k _ | .slowFault k | .slowCfgAck k | .slowDiag k | .slowIndex k | .slowResolver k | .slowTemp k
  | .slowIdent k | .twoStepDone k | .retryWaitExpire k | .enablingTimeout k | .diagStepTimeout k
  | .selftestWindowEnd k | .busVoltageUpdate k | .sixstepAlignDone k | .polyAlignDone k | .polyBlindTimeout k | .polySyncTimeout k
  | .polyCatchDone k _ _ _ | .currentSample k _ | .resonanceScanDone k | .zonePoll k | .heatWindowSettled k
  | .heatHvStatusReport k | .retryFurtherWaitExpire k => decide (k < 64)
  | .offokTimeout k j => decide (k < 64) && decide (j < 6)
  | .busStageFall b => decide (b < 8)
  | .profileTick o | .runoutProgramExpire o =>
    (decide (o / 0x1000000 = 0x06) && decide (o / 0x1000 % 0x1000 < 64) || decide (o / 0x1000000 = 0x08) && decide (o / 0x1000 % 0x1000 < 128))
      && decide (o % 0x1000 = 0)
  | .zoneReadDone k z _ => decide (k < 64) && decide (z < 4)
  | .hvWindowSettled k j | .hvArcOffExpire k j => decide (k < 64) && decide (j < 3)
  | .thermalConversion rs => decide (rs.length = 16)

end Sys2Proof
end

