-- ==== Sys2Proof/Certificates/Slice0/Obligations.lean ====
section
/-!
DEFINITION. The statements for the provers, after the helpers that they share: what a message must satisfy to be taken, which object it
names, an event in the backlog, and the opcode of each command that comes as a message.
-/

namespace Sys2Proof.Claims
open Sys2Proof Sys2Proof.Machine

/-- All 64 bits of ARG are reserved. -/
abbrev noArg : Nat := 0xffffffffffffffff

/-- The row comes at its place in the tempo: the tempo is there, and nothing of the phases before it is left to end (R17). Any other
state comes there first (`AnEmptyQueueLetsOneTempoPass`). -/
abbrev At (s : State) (place : Nat) : Prop := s.enter place = s

/-- Firmware runs, and runs `m`, the message of that opcode that it has taken from its ring, with its effect: the tempo is at the
commands of phase 4, PLEN is `n`, no ARG bit of `mask`, the reserved ones, is set (R73), and CHECK_ONLY is not (Table 4-1). -/
abbrev Takes (op : Nat) (m : Msg) (n mask : Nat) (s : State) : Prop :=
  s.takes op m = true ∧ At s inDirect ∧ m.payload.length = n ∧ Nat.land m.arg.toNat mask = 0 ∧ m.checkOnly = false

/-- An object argument that names one of `classes`, there and in service (R79, R81). -/
abbrev Names (o : Nat) (classes : List Nat) (s : State) : Prop :=
  aPid o = 0 ∧ aCls o ∈ classes ∧ aIdx o < classInstances (aCls o) ∧ s.inService (aCls o) (aIdx o) = true

/-- An event stands in the backlog, raised in this tempo, unless the backlog is full (R67). -/
abbrev Raised (t : State) (code o : Nat) (fields : List Nat) : Prop :=
  512 ≤ t.host.backlog.length ∨ ∃ e, e ∈ t.host.backlog ∧ e.code = code ∧ e.obj = o ∧ e.tempo = t.tempo
    ∧ e.fields = fields.map (fun x => x % 2 ^ 64)

/-- The commands that come as messages (Table 4-9), each with its opcode, its reserved ARG bits and message; the others are events. -/
def message : Instr → Option (Nat × Nat × Msg)
  | .nop m => some (0x0000, noArg, m) | .versionGet m => some (0x0001, noArg, m)
  | .modeSet m => some (0x0010, 0xfffffffffffff8f8, m) | .dormantEnter m => some (0x0011, noArg, m)
  | .eventRoute m => some (0x0020, 0xffffffffffff0000, m) | .eventRouteGet m => some (0x0021, noArg, m)
  | .faultList m => some (0x0030, 0xffffffff0000ff00, m) | .faultClear m => some (0x0031, 0xffff0000, m)
  | .pressCommit m => some (0x0100, noArg, m) | .pressClear m => some (0x0101, noArg, m)
  | .serviceSet m => some (0x0110, 0xffffff0000000000, m) | .promote m => some (0x0111, 0, m)
  | .groupSet m => some (0x0120, 0xffffffff00000000, m) | .groupGet m => some (0x0121, 0xffffffff00000000, m)
  | .groupClear m => some (0x0122, 0xffffffff00000000, m) | .paramRead m => some (0x0200, 0xffffffffffff0000, m)
  | .paramWrite m => some (0x0201, 0xffffffffffff0000, m) | .paramDescribe m => some (0x0202, 0xffffffff00000000, m)
  | .familyList m => some (0x0203, 0xffffffff0000ff00, m) | .tableLoad m => some (0x0300, 0xff00, m)
  | .tableCommit m => some (0x0301, 0xff00, m) | .tableRead m => some (0x0302, 0, m)
  | .tableDiscard m => some (0x0303, 0xffffffffffffff00, m) | .castleStage m => some (0x0400, 0xffffffffffffff00, m)
  | .castleArm m => some (0x0401, 0xffffffffffffff00, m) | .castleDisarm m => some (0x0402, 0xffffffffffffff00, m)
  | .castleClear m => some (0x0403, 0xffffffffffffff00, m) | .castleStatus m => some (0x0404, 0xffffffffffffff00, m)
  | .ticketBuild m => some (0x0410, 0xffffffffffff0000, m) | .ticketSealArm m => some (0x0411, 0xffffffffffff0000, m)
  | .ticketDisarm m => some (0x0412, 0xffffffffffff0000, m) | .ticketFree m => some (0x0413, 0xffffffffffff0000, m)
  | .ticketStatus m => some (0x0414, 0xffffffffffff0000, m) | .storeAlloc m => some (0x0500, 0xffffff0000000000, m)
  | .storeFree m => some (0x0501, noArg, m) | .storeFence m => some (0x0502, 0xffffff00, m)
  | .dmaOpen m => some (0x0510, 0xffffffffffffff00, m) | .dmaClose m => some (0x0511, 0xffffffffffffff00, m)
  | .compressJob m => some (0x0520, 0xffffffffffff0000, m) | .tileEnable m => some (0x0600, 0xffffffff00000000, m)
  | .tileDisable m => some (0x0601, 0xffffffff00000000, m) | .move m => some (0x0610, 0xffffffff00000000, m)
  | .stop m => some (0x0611, 0xffffffff00000000, m) | .gearSet m => some (0x0620, 0xffffffff00000000, m)
  | .polyStart m => some (0x0630, 0xffffffff00000000, m) | .diagRun m => some (0x0640, 0xffffff0000000000, m)
  | .stationEnable m => some (0x0700, 0xffffffff00000000, m) | .stationDisable m => some (0x0701, 0xffffffff00000000, m)
  | .linkTrain m => some (0x0710, 0xffffffff00000000, m) | .beamMonitor m => some (0x0720, 0xffffffff00000000, m)
  | .railSequenceUp m => some (0x0800, 0xffffffffffffff00, m) | .railSequenceDown m => some (0x0800, 0xffffffffffffff00, m)
  | .railStatus m => some (0x0801, noArg, m) | .ageingNew m => some (0x0810, noArg, m)
  | .marginPlan m => some (0x0811, noArg, m) | .scrub m => some (0x0820, 0xffffffffffffff00, m)
  | .spiXfer m => some (0x0900, 0xffffffffff000000, m) | .i2cXfer m => some (0x0910, 0xffff000000000000, m)
  | _ => none

/-- The place in the tempo of a row that the manual places in a phase (R17, R109, Table 1-2); the others act where they stand. Which
phase a row belongs to is the model's reading where the manual does not say (assumption 7). -/
def placeIn (c : Instr) (s : State) : Option Nat :=
  match c with
  | .modeSet _ => some inModeSet
  | .castleTrigger slot => some (inSlot slot)
  | .timelineEntryTrigger tk entry _ => some ((s.ticket tk).entryPlace tk entry)
  | .exitCastle ⟨tk, _⟩ => some ((s.ticket tk).entryPlace tk (((s.ticket tk).entries.findIdx? (fun e => e.exit)).getD 0))
  | .sealEvaluation tk _ => some (inSeal tk)
  | .flagFall tk => some (inFall tk)
  | .pslDownFrame _ => some inFrames
  | .bcStatus _ _ | .bcMon _ _ | .bcLineLost _ _ | .bcMgmtRsp _ _ | .bcEmitterFault _ _ | .dmaDoorbellRing _ _ |
    .dmaDoorbellStop _ _ | .dmaDescriptorComplete _ | .bdEdgeCapture _ _ | .facetIndexEdge _ | .gpioEdgeCapture _ _ |
    .pslUpFrame _ _ | .meCountCapture _ _ _ | .meIndexEdge _ | .tsyncFrameReceive _ _ _ | .mbCmdTailDoorbell _ _ |
    .sharedResourceGrant _ _ | .fetchReturn _ | .laneLineWrite _ _ | .laneSubstreamComplete _ | .dramWriteArrival _ =>
    some inCapture
  | .ilkOpen _ _ | .pwrfltSeen | .thermalConversion _ | .slowFault _ | .busVoltageUpdate _ => some inProtect
  | .currentSample _ _ | .heatWindowSettled _ | .hvWindowSettled _ _ | .modeTransitionComplete | .mapperStart _ _ |
    .railLost _ | .facetBoundary _ _ _ | .busStageFall _ | .pllRefLost _ => some inEvents
  | .beamLinkFrame _ => some inLinks
  | .profileTick _ | .paramWritePairApply _ => some inDirect
  | .hvArcOffExpire _ _ | .backchannelLost _ | .ilkRelease | .ilkDisagree | .railDelayExpire _ | .cascadeWaitTimeout |
    .railSettled _ | .railRiseTimeout _ | .railFallTimeout _ | .sheetOverrun _ | .polyBlindTimeout _ |
    .polySyncTimeout _ | .runoutProgramExpire _ | .watchdogExpire _ | .bdWindowMiss _ | .offokTimeout _ _ |
    .twoStepDone _ | .retryWaitExpire _ | .retryFurtherWaitExpire _ | .enablingTimeout _ | .diagStepTimeout _ |
    .selftestWindowEnd _ | .tsyncLost | .storeFenceTimeout _ => some inTimeouts
  | c => (message c).map (fun _ => inDirect)

end Sys2Proof.Claims

open Sys2Proof Sys2Proof.Machine Sys2Proof.Claims

/-- When a command `c` stands at the front of the queue, one step answers what `exec` answers for `c` on the same state with the rest of the queue waiting. That a row is one step, taken from the front of one queue, is the model's choice (assumption 2). -/
def Obligations.StepRunsTheFrontCommand : Prop :=
  ∀ (c : Instr) (rest : List Instr) (s : State), s.pending = c :: rest → step s = exec c { s with pending := rest }

/-- With an empty queue a step lets one tempo pass: while the 64-bit counter runs it counts by one, the next tempo is at its beginning, and beyond that only the trigger positions reached (castles, tickets) and the tempi since which lanes ask are noted; while it does not run nothing changes. A row that belongs to a place in the tempo first comes there: to this tempo's place, or, where the tempo has gone past it, to the next tempo's; it changes nothing else in coming there, it acts exactly as if it had stood there, and from phase 4 on the state at the end of phase 3 is held. That a step stands for a tempo, and which rows belong to which phase, are the model's choices (assumptions 2 and 7). -/
def Obligations.AnEmptyQueueLetsOneTempoPass : Prop :=
  (∀ s : State, s.pending = [] → step s = .next s.tick)
  ∧ (∀ s : State, s.running = false → s.tick = s)
  ∧ (∀ s : State, s.running = true → ∃ sh lanes, s.tick = { s with
      tempo := (s.tempo + 1) % 2 ^ 64, place := 0, snap := none, sheets := sh, video := { s.video with lanes } })
  ∧ (∀ (c : Instr) (s : State) (p : Nat), placeIn c s = some p →
      exec c s = exec c (s.enter p) ∧ (s.enter p).enter p = s.enter p
      ∧ (s.running = false → s.enter p = s)
      ∧ (s.running = true → (s.enter p).place = p ∧ (inDirect ≤ p → (s.enter p).snap ≠ none)
        ∧ ∃ sh lanes snap, s.enter p = { s with
            tempo := if p < s.place then (s.tempo + 1) % 2 ^ 64 else s.tempo, place := p, snap := snap, sheets := sh
            video := { s.video with lanes } }))

/-- From every sound state a step that answers a next state gives a sound state: at most one latched fault of a code on an object, FIRST_CODE and FIRST_TEMPO 0 without latched faults, at most 512 events in the backlog, a 64-bit tempo, and memories in their one form. -/
def Obligations.EveryStepKeepsTheStateSound : Prop :=
  ∀ s t : State, Sound s → step s = .next t → Sound t

/-- On a sound state every command answers a next state, and leaves the queue of waiting commands and the die (variant, identifiers, fuses) as they were. That a row whose condition does not hold answers its state unchanged is the model's reading (assumption 6). -/
def Obligations.NoCommandChangesTheQueueOrTheDie : Prop :=
  ∀ (c : Instr) (s : State), Sound s → ∃ t, exec c s = .next t ∧ t.pending = s.pending ∧ t.die = s.die

/-- The reset state is sound: mode Configure, boot ROM initialising, tempo counter 0 and not running, no latched fault with FIRST_CODE and FIRST_TEMPO 0, every ring disabled with its phase 1, an empty backlog, every castle slot and ticket empty, every DMA channel closed, and no memory word listed. That no memory word is listed is the model's choice (assumptions 3 and 16). -/
def Obligations.ResetIsSoundAndAsTheManualSays : Prop :=
  Sound State.reset ∧ State.reset.pending = [] ∧ State.reset.md.mode = .configure ∧ State.reset.md.boot = .init
    ∧ State.reset.tempo = 0 ∧ State.reset.running = false ∧ State.reset.faults = [] ∧ State.reset.firstCode = 0
    ∧ State.reset.firstTempo = 0 ∧ State.reset.host.backlog = [] ∧ State.reset.mems = []
    ∧ (∀ k, (State.reset.ring k).en = false ∧ (State.reset.ring k).phase = true ∧ (State.reset.ring k).cmdHead = 0)
    ∧ (∀ k, (State.reset.castle k).state = 0) ∧ (∀ k, (State.reset.ticket k).state = 0)
    ∧ (∀ k, (State.reset.dma k).state = .closed)

/-- A command whose message has CHECK_ONLY set or a reserved ARG bit set, and one whose message is not the one that firmware has taken from its ring and not yet begun (no firmware runs, another command of its ring runs on, nothing is taken), changes at most the mailbox rings, where its answer waits; the last kind changes nothing at all. -/
def Obligations.ACommandThatIsNotTakenOnlyAnswers : Prop :=
  ∀ (c : Instr) (op mask p : Nat) (m : Msg) (s : State), message c = some (op, mask, m) → placeIn c s = some p → At s p →
    ((m.checkOnly = true ∨ Nat.land m.arg.toNat mask ≠ 0) → ∃ rs, exec c s = .next { s with host := { s.host with rings := rs } })
    ∧ (s.takes op m = false → exec c s = .next s)

/-- NOP answers OK and changes nothing else, and its ring may run its next command: on a ring enabled since it was taken one that is not QUIET adds one response after those that wait, with opcode 0x0000, its TAG, status OK, the tempo, and a payload of a result length 0 and INDEX 0xffff; a QUIET one adds none. VERSION_GET answers CMDSET_VER, FW_VER, VARIANT and ROM_VER; EVENT_ROUTE of a class 0x01 to 0x0e to a ring 0 to 15 sets that class's route and nothing else; EVENT_ROUTE_GET answers the 14 routes; FAULT_LIST answers the latched faults of a class (0: all) from the record named on, 16 bytes each. That FAULT_LIST carries at most 58 records is the model's choice (assumption 11). -/
def Obligations.SessionCommandsAnswerWhatTheyRead : Prop :=
  ∀ (m : Msg) (s : State),
    (Takes 0x0000 m 0 noArg s →
      (exec (.nop m) s = .next (s.ok (s.replyOf 0x0000 m)))
      ∧ ((s.ring m.ring).en = true → (∀ x, (s.ring m.ring).taken = some x → x.epoch = (s.ring m.ring).epoch) →
        ∃ t rs, exec (.nop m) s = .next t ∧ t = { s with host := { s.host with rings := rs } }
          ∧ (∀ k, k ≠ m.ring → t.ring k = s.ring k) ∧ (t.ring m.ring).taken = none
          ∧ (bit m.flags.toNat 0 = false → (t.ring m.ring).waiting = (s.ring m.ring).waiting ++
              [{ opcode := 0, tag := m.tag.toNat, code := 0, tempo := s.tempo, payload := [0, 0, 0xff, 0xff] }])
          ∧ (bit m.flags.toNat 0 = true → (t.ring m.ring).waiting = (s.ring m.ring).waiting)))
    ∧ (Takes 0x0001 m 0 noArg s →
      exec (.versionGet m) s = .next (s.ok (s.replyOf 0x0001 m)
          (toLE 4 s.md.cmdsetVer ++ toLE 4 s.md.fwVer ++ toLE 4 (s.die.variant % 16) ++ toLE 4 (s.die.romVer % 65536))))
    ∧ (Takes 0x0021 m 0 noArg s →
      exec (.eventRouteGet m) s = .next (s.ok (s.replyOf 0x0021 m)
          ((List.range 14).map (fun i => BitVec.ofNat 8 (Map.get (fun _ => 0) s.host.routes (i + 1))))))
    ∧ (Takes 0x0020 m 0 0xffffffffffff0000 s → 1 ≤ m.argN 8 1 → m.argN 8 1 ≤ 14 → m.argN 9 1 ≤ 15 →
      exec (.eventRoute m) s = .next ({ s with host := { s.host with
        routes := Map.put (fun _ => 0) s.host.routes (m.argN 8 1) (m.argN 9 1) } }.ok (s.replyOf 0x0020 m)))
    ∧ (Takes 0x0030 m 0 0xffffffff0000ff00 s → m.argN 8 1 ≤ 14 →
      exec (.faultList m) s = .next (s.ok (s.replyOf 0x0030 m)
        ((((s.faults.filter (fun f => m.argN 8 1 == 0 || f.code / 256 == m.argN 8 1)).drop (m.argN 10 2)).take 58).flatMap
          (fun f => toLE 2 f.code ++ [0, 0] ++ toLE 4 f.obj ++ toLE 8 f.tempo))))

/-- In Configure with no description accepted, PRESS_COMMIT of a consistent description accepts it, and of an inconsistent one answers DESC_INVALID with the first offending parameter address and changes nothing else; a PRESS_COMMIT while one is accepted answers WRONG_STATE; PRESS_CLEAR withdraws the acceptance and keeps every parameter. Which parameter is named first, in ascending address order, is the model's choice (assumption 11). -/
def Obligations.PressCommitAcceptsAConsistentDescription : Prop :=
  ∀ (m : Msg) (s : State), s.md.mode = .configure →
    (Takes 0x0100 m 0 noArg s → s.md.pressOk = false → s.pressFault = none →
      exec (.pressCommit m) s = .next ({ s with md := { s.md with pressOk := true } }.ok (s.replyOf 0x0100 m)))
    ∧ (∀ a, Takes 0x0100 m 0 noArg s → s.md.pressOk = false → s.pressFault = some a →
      exec (.pressCommit m) s = .next (s.post (s.replyOf 0x0100 m) stDESC_INVALID noIndex (toLE 4 a)))
    ∧ (Takes 0x0100 m 0 noArg s → s.md.pressOk = true → exec (.pressCommit m) s = .next (s.post (s.replyOf 0x0100 m) stWRONG_STATE))
    ∧ (Takes 0x0101 m 0 noArg s →
      exec (.pressClear m) s = .next ({ s with md := { s.md with pressOk := false } }.ok (s.replyOf 0x0101 m)))

/-- In Configure, Standby or Safe-hold, SERVICE_SET of a station, beam, VL, DL or DT that is in service, with 0, leaves it out of service. With 1, of one that is present, it leaves it in service and changes no latched fault and no parameter. That an enabled unit is taken out at once, and what its return leaves, is the model's choice (assumption 19). -/
def Obligations.ServiceSetRemovesAndReturnsUnits : Prop :=
  ∀ (m : Msg) (s : State), Takes 0x0110 m 0 0xffffff0000000000 s → s.md.mode ∈ [Mode.configure, .standby, .safeHold] →
    aPid (m.argN 8 4) = 0 → aCls (m.argN 8 4) ∈ [clsSTN, clsBEAM, clsVL, clsDL, clsDT] →
    aIdx (m.argN 8 4) < classInstances (aCls (m.argN 8 4)) →
    (m.argN 12 1 = 0 → s.inService (aCls (m.argN 8 4)) (aIdx (m.argN 8 4)) = true → ∃ t, exec (.serviceSet m) s = .next t
      ∧ t.inService (aCls (m.argN 8 4)) (aIdx (m.argN 8 4)) = false)
    ∧ (m.argN 12 1 = 1 → s.present (aCls (m.argN 8 4)) (aIdx (m.argN 8 4)) = true → ∃ t, exec (.serviceSet m) s = .next t
      ∧ t.inService (aCls (m.argN 8 4)) (aIdx (m.argN 8 4)) = true ∧ t.faults = s.faults ∧ t.params = s.params)

/-- GROUP_GET answers whether a group is enabled and degraded, and its members. In Configure, Standby, Warm-up, Ready or Safe-hold, on a group that is not enabled and in no enabled group, GROUP_SET of 1 to 128 members that no rule of R23, R24 and R93 turns away makes them the whole membership of a group that is neither enabled nor degraded, and GROUP_CLEAR leaves it empty. The order of the answer of GROUP_GET is the model's choice (assumption 11). -/
def Obligations.GroupCommandsReplaceReadAndClearAMembership : Prop :=
  ∀ (m : Msg) (s : State), Names (m.argN 8 4) [clsGRP] s →
    (Takes 0x0121 m 0 0xffffffff00000000 s → exec (.groupGet m) s = .next (s.ok (s.replyOf 0x0121 m)
      (toLE 1 (b2n (s.group (aIdx (m.argN 8 4))).enabled) ++ toLE 1 (b2n (s.group (aIdx (m.argN 8 4))).degraded)
        ++ (s.group (aIdx (m.argN 8 4))).members.flatMap (toLE 4))))
    ∧ (s.md.mode ∈ [Mode.configure, .standby, .warmUp, .ready, .safeHold] →
      ((m.argN 8 4 :: s.parents 128 (m.argN 8 4)).any (fun g => (s.group (aIdx g)).enabled)) = false →
      (Takes 0x0122 m 0 0xffffffff00000000 s →
        exec (.groupClear m) s = .next ((s.setGroup (aIdx (m.argN 8 4)) {}).ok (s.replyOf 0x0122 m)))
      ∧ (∀ n, 1 ≤ n → n ≤ 128 → Takes 0x0120 m (4 * n) 0xffffffff00000000 s →
        (∀ j x, ((records 4 m.payload).map ofLE)[j]? = some x →
          s.memberStatus (m.argN 8 4) ((records 4 m.payload).map ofLE) j x = []) →
        exec (.groupSet m) s = .next ((s.setGroup (aIdx (m.argN 8 4)) { members := (records 4 m.payload).map ofLE }).ok
          (s.replyOf 0x0120 m))))

/-- MODE_SET to a mode that Table 2-2 reaches, with its condition met, no transition pending and no hardware transition in this tempo: Standby to Warm-up becomes pending behind a margin plan, behind the one that runs if one does; Warm-up to Standby is made or becomes pending; Ready to Run-out ends at once at its exit target; every other transition is made. When a change to Standby is made at once is the model's reading (assumption 18). -/
def Obligations.ModeSetMakesATransitionOfTable22 : Prop :=
  ∀ (m : Msg) (s : State) (t : Mode), s.takes 0x0010 m = true → At s inModeSet → m.payload = [] →
    Nat.land m.arg.toNat 0xfffffffffffff8f8 = 0 → m.checkOnly = false → modeOf (m.argN 8 1 % 8) = t → t ∈ s.md.mode.reaches →
    (t = .runOut → modeOf (m.argN 9 1 % 8) ∈ exitTargets) → s.md.hwAt ≠ some s.tempo → s.md.pend = none →
    s.transitionRefs t = [] →
    ∃ u, exec (.modeSet m) s = .next u
      ∧ (s.md.mode = .standby → u.md.mode = .standby ∧ u.md.pend = some ⟨.warmUp, none⟩ ∧ u.therm.plan = (if s.therm.plan.isSome then s.therm.plan else some none))
      ∧ (s.md.mode = .warmUp → t = .standby →
        u.md.mode = .standby ∨ u.md.mode = .warmUp ∧ u.md.pend = some ⟨.standby, none⟩)
      ∧ (s.md.mode = .ready → t = .runOut → u.md.mode = modeOf (m.argN 9 1 % 8))
      ∧ (s.md.mode ≠ .standby → (s.md.mode = .warmUp → t ≠ .standby) → (s.md.mode = .ready → t ≠ .runOut) → u.md.mode = t)

/-- In Run-out with no sealed sheet and every run-out program ended, MODE_TRANSITION_COMPLETE changes to the exit target (Ready, Warm-up or Standby). In Warm-up with the change to Standby pending and every motion, HV and heater output off, it changes to Standby. When Warm-up to Standby is complete is the model's reading (assumption 18). -/
def Obligations.ModeTransitionCompleteEndsRunOutAndWarmUp : Prop :=
  ∀ s : State, At s inEvents →
    (s.md.mode = .runOut → s.anySealed = false → s.runoutsDone = true →
      ∃ t, exec .modeTransitionComplete s = .next t ∧ t.md.mode = s.md.exitTarget)
    ∧ (∀ r, s.md.mode = .warmUp → s.md.pend = some ⟨.standby, r⟩ → s.outputsOff = true →
      ∃ t, exec .modeTransitionComplete s = .next t ∧ t.md.mode = .standby)

/-- In Configure, Standby or Safe-hold with no transition pending, DORMANT_ENTER of a strap image with its reserved bytes 0, a WAKE_FILT that is 0 or at least 4, and no kept rail that depends on one not kept, stores KEEP, WATCH and WAKE_FILT, and the power-down to Dormant is under way or done. While its response waits to be posted the link stays as it is; where none waits, the link is down. That a WAKE_FILT of 1 to 3 is refused is the model's reading (assumption 18). -/
def Obligations.DormantEnterStoresTheStrapImage : Prop :=
  ∀ (m : Msg) (s : State), Takes 0x0011 m 16 noArg s → m.pay 9 7 = 0 → s.md.mode ∈ [Mode.configure, .standby, .safeHold] →
    s.md.pend = none → (m.pay 8 1 = 0 ∨ 4 ≤ m.pay 8 1) → s.badKeep (m.pay 0 4 / 32 * 32) = false →
    ∃ t, exec (.dormantEnter m) s = .next t ∧ t.aon.keep = m.pay 0 4 ∧ t.aon.watch = m.pay 4 4 ∧ t.aon.wakeFilt = m.pay 8 1
      ∧ (t.md.mode = .dormant ∨ t.md.pend = some ⟨.dormant, none⟩)
      ∧ ((((s.ok (s.replyOf 0x0011 m)).ring m.ring).owes (s.replyOf 0x0011 m) = true →
        t.md.leaving = some (s.replyOf 0x0011 m) ∧ t.host.linkUp = s.host.linkUp)
      ∧ (((s.ok (s.replyOf 0x0011 m)).ring m.ring).owes (s.replyOf 0x0011 m) = false → t.host.linkUp = false))

/-- FAULT_CLEAR of a latched fault whose condition of the Cleared column holds at the end of phase 3 of the tempo (R429), on an object that is there, removes that record, keeps every other record, and sets FIRST_CODE and FIRST_TEMPO to 0 when none is left. While the condition does not hold it is refused with FAULT_LATCHED and changes nothing but its ring. What the Cleared column asks of a self-clearing fault is read as assumption 20 says. -/
def Obligations.FaultClearRemovesOneRecord : Prop :=
  ∀ (m : Msg) (s : State) (code o : Nat), Takes 0x0031 m 0 0xffff0000 s → m.argN 8 2 = code → m.argN 12 4 = o →
    code ∈ latchingCodes → aPid o = 0 → s.addrStatus o = [] → s.latched code o = true →
    (s.clearDisables code o && s.participates o) = false →
    (s.judged.mayClear code o = true → ∃ t, exec (.faultClear m) s = .next t
      ∧ t.faults = s.faults.filter (fun f => !(f.code == code && f.obj == o))
      ∧ (t.faults = [] → t.firstCode = 0 ∧ t.firstTempo = 0))
    ∧ (s.judged.mayClear code o = false → exec (.faultClear m) s = .next (s.post (s.replyOf 0x0031 m) stFAULT_LATCHED))

/-- PARAM_READ of 1 to 117 addresses that are all defined and in service answers OK with one 8-byte value each. When an address is refused, the status is that of the first refused one in list order with its position as INDEX, and refused addresses read 0. -/
def Obligations.ParamReadReturnsEveryValue : Prop :=
  ∀ (m : Msg) (s : State) (n : Nat) (as : List Nat), m.argN 8 2 = n → 1 ≤ n → n ≤ 117 → Takes 0x0200 m (4 * n) 0xffffffffffff0000 s →
    (records 4 m.payload).map ofLE = as →
    ((∀ a, a ∈ as → s.paramStatus a = []) →
      exec (.paramRead m) s = .next ((as.foldl (fun v a => v.readEffect a) s).ok (s.replyOf 0x0200 m)
        (as.flatMap (fun a => toLE 8 (s.readParam a)))))
    ∧ (∀ j a c cs, as[j]? = some a → s.paramStatus a = c :: cs → (∀ i b, i < j → as[i]? = some b → s.paramStatus b = []) →
      exec (.paramRead m) s = .next (((as.filter (fun a => (s.paramStatus a).isEmpty)).foldl (fun v a => v.readEffect a) s).post
        (s.replyOf 0x0200 m) c j
        (as.flatMap (fun a => toLE 8 (if (s.paramStatus a).isEmpty then s.readParam a else 0)))))

/-- PARAM_WRITE of 1 to 63 pairs that all pass is taken and holds back its ring. PARAM_WRITE_PAIR_APPLY applies the next pair of a ring, at most one in a tempo: its parameter takes the value, every other keeps its own, the pair leaves the list, and with the last the command ends. A pair that a sealed sheet has locked since is not applied, and ends the command with SHEET_LOCKED and its INDEX. A pair whose unit's clock is gated starts that clock and waits for its latency. A pair of a parameter that a lower ring writes first, or that another ring has written in this tempo, waits and changes nothing, and so does one whose ring has applied one in this tempo. The latency of a clock is the model's reading (assumption 23). -/
def Obligations.ParamWriteAppliesItsPairsOneByOne : Prop :=
  (∀ (m : Msg) (s : State) (n : Nat), m.argN 8 2 = n → 1 ≤ n → n ≤ 63 → Takes 0x0201 m (16 * n) 0xffffffffffff0000 s →
    (s.ring m.ring).pairs = none →
    (∀ b, b ∈ records 16 m.payload → leAt b 4 4 = 0 ∧ s.writeRef (leAt b 0 4) (leAt b 8 8) = none) →
    exec (.paramWrite m) s = .next ((s.hold 0x0201 m).updRing m.ring (fun g => { g with
      pairs := some { reply := s.replyOf 0x0201 m, pairs := (records 16 m.payload).map (fun b => (leAt b 0 4, leAt b 8 8)) } })))
  ∧ (∀ (r : Idx) (s : State) (j : PairJob) (a v : Nat) (rest : List (Nat × Nat)), At s inDirect → s.md.boot = .running →
    (s.ring r).pairs = some j → j.pairs = (a, v) :: rest →
    (j.due s.tempo = true → s.defers r a = false → s.writeLocked a = false → (j.clockAt = none → s.gatedClock a = none) →
      ∃ t, exec (.paramWritePairApply r) s = .next t
      ∧ t.param a = v ∧ (∀ b, b ≠ a → t.param b = s.param b)
      ∧ (rest = [] → (t.ring r).pairs = none)
      ∧ (rest ≠ [] → (t.ring r).pairs =
          some { j with pairs := rest, next := j.next + 1, lastAt := some s.tempo, clockAt := none }))
    ∧ (j.due s.tempo = true → s.defers r a = false → s.writeLocked a = true → exec (.paramWritePairApply r) s =
      .next ((s.updRing r (fun g => { g with pairs := none })).post j.reply stSHEET_LOCKED j.next))
    ∧ (∀ p, j.due s.tempo = true → s.defers r a = false → s.writeLocked a = false → j.clockAt = none → s.gatedClock a = some p →
      exec (.paramWritePairApply r) s = .next ((s.startPll p).updRing r (fun g => { g with
        pairs := some { j with clockAt := some (s.tempo + s.startLatency p) } })))
    ∧ ((j.due s.tempo = false ∨ s.defers r a = true) → exec (.paramWritePairApply r) s = .next s))

/-- PARAM_DESCRIBE of a defined address in service answers type, window, lock, unit, minimum, maximum and default of its family (V0 for dev.vcore.mv). FAMILY_LIST of a defined class answers the families in ascending base PID from the one named on, 8 bytes each. -/
def Obligations.ParametersDescribeThemselves : Prop :=
  ∀ (m : Msg) (s : State),
    (∀ a f, m.argN 8 4 = a → Takes 0x0202 m 0 0xffffffff00000000 s → s.paramStatus a = [] → findFamily (aCls a) (aPid a) = some f →
      exec (.paramDescribe m) s = .next (s.ok (s.replyOf 0x0202 m)
        (toLE 1 f.ty.code ++ toLE 1 f.win.code ++ toLE 1 (b2n f.lock) ++ toLE 1 f.unit
          ++ toLE 8 (i64 (s.rangeOf f (aIdx a) (aPid a)).1) ++ toLE 8 (i64 (s.rangeOf f (aIdx a) (aPid a)).2)
          ++ toLE 8 (s.defaultOf f (aPid a)))))
    ∧ (Takes 0x0203 m 0 0xffffffff0000ff00 s → 0 < classInstances (m.argN 8 1) →
      exec (.familyList m) s = .next (s.ok (s.replyOf 0x0203 m)
        ((((families.filter (fun f => f.cls == m.argN 8 1)).drop (m.argN 10 2)).take 117).flatMap (fun f =>
          toLE 2 f.base ++ toLE 2 f.n ++ toLE 1 f.ty.code ++ toLE 1 f.win.code ++ toLE 1 (b2n f.lock) ++ [0]))))

/-- For a defined table and an instance in service: TABLE_LOAD puts its bytes into the staging copy, which it first fills from the active copy when it is empty. TABLE_COMMIT in its window of a staging copy that holds the instance and passes its checks makes it the active copy and empties the staging copy. TABLE_READ answers up to 936 bytes of either copy and changes nothing but its ring. TABLE_DISCARD of a staging copy that no castle or ticket holds empties it. -/
def Obligations.TablesAreStagedAndCommitted : Prop :=
  ∀ (m : Msg) (s : State) (id inst : Nat), m.argN 8 1 = id → tableSize id ≠ 0 →
    (m.argN 10 2 = inst → inst < classInstances (tableClass id) → s.addrStatus (obj (tableClass id) inst) = [] →
      (∀ n base, 1 ≤ n → Takes 0x0300 m (8 * n) 0xff00 s →
        base = (if (s.staging id).inst.isSome then (s.staging id).data else bytesAt (s.table id inst) 0 (tableSize id)) →
        m.argN 12 4 % 8 = 0 → m.argN 12 4 + 8 * n ≤ tableSize id →
        s.stagingHeld id none none = false → ((s.staging id).inst = none ∨ (s.staging id).inst = some inst) →
        exec (.tableLoad m) s = .next ((s.setStaging id { inst := some inst, data := pokeBytes base (m.argN 12 4) m.payload }).ok
          (s.replyOf 0x0300 m)))
      ∧ (Takes 0x0301 m 0 0xff00 s → s.commitWindow id inst = [] → s.commitRef id inst (m.argN 12 4) none none false = none →
        ∃ t, exec (.tableCommit m) s = .next t ∧ (t.staging id).inst = none
          ∧ t.table id inst = (if (s.staging id).data.all (fun b => b == 0) then [] else (s.staging id).data))
      ∧ (Takes 0x0302 m 0 0 s → m.argN 12 4 < tableSize id →
        (m.argN 9 1 = 0 → exec (.tableRead m) s = .next (s.ok (s.replyOf 0x0302 m)
          (bytesAt (s.table id inst) (m.argN 12 4) (min 936 (tableSize id - m.argN 12 4)))))
        ∧ (m.argN 9 1 = 1 → (s.staging id).inst = some inst → exec (.tableRead m) s = .next (s.ok (s.replyOf 0x0302 m)
          (bytesAt (s.staging id).data (m.argN 12 4) (min 936 (tableSize id - m.argN 12 4))))))) 
    ∧ (Takes 0x0303 m 0 0xffffffffffffff00 s → s.stagingHeld id none none = false →
      exec (.tableDiscard m) s = .next ((s.setStaging id {}).ok (s.replyOf 0x0303 m)))

/-- For a slot 0 to 63: CASTLE_STAGE of 1 to 63 action records that pass appends them, leaves the slot STAGED and answers its action count; CASTLE_ARM of a STAGED slot without IMAGE_START, with a trigger not yet reached, no conflict and 0 to 16 preconditions arms it with trigger and preconditions; CASTLE_DISARM of an ARMED slot whose trigger is not reached returns it to STAGED; CASTLE_CLEAR empties a STAGED slot; CASTLE_STATUS answers Table 5-15. CASTLE_CLEAR's refusals and the check of what a slot holds when it is armed are the model's (assumptions 11 and 21). -/
def Obligations.CastleCommandsStageArmAndDisarmSlots : Prop :=
  ∀ (m : Msg) (s : State) (slot : Nat), m.argN 8 1 = slot → slot ≤ 63 →
    (∀ n, 1 ≤ n → n ≤ 63 → Takes 0x0400 m (16 * n) 0xffffffffffffff00 s → (s.castle slot).state ≠ 2 →
      s.stageRefs slot (records 16 m.payload) = [] → ∃ t, exec (.castleStage m) s = .next t
        ∧ t.castle slot = { s.castle slot with
            state := 1, actions := (s.castle slot).actions ++ (records 16 m.payload).map actionOf }
        ∧ (∀ k, k ≠ slot → t.castle k = s.castle k))
    ∧ (∀ n, n ≤ 16 → Takes 0x0401 m (16 + 8 * n) 0xffffffffffffff00 s → m.pay 0 1 ≤ 8 → m.pay 1 7 = 0 →
      s.md.mode ∈ [Mode.standby, .warmUp, .ready, .print, .runOut] →
      (∀ b, b ∈ records 8 (m.payload.drop 16) → s.preStatus b = []) → (s.castle slot).state = 1 →
      (∀ a, a ∈ (s.castle slot).actions → a.kind ≠ 5) → s.armRefs (some slot) none (s.castle slot).actions = [] →
      s.conflicts (m.pay 0 1) (triggerOf (m.pay 0 1) (m.pay 8 8)) (s.castle slot).actions = false →
      s.reached (m.pay 0 1) (triggerOf (m.pay 0 1) (m.pay 8 8)) = false →
      exec (.castleArm m) s = .next ((s.updCastle slot (fun c => { c with
        state := 2, basis := m.pay 0 1, trigger := triggerOf (m.pay 0 1) (m.pay 8 8)
        pres := (records 8 (m.payload.drop 16)).map preOf, reachedAt := none })).ok (s.replyOf 0x0401 m)))
    ∧ (Takes 0x0402 m 0 0xffffffffffffff00 s → (s.castle slot).state = 2 → (s.castle slot).reachedAt = none → s.reached (s.castle slot).basis (s.castle slot).trigger = false →
      ∃ t, exec (.castleDisarm m) s = .next t
        ∧ t.castle slot = { s.castle slot with state := 1, outcome := 3, basis := 0, trigger := 0, pres := [] }
        ∧ (∀ k, k ≠ slot → t.castle k = s.castle k))
    ∧ (Takes 0x0403 m 0 0xffffffffffffff00 s → (s.castle slot).state = 1 → exec (.castleClear m) s = .next ((s.setCastle slot {}).ok (s.replyOf 0x0403 m)))
    ∧ (Takes 0x0404 m 0 0xffffffffffffff00 s → exec (.castleStatus m) s = .next (s.ok (s.replyOf 0x0404 m) (toLE 1 (s.castle slot).state
          ++ toLE 1 (s.castle slot).outcome ++ toLE 2 (s.castle slot).actions.length ++ toLE 1 (s.castle slot).basis
          ++ toLE 1 (s.castle slot).pres.length ++ [0, 0] ++ toLE 8 (wrapBits 64 (s.castle slot).trigger))))

/-- In the tempo in which the trigger of an ARMED slot is reached, the slot returns to STAGED. With every precondition true at the end of phase 3, and no action then on what a sealed sheet has locked, every action is applied in order. Otherwise no action is applied: parameters, tables and stations keep what they hold, and 0x0201 is raised with the slot and the mask of what was false. In any other tempo, and for a slot that is not ARMED, nothing changes. -/
def Obligations.ACastleTriggerFiresAllOrNothing : Prop :=
  ∀ (s : State) (slot mask : Nat), slot < 64 → At s (inSlot slot) →
    (((s.castle slot).state ≠ 2 ∨ s.firesNow (s.castle slot) = false) → exec (.castleTrigger slot) s = .next s)
    ∧ ((s.castle slot).state = 2 → s.firesNow (s.castle slot) = true →
    mask = s.preMask (s.castle slot).pres + (if (s.castle slot).actions.any s.judged.meetsLock then 2 ^ 16 else 0) →
    (mask = 0 → ∃ t, exec (.castleTrigger slot) s = .next t
      ∧ t = (s.applyActions none (s.castle slot).actions).disarmSlot slot 1
      ∧ (t.castle slot).state = 1 ∧ (t.castle slot).outcome = 1)
    ∧ (mask ≠ 0 → s.objHere objDEV = true → ∃ t, exec (.castleTrigger slot) s = .next t
      ∧ (t.castle slot).state = 1 ∧ (t.castle slot).outcome = 2 ∧ t.params = s.params ∧ t.video = s.video ∧ t.drive = s.drive
      ∧ t.sheets.active = s.sheets.active ∧ Raised t 0x0201 objDEV [slot, mask]))

/-- For a ticket 0 to 255: TICKET_BUILD of 1 to 63 records that pass appends them and leaves the ticket BUILT; TICKET_SEAL_ARM of a BUILT ticket of the shape of R115, with a seal point not yet reached and LEAD in time, arms it and puts it at the end of the queue for timeline memory; TICKET_DISARM of an ARMED ticket before its seal point returns it to BUILT; TICKET_FREE of an EMPTY or BUILT ticket empties it; TICKET_STATUS answers Table 5-16 and changes nothing but its ring. Where the manual names no status for a refusal, assumption 11 does. -/
def Obligations.TicketCommandsBuildArmAndRelease : Prop :=
  ∀ (m : Msg) (s : State) (tk : Nat), m.argN 8 2 = tk → tk ≤ 255 →
    (∀ n, 1 ≤ n → n ≤ 63 → Takes 0x0410 m (16 * n) 0xffffffffffff0000 s → (s.ticket tk).state < 2 →
      (s.buildEntries tk 0 (s.ticket tk) (records 16 m.payload)).2 = [] → ∃ t, exec (.ticketBuild m) s = .next t
        ∧ t.ticket tk = { (s.buildEntries tk 0 (s.ticket tk) (records 16 m.payload)).1 with state := 1 }
        ∧ (∀ k, k ≠ tk → t.ticket k = s.ticket k))
    ∧ (∀ (n : Nat) (feed off : Int), n ≤ 16 → Takes 0x0411 m (32 + 8 * n) 0xffffffffffff0000 s → m.pay 0 1 ≤ 8 → m.pay 1 7 = 0 →
      feed = triggerOf (m.pay 0 1) (m.pay 8 8) → off = sext 64 (m.pay 16 8) → off < 0 →
      (s.ticket tk).shapeOk = true → s.md.mode ∈ [Mode.warmUp, .ready, .print, .runOut] →
      m.pay 24 4 ≤ 500000 → 16 ≤ m.pay 28 4 → (∀ b, b ∈ records 8 (m.payload.drop 32) → s.preStatus b = []) →
      (s.ticket tk).state = 1 → s.armRefs none (some tk) (s.ticket tk).actions = [] →
      (((s.ticket tk).entries.filter (fun e => !e.afterFeed)).any (fun e => s.conflicts (m.pay 0 1) (feed + e.offset) e.actions))
        = false →
      s.reached (m.pay 0 1) (feed + off) = false →
      (m.pay 0 1 = 0 → 1000000 ≤ (s.ticket tk).minBase - (off + m.pay 24 4)) →
      ∃ t, exec (.ticketSealArm m) s = .next t
        ∧ (t.ticket tk).state = 2 ∧ (t.ticket tk).basis = m.pay 0 1 ∧ (t.ticket tk).feed = feed ∧ (t.ticket tk).sealOff = off
        ∧ (t.ticket tk).window = m.pay 24 4 ∧ (t.ticket tk).maxSpan = m.pay 28 4 ∧ (t.ticket tk).resident = false
        ∧ (t.ticket tk).extra = (records 8 (m.payload.drop 32)).map preOf
        ∧ (t.ticket tk).entries = (s.ticket tk).entries ∧ (t.ticket tk).images = (s.ticket tk).images
        ∧ t.sheets.queue = s.sheets.queue ++ [tk])
    ∧ (Takes 0x0412 m 0 0xffffffffffff0000 s → (s.ticket tk).state = 2 → s.sealReached tk = false → ∃ t, exec (.ticketDisarm m) s = .next t
        ∧ (t.ticket tk).state = 1 ∧ (t.ticket tk).sealOutcome = 3 ∧ tk ∉ t.sheets.queue)
    ∧ (Takes 0x0413 m 0 0xffffffffffff0000 s → (s.ticket tk).state < 2 → exec (.ticketFree m) s = .next ((s.setTicket tk {}).ok (s.replyOf 0x0413 m)))
    ∧ (Takes 0x0414 m 0 0xffffffffffff0000 s → exec (.ticketStatus m) s = .next (s.ok (s.replyOf 0x0414 m) (toLE 1 (s.ticket tk).state
          ++ toLE 1 (s.ticket tk).sealOutcome ++ toLE 2 (s.ticket tk).entries.length ++ toLE 2 (s.ticket tk).nPres
          ++ toLE 2 (s.ticket tk).images.length ++ toLE 4 (s.ticket tk).nActions ++ toLE 1 (b2n (s.ticket tk).resident)
          ++ toLE 1 (s.ticket tk).slips ++ toLE 2 (s.ticket tk).fallMask
          ++ toLE 8 (if (s.ticket tk).state < 2 then 0 else wrapBits 64 (s.ticket tk).feed))))

/-- Firmware makes the first waiting ARMED ticket that fits in timeline memory resident, and takes it from the queue. Once in each tempo of its window an evaluation of an ARMED ticket seals it when every precondition of Table 5-9 holds: it is SEALED with the next serial number, in this tempo, with its participating objects, 0x0210 carries the number of the evaluation, and Ready becomes Print. Otherwise it stays ARMED and records the mask. Where its reads meet an uncorrectable error it leaves timeline memory, and RESOURCE counts as false. Outside the window, and a second time in a tempo, nothing changes. That the number of the evaluation is that of the tempo in the window is the model's reading (assumption 7). -/
def Obligations.ASealHappensExactlyWhenEveryPreconditionHolds : Prop :=
  (∀ (s : State) (tk : Nat), s.md.boot = .running → (s.sheets.queue.filter s.fits).head? = some tk → (s.ticket tk).state = 2 →
    ∃ t, exec (.ticketResident tk) s = .next t ∧ (t.ticket tk).resident = true ∧ (t.ticket tk).state = 2
      ∧ tk ∉ t.sheets.queue ∧ (∀ k, k ≠ tk → t.ticket k = s.ticket k ∧ (k ∈ t.sheets.queue ↔ k ∈ s.sheets.queue)))
  ∧ (∀ (s : State) (tk : Nat), tk < 256 → At s (inSeal tk) →
    (((s.ticket tk).state ≠ 2 ∨ (s.ticket tk).inSealWindow s.tempo = false ∨ (s.ticket tk).evalAt = some s.tempo) →
      ∀ ue, exec (.sealEvaluation tk ue) s = .next s)
    ∧ ((s.ticket tk).state = 2 → (s.ticket tk).inSealWindow s.tempo = true → (s.ticket tk).evalAt ≠ some s.tempo →
    (s.sealMask tk = 0 → ∃ t, exec (.sealEvaluation tk none) s = .next t
      ∧ (t.ticket tk).state = 3 ∧ (t.ticket tk).sealOutcome = 1 ∧ (t.ticket tk).sealTempo = s.tempo
      ∧ (t.ticket tk).held = s.holds (s.ticket tk)
      ∧ t.sheets.serial = (s.sheets.serial + 1) % 2 ^ 32 ∧ (t.ticket tk).serial = t.sheets.serial
      ∧ (t.ticket tk).spoil = 0 ∧ (s.md.mode = .ready → t.md.mode = .print) ∧ (s.md.mode ≠ .ready → t.md.mode = s.md.mode)
      ∧ (s.objHere (obj clsTK tk) = true → Raised t 0x0210 (obj clsTK tk) [obj clsTK tk, t.sheets.serial,
          s.tempo + 1 - (s.ticket tk).sealAt.getD s.tempo]))
    ∧ (s.sealMask tk ≠ 0 → ∃ t, exec (.sealEvaluation tk none) s = .next t
      ∧ (t.ticket tk).state = 2 ∧ (t.ticket tk).evalAt = some s.tempo ∧ (t.ticket tk).lastMask = s.sealMask tk
      ∧ t.md = s.md)
    ∧ (∀ a, ∃ t, exec (.sealEvaluation tk (some a)) s = .next t
      ∧ (t.ticket tk).state = 2 ∧ (t.ticket tk).resident = false ∧ bit (t.ticket tk).lastMask 3 = true)))

/-- When the window of an ARMED ticket has passed without a seal it falls, with the mask of the evaluation of this tempo. Without a slip it returns to BUILT. With a slip it stays ARMED, its feed trigger moves by its pitch and its slip count rises (a ticket listed once moves once), and no ticket that is not ARMED on its basis with a later feed changes. Either way the seal outcome is FELL with the mask, and 0x0211 is raised. A ticket that does not fall in this tempo keeps everything. What an evaluation that did not run would have found is judged by the fall itself (assumption 22). -/
def Obligations.AFlagFallEmptiesThePitchOrSlips : Prop :=
  ∀ (s : State) (tk : Nat), tk < 256 → At s (inFall tk) →
    (s.falls tk = none → exec (.flagFall tk) s = .next s)
    ∧ (∀ mask, s.falls tk = some mask → s.objHere (obj clsTK tk) = true →
    (s.slipOutcome tk mask ≠ 1 → ∃ t, exec (.flagFall tk) s = .next t ∧ (t.ticket tk).state = 1 ∧ (t.ticket tk).sealOutcome = 2
      ∧ (t.ticket tk).fallMask = mask ∧ tk ∉ t.sheets.queue
      ∧ Raised t 0x0211 (obj clsTK tk) [obj clsTK tk, mask, s.slipOutcome tk mask])
    ∧ (s.slipOutcome tk mask = 1 → (s.movers tk).count tk = 1 → ∃ t, exec (.flagFall tk) s = .next t
      ∧ (t.ticket tk).state = 2 ∧ (t.ticket tk).sealOutcome = 2 ∧ (t.ticket tk).fallMask = mask
      ∧ (t.ticket tk).feed = (s.ticket tk).feed + (s.par clsTK tk 0x001 : Nat)
      ∧ (t.ticket tk).slips = satAdd 8 (s.ticket tk).slips 1
      ∧ (∀ k, k ∉ s.movers tk → k ≠ tk → t.ticket k = s.ticket k)
      ∧ Raised t 0x0211 (obj clsTK tk) [obj clsTK tk, mask, 1]))

/-- In the tempo in which the trigger of an entry of a sealed ticket is reached (not the EXIT entry, not one evaluated before), the entry counts as evaluated, and a FEED entry makes the ticket RUNNING from this tempo. With every precondition true its actions are applied in order. With one false none is: the ticket counts a missed entry, parameters stay as they were, and 0x0221 is raised. Where its reads meet an uncorrectable error, Warm-up, Ready, Print and Run-out give way to Safe-hold. In any other tempo, and for an entry evaluated before, nothing changes. -/
def Obligations.ATimelineEntryFiresAllOrNothing : Prop :=
  ∀ (s u : State) (tk entry : Nat) (e : TEntry), tk < 256 → At s ((s.ticket tk).entryPlace tk entry) →
    (s.ticket tk).entries[entry]? = some e →
    ((e.done = true ∨ e.exit = true ∨ (s.ticket tk).state < 3 ∨ s.entryReached (s.ticket tk) e = false) →
      ∀ ue, exec (.timelineEntryTrigger tk entry ue) s = .next s)
    ∧ (3 ≤ (s.ticket tk).state → e.done = false → e.exit = false → s.entryReached (s.ticket tk) e = true →
    u = s.updTicket tk (fun t => if e.feed then (t.entryDone entry).fed s.tempo else t.entryDone entry) →
    (s.preMask e.pres = 0 → exec (.timelineEntryTrigger tk entry none) s = .next (u.applyActions (some tk) e.actions))
    ∧ (s.preMask e.pres ≠ 0 → s.objHere (obj clsTK tk) = true → ∃ t, exec (.timelineEntryTrigger tk entry none) s = .next t
      ∧ (t.ticket tk).missed = satAdd 16 (s.ticket tk).missed 1 ∧ t.params = s.params ∧ t.drive = s.drive
      ∧ Raised t 0x0221 (obj clsTK tk) [obj clsTK tk, entry, s.preMask e.pres])
    ∧ (∀ a, ∃ t, exec (.timelineEntryTrigger tk entry (some a)) s = .next t
      ∧ (s.md.mode ∈ [Mode.warmUp, .ready, .print, .runOut] → t.md.mode = .safeHold)))

/-- In the tempo in which the EXIT entry of a sealed ticket is reached, the sheet ends: the ticket is BUILT again and its report is queued with this tempo; an uncorrectable error in its reads ends Warm-up, Ready, Print and Run-out in Safe-hold instead. When the exit has not fired MAX_SPAN after the seal, 0x0222 is latched on the ticket, and in Warm-up, Ready, Print or Run-out the engine enters Safe-hold. -/
def Obligations.ASealedSheetEndsAtItsExitOrItsOverrun : Prop :=
  (∀ (s : State) (tk : Nat) (e : TEntry), tk < 256 →
    At s ((s.ticket tk).entryPlace tk (((s.ticket tk).entries.findIdx? (fun e => e.exit)).getD 0)) →
    (s.ticket tk).entries.find? (fun e => e.exit) = some e →
    3 ≤ (s.ticket tk).state → s.entryReached (s.ticket tk) e = true →
    (∃ t, exec (.exitCastle ⟨tk, none⟩) s = .next t ∧ (t.ticket tk).state = 1
      ∧ ∃ r, r ∈ t.sheets.reports ∧ r.ticket = tk ∧ r.tempo = s.tempo)
    ∧ (∀ a, ∃ t, exec (.exitCastle ⟨tk, some a⟩) s = .next t
      ∧ (s.md.mode ∈ [Mode.warmUp, .ready, .print, .runOut] → t.md.mode = .safeHold)))
  ∧ (∀ (s : State) (tk : Nat), tk < 256 → At s inTimeouts → 3 ≤ (s.ticket tk).state → s.objHere (obj clsTK tk) = true →
    (s.ticket tk).sealTempo + (s.ticket tk).maxSpan * 65536 ≤ s.tempo →
    ∃ t, exec (.sheetOverrun tk) s = .next t ∧ t.latched 0x0222 (obj clsTK tk) = true
      ∧ (s.md.mode ∈ [Mode.warmUp, .ready, .print, .runOut] → t.md.mode = .safeHold))

/-- With DRAM_OK, in the modes of Table 4-14: STORE_ALLOC of a region that fits lists a region of that many pages that lies in free pages of the channel named; which of the places that fit is open. STORE_FREE of a region that no sealed sheet uses unlists it. STORE_FENCE on channels 0 to 31 (open) or all completes at once when every write it covers has arrived: the pages it covers become FENCED and every other keeps its state. Otherwise it waits with its deadline, and holds back its ring. A waiting fence whose writes have all arrived completes: it leaves the list, and the pages it covers, alone, become FENCED. A fence whose writes have not arrived by its deadline ends with TIMEOUT: it leaves the list, every page keeps its state, and 0x0405 is raised. When training ends while firmware runs and DRAM_OK is 0, a channel that trained has its capacity, at most 32 GiB, and DRAM_OK is 1; a channel of the die that failed goes out of service with 0x0420 and its step. Which writes a fence covers, and when it completes, is read as assumption 26 says. -/
def Obligations.TheStoreIsTrainedAllocatedAndFenced : Prop :=
  (∀ (m : Msg) (s : State), s.md.dramOk = true →
    (∀ n c, m.argN 8 4 = n → m.argN 12 1 = c → 1 ≤ n → (c = 0 ∨ c = 1 ∨ c = 255) → Takes 0x0500 m 0 0xffffff0000000000 s →
      s.md.mode ∈ modesStore → (c < 2 → s.chHere c = true) → fits n (s.runsOf c) ≠ 0 →
      ∃ t p, exec (.storeAlloc m) s = .next t ∧ t.store.regions = insertRegion (4096 * p, n) s.store.regions
        ∧ ∃ r, r ∈ s.runsOf c ∧ r.1 ≤ p ∧ p + n ≤ r.1 + r.2)
    ∧ (∀ r, Takes 0x0501 m 8 noArg s → s.md.mode ∈ modesStore ++ [.safeHold] → s.store.regions.find? (fun x => x.1 == m.pay 0 8) = some r →
      (∀ k i, k ∈ s.sealedTks → i ∈ (s.ticket k).images → ¬ (r.1 < i.addr + i.size ∧ i.addr < r.1 + 4096 * r.2)) →
      exec (.storeFree m) s = .next ({ s with store := { s.store with
        regions := s.store.regions.filter (fun x => x.1 != m.pay 0 8) } }.ok (s.replyOf 0x0501 m)))
    ∧ (∀ c n f, m.argN 8 1 = c → m.argN 12 4 = n → 1 ≤ n → (c ≤ 31 ∧ (s.dma c).state ≠ .closed ∨ c = 255) →
      Takes 0x0502 m 0 0xffffff00 s → s.md.mode ∈ modesStore ++ [.safeHold] →
      f = { reply := s.replyOf 0x0502 m, ch := c, accepted := s.tempo, deadline := s.tempo + 256 * n, cover := s.covered c } →
      (s.fenceDone f = true → ∃ t, exec (.storeFence m) s = .next t
        ∧ t.store.pages = s.store.pages.filter (fun e => !fenceHits c (s.dma c).opens s.tempo e.2) ∧ t.store.fences = s.store.fences ∧ t.mems = s.mems)
      ∧ (s.fenceDone f = false → ∃ t, exec (.storeFence m) s = .next t ∧ t.store.fences = s.store.fences ++ [f]
        ∧ t.store.pages = s.store.pages ∧ (t.ring m.ring).taken = some ⟨0x0502, m, (s.replyOf 0x0502 m).epoch, true⟩)))
  ∧ (∀ (s : State) (r : Idx) (f : Fence), s.fenceOf r = some f →
    (s.fenceDone f = true → ∃ t, exec (.storeFenceComplete r) s = .next t ∧ t.store.fences = s.store.fences.erase f
      ∧ t.store.pages = s.store.pages.filter (fun e => !fenceHits f.ch (s.dma f.ch).opens f.accepted e.2) ∧ t.mems = s.mems)
    ∧ (At s inTimeouts → s.fenceDone f = false → f.deadline ≤ s.tempo → s.objHere (if f.ch = 255 then objDEV else obj clsDMA f.ch) = true →
      ∃ t n, exec (.storeFenceTimeout r) s = .next t ∧ t.store.fences = s.store.fences.erase f ∧ t.store.pages = s.store.pages
        ∧ t.mems = s.mems ∧ Raised t 0x0405 (if f.ch = 255 then objDEV else obj clsDMA f.ch) [f.ch, n]))
  ∧ (∀ (s : State), s.md.boot = .running → s.md.dramOk = false → s.store.out0 = false →
    (∀ (g : Nat) (r : TrainDram), ∃ t, exec (.dramTrainingDone (.ok g) r) s = .next t ∧ t.md.dramOk = true ∧ t.store.gib0 = min g 32)
    ∧ (∀ k g, s.nCh = 2 → s.store.out1 = false → s.objHere objDEV = true → ∃ t, exec (.dramTrainingDone (.fail k) (.ok g)) s = .next t
      ∧ t.md.dramOk = true ∧ t.store.out0 = true ∧ t.store.gib1 = min g 32 ∧ Raised t 0x0420 objDEV [0, k % 256]))

/-- DMA_OPEN of a CLOSED channel makes it IDLE with its seen bits and counts 0, and forgets its latched faults. DMA_CLOSE leaves a channel CLOSED with no request waiting and no write of its that a fence still covers. A doorbell RING of an IDLE host-owned channel starts it at NEXT, and it asks for its descriptor; STOP closes it. Firmware starts an IDLE channel of its own at the descriptor it names. A write of DMA_STATUS clears the seen bits written with 1 that were not set in the same tempo. A 4-byte read of DMA_DONE_COUNT or DMA_BAD_COUNT returns the count of the tempi before this one and clears it; an 8-byte read returns and clears both. That DMA_OPEN keeps IRQ.EN, and what firmware writes before it rings, are the model's reading (assumptions 26 and 27). -/
def Obligations.DmaChannelsOpenRunAndClose : Prop :=
  ∀ (s : State) (ch : Nat), s.md.dramOk = true → ch ≤ 31 →
    (∀ m : Msg, m.argN 8 1 = ch →
      (Takes 0x0510 m 0 0xffffffffffffff00 s → s.md.mode ∈ modesStore → (s.dma ch).state = .closed → ∃ t, exec (.dmaOpen m) s = .next t
        ∧ t.dma ch = { state := .idle, irqEn := (s.dma ch).irqEn, opens := (s.dma ch).opens + 1 } ∧ (∀ k, k ≠ ch → t.dma k = s.dma k)
        ∧ (∀ f, f ∈ t.faults → f.obj ≠ obj clsDMA ch))
      ∧ (Takes 0x0511 m 0 0xffffffffffffff00 s → ∃ t, exec (.dmaClose m) s = .next t
        ∧ (t.dma ch).state = .closed ∧ (∀ k, k ≠ ch → t.dma k = s.dma k)
        ∧ ((s.dma ch).state ≠ .closed → (∀ q, q ∈ t.store.reqs → q.who ≠ ch)
          ∧ (∀ f, f ∈ t.store.flights → f.ch = ch → f.live = false))))
    ∧ (At s inCapture → s.host.reachable = true → s.hostOwned ch = true →
      (∀ v : Word, bit v.toNat 1 = false → bit v.toNat 0 = true → (s.dma ch).state = .idle →
        ∃ t, exec (.dmaDoorbellRing ch (.host v)) s = .next t
          ∧ t.dma ch = { s.dma ch with state := .running, cur := (s.dma ch).next, step := .readDesc, slot := false }
          ∧ t.store.reqs = s.store.reqs ++ [{ s.reqOf ch .hostSlots false (s.dma ch).next [] 32 with ctl := true }])
      ∧ (∀ v : Word, bit v.toNat 1 = true →
        ∃ t, exec (.dmaDoorbellStop ch v) s = .next t ∧ (t.dma ch).state = .closed ∧ (∀ k, k ≠ ch → t.dma k = s.dma k)))
    ∧ (∀ ws next, At s inCapture → s.md.boot = .running → s.hostOwned ch = false → (s.dma ch).state = .idle →
      ∃ t, exec (.dmaDoorbellRing ch (.firmware ws next)) s = .next t
        ∧ (t.dma ch).state = .running ∧ (t.dma ch).cur = next ∧ (t.dma ch).step = .readDesc)
    ∧ (s.host.reachable = true →
      (∀ v : Word, exec (.dmaStatusClear ch v) s = .next (s.updDma ch (fun d => { d with
          badSeen := d.badSeen && (!bit v.toNat 3 || decide (0 < d.badNew.now s.tempo))
          doneSeen := d.doneSeen && (!bit v.toNat 4 || decide (0 < d.doneNew.now s.tempo)) })))
      ∧ (∀ done bad, done = (s.dma ch).doneNew.now s.tempo → bad = (s.dma ch).badNew.now s.tempo →
        exec (.dmaDoneCountRead ch) s = .next ((s.updDma ch (fun d => { d with doneCount := done })).emit
          (.completion (toLE 4 ((s.dma ch).doneCount - done))))
        ∧ exec (.dmaBadCountRead ch) s = .next ((s.updDma ch (fun d => { d with badCount := bad })).emit
          (.completion (toLE 4 ((s.dma ch).badCount - bad))))
        ∧ (∃ t, exec (.bar0BadAccess false (0x11020 + 0x40 * ch) 8) s = .next t
          ∧ t.dma ch = { s.dma ch with doneCount := done, badCount := bad } ∧ (∀ k, k ≠ ch → t.dma k = s.dma k)
          ∧ t.out = s.out ++ [.completion (toLE 8 ((s.dma ch).doneCount - done + ((s.dma ch).badCount - bad) * 2 ^ 32))])))

/-- A running channel whose descriptor read has been granted takes its five fields. A descriptor that meets a cause of Table 7-5 finishes with that cause and asks only for its STATUS write. A valid one from host memory asks the host link for its first bytes: at most 512, and none beyond a 4 KiB boundary. A descriptor that cannot be read (a bus error, the link down, an uncorrectable error in descriptor SRAM) leaves the channel FAULTED with 0x0402 latched. A finished descriptor gets its STATUS written, of a host-owned channel to host memory at CUR + 4: DONE, with DONE_SEEN and the done count, or BAD with its cause, BAD_SEEN, the bad count and BAD_ADDR; with the link down it is BAD with cause 6. Then the channel asks for its tail again, follows a valid LINK, or goes to IDLE with LAST. A tail that has been extended is followed; one that has not makes the channel IDLE. Before its grant no row acts. That a channel has one request out at a time, and cause 6 of a STATUS write, are the model's reading (assumption 27). -/
def Obligations.DescriptorsStartEndAndChain : Prop :=
  (∀ (s : State) (ch : Nat), (s.dma ch).slot = false → ∀ d, exec (.dmaDescriptorStart ch d) s = .next s
    ∧ exec (.dmaLookAgain ch d) s = .next s ∧ (At s inCapture → exec (.dmaDescriptorComplete ch) s = .next s))
  ∧ (∀ (s : State) (ch : Nat), (s.dma ch).state = .running → (s.dma ch).step = .readDesc → (s.dma ch).slot = true →
    (∀ (b : Bytes) (e : Desc), s.hostOwned ch = true → s.host.linkUp = true → e = descOf b →
      (s.descCause ch e ≠ 0 → ∃ t, exec (.dmaDescriptorStart ch (.bytes b)) s = .next t
        ∧ (t.dma ch).step = .finish ∧ (t.dma ch).slot = false ∧ (t.dma ch).cause = s.descCause ch e ∧ (t.dma ch).desc = e
        ∧ (∀ q, q ∈ t.store.reqs → q.who = ch → q = { s.reqOf ch .hostSlots true ((s.dma ch).cur + 4) [] 4 with ctl := true })
        ∧ t.mems = s.mems)
      ∧ (s.descCause ch e = 0 → e.kind = 0 → ∃ t, exec (.dmaDescriptorStart ch (.bytes b)) s = .next t
        ∧ (t.dma ch).step = .transfer ∧ (t.dma ch).desc = e ∧ (t.dma ch).moved = 0
        ∧ t.store.reqs = s.store.reqs ++ [s.reqOf ch .hostSlots false e.src [] (min (min 512 e.length) (4096 - e.src % 4096))])
      ∧ (s.descCause ch e = 0 → exec (.dmaDescriptorStart ch (.bytes b)) s = .next ((s.updDma ch (fun y => { y with
          desc := e, moved := 0, cause := 0, step := .transfer })).nextReq ch))
      ∧ exec (.dmaDescriptorStart ch .none) s = .next s)
    ∧ (∀ d b s1, s.hostOwned ch = false → s.memRange 10 (s.dma ch).cur 32 = true →
      s.memRead 10 (s.dma ch).cur 32 5 (obj clsDMA ch) [obj clsDMA ch] = (b, false, s1) →
      exec (.dmaDescriptorStart ch d) s = .next (s1.beginDesc ch (descOf b)))
    ∧ (∀ d, s.objHere (obj clsDMA ch) = true →
      ((s.hostOwned ch = true ∧ (d = .busError ∨ s.host.linkUp = false))
        ∨ (s.hostOwned ch = false ∧ (s.memRange 10 (s.dma ch).cur 32 = false
          ∨ (s.memRead 10 (s.dma ch).cur 32 5 (obj clsDMA ch) [obj clsDMA ch]).2.1 = true))) →
      ∃ t, exec (.dmaDescriptorStart ch d) s = .next t
        ∧ (t.dma ch).state = .faulted ∧ t.latched 0x0402 (obj clsDMA ch) = true))
  ∧ (∀ (s : State) (ch c : Nat), (s.dma ch).state = .running → (s.dma ch).slot = true →
    ((s.dma ch).step = .finish → At s inCapture →
      c = (if (s.dma ch).cause = 0 ∧ s.hostOwned ch = true ∧ s.host.linkUp = false then 6 else (s.dma ch).cause) →
      ∃ t, exec (.dmaDescriptorComplete ch) s = .next t
      ∧ (s.hostOwned ch = true → s.host.linkUp = true →
        .hostWrite ((s.dma ch).cur + 4) (toLE 4 (if c = 0 then 1 else 2 + 256 * c)) ∈ t.out)
      ∧ (c = 0 → (t.dma ch).doneSeen = true ∧ (t.dma ch).doneCount = satAdd 32 (s.dma ch).doneCount 1
        ∧ (t.dma ch).badCount = (s.dma ch).badCount)
      ∧ (c ≠ 0 → (t.dma ch).badSeen = true ∧ (t.dma ch).badCount = satAdd 32 (s.dma ch).badCount 1
        ∧ (t.dma ch).badAddr = (s.dma ch).cur ∧ (t.dma ch).doneCount = (s.dma ch).doneCount)
      ∧ ((s.dma ch).desc.isEnd = true → (t.dma ch).state = .running ∧ (t.dma ch).step = .lookAgain)
      ∧ ((s.dma ch).desc.isEnd = false → (s.dma ch).desc.linkValid = true →
        (t.dma ch).state = .running ∧ (t.dma ch).step = .readDesc ∧ (t.dma ch).cur = (s.dma ch).desc.link)
      ∧ ((s.dma ch).desc.isEnd = false → (s.dma ch).desc.linkValid = false →
        (t.dma ch).state = .idle ∧ (t.dma ch).last = (s.dma ch).cur))
    ∧ (∀ b, (s.dma ch).step = .lookAgain → s.hostOwned ch = true → s.host.linkUp = true →
      ∃ t, exec (.dmaLookAgain ch (.bytes b)) s = .next t
      ∧ ((descOf b).isEnd = false → (descOf b).linkValid = true →
        t.dma ch = { s.dma ch with step := .readDesc, slot := false, cur := (descOf b).link })
      ∧ (((descOf b).isEnd || !(descOf b).linkValid) = true → (t.dma ch).state = .idle ∧ (t.dma ch).last = (s.dma ch).cur)))

/-- A grant goes to a lane's video fetch that waits at the resource before any DMA request, and then to the DMA request that goes first, in the tempi that the throttle step leaves to the DMA engine. A granted posted write to the host leaves the package with its data and the No-Snoop attribute of its channel; a granted access of a descriptor may be made. A granted store write makes every page it touches dirty, unless a page is locked by a sealed sheet: then its descriptor finishes with cause 5 and the page keeps its state. A live store write that has been granted lands when it arrives. A merge-buffer entry drains 64 tempo after its allocation. Which tempi a throttle step leaves, and that a descriptor has one request out at a time, are the model's reading (assumption 27). -/
def Obligations.ResourcesAreGrantedVideoFirst : Prop :=
  (∀ s : State, At s inCapture →
    (∀ (res : Resource) (d : HostData) (l : Nat), s.laneWinner res = some l →
      ∃ t, exec (.sharedResourceGrant res d) s = .next t ∧ (t.lane l).granted = true ∧ t.store = s.store)
    ∧ (∀ (res : Resource) (d : HostData), s.laneWinner res = none →
      s.tempo * s.therm.step / 100 = (s.tempo + 1) * s.therm.step / 100 → exec (.sharedResourceGrant res d) s = .next s)
    ∧ (∀ (d : HostData) (q : Req), s.laneWinner .hostSlots = none → s.winner .hostSlots = some q → q.write = true →
      q.res = .hostSlots → q.ctl = false → s.host.linkUp = true → exec (.sharedResourceGrant .hostSlots d) s =
        .next ((({ s with store := { s.store with reqs := s.store.reqs.erase q } }).emit
          (.hostWrite q.addr q.data (s.par clsDMA q.who 0x001 == 1))).moved q.who q.len))
    ∧ (∀ (res : Resource) (d : HostData) (q : Req), s.laneWinner res = none → s.winner res = some q → q.ctl = true →
      ∃ t, exec (.sharedResourceGrant res d) s = .next t ∧ (t.dma q.who).slot = true ∧ t.store.reqs = s.store.reqs.erase q)
    ∧ (∀ (d : HostData) (q : Req) (c : Idx) (p : Nat), s.laneWinner (.dram c) = none → s.winner (.dram c) = some q →
      q.res = .dram c → q.ctl = false → q.write = true → p ∈ pagesOf q.addr q.len →
      ((pagesOf q.addr q.len).any s.lockedPage = false → ∃ t, exec (.sharedResourceGrant (.dram c) d) s = .next t
        ∧ (t.page p).kind ≠ 0 ∧ (t.page p).last = s.tempo)
      ∧ ((pagesOf q.addr q.len).any s.lockedPage = true → (s.dma q.who).cause = 0 →
        ∃ t, exec (.sharedResourceGrant (.dram c) d) s = .next t
        ∧ (t.dma q.who).cause = 5 ∧ (t.dma q.who).step = .finish ∧ t.store.pages = s.store.pages ∧ t.mems = s.mems))
    ∧ (∀ (n : Nat) (f : Flight), s.store.flights.find? (fun f => f.seq == n && !f.merging) = some f → f.live = true →
      exec (.dramWriteArrival n) s = .next (s.land f)))
  ∧ (∀ (s : State) (i w : Nat) (e : Merge), (s.mem i).merge.find? (fun e => e.word == w) = some e → e.since + 64 ≤ s.tempo →
    ∃ t, exec (.mergeBufferDrain i w) s = .next t ∧ (∀ x, x ∈ (t.mem i).merge → x.word ≠ w))

/-- COMPRESS_JOB of a RAW source of 1 to 32 groups of 32 lines, with page-aligned destination, ranges in the store that do not overlap, a limit that holds the bound and static tables (dynamic ones on variant 1 alone), joins the queue and holds back its ring. An idle CL0 takes the oldest job with the lowest idle channel, which firmware starts at the chain it has written. While that chain runs the job goes on. When its container has been drained and has arrived, CL0 is idle again, the container's pages are FENCED, and 0x0520 reports OK; a job that has failed ends with its status. That the command answers at the end of its job, and the layout of its chain, are the model's reading (assumption 28). -/
def Obligations.CompressionJobsQueueRunAndEnd : Prop :=
  (∀ (m : Msg) (s : State) (src dst len limit : Nat), Takes 0x0520 m 32 0xffffffffffff0000 s →
    src = m.pay 0 8 → dst = m.pay 8 8 → len = m.pay 16 8 → limit = m.pay 24 8 → m.argN 8 1 ≤ 9 → m.argN 9 1 ≤ 1 →
    s.md.mode ∈ modesStore → s.md.dramOk = true → (m.argN 9 1 = 1 → s.die.variant = 1) → s.par clsCL 0 0x000 = 0 →
    len % (32 * (8 * s.par clsCL 0 0x003)) = 0 → 1 ≤ len / (32 * (8 * s.par clsCL 0 0x003)) →
    len / (32 * (8 * s.par clsCL 0 0x003)) ≤ 32 → dst % 4096 = 0 → s.badRange src len = false → s.badRange dst limit = false →
    overlap src len dst limit = false → boxBound (s.subBytes src len) ≤ limit → (pagesOf dst limit).any s.lockedPage = false →
    s.jobChannels ≠ [] → ∃ t j, exec (.compressJob m) s = .next t ∧ t.store.jobs = s.store.jobs ++ [j]
      ∧ j.src = src ∧ j.dst = dst ∧ j.len = len ∧ j.limit = limit ∧ j.level = m.argN 8 1 ∧ j.container = false
      ∧ (t.ring m.ring).taken = some ⟨0x0520, m, (s.replyOf 0x0520 m).epoch, true⟩)
  ∧ (∀ (s : State) (j : Job) (rest : List Job) (c : Nat) (cs : List Nat), s.store.job = none → s.store.jobs = j :: rest →
    s.jobChannels = c :: cs → s.tripped = false → ∃ t, exec .compressJobStart s = .next t
      ∧ t.store.job = some { j with ch := c } ∧ t.store.jobs = rest ∧ (t.dma c).state = .running
      ∧ (t.dma c).cur = 0 ∧ (t.dma c).step = .readDesc)
  ∧ (∀ (s : State) (j : Job), s.store.job = some j → s.tripped = false →
    ((s.dma j.ch).state = .running → exec (.compressJobEnd none) s = .next s)
    ∧ (∀ b, (s.dma j.ch).state ≠ .running → j.fail = none → j.box = some b → b.length ≤ j.outAt →
      s.allLanded j.dst b.length = true → s.objHere (obj clsCL 0) = true →
      ∃ t, exec (.compressJobEnd none) s = .next t ∧ t.store.job = none
        ∧ (∀ p, p ∈ pagesOf j.dst b.length → (t.page p).kind = 0)
        ∧ Raised t 0x0520 (obj clsCL 0) [stOK, j.input.length, j.outAt, j.level, b2n j.dyn])
    ∧ (∀ code data, (s.dma j.ch).state ≠ .running → j.fail = some (code, data) → s.objHere (obj clsCL 0) = true →
      ∃ t, exec (.compressJobEnd none) s = .next t ∧ t.store.job = none
        ∧ Raised t 0x0520 (obj clsCL 0) [code, j.input.length, j.outAt, j.level, b2n j.dyn]))

/-- A write of BOOT_CTRL with GO and without FW_RESET makes STATE CHECKING while STATE is AWAITING_IMAGE or REJECTED, and changes nothing in any other state. With both bits 1, GO is ignored, and FW_RESET acts exactly when the mode is Configure, Standby or Safe-hold and STATE is not LOCKED: it leaves AWAITING_IMAGE in Configure and every parameter at its reset value, and keeps REJECT_COUNT, the tempo, the page store's regions, the rails and the PLLs; vector 0 is sent only where STATE changes. -/
def Obligations.GoIsActedOnOnlyWhileAwaitingOrRejected : Prop :=
  ∀ (s : State) (v : Word), s.host.reachable = true →
    (bit v.toNat 0 = true → bit v.toNat 1 = false → (s.md.boot = .awaiting ∨ s.md.boot = .rejected) →
      ∃ t, exec (.bootCtrlGo v) s = .next t ∧ t.md = { s.md with boot := .checking } ∧ t.mems = s.mems ∧ t.params = s.params)
    ∧ (bit v.toNat 0 = true → bit v.toNat 1 = false → s.md.boot ≠ .awaiting → s.md.boot ≠ .rejected →
      exec (.bootCtrlGo v) s = .next s)
    ∧ (bit v.toNat 0 = true → bit v.toNat 1 = true → exec (.bootCtrlGo v) s = .next s)
    ∧ (bit v.toNat 1 = true → s.md.boot ≠ .locked → s.md.mode ∈ [Mode.configure, .standby, .safeHold] →
      ∃ t, exec (.firmwareReset v) s = .next t ∧ t.md.boot = .awaiting ∧ t.md.mode = .configure
        ∧ t.md.rejectCount = s.md.rejectCount ∧ (∀ a, t.param a = paramReset a) ∧ t.tempo = s.tempo ∧ t.running = s.running
        ∧ t.store.regions = s.store.regions ∧ t.rails = s.rails ∧ (∀ p, t.pll p = { s.pll p with subst := false }) ∧ t.aon = s.aon
        ∧ (s.md.boot = .awaiting → t.host.pba = s.host.pba ∧ t.out = s.out))
    ∧ (bit v.toNat 1 = true → (s.md.boot = .locked ∨ s.md.mode ∉ [Mode.configure, .standby, .safeHold]) →
      exec (.firmwareReset v) s = .next s)

/-- The boot ROM ends in AWAITING_IMAGE with the supervisor memory and the mailbox memory at zero. An image that passes every check of Table 2-5b runs, with its versions, its watchdog at 1,000 ms and the window locked. One that fails is rejected with the code of its first failing check and counted; the eighth rejection locks the boot. A watchdog armed with 1 to 1,000 ms that has not been served for as long (or a core that meets an uncorrectable error) sets FAULT_HW.WATCHDOG and latches 0x0c11 on DEV, and in Configure and Standby does nothing more; with no sheet sealed it ends Warm-up, Ready, Print and Run-out in Safe-hold. Two reject codes, and that the boot ROM needs a running tempo counter, are the model's reading (assumption 41), and so is that the payload of 0x0c11 is the period (assumption 40). -/
def Obligations.BootRunsAGoodImageAndRejectsAnother : Prop :=
  ∀ s : State,
    (s.md.boot = .init → s.running = true → s.md.mode ≠ .dormant → ∃ t, exec .bootRomInitDone s = .next t
      ∧ t.md = { s.md with boot := .awaiting } ∧ (∀ i, i = 11 ∨ i = 12 → (t.mem i).words = [] ∧ (t.mem i).zeroed = true)
      ∧ (∀ i, i ≠ 11 → i ≠ 12 → t.mem i = s.mem i))
    ∧ (s.md.boot = .checking → s.bootReject = 0 → ∃ t, exec .bootCheckDone s = .next t ∧ t.md.boot = .running
      ∧ t.md.cmdsetVer = s.imageN 0x0c 4 ∧ t.md.fwVer = s.imageN 0x10 4 ∧ t.md.entry = s.imageN 0x18 4 ∧ t.md.wdMs = 1000 ∧ t.md.wdAt = s.tempo
      ∧ t.md.window = [] ∧ t.md.rejectCount = s.md.rejectCount ∧ t.md.mode = s.md.mode)
    ∧ (s.md.boot = .checking → s.bootReject ≠ 0 → ∃ t, exec .bootCheckDone s = .next t
      ∧ t.md = { s.md with rejectCode := s.bootReject, rejectCount := s.md.rejectCount + 1
                           boot := if 8 ≤ s.md.rejectCount + 1 then .locked else .rejected } ∧ t.mems = s.mems)
    ∧ (∀ a, At s inTimeouts → s.md.boot = .running → s.md.wdExpired = false →
      ∃ t, exec (.watchdogExpire (.ue a)) s = .next t ∧ t.watchdog = true ∧ t.md.wdExpired = true)
    ∧ (∀ ms, At s inTimeouts → s.md.boot = .running → s.md.wdExpired = false → 1 ≤ ms → ms ≤ 1000 →
      s.md.wdAt + 500000 * ms ≤ s.tempo → s.objHere objDEV = true → s.latched 0x0c11 objDEV = false →
      ∃ t, exec (.watchdogExpire (.silent ms)) s = .next t ∧ t.watchdog = true ∧ t.md.wdExpired = true ∧ t.latched 0x0c11 objDEV = true
        ∧ Raised t 0x0c11 objDEV [ms]
        ∧ (s.md.mode = .configure ∨ s.md.mode = .standby → t.md.mode = s.md.mode ∧ t.drive = s.drive ∧ t.mems = s.mems)
        ∧ (s.sealedTks = [] → s.md.mode ∈ [Mode.warmUp, .ready, .print, .runOut] → t.md.mode = .safeHold))

/-- Setting EN of a disabled ring whose size is legal puts its four indices to 0 and its phase to 1; clearing EN disables it and discards the responses that wait. The doorbell and the response head take the value written, 6 and 12 bits wide. The hello is written once as the first entry of MB00 at its response tail, bytes 60 to 63 in a write of their own. A running ring whose slot at CMD_HEAD holds a valid one-slot message with a defined opcode takes it and moves CMD_HEAD past it. A ring that waits with a response of one entry writes it and then has it no more. A ring with an entry not yet signalled and TIME 0 signals its vector. Where DORMANT_ENTER has been accepted and its response is no longer due, writing a response or a ring's EN then takes the link down (leaveL0), and otherwise does nothing more. That a disabled ring discards its responses, and which message goes first, are the model's choices (assumption 13). -/
def Obligations.MailboxRingsTakeCommandsAndPostEntries : Prop :=
  (∀ (s : State) (n : Idx) (v : Word), s.host.reachable = true → n < 16 →
    (bit v.toNat 0 = true → (s.ring n).en = false → 6 ≤ (s.ring n).log2 → (s.ring n).log2 ≤ 12 →
      exec (.mbCtrlEnWrite n v) s = .next (s.setRing n { s.ring n with
        en := true, cmdHead := 0, cmdTail := 0, rspHead := 0, rspTail := 0, phase := true, seq := 0 }).leaveL0)
    ∧ (bit v.toNat 0 = false → ∃ t : State, exec (.mbCtrlEnWrite n v) s = .next t.leaveL0 ∧ (t.ring n).en = false
      ∧ (∀ k, k ≠ n → t.ring k = s.ring k) ∧ ((s.ring n).en = true → (t.ring n).waiting = [])
      ∧ (t.ring n).rspBase = (s.ring n).rspBase)
    ∧ (At s inCapture → exec (.mbCmdTailDoorbell n v) s = .next (s.setRing n { s.ring n with cmdTail := v.toNat % 64 }))
    ∧ exec (.mbRspHeadWrite n v) s = .next (s.setRing n { s.ring n with rspHead := v.toNat % 4096 })
    ∧ (s.md.leaving = none → s.leaveL0 = s))
  ∧ (∀ s : State, s.mayPost 0 = true → s.host.helloPosted = false → s.host.linkNote = none →
    ∃ t b w, exec .helloPost s = .next t ∧ t.host.helloPosted = true ∧ b.length = 60
      ∧ t.out = s.out ++ [.hostWrite ((s.ring 0).rspBase + 64 * (s.ring 0).rspTail) b,
                          .hostWrite ((s.ring 0).rspBase + 64 * (s.ring 0).rspTail + 60) w]
      ∧ (t.ring 0).rspTail = ((s.ring 0).rspTail + 1) % 2 ^ (s.ring 0).log2)
  ∧ (∀ (s s1 : State) (n : Idx) (h : Bytes), s.md.boot = .running → s.host.helloPosted = true → n < 16 → (s.ring n).code = 1 →
    (s.ring n).taken = none → (s.ring n).cmdHead ≠ (s.ring n).cmdTail → (s.ring n).cmdTail < 64 → (s.ring n).cmdHead < 64 →
    s.readSlots n (s.ring n).cmdHead 1 = (h, false, s1) → leAt h 2 1 = 1 → leAt h 3 1 < 4 → leAt h 6 2 ≤ 48 →
    leAt h 0 2 ∈ opcodes → ∃ t c, exec (.mailboxCommandTake n none) s = .next t
      ∧ (t.ring n).cmdHead = ((s.ring n).cmdHead + 1) % 64 ∧ (t.ring n).taken = some c ∧ c.begun = false ∧ c.opcode = leAt h 0 2 ∧ c.msg.ring = n
      ∧ c.msg.tag = BitVec.ofNat 16 (leAt h 4 2) ∧ c.msg.flags = BitVec.ofNat 8 (leAt h 3 1)
      ∧ c.msg.arg = BitVec.ofNat 64 (leAt h 8 8) ∧ c.msg.payload = bytesAt h 16 (leAt h 6 2))
  ∧ (∀ (s : State) (n : Idx) (x : OutMsg), s.mayPost n = true → (s.ring n).cur = .idle → (s.ring n).curAt = 0 →
    s.nextMsg n = .response x → x.payload.length ≤ 44 → ∃ (t : State) (b : Bytes), exec (.responseEntryPost n none) s = .next t.leaveL0
      ∧ (t.ring n).waiting = (s.ring n).waiting.tail ∧ (t.ring n).cur = .idle
      ∧ (t.ring n).rspTail = ((s.ring n).rspTail + 1) % 2 ^ (s.ring n).log2
      ∧ .hostWrite ((s.ring n).rspBase + 64 * (s.ring n).rspTail) b ∈ t.out ∧ b.length = 60)
  ∧ (∀ (s : State) (n : Idx), n < 16 → (s.ring n).en = true → 0 < (s.ring n).unsig → (s.ring n).irqTime = 0 →
    exec (.ringInterrupt n) s = .next ((s.setRing n { s.ring n with unsig := 0, sigNow := false }).signal (s.ring n).vec))

/-- With the link up: a 4-byte read of TEMPO_LO answers the low half and keeps the high half, and an 8-byte read answers both; a read of ILK_COUNT answers what earlier tempi counted and clears it, an 8-byte one with ILK_STATUS before it. A write of 1 to OPEN_SEEN clears it unless an input is open or was opened in this tempo. A BAR0 read that is not naturally aligned of 4 or 8 bytes is aborted and logged, and a write that is not is dropped; an aligned read answers. An 8-byte write is two of 4, the lower address first. While the image window is open a BAR2 write keeps its bytes, and a read answers them; where no region is open a read answers zeros. A register write of an offset that no field map names, of a read-only word or of a ring size while EN is 1 changes nothing, and one of an interrupt word sets its three fields. That OPEN_SEEN stays set while an input is open is the model's reading (assumption 15). -/
def Obligations.RegistersReadAndWriteAsTheirFieldMapsSay : Prop :=
  ∀ s : State, s.host.reachable = true →
    (exec .tempoLoRead s = .next ({ s with host := { s.host with tempoHi := s.tempo / 2 ^ 32 % 2 ^ 32 } }.emit
      (.completion (toLE 4 (s.tempo % 2 ^ 32)))))
    ∧ (exec (.bar0BadAccess false 0x2000 8) s = .next (s.emit (.completion (toLE 8 s.tempo))))
    ∧ (∀ k, k = s.video.ilkNew.now s.tempo →
      exec .ilkCountRead s = .next ({ s with video := { s.video with ilkCount := k } }.emit
        (.completion (toLE 4 (s.video.ilkCount - k))))
      ∧ exec (.bar0BadAccess false 0x4000 8) s = .next ({ s with video := { s.video with ilkCount := k } }.emit
        (.completion (toLE 8 (b2n s.video.ilkA + 2 * b2n s.video.ilkB + 4 * b2n s.video.blanked + 8 * b2n s.video.openSeen
          + (s.video.ilkCount - k) * 2 ^ 32)))))
    ∧ (∀ v : Word, bit v.toNat 3 = true →
      exec (.ilkOpenSeenClear v) s = .next { s with video := { s.video with
        openSeen := s.video.ilkA || s.video.ilkB || (s.video.openSeen && s.video.openAt == some s.tempo) } })
    ∧ (∀ off len, exec (.bar0BadAccess true off len) s = .next s
      ∧ (¬ ((len = 4 ∨ len = 8) ∧ off % len = 0) → ∃ t, exec (.bar0BadAccess false off len) s = .next t
        ∧ t.out = s.out ++ [.completerAbort] ∧ bit t.host.cfg.aerStatus 15 = true ∧ t.mems = s.mems ∧ t.params = s.params)
      ∧ ((len = 4 ∨ len = 8) → off % len = 0 → exec (.bar0BadAccess false off len) s = .next (s.answer off (len == 8))))
    ∧ (∀ off (v : DWord), off % 8 = 0 → off < 0x200000 →
      exec (.registerWrite off (.dword v)) s = .next ((s.writeReg off (v.toNat % 2 ^ 32)).writeReg (off + 4) (v.toNat / 2 ^ 32)))
    ∧ (∀ off len data, 1 ≤ len → len ≤ 512 → off + len ≤ 0x800000 → (s.md.boot = .awaiting ∨ s.md.boot = .rejected) →
      (∃ t, exec (.bar2Access true off len data) s = .next t ∧ t.image off len = (List.range len).map (fun j => data.getD j 0)
        ∧ (∀ a, a < off ∨ off + len ≤ a → t.image a 1 = s.image a 1))
      ∧ exec (.bar2Access false off len data) s = .next (s.emit (.completion (s.image off len))))
    ∧ (∀ off len data, 1 ≤ len → len ≤ 512 → s.md.boot ≠ .awaiting → s.md.boot ≠ .rejected → s.md.boot ≠ .running →
      exec (.bar2Access false off len data) s = .next (s.emit (.completion (List.replicate len 0)))
      ∧ exec (.bar2Access true off len data) s = .next s)
    ∧ (∀ (v : Word) (n : Nat), n < 16 →
      exec (.registerWrite (0x10024 + 0x40 * n) (.word v)) s = .next (s.setRing n { s.ring n with
        vec := field v.toNat 0 6, irqCount := field v.toNat 8 6, irqTime := field v.toNat 16 16 })
      ∧ ((s.ring n).en = true → exec (.registerWrite (0x10018 + 0x40 * n) (.word v)) s = .next s)
      ∧ ((s.ring n).en = false →
        exec (.registerWrite (0x10018 + 0x40 * n) (.word v)) s = .next (s.setRing n { s.ring n with log2 := v.toNat % 16 })))
    ∧ (∀ (v : RegValue) (off : Nat), off < 0x1000 ∨ (0x2000 ≤ off ∧ off < 0x4000) →
      exec (.registerWrite off v) s = .next s)

/-- With DRAM_OK, on an instance that is there: a write of 1 clears CE_SEEN and UE_SEEN where they were not set in the same tempo; a read of a count answers what earlier tempi counted and clears it, an 8-byte one with the word it shares; TEST_EN switches test mode on where R400 allows it, and off; a reserved OP is not stored. In test mode, on a word of the instance that holds stored bits and that the merge buffer does not hold: READ_RAW answers the stored bits; READ_CHECKED of a codeword answers its data with class 0, and of a word with one wrong bit the corrected data with class 1; WRITE_DATA and WRITE_CHECK keep the other bits; WRITE_RAW stores DATA and CHECK, and WRITE_NORMAL DATA with its check bits. DONE sets when the operation completes. Which fields a write of ECC_TEST_CTRL takes is the model's reading (assumption 39). -/
def Obligations.EccRegistersAndTestOperations : Prop :=
  ∀ (s : State) (i : Idx), s.host.reachable = true → s.eccOpen i = true →
    (∀ v : Word, exec (.eccStatusClear i v) s = .next (s.updMem i (fun m => { m with
      ceSeen := m.ceSeen && (!bit v.toNat 2 || decide (0 < m.ceNew.now s.tempo))
      ueSeen := m.ueSeen && (!bit v.toNat 3 || decide (0 < m.ueNew.now s.tempo)) })))
    ∧ (∀ ce ue, ce = (s.mem i).ceNew.now s.tempo → ue = (s.mem i).ueNew.now s.tempo →
      exec (.eccCeCountRead i) s = .next ((s.updMem i (fun m => { m with ceCount := ce })).emit
        (.completion (toLE 4 ((s.mem i).ceCount - ce))))
      ∧ exec (.eccUeCountRead i) s = .next ((s.updMem i (fun m => { m with ueCount := ue })).emit
        (.completion (toLE 4 ((s.mem i).ueCount - ue))))
      ∧ exec (.bar0BadAccess false (0x20000 + 0x40 * i) 8) s = .next ((s.updMem i (fun m => { m with ceCount := ce })).emit
        (.completion (toLE 8 (1 + 2 * b2n (s.mem i).test + 4 * b2n (s.mem i).ceSeen + 8 * b2n (s.mem i).ueSeen
          + 16 * b2n (s.mem i).scrub.isSome + ((s.mem i).ceCount - ce) * 2 ^ 32))))
      ∧ exec (.bar0BadAccess false (0x20008 + 0x40 * i) 8) s = .next ((s.updMem i (fun m => { m with ueCount := ue })).emit
        (.completion (toLE 8 ((s.mem i).ueCount - ue + (s.mem i).last % 2 ^ 32 * 2 ^ 32)))))
    ∧ (∀ v : Word, bit v.toNat 4 = false → (bit v.toNat 0 = true → s.testAllowed i = true) → ∃ t, exec (.eccTestEnable i v) s = .next t
      ∧ t.mem i = { s.mem i with
          test := bit v.toNat 0, op := if field v.toNat 1 3 < 6 then field v.toNat 1 3 else (s.mem i).op }
      ∧ (∀ j, j ≠ i → t.mem j = s.mem j))
    ∧ ((s.mem i).testBusy = true →
      exec (.eccTestDone i) s = .next (s.updMem i (fun m => { m with done := true, testBusy := false })))
    ∧ (∀ (w : Nat) (v : Nat × Nat), (s.mem i).test = true → s.memRange i (s.mem i).tAddr 8 = true → w = (s.mem i).tAddr / 8 →
      (∀ e, e ∈ (s.mem i).merge → e.word ≠ w) → Map.get (fun _ => none) (s.mem i).words w = some v →
      (∃ t, exec (.readRaw i) s = .next t ∧ (t.mem i).tData = v.1 ∧ (t.mem i).tCheck = v.2 ∧ (t.mem i).words = (s.mem i).words)
      ∧ (codeword v = true → ∃ t, exec (.readChecked i) s = .next t ∧ (t.mem i).tData = v.1 ∧ (t.mem i).tClass = 0
        ∧ (t.mem i).words = (s.mem i).words ∧ (t.mem i).ceCount = (s.mem i).ceCount)
      ∧ (∀ b, codeword v = false → oneBit v = some b → ∃ t, exec (.readChecked i) s = .next t
        ∧ (t.mem i).tData = (flip72 v b).1 ∧ (t.mem i).tClass = 1 ∧ (t.mem i).tBit = b
        ∧ (t.mem i).ceCount = satAdd 32 (s.mem i).ceCount 1)
      ∧ (∃ t, exec (.writeData i) s = .next t ∧ (t.wordAt i w).1 = ((s.mem i).tData, v.2))
      ∧ (∃ t, exec (.writeCheck i) s = .next t ∧ (t.wordAt i w).1 = (v.1, (s.mem i).tCheck))
      ∧ (∃ t, exec (.writeRaw i) s = .next t ∧ (t.wordAt i w).1 = ((s.mem i).tData, (s.mem i).tCheck))
      ∧ (∃ t, exec (.writeNormal i) s = .next t ∧ (t.wordAt i w).1 = ((s.mem i).tData % 2 ^ 64, eccOf (s.mem i).tData)))

/-- SCRUB of a range of whole words of an instance that is there, neither scrubbing nor in test mode, starts the scrub and holds back its ring. When it is done, no scrub runs, and 0x0e20 carries the words read. A word with one wrong bit has been written back corrected and counts as fixed; a word with two stays as it is and counts as a UE; a clean word counts as neither. That a scrub reads its range in one row is the model's reading (assumption 39). -/
def Obligations.ScrubsReadTheirRangeAndReportCounts : Prop :=
  (∀ (m : Msg) (s : State), Takes 0x0820 m 16 0xffffffffffffff00 s → (m.argN 8 1 ≤ 12 ∨ (17 ≤ m.argN 8 1 ∧ m.argN 8 1 ≤ 23)) →
    (s.mem (m.argN 8 1)).scrub = none → s.memHere (m.argN 8 1) = true → m.pay 0 8 % 8 = 0 → m.pay 8 8 % 8 = 0 → m.pay 8 8 ≠ 0 →
    s.memRange (m.argN 8 1) (m.pay 0 8) (m.pay 8 8) = true → (s.mem (m.argN 8 1)).test = false →
    exec (.scrub m) s = .next ((s.hold 0x0820 m).updMem (m.argN 8 1) (fun x => { x with
      scrub := some (s.replyOf 0x0820 m, m.pay 0 8, m.pay 8 8, s.tempo) })))
  ∧ (∀ (s : State) (i : Idx) (r : Reply) (a n t0 : Nat), (s.mem i).scrub = some (r, a, n, t0) → s.objHere objDEV = true →
    (∃ t f u, exec (.scrubDone i) s = .next t ∧ (t.mem i).scrub = none ∧ Raised t 0x0e20 objDEV [i, n / 8, f, u]
      ∧ (∀ j, j ≠ i → (t.mem j).words = (s.mem j).words))
    ∧ (∀ v, n = 8 → (∀ e, e ∈ (s.mem i).merge → e.word ≠ a / 8) → Map.get (fun _ => none) (s.mem i).words (a / 8) = some v →
      (codeword v = true → ∃ t, exec (.scrubDone i) s = .next t ∧ (t.mem i).words = (s.mem i).words
        ∧ Raised t 0x0e20 objDEV [i, 1, 0, 0])
      ∧ (∀ b, codeword v = false → oneBit v = some b → ∃ t, exec (.scrubDone i) s = .next t
        ∧ (t.wordAt i (a / 8)).1 = ((flip72 v b).1 % 2 ^ 64, eccOf (flip72 v b).1) ∧ Raised t 0x0e20 objDEV [i, 1, 1, 0])
      ∧ (codeword v = false → oneBit v = none → twoBits v = true → ∃ t, exec (.scrubDone i) s = .next t
        ∧ (t.mem i).words = (s.mem i).words ∧ (t.mem i).ueSeen = true ∧ Raised t 0x0e20 objDEV [i, 1, 0, 1])))

/-- The header of an image entry of a resident ARMED ticket on a FENCED page is read and judged, with 0x0501 when it fails; with the last header of the ticket on the station valid, its strips are queued there. A granted fetch brings its sub-stream to the lane in service, with 0x0410 when it took over 1,000 tempo. A lane with room writes its next line into its slot of the swath. A decode error counts, raises 0x0510, names the line it blanks in a sealed sheet, and is recorded against the container, but for an uncorrectable error of the lane's own history. A sub-stream without error is done and the lane goes on; when it is the fourth, a CRC that does not match raises 0x0511. That a lane fetches its sub-stream at once and reports an error where its element begins is the model's reading (assumption 28). -/
def Obligations.StripsAreCheckedFetchedAndDecoded : Prop :=
  (∀ (s s1 : State) (tk rank : Idx) (entry : Nat) (i : Image) (h : Bytes) (bad : Bool) (c : Nat), s.tripped = false →
    (s.ticket tk).resident = true → (s.ticket tk).state = 2 → (s.ticket tk).images[entry]? = some i → rank < 4 →
    s.inService clsDL (4 * i.station + rank) = true → (s.page (i.addr / 4096)).kind = 0 → Map.get (fun _ => none) i.hdr rank = none →
    s.storeRead i.addr 32 7 (obj clsTK tk) = (h, bad, s1) → s.objHere (obj clsSTN i.station) = true →
    c = s.headerCause i (!(s.ticket tk).images.any (fun x => x.station == i.station && decide (i.strip < x.strip))) h bad →
    ∃ t j, exec (.headerCheck tk entry rank) s = .next t ∧ (t.ticket tk).images[entry]? = some j
      ∧ Map.get (fun _ => none) j.hdr rank = some c ∧ j.addr = i.addr
      ∧ (c ≠ 0 → t.video = s.video)
      ∧ (c ≠ 0 → (∀ e, e ∈ i.hdr → e.2 ≠ some c) →
        Raised t 0x0501 (obj clsSTN i.station) [obj clsTK tk, obj clsSTN i.station, i.strip, i.addr, c])
      ∧ (c = 0 → (∀ k x r, (s.ticket tk).images[k]? = some x → x.station = i.station → r < 4 → (k = entry ∧ r = rank) ∨
          Map.get (fun _ => none) x.hdr r = some 0) → (t.station i.station).stripsOf tk ≠ []))
  ∧ (∀ (s s1 : State) (l : Idx) (e : QStrip) (b : Bytes) (ue : Option Nat), At s inCapture → s.laneStrip l = some e → s.tripped = false →
    l < 32 → s.inService clsDL l = true → (s.lane l).granted = true → (s.lane l).fetched = false → s.objHere objDEV = true →
    s.memScan (storeInst (e.sub (l % 4)).1) (e.sub (l % 4)).1 (e.sub (l % 4)).2 7 (obj clsTK e.tk) = (b, ue, s1) →
    ∃ t, exec (.fetchReturn l) s = .next t
      ∧ t.lane l = { s.lane l with granted := false, fetched := true, fetchUe := ue, input := b }
      ∧ (∀ w, (s.lane l).since = some w → 1000 < s.tempo - w →
        Raised t 0x0410 objDEV [storeInst e.addr - 22, obj clsDL l, s.tempo - w]))
  ∧ (∀ (s : State) (l : Idx) (e : QStrip), At s inCapture → s.laneStrip l = some e → s.tripped = false → l < 32 →
    s.inService clsDL l = true → (s.lane l).fetched = true →
    (s.laneMore l e = true → s.hasRoom (l / 4) (s.laneQ l e) = true →
      (s.lineBytes (l / 4) * ((s.lane l).line + 1) ≤ (s.laneDecode l e).out.length →
        ∃ t d, exec (.laneLineWrite l none) s = .next t ∧ (t.lane l).line = (s.lane l).line + 1
          ∧ (rasterLines e.pred (s.lineBytes (l / 4)) ((s.lane l).line + 1) (s.laneDecode l e).out).getLast?.getD [] = d
          ∧ Map.get (fun _ => {}) (t.station (l / 4)).swath (s.laneQ l e % s.swathC (l / 4)) = { q := s.laneQ l e, data := d }
          ∧ (t.station (l / 4)).queue = (s.station (l / 4)).queue)
      ∧ (∀ c a, (s.laneDecode l e).out.length < s.lineBytes (l / 4) * ((s.lane l).line + 1) →
        (s.laneDecode l e).err = some (c, a) → s.objHere (obj clsDL l) = true →
        ∃ t, exec (.laneLineWrite l none) s = .next t ∧ (t.lane l).errors = satAdd 32 (s.lane l).errors 1
          ∧ Raised t 0x0510 (obj clsDL l) [obj clsDL l, obj clsTK e.tk, e.strip, b2n (s.stripSealed e), c, a,
            if s.stripSealed e then stripLine (l % 4) (s.lane l).line else 0xffff]
          ∧ (e.addr, 32 + e.lens.foldl (· + ·) 0) ∈ t.store.badBoxes))
    ∧ (∀ a, s.laneMore l e = true → s.hasRoom (l / 4) (s.laneQ l e) = true →
      ∃ t, exec (.laneLineWrite l (some a)) s = .next t ∧ (t.lane l).errors = satAdd 32 (s.lane l).errors 1
        ∧ t.store.badBoxes = s.store.badBoxes)
    ∧ (∀ crc, s.laneMore l e = false → (s.laneDecode l e).err = none →
      crc = crc32 ((rasterLines e.pred (s.lineBytes (l / 4)) (e.lines / 4) (s.laneDecode l e).out).flatten) →
      (e.done.length < 3 → ∃ t, exec (.laneSubstreamComplete l) s = .next t ∧ (t.lane l).strip = (s.lane l).strip + 1
        ∧ (t.lane l).errors = (s.lane l).errors ∧ t.store = s.store ∧ t.sheets = s.sheets)
      ∧ (∀ cs sum, e.done.length = 3 →
        cs = (List.range 4).map (fun r => ((e.done ++ [(l % 4, some crc)]).lookup r).getD none) → cs.all (fun c => c.isSome) = true →
        sum = joinCrcs (e.lines / 4 * s.lineBytes (l / 4)) (cs.map (fun c => c.getD 0)) → s.objHere (obj clsSTN (l / 4)) = true →
        ∃ t, exec (.laneSubstreamComplete l) s = .next t ∧ (sum = e.crc → t.store = s.store ∧ (t.lane l).errors = (s.lane l).errors)
          ∧ (sum ≠ e.crc → ∃ b, Raised t 0x0511 (obj clsSTN (l / 4)) [obj clsSTN (l / 4), obj clsTK e.tk, e.strip, e.crc, sum, b]))))

/-- LINK_TRAIN of a DOWN link with the interlock closed starts its training, notes what steps 1 and 2 find and holds back its ring. A run that has come to its end with no failing step makes the link UP with its round-trip time and 0x0610, one with a failing step makes it DOWN with 0x0611 and the step; before its end the row does nothing. At a frame a clocked in-service link sends 20 slots: BLANK_ALL while blanked, IDLE while untrained, and otherwise in slot 0 its marker when its tempo has come, EDGE_SYNC when PX waits, what waits for slot 0, or IDLE, and in slots 1 to 19 its line as far as it is ready; a link that is not clocked sends nothing. A mapper start on a blanked, held or untrained link sends no line; on an UP link with nothing to draw it begins a line without data, and with a sealed sheet to draw one with its data blocks. How the steps of training run is the model's reading (assumption 29). -/
def Obligations.BeamLinksTrainAndSendFramesAndLines : Prop :=
  (∀ (m : Msg) (s : State) (l : Nat), Takes 0x0710 m 0 0xffffffff00000000 s → s.md.mode ∈ [Mode.standby, .warmUp, .ready] →
    Names (m.argN 8 4) [clsVL] s → l = aIdx (m.argN 8 4) → (s.link l).state = .down → s.video.ilkA = false → s.video.ilkB = false →
    s.participates (m.argN 8 4) = false →
    exec (.linkTrain m) s = .next ((s.updLink l (fun x => { x with
      state := .training, slot0 := [], marker := none, line := none, txLevel := s.par clsVL l 0x007
      train := some { reply := s.replyOf 0x0710 m, start := s.tempo, since := s.tempo
                      fail := if (s.pll (3 + l / 16)).state ≠ .locked then 1
                        else if (s.pll (8 + l / 4)).state ≠ .locked then 7 else 0 } })).hold 0x0710 m))
  ∧ (∀ (s : State) (l : Idx) (r : Training) (eq : Bool), (s.link l).train = some r → s.objHere (obj clsVL l) = true →
    (s.trainResult l r eq = none → exec (.linkTrainDone l eq) s = .next s)
    ∧ (s.trainResult l r eq = some 0 → ∃ t, exec (.linkTrainDone l eq) s = .next t ∧ (t.link l).state = .up
        ∧ (t.link l).rtt = r.rtt % 2 ^ 32 ∧ (t.link l).train = none ∧ (t.link l).pxOn = (s.link l).pxOn
        ∧ Raised t 0x0610 (obj clsVL l) [obj clsVL l, r.rtt % 2 ^ 32])
    ∧ (∀ c, s.trainResult l r eq = some c → c ≠ 0 → ∃ t, exec (.linkTrainDone l eq) s = .next t ∧ (t.link l).state = .down
        ∧ (t.link l).train = none ∧ (t.link l).pxOn = false ∧ Raised t 0x0611 (obj clsVL l) [obj clsVL l, c])
    ∧ (r.ilk = true → s.trainResult l r eq = some 8) ∧ (r.ilk = false → r.fail ≠ 0 → s.trainResult l r eq = some r.fail)
    ∧ (r.ilk = false → r.fail = 0 → r.step = 7 → s.pxCounted l = true → s.trainResult l r eq = some (if eq then 0 else 6))
    ∧ (r.ilk = false → r.fail = 0 → r.step = 7 → s.pxCounted l = false → r.start + 1000000 ≤ s.tempo →
        s.trainResult l r eq = some 6))
  ∧ (∀ (s s0 : State) (l : Idx), At s inLinks → l < 32 → s.inService clsVL l = true → s.running = true → s.tempo % 64 = 0 →
    (s.link l).frameAt ≠ some s.tempo → s0 = (s.pxRun l).updLink l (fun x => { x with frameAt := some s.tempo }) →
    (s.serialised l = false → exec (.beamLinkFrame l) s = .next s)
    ∧ (s.serialised l = true →
      (s.dark = true → exec (.beamLinkFrame l) s = .next (s0.emit (.frame l 0 (List.replicate 20 (.ctl blkBLANK)))))
      ∧ (s.dark = false → (s.link l).state = .down ∨ (s.link l).state = .faulted →
        exec (.beamLinkFrame l) s = .next (s0.emit (.frame l 0 (List.replicate 20 (.ctl blkIDLE)))))
      ∧ (s.dark = false → (s.link l).state = .training ∨ (s.link l).state = .up →
        ∃ t b bs, exec (.beamLinkFrame l) s = .next t ∧ .frame l 0 (.ctl b :: bs) ∈ t.out ∧ bs.length = 19
          ∧ (t.link l).state = (s.link l).state ∧ (t.link l).frameAt = some s.tempo
          ∧ (∀ k, (s.link l).marker = some (s.tempo, k) → b = k ∧ (t.link l).marker = none)
          ∧ ((∀ k, (s.link l).marker ≠ some (s.tempo, k)) → (t.link l).marker = (s.link l).marker
            ∧ ((s.link l).pxWait = true → b = ctlBlock 0x55 (toLE 2 (t.link l).edgeV) ∧ (t.link l).pxWait = false
              ∧ ∃ a, (t.link l).pxAt = some a ∧ (0 < s.outDiv (l / 4) → s.tempo + 512 ≤ a))
            ∧ ((s.link l).pxWait = false →
              (∀ k ks, (s.link l).slot0 = k :: ks → b = k ∧ (t.link l).slot0 = ks)
              ∧ ((s.link l).slot0 = [] → b = blkIDLE)))
          ∧ ((s.link l).line = none → bs = List.replicate 19 (.ctl blkIDLE))
          ∧ (∀ x, (s.link l).line = some x →
            bs = (x.fill (8 * s.outDiv (l / 4) * 2 ^ 32) (s.pll (8 + l / 4)).ratio s.tempo 19 1).1))))
  ∧ (∀ (s : State) (l : Idx) (q : Int) (ue : MapperUe), At s inEvents → (s.station (l / 4)).lineQ = some q → l < 32 →
    s.inService clsVL l = true → s.scanOn (l / 4) = true → (s.link l).lineDue = true → s.tempo = (s.lineAt l q).start →
    (s.video.blanked = true ∨ (s.link l).heldAt (s.lineAt l q).frame = true ∨ (s.link l).state ≠ .up →
      ∃ t, exec (.mapperStart l ue) s = .next t ∧ (t.link l).lineDue = false
        ∧ t.out = s.out ∧ (t.link l).seq = (s.link l).seq ∧ (t.link l).line = (s.link l).line)
    ∧ (s.video.blanked = false → (s.link l).heldAt (s.lineAt l q).frame = false → (s.link l).state = .up →
      ∃ t x, exec (.mapperStart l ue) s = .next t ∧ (t.link l).lineDue = false
        ∧ (t.link l).seq = ((s.link l).seq + 1) % 65536 ∧ (t.link l).line = some x ∧ x.start = s.tempo
        ∧ (t.link l).marker = some ((s.lineAt l q).frame,
            ctlBlock 0x33 (toLE 2 (s.link l).seq ++ toLE 2 (s.lineAt l q).edge ++ toLE 1 (s.lineAt l q).fine))
        ∧ (s.drawing (l / 4) = none → x.blocks = []
          ∧ x.head = some (ctlBlock 0x4b (toLE 2 (s.link l).seq ++ toLE 2 (s.par clsSTN (l / 4) 0x003) ++ toLE 1 0 ++ toLE 1 1)))
        ∧ (∀ d, s.drawing (l / 4) = some d → x.blocks.length = ceilDiv (40 * s.par clsSTN (l / 4) 0x003) 64
          ∧ ∃ blank, x.head = some (ctlBlock 0x4b (toLE 2 (s.link l).seq ++ toLE 2 (s.par clsSTN (l / 4) 0x003)
              ++ toLE 1 blank ++ toLE 1 0)))))

/-- When a mapper starts the line of a sealed sheet on an UP link while the station's output is on and no memory error is met, the line's data blocks pack one 40-bit word for each active pixel. In the word of pixel x, the five bits of a beam that draws a line of the image are its pulse value at x, if every line that it reads in this scan stands in the swath and its own line has not been blanked. That a line is held as its data blocks, before coding and scrambling, is the model's choice (assumption 5). -/
def Obligations.ALineCarriesThePulseValuesOfItsBeams : Prop :=
  ∀ (s : State) (l : Idx) (q : Int) (d : Drawing), At s inEvents → (s.station (l / 4)).lineQ = some q → l < 32 →
    s.inService clsVL l = true → s.scanOn (l / 4) = true → (s.link l).lineDue = true → s.tempo = (s.lineAt l q).start →
    s.video.blanked = false → (s.link l).heldAt (s.lineAt l q).frame = false → (s.link l).state = .up →
    s.drawing (l / 4) = some d → (s.station (l / 4)).outOn = true →
    ∃ t y ws, exec (.mapperStart l .none) s = .next t ∧ (t.link l).line = some y ∧ y.blocks = dataBlocks ws
      ∧ ws.length = s.par clsSTN (l / 4) 0x003
      ∧ (∀ x f i, x < ws.length → f < 8 → s.ownLine (l / 4) (8 * (l % 4) + f) d.scan = some i → 0 ≤ i → i < d.lines →
        (∀ j, j ∈ s.linesRead (l / 4) (8 * (l % 4) + f) i d.lines → s.swLine (l / 4) (d.q0 + j) ≠ none) →
        s.swLine (l / 4) (d.q0 + i.toNat) ≠ some [] →
        field (ws.getD x 0) (5 * f) 5 = s.pixValue (l / 4) (8 * (l % 4) + f) i d.lines d.q0 x)

/-- On an in-service link a packet with a wrong CRC is counted and has no other effect. A valid one refreshes the link, and: STATUS keeps its fields, takes an UP link that has lost block lock to FAULTED with 0x0612, and lets a link in training go on to the management reads; MON becomes the newest of the beam's four samples, with 0x0631 for one at the upper code outside its window; LINE_LOST counts its files; MGMT_RSP of word 0 gives the driver's version, which passes or fails step 5 of training, and of word 1 a round trip, the sixteenth of which decides step 6; EMITTER_FAULT latches 0x0630 on every beam named. No packet for 32,000 tempo on an UP link makes it FAULTED with 0x0613. BEAM_MONITOR answers the four samples of a beam. That packets come as rows with what they carry, and how training waits for them, is the model's (assumptions 1 and 29). -/
def Obligations.TheBackchannelReportsItsDriver : Prop :=
  (∀ (s : State) (l : Idx) (p : Bytes), At s inCapture → l < 32 → s.inService clsVL l = true →
    (p.length ≠ 8 ∨ crc8 (p.take 7) ≠ leAt p 7 1 → ∀ c ∈ [Instr.bcStatus l p, .bcMon l p, .bcLineLost l p, .bcMgmtRsp l p,
      .bcEmitterFault l p], exec c s = .next (s.updLink l (fun x => { x with bcErr := satAdd 32 x.bcErr 1 })))
    ∧ (p.length = 8 → crc8 (p.take 7) = leAt p 7 1 →
      (leAt p 0 1 = 1 → ∃ t, exec (.bcStatus l p) s = .next t ∧ (t.link l).status = bytesAt p 1 6 ∧ (t.link l).ctlErr = leAt p 4 1
        ∧ (t.link l).lastPkt = s.tempo
        ∧ ((s.link l).state = .up → bit (leAt p 1 1) 0 = false → (t.link l).state = .faulted ∧ t.latched 0x0612 (obj clsVL l) = true)
        ∧ ((s.link l).state = .up → bit (leAt p 1 1) 0 = true → (t.link l).state = .up)
        ∧ (∀ r, (s.link l).state = .training → (s.link l).train = some r → s.trainAt l 3 = true ∨ s.trainAt l 4 = true →
          (bit (leAt p 1 1) 0 = true → (t.link l).train = some { r with step := 5, since := s.tempo }
            ∧ (t.link l).slot0 = (s.link l).slot0 ++ [ctlBlock 0x87 [1, 0, 0]])
          ∧ (bit (leAt p 1 1) 0 = false → ∃ r', (t.link l).train = some r' ∧ r'.step = 4 ∧ (t.link l).slot0 = (s.link l).slot0)))
      ∧ (∀ b, leAt p 0 1 = 2 → b = 8 * l + leAt p 1 1 % 8 → s.inService clsBEAM b = true → ∃ t e, exec (.bcMon l p) s = .next t
        ∧ (t.beam b).samples = (e :: (s.beam b).samples).take 4 ∧ e.code = leAt p 2 1 % 32 ∧ e.power = leAt p 3 2 % 4096
        ∧ e.tempo = s.edgeTempo (l / 4) (leAt p 5 2)
        ∧ (e.code = s.par clsSTN (l / 4) 0x095 → e.power < field (s.par clsBEAM b 0x003) 0 12 ∨
            field (s.par clsBEAM b 0x003) 16 12 < e.power → Raised t 0x0631 (obj clsBEAM b) [obj clsBEAM b, e.code, e.power]))
      ∧ (leAt p 0 1 = 3 → ∃ t, exec (.bcLineLost l p) s = .next t
        ∧ (t.link l).linesLost = satAdd 32 (s.link l).linesLost ((List.range 8).filter (fun f => bit (leAt p 3 1) f)).length
        ∧ (t.link l).state = (s.link l).state ∧ t.faults = s.faults)
      ∧ (leAt p 0 1 = 4 → ∃ t, exec (.bcMgmtRsp l p) s = .next t ∧ (t.link l).state = (s.link l).state ∧ t.faults = s.faults
        ∧ (leAt p 1 2 = 0 → (t.link l).drv = leAt p 3 3
          ∧ (∀ r, (s.link l).train = some r → s.trainAt l 5 = true →
            (Config.drvMajor (leAt p 3 3) = 1 → (t.link l).train = some { r with step := 6, since := s.tempo }
              ∧ (t.link l).slot0 = (s.link l).slot0 ++ [ctlBlock 0x87 [1, 1, 0]])
            ∧ (Config.drvMajor (leAt p 3 3) ≠ 1 → (t.link l).train = some { r with fail := 4 } ∧ (t.link l).slot0 = (s.link l).slot0)))
        ∧ (∀ r n, leAt p 1 2 = 1 → (s.link l).train = some r → s.trainAt l 6 = true → n = max r.rtt (s.tempo - r.sentAt.getD s.tempo) →
          (t.link l).drv = (s.link l).drv
          ∧ (r.reads < 15 → (t.link l).train = some { r with rtt := n, reads := r.reads + 1 }
            ∧ (t.link l).slot0 = (s.link l).slot0 ++ [ctlBlock 0x87 [1, 1, 0]])
          ∧ (15 ≤ r.reads → n ≤ 400 → (t.link l).train = some { r with rtt := n, reads := r.reads + 1, step := 7, since := s.tempo }
            ∧ (s.par clsSTN (l / 4) (0x06c + l % 4) = 1 → (t.link l).pxWait = true))
          ∧ (15 ≤ r.reads → 400 < n → (t.link l).train = some { r with rtt := n, reads := r.reads + 1, fail := 5 })))
      ∧ (leAt p 0 1 = 5 → ∃ t, exec (.bcEmitterFault l p) s = .next t ∧ (t.link l).lastPkt = s.tempo
        ∧ (∀ f, f < 8 → bit (leAt p 1 1) f = true → s.objHere (obj clsBEAM (8 * l + f)) = true →
          t.latched 0x0630 (obj clsBEAM (8 * l + f)) = true))))
  ∧ (∀ (s : State) (l : Idx), At s inTimeouts → l < 32 → s.objHere (obj clsVL l) = true → (s.link l).state = .up →
    (s.link l).lastPkt + 32000 ≤ s.tempo →
    ∃ t, exec (.backchannelLost l) s = .next t ∧ (t.link l).state = .faulted ∧ t.latched 0x0613 (obj clsVL l) = true
      ∧ (∀ k, k ≠ l → t.link k = s.link k))
  ∧ (∀ (m : Msg) (s : State), Takes 0x0720 m 0 0xffffffff00000000 s →
    s.md.mode ∈ [Mode.standby, .warmUp, .ready, .print, .runOut] → Names (m.argN 8 4) [clsBEAM] s →
    exec (.beamMonitor m) s = .next (s.ok (s.replyOf 0x0720 m) ((List.range 4).flatMap (fun i =>
      match (s.beam (aIdx (m.argN 8 4))).samples[i]? with
      | some e => toLE 8 e.tempo ++ toLE 2 e.code ++ toLE 2 e.power ++ toLE 4 0
      | none => toLE 16 0))))

/-- When an interlock input goes open while both were closed, every Beam Link is blanked, every PX output stops, nothing of slot 0, of a marker or of a line remains, the slots of a frame under way that have not begun carry BLANK_ALL, a training run under way is marked, the opening is counted with its tempo, OPEN_SEEN is 1, 0x0601 is raised with the input mask, and every station that a sealed sheet images on is spoiled. Inputs that close leave the blanking. Once both have been low for 500,000 tempo, blanking is released and 0x0602 is raised, and PX of every UP link whose output is enabled waits for its EDGE_SYNC; no link changes its state. That ILK_OPEN carries the levels held, and that ILK_RELEASE itself ends blanking, is the model's reading (assumption 30). -/
def Obligations.TheLaserInterlockBlanksAndReleases : Prop :=
  ∀ s : State, s.objHere objDEV = true →
    (∀ a b : Bool, At s inProtect → (a || b) = true → s.video.ilkA = false → s.video.ilkB = false → ∃ t, exec (.ilkOpen a b) s = .next t
      ∧ t.video.blanked = true ∧ t.video.openSeen = true ∧ t.video.ilkA = a ∧ t.video.ilkB = b ∧ t.video.ilkSince = s.tempo
      ∧ t.video.ilkCount = satAdd 32 s.video.ilkCount 1 ∧ t.video.ilkLast = s.tempo
      ∧ (∀ l, l < 32 → (t.link l).pxOn = false ∧ (t.link l).pxWait = false ∧ (t.link l).slot0 = [] ∧ (t.link l).marker = none
        ∧ (t.link l).line = none ∧ (∀ r, (s.link l).train = some r → (t.link l).train = some { r with ilk := true })
        ∧ (∀ f k, (s.link l).frameAt = some f → k = ceilDiv (5 * (s.tempo - f)) 16 → k < 20 → s.serialised l = true →
          .frame l k (List.replicate (20 - k) (.ctl blkBLANK)) ∈ t.out))
      ∧ Raised t 0x0601 objDEV [b2n a + 2 * b2n b, s.tempo]
      ∧ (∀ k n, (s.ticket k).state = 3 ∨ (s.ticket k).state = 4 → n ∈ (s.ticket k).imaging → bit (t.ticket k).spoil n = true))
    ∧ (At s inProtect → s.video.blanked = true → ∃ t, exec (.ilkOpen false false) s = .next t ∧ t.video.blanked = true
      ∧ t.video.ilkA = false ∧ t.video.ilkB = false ∧ t.video.ilkCount = s.video.ilkCount ∧ t.video.links = s.video.links
      ∧ ((s.video.ilkA = true ∨ s.video.ilkB = true) → t.video.ilkSince = s.tempo))
    ∧ (At s inTimeouts → s.video.blanked = true → s.video.ilkA = false → s.video.ilkB = false →
      s.video.ilkSince + 500000 ≤ s.tempo →
      ∃ t, exec .ilkRelease s = .next t ∧ t.video.blanked = false ∧ t.video.relAt = s.tempo ∧ Raised t 0x0602 objDEV [s.tempo]
        ∧ (∀ l, (t.link l).state = (s.link l).state) ∧ (∀ l, l < 32 → (s.link l).state = .up → s.tripped = false →
          (t.link l).pxHold = true ∧ (s.par clsSTN (l / 4) (0x06c + l % 4) = 1 → (t.link l).pxWait = true))
        ∧ t.video.ilkCount = s.video.ilkCount)

/-- With one interlock input high and the other low for more than 2,500,000 tempo, ILK_DISAGREE latches 0x0603 on DEV; it changes nothing of the interlock or of the blanking, and does nothing after 2,500,000 tempo or less, or while the fault is latched already. A latched 0x0603 is cleared by FAULT_CLEAR while both inputs agree, as the tempo's phase 3 left them, and refused with FAULT_LATCHED while they do not. -/
def Obligations.AnInterlockThatDisagreesLatches0x0603 : Prop :=
  (∀ s : State, At s inTimeouts → s.objHere objDEV = true →
    (s.video.ilkA ≠ s.video.ilkB → s.latched 0x0603 objDEV = false → s.video.ilkSince + 2500000 < s.tempo → ∃ t, exec .ilkDisagree s = .next t
      ∧ t.latched 0x0603 objDEV = true ∧ t.video = s.video ∧ t.md = s.md ∧ t.params = s.params ∧ t.mems = s.mems)
    ∧ (s.video.ilkA = s.video.ilkB ∨ s.tempo ≤ s.video.ilkSince + 2500000 ∨ s.latched 0x0603 objDEV = true →
      exec .ilkDisagree s = .next s))
  ∧ (∀ (m : Msg) (s : State), Takes 0x0031 m 0 0xffff0000 s → m.argN 8 2 = 0x0603 → m.argN 12 4 = objDEV → s.objHere objDEV = true →
    s.latched 0x0603 objDEV = true →
    (s.judged.video.ilkA = s.judged.video.ilkB → ∃ t, exec (.faultClear m) s = .next t ∧ t.latched 0x0603 objDEV = false ∧ t.video = s.video)
    ∧ (s.judged.video.ilkA ≠ s.judged.video.ilkB →
      exec (.faultClear m) s = .next (s.post (s.replyOf 0x0031 m) stFAULT_LATCHED) ∧
      (s.post (s.replyOf 0x0031 m) stFAULT_LATCHED).latched 0x0603 objDEV = true))

/-- When an enabled, started master encoder captures a change of one of A and B, in the tempo 3 + me.filter after its edge at the ball, the count is +1 or -1, and a gearing unit that follows it without a pending switch takes N times the count into its remainder: S grows by the quotient by D rounded towards minus infinity while it stays in 64 bits, and the new remainder is what is left, from 0 to D - 1. A gearing unit of another master, or of none, without a pending switch takes no part. -/
def Obligations.GearedSlavesFollowTheirMasterExactly : Prop :=
  ∀ (s : State) (me : Idx) (a b : Bool) (edge : Tempo), At s inCapture → me < 8 → s.par clsME me 0x000 = 1 →
    edge + 3 + s.par clsME me 0x002 = s.tempo → (s.enc me).started = true →
    (s.enc me).a ≠ a ∧ (s.enc me).b = b ∨ (s.enc me).a = a ∧ (s.enc me).b ≠ b →
    ∃ (t : State) (delta : Int), exec (.meCountCapture me ⟨a, b⟩ edge) s = .next t ∧ (delta = 1 ∨ delta = -1)
      ∧ (-(2 ^ 63) ≤ (s.enc me).pos + delta → (s.enc me).pos + delta < 2 ^ 63 → (t.enc me).pos = (s.enc me).pos + delta)
      ∧ (∀ (o : Nat) (acc q : Int), (s.gear o).master = me + 1 → 0 < (s.gear o).d → (s.gear o).pend = none →
        acc = (s.gear o).r + (s.gear o).n * delta → q = Int.fdiv acc (s.gear o).d →
        (-(2 ^ 63) ≤ (s.gear o).s + q → (s.gear o).s + q < 2 ^ 63 → (t.gear o).s = (s.gear o).s + q)
        ∧ ((t.gear o).r : Int) = acc - q * (s.gear o).d ∧ (t.gear o).r < (s.gear o).d
        ∧ (t.gear o).master = me + 1 ∧ (t.gear o).n = (s.gear o).n ∧ (t.gear o).d = (s.gear o).d)
      ∧ (∀ o : Nat, (s.gear o).master ≠ me + 1 → (s.gear o).pend = none → t.gear o = s.gear o)

/-- An index edge of an enabled encoder with its index in use, captured 3 + me.filter tempo after its edge at the ball, completes: it stores position and tempo and leaves the position and the gears alone; in mode 2 counts since the last index edge that differ from the period by more than the tolerance raise 0x0312 and latch nothing. An encoder that is off, an index in mode 0 and an edge whose tempo of capture this is not do nothing. The first accepted levels of A and B are its starting state. A change of both leaves the position and counts as an error, and more errors than me.err_limit within 1,000,000 tempo latch 0x0311. A count that brings a slave's master to its switch position gears that count with the ratio in force and then puts the pending ratio in force, with 0x0320. That an encoder takes its first levels without counting is the model's reading (assumption 24). -/
def Obligations.MasterEncodersCountAndKeepTheirIndex : Prop :=
  (∀ (s : State) (me : Idx) (edge : Tempo), At s inCapture → me < 8 → s.par clsME me 0x000 = 1 → s.par clsME me 0x004 ≠ 0 →
    edge + 3 + s.par clsME me 0x002 = s.tempo →
    ∃ t, exec (.meIndexEdge ⟨me, edge⟩) s = .next t
      ∧ t.enc me = { s.enc me with idxPos := (s.enc me).pos, idxTempo := s.tempo, idxSeen := true, idxRun := 0 }
      ∧ t.clk.gears = s.clk.gears ∧ t.faults = s.faults ∧ (∀ k, k ≠ me → t.enc k = s.enc k)
      ∧ (s.par clsME me 0x004 ≠ 2 ∨ (s.enc me).idxSeen = false ∨
          (((s.enc me).idxRun.natAbs : Int) - (s.par clsME me 0x005 : Int)).natAbs ≤ s.par clsME me 0x006 → t.host = s.host)
      ∧ (s.par clsME me 0x004 = 2 → (s.enc me).idxSeen = true → s.objHere (obj clsME me) = true →
          s.par clsME me 0x006 < (((s.enc me).idxRun.natAbs : Int) - (s.par clsME me 0x005 : Int)).natAbs →
          Raised t 0x0312 (obj clsME me) [obj clsME me, (s.enc me).idxRun.natAbs]))
  ∧ (∀ (s : State) (me : Idx) (edge : Tempo), At s inCapture →
    (s.par clsME me 0x000 ≠ 1 ∨ s.par clsME me 0x004 = 0 ∨ edge + 3 + s.par clsME me 0x002 ≠ s.tempo →
      exec (.meIndexEdge ⟨me, edge⟩) s = .next s)
    ∧ (∀ a b, s.par clsME me 0x000 ≠ 1 ∨ edge + 3 + s.par clsME me 0x002 ≠ s.tempo →
      exec (.meCountCapture me ⟨a, b⟩ edge) s = .next s))
  ∧ (∀ (s : State) (me : Idx) (edge : Tempo) (a b : Bool), At s inCapture → me < 8 → s.par clsME me 0x000 = 1 →
    edge + 3 + s.par clsME me 0x002 = s.tempo →
    ((s.enc me).started = false →
      exec (.meCountCapture me ⟨a, b⟩ edge) s = .next (s.setEnc me { s.enc me with started := true, a := a, b := b }))
    ∧ ((s.enc me).started = true → (s.enc me).a ≠ a → (s.enc me).b ≠ b → s.objHere (obj clsME me) = true →
      ∃ t, exec (.meCountCapture me ⟨a, b⟩ edge) s = .next t ∧ (t.enc me).pos = (s.enc me).pos
        ∧ (t.enc me).errCount = satAdd 32 (s.enc me).errCount 1 ∧ t.clk.gears = s.clk.gears
        ∧ (s.par clsME me 0x003 < ((s.enc me).errs.filter (fun x => decide (s.tempo < x + 1000000))).length + 1 →
          t.latched 0x0311 (obj clsME me) = true))
    ∧ (∀ o p, (s.enc me).started = true → (s.enc me).a ≠ a ∧ (s.enc me).b = b ∨ (s.enc me).a = a ∧ (s.enc me).b ≠ b →
      (s.gear o).master = me + 1 → (s.gear o).d ≠ 0 → (s.gear o).pend = some p → p.master = me + 1 →
      p.p + 1 ≤ (s.enc me).pos → (s.enc me).pos + 1 < 2 ^ 63 → -(2 ^ 63) < (s.enc me).pos → s.objHere o = true →
      ∃ t x, exec (.meCountCapture me ⟨a, b⟩ edge) s = .next t ∧ (t.gear o).master = me + 1 ∧ (t.gear o).n = p.n ∧ (t.gear o).d = p.d
        ∧ (t.gear o).pend = none ∧ Raised t 0x0320 o [o, i64 p.p, x]))

/-- A leader with a press description drives a frame at every multiple of 2^20 tempo. A follower that gets a valid frame while it may load, and whose capture differs from the expected tempo, sets its counter to the leader's and raises 0x0307; otherwise its counter goes on, and after a load a difference of more than one tempo latches 0x0306, while a smaller one agrees. Three frame periods without a valid frame latch 0x0305. A frame with a wrong CRC has no effect. When a follower may load, and that 0x0306 needs a load before, is read as assumption 25 says. -/
def Obligations.TsyncKeepsACascadeTogether : Prop :=
  ∀ s : State, s.running = true →
    (s.par clsDEV 0 0x010 = 1 → s.md.pressOk = true → s.tempo % 2 ^ 20 = 0 →
      exec .tsyncFrameSend s = .next (s.emit (.tsync (tsyncCells s.tempo))))
    ∧ (∀ (e mk : Nat) (c : Byte) (want : Nat), At s inCapture → s.par clsDEV 0 0x010 = 2 → e ≤ s.tempo →
      want = mk % 2 ^ 44 * 2 ^ 20 + s.par clsDEV 0 0x011 →
      (crc8Bits (bitsMSB 44 mk) ≠ c.toNat → exec (.tsyncFrameReceive e mk c) s = .next s)
      ∧ (crc8Bits (bitsMSB 44 mk) = c.toNat → s.objHere objDEV = true →
        (s.mayLoad = true → e ≠ want → ∃ t, exec (.tsyncFrameReceive e mk c) s = .next t
          ∧ t.tempo = (want + (s.tempo - e)) % 2 ^ 64 ∧ t.follower = true ∧ t.clk.tsLoaded = true
          ∧ Raised t 0x0307 objDEV [s.tempo, t.tempo])
        ∧ (s.mayLoad = false → s.clk.tsLoaded = true → 1 < ((e : Int) - want).natAbs →
          ∃ t, exec (.tsyncFrameReceive e mk c) s = .next t ∧ t.tempo = s.tempo ∧ t.latched 0x0306 objDEV = true
            ∧ t.clk.tsAgrees = false)
        ∧ ((s.mayLoad = false ∨ e = want) → ((e : Int) - want).natAbs ≤ 1 → exec (.tsyncFrameReceive e mk c) s =
          .next { s with clk := { s.clk with tsLast := s.tempo, tsAgrees := true, tsLost := false } })))
    ∧ (At s inTimeouts → s.par clsDEV 0 0x010 = 2 → s.clk.tsLoaded = true → s.clk.tsLost = false →
      s.clk.tsLast + 3 * 2 ^ 20 ≤ s.tempo →
      s.objHere objDEV = true → ∃ t, exec .tsyncLost s = .next t ∧ t.clk.tsLost = true ∧ t.tempo = s.tempo
        ∧ t.latched 0x0305 objDEV = true)

/-- A requested clock that is off starts in SEARCH, or recalls its band slot when that is valid; one that runs goes on. A band found leads to ACQUIRE. A window that has not come to its end is not judged; one that has is compared with the ratio in force summed over its reference periods. The fourth window in tolerance in a row locks, with 0x0301; the second out of it in a row makes a PLL coast, with 0x0302. A coasting PLL returns to ACQUIRE after one window, or after four when its reference was lost. A lost reference makes a locked PLL coast, with 0x0303, makes one that coasts begin its count of windows afresh, and latches 0x0303 on DEV for the SPLL. Once in 1,048,576 tempo a locked PLL whose temperature has moved by 4 degC steps its trim against the drift; less leaves it. That CLOCK_START of a running unit changes nothing, and the band and the count of a window as operands, are the model's choices (assumption 23). -/
def Obligations.PllsSearchLockAndCoast : Prop :=
  (∀ (s : State) (n : Nat), s.md.boot = .running → s.md.mode ≠ .dormant →
    ((s.pll 2).state ≠ .off → exec (.clockStart .dpll) s = .next s)
    ∧ ((s.pll 2).state = .off → ∃ t, exec (.clockStart .dpll) s = .next t ∧ (t.pll 2).state = .search)
    ∧ (n < 2 → s.md.mode ≠ .configure → (s.pll (3 + n)).state = .off →
      ∃ t, exec (.clockStart (.blpll n)) s = .next t ∧ (t.pll (3 + n)).state = .search)
    ∧ (n < 8 → s.inService clsSTN n = true → (s.station n).enabled = true → (s.pll (8 + n)).state = .off →
      (∀ k, s.par clsSTN n 0x078 = k → 8 ≤ k ∨ bit (s.slotField n k 0 1) 0 = false →
        ∃ t, exec (.clockStart (.vpll n)) s = .next t ∧ (t.pll (8 + n)).state = .search)
      ∧ (∀ k, s.par clsSTN n 0x078 = k → k < 8 → bit (s.slotField n k 0 1) 0 = true → ∃ t, exec (.clockStart (.vpll n)) s = .next t
        ∧ (t.pll (8 + n)).state = .acquire ∧ (t.pll (8 + n)).band = s.slotField n k 1 1 ∧ (t.pll (8 + n)).recallSlot = some k)))
  ∧ (∀ (s : State) (p : Nat), s.pllHere p = true → s.md.mode ≠ .dormant → s.objHere objDEV = true →
    (∀ b, (s.pll p).state = .search → ∃ t, exec (.pllBandFound p b) s = .next t ∧ (t.pll p).state = .acquire
      ∧ (t.pll p).band = b % 64 ∧ (t.pll p).inTol = 0 ∧ ∀ k, k ≠ p → t.pll k = s.pll k)
    ∧ (∀ c x : Nat, s.running = true → s.tempo < (s.pll p).winAt + s.pllWinLen p ∨ x ≠ s.pllExpected p / 2 ^ 32 →
      exec (.pllLockWindow p c x) s = .next s)
    ∧ (∀ (c e n : Nat) (ok : Bool), s.running = true → (s.pll p).winAt + s.pllWinLen p ≤ s.tempo → e = s.pllExpected p →
      n = ((c * 2 ^ 32 : Nat) - (e : Int)).natAbs → ok = decide (n ≤ 2 * 2 ^ 32 ∨ n * 1000000 ≤ e * s.pllTol p) →
      ((s.pll p).state = .acquire → ok = true → (s.pll p).inTol = 3 → ∃ t, exec (.pllLockWindow p c (e / 2 ^ 32)) s = .next t
        ∧ (t.pll p).state = .locked ∧ (t.pll p).everLocked = true ∧ Raised t 0x0301 objDEV [p, 3])
      ∧ ((s.pll p).state = .locked → ok = true → (s.pll p).recallSlot = none → ∃ t, exec (.pllLockWindow p c (e / 2 ^ 32)) s = .next t
        ∧ (t.pll p).state = .locked ∧ (t.pll p).outTol = 0)
      ∧ ((s.pll p).state = .locked → ok = false → (s.pll p).outTol = 1 → (s.pll p).recallSlot = none →
        ∃ t, exec (.pllLockWindow p c (e / 2 ^ 32)) s = .next t ∧ (t.pll p).state = .coasting ∧ (t.pll p).refLost = false
          ∧ Raised t 0x0302 objDEV [p, c, e / 2 ^ 32])
      ∧ ((s.pll p).state = .coasting → (s.pll p).recallSlot = none → ∃ t, exec (.pllLockWindow p c (e / 2 ^ 32)) s = .next t
        ∧ (t.pll p).state = if (if (s.pll p).refLost then 4 else 1) ≤ (s.pll p).coastWin + 1 then .acquire else .coasting))
    ∧ (At s inEvents → (s.pll p).state = .locked → ∃ t, exec (.pllRefLost p) s = .next t ∧ (t.pll p).state = .coasting ∧ (t.pll p).refLost = true
      ∧ (t.pll p).frozen = (s.pll p).tune ∧ Raised t 0x0303 objDEV [p] ∧ (p = 0 → t.latched 0x0303 objDEV = true))
    ∧ (At s inEvents → (s.pll p).state = .coasting → ∃ t, exec (.pllRefLost p) s = .next t ∧ (t.pll p).state = .coasting
      ∧ (t.pll p).refLost = true ∧ (t.pll p).coastWin = 0 ∧ (t.pll p).winAt = s.tempo ∧ (p = 0 → t.latched 0x0303 objDEV = true))
    ∧ (∀ x, s.running = true → (s.pll p).state = .locked → (s.sensor (pllSensor p)).suspect = false → (s.sensor (pllSensor p)).temp = x →
      ((s.pll p).readAt.any (fun r => decide (s.tempo < r + 1048576)) = true → exec (.pllTempCorrection p) s = .next s)
      ∧ ((s.pll p).readAt.all (fun r => decide (r + 1048576 ≤ s.tempo)) = true →
        ∃ t, exec (.pllTempCorrection p) s = .next t ∧ (t.pll p).readAt = some s.tempo ∧ (t.pll p).state = .locked
          ∧ (32 ≤ (x - (s.pll p).corrTemp).natAbs → (t.pll p).corrTemp = x
            ∧ (t.pll p).trim = if (s.pll p).corrTemp < x then (s.pll p).trim - 1 else (s.pll p).trim + 1)
          ∧ ((x - (s.pll p).corrTemp).natAbs < 32 → (t.pll p).corrTemp = (s.pll p).corrTemp ∧ (t.pll p).trim = (s.pll p).trim))))

/-- SPI_XFER of 1 to 936 bytes to a chip select that carries no zone sensor, and I2C_XFER to a target that firmware does not use while its controller is free of a power-down, join their controller's queue and hold back their ring; one that finds nothing to do on its controller starts at once, but an I2C transfer waits while the power-down sequencer has a read to make there. When the transfer that runs ends it is answered, with the bytes read as long as it asked for, with BUS_NACK and the failing byte, or with TIMEOUT, and what waits goes on. Which targets answer WRONG_STATE is the model's choice (assumption 11). -/
def Obligations.SpiAndI2cTransfersQueueRunAndAnswer : Prop :=
  (∀ (m : Msg) (s : State) (c cs md : Nat), Takes 0x0900 m m.payload.length 0xffffffffff000000 s → 1 ≤ m.payload.length →
    m.payload.length ≤ 936 → c = m.argN 8 1 → cs = m.argN 9 1 → md = m.argN 10 1 → c ≤ 3 → cs ≤ 3 → md ≤ 3 → s.spiTaken c cs = false →
    ∃ t, exec (.spiXfer m) s = .next t
      ∧ t.spiQueue c = s.spiQueue c ++ [.xfer { reply := s.replyOf 0x0900 m, target := cs, mode := md, tx := m.payload
                                                rxLen := m.payload.length }]
      ∧ t.out = s.out ++ (if s.spiQueue c = [] then [.spi c cs md m.payload] else [])
      ∧ t.host = (s.hold 0x0900 m).host)
  ∧ (∀ (m : Msg) (s : State) (c a n : Nat) (x : Xfer), Takes 0x0910 m (m.argN 10 2) 0xffff000000000000 s → c = m.argN 8 1 →
    a = m.argN 9 1 → n = m.argN 12 2 → c ≤ 3 → a ≤ 127 → n ≤ 936 → s.i2cBusy c = false → s.i2cTaken c a = false →
    x = { reply := s.replyOf 0x0910 m, target := a, mode := 0, tx := m.payload, rxLen := n } →
    (s.i2cQueue c = [] → s.seqWaits c = false → ∃ t, exec (.i2cXfer m) s = .next t
      ∧ t.i2cQueue c = [{ x with on := true }] ∧ t.out = s.out ++ [.i2c c a m.payload n] ∧ t.host = (s.hold 0x0910 m).host)
    ∧ (s.seqWaits c = true ∨ (∃ y q, s.i2cQueue c = y :: q ∧ y.on = true) → ∃ t, exec (.i2cXfer m) s = .next t
      ∧ t.i2cQueue c = s.i2cQueue c ++ [x] ∧ t.out = s.out ∧ t.host = (s.hold 0x0910 m).host))
  ∧ (∀ (s : State) (c : Idx) (x : Xfer),
    (∀ rx rest, s.spiQueue c = .xfer x :: rest → ∃ t : State,
      exec (.spiTransferDone c rx) s = .next (t.ok x.reply (bytesAt rx 0 x.rxLen)) ∧ t.spiQueue c = rest ∧ t.host = s.host
        ∧ (∀ y ys, rest = .xfer y :: ys → t.out = s.out ++ [.spi c y.target y.mode y.tx]))
    ∧ (∀ rest, s.i2cQueue c = x :: rest → x.on = true →
      (∀ rx, exec (.i2cTransferDone c (.ok rx)) s = .next (((s.putI2c c rest).ok x.reply (bytesAt rx 0 x.rxLen)).i2cGo c))
      ∧ (∀ b, b < 65536 → exec (.i2cTransferDone c (.nack b)) s = .next (((s.putI2c c rest).post x.reply stBUS_NACK b).i2cGo c))
      ∧ exec (.i2cTransferDone c .timeout) s = .next (((s.putI2c c rest).post x.reply stTIMEOUT).i2cGo c)))

/-- STATION_ENABLE of a station whose parameters pass every check, with its beam-detect beam in service and the interlock closed, starts its facet timing in SEEKING without memory of an earlier run and its VPLL at the held nominal ratio, with 0x0711 when st.reg.ok so becomes 1; an enabled station answers OK and stays. STATION_DISABLE turns facet timing OFF, takes the station's UP links to DOWN and stops their PX and its VPLL; with the last station of a half its BLPLL stops and the UP links of the half go DOWN too. PROMOTE lists a spare with its partner, or with its own address takes it off, and raises 0x0640. When clocks stop is the model's reading (assumption 23). -/
def Obligations.StationsAreEnabledDisabledAndPromoted : Prop :=
  ∀ (m : Msg) (s : State) (o n : Nat), o = m.argN 8 4 → n = aIdx o →
    (Names o [clsSTN] s → s.participates o = false →
      (Takes 0x0700 m 0 0xffffffff00000000 s → s.md.mode ∈ [Mode.standby, .warmUp, .ready] → s.inService clsBEAM (32 * n + s.par clsSTN n 0x008) = true → s.enableBad n = false →
        s.video.ilkA = false → s.video.ilkB = false →
        ((s.station n).enabled = true → exec (.stationEnable m) s = .next (s.ok (s.replyOf 0x0700 m)))
        ∧ ((s.station n).enabled = false → ∃ t, exec (.stationEnable m) s = .next t ∧ (t.station n).enabled = true
          ∧ (t.station n).sync = .seeking ∧ (t.station n).seek = true ∧ (t.station n).pred = none ∧ (t.station n).idxOk = false
          ∧ (t.station n).swath = (s.station n).swath ∧ (t.pll (8 + n)).ratio = s.holdRatio n (s.rNom n)
          ∧ ((s.station n).sync = .off → (s.gear o).master = 0 → o = obj clsSTN n → Raised t 0x0711 o [o])
          ∧ (∀ k, k ≠ n → t.station k = s.station k)))
      ∧ (Takes 0x0701 m 0 0xffffffff00000000 s → ∃ t, exec (.stationDisable m) s = .next t ∧ (t.station n).enabled = false ∧ (t.station n).sync = .off
        ∧ (t.pll (8 + n)).state = .off ∧ (∀ k, k ≠ n → t.station k = s.station k)
        ∧ (∀ r, r < 4 → (t.link (4 * n + r)).pxOn = false
          ∧ (t.link (4 * n + r)).state = if (s.link (4 * n + r)).state = .up then .down else (s.link (4 * n + r)).state)
        ∧ ((∃ k, k ≠ n ∧ k / 4 = n / 4 ∧ (s.station k).enabled = true) →
          t.pll (3 + n / 4) = s.pll (3 + n / 4) ∧ ∀ l, l / 4 ≠ n → t.link l = s.link l)
        ∧ ((∀ k, k ≠ n → k / 4 = n / 4 → (s.station k).enabled = false) → (s.pll (3 + n / 4)).state ≠ .off →
          (t.pll (3 + n / 4)).state = .off ∧ ∀ l, l / 16 = n / 4 → (t.link l).pxOn = false
            ∧ (t.link l).state = if (s.link l).state = .up then .down else (s.link l).state)
        ∧ (∀ l, l / 16 ≠ n / 4 → t.link l = s.link l)))
    ∧ (∀ b st, Takes 0x0111 m 0 0 s → s.md.mode ∈ modesCfSb → Names o [clsBEAM] s → b = m.argN 12 4 → Names b [clsBEAM] s → st = n / 32 →
      (s.station st).enabled = false →
      (o ≠ b → aIdx b = n + s.scanL st → n % 32 < s.spares st → s.role st (n % 32) = .spare → s.role st (aIdx b % 32) = .imaging →
        ∃ t, exec (.promote m) s = .next t ∧ t.promotions = s.promotions ++ [(n, aIdx b)]
          ∧ Raised t 0x0640 o [o, obj clsBEAM (aIdx b), 1])
      ∧ (o = b → s.role st (n % 32) = .promoted → ∃ t, exec (.promote m) s = .next t
        ∧ t.promotions = s.promotions.filter (fun e => e.1 != n) ∧ Raised t 0x0640 o [o, obj clsBEAM (n + s.scanL st), 0]))

/-- An edge of the station's polarity, captured in the first tempo that begins 3 + st.bd.min_width tempo after it and the first captured there, is accepted within the half window of the prediction: it ends the misses and decides its facet, the next one or facet 0 after an index edge. Outside the window it is stray: it is counted and changes nothing else of the station; any other edge is none. A window that closes without an edge decides the next facet by whole periods from the last accepted edge, counts a miss, and leaves a station that was LOCKED not LOCKED, with 0x0702. At the first OUT4 edge at or after the facet boundary the ratio decided takes effect on a VPLL that does not coast, the line start follows from that edge, every link of the station has a line to start, and the BD pulse of the coming window is sent. -/
def Obligations.BeamDetectDecidesEachFacet : Prop :=
  ∀ (s : State) (n : Idx), n < 8 → s.scanOn n = true →
    (∀ (raw : Nat) (p : Int) (e : Bool), At s inCapture → (s.station n).pred = some p → (s.station n).seek = false →
      (e ≠ (s.par clsSTN n 0x005 == 0) ∨ ceilDiv raw 64 + 3 + s.par clsSTN n 0x006 ≠ s.tempo ∨ (s.station n).bdAt = some s.tempo →
        exec (.bdEdgeCapture n ⟨e, raw⟩) s = .next s)
      ∧ (e = (s.par clsSTN n 0x005 == 0) → ceilDiv raw 64 + 3 + s.par clsSTN n 0x006 = s.tempo → (s.station n).bdAt ≠ some s.tempo →
        (((raw : Int) - p).natAbs ≤ s.halfWin n → ∃ t, exec (.bdEdgeCapture n ⟨e, raw⟩) s = .next t ∧ (t.station n).raw = raw
          ∧ (t.station n).bdAt = some s.tempo
          ∧ (t.station n).missed = 0 ∧ (t.station n).since = 0 ∧ (t.station n).decTempo = s.tempo ∧ (t.station n).boundary = true
          ∧ (t.station n).facet = if (s.station n).idxPend || (s.par clsSTN n 0x00f == 0 && !(s.station n).idxOk) then 0
              else ((s.station n).facet + 1) % s.facets n)
        ∧ (s.halfWin n < ((raw : Int) - p).natAbs → ∃ t, exec (.bdEdgeCapture n ⟨e, raw⟩) s = .next t
          ∧ t.station n = { s.station n with stray := satAdd 32 (s.station n).stray 1, bdAt := some s.tempo }
          ∧ t.drive = s.drive ∧ t.clk = s.clk)))
    ∧ (∀ p : Int, At s inTimeouts → (s.station n).pred = some p → s.missTempo n p ≤ s.tempo → s.objHere (obj clsSTN n) = true →
      ∃ t, exec (.bdWindowMiss n) s = .next t ∧ (t.station n).facet = ((s.station n).facet + 1) % s.facets n
        ∧ (t.station n).since = (s.station n).since + 1 ∧ (t.station n).decTempo = s.tempo ∧ (t.station n).boundary = true
        ∧ (t.station n).sync ≠ .locked
        ∧ (t.station n).bModel = some ((s.station n).bAcc.getD p + (((s.station n).since + 1) * s.facetPeriod n : Nat))
        ∧ ((s.station n).sync = .locked →
          Raised t 0x0702 (obj clsSTN n) [obj clsSTN n, ((s.station n).facet + 1) % s.facets n, i64 p]))
    ∧ (∀ (k r j : Nat) (time b : Int) (x : Tempo), At s inEvents → (s.station n).boundary = true → s.out4On n = true → k = s.boundaryEdge n →
      time = s.edgeTime n k → j = (s.pll (8 + n)).edgeN + k → (x : Int) = time / 2 ^ 38 → (s.station n).bModel = some b →
      r = (if (s.pll (8 + n)).state = .coasting then (s.pll (8 + n)).ratio else (s.station n).decRatio) →
      ((s.tempo + 1 : Nat) * 2 ^ 38 ≤ time → exec (.facetBoundary n j x) s = .next s)
      ∧ (time < (s.tempo + 1 : Nat) * 2 ^ 38 → ∃ t, exec (.facetBoundary n j x) s = .next t
        ∧ (t.station n).boundary = false ∧ (t.pll (8 + n)).ratio = r ∧ (t.pll (8 + n)).edgeN = (s.pll (8 + n)).edgeN + k
        ∧ (t.station n).lineQ = some ((64 * ((s.pll (8 + n)).edgeN + k) : Nat) - roundDivI ((time - b * 2 ^ 32) * r)
            (8 * 2 ^ 64 * max 1 (s.outDiv n)) + (s.station n).lineAdj)
        ∧ (∀ j, j < 4 → (t.link (4 * n + j)).lineDue = true ∧ (t.link (4 * n + j)).marker = none)
        ∧ (∀ p : Int, (s.station n).pred = some p → s.mayPulse n = true → (s.station n).seek = false →
          (s.link (s.bdLink n)).state = .up → s.par clsSTN n 0x008 < 32 → ∃ rest, (t.link (s.bdLink n)).slot0 = (s.link (s.bdLink n)).slot0
            ++ pulseBlock 0x2d (s.par clsSTN n 0x008 % 8) (s.par clsSTN n 0x009) (t.edgeAt n (p - s.halfWin n))
              (ceilDiv (2 * s.par clsSTN n 0x007 * r) (16 * (8 * max 1 (s.outDiv n) * 2 ^ 32))) :: rest)))

/-- A station without a prediction that may pulse on an UP link sends a seek pulse when the next one's edge can be no later than the frames in hand: its edge is the first of OUT4 at or after the last pulse by a facet period and half a width, and no sooner than its frame allows, and that edge and the width set are its lit window. On a link that is not UP nothing is sent. An index edge passed to the station makes the next accepted edge facet 0, unless the facets since the last one are as many as there are, when facet numbers stay; a wrong number of facets takes a LOCKED station to SEEKING with 0x0705. A GPIO edge of an enabled kind is captured with its tempo, OVERRUN when the last was not read, and a rising one is passed to the stations whose index it is. A tile's index word is taken, and the first one raises 0x0905. When the first seek pulse comes, and that a GPIO row stands for an accepted edge, is the model's (assumptions 24 and 31). -/
def Obligations.SeekPulsesAndIndexEdgesServeTheStation : Prop :=
  (∀ (s : State) (n : Idx) (l soonest next w : Nat), n < 8 → s.mayPulse n = true → ((s.station n).seek = true ∨ (s.station n).pred = none) →
    l = s.bdLink n → w = (s.pixTime n (64 * 16 * s.par clsSTN n 0x00c : Nat) (s.pll (8 + n)).ratio).toNat →
    soonest = 64 * (s.nextSlot0 l + 1024) →
    next = (match (s.station n).seekLit with
      | none => soonest
      | some (a, _) => a + s.seekPeriod n + w / 2) →
    ((s.link l).state = .up → next ≤ soonest + 64 * 64 → ∃ t a, exec (.seekPulse n) s = .next t
      ∧ (t.station n).seekLit = some (a, a + w) ∧ (0 < s.outDiv n → next ≤ a ∧ soonest ≤ a)
      ∧ (t.link l).slot0 = (s.link l).slot0 ++ [pulseBlock 0x2d (s.par clsSTN n 0x008 % 8) (s.par clsSTN n 0x009)
          (s.edgeAt n (max next soonest : Nat)) (s.par clsSTN n 0x00c)])
    ∧ ((s.link l).state ≠ .up ∨ soonest + 64 * 64 < next → exec (.seekPulse n) s = .next s))
  ∧ (∀ (s : State) (n : Idx), At s inCapture → n < 8 → s.scanOn n = true → (s.station n).idxArm = true → s.par clsSTN n 0x00f ≠ 0 →
    ((s.station n).idxSeen = false ∨ (s.station n).idxOk = false ∨ (s.station n).idxCount = s.facets n →
      exec (.facetIndexEdge n) s = .next (s.setStation n { s.station n with
        idxArm := false, idxSeen := true, idxPend := !(s.station n).idxOk, idxCount := 0 }))
    ∧ ((s.station n).idxSeen = true → (s.station n).idxOk = true → (s.station n).idxCount ≠ s.facets n →
      s.objHere (obj clsSTN n) = true → ∃ t, exec (.facetIndexEdge n) s = .next t ∧ (t.station n).idxOk = false
        ∧ (t.station n).idxPend = true ∧ Raised t 0x0705 (obj clsSTN n) [obj clsSTN n, (s.station n).idxCount]
        ∧ (t.station n).sync ≠ .locked))
  ∧ (∀ (s : State) (pin : Idx) (level : Bool), At s inCapture → pin < 32 → bit (s.par clsGPIO pin 0x000) (if level then 4 else 5) = true →
    ∃ t, exec (.gpioEdgeCapture pin level) s = .next t
      ∧ t.gpio pin = { capTempo := s.tempo - 3 - field (s.par clsGPIO pin 0x000) 8 8, level := level, unread := true
                       overrun := (s.gpio pin).overrun || (s.gpio pin).unread, captures := ((s.gpio pin).captures + 1) % 65536 }
      ∧ (∀ k, k ≠ pin → t.gpio k = s.gpio k)
      ∧ (∀ n, level = true → n < 8 → s.inService clsSTN n = true → s.par clsSTN n 0x00f = 2 → s.par clsSTN n 0x010 = pin →
        (t.station n).idxArm = true))
  ∧ (∀ (s : State) (k : Idx) (d : Nat), k < 64 → s.inService clsDT k = true → (s.tile k).word 4 = some d → bit d 5 = true →
    ∃ t x, exec (.slowIndex k) s = .next t ∧ (t.tile k).slowWord = none ∧ (t.tile k).indexSeen = true
      ∧ ((s.tile k).indexSeen = false → s.objHere (obj clsDT k) = true → Raised t 0x0905 (obj clsDT k) [obj clsDT k, x])
      ∧ ((s.tile k).indexSeen = true → t.faults = s.faults ∧ t.host = s.host))

/-- TILE_ENABLE of a tile or group that is fit takes every DISABLED tile at its bottom to ENABLING and no other. TILE_DISABLE takes them all to DISABLED with their outputs off, and their axis to IDLE at rest; a group is enabled and disabled with its tiles. A tile still ENABLING after 500,000 tempo is LATCHED with 0x0803. A bus takes the highest stage that its voltage reaches, with the event of the stage; in HARD every tile of it that is ENABLING or in RUN turns off in two steps and is latched with 0x0832. It falls by one stage when the voltage has stayed low for 500,000 tempo, and in HARD only with its tiles disabled. That a stage changes when a value arrives is the model's reading (assumption 33). -/
def Obligations.TilesAreEnabledDisabledAndHeldByTheirBus : Prop :=
  (∀ (m : Msg) (s : State) (o : Nat), o = m.argN 8 4 → Names o [clsDT, clsGRP] s →
    s.parent o = none → (s.span o).any s.participates = false →
    (Takes 0x0600 m 0 0xffffffff00000000 s → s.md.mode ∈ [Mode.warmUp, .ready, .print, .runOut] → s.anyFault o = false → s.groupFit o = true →
      (∀ k, k ∈ s.axisTiles o → (s.tile k).prot ≠ .latched ∧ s.tileFit k = true) →
      ∃ t, exec (.tileEnable m) s = .next t ∧ t.faults = s.faults ∧ t.md = s.md ∧ t.params = s.params
        ∧ (aCls o = clsGRP → (t.group (aIdx o)).enabled = true)
        ∧ (∀ k, (k ∉ s.axisTiles o ∨ (s.tile k).prot ≠ .disabled → t.tile k = s.tile k)
          ∧ (k ∈ s.axisTiles o → (s.tile k).prot = .disabled → (t.tile k).prot = .enabling ∧ (t.tile k).since = s.tempo
            ∧ (t.tile k).goodUv = 0 ∧ (t.tile k).outOn = (s.tMode k != 5 || (s.tile k).outOn))))
    ∧ (Takes 0x0601 m 0 0xffffffff00000000 s → ∃ t, exec (.tileDisable m) s = .next t ∧ t.faults = s.faults ∧ t.md = s.md ∧ t.params = s.params
      ∧ (aCls o = clsGRP → (t.group (aIdx o)).enabled = false)
      ∧ (∀ k, k ∈ s.axisTiles o → (t.tile k).prot = .disabled ∧ ((s.tile k).prot ≠ .disabled → (t.tile k).outOn = false))
      ∧ (∀ k, k ∉ s.axisTiles o → (t.tile k).prot = (s.tile k).prot ∧ (t.tile k).gates = (s.tile k).gates)
      ∧ ((s.axisTiles o).any (fun k => s.isMotor k) = true → (t.axis o).state = .idle ∧ (t.axis o).v = 0)))
  ∧ (∀ (s : State) (k : Idx), At s inTimeouts → k < 64 → s.objHere (obj clsDT k) = true → (s.tile k).prot = .enabling →
    (s.tile k).since + 500000 ≤ s.tempo → ∃ t, exec (.enablingTimeout k) s = .next t ∧ (t.tile k).prot = .latched
      ∧ t.latched 0x0803 (obj clsDT k) = true ∧ Raised t 0x0803 (obj clsDT k) [obj clsDT k, 1])
  ∧ (∀ (s : State) (k : Idx) (b vb stage : Nat), At s inProtect → k < 64 → s.inService clsDT k = true → s.busOf k = some b → s.sdEn k 3 = true →
    s.objHere objDEV = true → vb = s.vBus b →
    stage = (if s.busLimit b 4 ≤ vb then 3 else if s.busLimit b 3 ≤ vb then 2 else if s.busLimit b 2 ≤ vb then 1 else 0) →
    ∃ t, exec (.busVoltageUpdate k) s = .next t ∧ (t.bus b).vb = vb ∧ (t.bus b).stage = max (s.bus b).stage stage
      ∧ (∀ c, c ≠ b → t.bus c = s.bus c)
      ∧ ((s.bus b).stage < stage → stage < 3 → t.faults = s.faults ∧ Raised t (0x082f + stage) objDEV [b, vb])
      ∧ ((s.bus b).stage < 3 → stage = 3 → ∀ j, j ∈ s.busTiles b → t.latched 0x0832 (obj clsDT j) = true
        ∧ (s.canTurnOff j = true → (t.tile j).prot = .twoStep)))
  ∧ (∀ (s : State) (b : Idx) (w : Tempo), At s inEvents → b < 8 → 0 < (s.bus b).stage → (s.bus b).quiet = some w → w + 500000 ≤ s.tempo →
    s.objHere objDEV = true → ((s.bus b).stage = 3 → ∀ k, k ∈ s.busTiles b → (s.tile k).prot = .disabled) →
    ∃ t, exec (.busStageFall b) s = .next t ∧ t.bus b = { s.bus b with stage := (s.bus b).stage - 1, quiet := some s.tempo }
      ∧ ((s.bus b).stage = 1 → Raised t 0x0833 objDEV [b]))

/-- An off-confirm window that ends open closes; it latches 0x0804 and turns an ENABLING or RUN tile off, while a tile already off for protection adds no reaction. A tile that has done both steps waits for a retry when its cause allows it and its retries are not used up, or LATCHES, with 0x0811 when they are. A tile whose wait has passed is released, with those of its group whose conditions hold too, once 16 frames without a flag have come; a flag in the very tempo in which that would be decided counts as a new fault; it LATCHES when a tile of its group has, and after a second wait without release. A FAULT word of a short turns a tile off, latches 0x0801 at once and posts its event with the word's fields; one of an endpoint fault turns it off with 0x0802. -/
def Obligations.TilesTurnOffInTwoStepsRetryAndLatch : Prop :=
  ∀ (s : State) (k : Idx), k < 64 → s.inService clsDT k = true → s.objHere (obj clsDT k) = true →
    (∀ (w : Idx) n e, At s inTimeouts → w < 6 → ((s.tile k).sw w).window = some (n, e) → e ≤ s.tempo → ∃ t, exec (.offokTimeout k w) s = .next t
      ∧ ((t.tile k).sw w).window = none ∧ t.rails = s.rails
      ∧ ((s.tile k).prot ∈ [Prot.twoStep, .retryWait, .latched] → t.faults = s.faults ∧ (t.tile k).prot = (s.tile k).prot)
      ∧ ((s.tile k).prot ∈ [Prot.disabled, .enabling, .run] → t.latched 0x0804 (obj clsDT k) = true
        ∧ Raised t 0x0804 (obj clsDT k) [obj clsDT k, w]
        ∧ (t.tile k).prot = if (s.tile k).prot = .disabled then .disabled else .twoStep))
    ∧ (At s inTimeouts → (s.tile k).prot = .twoStep → (s.tile k).twoStepAt + s.softT k / 20 + 1 ≤ periodOf s.tempo →
      ∃ t, exec (.twoStepDone k) s = .next t ∧ (t.tile k).since = s.tempo
        ∧ ((s.tile k).lastCause = 0 ∨ ((s.tile k).retry = true ∧ ((s.tile k).recent s.tempo).length ≤ s.dt k 0x021) →
          (t.tile k).prot = .retryWait ∧ t.faults = s.faults)
        ∧ ((s.tile k).lastCause ≠ 0 → (s.tile k).retry = true → s.dt k 0x021 < ((s.tile k).recent s.tempo).length →
          (t.tile k).prot = .latched ∧ t.latched 0x0811 (obj clsDT k) = true
          ∧ Raised t 0x0811 (obj clsDT k) [obj clsDT k, ((s.tile k).recent s.tempo).length, (s.tile k).lastCause])
        ∧ ((s.tile k).lastCause ≠ 0 → (s.tile k).retry = false → (t.tile k).prot = .latched ∧ t.faults = s.faults))
    ∧ (At s inTimeouts → (s.tile k).prot = .retryWait → (s.tile k).released = false → s.waitPassed k = true →
      (s.nearRelease k = true → (s.tile k).spoilt = some s.tempo → ∃ t, exec (.retryWaitExpire k) s = .next t
        ∧ (t.tile k).faultAt = s.tempo
        ∧ (((s.tile k).recent s.tempo).length < s.dt k 0x021 → (t.tile k).prot = .retryWait ∧ t.faults = s.faults)
        ∧ (s.dt k 0x021 ≤ ((s.tile k).recent s.tempo).length →
          (t.tile k).prot = .latched ∧ t.latched 0x0811 (obj clsDT k) = true))
      ∧ ((s.nearRelease k = false ∨ (s.tile k).spoilt ≠ some s.tempo) →
        ((∃ j, j ∈ s.mates k ∧ (s.tile j).prot = .latched) →
          ∃ t, exec (.retryWaitExpire k) s = .next t ∧ (t.tile k).prot = .latched)
        ∧ ((∀ j, j ∈ s.mates k → (s.tile j).prot ≠ .latched) →
          (s.mayRelease k = true →
            ∃ t, exec (.retryWaitExpire k) s = .next t ∧ t.faults = s.faults ∧ t.host = s.host
              ∧ ∀ j, t.tile j = if j = k ∨ (j ∈ s.mates k ∧ s.mayRelease j = true)
                then { s.tile j with released := true, cmdQueue := (s.tile j).cmdQueue ++ [(1, 0)] } else s.tile j)
          ∧ (s.mayRelease k = false → exec (.retryWaitExpire k) s = .next s))))
    ∧ (At s inTimeouts → (s.tile k).prot = .retryWait → (s.tile k).released = false →
      (s.tile k).faultAt + 2 * (s.dt k 0x020 * 500000) ≤ s.tempo →
      ∃ t, exec (.retryFurtherWaitExpire k) s = .next t ∧ (t.tile k).prot = .latched ∧ t.faults = s.faults
        ∧ ∀ j, j ∈ s.mates k → (s.tile j).prot = .retryWait → (t.tile j).prot = .latched)
    ∧ (∀ d, At s inProtect → (s.tile k).word 1 = some d → (s.tile k).prot ∈ [Prot.enabling, .run] → ∃ t, exec (.slowFault k) s = .next t
      ∧ (t.tile k).slowWord = none
      ∧ (bit d 17 = true → (t.tile k).lastEvent = 0x0805 ∧ (t.tile k).prot = (s.tile k).prot ∧ t.faults = s.faults)
      ∧ (bit d 17 = false → bit d 15 = true → (t.tile k).prot = .twoStep ∧ t.latched 0x0802 (obj clsDT k) = true
        ∧ Raised t 0x0802 (obj clsDT k) [obj clsDT k, 3])
      ∧ (bit d 17 = false → bit d 15 = false → field d 12 2 ≠ 0 → (s.tile k).shortAt = none →
        (t.tile k).prot = .twoStep ∧ t.latched 0x0801 (obj clsDT k) = true
        ∧ (512 ≤ t.host.backlog.length ∨ ∃ e, e ∈ t.host.backlog ∧ e.code = 0x0801 ∧ e.obj = obj clsDT k ∧ e.tempo = s.tempo
          ∧ e.fields = [obj clsDT k, if field d 0 3 ∈ [0, 1, 2, 4] then (if bit d 13 then 2 else 1) else 3, field d 0 3, field d 3 3,
              field d 6 6, field d 16 1, s.tempo])))

/-- At the start of its period an in-service tile is sent exactly one down frame, with the next SEQ. If no leg of the tile has both switches on, none has after the frame, and the gate bits a RUN tile was last sent are those of its switches that are on; outside RUN and the first step of the turn-off no switch is on. Every up frame of a period is taken once: the device's receiver takes whether its CRC matches, the endpoint's whether, with a matching CRC, it echoes the SEQ sent; eight good frames bring a receiver into step, two bad ones in a row out of it. A frame that fails is counted and ends the slow word in progress, and the second in a row turns an ENABLING or RUN tile off with 0x0802. The fields of a good frame count while the device's receiver is in step: a short turns a tile off and latches 0x0801; UV does so in RUN with 0x0803, and the sixteenth frame without it takes an ENABLING tile to RUN. What one frame carries when several switches change is read as assumption 32 says. -/
def Obligations.FramesDriveTheTilesAndNeverCloseBothSwitches : Prop :=
  (∀ (s : State) (k : Idx) (n : Nat), At s inFrames → k < 64 → s.inService clsDT k = true → s.running = true → s.tempo % 20 = 0 →
    n = periodOf s.tempo →
    ((s.tile k).lastPeriod = some n → exec (.pslDownFrame k) s = .next s)
    ∧ ((s.tile k).lastPeriod ≠ some n → ∃ t top, exec (.pslDownFrame k) s = .next t
      ∧ t.out = s.out ++ [.psl k (downFrame top (s.tile k).seq)] ∧ (t.tile k).lastPeriod = some n
      ∧ (t.tile k).seq = ((s.tile k).seq + 1) % 16 ∧ (t.tile k).prot = (s.tile k).prot ∧ t.faults = s.faults
      ∧ (∀ j, j ≠ k → t.tile j = s.tile j)
      ∧ ((∀ i, i < 6 → ((s.tile k).sw i).on = true → ((s.tile k).sw (opposite i)).on = false) →
        ∀ i, i < 6 → ((t.tile k).sw i).on = true → ((t.tile k).sw (opposite i)).on = false)
      ∧ ((s.tile k).prot = .run → (t.tile k).gates = (t.tile k).onBits)
      ∧ ((s.tile k).prot ∉ [Prot.run, .twoStep] → ∀ i, i < 6 → ((t.tile k).sw i).on = false)
      ∧ ((s.tile k).prot = .twoStep → n = (s.tile k).twoStepAt + s.softT k / 20 → ∀ i, i < 6 → ((t.tile k).sw i).on = false)))
  ∧ (∀ (s : State) (k : Idx) (w : BitVec 24) (c : Nat) (crc echo ok : Bool), At s inCapture → k < 64 → s.inService clsDT k = true →
    s.running = true → s.tempo % 20 = 0 → c = periodOf s.tempo → 3 ≤ c → (s.tile k).upAt ≠ some c → crc = upCrcOk w.toNat →
    echo = (match (s.tile k).lastPeriod with
      | some n => decide (field w.toNat 4 2 = ((s.tile k).seq + 15 + 16 * (n + 16) - (n + 6 - c)) % 4)
      | none => true) → ok = (crc && echo) →
    ∃ t, exec (.pslUpFrame k w) s = .next t
      ∧ (t.tile k).upAt = some c ∧ (t.tile k).badRun = (if ok then 0 else (s.tile k).badRun + 1)
      ∧ (t.tile k).up = (s.tile k).up.note crc ∧ (t.tile k).down = (if crc then (s.tile k).down.note echo else (s.tile k).down)
      ∧ (ok = false → (t.tile k).errors = satAdd 16 (s.tile k).errors 1 ∧ (t.tile k).slow = none
        ∧ (s.objHere (obj clsDT k) = true → (s.tile k).badRun = 1 →
          (s.tile k).up.inStep = false ∨ (∀ x, (s.tile k).lastWord = some x →
            field x 13 3 = 0 ∧ field x 22 2 = 0 ∧ (s.tile k).released = false) →
          ((s.tile k).prot ∈ [Prot.enabling, .run] → (t.tile k).prot = .twoStep ∧ t.latched 0x0802 (obj clsDT k) = true
            ∧ Raised t 0x0802 (obj clsDT k) [obj clsDT k, if crc then 2 else 1])
          ∧ ((s.tile k).prot = .disabled → (t.tile k).prot = .disabled
            ∧ Raised t 0x0802 (obj clsDT k) [obj clsDT k, if crc then 2 else 1])))
      ∧ (ok = true → (s.tile k).up.inStep = false → (t.tile k).prot = (s.tile k).prot)
      ∧ (ok = true → (s.tile k).up.inStep = true → (t.tile k).flags = field w.toNat 13 3 ∧ (t.tile k).offok = field w.toNat 16 6
        ∧ (s.objHere (obj clsDT k) = true → field w.toNat 22 2 = 0 → (s.tile k).released = false → (s.tile k).diag = none →
          ((s.tile k).prot ∈ [Prot.enabling, .run] → 2 ≤ field w.toNat 13 3 →
            (t.tile k).prot = .twoStep ∧ t.latched 0x0801 (obj clsDT k) = true
            ∧ (t.tile k).shortCause = (if bit w.toNat 14 then 2 else 1))
          ∧ ((s.tile k).prot = .run → field w.toNat 13 3 = 1 →
            (t.tile k).prot = .twoStep ∧ t.latched 0x0803 (obj clsDT k) = true ∧ Raised t 0x0803 (obj clsDT k) [obj clsDT k, 2])
          ∧ ((s.tile k).prot = .enabling → field w.toNat 13 3 = 0 →
            (t.tile k).prot = if 15 ≤ (s.tile k).goodUv then .run else .enabling))))
  ∧ (∀ r : Receiver, r.note true = { inStep := r.inStep || decide (7 ≤ r.good), good := r.good + 1, bad := 0 }
    ∧ r.note false = { inStep := r.inStep && decide (r.bad = 0), good := 0, bad := r.bad + 1 })

/-- A slow word is taken once. TEMP and IDENT are kept. A CFG_ACK that matches what was sent confirms that register, and the last of the set makes the tile configured; one that differs sends the set again, up to three times. A valid resolver word moves x_m by the wrapped step of the angle; the fourth invalid one in a row faults the axis with 0x0914. DIAG_RUN of a disabled configured tile starts the steps of its kind and holds its ring. The result of a step is judged and the next one is sent; a test current that is refused or unanswered turns the run to the self-tests; after the last step the run answers with its record and raises 0x0820. That a row takes the word the tile holds, and has no effect without one, is the model's reading (assumption 6). -/
def Obligations.SlowWordsAndDiagnosticsAreActedOn : Prop :=
  (∀ (s : State) (k : Idx) (d : Nat), k < 64 → s.inService clsDT k = true →
    ((s.tile k).word 6 = some d → ∃ t, exec (.slowTemp k) s = .next t ∧ t.faults = s.faults ∧ t.host = s.host
      ∧ t.tile k = { s.tile k with slowWord := none, resAge := (s.tile k).resAge - 32, epTemp := sext 12 d }
      ∧ ∀ j, j ≠ k → t.tile j = s.tile j)
    ∧ ((s.tile k).word 7 = some d → ∃ t, exec (.slowIdent k) s = .next t ∧ t.faults = s.faults ∧ t.host = s.host
      ∧ t.tile k = { s.tile k with slowWord := none, resAge := (s.tile k).resAge - 32, ident := d }
      ∧ ∀ j, j ≠ k → t.tile j = s.tile j)
    ∧ (∀ e, (s.tile k).word 2 = some d → (s.tile k).cfgSent.find? (fun x => x.1 == field d 0 4) = some e →
      ∃ t, exec (.slowCfgAck k) s = .next t ∧ t.faults = s.faults ∧ (t.tile k).slowWord = none ∧ (t.tile k).prot = (s.tile k).prot
        ∧ (e.2 = field d 4 10 → (t.tile k).cfgSent = (s.tile k).cfgSent.filter (fun x => x.1 != field d 0 4)
          ∧ ((t.tile k).configured = true ↔ (s.tile k).configured = true
            ∨ (field d 0 4 = 15 ∧ (s.tile k).cfgSent.filter (fun x => x.1 != field d 0 4) = [])))
        ∧ (e.2 ≠ field d 4 10 → (t.tile k).lastEvent = 0x0806 ∧ (t.tile k).cfgSent = []
          ∧ ((s.tile k).cfgTries < 3 → (t.tile k).cfgQueue = cfgRegs ∧ (t.tile k).cfgTries = (s.tile k).cfgTries + 1
            ∧ (t.tile k).configured = false)
          ∧ (3 ≤ (s.tile k).cfgTries → (t.tile k).cfgQueue = [])))
    ∧ ((s.tile k).word 5 = some d → s.sensorOf k = 2 → s.isMotor k = true → (s.tile k).prot ≠ .disabled →
      ∃ t, exec (.slowResolver k) s = .next t ∧ (t.tile k).slowWord = none ∧ (t.tile k).prot = (s.tile k).prot
        ∧ (field d 16 4 = 0 → (t.tile k).resAngle = some (field d 0 16) ∧ (t.tile k).resBad = 0 ∧ (t.tile k).resAge = 0
          ∧ t.faults = s.faults
          ∧ ((s.tile k).resAngle = none → (t.tile k).xm = (s.tile k).xm)
          ∧ (∀ p, (s.tile k).resAngle = some p → (t.tile k).xm = (s.tile k).xm + wrapAngle ((field d 0 16 : Int) - p)))
        ∧ (field d 16 4 ≠ 0 → (t.tile k).resBad = (s.tile k).resBad + 1 ∧ (t.tile k).xm = (s.tile k).xm
          ∧ ((s.tile k).resBad = 3 → s.objHere (obj clsDT k) = true → t.latched 0x0914 (obj clsDT k) = true
            ∧ (t.axis (s.axisOf k)).state = .faulted ∧ Raised t 0x0914 (obj clsDT k) [obj clsDT k, 2, 4]))))
  ∧ (∀ (m : Msg) (s : State) (k kind : Nat), k = aIdx (m.argN 8 4) → kind = m.argN 12 1 → Takes 0x0640 m 0 0xffffff0000000000 s →
    s.md.mode = .standby → Names (m.argN 8 4) [clsDT] s → 1 ≤ kind → kind ≤ 5 → (kind = 3 → s.tMode k ∉ [5, 6, 7]) →
    (s.tile k).prot = .disabled → (s.tile k).configured = true → (s.tile k).diag = none →
    ∃ t st rest, exec (.diagRun m) s = .next t ∧ s.diagSteps k kind = st :: rest
      ∧ t.tile k = { s.tile k with cmdQueue := (s.tile k).cmdQueue ++ [st.cmd], diag := some {
          reply := s.replyOf 0x0640 m, kind := kind, start := s.tempo, steps := st :: rest } }
      ∧ (∀ j, j ≠ k → t.tile j = s.tile j) ∧ t.host = (s.hold 0x0640 m).host)
  ∧ (∀ (s : State) (k : Idx) (d : Diag) (st : DiagStep) (rest : List DiagStep) (n : Nat), k < 64 → (s.tile k).diag = some d →
    d.steps = st :: rest → d.sentAt = some n → s.objHere (obj clsDT k) = true → s.inService clsDT k = true →
    (∀ w lf op, (∀ x, st ≠ .comparator x) → (s.tile k).word 3 = some w →
      (lf, op) = (match st with
        | .bus j => (if bit w (3 + j) then d.legFail else Nat.lor d.legFail (2 ^ j), d.opens)
        | .ground j => (if bit w j then d.legFail else Nat.lor d.legFail (2 ^ (3 + j)), d.opens)
        | .continuity j => (d.legFail,
            ((s.wired k).filter (fun i => i != j && !bit w i)).foldl (fun a i => Nat.lor a (2 ^ i)) d.opens)
        | .comparator _ => (d.legFail, d.opens)) →
      ∃ t, exec (.slowDiag k) s = .next t ∧ (t.tile k).prot = (s.tile k).prot ∧ t.faults = s.faults
        ∧ (bit w 6 = true → ∀ s2 r2, rest = s2 :: r2 → (t.tile k).cmdQueue = (s.tile k).cmdQueue ++ [(2, 0), s2.cmd]
          ∧ (t.tile k).diag = some { d with
              steps := rest, legFail := lf, opens := op, sentAt := none, seen := false, late := false, frames := 0 })
        ∧ (bit w 6 = true → rest = [] → (t.tile k).diag = none ∧ (t.tile k).cmdQueue = (s.tile k).cmdQueue ++ [(2, 0)]
          ∧ Raised t 0x0820 (obj clsDT k) [obj clsDT k, leAt (({ d with legFail := lf, opens := op } : Diag).record s.tempo) 0 8,
              leAt (({ d with legFail := lf, opens := op } : Diag).record s.tempo) 8 8]
          ∧ ((s.ring d.reply.ring).en = true → (s.ring d.reply.ring).epoch = d.reply.epoch →
            (t.ring d.reply.ring).waiting = (s.ring d.reply.ring).waiting
              ++ [d.reply.msg stOK noIndex (({ d with legFail := lf, opens := op } : Diag).record s.tempo) s.tempo]))
        ∧ (bit w 6 = false → (t.tile k).diag = some { d with
              fallback := true, steps := selftests, sentAt := none, seen := false, late := false, frames := 0 }
          ∧ (t.tile k).cmdQueue = (s.tile k).cmdQueue ++ [(2, 0), (DiagStep.comparator 0).cmd]))
    ∧ (At s inTimeouts → (∀ x, st ≠ .comparator x) → 20 * n + 250000 ≤ s.tempo → ∃ t, exec (.diagStepTimeout k) s = .next t ∧ t.faults = s.faults
      ∧ (t.tile k).cmdQueue = (s.tile k).cmdQueue ++ [(2, 0), (DiagStep.comparator 0).cmd]
      ∧ (t.tile k).diag = some { d with
          fallback := true, steps := selftests, sentAt := none, seen := false, late := false, frames := 0 })
    ∧ (∀ x d1, At s inTimeouts → st = .comparator x → n + 52 < periodOf s.tempo →
      d1 = { d with
        steps := rest, silent := d.silent || d.frames == 0
        testFail := if d.seen && !d.late then d.testFail else Nat.lor d.testFail (2 ^ x) } →
      ∃ t, exec (.selftestWindowEnd k) s = .next t ∧ t.faults = s.faults
        ∧ (∀ s2 r2, rest = s2 :: r2 → (t.tile k).cmdQueue = (s.tile k).cmdQueue ++ [s2.cmd]
          ∧ (t.tile k).diag = some { d1 with sentAt := none, seen := false, late := false, frames := 0 })
        ∧ (rest = [] → (t.tile k).diag = none
          ∧ Raised t 0x0820 (obj clsDT k) [obj clsDT k, leAt (d1.record s.tempo) 0 8, leAt (d1.record s.tempo) 8 8])))

/-- A MOVE that obeys R290 on an enabled axis at rest starts its profile, with the first tick a tempo later; on a moving axis it replaces the profile, which first slows to rest when it turns back or cannot brake in time; with DEFERRED it is only loaded. STOP takes a moving axis to STOPPING, a DEFERRED one to IDLE and a GEARED one to STOPPING with its gear ended; a POLY tile from OBSERVER on ramps down, and before that goes to OFF. GEAR_SET leaves its ratio pending. POLY_START keeps its start profile and takes the stage from OFF to ALIGN with 0x0920. That a STOP takes a POLY tile before OBSERVER to OFF at once is the model's choice (assumption 31). -/
def Obligations.MotionCommandsStartStopAndGearAnAxis : Prop :=
  ∀ (m : Msg) (s : State) (o : Nat), o = m.argN 8 4 →
    (Names o [clsDT, clsGRP] s → s.parent o = none → (s.span o).any s.participates = false →
      s.md.mode ∈ [Mode.warmUp, .ready, .print, .runOut, .safeHold] →
      (∀ mv, Takes 0x0610 m 48 0xffffffff00000000 s → s.anyFault o = false → mv = profileOf m (s.axis o).x → m.pay 1 1 ≤ 1 → m.pay 3 1 = 0 →
        m.pay 36 4 = 0 → m.pay 0 1 ≤ 2 → m.pay 2 1 ≤ 1 → (mv.vel = true → m.pay 40 8 = 0) →
        mv.vStart ≤ mv.vKnee → mv.vKnee ≤ mv.vMax → mv.vMax ≤ s.vLimit (s.leadOf o) → mv.vStop ≤ mv.vKnee →
        1 ≤ mv.a1 → 1 ≤ mv.a2 → 1 ≤ mv.d2 → 1 ≤ mv.d1 →
        s.axisOn o = true → s.tMode (s.leadOf o) ≠ 3 → (s.axis o).state ∉ [Prof.geared, .held] →
        ∃ t, exec (.move m) s = .next t ∧ (∀ p, p ≠ o → t.axis p = s.axis p) ∧ t.clk = s.clk ∧ t.faults = s.faults
          ∧ (t.axis o).x = (s.axis o).x
          ∧ (m.pay 1 1 = 1 → (t.axis o).loaded = some mv ∧ (t.axis o).mv = (s.axis o).mv ∧ (t.axis o).v = (s.axis o).v
            ∧ (t.axis o).state = if (s.axis o).state = .idle then .deferred else (s.axis o).state)
          ∧ (m.pay 1 1 = 0 → (t.axis o).mv = mv ∧ (t.axis o).loaded = none ∧ (t.axis o).state = .moving)
          ∧ (m.pay 1 1 = 0 → (s.axis o).v = 0 → (t.axis o).dir = mv.dirFrom (s.axis o).x ∧ (t.axis o).v = 0
            ∧ (t.axis o).fresh = true ∧ (t.axis o).nextTick = s.tempo + 1 ∧ (t.axis o).turn = .none)
          ∧ (m.pay 1 1 = 0 → (s.axis o).v ≠ 0 → (t.axis o).v = (s.axis o).v ∧ (t.axis o).nextTick = (s.axis o).nextTick
            ∧ (t.axis o).fresh = false
            ∧ (mv.dirFrom (s.axis o).x ≠ (s.axis o).dir ∨ (mv.vel = false
                ∧ mv.dirFrom (s.axis o).x * (mv.target - (s.axis o).x) < brakeDist mv (s.axis o).v) →
              (t.axis o).turn = .slow ∧ (t.axis o).dir = (s.axis o).dir)
            ∧ (mv.dirFrom (s.axis o).x = (s.axis o).dir → (mv.vel = true
                ∨ brakeDist mv (s.axis o).v ≤ mv.dirFrom (s.axis o).x * (mv.target - (s.axis o).x)) →
              (t.axis o).turn = .none ∧ (t.axis o).dir = (s.axis o).dir)))
      ∧ (Takes 0x0611 m 0 0xffffffff00000000 s →
        (s.tMode (s.leadOf o) ≠ 3 → ∃ t, exec (.stop m) s = .next t ∧ t.faults = s.faults ∧ (t.axis o).x = (s.axis o).x
          ∧ (t.axis o).v = (s.axis o).v ∧ (∀ p, p ≠ o → t.axis p = s.axis p ∧ t.gear p = s.gear p)
          ∧ ((s.axis o).state ∈ [Prof.moving, .atSpeed] → (t.axis o).state = .stopping ∧ (t.axis o).loaded = none
            ∧ t.clk = s.clk)
          ∧ ((s.axis o).state = .deferred → (t.axis o).state = .idle ∧ (t.axis o).loaded = none ∧ t.clk = s.clk)
          ∧ ((s.axis o).state = .geared → (t.axis o).state = .stopping ∧ t.gear o = { s := (s.gear o).s })
          ∧ ((s.axis o).state ∈ [Prof.idle, .stopping, .faulted] → t.axis o = s.axis o ∧ t.clk = s.clk))
        ∧ (∀ k, k = s.leadOf o → s.tMode k = 3 → ∃ t, exec (.stop m) s = .next t ∧ t.faults = s.faults
          ∧ ((s.poly k).stage ∈ [Poly.observer, .sync, .coast] → t.poly k = { s.poly k with stopping := true })
          ∧ ((s.poly k).stage ∈ [Poly.align, .blind, .catch] → (t.poly k).stage = .off)
          ∧ ((s.poly k).stage ∈ [Poly.off, .faulted] → t.poly k = s.poly k))))
    ∧ (∀ mst n d p, Takes 0x0620 m 24 0xffffffff00000000 s → m.pay 1 3 = 0 → m.pay 12 4 = 0 → Names o [clsDT, clsGRP, clsSTN] s →
      s.md.mode ∈ [Mode.standby, .warmUp, .ready, .print, .runOut] → s.parent o = none → (s.span o).any s.participates = false →
      s.anyFault o = false → mst = m.pay 0 1 → n = sext 32 (m.pay 4 4) → d = m.pay 8 4 → p = sext 64 (m.pay 16 8) → mst ≤ 8 → d ≠ 0 →
      (mst = 0 → n = 0 ∧ d = 1 ∧ (s.gear o).master ≠ 0 ∧ (s.enc ((s.gear o).master - 1)).pos < p) →
      (mst ≠ 0 → (s.enc (mst - 1)).pos < p) →
      ∃ t, exec (.gearSet m) s = .next t ∧ t.gear o = { s.gear o with pend := some { master := mst, n := n, d := d, p := p } }
        ∧ (∀ q, q ≠ o → t.gear q = s.gear q) ∧ t.drive = s.drive ∧ t.faults = s.faults)
    ∧ (∀ k, k = aIdx o → Takes 0x0630 m 48 0xffffffff00000000 s → m.pay 44 4 = 0 → Names o [clsDT] s →
      s.md.mode ∈ [Mode.warmUp, .ready] → s.parent o = none → s.participates o = false → s.faultOn o = false →
      (∀ e, e ∈ [(0, 4), (4, 2), (6, 2), (8, 4), (12, 4), (16, 4), (20, 4), (28, 4), (32, 4), (40, 2), (42, 2)] →
        m.pay e.1 e.2 ≠ 0) → m.pay 24 4 ≤ s.vLimit k → (s.tile k).prot = .run → s.tMode k = 3 → (s.poly k).stage = .off →
      (∀ n, s.polyStation k = some n → up32 (m.pay 36 4) ≤ if m.pay 24 4 = 0 then s.vNom n else up32 (m.pay 24 4)) →
      (s.polyStation k).isSome = true → ∃ t, exec (.polyStart m) s = .next t
        ∧ t.poly k = { start := m.payload, stage := .align, entered := s.tempo } ∧ (∀ j, j ≠ k → t.poly j = s.poly j)
        ∧ t.faults = s.faults ∧ Raised t 0x0920 (obj clsDT k) [obj clsDT k, 0, 1, 0])

/-- At a tempo of its tick grid an axis without a sensor or STEP tile takes one step of its profile: a position move changes v and x by the equations of R292 and at its target stands in IDLE with 0x0901; a stop slows by STOP_DECEL and at rest raises 0x0904; a geared axis is where its gearing unit is; an axis that stands, is held or is faulted does not move, and one held from its gear goes on noting where its gearing unit is. The end of a SIXSTEP alignment makes the present electrical angle 0. ALIGN goes on to BLIND; a BLIND that lasts too long is a fault with 0x0921; a start that does not lock in time is reported; CATCH goes to OBSERVER, back to ALIGN, or under STOP to OFF, with 0x0922. A run-out program that has had its time takes STOP and ends at rest with 0x0d12. How each division truncates is read as assumption 34 says. -/
def Obligations.AProfileTicksByR292AndEndsAtItsTarget : Prop :=
  (∀ (s : State) (ax : Nat) (a : AxisSt), At s inDirect → a = s.axis ax → aCls ax ∈ [clsDT, clsGRP] → s.objHere ax = true → s.axisOn ax = true →
    s.parent ax = none → s.running = true → a.nextTick ≤ s.tempo → (s.tempo - a.nextTick) % 1024 = 0 →
    s.sensorOf (s.leadOf ax) = 0 →
    (∀ k, k ∈ s.axisTiles ax → s.sensorOf k = 0 ∧ s.tMode k ≠ 1) → ∃ t, exec (.profileTick ax) s = .next t
      ∧ (t.axis ax).nextTick = s.tempo + 1024 ∧ (∀ p, p ≠ ax → t.axis p = s.axis p) ∧ t.faults = s.faults ∧ (a.regear = false → t.clk = s.clk)
      ∧ (a.state ∈ [Prof.idle, .deferred, .held, .faulted] → (a.state = .held → a.heldFrom ≠ .geared ∧ a.regear = false) → t.axis ax = { a with nextTick := s.tempo + 1024 } ∧ t.host = s.host)
      ∧ (a.state = .held → a.heldFrom = .geared ∨ a.regear = true →
        t.axis ax = { a with nextTick := s.tempo + 1024, sHist := ((s.gear ax).s :: a.sHist).take 16 } ∧ t.host = s.host)
      ∧ (∀ v0 acc v x, a.state = .moving → a.turn = .none → a.regear = false → a.mv.vel = false → a.sat = false →
        s.axisBus ax 1 = false → v0 = (if a.fresh then up32 a.mv.vStart else a.v) → v0 ≤ up32 a.mv.vMax →
        acc = (if a.dir * (a.mv.target - a.x) ≤ brakeDist a.mv v0 + timesDt v0
            then -(if up32 a.mv.vKnee < v0 then up32 a.mv.d2 else up32 a.mv.d1)
          else if v0 < up32 a.mv.vKnee then up32 a.mv.a1 else if v0 < up32 a.mv.vMax then up32 a.mv.a2 else 0) →
        v = min (up32 a.mv.vMax) (max (max (up32 a.mv.vStop) (up32 8)) (v0 + timesDt acc)) → x = a.x + a.dir * timesDt v →
        (0 < a.dir * (a.mv.target - x) → (t.axis ax).state = .moving ∧ (t.axis ax).v = v ∧ (t.axis ax).x = x
          ∧ (t.axis ax).fresh = false ∧ t.host = s.host)
        ∧ (a.dir * (a.mv.target - x) ≤ 0 → (t.axis ax).x = a.mv.target ∧ (t.axis ax).v = 0
          ∧ (t.axis ax).state = (if a.loaded.isSome then .deferred else .idle)
          ∧ Raised t 0x0901 ax [ax, i64 (a.mv.target / q32), s.tempo]))
      ∧ (∀ v, a.state = .stopping → s.axisBus ax 1 = false → v = max 0 (a.v - timesDt (up32 (s.stopDecel (s.leadOf ax)))) →
        (t.axis ax).x = a.x + a.dir * timesDt v ∧ (t.axis ax).v = v
        ∧ (v ≠ 0 → (t.axis ax).state = .stopping ∧ t.host = s.host)
        ∧ (v = 0 → (t.axis ax).state = (if a.loaded.isSome then .deferred else .idle)
          ∧ Raised t 0x0904 ax [ax, i64 ((t.axis ax).x / q32)]))
      ∧ (a.state = .geared → (t.axis ax).x = (s.gear ax).s * q32 ∧ (t.axis ax).state = .geared))
  ∧ (∀ (s : State) (k : Idx), k < 64 → s.objHere (obj clsDT k) = true →
    (∀ w, (s.tile k).aligning = some w → w + 100000000 ≤ s.tempo → s.tMode k = 2 → bit (s.fb k 6 1) 0 = true →
      ∃ t, exec (.sixstepAlignDone k) s = .next t ∧ (t.tile k).aligning = none ∧ t.thetaE k = 0 ∧ (t.tile k).xm = (s.tile k).xm)
    ∧ ((s.poly k).stage = .align → (s.poly k).entered + ((s.poly k).field 4 2 + (s.poly k).field 6 2) * 500000 ≤ s.tempo →
      ∃ t v, exec (.polyAlignDone k) s = .next t
        ∧ t.poly k = { s.poly k with freq := 0, theta := 0, agree := 0, vMeas := 0, stage := .blind, entered := s.tempo }
        ∧ Raised t 0x0920 (obj clsDT k) [obj clsDT k, 1, 2, v])
    ∧ (At s inTimeouts → (s.poly k).stage = .blind → (s.poly k).entered + (s.poly k).field 40 2 * 500000 ≤ s.tempo →
      ∃ t, exec (.polyBlindTimeout k) s = .next t ∧ (t.poly k).stage = .faulted ∧ t.latched 0x0921 (obj clsDT k) = true
        ∧ Raised t 0x0921 (obj clsDT k) [obj clsDT k, 1])
    ∧ (∀ w n, At s inTimeouts → (s.poly k).stage = .observer → (s.poly k).rampEnd = some w → (s.poly k).syncFail = false →
      w + (s.poly k).field 42 2 * 500000 ≤ s.tempo → s.polyStation k = some n → s.stnLocked n = false →
      ∃ t, exec (.polySyncTimeout k) s = .next t ∧ t.poly k = { s.poly k with syncFail := true } ∧ t.faults = s.faults
        ∧ Raised t 0x0921 (obj clsDT k) [obj clsDT k, 2])
    ∧ (∀ emf angle speed, (s.poly k).stage = .catch →
      (s.poly k).entered + s.fb k 88 4 * 500 + s.fb k 96 4 * 500 + ceilDiv (s.fb k 92 4) 2 ≤ s.tempo →
      ∃ t, exec (.polyCatchDone k emf angle speed) s = .next t
        ∧ Raised t 0x0922 (obj clsDT k) [obj clsDT k, emf, angle, speed, if s.fb k 100 4 ≤ emf then 0 else 1]
        ∧ (s.fb k 100 4 ≤ emf → (t.poly k).stage = .observer ∧ (t.poly k).vRamp = up32 speed ∧ (t.poly k).delta = 0
          ∧ (t.poly k).thc = angle % 65536)
        ∧ (emf < s.fb k 100 4 → (s.poly k).stopping = false → (t.poly k).stage = .align ∧ (t.poly k).start = (s.poly k).start)
        ∧ (emf < s.fb k 100 4 → (s.poly k).stopping = true → (t.poly k).stage = .off)))
  ∧ (∀ (s : State) (ax k w : Nat), At s inTimeouts → k = s.leadOf ax → aCls ax ∈ [clsDT, clsGRP] → s.objHere ax = true →
    s.objHere (obj clsDT k) = true → (s.tile k).runout = some w → w + s.dt k 0x003 * 500000 ≤ s.tempo →
    ∃ t, exec (.runoutProgramExpire ax) s = .next t ∧ t.faults = s.faults
      ∧ (s.isMotor k = false ∨ (s.tMode k ≠ 3 ∧ (s.axis ax).state ∈ [Prof.idle, .deferred])
          ∨ (s.tMode k = 3 ∧ (s.poly k).stage ∈ [Poly.off, .align, .blind, .catch]) → (t.tile k).runout = none ∧ (t.tile k).runoutDone = true
        ∧ Raised t 0x0d12 (obj clsDT k) [ax, 0])
      ∧ (s.isMotor k = true → s.tMode k ≠ 3 → (s.axis ax).state ∈ [Prof.moving, .atSpeed, .geared] →
        (t.axis ax).state = .stopping ∧ (t.tile k).runout = some w)
      ∧ (s.tMode k = 3 → (s.poly k).stage ∈ [Poly.observer, .sync, .coast] → (t.poly k).stopping = true
        ∧ (t.tile k).runout = some w))

/-- A power-up waits for SEQUP_IN and then starts: a rail with no dependency rises at once, one whose dependency has failed is BLOCKED with 0x0c06, and with every rail UP it ends with SEQUP_OUT high. A rail whose PG has settled in time is UP and lets those that wait for it rise; one that has not is FAILED with 0x0c01 and the cause and count of its restarts, blocks those that wait for it and takes down those that depend on it. A power-down waits for SEQDN_IN, but no longer than its time with 0x0c08, and then turns off what nothing depends on. A rail that has fallen, by its own source, is OFF; a PMBus read that is due waits until its controller is free; one that has not in time is FAILED with 0x0c03 and holds PWRFLT_N. A rail lost in operation is FAILED with 0x0c02 and has the consequence its configuration names. PWRFLT_N held by another circuit raises 0x0c09 and acts as dev.seq.pwrflt_act says. RAIL_STATUS answers the state of every rail. That a rail without dependencies rises at once, when a waiting power-down has started, and when a poll is due are the model's reading (assumption 37). -/
def Obligations.RailsRiseFallAndFailInSequence : Prop :=
  (∀ (m : Msg) (s : State), Takes 0x0801 m 0 noArg s → exec (.railStatus m) s = .next (s.ok (s.replyOf 0x0801 m)
    ((List.range 32).flatMap (fun i => toLE 1 (s.railState i).code))))
  ∧ (∀ (m : Msg) (s : State), Takes 0x0800 m 0 0xffffffffffffff00 s → s.md.mode ∈ modesCfSb → s.sequencing = false →
    (m.argN 8 1 = 1 → s.aon.seqUpIn = false → ∃ t, exec (.railSequenceUp m) s = .next t
      ∧ t.rails = { s.rails with up := some (s.replyOf 0x0800 m), upWait := some (s.tempo + 500000 * s.par clsDEV 0 0x060) })
    ∧ (m.argN 8 1 = 0 → s.aon.seqDnIn = false → ∃ t, exec (.railSequenceDown m) s = .next t
      ∧ t.rails = { s.rails with downs := [{
          cause := .sequence, scope := s.usedRails, reply := some (s.replyOf 0x0800 m)
          wait := some (s.tempo + 500000 * s.par clsDEV 0 0x060) }] }))
  ∧ (∀ (m : Msg) (c : Instr) (s : State), (∀ i, i ∈ s.usedRails → (s.rail i).kept = false ∧ s.objHere (obj clsRAIL i) = true) →
    (c = .railSequenceUp m ∧ Takes 0x0800 m 0 0xffffffffffffff00 s ∧ m.argN 8 1 = 1 ∧ s.md.mode ∈ modesCfSb ∧ s.sequencing = false
        ∧ s.aon.seqUpIn = true) ∨ (c = .sequpInHigh ∧ s.rails.up.isSome = true ∧ s.rails.upWait.isSome = true) →
    ∃ t, exec c s = .next t ∧ t.aon.seqUpIn = true ∧ t.rails.upWait = none ∧ t.rails.downs = s.rails.downs
      ∧ (∀ i, i ∈ s.usedRails → (s.rail i).state = .off ∨ (s.rail i).state = .blocked →
        (s.deps i = [] → (t.rail i).state = .rising ∧ (t.rail i).tempo = s.tempo)
        ∧ ((∃ j, j ∈ s.deps i ∧ (s.rail j).state = .failed) → (t.rail i).state = .blocked
          ∧ ∃ j, Raised t 0x0c06 (obj clsRAIL i) [obj clsRAIL i, obj clsRAIL j]))
      ∧ ((∀ i, i ∈ s.usedRails → (s.rail i).state = .up) → t.rails.up = none ∧ t.aon.seqUpOut = true))
  ∧ (∀ (m : Msg) (c : Instr) (s : State) (w : Tempo) (r : Option Reply), s.objHere objDEV = true → s.rails.up = none →
    (c = .railSequenceDown m ∧ Takes 0x0800 m 0 0xffffffffffffff00 s ∧ m.argN 8 1 = 0 ∧ s.md.mode ∈ modesCfSb ∧ s.sequencing = false
        ∧ s.aon.seqDnIn = true)
      ∨ (s.rails.downs = [{ cause := .sequence, scope := s.usedRails, wait := some w, reply := r }]
        ∧ (c = .seqdnInHigh ∨ (c = .cascadeWaitTimeout ∧ At s inTimeouts ∧ w ≤ s.tempo))) →
    ∃ t, exec c s = .next t ∧ (c = .cascadeWaitTimeout ∨ t.aon.seqDnIn = true)
      ∧ (c = .cascadeWaitTimeout → Raised t 0x0c08 objDEV [1, s.seqPins])
      ∧ (∀ i, i ∈ s.usedRails →
        ((s.rail i).state = .waiting ∨ (s.rail i).state = .blocked → (t.rail i).state = .off)
        ∧ ((s.rail i).state = .up ∨ (s.rail i).state = .rising → s.dependants i = [] → (t.rail i).state = .falling))
      ∧ ((∀ i, i ∈ s.usedRails → (s.rail i).state = .off ∨ (s.rail i).state = .failed) → t.rails.downs = []))
  ∧ (∀ (s : State) (r : Reply) (w : Tempo), s.objHere objDEV = true →
    (s.rails.upWait = none → exec .sequpInHigh s = .next { s with aon := { s.aon with seqUpIn := true } })
    ∧ (At s inTimeouts → s.rails.up = some r → s.rails.upWait = some w → w ≤ s.tempo → ∃ t, exec .cascadeWaitTimeout s = .next t
      ∧ t.rails = { s.rails with up := none, upWait := none } ∧ Raised t 0x0c08 objDEV [0, s.seqPins])
    ∧ (s.aon.pwrflt = [] → (exec .pwrfltNRelease s = .next { s with aon := { s.aon with pwrfltExt := false, pwrfltReported := false } })
      ∧ (At s inProtect → s.running = true → s.aon.pwrfltReported = false → ∃ t, exec .pwrfltSeen s = .next t ∧ t.aon.pwrfltExt = true
        ∧ t.aon.pwrfltReported = true ∧ Raised t 0x0c09 objDEV [s.par clsDEV 0 0x061, s.tempo]
        ∧ (s.par clsDEV 0 0x061 = 0 → t.md = s.md ∧ t.rails = s.rails)
        ∧ (s.par clsDEV 0 0x061 ≠ 0 → s.md.mode ∈ [Mode.warmUp, .ready, .print, .runOut] → t.md.mode = .safeHold)
        ∧ (s.par clsDEV 0 0x061 = 2 → s.md.mode ∈ modesCfSb → ∀ i, i ∈ s.usedRails → (s.rail i).state = .up →
          s.dependants i = [] → (t.rail i).state = .falling))))
  ∧ (∀ (s : State) (i : Idx), s.railUsed i = true → s.objHere (obj clsRAIL i) = true →
    (At s inTimeouts → (s.rail i).state = .rising → (s.rail i).tempo + us (s.par clsRAIL i 0x001) ≤ s.tempo →
      s.tempo ≤ (s.rail i).tempo + us (s.par clsRAIL i 0x002) → ∃ t, exec (.railSettled i) s = .next t
        ∧ (t.rail i).state = .up ∧ (t.rail i).tempo = s.tempo
        ∧ (s.rails.up.isSome = true → s.rails.upWait = none → ∀ j, j ∈ s.usedRails → (s.rail j).state = .waiting →
          s.par clsRAIL j 0x004 = 0 → (∀ d, d ∈ s.deps j → d = i ∨ ((s.rail d).state = .up ∧ (s.rail d).tempo ≤ s.tempo)) →
          (t.rail j).state = .rising))
    ∧ (At s inTimeouts → s.mayRise i = true → s.rails.up.isSome = true → s.rails.upWait = none →
      ∃ t, exec (.railDelayExpire i) s = .next t ∧ (t.rail i).state = .rising ∧ (t.rail i).tempo = s.tempo)
    ∧ (∀ drops, At s inTimeouts → (s.rail i).state = .rising → (s.rail i).tempo + us (s.par clsRAIL i 0x002) ≤ s.tempo →
      s.rails.downs = [] → ∃ t, exec (.railRiseTimeout ⟨i, drops⟩) s = .next t ∧ (t.rail i).state = .failed ∧ t.latched 0x0c01 (obj clsRAIL i) = true
        ∧ Raised t 0x0c01 (obj clsRAIL i) [obj clsRAIL i, if drops.isSome then 2 else 1, drops.getD 0]
        ∧ (s.rails.up.isSome = true → s.rails.upWait = none → ∀ j, j ∈ s.usedRails → (s.rail j).state = .waiting → i ∈ s.deps j →
          (t.rail j).state = .blocked)
        ∧ (∀ j, j ∈ s.allDependants i → j ≠ i → (s.rail j).state = .up ∨ (s.rail j).state = .rising → s.dependants j = [] →
          (t.rail j).state = .falling))
    ∧ ((s.rail i).state = .up → 5 ≤ i → s.inDown i = false →
      ((s.rail i).kept = true →
        (At s inEvents → ∃ t, exec (.railLost i) s = .next t ∧ t.rail i = { s.rail i with low := true } ∧ t.faults = s.faults)
        ∧ (At s inTimeouts → ∃ t, exec (.railSettled i) s = .next t ∧ t.rail i = { s.rail i with low := false } ∧ t.faults = s.faults))
      ∧ (At s inEvents → (s.rail i).kept = false → ∃ t, exec (.railLost i) s = .next t ∧ (t.rail i).state = .failed
        ∧ t.latched 0x0c02 (obj clsRAIL i) = true ∧ Raised t 0x0c02 (obj clsRAIL i) [obj clsRAIL i, s.railCfg i 2 2]
        ∧ (s.railCfg i 2 2 = 0 → t.md = s.md)
        ∧ (s.railCfg i 2 2 = 2 → (0x0c02, obj clsRAIL i) ∈ t.aon.pwrflt)
        ∧ (s.railCfg i 2 2 ≠ 0 → s.md.mode ∈ [Mode.warmUp, .ready, .print, .runOut] → t.md.mode = .safeHold)))
    ∧ (s.rails.runoutDown = false → s.inDown i = true → s.mayFall i = true →
      ∃ t, exec (.railTurnOff i) s = .next t ∧ (t.rail i).state = .falling ∧ (t.rail i).tempo = s.tempo)
    ∧ (s.rails.runoutDown = true → s.md.mode ≠ .safeHold ∨ s.noRunout = true → (s.rail i).state = .up → s.dependants i = [] →
      ∃ t, exec (.railTurnOff i) s = .next t ∧ (t.rail i).state = .falling ∧ t.rails.runoutDown = false)
    ∧ ((s.rail i).state = .falling →
      ((s.railCfg i 0 2 = 2 ∨ (s.rail i).asTime = true) ∧ (s.rail i).tempo + us (s.par clsRAIL i 0x003) ≤ s.tempo
          ∨ s.railCfg i 0 2 = 0 ∧ (s.rail i).asTime = false ∧ s.tempo ≤ (s.rail i).tempo + us (s.par clsRAIL i 0x003) →
        ∃ t, exec (.railFallen i) s = .next t ∧ (t.rail i).state = .off ∧ (t.rail i).fell = some s.tempo ∧ t.faults = s.faults)
      ∧ (At s inTimeouts → s.railCfg i 0 2 ≠ 2 → (s.rail i).asTime = false → (s.rail i).tempo + us (s.par clsRAIL i 0x003) ≤ s.tempo →
        ∃ t, exec (.railFallTimeout i) s = .next t ∧ (t.rail i).state = .failed ∧ t.latched 0x0c03 (obj clsRAIL i) = true
          ∧ Raised t 0x0c03 (obj clsRAIL i) [obj clsRAIL i, s.railCfg i 0 2] ∧ (0x0c03, obj clsRAIL i) ∈ t.aon.pwrflt
          ∧ (s.aon.ledger.length + s.aon.ledgerQueue.length < 64 →
            ∃ e, t.aon.ledgerQueue = s.aon.ledgerQueue ++ [e] ∧ e.kind = 4 ∧ e.source = i))
      ∧ (s.railCfg i 0 2 = 1 → (s.rail i).asTime = false →
        (s.rail i).tempo + (s.rail i).polls * 125000 ≤ s.tempo →
        (∀ r, s.i2cFree (s.railCfg i 14 2) = false → exec (.pmbusVoutPoll i r) s = .next s)
        ∧ (s.i2cFree (s.railCfg i 14 2) = true →
        (∃ t, exec (.pmbusVoutPoll i .nack) s = .next t ∧ (t.rail i).asTime = true ∧ (t.rail i).state = .falling
          ∧ Raised t 0x0c0a (obj clsRAIL i) [obj clsRAIL i, 1])
        ∧ (∀ (mode : Byte) (vout vm : Nat) (n : Int) (low : Bool), vm = (s.rail i).vmode.getD mode.toNat → n = sext 5 vm →
          low = (if 0 ≤ n then decide (1000 * (vout % 65536) * 2 ^ n.toNat ≤ s.railCfg i 32 16)
            else decide (1000 * (vout % 65536) ≤ s.railCfg i 32 16 * 2 ^ (-n).toNat)) →
          ∃ t, exec (.pmbusVoutPoll i (.value mode vout)) s = .next t
            ∧ (field vm 5 3 ≠ 0 → (t.rail i).asTime = true ∧ (t.rail i).state = .falling
              ∧ Raised t 0x0c0a (obj clsRAIL i) [obj clsRAIL i, 2])
            ∧ (field vm 5 3 = 0 → (low = true → (t.rail i).state = .off)
              ∧ (low = false → (t.rail i).state = .falling ∧ (t.rail i).vmode = some vm ∧ (t.rail i).asTime = false)))))))
  ∧ (∀ (s : State) (i : Idx), 1 ≤ i → i < 5 → s.aon.wake = .down → ∃ t, exec (.railFallen i) s = .next t
    ∧ Map.get (fun _ => false) t.aon.ownUp i = false ∧ t.rails = s.rails)

/-- In its compute tempo an enabled tile takes a sample: a motor tile whose loops are held keeps its drive; a DCM tile without a sensor computes its current reference and voltage by R331, within I_MAX and U_avail; a heater that scans holds each point for four samples, and one that regulates never drives below f_floor; an arc turns its HV leg off for ARC_OFF_MS, or for good with 0x0b11 past ARC_LIMIT in a second. An uncorrectable error in the sample faults a motor's axis. A scan ends with the resonance found, or with 0x0b01 latched at the end of its range. A zone poll gives every zone's read to its SPI controller, which sends it where none runs, and counts the missed ones, the third in a row latching 0x0b03; a reading of the round is kept, and latches 0x0b02 above its limit. A window settled is IN_WINDOW with its event. When a sample is due is the model's choice (assumption 35), and a zone left unread is a missed read by assumption 36. -/
def Obligations.SamplesAndHeatersRegulateWithinTheirLimits : Prop :=
  ∀ (s : State) (k : Idx), k < 64 → s.inService clsDT k = true → s.objHere (obj clsDT k) = true →
    (∀ n, At s inEvents → s.sampleNo k = some n → (s.tile k).prot ≠ .disabled → s.running = true →
      (∀ a, s.objHere objDEV = true → ∃ t, exec (.currentSample k (some a)) s = .next t ∧ t.latched 0x0e10 (obj clsDT k) = true
        ∧ (t.mem 19).ueCount = satAdd 32 (s.mem 19).ueCount 1 ∧ Map.get (fun _ => 0) t.sheets.rewritten k = 0
        ∧ (s.isMotor k = true → (t.axis (s.axisOf k)).state = .faulted))
      ∧ (s.isMotor k = true → s.loopsHeld k = true → ∃ t, exec (.currentSample k none) s = .next t ∧ t.tile k = s.tile k
        ∧ t.faults = s.faults ∧ (t.loop k).i1 = ((s.tile k).chan 0).mean ∧ (t.loop k).iI = (s.loop k).iI ∧ (t.loop k).u = (s.loop k).u)
      ∧ (∀ s1 eI ff avail iI, s.tMode k = 4 → s.sensorOf k = 0 → s.axisOf k = obj clsDT k → s.loopsHeld k = false →
        (s.tile k).aligning = none → s1 = s.measure k → avail = s.uAvail k → ff = perSpeed (s.coef k 15) (s.measV k) →
        eI = clampI (-(s.iMax k)) (s.iMax k) (mul16 (s1.leadRef k) 65536 + s1.tableNow 0x05 k) - (s1.loop k).i →
        iI = (s.loop k).iI + mul16 (s.coef k 1) eI →
        ∃ t, exec (.currentSample k none) s = .next t
          ∧ (t.loop k).i = (((s.tile k).chan 0).mean - ((s.tile k).chan 1).mean) * 32768 ∧ (t.loop k).iRef = eI + (t.loop k).i
          ∧ (t.loop k).iI = (if avail < ((mul16 (s.coef k 0) eI + iI + ff).natAbs : Int) ∧ sgn eI = sgn (mul16 (s.coef k 0) eI + iI + ff)
              then (s.loop k).iI else iI)
          ∧ (t.loop k).u = clampI (-avail) avail (mul16 (s.coef k 0) eI + (t.loop k).iI + ff))
      ∧ (s.tMode k = 5 → s.loopsHeld k = false → (s.tile k).outOn = true → ((s.tile k).chan 0).big ≤ s.fb k 36 4 →
        ∃ t, exec (.currentSample k none) s = .next t
          ∧ ((s.heat k).scanning = true → (s.heat k).point < 65 →
            ((s.heat k).hold ≠ 4 → (t.heat k).hold = (s.heat k).hold + 1 ∧ (t.heat k).point = (s.heat k).point)
            ∧ ((s.heat k).hold = 4 → (t.heat k).point = (s.heat k).point + 1
              ∧ ((s.heat k).point = 0 ∨ (s.heat k).best < ((s.tile k).chan 2).mean →
                (t.heat k).best = ((s.tile k).chan 2).mean ∧ (t.heat k).bestPoint = (s.heat k).point)))
          ∧ ((s.heat k).scanning = false → (s.heat k).scanned = true → (s.heat k).roundDone = false →
            ((s.heat k).pRef ≠ 0 → s.fFloor k ≤ (s.fMax k : Int) * 65536 →
              s.fFloor k ≤ (t.heat k).f ∧ (t.heat k).f ≤ (s.fMax k : Int) * 65536)
            ∧ ((s.heat k).pRef = 0 → (t.heat k).iP = 0 ∧ (t.tile k).modNext = {} ∧ (t.tile k).modFrom = s.governs k n)))
      ∧ (∀ j arcs, j < 3 → s.tMode k = 6 → s.loopsHeld k = false → s.legF k j 0 1 = 1 → s.legLive k j = true →
        (s.legF k j 24 2 : Int) < s.arcStep k j →
        arcs = s.tempo :: (s.leg (4 * k + j)).arcs.filter (fun x => decide (s.tempo < x + 500000000)) →
        ∃ t, exec (.currentSample k none) s = .next t ∧ (t.leg (4 * k + j)).arcs = arcs ∧ (t.leg (4 * k + j)).d = 0
          ∧ (arcs.length ≤ s.legF k j 26 1 → (t.leg (4 * k + j)).heldOff = false
            ∧ (t.leg (4 * k + j)).offUntil = some (s.tempo + s.legF k j 27 1 * 500000))
          ∧ (s.legF k j 26 1 < arcs.length → (t.leg (4 * k + j)).heldOff = true ∧ t.latched 0x0b11 (obj clsDT k) = true
            ∧ Raised t 0x0b11 (obj clsDT k) [obj clsDT k, j + 1, arcs.length])))
    ∧ (∀ f, s.tMode k = 5 → (s.heat k).scanning = true → (s.heat k).point = 65 → s.loopsHeld k = false →
      f = (Int.tdiv (s.scanFreq k (s.heat k).bestPoint) 65536).toNat → ∃ t, exec (.resonanceScanDone k) s = .next t
        ∧ (t.heat k).scanning = false ∧ (t.heat k).iP = 0
        ∧ ((s.heat k).bestPoint = 0 ∨ (s.heat k).bestPoint = 64 → t.latched 0x0b01 (obj clsDT k) = true
          ∧ (t.heat k).scanned = (s.heat k).scanned ∧ (t.heat k).fRes = f ∧ Raised t 0x0b01 (obj clsDT k) [obj clsDT k, f, (s.heat k).fRes, 1])
        ∧ ((s.heat k).bestPoint ≠ 0 → (s.heat k).bestPoint ≠ 64 → t.faults = s.faults ∧ (t.heat k).scanned = true
          ∧ (t.heat k).fRes = f ∧ (t.heat k).fPrev = (s.heat k).fRes
          ∧ Raised t 0x0b01 (obj clsDT k) [obj clsDT k, f, (s.heat k).fRes, 0]))
    ∧ (s.tMode k = 5 → s.heatAlive k = true →
      (∀ w, (s.heat k).round = none ∨ ((s.heat k).round = some w ∧ w + s.fb k 40 4 * 500 ≤ s.tempo) →
        ((s.heat k).out = [] → ∃ t, exec (.zonePoll k) s = .next t ∧ t.faults = s.faults
          ∧ t.heat k = { s.heat k with out := List.range (s.zones k), round := some s.tempo }
          ∧ (∀ z, z < s.zones k → .zone k z s.tempo ∈ t.spiQueue (s.zone k z 0 1))
          ∧ (∀ c x q, s.spiQueue c = x :: q → (t.spiQueue c).head? = some x)
          ∧ (∀ z, z < s.zones k → s.spiQueue (s.zone k z 0 1) = [] → (∀ y, y < z → s.zone k y 0 1 ≠ s.zone k z 0 1) →
            .spi (s.zone k z 0 1) (s.zone k z 1 1) (s.zone k z 2 1) (toLE (s.zone k z 3 1) (s.zone k z 4 4)) ∈ t.out))
        ∧ (∀ z, (s.heat k).out = [z] → ∃ t, exec (.zonePoll k) s = .next t ∧ (t.heat k).out = List.range (s.zones k)
          ∧ Map.get (fun _ => false) (t.heat k).lastBad z = true
          ∧ (Map.get (fun _ => 0) (s.heat k).bad z ≠ 2 → t.faults = s.faults
            ∧ Map.get (fun _ => 0) (t.heat k).bad z = Map.get (fun _ => 0) (s.heat k).bad z + 1)
          ∧ (Map.get (fun _ => 0) (s.heat k).bad z = 2 → t.latched 0x0b03 (obj clsDT k) = true
            ∧ Raised t 0x0b03 (obj clsDT k) [obj clsDT k, z, 1])))
      ∧ (∀ (z : Idx) rx v c r, s.zoneRead k z = some (c, r) → (s.heat k).round = some r → z ∈ (s.heat k).out →
        v = s.zoneValue k z rx → ∃ t, exec (.zoneReadDone k z rx) s = .next t
        ∧ t.spiQueue c = (s.spiQueue c).drop 1 ∧ (t.heat k).out = (s.heat k).out.filter (fun x => x != z)
        ∧ (-40000 ≤ v → v ≤ 400000 → t.zoneTemp k z = v ∧ Map.get (fun _ => 0) (t.heat k).bad z = 0
          ∧ (v ≤ s.zoneI k z 24 4 → t.faults = s.faults)
          ∧ (s.zoneI k z 24 4 < v → t.latched 0x0b02 (obj clsDT k) = true ∧ Raised t 0x0b02 (obj clsDT k) [obj clsDT k, z, i64 v]))
        ∧ (v < -40000 ∨ 400000 < v → t.zoneTemp k z = s.zoneTemp k z ∧ Map.get (fun _ => false) (t.heat k).lastBad z = true)))
    ∧ (∀ (z : Idx) rx, (∀ c r, s.zoneRead k z = some (c, r) → (s.heat k).round ≠ some r → exec (.zoneReadDone k z rx) s = .next (s.spiPop c))
      ∧ (s.zoneRead k z = none → exec (.zoneReadDone k z rx) s = .next s))
    ∧ (∀ w, At s inEvents → s.tMode k = 5 → (s.heat k).okSince = some w → (s.heat k).inWindow = false → s.heatIn k = true → w + s.settleT k ≤ s.tempo →
      ∃ t, exec (.heatWindowSettled k) s = .next t ∧ t.heat k = { s.heat k with inWindow := true }
        ∧ Raised t 0x0b05 (obj clsDT k) [obj clsDT k, 1, i64 (s.ctrlTemp k)])
    ∧ (∀ (j : Idx) l w, j < 3 → s.tMode k = 6 → l = s.leg (4 * k + j) →
      (At s inEvents → l.okSince = some w → l.inWindow = false → s.legIn k j = true → w + s.settleT k ≤ s.tempo →
        ∃ t, exec (.hvWindowSettled k j) s = .next t ∧ t.leg (4 * k + j) = { l with inWindow := true }
          ∧ Raised t 0x0b13 (obj clsDT k) [obj clsDT k, j + 1, 1, i64 (Int.tdiv l.y 65536)])
      ∧ (At s inTimeouts → l.offUntil = some w → w ≤ s.tempo → ∃ t, exec (.hvArcOffExpire k j) s = .next t
        ∧ t.leg (4 * k + j) = { l with spEff := 0, integ := 0, d := 0, mPrev := none, satRun := 0, offUntil := none }
        ∧ (∀ i, i ≠ 4 * k + j → t.leg i = s.leg i) ∧ t.faults = s.faults))
    ∧ (s.tMode k = 5 ∨ s.tMode k = 6 → s.heatAlive k = true → 0 < s.fb k 44 4 →
      (s.heat k).reportAt + s.fb k 44 4 * 500000 ≤ s.tempo → ∃ t fs, exec (.heatHvStatusReport k) s = .next t
        ∧ t.heat k = { s.heat k with reportAt := s.tempo } ∧ Raised t 0x0b06 (obj clsDT k) (obj clsDT k :: fs)
        ∧ (s.tMode k = 5 → fs = (List.range (s.zones k)).map (fun z => i64 (s.zoneTemp k z)) ++ [i64 (Int.tdiv (s.heat k).f 65536)]))

/-- Standby power-on clears everything but the ledger and ends in Dormant; its loss leaves the entry being written with CHECK_OK 0. A pin reset with the own rails good ends in Configure with every parameter cleared, SPLL to lock and only the faults that hold PWRFLT_N; otherwise in Dormant. A WAKE_N that has passed its filter enables RL00, then RL01 to RL04, then SPLL, and the lock of SPLL starts the tempo from 0 in Configure and reports what the always-on domain noted. An own rail that does not rise, or is lost, holds PWRFLT_N, is noted in the ledger and powers the device down; a kept rail lost in Dormant does so without the power-down. PERST# released lets the link train and come up; a host link reset returns the rings to their reset, and lets a DORMANT_ENTER whose response is lost go on. What the always-on domain reports after a wake, and when the own rails' power-down ends, are the model's (assumptions 17, 37 and 40). -/
def Obligations.PowerResetAndDormantFollowTheAlwaysOnDomain : Prop :=
  ∀ s : State,
    (∃ t, exec .standbyPowerOn s = .next t ∧ t.md = { State.reset.md with mode := .dormant } ∧ t.aon.ledger = s.aon.ledger
      ∧ t.aon.standbyOn = true ∧ t.aon.pwrflt = [] ∧ t.aon.keep = 0 ∧ t.faults = [] ∧ t.params = [] ∧ t.rails.rails = [] ∧ t.running = false
      ∧ t.die = s.die)
    ∧ (∃ t, exec .standbyPowerLoss s = .next t ∧ t.md.mode = .dormant ∧ t.aon.standbyOn = false ∧ t.aon.pwrflt = [] ∧ t.faults = []
      ∧ (s.aon.ledgerQueue = [] → t.aon.ledger = s.aon.ledger)
      ∧ (∀ e rest, s.aon.ledgerQueue = e :: rest → t.aon.ledger = s.aon.ledger ++ [{ e with ok := false }]))
    ∧ (s.ownGood = true → s.aon.wake ≠ .down → s.md.mode ≠ .dormant → ∃ t, exec .pinReset s = .next t ∧ t.md.mode = .configure
      ∧ t.md.boot = .init ∧ t.md.pressOk = false ∧ t.params = [] ∧ t.tempo = 0 ∧ t.running = false ∧ t.aon.wake = .spll
      ∧ t.aon.resetLow = true ∧ t.aon.ledger = s.aon.ledger
      ∧ t.faults = s.faults.filter (fun f => s.aon.pwrflt.contains (f.code, f.obj)))
    ∧ (s.ownGood = false ∨ s.aon.wake = .down ∨ s.md.mode = .dormant → ∃ t, exec .pinReset s = .next t ∧ t.md.mode = .dormant
      ∧ t.aon.wake = .idle ∧ t.aon.ownUp = [] ∧ t.params = [] ∧ t.aon.resetLow = true)
    ∧ exec .resetNRelease s = .next { s with aon := { s.aon with resetLow := false } }
    ∧ (s.aon.standbyOn = true → s.aon.resetLow = false →
      (s.md.mode = .dormant → s.aon.wake = .idle → exec .wakeFilterDone s = .next { s with aon := { s.aon with wake := .rl00 } })
      ∧ (s.aon.wake = .down → exec .wakeFilterDone s = .next { s with aon := { s.aon with wakePending := true } }))
    ∧ (s.aon.wake = .rl00 → exec (.ownRailSettled 0) s = .next { s with aon := { s.aon with
        ownUp := Map.put (fun _ => false) s.aon.ownUp 0 true, wake := .rails } })
    ∧ (∀ i : Idx, 1 ≤ i → i < 5 → s.aon.wake = .rails → ∃ t, exec (.ownRailSettled i) s = .next t
      ∧ t.aon.ownUp = Map.put (fun _ => false) s.aon.ownUp i true ∧ t.md = s.md
      ∧ ((∃ j, j < 5 ∧ j ≠ i ∧ Map.get (fun _ => false) s.aon.ownUp j = false) → t.aon.wake = .rails ∧ t.clk = s.clk)
      ∧ ((∀ j, j < 5 → j ≠ i → Map.get (fun _ => false) s.aon.ownUp j = true) → t.aon.wake = .spll
        ∧ (t.pll 0).state ≠ .off ∧ (t.pll 1).state ≠ .off))
    ∧ (s.aon.wake = .spll → s.running = false → s.aon.resetLow = false → ∃ t, exec .wakeSpllLocked s = .next t ∧ t.running = true
      ∧ t.tempo = 0 ∧ t.md.mode = .configure ∧ t.aon.wake = .idle ∧ t.aon.notes = [] ∧ (t.pll 0).state = .locked
      ∧ t.host.training = s.host.perst
      ∧ (∀ c i x, (c, i, x) ∈ s.aon.notes → c ≠ 0x0c05 → s.objHere objDEV = true → t.latched c objDEV = true ∧ Raised t c objDEV [obj clsRAIL i, x])
      ∧ (∀ i x, (0x0c05, i, x) ∈ s.aon.notes → s.objHere (obj clsRAIL i) = true → t.latched 0x0c05 (obj clsRAIL i) = true
        ∧ Raised t 0x0c05 (obj clsRAIL i) [obj clsRAIL i]))
    ∧ (s.aon.wake = .rl00 → ∃ t, exec (.ownRailRiseTimeout 0) s = .next t ∧ t.md.mode = .dormant ∧ (0x0c04, objDEV) ∈ t.aon.pwrflt
      ∧ t.aon.notes = s.aon.notes ++ [(0x0c04, 0, 0)] ∧ t.aon.ownUp = [])
    ∧ (∀ i : Idx, 1 ≤ i → i < 5 →
      (s.aon.wake = .rails → Map.get (fun _ => false) s.aon.ownUp i = false → ∃ t, exec (.ownRailRiseTimeout i) s = .next t
        ∧ t.aon.wake = .down ∧ t.aon.downAt = s.tempo ∧ (0x0c04, objDEV) ∈ t.aon.pwrflt ∧ t.aon.notes = s.aon.notes ++ [(0x0c04, i, 0)])
      ∧ (s.md.mode ≠ .dormant → s.running = true → s.aon.wake ≠ .down → s.objHere objDEV = true →
        ∃ t, exec (.ownRailFault i) s = .next t ∧ t.latched 0x0c04 objDEV = true ∧ Raised t 0x0c04 objDEV [obj clsRAIL i, 1]
          ∧ (0x0c04, objDEV) ∈ t.aon.pwrflt
          ∧ (t.aon.wake = .down ∨ ∃ d, d ∈ t.rails.downs ∧ d.cause = .ownRail ∧ d.wait = none)
          ∧ (s.md.mode ∈ [Mode.warmUp, .ready, .print, .runOut] → t.md.mode = .safeHold)))
    ∧ (Map.get (fun _ => false) s.aon.ownUp 0 = true → ∃ t, exec .ownRailFaultRl00 s = .next t ∧ t.md.mode = .dormant
      ∧ t.aon.ownUp = [] ∧ (0x0c04, objDEV) ∈ t.aon.pwrflt ∧ ∃ x, t.aon.notes = s.aon.notes ++ [(0x0c04, 0, x)])
    ∧ (s.aon.wake = .down →
      ((∀ i, 1 ≤ i → i < 5 → Map.get (fun _ => false) s.aon.ownUp i = false) → ∃ t, exec .ownRailPowerDown s = .next t
        ∧ t.md.mode = .dormant ∧ t.aon.ownUp = [] ∧ t.aon.notes = s.aon.notes ∧ t.aon.wakePending = false
        ∧ t.aon.wake = if s.aon.wakePending && !s.aon.resetLow then .rl00 else .idle)
      ∧ (∀ i, 1 ≤ i → i < 5 → Map.get (fun _ => false) s.aon.ownUp i = true → s.aon.downAt + 5000000 ≤ s.tempo →
        ∃ t, exec .ownRailPowerDown s = .next t ∧ t.md.mode = .dormant ∧ (0x0c03, i, 0) ∈ t.aon.notes
          ∧ (0x0c03, objDEV) ∈ t.aon.pwrflt))
    ∧ (∀ i : Idx, s.md.mode = .dormant → 5 ≤ i → i < 32 → bit s.aon.keep i = true → bit s.aon.watch i = true → (s.rail i).state = .up →
      ∃ t, exec (.dormantPgLost i) s = .next t ∧ (t.rail i).state = .failed ∧ t.aon.notes = s.aon.notes ++ [(0x0c05, i, 0)]
        ∧ (0x0c05, obj clsRAIL i) ∈ t.aon.pwrflt ∧ t.md = s.md
        ∧ (s.aon.ledger.length + s.aon.ledgerQueue.length < 64 →
          ∃ e, t.aon.ledgerQueue = s.aon.ledgerQueue ++ [e] ∧ e.kind = 5 ∧ e.source = i))
    ∧ exec .perstDeassert s = .next { s with host := { s.host with
        perst := true, training := !s.host.linkUp && s.running && s.md.mode != .dormant } }
    ∧ (s.host.training = true → ∃ t rate width, exec .hostLinkUp s = .next t ∧ 1 ≤ rate ∧ rate ≤ 4 ∧ width ∈ [1, 2, 4, 8]
      ∧ t.host = { s.host with training := false, linkUp := true, cfg := { s.host.cfg with rate, width } } ∧ t.params = s.params ∧ t.faults = s.faults)
    ∧ (∀ c : LinkReset, s.md.leaving ≠ none → ∃ t, exec (.hostLinkReset c) s = .next t ∧ t.host.linkUp = false ∧ t.md.leaving = none)
    ∧ (∀ c : LinkReset, s.md.leaving = none → ∃ t, exec (.hostLinkReset c) s = .next t ∧ t.host.linkUp = (s.host.linkUp && c == .flr)
      ∧ t.host.perst = (s.host.perst && c != .perst) ∧ t.host.msixEn = false ∧ t.host.msix = [] ∧ t.host.pba = 0 ∧ t.host.cfg = {}
      ∧ t.host.training = (s.host.perst && (c == .dlDown || c == .hotReset) && s.running)
      ∧ t.host.linkNote = some s.tempo ∧ t.params = s.params
      ∧ ((∀ ch, ch < 32 → (s.dma ch).state ≠ .running) → s.store.reqs = [] → t.faults = s.faults)
      ∧ (∀ n, n < 16 → (t.ring n).en = false ∧ (t.ring n).cmdTail = 0 ∧ (t.ring n).cmdHead = 0 ∧ (t.ring n).waiting = []
        ∧ (t.ring n).epoch = (s.ring n).epoch + 1))

/-- A conversion in which all 16 sensors are HEALTHY and agree keeps them so and takes their maximum: from 100 °C the guard warns with 0x0d01, from 103 °C it takes a throttle step, below 97 °C a warning ends with 0x0d02, from 115 °C it trips, with PWRFLT_N, 30 % and Safe-hold, and a tripped guard from 125 °C on is CRITICAL and powers the rails down. A sensor apart from its HEALTHY neighbours in a fourth conversion in a row is SUSPECT with 0x0d05. A ledger entry written joins the ledger, and the last slot raises 0x0d13. AGEING_NEW starts a new table. MARGIN_PLAN runs, and its end, once the regulator's controller is free, sets the grade, voltage, pulse scales and derates, raises 0x0d20, and answers or lets the mode go on to Warm-up. The die maximum, the repeat of 0x0d02 and the order of the neighbours are read as assumption 38 says. -/
def Obligations.TheThermalGuardThrottlesTripsAndPlansTheMargin : Prop :=
  (∀ (s : State) (rs : List Int) (v : Int), At s inProtect → s.converts = true → s.objHere objDEV = true →
    (∀ k, k < 16 → (s.sensor k).suspect = false) → (∀ i j, i < 16 → j < 16 → (rs.getD i 0 - rs.getD j 0).natAbs ≤ 96) →
    (∀ k, k < 16 → rs.getD k 0 ≤ v) → (∃ k, k < 16 ∧ rs.getD k 0 = v) → ∃ t, exec (.thermalConversion rs) s = .next t
      ∧ t.therm.convAt = some s.tempo ∧ t.therm.max = v ∧ rs.getD t.therm.maxSensor 0 = v ∧ t.therm.maxSensor < 16 ∧ t.therm.peakMax = max s.therm.peakMax v
      ∧ (∀ k, k < 16 → (t.sensor k).temp = rs.getD k 0 ∧ (t.sensor k).suspect = false)
      ∧ (s.therm.state = 0 → 800 ≤ v → v < 920 → 1 ≤ t.therm.state
        ∧ Raised t 0x0d01 objDEV [obj clsTS t.therm.maxSensor, eighths v])
      ∧ (s.therm.state ≤ 2 → 824 ≤ v → v < 920 → t.therm.state = 2
        ∧ (s.therm.stepAt = none ∨ (∃ w, s.therm.stepAt = some w ∧ w + 50000000 ≤ s.tempo) →
          t.therm.step = max 30 (s.therm.step - 10)
          ∧ (30 < s.therm.step → Raised t 0x0d03 objDEV [s.therm.step, max 30 (s.therm.step - 10), 1])))
      ∧ (s.therm.state = 1 → v < 776 → s.therm.ratePend = false →
        (∀ k, k < 16 → (s.sensor k).hist.length < 1024 ∧ (s.sensor k).rate ≤ (s.par clsDEV 0 0x070 : Int)) →
        t.therm.state = 0 ∧ Raised t 0x0d02 objDEV [eighths v])
      ∧ (s.therm.state ≤ 2 → 920 ≤ v → v < 1000 → t.therm.state = 3 ∧ t.therm.step = 30 ∧ t.thermTrip = true
        ∧ t.latched 0x0d10 objDEV = true ∧ (0x0d10, objDEV) ∈ t.aon.pwrflt ∧ t.therm.trips = s.therm.trips + 1
        ∧ Raised t 0x0d10 objDEV [obj clsTS t.therm.maxSensor, eighths v, s.md.mode.code]
        ∧ (s.md.mode ∈ [Mode.warmUp, .ready, .print, .runOut] → t.md.mode = .safeHold))
      ∧ (s.therm.state = 3 → 1000 ≤ v → t.therm.state = 4 ∧ t.latched 0x0d11 objDEV = true
        ∧ Raised t 0x0d11 objDEV [obj clsTS t.therm.maxSensor, eighths v]
        ∧ (t.aon.wake = .down ∨ ∃ d, d ∈ t.rails.downs ∧ d.cause = .ownRail)
        ∧ (∀ k, s.inService clsDT k = true → s.canTurnOff k = true → (t.tile k).prot = .twoStep)))
  ∧ (∀ (s : State) (rs : List Int) (k : Nat), At s inProtect → s.converts = true → k < 16 → s.objHere (obj clsTS k) = true →
    (s.sensor k).suspect = false → (s.sensor k).run = 3 → s.healthyNear k ≠ [] →
    (∀ n, n ∈ s.healthyNear k → 96 < (rs.getD k 0 - rs.getD n 0).natAbs) → ∃ t, exec (.thermalConversion rs) s = .next t
      ∧ (t.sensor k).suspect = true ∧ (t.sensor k).temp = rs.getD k 0
      ∧ Raised t 0x0d05 (obj clsTS k) (obj clsTS k :: eighths (rs.getD k 0) :: (neighbours k).map (fun n => eighths (rs.getD n 0))))
  ∧ (∀ (s : State) (e : LedgerEntry) (rest : List LedgerEntry), s.aon.ledgerQueue = e :: rest → ∃ t, exec .ledgerWriteDone s = .next t
    ∧ t.aon.ledger = s.aon.ledger ++ [e] ∧ t.aon.ledgerQueue = rest ∧ t.faults = s.faults ∧ t.rails = s.rails
    ∧ (s.aon.ledger.length = 63 → s.aon.ledgerFull = false → s.md.mode ≠ .dormant → s.objHere objDEV = true →
      t.aon.ledgerFull = true ∧ Raised t 0x0d13 objDEV []))
  ∧ (∀ (m : Msg) (s : State),
    (Takes 0x0810 m 0 noArg s → s.md.mode ∈ modesCfSb → exec (.ageingNew m) s = .next ({ s.setTable 0x09 0
        ([1, 0, 1, 0] ++ toLE 8 s.die.dieId ++ List.replicate 5108 (0 : Byte)) with ageNew := true }.ok (s.replyOf 0x0810 m)))
    ∧ (Takes 0x0811 m 0 noArg s → s.md.mode ∈ [Mode.standby, .warmUp] → s.therm.plan = none → ∃ t, exec (.marginPlan m) s = .next t
      ∧ t.therm = { s.therm with plan := some (some (s.replyOf 0x0811 m)) } ∧ t.md = s.md ∧ t.params = s.params
      ∧ t.host = (s.hold 0x0811 m).host))
  ∧ (∀ (s s1 : State) (p : PlanObs) (r : Option Reply) (new : Bool), s.therm.plan = some r → s.therm.due = none →
    (s.planFree = false → exec (.marginPlanDone p) s = .next { s with therm := { s.therm with due := some p } })
    ∧ (s.planFree = true → s.objHere objDEV = true → new = bit (s.ageField 2 1) 0 → s1 = s.measureRo p.ro → ∃ t fs, exec (.marginPlanDone p) s = .next t ∧ t.therm.due = none
      ∧ Raised t 0x0d20 objDEV fs ∧ (s.md.wdExpired = false ∨ r ≠ none → t.faults = s.faults)
      ∧ (new = true → t.therm.grade = 0 ∧ ∀ k, s.inService clsDT k = true → (t.tile k).derate = 65536)
      ∧ (new = false → t.therm.grade = min 3 (ceilDiv (s.die.v0 + 5 * s1.slowSteps - 800) 10)
        ∧ ∀ k, s.inService clsDT k = true → (t.tile k).derate = s1.planDerate k)
      ∧ (∀ x, bit (s.par clsDEV 0 0x076) 0 = true → p.vcore = .mode x → field x 5 3 = 0 →
        t.therm.vcore = if new then s.die.v0 else min 800 (max 700 (s.die.v0 + 5 * s1.slowSteps)))
      ∧ (bit (s.par clsDEV 0 0x076) 0 = false → t.therm.vcore = s.therm.vcore)
      ∧ (bit (s.par clsDEV 0 0x076) 0 = true → p.vcore.written = false → t.therm.vcore = s.therm.vcore
        ∧ ∃ c v, Raised t 0x0d23 objDEV [c, v] ∧ (p.vcore = .nack → c = 1) ∧ (p.vcore ≠ .nack → c = 2))
      ∧ (∀ x, r = some x → t.md = s.md ∧ (s.md.pend = none → t.therm.plan = none)
        ∧ (∀ b, s.md.pend = some { target := .warmUp, reply := b } → t.therm.plan = some none))
      ∧ (∀ b, r = none → s.md.pend = some { target := .warmUp, reply := b } → s.md.wdExpired = false →
        t.md.mode = .warmUp ∧ t.md.pend = none ∧ t.therm.plan = none)))
end

