-- ==== Sys2Proof/Laws/Map.lean ====
section
/-!
SUPPORT. Laws of finite maps: what a write changes, and that every operation keeps the one form of a map.
-/
namespace Sys2Proof.Machine

theorem Map.get_insert {α : Type} (d : Nat → α) (m : Map α) (k j : Nat) (v : α) :
    Map.get d (Map.insert m k v) j = if j = k then v else Map.get d m j := by
  induction m with
  | nil => rfl
  | cons e m ih =>
    obtain ⟨a, x⟩ := e
    simp only [Map.insert]
    split
    · next h =>
      subst h
      simp only [Map.get]
      split <;> rfl
    · split
      · rfl
      · next h _ =>
        simp only [Map.get, ih]
        by_cases hj : j = a
        · subst hj
          simp [Ne.symm h]
        · simp [hj]

theorem Map.get_erase {α : Type} (d : Nat → α) (m : Map α) (k j : Nat) :
    Map.get d (Map.erase m k) j = if j = k then d k else Map.get d m j := by
  induction m with
  | nil => simp only [Map.erase, List.filter_nil, Map.get]; split <;> simp_all
  | cons e m ih =>
    obtain ⟨a, x⟩ := e
    simp only [Map.erase, List.filter_cons] at ih ⊢
    by_cases ha : a = k
    · subst ha
      simp only [ne_eq, not_true_eq_false, decide_false, Bool.false_eq_true, ↓reduceIte, ih, Map.get]
      split <;> simp_all
    · simp only [ne_eq, ha, not_false_eq_true, decide_true, ↓reduceIte, Map.get, ih]
      by_cases hj : j = a
      · subst hj; simp [ha]
      · simp [hj]

/-- A write changes its key alone. -/
theorem Map.get_put {α : Type} [DecidableEq α] (d : Nat → α) (m : Map α) (k : Nat) (v : α) (j : Nat) :
    Map.get d (Map.put d m k v) j = if j = k then v else Map.get d m j := by
  unfold Map.put
  split
  · next h => rw [Map.get_erase]; split <;> simp_all
  · exact Map.get_insert d m k j v

theorem Map.get_put_self {α : Type} [DecidableEq α] (d : Nat → α) (m : Map α) (k : Nat) (v : α) :
    Map.get d (Map.put d m k v) k = v := by simp [Map.get_put]

theorem Map.wfFrom_mono {α : Type} [DecidableEq α] {d : Nat → α} {lo hi : Nat} {m : Map α} (h : lo ≤ hi)
    (w : Map.wfFrom d hi m = true) : Map.wfFrom d lo m = true := by
  cases m with
  | nil => rfl
  | cons e m => simp [Map.wfFrom] at w ⊢; exact ⟨⟨by omega, w.1.2⟩, w.2⟩

theorem Map.wfFrom_insert {α : Type} [DecidableEq α] {d : Nat → α} {m : Map α} {lo k : Nat} {v : α} (h : lo ≤ k) (hv : v ≠ d k)
    (w : Map.wfFrom d lo m = true) : Map.wfFrom d lo (Map.insert m k v) = true := by
  induction m generalizing lo with
  | nil => simp [Map.insert, Map.wfFrom, h, hv]
  | cons e m ih =>
    obtain ⟨a, x⟩ := e
    simp only [Map.wfFrom, Bool.and_eq_true, decide_eq_true_eq] at w
    obtain ⟨⟨hla, hxa⟩, wm⟩ := w
    simp only [Map.insert]
    split
    · next hk => subst hk; simp [Map.wfFrom, h, hv, wm]
    · split
      · next hk hlt => simp [Map.wfFrom, h, hv, hxa, wm]; omega
      · next hk hlt =>
        simp only [Map.wfFrom, Bool.and_eq_true, decide_eq_true_eq]
        exact ⟨⟨hla, hxa⟩, ih (by omega) wm⟩

theorem Map.wfFrom_filter {α : Type} [DecidableEq α] {d : Nat → α} {m : Map α} {lo : Nat} (p : Nat × α → Bool)
    (w : Map.wfFrom d lo m = true) : Map.wfFrom d lo (m.filter p) = true := by
  induction m generalizing lo with
  | nil => rfl
  | cons e m ih =>
    obtain ⟨a, x⟩ := e
    simp only [Map.wfFrom, Bool.and_eq_true, decide_eq_true_eq] at w
    simp only [List.filter]
    split
    · simp [Map.wfFrom, w.1.1, w.1.2, ih w.2]
    · exact Map.wfFrom_mono (by omega) (ih w.2)

theorem Map.wf_put {α : Type} [DecidableEq α] {d : Nat → α} {m : Map α} (k : Nat) (v : α) (w : Map.wf d m = true) :
    Map.wf d (Map.put d m k v) = true := by
  unfold Map.put
  split
  · exact Map.wfFrom_filter _ w
  · next h => exact Map.wfFrom_insert (Nat.zero_le _) h w

theorem Map.wfFrom_mapV {α : Type} [DecidableEq α] {d : Nat → α} {m : Map α} {lo : Nat} (f : Nat → α → α)
    (w : Map.wfFrom d lo m = true) : Map.wfFrom d lo (Map.mapV d m f) = true := by
  induction m generalizing lo with
  | nil => rfl
  | cons e m ih =>
    obtain ⟨a, x⟩ := e
    simp only [Map.wfFrom, Bool.and_eq_true, decide_eq_true_eq] at w
    simp only [Map.mapV, List.filterMap_cons]
    have := ih w.2
    simp only [Map.mapV] at this
    by_cases h : f a x = d a
    · simp only [h, ↓reduceIte]; exact Map.wfFrom_mono (by omega) this
    · simp only [h, ↓reduceIte, Map.wfFrom, this]; simp [w.1.1]; exact h

theorem Map.get_cases {α : Type} {d : Nat → α} (m : Map α) (k : Nat) :
    Map.get d m k = d k ∨ (k, Map.get d m k) ∈ m := by
  induction m with
  | nil => exact .inl rfl
  | cons e m ih =>
    obtain ⟨a, x⟩ := e
    simp only [Map.get]
    split
    · next h => subst h; exact .inr (List.mem_cons_self ..)
    · exact ih.imp id (List.mem_cons_of_mem _)

theorem Map.mem_insert {α : Type} {m : Map α} {k : Nat} {v : α} {e : Nat × α} (h : e ∈ Map.insert m k v) : e = (k, v) ∨ e ∈ m := by
  induction m with
  | nil => simpa [Map.insert] using h
  | cons a m ih =>
    obtain ⟨a, x⟩ := a
    simp only [Map.insert] at h
    split at h
    · rcases List.mem_cons.1 h with h | h
      · exact .inl h
      · exact .inr (List.mem_cons_of_mem _ h)
    · split at h
      · rcases List.mem_cons.1 h with h | h
        · exact .inl h
        · exact .inr h
      · rcases List.mem_cons.1 h with h | h
        · exact .inr (h ▸ List.mem_cons_self ..)
        · exact (ih h).imp id (List.mem_cons_of_mem _)

theorem Map.mem_put {α : Type} [DecidableEq α] {d : Nat → α} {m : Map α} {k : Nat} {v : α} {e : Nat × α}
    (h : e ∈ Map.put d m k v) : e = (k, v) ∨ e ∈ m := by
  unfold Map.put at h
  split at h
  · exact .inr (List.mem_filter.1 h).1
  · exact Map.mem_insert h

end Sys2Proof.Machine
end

