-- ==== Sys2Proof/Laws/State.lean ====
section
/-!
SUPPORT. What writing one unit leaves as it was: for each unit `x`, one lemma per part of the state and per other kind of unit, and
what reading the unit written gives. `updX` is `setX` of the changed unit.
-/
namespace Sys2Proof.Machine
variable (s : State) (k : Nat)

/-! ### Ring -/

theorem State.updRing_eq (f : Ring → Ring) : s.updRing k f = s.setRing k (f (s.ring k)) := rfl
@[simp] theorem State.setRing_get (v : Ring) (j : Nat) : (s.setRing k v).ring j = if j = k then v else s.ring j := Map.get_put _ _ _ _ _
@[simp] theorem State.updRing_get (f : Ring → Ring) (j : Nat) : (s.updRing k f).ring j = if j = k then f (s.ring k) else s.ring j := Map.get_put _ _ _ _ _
@[simp] theorem State.setRing_die (v : Ring) : (s.setRing k v).die = s.die := rfl
@[simp] theorem State.setRing_free (v : Ring) : (s.setRing k v).free = s.free := rfl
@[simp] theorem State.setRing_pending (v : Ring) : (s.setRing k v).pending = s.pending := rfl
@[simp] theorem State.setRing_tempo (v : Ring) : (s.setRing k v).tempo = s.tempo := rfl
@[simp] theorem State.setRing_running (v : Ring) : (s.setRing k v).running = s.running := rfl
@[simp] theorem State.setRing_follower (v : Ring) : (s.setRing k v).follower = s.follower := rfl
@[simp] theorem State.setRing_md (v : Ring) : (s.setRing k v).md = s.md := rfl
@[simp] theorem State.setRing_faults (v : Ring) : (s.setRing k v).faults = s.faults := rfl
@[simp] theorem State.setRing_firstCode (v : Ring) : (s.setRing k v).firstCode = s.firstCode := rfl
@[simp] theorem State.setRing_firstTempo (v : Ring) : (s.setRing k v).firstTempo = s.firstTempo := rfl
@[simp] theorem State.setRing_thermTrip (v : Ring) : (s.setRing k v).thermTrip = s.thermTrip := rfl
@[simp] theorem State.setRing_watchdog (v : Ring) : (s.setRing k v).watchdog = s.watchdog := rfl
@[simp] theorem State.setRing_params (v : Ring) : (s.setRing k v).params = s.params := rfl
@[simp] theorem State.setRing_removed (v : Ring) : (s.setRing k v).removed = s.removed := rfl
@[simp] theorem State.setRing_promotions (v : Ring) : (s.setRing k v).promotions = s.promotions := rfl
@[simp] theorem State.setRing_ageNew (v : Ring) : (s.setRing k v).ageNew = s.ageNew := rfl
@[simp] theorem State.setRing_aon (v : Ring) : (s.setRing k v).aon = s.aon := rfl
@[simp] theorem State.setRing_sheets (v : Ring) : (s.setRing k v).sheets = s.sheets := rfl
@[simp] theorem State.setRing_clk (v : Ring) : (s.setRing k v).clk = s.clk := rfl
@[simp] theorem State.setRing_store (v : Ring) : (s.setRing k v).store = s.store := rfl
@[simp] theorem State.setRing_video (v : Ring) : (s.setRing k v).video = s.video := rfl
@[simp] theorem State.setRing_drive (v : Ring) : (s.setRing k v).drive = s.drive := rfl
@[simp] theorem State.setRing_rails (v : Ring) : (s.setRing k v).rails = s.rails := rfl
@[simp] theorem State.setRing_therm (v : Ring) : (s.setRing k v).therm = s.therm := rfl
@[simp] theorem State.setRing_mems (v : Ring) : (s.setRing k v).mems = s.mems := rfl
@[simp] theorem State.setRing_io (v : Ring) : (s.setRing k v).io = s.io := rfl
@[simp] theorem State.setRing_out (v : Ring) : (s.setRing k v).out = s.out := rfl
@[simp] theorem State.setRing_jtag (v : Ring) : (s.setRing k v).jtag = s.jtag := rfl
@[simp] theorem State.setRing_place (v : Ring) : (s.setRing k v).place = s.place := rfl
@[simp] theorem State.setRing_snap (v : Ring) : (s.setRing k v).snap = s.snap := rfl
@[simp] theorem State.setRing_pll (v : Ring) (j : Nat) : (s.setRing k v).pll j = s.pll j := rfl
@[simp] theorem State.setRing_gear (v : Ring) (j : Nat) : (s.setRing k v).gear j = s.gear j := rfl
@[simp] theorem State.setRing_enc (v : Ring) (j : Nat) : (s.setRing k v).enc j = s.enc j := rfl
@[simp] theorem State.setRing_gpio (v : Ring) (j : Nat) : (s.setRing k v).gpio j = s.gpio j := rfl
@[simp] theorem State.setRing_castle (v : Ring) (j : Nat) : (s.setRing k v).castle j = s.castle j := rfl
@[simp] theorem State.setRing_ticket (v : Ring) (j : Nat) : (s.setRing k v).ticket j = s.ticket j := rfl
@[simp] theorem State.setRing_page (v : Ring) (j : Nat) : (s.setRing k v).page j = s.page j := rfl
@[simp] theorem State.setRing_dma (v : Ring) (j : Nat) : (s.setRing k v).dma j = s.dma j := rfl
@[simp] theorem State.setRing_station (v : Ring) (j : Nat) : (s.setRing k v).station j = s.station j := rfl
@[simp] theorem State.setRing_lane (v : Ring) (j : Nat) : (s.setRing k v).lane j = s.lane j := rfl
@[simp] theorem State.setRing_beam (v : Ring) (j : Nat) : (s.setRing k v).beam j = s.beam j := rfl
@[simp] theorem State.setRing_link (v : Ring) (j : Nat) : (s.setRing k v).link j = s.link j := rfl
@[simp] theorem State.setRing_tile (v : Ring) (j : Nat) : (s.setRing k v).tile j = s.tile j := rfl
@[simp] theorem State.setRing_bus (v : Ring) (j : Nat) : (s.setRing k v).bus j = s.bus j := rfl
@[simp] theorem State.setRing_group (v : Ring) (j : Nat) : (s.setRing k v).group j = s.group j := rfl
@[simp] theorem State.setRing_axis (v : Ring) (j : Nat) : (s.setRing k v).axis j = s.axis j := rfl
@[simp] theorem State.setRing_poly (v : Ring) (j : Nat) : (s.setRing k v).poly j = s.poly j := rfl
@[simp] theorem State.setRing_loop (v : Ring) (j : Nat) : (s.setRing k v).loop j = s.loop j := rfl
@[simp] theorem State.setRing_heat (v : Ring) (j : Nat) : (s.setRing k v).heat j = s.heat j := rfl
@[simp] theorem State.setRing_leg (v : Ring) (j : Nat) : (s.setRing k v).leg j = s.leg j := rfl
@[simp] theorem State.setRing_rail (v : Ring) (j : Nat) : (s.setRing k v).rail j = s.rail j := rfl
@[simp] theorem State.setRing_sensor (v : Ring) (j : Nat) : (s.setRing k v).sensor j = s.sensor j := rfl
@[simp] theorem State.setRing_mem (v : Ring) (j : Nat) : (s.setRing k v).mem j = s.mem j := rfl
@[simp] theorem State.setRing_par (v : Ring) (c i p : Nat) : (s.setRing k v).par c i p = s.par c i p := rfl
@[simp] theorem State.updRing_die (f : Ring → Ring) : (s.updRing k f).die = s.die := rfl
@[simp] theorem State.updRing_free (f : Ring → Ring) : (s.updRing k f).free = s.free := rfl
@[simp] theorem State.updRing_pending (f : Ring → Ring) : (s.updRing k f).pending = s.pending := rfl
@[simp] theorem State.updRing_tempo (f : Ring → Ring) : (s.updRing k f).tempo = s.tempo := rfl
@[simp] theorem State.updRing_running (f : Ring → Ring) : (s.updRing k f).running = s.running := rfl
@[simp] theorem State.updRing_follower (f : Ring → Ring) : (s.updRing k f).follower = s.follower := rfl
@[simp] theorem State.updRing_md (f : Ring → Ring) : (s.updRing k f).md = s.md := rfl
@[simp] theorem State.updRing_faults (f : Ring → Ring) : (s.updRing k f).faults = s.faults := rfl
@[simp] theorem State.updRing_firstCode (f : Ring → Ring) : (s.updRing k f).firstCode = s.firstCode := rfl
@[simp] theorem State.updRing_firstTempo (f : Ring → Ring) : (s.updRing k f).firstTempo = s.firstTempo := rfl
@[simp] theorem State.updRing_thermTrip (f : Ring → Ring) : (s.updRing k f).thermTrip = s.thermTrip := rfl
@[simp] theorem State.updRing_watchdog (f : Ring → Ring) : (s.updRing k f).watchdog = s.watchdog := rfl
@[simp] theorem State.updRing_params (f : Ring → Ring) : (s.updRing k f).params = s.params := rfl
@[simp] theorem State.updRing_removed (f : Ring → Ring) : (s.updRing k f).removed = s.removed := rfl
@[simp] theorem State.updRing_promotions (f : Ring → Ring) : (s.updRing k f).promotions = s.promotions := rfl
@[simp] theorem State.updRing_ageNew (f : Ring → Ring) : (s.updRing k f).ageNew = s.ageNew := rfl
@[simp] theorem State.updRing_aon (f : Ring → Ring) : (s.updRing k f).aon = s.aon := rfl
@[simp] theorem State.updRing_sheets (f : Ring → Ring) : (s.updRing k f).sheets = s.sheets := rfl
@[simp] theorem State.updRing_clk (f : Ring → Ring) : (s.updRing k f).clk = s.clk := rfl
@[simp] theorem State.updRing_store (f : Ring → Ring) : (s.updRing k f).store = s.store := rfl
@[simp] theorem State.updRing_video (f : Ring → Ring) : (s.updRing k f).video = s.video := rfl
@[simp] theorem State.updRing_drive (f : Ring → Ring) : (s.updRing k f).drive = s.drive := rfl
@[simp] theorem State.updRing_rails (f : Ring → Ring) : (s.updRing k f).rails = s.rails := rfl
@[simp] theorem State.updRing_therm (f : Ring → Ring) : (s.updRing k f).therm = s.therm := rfl
@[simp] theorem State.updRing_mems (f : Ring → Ring) : (s.updRing k f).mems = s.mems := rfl
@[simp] theorem State.updRing_io (f : Ring → Ring) : (s.updRing k f).io = s.io := rfl
@[simp] theorem State.updRing_out (f : Ring → Ring) : (s.updRing k f).out = s.out := rfl
@[simp] theorem State.updRing_jtag (f : Ring → Ring) : (s.updRing k f).jtag = s.jtag := rfl
@[simp] theorem State.updRing_place (f : Ring → Ring) : (s.updRing k f).place = s.place := rfl
@[simp] theorem State.updRing_snap (f : Ring → Ring) : (s.updRing k f).snap = s.snap := rfl
@[simp] theorem State.updRing_pll (f : Ring → Ring) (j : Nat) : (s.updRing k f).pll j = s.pll j := rfl
@[simp] theorem State.updRing_gear (f : Ring → Ring) (j : Nat) : (s.updRing k f).gear j = s.gear j := rfl
@[simp] theorem State.updRing_enc (f : Ring → Ring) (j : Nat) : (s.updRing k f).enc j = s.enc j := rfl
@[simp] theorem State.updRing_gpio (f : Ring → Ring) (j : Nat) : (s.updRing k f).gpio j = s.gpio j := rfl
@[simp] theorem State.updRing_castle (f : Ring → Ring) (j : Nat) : (s.updRing k f).castle j = s.castle j := rfl
@[simp] theorem State.updRing_ticket (f : Ring → Ring) (j : Nat) : (s.updRing k f).ticket j = s.ticket j := rfl
@[simp] theorem State.updRing_page (f : Ring → Ring) (j : Nat) : (s.updRing k f).page j = s.page j := rfl
@[simp] theorem State.updRing_dma (f : Ring → Ring) (j : Nat) : (s.updRing k f).dma j = s.dma j := rfl
@[simp] theorem State.updRing_station (f : Ring → Ring) (j : Nat) : (s.updRing k f).station j = s.station j := rfl
@[simp] theorem State.updRing_lane (f : Ring → Ring) (j : Nat) : (s.updRing k f).lane j = s.lane j := rfl
@[simp] theorem State.updRing_beam (f : Ring → Ring) (j : Nat) : (s.updRing k f).beam j = s.beam j := rfl
@[simp] theorem State.updRing_link (f : Ring → Ring) (j : Nat) : (s.updRing k f).link j = s.link j := rfl
@[simp] theorem State.updRing_tile (f : Ring → Ring) (j : Nat) : (s.updRing k f).tile j = s.tile j := rfl
@[simp] theorem State.updRing_bus (f : Ring → Ring) (j : Nat) : (s.updRing k f).bus j = s.bus j := rfl
@[simp] theorem State.updRing_group (f : Ring → Ring) (j : Nat) : (s.updRing k f).group j = s.group j := rfl
@[simp] theorem State.updRing_axis (f : Ring → Ring) (j : Nat) : (s.updRing k f).axis j = s.axis j := rfl
@[simp] theorem State.updRing_poly (f : Ring → Ring) (j : Nat) : (s.updRing k f).poly j = s.poly j := rfl
@[simp] theorem State.updRing_loop (f : Ring → Ring) (j : Nat) : (s.updRing k f).loop j = s.loop j := rfl
@[simp] theorem State.updRing_heat (f : Ring → Ring) (j : Nat) : (s.updRing k f).heat j = s.heat j := rfl
@[simp] theorem State.updRing_leg (f : Ring → Ring) (j : Nat) : (s.updRing k f).leg j = s.leg j := rfl
@[simp] theorem State.updRing_rail (f : Ring → Ring) (j : Nat) : (s.updRing k f).rail j = s.rail j := rfl
@[simp] theorem State.updRing_sensor (f : Ring → Ring) (j : Nat) : (s.updRing k f).sensor j = s.sensor j := rfl
@[simp] theorem State.updRing_mem (f : Ring → Ring) (j : Nat) : (s.updRing k f).mem j = s.mem j := rfl
@[simp] theorem State.updRing_par (f : Ring → Ring) (c i p : Nat) : (s.updRing k f).par c i p = s.par c i p := rfl

/-! ### Pll -/

theorem State.updPll_eq (f : Pll → Pll) : s.updPll k f = s.setPll k (f (s.pll k)) := rfl
@[simp] theorem State.setPll_get (v : Pll) (j : Nat) : (s.setPll k v).pll j = if j = k then v else s.pll j := Map.get_put _ _ _ _ _
@[simp] theorem State.updPll_get (f : Pll → Pll) (j : Nat) : (s.updPll k f).pll j = if j = k then f (s.pll k) else s.pll j := Map.get_put _ _ _ _ _
@[simp] theorem State.setPll_die (v : Pll) : (s.setPll k v).die = s.die := rfl
@[simp] theorem State.setPll_free (v : Pll) : (s.setPll k v).free = s.free := rfl
@[simp] theorem State.setPll_pending (v : Pll) : (s.setPll k v).pending = s.pending := rfl
@[simp] theorem State.setPll_tempo (v : Pll) : (s.setPll k v).tempo = s.tempo := rfl
@[simp] theorem State.setPll_running (v : Pll) : (s.setPll k v).running = s.running := rfl
@[simp] theorem State.setPll_follower (v : Pll) : (s.setPll k v).follower = s.follower := rfl
@[simp] theorem State.setPll_md (v : Pll) : (s.setPll k v).md = s.md := rfl
@[simp] theorem State.setPll_host (v : Pll) : (s.setPll k v).host = s.host := rfl
@[simp] theorem State.setPll_faults (v : Pll) : (s.setPll k v).faults = s.faults := rfl
@[simp] theorem State.setPll_firstCode (v : Pll) : (s.setPll k v).firstCode = s.firstCode := rfl
@[simp] theorem State.setPll_firstTempo (v : Pll) : (s.setPll k v).firstTempo = s.firstTempo := rfl
@[simp] theorem State.setPll_thermTrip (v : Pll) : (s.setPll k v).thermTrip = s.thermTrip := rfl
@[simp] theorem State.setPll_watchdog (v : Pll) : (s.setPll k v).watchdog = s.watchdog := rfl
@[simp] theorem State.setPll_params (v : Pll) : (s.setPll k v).params = s.params := rfl
@[simp] theorem State.setPll_removed (v : Pll) : (s.setPll k v).removed = s.removed := rfl
@[simp] theorem State.setPll_promotions (v : Pll) : (s.setPll k v).promotions = s.promotions := rfl
@[simp] theorem State.setPll_ageNew (v : Pll) : (s.setPll k v).ageNew = s.ageNew := rfl
@[simp] theorem State.setPll_aon (v : Pll) : (s.setPll k v).aon = s.aon := rfl
@[simp] theorem State.setPll_sheets (v : Pll) : (s.setPll k v).sheets = s.sheets := rfl
@[simp] theorem State.setPll_store (v : Pll) : (s.setPll k v).store = s.store := rfl
@[simp] theorem State.setPll_video (v : Pll) : (s.setPll k v).video = s.video := rfl
@[simp] theorem State.setPll_drive (v : Pll) : (s.setPll k v).drive = s.drive := rfl
@[simp] theorem State.setPll_rails (v : Pll) : (s.setPll k v).rails = s.rails := rfl
@[simp] theorem State.setPll_therm (v : Pll) : (s.setPll k v).therm = s.therm := rfl
@[simp] theorem State.setPll_mems (v : Pll) : (s.setPll k v).mems = s.mems := rfl
@[simp] theorem State.setPll_io (v : Pll) : (s.setPll k v).io = s.io := rfl
@[simp] theorem State.setPll_out (v : Pll) : (s.setPll k v).out = s.out := rfl
@[simp] theorem State.setPll_jtag (v : Pll) : (s.setPll k v).jtag = s.jtag := rfl
@[simp] theorem State.setPll_place (v : Pll) : (s.setPll k v).place = s.place := rfl
@[simp] theorem State.setPll_snap (v : Pll) : (s.setPll k v).snap = s.snap := rfl
@[simp] theorem State.setPll_ring (v : Pll) (j : Nat) : (s.setPll k v).ring j = s.ring j := rfl
@[simp] theorem State.setPll_gear (v : Pll) (j : Nat) : (s.setPll k v).gear j = s.gear j := rfl
@[simp] theorem State.setPll_enc (v : Pll) (j : Nat) : (s.setPll k v).enc j = s.enc j := rfl
@[simp] theorem State.setPll_gpio (v : Pll) (j : Nat) : (s.setPll k v).gpio j = s.gpio j := rfl
@[simp] theorem State.setPll_castle (v : Pll) (j : Nat) : (s.setPll k v).castle j = s.castle j := rfl
@[simp] theorem State.setPll_ticket (v : Pll) (j : Nat) : (s.setPll k v).ticket j = s.ticket j := rfl
@[simp] theorem State.setPll_page (v : Pll) (j : Nat) : (s.setPll k v).page j = s.page j := rfl
@[simp] theorem State.setPll_dma (v : Pll) (j : Nat) : (s.setPll k v).dma j = s.dma j := rfl
@[simp] theorem State.setPll_station (v : Pll) (j : Nat) : (s.setPll k v).station j = s.station j := rfl
@[simp] theorem State.setPll_lane (v : Pll) (j : Nat) : (s.setPll k v).lane j = s.lane j := rfl
@[simp] theorem State.setPll_beam (v : Pll) (j : Nat) : (s.setPll k v).beam j = s.beam j := rfl
@[simp] theorem State.setPll_link (v : Pll) (j : Nat) : (s.setPll k v).link j = s.link j := rfl
@[simp] theorem State.setPll_tile (v : Pll) (j : Nat) : (s.setPll k v).tile j = s.tile j := rfl
@[simp] theorem State.setPll_bus (v : Pll) (j : Nat) : (s.setPll k v).bus j = s.bus j := rfl
@[simp] theorem State.setPll_group (v : Pll) (j : Nat) : (s.setPll k v).group j = s.group j := rfl
@[simp] theorem State.setPll_axis (v : Pll) (j : Nat) : (s.setPll k v).axis j = s.axis j := rfl
@[simp] theorem State.setPll_poly (v : Pll) (j : Nat) : (s.setPll k v).poly j = s.poly j := rfl
@[simp] theorem State.setPll_loop (v : Pll) (j : Nat) : (s.setPll k v).loop j = s.loop j := rfl
@[simp] theorem State.setPll_heat (v : Pll) (j : Nat) : (s.setPll k v).heat j = s.heat j := rfl
@[simp] theorem State.setPll_leg (v : Pll) (j : Nat) : (s.setPll k v).leg j = s.leg j := rfl
@[simp] theorem State.setPll_rail (v : Pll) (j : Nat) : (s.setPll k v).rail j = s.rail j := rfl
@[simp] theorem State.setPll_sensor (v : Pll) (j : Nat) : (s.setPll k v).sensor j = s.sensor j := rfl
@[simp] theorem State.setPll_mem (v : Pll) (j : Nat) : (s.setPll k v).mem j = s.mem j := rfl
@[simp] theorem State.setPll_par (v : Pll) (c i p : Nat) : (s.setPll k v).par c i p = s.par c i p := rfl
@[simp] theorem State.updPll_die (f : Pll → Pll) : (s.updPll k f).die = s.die := rfl
@[simp] theorem State.updPll_free (f : Pll → Pll) : (s.updPll k f).free = s.free := rfl
@[simp] theorem State.updPll_pending (f : Pll → Pll) : (s.updPll k f).pending = s.pending := rfl
@[simp] theorem State.updPll_tempo (f : Pll → Pll) : (s.updPll k f).tempo = s.tempo := rfl
@[simp] theorem State.updPll_running (f : Pll → Pll) : (s.updPll k f).running = s.running := rfl
@[simp] theorem State.updPll_follower (f : Pll → Pll) : (s.updPll k f).follower = s.follower := rfl
@[simp] theorem State.updPll_md (f : Pll → Pll) : (s.updPll k f).md = s.md := rfl
@[simp] theorem State.updPll_host (f : Pll → Pll) : (s.updPll k f).host = s.host := rfl
@[simp] theorem State.updPll_faults (f : Pll → Pll) : (s.updPll k f).faults = s.faults := rfl
@[simp] theorem State.updPll_firstCode (f : Pll → Pll) : (s.updPll k f).firstCode = s.firstCode := rfl
@[simp] theorem State.updPll_firstTempo (f : Pll → Pll) : (s.updPll k f).firstTempo = s.firstTempo := rfl
@[simp] theorem State.updPll_thermTrip (f : Pll → Pll) : (s.updPll k f).thermTrip = s.thermTrip := rfl
@[simp] theorem State.updPll_watchdog (f : Pll → Pll) : (s.updPll k f).watchdog = s.watchdog := rfl
@[simp] theorem State.updPll_params (f : Pll → Pll) : (s.updPll k f).params = s.params := rfl
@[simp] theorem State.updPll_removed (f : Pll → Pll) : (s.updPll k f).removed = s.removed := rfl
@[simp] theorem State.updPll_promotions (f : Pll → Pll) : (s.updPll k f).promotions = s.promotions := rfl
@[simp] theorem State.updPll_ageNew (f : Pll → Pll) : (s.updPll k f).ageNew = s.ageNew := rfl
@[simp] theorem State.updPll_aon (f : Pll → Pll) : (s.updPll k f).aon = s.aon := rfl
@[simp] theorem State.updPll_sheets (f : Pll → Pll) : (s.updPll k f).sheets = s.sheets := rfl
@[simp] theorem State.updPll_store (f : Pll → Pll) : (s.updPll k f).store = s.store := rfl
@[simp] theorem State.updPll_video (f : Pll → Pll) : (s.updPll k f).video = s.video := rfl
@[simp] theorem State.updPll_drive (f : Pll → Pll) : (s.updPll k f).drive = s.drive := rfl
@[simp] theorem State.updPll_rails (f : Pll → Pll) : (s.updPll k f).rails = s.rails := rfl
@[simp] theorem State.updPll_therm (f : Pll → Pll) : (s.updPll k f).therm = s.therm := rfl
@[simp] theorem State.updPll_mems (f : Pll → Pll) : (s.updPll k f).mems = s.mems := rfl
@[simp] theorem State.updPll_io (f : Pll → Pll) : (s.updPll k f).io = s.io := rfl
@[simp] theorem State.updPll_out (f : Pll → Pll) : (s.updPll k f).out = s.out := rfl
@[simp] theorem State.updPll_jtag (f : Pll → Pll) : (s.updPll k f).jtag = s.jtag := rfl
@[simp] theorem State.updPll_place (f : Pll → Pll) : (s.updPll k f).place = s.place := rfl
@[simp] theorem State.updPll_snap (f : Pll → Pll) : (s.updPll k f).snap = s.snap := rfl
@[simp] theorem State.updPll_ring (f : Pll → Pll) (j : Nat) : (s.updPll k f).ring j = s.ring j := rfl
@[simp] theorem State.updPll_gear (f : Pll → Pll) (j : Nat) : (s.updPll k f).gear j = s.gear j := rfl
@[simp] theorem State.updPll_enc (f : Pll → Pll) (j : Nat) : (s.updPll k f).enc j = s.enc j := rfl
@[simp] theorem State.updPll_gpio (f : Pll → Pll) (j : Nat) : (s.updPll k f).gpio j = s.gpio j := rfl
@[simp] theorem State.updPll_castle (f : Pll → Pll) (j : Nat) : (s.updPll k f).castle j = s.castle j := rfl
@[simp] theorem State.updPll_ticket (f : Pll → Pll) (j : Nat) : (s.updPll k f).ticket j = s.ticket j := rfl
@[simp] theorem State.updPll_page (f : Pll → Pll) (j : Nat) : (s.updPll k f).page j = s.page j := rfl
@[simp] theorem State.updPll_dma (f : Pll → Pll) (j : Nat) : (s.updPll k f).dma j = s.dma j := rfl
@[simp] theorem State.updPll_station (f : Pll → Pll) (j : Nat) : (s.updPll k f).station j = s.station j := rfl
@[simp] theorem State.updPll_lane (f : Pll → Pll) (j : Nat) : (s.updPll k f).lane j = s.lane j := rfl
@[simp] theorem State.updPll_beam (f : Pll → Pll) (j : Nat) : (s.updPll k f).beam j = s.beam j := rfl
@[simp] theorem State.updPll_link (f : Pll → Pll) (j : Nat) : (s.updPll k f).link j = s.link j := rfl
@[simp] theorem State.updPll_tile (f : Pll → Pll) (j : Nat) : (s.updPll k f).tile j = s.tile j := rfl
@[simp] theorem State.updPll_bus (f : Pll → Pll) (j : Nat) : (s.updPll k f).bus j = s.bus j := rfl
@[simp] theorem State.updPll_group (f : Pll → Pll) (j : Nat) : (s.updPll k f).group j = s.group j := rfl
@[simp] theorem State.updPll_axis (f : Pll → Pll) (j : Nat) : (s.updPll k f).axis j = s.axis j := rfl
@[simp] theorem State.updPll_poly (f : Pll → Pll) (j : Nat) : (s.updPll k f).poly j = s.poly j := rfl
@[simp] theorem State.updPll_loop (f : Pll → Pll) (j : Nat) : (s.updPll k f).loop j = s.loop j := rfl
@[simp] theorem State.updPll_heat (f : Pll → Pll) (j : Nat) : (s.updPll k f).heat j = s.heat j := rfl
@[simp] theorem State.updPll_leg (f : Pll → Pll) (j : Nat) : (s.updPll k f).leg j = s.leg j := rfl
@[simp] theorem State.updPll_rail (f : Pll → Pll) (j : Nat) : (s.updPll k f).rail j = s.rail j := rfl
@[simp] theorem State.updPll_sensor (f : Pll → Pll) (j : Nat) : (s.updPll k f).sensor j = s.sensor j := rfl
@[simp] theorem State.updPll_mem (f : Pll → Pll) (j : Nat) : (s.updPll k f).mem j = s.mem j := rfl
@[simp] theorem State.updPll_par (f : Pll → Pll) (c i p : Nat) : (s.updPll k f).par c i p = s.par c i p := rfl

/-! ### Gear -/

theorem State.updGear_eq (f : Gear → Gear) : s.updGear k f = s.setGear k (f (s.gear k)) := rfl
@[simp] theorem State.setGear_get (v : Gear) (j : Nat) : (s.setGear k v).gear j = if j = k then v else s.gear j := Map.get_put _ _ _ _ _
@[simp] theorem State.updGear_get (f : Gear → Gear) (j : Nat) : (s.updGear k f).gear j = if j = k then f (s.gear k) else s.gear j := Map.get_put _ _ _ _ _
@[simp] theorem State.setGear_die (v : Gear) : (s.setGear k v).die = s.die := rfl
@[simp] theorem State.setGear_free (v : Gear) : (s.setGear k v).free = s.free := rfl
@[simp] theorem State.setGear_pending (v : Gear) : (s.setGear k v).pending = s.pending := rfl
@[simp] theorem State.setGear_tempo (v : Gear) : (s.setGear k v).tempo = s.tempo := rfl
@[simp] theorem State.setGear_running (v : Gear) : (s.setGear k v).running = s.running := rfl
@[simp] theorem State.setGear_follower (v : Gear) : (s.setGear k v).follower = s.follower := rfl
@[simp] theorem State.setGear_md (v : Gear) : (s.setGear k v).md = s.md := rfl
@[simp] theorem State.setGear_host (v : Gear) : (s.setGear k v).host = s.host := rfl
@[simp] theorem State.setGear_faults (v : Gear) : (s.setGear k v).faults = s.faults := rfl
@[simp] theorem State.setGear_firstCode (v : Gear) : (s.setGear k v).firstCode = s.firstCode := rfl
@[simp] theorem State.setGear_firstTempo (v : Gear) : (s.setGear k v).firstTempo = s.firstTempo := rfl
@[simp] theorem State.setGear_thermTrip (v : Gear) : (s.setGear k v).thermTrip = s.thermTrip := rfl
@[simp] theorem State.setGear_watchdog (v : Gear) : (s.setGear k v).watchdog = s.watchdog := rfl
@[simp] theorem State.setGear_params (v : Gear) : (s.setGear k v).params = s.params := rfl
@[simp] theorem State.setGear_removed (v : Gear) : (s.setGear k v).removed = s.removed := rfl
@[simp] theorem State.setGear_promotions (v : Gear) : (s.setGear k v).promotions = s.promotions := rfl
@[simp] theorem State.setGear_ageNew (v : Gear) : (s.setGear k v).ageNew = s.ageNew := rfl
@[simp] theorem State.setGear_aon (v : Gear) : (s.setGear k v).aon = s.aon := rfl
@[simp] theorem State.setGear_sheets (v : Gear) : (s.setGear k v).sheets = s.sheets := rfl
@[simp] theorem State.setGear_store (v : Gear) : (s.setGear k v).store = s.store := rfl
@[simp] theorem State.setGear_video (v : Gear) : (s.setGear k v).video = s.video := rfl
@[simp] theorem State.setGear_drive (v : Gear) : (s.setGear k v).drive = s.drive := rfl
@[simp] theorem State.setGear_rails (v : Gear) : (s.setGear k v).rails = s.rails := rfl
@[simp] theorem State.setGear_therm (v : Gear) : (s.setGear k v).therm = s.therm := rfl
@[simp] theorem State.setGear_mems (v : Gear) : (s.setGear k v).mems = s.mems := rfl
@[simp] theorem State.setGear_io (v : Gear) : (s.setGear k v).io = s.io := rfl
@[simp] theorem State.setGear_out (v : Gear) : (s.setGear k v).out = s.out := rfl
@[simp] theorem State.setGear_jtag (v : Gear) : (s.setGear k v).jtag = s.jtag := rfl
@[simp] theorem State.setGear_place (v : Gear) : (s.setGear k v).place = s.place := rfl
@[simp] theorem State.setGear_snap (v : Gear) : (s.setGear k v).snap = s.snap := rfl
@[simp] theorem State.setGear_ring (v : Gear) (j : Nat) : (s.setGear k v).ring j = s.ring j := rfl
@[simp] theorem State.setGear_pll (v : Gear) (j : Nat) : (s.setGear k v).pll j = s.pll j := rfl
@[simp] theorem State.setGear_enc (v : Gear) (j : Nat) : (s.setGear k v).enc j = s.enc j := rfl
@[simp] theorem State.setGear_gpio (v : Gear) (j : Nat) : (s.setGear k v).gpio j = s.gpio j := rfl
@[simp] theorem State.setGear_castle (v : Gear) (j : Nat) : (s.setGear k v).castle j = s.castle j := rfl
@[simp] theorem State.setGear_ticket (v : Gear) (j : Nat) : (s.setGear k v).ticket j = s.ticket j := rfl
@[simp] theorem State.setGear_page (v : Gear) (j : Nat) : (s.setGear k v).page j = s.page j := rfl
@[simp] theorem State.setGear_dma (v : Gear) (j : Nat) : (s.setGear k v).dma j = s.dma j := rfl
@[simp] theorem State.setGear_station (v : Gear) (j : Nat) : (s.setGear k v).station j = s.station j := rfl
@[simp] theorem State.setGear_lane (v : Gear) (j : Nat) : (s.setGear k v).lane j = s.lane j := rfl
@[simp] theorem State.setGear_beam (v : Gear) (j : Nat) : (s.setGear k v).beam j = s.beam j := rfl
@[simp] theorem State.setGear_link (v : Gear) (j : Nat) : (s.setGear k v).link j = s.link j := rfl
@[simp] theorem State.setGear_tile (v : Gear) (j : Nat) : (s.setGear k v).tile j = s.tile j := rfl
@[simp] theorem State.setGear_bus (v : Gear) (j : Nat) : (s.setGear k v).bus j = s.bus j := rfl
@[simp] theorem State.setGear_group (v : Gear) (j : Nat) : (s.setGear k v).group j = s.group j := rfl
@[simp] theorem State.setGear_axis (v : Gear) (j : Nat) : (s.setGear k v).axis j = s.axis j := rfl
@[simp] theorem State.setGear_poly (v : Gear) (j : Nat) : (s.setGear k v).poly j = s.poly j := rfl
@[simp] theorem State.setGear_loop (v : Gear) (j : Nat) : (s.setGear k v).loop j = s.loop j := rfl
@[simp] theorem State.setGear_heat (v : Gear) (j : Nat) : (s.setGear k v).heat j = s.heat j := rfl
@[simp] theorem State.setGear_leg (v : Gear) (j : Nat) : (s.setGear k v).leg j = s.leg j := rfl
@[simp] theorem State.setGear_rail (v : Gear) (j : Nat) : (s.setGear k v).rail j = s.rail j := rfl
@[simp] theorem State.setGear_sensor (v : Gear) (j : Nat) : (s.setGear k v).sensor j = s.sensor j := rfl
@[simp] theorem State.setGear_mem (v : Gear) (j : Nat) : (s.setGear k v).mem j = s.mem j := rfl
@[simp] theorem State.setGear_par (v : Gear) (c i p : Nat) : (s.setGear k v).par c i p = s.par c i p := rfl
@[simp] theorem State.updGear_die (f : Gear → Gear) : (s.updGear k f).die = s.die := rfl
@[simp] theorem State.updGear_free (f : Gear → Gear) : (s.updGear k f).free = s.free := rfl
@[simp] theorem State.updGear_pending (f : Gear → Gear) : (s.updGear k f).pending = s.pending := rfl
@[simp] theorem State.updGear_tempo (f : Gear → Gear) : (s.updGear k f).tempo = s.tempo := rfl
@[simp] theorem State.updGear_running (f : Gear → Gear) : (s.updGear k f).running = s.running := rfl
@[simp] theorem State.updGear_follower (f : Gear → Gear) : (s.updGear k f).follower = s.follower := rfl
@[simp] theorem State.updGear_md (f : Gear → Gear) : (s.updGear k f).md = s.md := rfl
@[simp] theorem State.updGear_host (f : Gear → Gear) : (s.updGear k f).host = s.host := rfl
@[simp] theorem State.updGear_faults (f : Gear → Gear) : (s.updGear k f).faults = s.faults := rfl
@[simp] theorem State.updGear_firstCode (f : Gear → Gear) : (s.updGear k f).firstCode = s.firstCode := rfl
@[simp] theorem State.updGear_firstTempo (f : Gear → Gear) : (s.updGear k f).firstTempo = s.firstTempo := rfl
@[simp] theorem State.updGear_thermTrip (f : Gear → Gear) : (s.updGear k f).thermTrip = s.thermTrip := rfl
@[simp] theorem State.updGear_watchdog (f : Gear → Gear) : (s.updGear k f).watchdog = s.watchdog := rfl
@[simp] theorem State.updGear_params (f : Gear → Gear) : (s.updGear k f).params = s.params := rfl
@[simp] theorem State.updGear_removed (f : Gear → Gear) : (s.updGear k f).removed = s.removed := rfl
@[simp] theorem State.updGear_promotions (f : Gear → Gear) : (s.updGear k f).promotions = s.promotions := rfl
@[simp] theorem State.updGear_ageNew (f : Gear → Gear) : (s.updGear k f).ageNew = s.ageNew := rfl
@[simp] theorem State.updGear_aon (f : Gear → Gear) : (s.updGear k f).aon = s.aon := rfl
@[simp] theorem State.updGear_sheets (f : Gear → Gear) : (s.updGear k f).sheets = s.sheets := rfl
@[simp] theorem State.updGear_store (f : Gear → Gear) : (s.updGear k f).store = s.store := rfl
@[simp] theorem State.updGear_video (f : Gear → Gear) : (s.updGear k f).video = s.video := rfl
@[simp] theorem State.updGear_drive (f : Gear → Gear) : (s.updGear k f).drive = s.drive := rfl
@[simp] theorem State.updGear_rails (f : Gear → Gear) : (s.updGear k f).rails = s.rails := rfl
@[simp] theorem State.updGear_therm (f : Gear → Gear) : (s.updGear k f).therm = s.therm := rfl
@[simp] theorem State.updGear_mems (f : Gear → Gear) : (s.updGear k f).mems = s.mems := rfl
@[simp] theorem State.updGear_io (f : Gear → Gear) : (s.updGear k f).io = s.io := rfl
@[simp] theorem State.updGear_out (f : Gear → Gear) : (s.updGear k f).out = s.out := rfl
@[simp] theorem State.updGear_jtag (f : Gear → Gear) : (s.updGear k f).jtag = s.jtag := rfl
@[simp] theorem State.updGear_place (f : Gear → Gear) : (s.updGear k f).place = s.place := rfl
@[simp] theorem State.updGear_snap (f : Gear → Gear) : (s.updGear k f).snap = s.snap := rfl
@[simp] theorem State.updGear_ring (f : Gear → Gear) (j : Nat) : (s.updGear k f).ring j = s.ring j := rfl
@[simp] theorem State.updGear_pll (f : Gear → Gear) (j : Nat) : (s.updGear k f).pll j = s.pll j := rfl
@[simp] theorem State.updGear_enc (f : Gear → Gear) (j : Nat) : (s.updGear k f).enc j = s.enc j := rfl
@[simp] theorem State.updGear_gpio (f : Gear → Gear) (j : Nat) : (s.updGear k f).gpio j = s.gpio j := rfl
@[simp] theorem State.updGear_castle (f : Gear → Gear) (j : Nat) : (s.updGear k f).castle j = s.castle j := rfl
@[simp] theorem State.updGear_ticket (f : Gear → Gear) (j : Nat) : (s.updGear k f).ticket j = s.ticket j := rfl
@[simp] theorem State.updGear_page (f : Gear → Gear) (j : Nat) : (s.updGear k f).page j = s.page j := rfl
@[simp] theorem State.updGear_dma (f : Gear → Gear) (j : Nat) : (s.updGear k f).dma j = s.dma j := rfl
@[simp] theorem State.updGear_station (f : Gear → Gear) (j : Nat) : (s.updGear k f).station j = s.station j := rfl
@[simp] theorem State.updGear_lane (f : Gear → Gear) (j : Nat) : (s.updGear k f).lane j = s.lane j := rfl
@[simp] theorem State.updGear_beam (f : Gear → Gear) (j : Nat) : (s.updGear k f).beam j = s.beam j := rfl
@[simp] theorem State.updGear_link (f : Gear → Gear) (j : Nat) : (s.updGear k f).link j = s.link j := rfl
@[simp] theorem State.updGear_tile (f : Gear → Gear) (j : Nat) : (s.updGear k f).tile j = s.tile j := rfl
@[simp] theorem State.updGear_bus (f : Gear → Gear) (j : Nat) : (s.updGear k f).bus j = s.bus j := rfl
@[simp] theorem State.updGear_group (f : Gear → Gear) (j : Nat) : (s.updGear k f).group j = s.group j := rfl
@[simp] theorem State.updGear_axis (f : Gear → Gear) (j : Nat) : (s.updGear k f).axis j = s.axis j := rfl
@[simp] theorem State.updGear_poly (f : Gear → Gear) (j : Nat) : (s.updGear k f).poly j = s.poly j := rfl
@[simp] theorem State.updGear_loop (f : Gear → Gear) (j : Nat) : (s.updGear k f).loop j = s.loop j := rfl
@[simp] theorem State.updGear_heat (f : Gear → Gear) (j : Nat) : (s.updGear k f).heat j = s.heat j := rfl
@[simp] theorem State.updGear_leg (f : Gear → Gear) (j : Nat) : (s.updGear k f).leg j = s.leg j := rfl
@[simp] theorem State.updGear_rail (f : Gear → Gear) (j : Nat) : (s.updGear k f).rail j = s.rail j := rfl
@[simp] theorem State.updGear_sensor (f : Gear → Gear) (j : Nat) : (s.updGear k f).sensor j = s.sensor j := rfl
@[simp] theorem State.updGear_mem (f : Gear → Gear) (j : Nat) : (s.updGear k f).mem j = s.mem j := rfl
@[simp] theorem State.updGear_par (f : Gear → Gear) (c i p : Nat) : (s.updGear k f).par c i p = s.par c i p := rfl

/-! ### Enc -/

theorem State.updEnc_eq (f : Enc → Enc) : s.updEnc k f = s.setEnc k (f (s.enc k)) := rfl
@[simp] theorem State.setEnc_get (v : Enc) (j : Nat) : (s.setEnc k v).enc j = if j = k then v else s.enc j := Map.get_put _ _ _ _ _
@[simp] theorem State.updEnc_get (f : Enc → Enc) (j : Nat) : (s.updEnc k f).enc j = if j = k then f (s.enc k) else s.enc j := Map.get_put _ _ _ _ _
@[simp] theorem State.setEnc_die (v : Enc) : (s.setEnc k v).die = s.die := rfl
@[simp] theorem State.setEnc_free (v : Enc) : (s.setEnc k v).free = s.free := rfl
@[simp] theorem State.setEnc_pending (v : Enc) : (s.setEnc k v).pending = s.pending := rfl
@[simp] theorem State.setEnc_tempo (v : Enc) : (s.setEnc k v).tempo = s.tempo := rfl
@[simp] theorem State.setEnc_running (v : Enc) : (s.setEnc k v).running = s.running := rfl
@[simp] theorem State.setEnc_follower (v : Enc) : (s.setEnc k v).follower = s.follower := rfl
@[simp] theorem State.setEnc_md (v : Enc) : (s.setEnc k v).md = s.md := rfl
@[simp] theorem State.setEnc_host (v : Enc) : (s.setEnc k v).host = s.host := rfl
@[simp] theorem State.setEnc_faults (v : Enc) : (s.setEnc k v).faults = s.faults := rfl
@[simp] theorem State.setEnc_firstCode (v : Enc) : (s.setEnc k v).firstCode = s.firstCode := rfl
@[simp] theorem State.setEnc_firstTempo (v : Enc) : (s.setEnc k v).firstTempo = s.firstTempo := rfl
@[simp] theorem State.setEnc_thermTrip (v : Enc) : (s.setEnc k v).thermTrip = s.thermTrip := rfl
@[simp] theorem State.setEnc_watchdog (v : Enc) : (s.setEnc k v).watchdog = s.watchdog := rfl
@[simp] theorem State.setEnc_params (v : Enc) : (s.setEnc k v).params = s.params := rfl
@[simp] theorem State.setEnc_removed (v : Enc) : (s.setEnc k v).removed = s.removed := rfl
@[simp] theorem State.setEnc_promotions (v : Enc) : (s.setEnc k v).promotions = s.promotions := rfl
@[simp] theorem State.setEnc_ageNew (v : Enc) : (s.setEnc k v).ageNew = s.ageNew := rfl
@[simp] theorem State.setEnc_aon (v : Enc) : (s.setEnc k v).aon = s.aon := rfl
@[simp] theorem State.setEnc_sheets (v : Enc) : (s.setEnc k v).sheets = s.sheets := rfl
@[simp] theorem State.setEnc_store (v : Enc) : (s.setEnc k v).store = s.store := rfl
@[simp] theorem State.setEnc_video (v : Enc) : (s.setEnc k v).video = s.video := rfl
@[simp] theorem State.setEnc_drive (v : Enc) : (s.setEnc k v).drive = s.drive := rfl
@[simp] theorem State.setEnc_rails (v : Enc) : (s.setEnc k v).rails = s.rails := rfl
@[simp] theorem State.setEnc_therm (v : Enc) : (s.setEnc k v).therm = s.therm := rfl
@[simp] theorem State.setEnc_mems (v : Enc) : (s.setEnc k v).mems = s.mems := rfl
@[simp] theorem State.setEnc_io (v : Enc) : (s.setEnc k v).io = s.io := rfl
@[simp] theorem State.setEnc_out (v : Enc) : (s.setEnc k v).out = s.out := rfl
@[simp] theorem State.setEnc_jtag (v : Enc) : (s.setEnc k v).jtag = s.jtag := rfl
@[simp] theorem State.setEnc_place (v : Enc) : (s.setEnc k v).place = s.place := rfl
@[simp] theorem State.setEnc_snap (v : Enc) : (s.setEnc k v).snap = s.snap := rfl
@[simp] theorem State.setEnc_ring (v : Enc) (j : Nat) : (s.setEnc k v).ring j = s.ring j := rfl
@[simp] theorem State.setEnc_pll (v : Enc) (j : Nat) : (s.setEnc k v).pll j = s.pll j := rfl
@[simp] theorem State.setEnc_gear (v : Enc) (j : Nat) : (s.setEnc k v).gear j = s.gear j := rfl
@[simp] theorem State.setEnc_gpio (v : Enc) (j : Nat) : (s.setEnc k v).gpio j = s.gpio j := rfl
@[simp] theorem State.setEnc_castle (v : Enc) (j : Nat) : (s.setEnc k v).castle j = s.castle j := rfl
@[simp] theorem State.setEnc_ticket (v : Enc) (j : Nat) : (s.setEnc k v).ticket j = s.ticket j := rfl
@[simp] theorem State.setEnc_page (v : Enc) (j : Nat) : (s.setEnc k v).page j = s.page j := rfl
@[simp] theorem State.setEnc_dma (v : Enc) (j : Nat) : (s.setEnc k v).dma j = s.dma j := rfl
@[simp] theorem State.setEnc_station (v : Enc) (j : Nat) : (s.setEnc k v).station j = s.station j := rfl
@[simp] theorem State.setEnc_lane (v : Enc) (j : Nat) : (s.setEnc k v).lane j = s.lane j := rfl
@[simp] theorem State.setEnc_beam (v : Enc) (j : Nat) : (s.setEnc k v).beam j = s.beam j := rfl
@[simp] theorem State.setEnc_link (v : Enc) (j : Nat) : (s.setEnc k v).link j = s.link j := rfl
@[simp] theorem State.setEnc_tile (v : Enc) (j : Nat) : (s.setEnc k v).tile j = s.tile j := rfl
@[simp] theorem State.setEnc_bus (v : Enc) (j : Nat) : (s.setEnc k v).bus j = s.bus j := rfl
@[simp] theorem State.setEnc_group (v : Enc) (j : Nat) : (s.setEnc k v).group j = s.group j := rfl
@[simp] theorem State.setEnc_axis (v : Enc) (j : Nat) : (s.setEnc k v).axis j = s.axis j := rfl
@[simp] theorem State.setEnc_poly (v : Enc) (j : Nat) : (s.setEnc k v).poly j = s.poly j := rfl
@[simp] theorem State.setEnc_loop (v : Enc) (j : Nat) : (s.setEnc k v).loop j = s.loop j := rfl
@[simp] theorem State.setEnc_heat (v : Enc) (j : Nat) : (s.setEnc k v).heat j = s.heat j := rfl
@[simp] theorem State.setEnc_leg (v : Enc) (j : Nat) : (s.setEnc k v).leg j = s.leg j := rfl
@[simp] theorem State.setEnc_rail (v : Enc) (j : Nat) : (s.setEnc k v).rail j = s.rail j := rfl
@[simp] theorem State.setEnc_sensor (v : Enc) (j : Nat) : (s.setEnc k v).sensor j = s.sensor j := rfl
@[simp] theorem State.setEnc_mem (v : Enc) (j : Nat) : (s.setEnc k v).mem j = s.mem j := rfl
@[simp] theorem State.setEnc_par (v : Enc) (c i p : Nat) : (s.setEnc k v).par c i p = s.par c i p := rfl
@[simp] theorem State.updEnc_die (f : Enc → Enc) : (s.updEnc k f).die = s.die := rfl
@[simp] theorem State.updEnc_free (f : Enc → Enc) : (s.updEnc k f).free = s.free := rfl
@[simp] theorem State.updEnc_pending (f : Enc → Enc) : (s.updEnc k f).pending = s.pending := rfl
@[simp] theorem State.updEnc_tempo (f : Enc → Enc) : (s.updEnc k f).tempo = s.tempo := rfl
@[simp] theorem State.updEnc_running (f : Enc → Enc) : (s.updEnc k f).running = s.running := rfl
@[simp] theorem State.updEnc_follower (f : Enc → Enc) : (s.updEnc k f).follower = s.follower := rfl
@[simp] theorem State.updEnc_md (f : Enc → Enc) : (s.updEnc k f).md = s.md := rfl
@[simp] theorem State.updEnc_host (f : Enc → Enc) : (s.updEnc k f).host = s.host := rfl
@[simp] theorem State.updEnc_faults (f : Enc → Enc) : (s.updEnc k f).faults = s.faults := rfl
@[simp] theorem State.updEnc_firstCode (f : Enc → Enc) : (s.updEnc k f).firstCode = s.firstCode := rfl
@[simp] theorem State.updEnc_firstTempo (f : Enc → Enc) : (s.updEnc k f).firstTempo = s.firstTempo := rfl
@[simp] theorem State.updEnc_thermTrip (f : Enc → Enc) : (s.updEnc k f).thermTrip = s.thermTrip := rfl
@[simp] theorem State.updEnc_watchdog (f : Enc → Enc) : (s.updEnc k f).watchdog = s.watchdog := rfl
@[simp] theorem State.updEnc_params (f : Enc → Enc) : (s.updEnc k f).params = s.params := rfl
@[simp] theorem State.updEnc_removed (f : Enc → Enc) : (s.updEnc k f).removed = s.removed := rfl
@[simp] theorem State.updEnc_promotions (f : Enc → Enc) : (s.updEnc k f).promotions = s.promotions := rfl
@[simp] theorem State.updEnc_ageNew (f : Enc → Enc) : (s.updEnc k f).ageNew = s.ageNew := rfl
@[simp] theorem State.updEnc_aon (f : Enc → Enc) : (s.updEnc k f).aon = s.aon := rfl
@[simp] theorem State.updEnc_sheets (f : Enc → Enc) : (s.updEnc k f).sheets = s.sheets := rfl
@[simp] theorem State.updEnc_store (f : Enc → Enc) : (s.updEnc k f).store = s.store := rfl
@[simp] theorem State.updEnc_video (f : Enc → Enc) : (s.updEnc k f).video = s.video := rfl
@[simp] theorem State.updEnc_drive (f : Enc → Enc) : (s.updEnc k f).drive = s.drive := rfl
@[simp] theorem State.updEnc_rails (f : Enc → Enc) : (s.updEnc k f).rails = s.rails := rfl
@[simp] theorem State.updEnc_therm (f : Enc → Enc) : (s.updEnc k f).therm = s.therm := rfl
@[simp] theorem State.updEnc_mems (f : Enc → Enc) : (s.updEnc k f).mems = s.mems := rfl
@[simp] theorem State.updEnc_io (f : Enc → Enc) : (s.updEnc k f).io = s.io := rfl
@[simp] theorem State.updEnc_out (f : Enc → Enc) : (s.updEnc k f).out = s.out := rfl
@[simp] theorem State.updEnc_jtag (f : Enc → Enc) : (s.updEnc k f).jtag = s.jtag := rfl
@[simp] theorem State.updEnc_place (f : Enc → Enc) : (s.updEnc k f).place = s.place := rfl
@[simp] theorem State.updEnc_snap (f : Enc → Enc) : (s.updEnc k f).snap = s.snap := rfl
@[simp] theorem State.updEnc_ring (f : Enc → Enc) (j : Nat) : (s.updEnc k f).ring j = s.ring j := rfl
@[simp] theorem State.updEnc_pll (f : Enc → Enc) (j : Nat) : (s.updEnc k f).pll j = s.pll j := rfl
@[simp] theorem State.updEnc_gear (f : Enc → Enc) (j : Nat) : (s.updEnc k f).gear j = s.gear j := rfl
@[simp] theorem State.updEnc_gpio (f : Enc → Enc) (j : Nat) : (s.updEnc k f).gpio j = s.gpio j := rfl
@[simp] theorem State.updEnc_castle (f : Enc → Enc) (j : Nat) : (s.updEnc k f).castle j = s.castle j := rfl
@[simp] theorem State.updEnc_ticket (f : Enc → Enc) (j : Nat) : (s.updEnc k f).ticket j = s.ticket j := rfl
@[simp] theorem State.updEnc_page (f : Enc → Enc) (j : Nat) : (s.updEnc k f).page j = s.page j := rfl
@[simp] theorem State.updEnc_dma (f : Enc → Enc) (j : Nat) : (s.updEnc k f).dma j = s.dma j := rfl
@[simp] theorem State.updEnc_station (f : Enc → Enc) (j : Nat) : (s.updEnc k f).station j = s.station j := rfl
@[simp] theorem State.updEnc_lane (f : Enc → Enc) (j : Nat) : (s.updEnc k f).lane j = s.lane j := rfl
@[simp] theorem State.updEnc_beam (f : Enc → Enc) (j : Nat) : (s.updEnc k f).beam j = s.beam j := rfl
@[simp] theorem State.updEnc_link (f : Enc → Enc) (j : Nat) : (s.updEnc k f).link j = s.link j := rfl
@[simp] theorem State.updEnc_tile (f : Enc → Enc) (j : Nat) : (s.updEnc k f).tile j = s.tile j := rfl
@[simp] theorem State.updEnc_bus (f : Enc → Enc) (j : Nat) : (s.updEnc k f).bus j = s.bus j := rfl
@[simp] theorem State.updEnc_group (f : Enc → Enc) (j : Nat) : (s.updEnc k f).group j = s.group j := rfl
@[simp] theorem State.updEnc_axis (f : Enc → Enc) (j : Nat) : (s.updEnc k f).axis j = s.axis j := rfl
@[simp] theorem State.updEnc_poly (f : Enc → Enc) (j : Nat) : (s.updEnc k f).poly j = s.poly j := rfl
@[simp] theorem State.updEnc_loop (f : Enc → Enc) (j : Nat) : (s.updEnc k f).loop j = s.loop j := rfl
@[simp] theorem State.updEnc_heat (f : Enc → Enc) (j : Nat) : (s.updEnc k f).heat j = s.heat j := rfl
@[simp] theorem State.updEnc_leg (f : Enc → Enc) (j : Nat) : (s.updEnc k f).leg j = s.leg j := rfl
@[simp] theorem State.updEnc_rail (f : Enc → Enc) (j : Nat) : (s.updEnc k f).rail j = s.rail j := rfl
@[simp] theorem State.updEnc_sensor (f : Enc → Enc) (j : Nat) : (s.updEnc k f).sensor j = s.sensor j := rfl
@[simp] theorem State.updEnc_mem (f : Enc → Enc) (j : Nat) : (s.updEnc k f).mem j = s.mem j := rfl
@[simp] theorem State.updEnc_par (f : Enc → Enc) (c i p : Nat) : (s.updEnc k f).par c i p = s.par c i p := rfl

/-! ### Gpio -/

theorem State.updGpio_eq (f : Gpio → Gpio) : s.updGpio k f = s.setGpio k (f (s.gpio k)) := rfl
@[simp] theorem State.setGpio_get (v : Gpio) (j : Nat) : (s.setGpio k v).gpio j = if j = k then v else s.gpio j := Map.get_put _ _ _ _ _
@[simp] theorem State.updGpio_get (f : Gpio → Gpio) (j : Nat) : (s.updGpio k f).gpio j = if j = k then f (s.gpio k) else s.gpio j := Map.get_put _ _ _ _ _
@[simp] theorem State.setGpio_die (v : Gpio) : (s.setGpio k v).die = s.die := rfl
@[simp] theorem State.setGpio_free (v : Gpio) : (s.setGpio k v).free = s.free := rfl
@[simp] theorem State.setGpio_pending (v : Gpio) : (s.setGpio k v).pending = s.pending := rfl
@[simp] theorem State.setGpio_tempo (v : Gpio) : (s.setGpio k v).tempo = s.tempo := rfl
@[simp] theorem State.setGpio_running (v : Gpio) : (s.setGpio k v).running = s.running := rfl
@[simp] theorem State.setGpio_follower (v : Gpio) : (s.setGpio k v).follower = s.follower := rfl
@[simp] theorem State.setGpio_md (v : Gpio) : (s.setGpio k v).md = s.md := rfl
@[simp] theorem State.setGpio_host (v : Gpio) : (s.setGpio k v).host = s.host := rfl
@[simp] theorem State.setGpio_faults (v : Gpio) : (s.setGpio k v).faults = s.faults := rfl
@[simp] theorem State.setGpio_firstCode (v : Gpio) : (s.setGpio k v).firstCode = s.firstCode := rfl
@[simp] theorem State.setGpio_firstTempo (v : Gpio) : (s.setGpio k v).firstTempo = s.firstTempo := rfl
@[simp] theorem State.setGpio_thermTrip (v : Gpio) : (s.setGpio k v).thermTrip = s.thermTrip := rfl
@[simp] theorem State.setGpio_watchdog (v : Gpio) : (s.setGpio k v).watchdog = s.watchdog := rfl
@[simp] theorem State.setGpio_params (v : Gpio) : (s.setGpio k v).params = s.params := rfl
@[simp] theorem State.setGpio_removed (v : Gpio) : (s.setGpio k v).removed = s.removed := rfl
@[simp] theorem State.setGpio_promotions (v : Gpio) : (s.setGpio k v).promotions = s.promotions := rfl
@[simp] theorem State.setGpio_ageNew (v : Gpio) : (s.setGpio k v).ageNew = s.ageNew := rfl
@[simp] theorem State.setGpio_aon (v : Gpio) : (s.setGpio k v).aon = s.aon := rfl
@[simp] theorem State.setGpio_sheets (v : Gpio) : (s.setGpio k v).sheets = s.sheets := rfl
@[simp] theorem State.setGpio_store (v : Gpio) : (s.setGpio k v).store = s.store := rfl
@[simp] theorem State.setGpio_video (v : Gpio) : (s.setGpio k v).video = s.video := rfl
@[simp] theorem State.setGpio_drive (v : Gpio) : (s.setGpio k v).drive = s.drive := rfl
@[simp] theorem State.setGpio_rails (v : Gpio) : (s.setGpio k v).rails = s.rails := rfl
@[simp] theorem State.setGpio_therm (v : Gpio) : (s.setGpio k v).therm = s.therm := rfl
@[simp] theorem State.setGpio_mems (v : Gpio) : (s.setGpio k v).mems = s.mems := rfl
@[simp] theorem State.setGpio_io (v : Gpio) : (s.setGpio k v).io = s.io := rfl
@[simp] theorem State.setGpio_out (v : Gpio) : (s.setGpio k v).out = s.out := rfl
@[simp] theorem State.setGpio_jtag (v : Gpio) : (s.setGpio k v).jtag = s.jtag := rfl
@[simp] theorem State.setGpio_place (v : Gpio) : (s.setGpio k v).place = s.place := rfl
@[simp] theorem State.setGpio_snap (v : Gpio) : (s.setGpio k v).snap = s.snap := rfl
@[simp] theorem State.setGpio_ring (v : Gpio) (j : Nat) : (s.setGpio k v).ring j = s.ring j := rfl
@[simp] theorem State.setGpio_pll (v : Gpio) (j : Nat) : (s.setGpio k v).pll j = s.pll j := rfl
@[simp] theorem State.setGpio_gear (v : Gpio) (j : Nat) : (s.setGpio k v).gear j = s.gear j := rfl
@[simp] theorem State.setGpio_enc (v : Gpio) (j : Nat) : (s.setGpio k v).enc j = s.enc j := rfl
@[simp] theorem State.setGpio_castle (v : Gpio) (j : Nat) : (s.setGpio k v).castle j = s.castle j := rfl
@[simp] theorem State.setGpio_ticket (v : Gpio) (j : Nat) : (s.setGpio k v).ticket j = s.ticket j := rfl
@[simp] theorem State.setGpio_page (v : Gpio) (j : Nat) : (s.setGpio k v).page j = s.page j := rfl
@[simp] theorem State.setGpio_dma (v : Gpio) (j : Nat) : (s.setGpio k v).dma j = s.dma j := rfl
@[simp] theorem State.setGpio_station (v : Gpio) (j : Nat) : (s.setGpio k v).station j = s.station j := rfl
@[simp] theorem State.setGpio_lane (v : Gpio) (j : Nat) : (s.setGpio k v).lane j = s.lane j := rfl
@[simp] theorem State.setGpio_beam (v : Gpio) (j : Nat) : (s.setGpio k v).beam j = s.beam j := rfl
@[simp] theorem State.setGpio_link (v : Gpio) (j : Nat) : (s.setGpio k v).link j = s.link j := rfl
@[simp] theorem State.setGpio_tile (v : Gpio) (j : Nat) : (s.setGpio k v).tile j = s.tile j := rfl
@[simp] theorem State.setGpio_bus (v : Gpio) (j : Nat) : (s.setGpio k v).bus j = s.bus j := rfl
@[simp] theorem State.setGpio_group (v : Gpio) (j : Nat) : (s.setGpio k v).group j = s.group j := rfl
@[simp] theorem State.setGpio_axis (v : Gpio) (j : Nat) : (s.setGpio k v).axis j = s.axis j := rfl
@[simp] theorem State.setGpio_poly (v : Gpio) (j : Nat) : (s.setGpio k v).poly j = s.poly j := rfl
@[simp] theorem State.setGpio_loop (v : Gpio) (j : Nat) : (s.setGpio k v).loop j = s.loop j := rfl
@[simp] theorem State.setGpio_heat (v : Gpio) (j : Nat) : (s.setGpio k v).heat j = s.heat j := rfl
@[simp] theorem State.setGpio_leg (v : Gpio) (j : Nat) : (s.setGpio k v).leg j = s.leg j := rfl
@[simp] theorem State.setGpio_rail (v : Gpio) (j : Nat) : (s.setGpio k v).rail j = s.rail j := rfl
@[simp] theorem State.setGpio_sensor (v : Gpio) (j : Nat) : (s.setGpio k v).sensor j = s.sensor j := rfl
@[simp] theorem State.setGpio_mem (v : Gpio) (j : Nat) : (s.setGpio k v).mem j = s.mem j := rfl
@[simp] theorem State.setGpio_par (v : Gpio) (c i p : Nat) : (s.setGpio k v).par c i p = s.par c i p := rfl
@[simp] theorem State.updGpio_die (f : Gpio → Gpio) : (s.updGpio k f).die = s.die := rfl
@[simp] theorem State.updGpio_free (f : Gpio → Gpio) : (s.updGpio k f).free = s.free := rfl
@[simp] theorem State.updGpio_pending (f : Gpio → Gpio) : (s.updGpio k f).pending = s.pending := rfl
@[simp] theorem State.updGpio_tempo (f : Gpio → Gpio) : (s.updGpio k f).tempo = s.tempo := rfl
@[simp] theorem State.updGpio_running (f : Gpio → Gpio) : (s.updGpio k f).running = s.running := rfl
@[simp] theorem State.updGpio_follower (f : Gpio → Gpio) : (s.updGpio k f).follower = s.follower := rfl
@[simp] theorem State.updGpio_md (f : Gpio → Gpio) : (s.updGpio k f).md = s.md := rfl
@[simp] theorem State.updGpio_host (f : Gpio → Gpio) : (s.updGpio k f).host = s.host := rfl
@[simp] theorem State.updGpio_faults (f : Gpio → Gpio) : (s.updGpio k f).faults = s.faults := rfl
@[simp] theorem State.updGpio_firstCode (f : Gpio → Gpio) : (s.updGpio k f).firstCode = s.firstCode := rfl
@[simp] theorem State.updGpio_firstTempo (f : Gpio → Gpio) : (s.updGpio k f).firstTempo = s.firstTempo := rfl
@[simp] theorem State.updGpio_thermTrip (f : Gpio → Gpio) : (s.updGpio k f).thermTrip = s.thermTrip := rfl
@[simp] theorem State.updGpio_watchdog (f : Gpio → Gpio) : (s.updGpio k f).watchdog = s.watchdog := rfl
@[simp] theorem State.updGpio_params (f : Gpio → Gpio) : (s.updGpio k f).params = s.params := rfl
@[simp] theorem State.updGpio_removed (f : Gpio → Gpio) : (s.updGpio k f).removed = s.removed := rfl
@[simp] theorem State.updGpio_promotions (f : Gpio → Gpio) : (s.updGpio k f).promotions = s.promotions := rfl
@[simp] theorem State.updGpio_ageNew (f : Gpio → Gpio) : (s.updGpio k f).ageNew = s.ageNew := rfl
@[simp] theorem State.updGpio_aon (f : Gpio → Gpio) : (s.updGpio k f).aon = s.aon := rfl
@[simp] theorem State.updGpio_sheets (f : Gpio → Gpio) : (s.updGpio k f).sheets = s.sheets := rfl
@[simp] theorem State.updGpio_store (f : Gpio → Gpio) : (s.updGpio k f).store = s.store := rfl
@[simp] theorem State.updGpio_video (f : Gpio → Gpio) : (s.updGpio k f).video = s.video := rfl
@[simp] theorem State.updGpio_drive (f : Gpio → Gpio) : (s.updGpio k f).drive = s.drive := rfl
@[simp] theorem State.updGpio_rails (f : Gpio → Gpio) : (s.updGpio k f).rails = s.rails := rfl
@[simp] theorem State.updGpio_therm (f : Gpio → Gpio) : (s.updGpio k f).therm = s.therm := rfl
@[simp] theorem State.updGpio_mems (f : Gpio → Gpio) : (s.updGpio k f).mems = s.mems := rfl
@[simp] theorem State.updGpio_io (f : Gpio → Gpio) : (s.updGpio k f).io = s.io := rfl
@[simp] theorem State.updGpio_out (f : Gpio → Gpio) : (s.updGpio k f).out = s.out := rfl
@[simp] theorem State.updGpio_jtag (f : Gpio → Gpio) : (s.updGpio k f).jtag = s.jtag := rfl
@[simp] theorem State.updGpio_place (f : Gpio → Gpio) : (s.updGpio k f).place = s.place := rfl
@[simp] theorem State.updGpio_snap (f : Gpio → Gpio) : (s.updGpio k f).snap = s.snap := rfl
@[simp] theorem State.updGpio_ring (f : Gpio → Gpio) (j : Nat) : (s.updGpio k f).ring j = s.ring j := rfl
@[simp] theorem State.updGpio_pll (f : Gpio → Gpio) (j : Nat) : (s.updGpio k f).pll j = s.pll j := rfl
@[simp] theorem State.updGpio_gear (f : Gpio → Gpio) (j : Nat) : (s.updGpio k f).gear j = s.gear j := rfl
@[simp] theorem State.updGpio_enc (f : Gpio → Gpio) (j : Nat) : (s.updGpio k f).enc j = s.enc j := rfl
@[simp] theorem State.updGpio_castle (f : Gpio → Gpio) (j : Nat) : (s.updGpio k f).castle j = s.castle j := rfl
@[simp] theorem State.updGpio_ticket (f : Gpio → Gpio) (j : Nat) : (s.updGpio k f).ticket j = s.ticket j := rfl
@[simp] theorem State.updGpio_page (f : Gpio → Gpio) (j : Nat) : (s.updGpio k f).page j = s.page j := rfl
@[simp] theorem State.updGpio_dma (f : Gpio → Gpio) (j : Nat) : (s.updGpio k f).dma j = s.dma j := rfl
@[simp] theorem State.updGpio_station (f : Gpio → Gpio) (j : Nat) : (s.updGpio k f).station j = s.station j := rfl
@[simp] theorem State.updGpio_lane (f : Gpio → Gpio) (j : Nat) : (s.updGpio k f).lane j = s.lane j := rfl
@[simp] theorem State.updGpio_beam (f : Gpio → Gpio) (j : Nat) : (s.updGpio k f).beam j = s.beam j := rfl
@[simp] theorem State.updGpio_link (f : Gpio → Gpio) (j : Nat) : (s.updGpio k f).link j = s.link j := rfl
@[simp] theorem State.updGpio_tile (f : Gpio → Gpio) (j : Nat) : (s.updGpio k f).tile j = s.tile j := rfl
@[simp] theorem State.updGpio_bus (f : Gpio → Gpio) (j : Nat) : (s.updGpio k f).bus j = s.bus j := rfl
@[simp] theorem State.updGpio_group (f : Gpio → Gpio) (j : Nat) : (s.updGpio k f).group j = s.group j := rfl
@[simp] theorem State.updGpio_axis (f : Gpio → Gpio) (j : Nat) : (s.updGpio k f).axis j = s.axis j := rfl
@[simp] theorem State.updGpio_poly (f : Gpio → Gpio) (j : Nat) : (s.updGpio k f).poly j = s.poly j := rfl
@[simp] theorem State.updGpio_loop (f : Gpio → Gpio) (j : Nat) : (s.updGpio k f).loop j = s.loop j := rfl
@[simp] theorem State.updGpio_heat (f : Gpio → Gpio) (j : Nat) : (s.updGpio k f).heat j = s.heat j := rfl
@[simp] theorem State.updGpio_leg (f : Gpio → Gpio) (j : Nat) : (s.updGpio k f).leg j = s.leg j := rfl
@[simp] theorem State.updGpio_rail (f : Gpio → Gpio) (j : Nat) : (s.updGpio k f).rail j = s.rail j := rfl
@[simp] theorem State.updGpio_sensor (f : Gpio → Gpio) (j : Nat) : (s.updGpio k f).sensor j = s.sensor j := rfl
@[simp] theorem State.updGpio_mem (f : Gpio → Gpio) (j : Nat) : (s.updGpio k f).mem j = s.mem j := rfl
@[simp] theorem State.updGpio_par (f : Gpio → Gpio) (c i p : Nat) : (s.updGpio k f).par c i p = s.par c i p := rfl

/-! ### Castle -/

theorem State.updCastle_eq (f : Castle → Castle) : s.updCastle k f = s.setCastle k (f (s.castle k)) := rfl
@[simp] theorem State.setCastle_get (v : Castle) (j : Nat) : (s.setCastle k v).castle j = if j = k then v else s.castle j := Map.get_put _ _ _ _ _
@[simp] theorem State.updCastle_get (f : Castle → Castle) (j : Nat) : (s.updCastle k f).castle j = if j = k then f (s.castle k) else s.castle j := Map.get_put _ _ _ _ _
@[simp] theorem State.setCastle_die (v : Castle) : (s.setCastle k v).die = s.die := rfl
@[simp] theorem State.setCastle_free (v : Castle) : (s.setCastle k v).free = s.free := rfl
@[simp] theorem State.setCastle_pending (v : Castle) : (s.setCastle k v).pending = s.pending := rfl
@[simp] theorem State.setCastle_tempo (v : Castle) : (s.setCastle k v).tempo = s.tempo := rfl
@[simp] theorem State.setCastle_running (v : Castle) : (s.setCastle k v).running = s.running := rfl
@[simp] theorem State.setCastle_follower (v : Castle) : (s.setCastle k v).follower = s.follower := rfl
@[simp] theorem State.setCastle_md (v : Castle) : (s.setCastle k v).md = s.md := rfl
@[simp] theorem State.setCastle_host (v : Castle) : (s.setCastle k v).host = s.host := rfl
@[simp] theorem State.setCastle_faults (v : Castle) : (s.setCastle k v).faults = s.faults := rfl
@[simp] theorem State.setCastle_firstCode (v : Castle) : (s.setCastle k v).firstCode = s.firstCode := rfl
@[simp] theorem State.setCastle_firstTempo (v : Castle) : (s.setCastle k v).firstTempo = s.firstTempo := rfl
@[simp] theorem State.setCastle_thermTrip (v : Castle) : (s.setCastle k v).thermTrip = s.thermTrip := rfl
@[simp] theorem State.setCastle_watchdog (v : Castle) : (s.setCastle k v).watchdog = s.watchdog := rfl
@[simp] theorem State.setCastle_params (v : Castle) : (s.setCastle k v).params = s.params := rfl
@[simp] theorem State.setCastle_removed (v : Castle) : (s.setCastle k v).removed = s.removed := rfl
@[simp] theorem State.setCastle_promotions (v : Castle) : (s.setCastle k v).promotions = s.promotions := rfl
@[simp] theorem State.setCastle_ageNew (v : Castle) : (s.setCastle k v).ageNew = s.ageNew := rfl
@[simp] theorem State.setCastle_aon (v : Castle) : (s.setCastle k v).aon = s.aon := rfl
@[simp] theorem State.setCastle_clk (v : Castle) : (s.setCastle k v).clk = s.clk := rfl
@[simp] theorem State.setCastle_store (v : Castle) : (s.setCastle k v).store = s.store := rfl
@[simp] theorem State.setCastle_video (v : Castle) : (s.setCastle k v).video = s.video := rfl
@[simp] theorem State.setCastle_drive (v : Castle) : (s.setCastle k v).drive = s.drive := rfl
@[simp] theorem State.setCastle_rails (v : Castle) : (s.setCastle k v).rails = s.rails := rfl
@[simp] theorem State.setCastle_therm (v : Castle) : (s.setCastle k v).therm = s.therm := rfl
@[simp] theorem State.setCastle_mems (v : Castle) : (s.setCastle k v).mems = s.mems := rfl
@[simp] theorem State.setCastle_io (v : Castle) : (s.setCastle k v).io = s.io := rfl
@[simp] theorem State.setCastle_out (v : Castle) : (s.setCastle k v).out = s.out := rfl
@[simp] theorem State.setCastle_jtag (v : Castle) : (s.setCastle k v).jtag = s.jtag := rfl
@[simp] theorem State.setCastle_place (v : Castle) : (s.setCastle k v).place = s.place := rfl
@[simp] theorem State.setCastle_snap (v : Castle) : (s.setCastle k v).snap = s.snap := rfl
@[simp] theorem State.setCastle_ring (v : Castle) (j : Nat) : (s.setCastle k v).ring j = s.ring j := rfl
@[simp] theorem State.setCastle_pll (v : Castle) (j : Nat) : (s.setCastle k v).pll j = s.pll j := rfl
@[simp] theorem State.setCastle_gear (v : Castle) (j : Nat) : (s.setCastle k v).gear j = s.gear j := rfl
@[simp] theorem State.setCastle_enc (v : Castle) (j : Nat) : (s.setCastle k v).enc j = s.enc j := rfl
@[simp] theorem State.setCastle_gpio (v : Castle) (j : Nat) : (s.setCastle k v).gpio j = s.gpio j := rfl
@[simp] theorem State.setCastle_ticket (v : Castle) (j : Nat) : (s.setCastle k v).ticket j = s.ticket j := rfl
@[simp] theorem State.setCastle_page (v : Castle) (j : Nat) : (s.setCastle k v).page j = s.page j := rfl
@[simp] theorem State.setCastle_dma (v : Castle) (j : Nat) : (s.setCastle k v).dma j = s.dma j := rfl
@[simp] theorem State.setCastle_station (v : Castle) (j : Nat) : (s.setCastle k v).station j = s.station j := rfl
@[simp] theorem State.setCastle_lane (v : Castle) (j : Nat) : (s.setCastle k v).lane j = s.lane j := rfl
@[simp] theorem State.setCastle_beam (v : Castle) (j : Nat) : (s.setCastle k v).beam j = s.beam j := rfl
@[simp] theorem State.setCastle_link (v : Castle) (j : Nat) : (s.setCastle k v).link j = s.link j := rfl
@[simp] theorem State.setCastle_tile (v : Castle) (j : Nat) : (s.setCastle k v).tile j = s.tile j := rfl
@[simp] theorem State.setCastle_bus (v : Castle) (j : Nat) : (s.setCastle k v).bus j = s.bus j := rfl
@[simp] theorem State.setCastle_group (v : Castle) (j : Nat) : (s.setCastle k v).group j = s.group j := rfl
@[simp] theorem State.setCastle_axis (v : Castle) (j : Nat) : (s.setCastle k v).axis j = s.axis j := rfl
@[simp] theorem State.setCastle_poly (v : Castle) (j : Nat) : (s.setCastle k v).poly j = s.poly j := rfl
@[simp] theorem State.setCastle_loop (v : Castle) (j : Nat) : (s.setCastle k v).loop j = s.loop j := rfl
@[simp] theorem State.setCastle_heat (v : Castle) (j : Nat) : (s.setCastle k v).heat j = s.heat j := rfl
@[simp] theorem State.setCastle_leg (v : Castle) (j : Nat) : (s.setCastle k v).leg j = s.leg j := rfl
@[simp] theorem State.setCastle_rail (v : Castle) (j : Nat) : (s.setCastle k v).rail j = s.rail j := rfl
@[simp] theorem State.setCastle_sensor (v : Castle) (j : Nat) : (s.setCastle k v).sensor j = s.sensor j := rfl
@[simp] theorem State.setCastle_mem (v : Castle) (j : Nat) : (s.setCastle k v).mem j = s.mem j := rfl
@[simp] theorem State.setCastle_par (v : Castle) (c i p : Nat) : (s.setCastle k v).par c i p = s.par c i p := rfl
@[simp] theorem State.updCastle_die (f : Castle → Castle) : (s.updCastle k f).die = s.die := rfl
@[simp] theorem State.updCastle_free (f : Castle → Castle) : (s.updCastle k f).free = s.free := rfl
@[simp] theorem State.updCastle_pending (f : Castle → Castle) : (s.updCastle k f).pending = s.pending := rfl
@[simp] theorem State.updCastle_tempo (f : Castle → Castle) : (s.updCastle k f).tempo = s.tempo := rfl
@[simp] theorem State.updCastle_running (f : Castle → Castle) : (s.updCastle k f).running = s.running := rfl
@[simp] theorem State.updCastle_follower (f : Castle → Castle) : (s.updCastle k f).follower = s.follower := rfl
@[simp] theorem State.updCastle_md (f : Castle → Castle) : (s.updCastle k f).md = s.md := rfl
@[simp] theorem State.updCastle_host (f : Castle → Castle) : (s.updCastle k f).host = s.host := rfl
@[simp] theorem State.updCastle_faults (f : Castle → Castle) : (s.updCastle k f).faults = s.faults := rfl
@[simp] theorem State.updCastle_firstCode (f : Castle → Castle) : (s.updCastle k f).firstCode = s.firstCode := rfl
@[simp] theorem State.updCastle_firstTempo (f : Castle → Castle) : (s.updCastle k f).firstTempo = s.firstTempo := rfl
@[simp] theorem State.updCastle_thermTrip (f : Castle → Castle) : (s.updCastle k f).thermTrip = s.thermTrip := rfl
@[simp] theorem State.updCastle_watchdog (f : Castle → Castle) : (s.updCastle k f).watchdog = s.watchdog := rfl
@[simp] theorem State.updCastle_params (f : Castle → Castle) : (s.updCastle k f).params = s.params := rfl
@[simp] theorem State.updCastle_removed (f : Castle → Castle) : (s.updCastle k f).removed = s.removed := rfl
@[simp] theorem State.updCastle_promotions (f : Castle → Castle) : (s.updCastle k f).promotions = s.promotions := rfl
@[simp] theorem State.updCastle_ageNew (f : Castle → Castle) : (s.updCastle k f).ageNew = s.ageNew := rfl
@[simp] theorem State.updCastle_aon (f : Castle → Castle) : (s.updCastle k f).aon = s.aon := rfl
@[simp] theorem State.updCastle_clk (f : Castle → Castle) : (s.updCastle k f).clk = s.clk := rfl
@[simp] theorem State.updCastle_store (f : Castle → Castle) : (s.updCastle k f).store = s.store := rfl
@[simp] theorem State.updCastle_video (f : Castle → Castle) : (s.updCastle k f).video = s.video := rfl
@[simp] theorem State.updCastle_drive (f : Castle → Castle) : (s.updCastle k f).drive = s.drive := rfl
@[simp] theorem State.updCastle_rails (f : Castle → Castle) : (s.updCastle k f).rails = s.rails := rfl
@[simp] theorem State.updCastle_therm (f : Castle → Castle) : (s.updCastle k f).therm = s.therm := rfl
@[simp] theorem State.updCastle_mems (f : Castle → Castle) : (s.updCastle k f).mems = s.mems := rfl
@[simp] theorem State.updCastle_io (f : Castle → Castle) : (s.updCastle k f).io = s.io := rfl
@[simp] theorem State.updCastle_out (f : Castle → Castle) : (s.updCastle k f).out = s.out := rfl
@[simp] theorem State.updCastle_jtag (f : Castle → Castle) : (s.updCastle k f).jtag = s.jtag := rfl
@[simp] theorem State.updCastle_place (f : Castle → Castle) : (s.updCastle k f).place = s.place := rfl
@[simp] theorem State.updCastle_snap (f : Castle → Castle) : (s.updCastle k f).snap = s.snap := rfl
@[simp] theorem State.updCastle_ring (f : Castle → Castle) (j : Nat) : (s.updCastle k f).ring j = s.ring j := rfl
@[simp] theorem State.updCastle_pll (f : Castle → Castle) (j : Nat) : (s.updCastle k f).pll j = s.pll j := rfl
@[simp] theorem State.updCastle_gear (f : Castle → Castle) (j : Nat) : (s.updCastle k f).gear j = s.gear j := rfl
@[simp] theorem State.updCastle_enc (f : Castle → Castle) (j : Nat) : (s.updCastle k f).enc j = s.enc j := rfl
@[simp] theorem State.updCastle_gpio (f : Castle → Castle) (j : Nat) : (s.updCastle k f).gpio j = s.gpio j := rfl
@[simp] theorem State.updCastle_ticket (f : Castle → Castle) (j : Nat) : (s.updCastle k f).ticket j = s.ticket j := rfl
@[simp] theorem State.updCastle_page (f : Castle → Castle) (j : Nat) : (s.updCastle k f).page j = s.page j := rfl
@[simp] theorem State.updCastle_dma (f : Castle → Castle) (j : Nat) : (s.updCastle k f).dma j = s.dma j := rfl
@[simp] theorem State.updCastle_station (f : Castle → Castle) (j : Nat) : (s.updCastle k f).station j = s.station j := rfl
@[simp] theorem State.updCastle_lane (f : Castle → Castle) (j : Nat) : (s.updCastle k f).lane j = s.lane j := rfl
@[simp] theorem State.updCastle_beam (f : Castle → Castle) (j : Nat) : (s.updCastle k f).beam j = s.beam j := rfl
@[simp] theorem State.updCastle_link (f : Castle → Castle) (j : Nat) : (s.updCastle k f).link j = s.link j := rfl
@[simp] theorem State.updCastle_tile (f : Castle → Castle) (j : Nat) : (s.updCastle k f).tile j = s.tile j := rfl
@[simp] theorem State.updCastle_bus (f : Castle → Castle) (j : Nat) : (s.updCastle k f).bus j = s.bus j := rfl
@[simp] theorem State.updCastle_group (f : Castle → Castle) (j : Nat) : (s.updCastle k f).group j = s.group j := rfl
@[simp] theorem State.updCastle_axis (f : Castle → Castle) (j : Nat) : (s.updCastle k f).axis j = s.axis j := rfl
@[simp] theorem State.updCastle_poly (f : Castle → Castle) (j : Nat) : (s.updCastle k f).poly j = s.poly j := rfl
@[simp] theorem State.updCastle_loop (f : Castle → Castle) (j : Nat) : (s.updCastle k f).loop j = s.loop j := rfl
@[simp] theorem State.updCastle_heat (f : Castle → Castle) (j : Nat) : (s.updCastle k f).heat j = s.heat j := rfl
@[simp] theorem State.updCastle_leg (f : Castle → Castle) (j : Nat) : (s.updCastle k f).leg j = s.leg j := rfl
@[simp] theorem State.updCastle_rail (f : Castle → Castle) (j : Nat) : (s.updCastle k f).rail j = s.rail j := rfl
@[simp] theorem State.updCastle_sensor (f : Castle → Castle) (j : Nat) : (s.updCastle k f).sensor j = s.sensor j := rfl
@[simp] theorem State.updCastle_mem (f : Castle → Castle) (j : Nat) : (s.updCastle k f).mem j = s.mem j := rfl
@[simp] theorem State.updCastle_par (f : Castle → Castle) (c i p : Nat) : (s.updCastle k f).par c i p = s.par c i p := rfl

/-! ### Ticket -/

theorem State.updTicket_eq (f : Ticket → Ticket) : s.updTicket k f = s.setTicket k (f (s.ticket k)) := rfl
@[simp] theorem State.setTicket_get (v : Ticket) (j : Nat) : (s.setTicket k v).ticket j = if j = k then v else s.ticket j := Map.get_put _ _ _ _ _
@[simp] theorem State.updTicket_get (f : Ticket → Ticket) (j : Nat) : (s.updTicket k f).ticket j = if j = k then f (s.ticket k) else s.ticket j := Map.get_put _ _ _ _ _
@[simp] theorem State.setTicket_die (v : Ticket) : (s.setTicket k v).die = s.die := rfl
@[simp] theorem State.setTicket_free (v : Ticket) : (s.setTicket k v).free = s.free := rfl
@[simp] theorem State.setTicket_pending (v : Ticket) : (s.setTicket k v).pending = s.pending := rfl
@[simp] theorem State.setTicket_tempo (v : Ticket) : (s.setTicket k v).tempo = s.tempo := rfl
@[simp] theorem State.setTicket_running (v : Ticket) : (s.setTicket k v).running = s.running := rfl
@[simp] theorem State.setTicket_follower (v : Ticket) : (s.setTicket k v).follower = s.follower := rfl
@[simp] theorem State.setTicket_md (v : Ticket) : (s.setTicket k v).md = s.md := rfl
@[simp] theorem State.setTicket_host (v : Ticket) : (s.setTicket k v).host = s.host := rfl
@[simp] theorem State.setTicket_faults (v : Ticket) : (s.setTicket k v).faults = s.faults := rfl
@[simp] theorem State.setTicket_firstCode (v : Ticket) : (s.setTicket k v).firstCode = s.firstCode := rfl
@[simp] theorem State.setTicket_firstTempo (v : Ticket) : (s.setTicket k v).firstTempo = s.firstTempo := rfl
@[simp] theorem State.setTicket_thermTrip (v : Ticket) : (s.setTicket k v).thermTrip = s.thermTrip := rfl
@[simp] theorem State.setTicket_watchdog (v : Ticket) : (s.setTicket k v).watchdog = s.watchdog := rfl
@[simp] theorem State.setTicket_params (v : Ticket) : (s.setTicket k v).params = s.params := rfl
@[simp] theorem State.setTicket_removed (v : Ticket) : (s.setTicket k v).removed = s.removed := rfl
@[simp] theorem State.setTicket_promotions (v : Ticket) : (s.setTicket k v).promotions = s.promotions := rfl
@[simp] theorem State.setTicket_ageNew (v : Ticket) : (s.setTicket k v).ageNew = s.ageNew := rfl
@[simp] theorem State.setTicket_aon (v : Ticket) : (s.setTicket k v).aon = s.aon := rfl
@[simp] theorem State.setTicket_clk (v : Ticket) : (s.setTicket k v).clk = s.clk := rfl
@[simp] theorem State.setTicket_store (v : Ticket) : (s.setTicket k v).store = s.store := rfl
@[simp] theorem State.setTicket_video (v : Ticket) : (s.setTicket k v).video = s.video := rfl
@[simp] theorem State.setTicket_drive (v : Ticket) : (s.setTicket k v).drive = s.drive := rfl
@[simp] theorem State.setTicket_rails (v : Ticket) : (s.setTicket k v).rails = s.rails := rfl
@[simp] theorem State.setTicket_therm (v : Ticket) : (s.setTicket k v).therm = s.therm := rfl
@[simp] theorem State.setTicket_mems (v : Ticket) : (s.setTicket k v).mems = s.mems := rfl
@[simp] theorem State.setTicket_io (v : Ticket) : (s.setTicket k v).io = s.io := rfl
@[simp] theorem State.setTicket_out (v : Ticket) : (s.setTicket k v).out = s.out := rfl
@[simp] theorem State.setTicket_jtag (v : Ticket) : (s.setTicket k v).jtag = s.jtag := rfl
@[simp] theorem State.setTicket_place (v : Ticket) : (s.setTicket k v).place = s.place := rfl
@[simp] theorem State.setTicket_snap (v : Ticket) : (s.setTicket k v).snap = s.snap := rfl
@[simp] theorem State.setTicket_ring (v : Ticket) (j : Nat) : (s.setTicket k v).ring j = s.ring j := rfl
@[simp] theorem State.setTicket_pll (v : Ticket) (j : Nat) : (s.setTicket k v).pll j = s.pll j := rfl
@[simp] theorem State.setTicket_gear (v : Ticket) (j : Nat) : (s.setTicket k v).gear j = s.gear j := rfl
@[simp] theorem State.setTicket_enc (v : Ticket) (j : Nat) : (s.setTicket k v).enc j = s.enc j := rfl
@[simp] theorem State.setTicket_gpio (v : Ticket) (j : Nat) : (s.setTicket k v).gpio j = s.gpio j := rfl
@[simp] theorem State.setTicket_castle (v : Ticket) (j : Nat) : (s.setTicket k v).castle j = s.castle j := rfl
@[simp] theorem State.setTicket_page (v : Ticket) (j : Nat) : (s.setTicket k v).page j = s.page j := rfl
@[simp] theorem State.setTicket_dma (v : Ticket) (j : Nat) : (s.setTicket k v).dma j = s.dma j := rfl
@[simp] theorem State.setTicket_station (v : Ticket) (j : Nat) : (s.setTicket k v).station j = s.station j := rfl
@[simp] theorem State.setTicket_lane (v : Ticket) (j : Nat) : (s.setTicket k v).lane j = s.lane j := rfl
@[simp] theorem State.setTicket_beam (v : Ticket) (j : Nat) : (s.setTicket k v).beam j = s.beam j := rfl
@[simp] theorem State.setTicket_link (v : Ticket) (j : Nat) : (s.setTicket k v).link j = s.link j := rfl
@[simp] theorem State.setTicket_tile (v : Ticket) (j : Nat) : (s.setTicket k v).tile j = s.tile j := rfl
@[simp] theorem State.setTicket_bus (v : Ticket) (j : Nat) : (s.setTicket k v).bus j = s.bus j := rfl
@[simp] theorem State.setTicket_group (v : Ticket) (j : Nat) : (s.setTicket k v).group j = s.group j := rfl
@[simp] theorem State.setTicket_axis (v : Ticket) (j : Nat) : (s.setTicket k v).axis j = s.axis j := rfl
@[simp] theorem State.setTicket_poly (v : Ticket) (j : Nat) : (s.setTicket k v).poly j = s.poly j := rfl
@[simp] theorem State.setTicket_loop (v : Ticket) (j : Nat) : (s.setTicket k v).loop j = s.loop j := rfl
@[simp] theorem State.setTicket_heat (v : Ticket) (j : Nat) : (s.setTicket k v).heat j = s.heat j := rfl
@[simp] theorem State.setTicket_leg (v : Ticket) (j : Nat) : (s.setTicket k v).leg j = s.leg j := rfl
@[simp] theorem State.setTicket_rail (v : Ticket) (j : Nat) : (s.setTicket k v).rail j = s.rail j := rfl
@[simp] theorem State.setTicket_sensor (v : Ticket) (j : Nat) : (s.setTicket k v).sensor j = s.sensor j := rfl
@[simp] theorem State.setTicket_mem (v : Ticket) (j : Nat) : (s.setTicket k v).mem j = s.mem j := rfl
@[simp] theorem State.setTicket_par (v : Ticket) (c i p : Nat) : (s.setTicket k v).par c i p = s.par c i p := rfl
@[simp] theorem State.updTicket_die (f : Ticket → Ticket) : (s.updTicket k f).die = s.die := rfl
@[simp] theorem State.updTicket_free (f : Ticket → Ticket) : (s.updTicket k f).free = s.free := rfl
@[simp] theorem State.updTicket_pending (f : Ticket → Ticket) : (s.updTicket k f).pending = s.pending := rfl
@[simp] theorem State.updTicket_tempo (f : Ticket → Ticket) : (s.updTicket k f).tempo = s.tempo := rfl
@[simp] theorem State.updTicket_running (f : Ticket → Ticket) : (s.updTicket k f).running = s.running := rfl
@[simp] theorem State.updTicket_follower (f : Ticket → Ticket) : (s.updTicket k f).follower = s.follower := rfl
@[simp] theorem State.updTicket_md (f : Ticket → Ticket) : (s.updTicket k f).md = s.md := rfl
@[simp] theorem State.updTicket_host (f : Ticket → Ticket) : (s.updTicket k f).host = s.host := rfl
@[simp] theorem State.updTicket_faults (f : Ticket → Ticket) : (s.updTicket k f).faults = s.faults := rfl
@[simp] theorem State.updTicket_firstCode (f : Ticket → Ticket) : (s.updTicket k f).firstCode = s.firstCode := rfl
@[simp] theorem State.updTicket_firstTempo (f : Ticket → Ticket) : (s.updTicket k f).firstTempo = s.firstTempo := rfl
@[simp] theorem State.updTicket_thermTrip (f : Ticket → Ticket) : (s.updTicket k f).thermTrip = s.thermTrip := rfl
@[simp] theorem State.updTicket_watchdog (f : Ticket → Ticket) : (s.updTicket k f).watchdog = s.watchdog := rfl
@[simp] theorem State.updTicket_params (f : Ticket → Ticket) : (s.updTicket k f).params = s.params := rfl
@[simp] theorem State.updTicket_removed (f : Ticket → Ticket) : (s.updTicket k f).removed = s.removed := rfl
@[simp] theorem State.updTicket_promotions (f : Ticket → Ticket) : (s.updTicket k f).promotions = s.promotions := rfl
@[simp] theorem State.updTicket_ageNew (f : Ticket → Ticket) : (s.updTicket k f).ageNew = s.ageNew := rfl
@[simp] theorem State.updTicket_aon (f : Ticket → Ticket) : (s.updTicket k f).aon = s.aon := rfl
@[simp] theorem State.updTicket_clk (f : Ticket → Ticket) : (s.updTicket k f).clk = s.clk := rfl
@[simp] theorem State.updTicket_store (f : Ticket → Ticket) : (s.updTicket k f).store = s.store := rfl
@[simp] theorem State.updTicket_video (f : Ticket → Ticket) : (s.updTicket k f).video = s.video := rfl
@[simp] theorem State.updTicket_drive (f : Ticket → Ticket) : (s.updTicket k f).drive = s.drive := rfl
@[simp] theorem State.updTicket_rails (f : Ticket → Ticket) : (s.updTicket k f).rails = s.rails := rfl
@[simp] theorem State.updTicket_therm (f : Ticket → Ticket) : (s.updTicket k f).therm = s.therm := rfl
@[simp] theorem State.updTicket_mems (f : Ticket → Ticket) : (s.updTicket k f).mems = s.mems := rfl
@[simp] theorem State.updTicket_io (f : Ticket → Ticket) : (s.updTicket k f).io = s.io := rfl
@[simp] theorem State.updTicket_out (f : Ticket → Ticket) : (s.updTicket k f).out = s.out := rfl
@[simp] theorem State.updTicket_jtag (f : Ticket → Ticket) : (s.updTicket k f).jtag = s.jtag := rfl
@[simp] theorem State.updTicket_place (f : Ticket → Ticket) : (s.updTicket k f).place = s.place := rfl
@[simp] theorem State.updTicket_snap (f : Ticket → Ticket) : (s.updTicket k f).snap = s.snap := rfl
@[simp] theorem State.updTicket_ring (f : Ticket → Ticket) (j : Nat) : (s.updTicket k f).ring j = s.ring j := rfl
@[simp] theorem State.updTicket_pll (f : Ticket → Ticket) (j : Nat) : (s.updTicket k f).pll j = s.pll j := rfl
@[simp] theorem State.updTicket_gear (f : Ticket → Ticket) (j : Nat) : (s.updTicket k f).gear j = s.gear j := rfl
@[simp] theorem State.updTicket_enc (f : Ticket → Ticket) (j : Nat) : (s.updTicket k f).enc j = s.enc j := rfl
@[simp] theorem State.updTicket_gpio (f : Ticket → Ticket) (j : Nat) : (s.updTicket k f).gpio j = s.gpio j := rfl
@[simp] theorem State.updTicket_castle (f : Ticket → Ticket) (j : Nat) : (s.updTicket k f).castle j = s.castle j := rfl
@[simp] theorem State.updTicket_page (f : Ticket → Ticket) (j : Nat) : (s.updTicket k f).page j = s.page j := rfl
@[simp] theorem State.updTicket_dma (f : Ticket → Ticket) (j : Nat) : (s.updTicket k f).dma j = s.dma j := rfl
@[simp] theorem State.updTicket_station (f : Ticket → Ticket) (j : Nat) : (s.updTicket k f).station j = s.station j := rfl
@[simp] theorem State.updTicket_lane (f : Ticket → Ticket) (j : Nat) : (s.updTicket k f).lane j = s.lane j := rfl
@[simp] theorem State.updTicket_beam (f : Ticket → Ticket) (j : Nat) : (s.updTicket k f).beam j = s.beam j := rfl
@[simp] theorem State.updTicket_link (f : Ticket → Ticket) (j : Nat) : (s.updTicket k f).link j = s.link j := rfl
@[simp] theorem State.updTicket_tile (f : Ticket → Ticket) (j : Nat) : (s.updTicket k f).tile j = s.tile j := rfl
@[simp] theorem State.updTicket_bus (f : Ticket → Ticket) (j : Nat) : (s.updTicket k f).bus j = s.bus j := rfl
@[simp] theorem State.updTicket_group (f : Ticket → Ticket) (j : Nat) : (s.updTicket k f).group j = s.group j := rfl
@[simp] theorem State.updTicket_axis (f : Ticket → Ticket) (j : Nat) : (s.updTicket k f).axis j = s.axis j := rfl
@[simp] theorem State.updTicket_poly (f : Ticket → Ticket) (j : Nat) : (s.updTicket k f).poly j = s.poly j := rfl
@[simp] theorem State.updTicket_loop (f : Ticket → Ticket) (j : Nat) : (s.updTicket k f).loop j = s.loop j := rfl
@[simp] theorem State.updTicket_heat (f : Ticket → Ticket) (j : Nat) : (s.updTicket k f).heat j = s.heat j := rfl
@[simp] theorem State.updTicket_leg (f : Ticket → Ticket) (j : Nat) : (s.updTicket k f).leg j = s.leg j := rfl
@[simp] theorem State.updTicket_rail (f : Ticket → Ticket) (j : Nat) : (s.updTicket k f).rail j = s.rail j := rfl
@[simp] theorem State.updTicket_sensor (f : Ticket → Ticket) (j : Nat) : (s.updTicket k f).sensor j = s.sensor j := rfl
@[simp] theorem State.updTicket_mem (f : Ticket → Ticket) (j : Nat) : (s.updTicket k f).mem j = s.mem j := rfl
@[simp] theorem State.updTicket_par (f : Ticket → Ticket) (c i p : Nat) : (s.updTicket k f).par c i p = s.par c i p := rfl

/-! ### Page -/

theorem State.updPage_eq (f : Page → Page) : s.updPage k f = s.setPage k (f (s.page k)) := rfl
@[simp] theorem State.setPage_get (v : Page) (j : Nat) : (s.setPage k v).page j = if j = k then v else s.page j := Map.get_put _ _ _ _ _
@[simp] theorem State.updPage_get (f : Page → Page) (j : Nat) : (s.updPage k f).page j = if j = k then f (s.page k) else s.page j := Map.get_put _ _ _ _ _
@[simp] theorem State.setPage_die (v : Page) : (s.setPage k v).die = s.die := rfl
@[simp] theorem State.setPage_free (v : Page) : (s.setPage k v).free = s.free := rfl
@[simp] theorem State.setPage_pending (v : Page) : (s.setPage k v).pending = s.pending := rfl
@[simp] theorem State.setPage_tempo (v : Page) : (s.setPage k v).tempo = s.tempo := rfl
@[simp] theorem State.setPage_running (v : Page) : (s.setPage k v).running = s.running := rfl
@[simp] theorem State.setPage_follower (v : Page) : (s.setPage k v).follower = s.follower := rfl
@[simp] theorem State.setPage_md (v : Page) : (s.setPage k v).md = s.md := rfl
@[simp] theorem State.setPage_host (v : Page) : (s.setPage k v).host = s.host := rfl
@[simp] theorem State.setPage_faults (v : Page) : (s.setPage k v).faults = s.faults := rfl
@[simp] theorem State.setPage_firstCode (v : Page) : (s.setPage k v).firstCode = s.firstCode := rfl
@[simp] theorem State.setPage_firstTempo (v : Page) : (s.setPage k v).firstTempo = s.firstTempo := rfl
@[simp] theorem State.setPage_thermTrip (v : Page) : (s.setPage k v).thermTrip = s.thermTrip := rfl
@[simp] theorem State.setPage_watchdog (v : Page) : (s.setPage k v).watchdog = s.watchdog := rfl
@[simp] theorem State.setPage_params (v : Page) : (s.setPage k v).params = s.params := rfl
@[simp] theorem State.setPage_removed (v : Page) : (s.setPage k v).removed = s.removed := rfl
@[simp] theorem State.setPage_promotions (v : Page) : (s.setPage k v).promotions = s.promotions := rfl
@[simp] theorem State.setPage_ageNew (v : Page) : (s.setPage k v).ageNew = s.ageNew := rfl
@[simp] theorem State.setPage_aon (v : Page) : (s.setPage k v).aon = s.aon := rfl
@[simp] theorem State.setPage_sheets (v : Page) : (s.setPage k v).sheets = s.sheets := rfl
@[simp] theorem State.setPage_clk (v : Page) : (s.setPage k v).clk = s.clk := rfl
@[simp] theorem State.setPage_video (v : Page) : (s.setPage k v).video = s.video := rfl
@[simp] theorem State.setPage_drive (v : Page) : (s.setPage k v).drive = s.drive := rfl
@[simp] theorem State.setPage_rails (v : Page) : (s.setPage k v).rails = s.rails := rfl
@[simp] theorem State.setPage_therm (v : Page) : (s.setPage k v).therm = s.therm := rfl
@[simp] theorem State.setPage_mems (v : Page) : (s.setPage k v).mems = s.mems := rfl
@[simp] theorem State.setPage_io (v : Page) : (s.setPage k v).io = s.io := rfl
@[simp] theorem State.setPage_out (v : Page) : (s.setPage k v).out = s.out := rfl
@[simp] theorem State.setPage_jtag (v : Page) : (s.setPage k v).jtag = s.jtag := rfl
@[simp] theorem State.setPage_place (v : Page) : (s.setPage k v).place = s.place := rfl
@[simp] theorem State.setPage_snap (v : Page) : (s.setPage k v).snap = s.snap := rfl
@[simp] theorem State.setPage_ring (v : Page) (j : Nat) : (s.setPage k v).ring j = s.ring j := rfl
@[simp] theorem State.setPage_pll (v : Page) (j : Nat) : (s.setPage k v).pll j = s.pll j := rfl
@[simp] theorem State.setPage_gear (v : Page) (j : Nat) : (s.setPage k v).gear j = s.gear j := rfl
@[simp] theorem State.setPage_enc (v : Page) (j : Nat) : (s.setPage k v).enc j = s.enc j := rfl
@[simp] theorem State.setPage_gpio (v : Page) (j : Nat) : (s.setPage k v).gpio j = s.gpio j := rfl
@[simp] theorem State.setPage_castle (v : Page) (j : Nat) : (s.setPage k v).castle j = s.castle j := rfl
@[simp] theorem State.setPage_ticket (v : Page) (j : Nat) : (s.setPage k v).ticket j = s.ticket j := rfl
@[simp] theorem State.setPage_dma (v : Page) (j : Nat) : (s.setPage k v).dma j = s.dma j := rfl
@[simp] theorem State.setPage_station (v : Page) (j : Nat) : (s.setPage k v).station j = s.station j := rfl
@[simp] theorem State.setPage_lane (v : Page) (j : Nat) : (s.setPage k v).lane j = s.lane j := rfl
@[simp] theorem State.setPage_beam (v : Page) (j : Nat) : (s.setPage k v).beam j = s.beam j := rfl
@[simp] theorem State.setPage_link (v : Page) (j : Nat) : (s.setPage k v).link j = s.link j := rfl
@[simp] theorem State.setPage_tile (v : Page) (j : Nat) : (s.setPage k v).tile j = s.tile j := rfl
@[simp] theorem State.setPage_bus (v : Page) (j : Nat) : (s.setPage k v).bus j = s.bus j := rfl
@[simp] theorem State.setPage_group (v : Page) (j : Nat) : (s.setPage k v).group j = s.group j := rfl
@[simp] theorem State.setPage_axis (v : Page) (j : Nat) : (s.setPage k v).axis j = s.axis j := rfl
@[simp] theorem State.setPage_poly (v : Page) (j : Nat) : (s.setPage k v).poly j = s.poly j := rfl
@[simp] theorem State.setPage_loop (v : Page) (j : Nat) : (s.setPage k v).loop j = s.loop j := rfl
@[simp] theorem State.setPage_heat (v : Page) (j : Nat) : (s.setPage k v).heat j = s.heat j := rfl
@[simp] theorem State.setPage_leg (v : Page) (j : Nat) : (s.setPage k v).leg j = s.leg j := rfl
@[simp] theorem State.setPage_rail (v : Page) (j : Nat) : (s.setPage k v).rail j = s.rail j := rfl
@[simp] theorem State.setPage_sensor (v : Page) (j : Nat) : (s.setPage k v).sensor j = s.sensor j := rfl
@[simp] theorem State.setPage_mem (v : Page) (j : Nat) : (s.setPage k v).mem j = s.mem j := rfl
@[simp] theorem State.setPage_par (v : Page) (c i p : Nat) : (s.setPage k v).par c i p = s.par c i p := rfl
@[simp] theorem State.updPage_die (f : Page → Page) : (s.updPage k f).die = s.die := rfl
@[simp] theorem State.updPage_free (f : Page → Page) : (s.updPage k f).free = s.free := rfl
@[simp] theorem State.updPage_pending (f : Page → Page) : (s.updPage k f).pending = s.pending := rfl
@[simp] theorem State.updPage_tempo (f : Page → Page) : (s.updPage k f).tempo = s.tempo := rfl
@[simp] theorem State.updPage_running (f : Page → Page) : (s.updPage k f).running = s.running := rfl
@[simp] theorem State.updPage_follower (f : Page → Page) : (s.updPage k f).follower = s.follower := rfl
@[simp] theorem State.updPage_md (f : Page → Page) : (s.updPage k f).md = s.md := rfl
@[simp] theorem State.updPage_host (f : Page → Page) : (s.updPage k f).host = s.host := rfl
@[simp] theorem State.updPage_faults (f : Page → Page) : (s.updPage k f).faults = s.faults := rfl
@[simp] theorem State.updPage_firstCode (f : Page → Page) : (s.updPage k f).firstCode = s.firstCode := rfl
@[simp] theorem State.updPage_firstTempo (f : Page → Page) : (s.updPage k f).firstTempo = s.firstTempo := rfl
@[simp] theorem State.updPage_thermTrip (f : Page → Page) : (s.updPage k f).thermTrip = s.thermTrip := rfl
@[simp] theorem State.updPage_watchdog (f : Page → Page) : (s.updPage k f).watchdog = s.watchdog := rfl
@[simp] theorem State.updPage_params (f : Page → Page) : (s.updPage k f).params = s.params := rfl
@[simp] theorem State.updPage_removed (f : Page → Page) : (s.updPage k f).removed = s.removed := rfl
@[simp] theorem State.updPage_promotions (f : Page → Page) : (s.updPage k f).promotions = s.promotions := rfl
@[simp] theorem State.updPage_ageNew (f : Page → Page) : (s.updPage k f).ageNew = s.ageNew := rfl
@[simp] theorem State.updPage_aon (f : Page → Page) : (s.updPage k f).aon = s.aon := rfl
@[simp] theorem State.updPage_sheets (f : Page → Page) : (s.updPage k f).sheets = s.sheets := rfl
@[simp] theorem State.updPage_clk (f : Page → Page) : (s.updPage k f).clk = s.clk := rfl
@[simp] theorem State.updPage_video (f : Page → Page) : (s.updPage k f).video = s.video := rfl
@[simp] theorem State.updPage_drive (f : Page → Page) : (s.updPage k f).drive = s.drive := rfl
@[simp] theorem State.updPage_rails (f : Page → Page) : (s.updPage k f).rails = s.rails := rfl
@[simp] theorem State.updPage_therm (f : Page → Page) : (s.updPage k f).therm = s.therm := rfl
@[simp] theorem State.updPage_mems (f : Page → Page) : (s.updPage k f).mems = s.mems := rfl
@[simp] theorem State.updPage_io (f : Page → Page) : (s.updPage k f).io = s.io := rfl
@[simp] theorem State.updPage_out (f : Page → Page) : (s.updPage k f).out = s.out := rfl
@[simp] theorem State.updPage_jtag (f : Page → Page) : (s.updPage k f).jtag = s.jtag := rfl
@[simp] theorem State.updPage_place (f : Page → Page) : (s.updPage k f).place = s.place := rfl
@[simp] theorem State.updPage_snap (f : Page → Page) : (s.updPage k f).snap = s.snap := rfl
@[simp] theorem State.updPage_ring (f : Page → Page) (j : Nat) : (s.updPage k f).ring j = s.ring j := rfl
@[simp] theorem State.updPage_pll (f : Page → Page) (j : Nat) : (s.updPage k f).pll j = s.pll j := rfl
@[simp] theorem State.updPage_gear (f : Page → Page) (j : Nat) : (s.updPage k f).gear j = s.gear j := rfl
@[simp] theorem State.updPage_enc (f : Page → Page) (j : Nat) : (s.updPage k f).enc j = s.enc j := rfl
@[simp] theorem State.updPage_gpio (f : Page → Page) (j : Nat) : (s.updPage k f).gpio j = s.gpio j := rfl
@[simp] theorem State.updPage_castle (f : Page → Page) (j : Nat) : (s.updPage k f).castle j = s.castle j := rfl
@[simp] theorem State.updPage_ticket (f : Page → Page) (j : Nat) : (s.updPage k f).ticket j = s.ticket j := rfl
@[simp] theorem State.updPage_dma (f : Page → Page) (j : Nat) : (s.updPage k f).dma j = s.dma j := rfl
@[simp] theorem State.updPage_station (f : Page → Page) (j : Nat) : (s.updPage k f).station j = s.station j := rfl
@[simp] theorem State.updPage_lane (f : Page → Page) (j : Nat) : (s.updPage k f).lane j = s.lane j := rfl
@[simp] theorem State.updPage_beam (f : Page → Page) (j : Nat) : (s.updPage k f).beam j = s.beam j := rfl
@[simp] theorem State.updPage_link (f : Page → Page) (j : Nat) : (s.updPage k f).link j = s.link j := rfl
@[simp] theorem State.updPage_tile (f : Page → Page) (j : Nat) : (s.updPage k f).tile j = s.tile j := rfl
@[simp] theorem State.updPage_bus (f : Page → Page) (j : Nat) : (s.updPage k f).bus j = s.bus j := rfl
@[simp] theorem State.updPage_group (f : Page → Page) (j : Nat) : (s.updPage k f).group j = s.group j := rfl
@[simp] theorem State.updPage_axis (f : Page → Page) (j : Nat) : (s.updPage k f).axis j = s.axis j := rfl
@[simp] theorem State.updPage_poly (f : Page → Page) (j : Nat) : (s.updPage k f).poly j = s.poly j := rfl
@[simp] theorem State.updPage_loop (f : Page → Page) (j : Nat) : (s.updPage k f).loop j = s.loop j := rfl
@[simp] theorem State.updPage_heat (f : Page → Page) (j : Nat) : (s.updPage k f).heat j = s.heat j := rfl
@[simp] theorem State.updPage_leg (f : Page → Page) (j : Nat) : (s.updPage k f).leg j = s.leg j := rfl
@[simp] theorem State.updPage_rail (f : Page → Page) (j : Nat) : (s.updPage k f).rail j = s.rail j := rfl
@[simp] theorem State.updPage_sensor (f : Page → Page) (j : Nat) : (s.updPage k f).sensor j = s.sensor j := rfl
@[simp] theorem State.updPage_mem (f : Page → Page) (j : Nat) : (s.updPage k f).mem j = s.mem j := rfl
@[simp] theorem State.updPage_par (f : Page → Page) (c i p : Nat) : (s.updPage k f).par c i p = s.par c i p := rfl

/-! ### Dma -/

theorem State.updDma_eq (f : Dma → Dma) : s.updDma k f = s.setDma k (f (s.dma k)) := rfl
@[simp] theorem State.setDma_get (v : Dma) (j : Nat) : (s.setDma k v).dma j = if j = k then v else s.dma j := Map.get_put _ _ _ _ _
@[simp] theorem State.updDma_get (f : Dma → Dma) (j : Nat) : (s.updDma k f).dma j = if j = k then f (s.dma k) else s.dma j := Map.get_put _ _ _ _ _
@[simp] theorem State.setDma_die (v : Dma) : (s.setDma k v).die = s.die := rfl
@[simp] theorem State.setDma_free (v : Dma) : (s.setDma k v).free = s.free := rfl
@[simp] theorem State.setDma_pending (v : Dma) : (s.setDma k v).pending = s.pending := rfl
@[simp] theorem State.setDma_tempo (v : Dma) : (s.setDma k v).tempo = s.tempo := rfl
@[simp] theorem State.setDma_running (v : Dma) : (s.setDma k v).running = s.running := rfl
@[simp] theorem State.setDma_follower (v : Dma) : (s.setDma k v).follower = s.follower := rfl
@[simp] theorem State.setDma_md (v : Dma) : (s.setDma k v).md = s.md := rfl
@[simp] theorem State.setDma_host (v : Dma) : (s.setDma k v).host = s.host := rfl
@[simp] theorem State.setDma_faults (v : Dma) : (s.setDma k v).faults = s.faults := rfl
@[simp] theorem State.setDma_firstCode (v : Dma) : (s.setDma k v).firstCode = s.firstCode := rfl
@[simp] theorem State.setDma_firstTempo (v : Dma) : (s.setDma k v).firstTempo = s.firstTempo := rfl
@[simp] theorem State.setDma_thermTrip (v : Dma) : (s.setDma k v).thermTrip = s.thermTrip := rfl
@[simp] theorem State.setDma_watchdog (v : Dma) : (s.setDma k v).watchdog = s.watchdog := rfl
@[simp] theorem State.setDma_params (v : Dma) : (s.setDma k v).params = s.params := rfl
@[simp] theorem State.setDma_removed (v : Dma) : (s.setDma k v).removed = s.removed := rfl
@[simp] theorem State.setDma_promotions (v : Dma) : (s.setDma k v).promotions = s.promotions := rfl
@[simp] theorem State.setDma_ageNew (v : Dma) : (s.setDma k v).ageNew = s.ageNew := rfl
@[simp] theorem State.setDma_aon (v : Dma) : (s.setDma k v).aon = s.aon := rfl
@[simp] theorem State.setDma_sheets (v : Dma) : (s.setDma k v).sheets = s.sheets := rfl
@[simp] theorem State.setDma_clk (v : Dma) : (s.setDma k v).clk = s.clk := rfl
@[simp] theorem State.setDma_video (v : Dma) : (s.setDma k v).video = s.video := rfl
@[simp] theorem State.setDma_drive (v : Dma) : (s.setDma k v).drive = s.drive := rfl
@[simp] theorem State.setDma_rails (v : Dma) : (s.setDma k v).rails = s.rails := rfl
@[simp] theorem State.setDma_therm (v : Dma) : (s.setDma k v).therm = s.therm := rfl
@[simp] theorem State.setDma_mems (v : Dma) : (s.setDma k v).mems = s.mems := rfl
@[simp] theorem State.setDma_io (v : Dma) : (s.setDma k v).io = s.io := rfl
@[simp] theorem State.setDma_out (v : Dma) : (s.setDma k v).out = s.out := rfl
@[simp] theorem State.setDma_jtag (v : Dma) : (s.setDma k v).jtag = s.jtag := rfl
@[simp] theorem State.setDma_place (v : Dma) : (s.setDma k v).place = s.place := rfl
@[simp] theorem State.setDma_snap (v : Dma) : (s.setDma k v).snap = s.snap := rfl
@[simp] theorem State.setDma_ring (v : Dma) (j : Nat) : (s.setDma k v).ring j = s.ring j := rfl
@[simp] theorem State.setDma_pll (v : Dma) (j : Nat) : (s.setDma k v).pll j = s.pll j := rfl
@[simp] theorem State.setDma_gear (v : Dma) (j : Nat) : (s.setDma k v).gear j = s.gear j := rfl
@[simp] theorem State.setDma_enc (v : Dma) (j : Nat) : (s.setDma k v).enc j = s.enc j := rfl
@[simp] theorem State.setDma_gpio (v : Dma) (j : Nat) : (s.setDma k v).gpio j = s.gpio j := rfl
@[simp] theorem State.setDma_castle (v : Dma) (j : Nat) : (s.setDma k v).castle j = s.castle j := rfl
@[simp] theorem State.setDma_ticket (v : Dma) (j : Nat) : (s.setDma k v).ticket j = s.ticket j := rfl
@[simp] theorem State.setDma_page (v : Dma) (j : Nat) : (s.setDma k v).page j = s.page j := rfl
@[simp] theorem State.setDma_station (v : Dma) (j : Nat) : (s.setDma k v).station j = s.station j := rfl
@[simp] theorem State.setDma_lane (v : Dma) (j : Nat) : (s.setDma k v).lane j = s.lane j := rfl
@[simp] theorem State.setDma_beam (v : Dma) (j : Nat) : (s.setDma k v).beam j = s.beam j := rfl
@[simp] theorem State.setDma_link (v : Dma) (j : Nat) : (s.setDma k v).link j = s.link j := rfl
@[simp] theorem State.setDma_tile (v : Dma) (j : Nat) : (s.setDma k v).tile j = s.tile j := rfl
@[simp] theorem State.setDma_bus (v : Dma) (j : Nat) : (s.setDma k v).bus j = s.bus j := rfl
@[simp] theorem State.setDma_group (v : Dma) (j : Nat) : (s.setDma k v).group j = s.group j := rfl
@[simp] theorem State.setDma_axis (v : Dma) (j : Nat) : (s.setDma k v).axis j = s.axis j := rfl
@[simp] theorem State.setDma_poly (v : Dma) (j : Nat) : (s.setDma k v).poly j = s.poly j := rfl
@[simp] theorem State.setDma_loop (v : Dma) (j : Nat) : (s.setDma k v).loop j = s.loop j := rfl
@[simp] theorem State.setDma_heat (v : Dma) (j : Nat) : (s.setDma k v).heat j = s.heat j := rfl
@[simp] theorem State.setDma_leg (v : Dma) (j : Nat) : (s.setDma k v).leg j = s.leg j := rfl
@[simp] theorem State.setDma_rail (v : Dma) (j : Nat) : (s.setDma k v).rail j = s.rail j := rfl
@[simp] theorem State.setDma_sensor (v : Dma) (j : Nat) : (s.setDma k v).sensor j = s.sensor j := rfl
@[simp] theorem State.setDma_mem (v : Dma) (j : Nat) : (s.setDma k v).mem j = s.mem j := rfl
@[simp] theorem State.setDma_par (v : Dma) (c i p : Nat) : (s.setDma k v).par c i p = s.par c i p := rfl
@[simp] theorem State.updDma_die (f : Dma → Dma) : (s.updDma k f).die = s.die := rfl
@[simp] theorem State.updDma_free (f : Dma → Dma) : (s.updDma k f).free = s.free := rfl
@[simp] theorem State.updDma_pending (f : Dma → Dma) : (s.updDma k f).pending = s.pending := rfl
@[simp] theorem State.updDma_tempo (f : Dma → Dma) : (s.updDma k f).tempo = s.tempo := rfl
@[simp] theorem State.updDma_running (f : Dma → Dma) : (s.updDma k f).running = s.running := rfl
@[simp] theorem State.updDma_follower (f : Dma → Dma) : (s.updDma k f).follower = s.follower := rfl
@[simp] theorem State.updDma_md (f : Dma → Dma) : (s.updDma k f).md = s.md := rfl
@[simp] theorem State.updDma_host (f : Dma → Dma) : (s.updDma k f).host = s.host := rfl
@[simp] theorem State.updDma_faults (f : Dma → Dma) : (s.updDma k f).faults = s.faults := rfl
@[simp] theorem State.updDma_firstCode (f : Dma → Dma) : (s.updDma k f).firstCode = s.firstCode := rfl
@[simp] theorem State.updDma_firstTempo (f : Dma → Dma) : (s.updDma k f).firstTempo = s.firstTempo := rfl
@[simp] theorem State.updDma_thermTrip (f : Dma → Dma) : (s.updDma k f).thermTrip = s.thermTrip := rfl
@[simp] theorem State.updDma_watchdog (f : Dma → Dma) : (s.updDma k f).watchdog = s.watchdog := rfl
@[simp] theorem State.updDma_params (f : Dma → Dma) : (s.updDma k f).params = s.params := rfl
@[simp] theorem State.updDma_removed (f : Dma → Dma) : (s.updDma k f).removed = s.removed := rfl
@[simp] theorem State.updDma_promotions (f : Dma → Dma) : (s.updDma k f).promotions = s.promotions := rfl
@[simp] theorem State.updDma_ageNew (f : Dma → Dma) : (s.updDma k f).ageNew = s.ageNew := rfl
@[simp] theorem State.updDma_aon (f : Dma → Dma) : (s.updDma k f).aon = s.aon := rfl
@[simp] theorem State.updDma_sheets (f : Dma → Dma) : (s.updDma k f).sheets = s.sheets := rfl
@[simp] theorem State.updDma_clk (f : Dma → Dma) : (s.updDma k f).clk = s.clk := rfl
@[simp] theorem State.updDma_video (f : Dma → Dma) : (s.updDma k f).video = s.video := rfl
@[simp] theorem State.updDma_drive (f : Dma → Dma) : (s.updDma k f).drive = s.drive := rfl
@[simp] theorem State.updDma_rails (f : Dma → Dma) : (s.updDma k f).rails = s.rails := rfl
@[simp] theorem State.updDma_therm (f : Dma → Dma) : (s.updDma k f).therm = s.therm := rfl
@[simp] theorem State.updDma_mems (f : Dma → Dma) : (s.updDma k f).mems = s.mems := rfl
@[simp] theorem State.updDma_io (f : Dma → Dma) : (s.updDma k f).io = s.io := rfl
@[simp] theorem State.updDma_out (f : Dma → Dma) : (s.updDma k f).out = s.out := rfl
@[simp] theorem State.updDma_jtag (f : Dma → Dma) : (s.updDma k f).jtag = s.jtag := rfl
@[simp] theorem State.updDma_place (f : Dma → Dma) : (s.updDma k f).place = s.place := rfl
@[simp] theorem State.updDma_snap (f : Dma → Dma) : (s.updDma k f).snap = s.snap := rfl
@[simp] theorem State.updDma_ring (f : Dma → Dma) (j : Nat) : (s.updDma k f).ring j = s.ring j := rfl
@[simp] theorem State.updDma_pll (f : Dma → Dma) (j : Nat) : (s.updDma k f).pll j = s.pll j := rfl
@[simp] theorem State.updDma_gear (f : Dma → Dma) (j : Nat) : (s.updDma k f).gear j = s.gear j := rfl
@[simp] theorem State.updDma_enc (f : Dma → Dma) (j : Nat) : (s.updDma k f).enc j = s.enc j := rfl
@[simp] theorem State.updDma_gpio (f : Dma → Dma) (j : Nat) : (s.updDma k f).gpio j = s.gpio j := rfl
@[simp] theorem State.updDma_castle (f : Dma → Dma) (j : Nat) : (s.updDma k f).castle j = s.castle j := rfl
@[simp] theorem State.updDma_ticket (f : Dma → Dma) (j : Nat) : (s.updDma k f).ticket j = s.ticket j := rfl
@[simp] theorem State.updDma_page (f : Dma → Dma) (j : Nat) : (s.updDma k f).page j = s.page j := rfl
@[simp] theorem State.updDma_station (f : Dma → Dma) (j : Nat) : (s.updDma k f).station j = s.station j := rfl
@[simp] theorem State.updDma_lane (f : Dma → Dma) (j : Nat) : (s.updDma k f).lane j = s.lane j := rfl
@[simp] theorem State.updDma_beam (f : Dma → Dma) (j : Nat) : (s.updDma k f).beam j = s.beam j := rfl
@[simp] theorem State.updDma_link (f : Dma → Dma) (j : Nat) : (s.updDma k f).link j = s.link j := rfl
@[simp] theorem State.updDma_tile (f : Dma → Dma) (j : Nat) : (s.updDma k f).tile j = s.tile j := rfl
@[simp] theorem State.updDma_bus (f : Dma → Dma) (j : Nat) : (s.updDma k f).bus j = s.bus j := rfl
@[simp] theorem State.updDma_group (f : Dma → Dma) (j : Nat) : (s.updDma k f).group j = s.group j := rfl
@[simp] theorem State.updDma_axis (f : Dma → Dma) (j : Nat) : (s.updDma k f).axis j = s.axis j := rfl
@[simp] theorem State.updDma_poly (f : Dma → Dma) (j : Nat) : (s.updDma k f).poly j = s.poly j := rfl
@[simp] theorem State.updDma_loop (f : Dma → Dma) (j : Nat) : (s.updDma k f).loop j = s.loop j := rfl
@[simp] theorem State.updDma_heat (f : Dma → Dma) (j : Nat) : (s.updDma k f).heat j = s.heat j := rfl
@[simp] theorem State.updDma_leg (f : Dma → Dma) (j : Nat) : (s.updDma k f).leg j = s.leg j := rfl
@[simp] theorem State.updDma_rail (f : Dma → Dma) (j : Nat) : (s.updDma k f).rail j = s.rail j := rfl
@[simp] theorem State.updDma_sensor (f : Dma → Dma) (j : Nat) : (s.updDma k f).sensor j = s.sensor j := rfl
@[simp] theorem State.updDma_mem (f : Dma → Dma) (j : Nat) : (s.updDma k f).mem j = s.mem j := rfl
@[simp] theorem State.updDma_par (f : Dma → Dma) (c i p : Nat) : (s.updDma k f).par c i p = s.par c i p := rfl

/-! ### Station -/

theorem State.updStation_eq (f : Station → Station) : s.updStation k f = s.setStation k (f (s.station k)) := rfl
@[simp] theorem State.setStation_get (v : Station) (j : Nat) : (s.setStation k v).station j = if j = k then v else s.station j := Map.get_put _ _ _ _ _
@[simp] theorem State.updStation_get (f : Station → Station) (j : Nat) : (s.updStation k f).station j = if j = k then f (s.station k) else s.station j := Map.get_put _ _ _ _ _
@[simp] theorem State.setStation_die (v : Station) : (s.setStation k v).die = s.die := rfl
@[simp] theorem State.setStation_free (v : Station) : (s.setStation k v).free = s.free := rfl
@[simp] theorem State.setStation_pending (v : Station) : (s.setStation k v).pending = s.pending := rfl
@[simp] theorem State.setStation_tempo (v : Station) : (s.setStation k v).tempo = s.tempo := rfl
@[simp] theorem State.setStation_running (v : Station) : (s.setStation k v).running = s.running := rfl
@[simp] theorem State.setStation_follower (v : Station) : (s.setStation k v).follower = s.follower := rfl
@[simp] theorem State.setStation_md (v : Station) : (s.setStation k v).md = s.md := rfl
@[simp] theorem State.setStation_host (v : Station) : (s.setStation k v).host = s.host := rfl
@[simp] theorem State.setStation_faults (v : Station) : (s.setStation k v).faults = s.faults := rfl
@[simp] theorem State.setStation_firstCode (v : Station) : (s.setStation k v).firstCode = s.firstCode := rfl
@[simp] theorem State.setStation_firstTempo (v : Station) : (s.setStation k v).firstTempo = s.firstTempo := rfl
@[simp] theorem State.setStation_thermTrip (v : Station) : (s.setStation k v).thermTrip = s.thermTrip := rfl
@[simp] theorem State.setStation_watchdog (v : Station) : (s.setStation k v).watchdog = s.watchdog := rfl
@[simp] theorem State.setStation_params (v : Station) : (s.setStation k v).params = s.params := rfl
@[simp] theorem State.setStation_removed (v : Station) : (s.setStation k v).removed = s.removed := rfl
@[simp] theorem State.setStation_promotions (v : Station) : (s.setStation k v).promotions = s.promotions := rfl
@[simp] theorem State.setStation_ageNew (v : Station) : (s.setStation k v).ageNew = s.ageNew := rfl
@[simp] theorem State.setStation_aon (v : Station) : (s.setStation k v).aon = s.aon := rfl
@[simp] theorem State.setStation_sheets (v : Station) : (s.setStation k v).sheets = s.sheets := rfl
@[simp] theorem State.setStation_clk (v : Station) : (s.setStation k v).clk = s.clk := rfl
@[simp] theorem State.setStation_store (v : Station) : (s.setStation k v).store = s.store := rfl
@[simp] theorem State.setStation_drive (v : Station) : (s.setStation k v).drive = s.drive := rfl
@[simp] theorem State.setStation_rails (v : Station) : (s.setStation k v).rails = s.rails := rfl
@[simp] theorem State.setStation_therm (v : Station) : (s.setStation k v).therm = s.therm := rfl
@[simp] theorem State.setStation_mems (v : Station) : (s.setStation k v).mems = s.mems := rfl
@[simp] theorem State.setStation_io (v : Station) : (s.setStation k v).io = s.io := rfl
@[simp] theorem State.setStation_out (v : Station) : (s.setStation k v).out = s.out := rfl
@[simp] theorem State.setStation_jtag (v : Station) : (s.setStation k v).jtag = s.jtag := rfl
@[simp] theorem State.setStation_place (v : Station) : (s.setStation k v).place = s.place := rfl
@[simp] theorem State.setStation_snap (v : Station) : (s.setStation k v).snap = s.snap := rfl
@[simp] theorem State.setStation_ring (v : Station) (j : Nat) : (s.setStation k v).ring j = s.ring j := rfl
@[simp] theorem State.setStation_pll (v : Station) (j : Nat) : (s.setStation k v).pll j = s.pll j := rfl
@[simp] theorem State.setStation_gear (v : Station) (j : Nat) : (s.setStation k v).gear j = s.gear j := rfl
@[simp] theorem State.setStation_enc (v : Station) (j : Nat) : (s.setStation k v).enc j = s.enc j := rfl
@[simp] theorem State.setStation_gpio (v : Station) (j : Nat) : (s.setStation k v).gpio j = s.gpio j := rfl
@[simp] theorem State.setStation_castle (v : Station) (j : Nat) : (s.setStation k v).castle j = s.castle j := rfl
@[simp] theorem State.setStation_ticket (v : Station) (j : Nat) : (s.setStation k v).ticket j = s.ticket j := rfl
@[simp] theorem State.setStation_page (v : Station) (j : Nat) : (s.setStation k v).page j = s.page j := rfl
@[simp] theorem State.setStation_dma (v : Station) (j : Nat) : (s.setStation k v).dma j = s.dma j := rfl
@[simp] theorem State.setStation_lane (v : Station) (j : Nat) : (s.setStation k v).lane j = s.lane j := rfl
@[simp] theorem State.setStation_beam (v : Station) (j : Nat) : (s.setStation k v).beam j = s.beam j := rfl
@[simp] theorem State.setStation_link (v : Station) (j : Nat) : (s.setStation k v).link j = s.link j := rfl
@[simp] theorem State.setStation_tile (v : Station) (j : Nat) : (s.setStation k v).tile j = s.tile j := rfl
@[simp] theorem State.setStation_bus (v : Station) (j : Nat) : (s.setStation k v).bus j = s.bus j := rfl
@[simp] theorem State.setStation_group (v : Station) (j : Nat) : (s.setStation k v).group j = s.group j := rfl
@[simp] theorem State.setStation_axis (v : Station) (j : Nat) : (s.setStation k v).axis j = s.axis j := rfl
@[simp] theorem State.setStation_poly (v : Station) (j : Nat) : (s.setStation k v).poly j = s.poly j := rfl
@[simp] theorem State.setStation_loop (v : Station) (j : Nat) : (s.setStation k v).loop j = s.loop j := rfl
@[simp] theorem State.setStation_heat (v : Station) (j : Nat) : (s.setStation k v).heat j = s.heat j := rfl
@[simp] theorem State.setStation_leg (v : Station) (j : Nat) : (s.setStation k v).leg j = s.leg j := rfl
@[simp] theorem State.setStation_rail (v : Station) (j : Nat) : (s.setStation k v).rail j = s.rail j := rfl
@[simp] theorem State.setStation_sensor (v : Station) (j : Nat) : (s.setStation k v).sensor j = s.sensor j := rfl
@[simp] theorem State.setStation_mem (v : Station) (j : Nat) : (s.setStation k v).mem j = s.mem j := rfl
@[simp] theorem State.setStation_par (v : Station) (c i p : Nat) : (s.setStation k v).par c i p = s.par c i p := rfl
@[simp] theorem State.updStation_die (f : Station → Station) : (s.updStation k f).die = s.die := rfl
@[simp] theorem State.updStation_free (f : Station → Station) : (s.updStation k f).free = s.free := rfl
@[simp] theorem State.updStation_pending (f : Station → Station) : (s.updStation k f).pending = s.pending := rfl
@[simp] theorem State.updStation_tempo (f : Station → Station) : (s.updStation k f).tempo = s.tempo := rfl
@[simp] theorem State.updStation_running (f : Station → Station) : (s.updStation k f).running = s.running := rfl
@[simp] theorem State.updStation_follower (f : Station → Station) : (s.updStation k f).follower = s.follower := rfl
@[simp] theorem State.updStation_md (f : Station → Station) : (s.updStation k f).md = s.md := rfl
@[simp] theorem State.updStation_host (f : Station → Station) : (s.updStation k f).host = s.host := rfl
@[simp] theorem State.updStation_faults (f : Station → Station) : (s.updStation k f).faults = s.faults := rfl
@[simp] theorem State.updStation_firstCode (f : Station → Station) : (s.updStation k f).firstCode = s.firstCode := rfl
@[simp] theorem State.updStation_firstTempo (f : Station → Station) : (s.updStation k f).firstTempo = s.firstTempo := rfl
@[simp] theorem State.updStation_thermTrip (f : Station → Station) : (s.updStation k f).thermTrip = s.thermTrip := rfl
@[simp] theorem State.updStation_watchdog (f : Station → Station) : (s.updStation k f).watchdog = s.watchdog := rfl
@[simp] theorem State.updStation_params (f : Station → Station) : (s.updStation k f).params = s.params := rfl
@[simp] theorem State.updStation_removed (f : Station → Station) : (s.updStation k f).removed = s.removed := rfl
@[simp] theorem State.updStation_promotions (f : Station → Station) : (s.updStation k f).promotions = s.promotions := rfl
@[simp] theorem State.updStation_ageNew (f : Station → Station) : (s.updStation k f).ageNew = s.ageNew := rfl
@[simp] theorem State.updStation_aon (f : Station → Station) : (s.updStation k f).aon = s.aon := rfl
@[simp] theorem State.updStation_sheets (f : Station → Station) : (s.updStation k f).sheets = s.sheets := rfl
@[simp] theorem State.updStation_clk (f : Station → Station) : (s.updStation k f).clk = s.clk := rfl
@[simp] theorem State.updStation_store (f : Station → Station) : (s.updStation k f).store = s.store := rfl
@[simp] theorem State.updStation_drive (f : Station → Station) : (s.updStation k f).drive = s.drive := rfl
@[simp] theorem State.updStation_rails (f : Station → Station) : (s.updStation k f).rails = s.rails := rfl
@[simp] theorem State.updStation_therm (f : Station → Station) : (s.updStation k f).therm = s.therm := rfl
@[simp] theorem State.updStation_mems (f : Station → Station) : (s.updStation k f).mems = s.mems := rfl
@[simp] theorem State.updStation_io (f : Station → Station) : (s.updStation k f).io = s.io := rfl
@[simp] theorem State.updStation_out (f : Station → Station) : (s.updStation k f).out = s.out := rfl
@[simp] theorem State.updStation_jtag (f : Station → Station) : (s.updStation k f).jtag = s.jtag := rfl
@[simp] theorem State.updStation_place (f : Station → Station) : (s.updStation k f).place = s.place := rfl
@[simp] theorem State.updStation_snap (f : Station → Station) : (s.updStation k f).snap = s.snap := rfl
@[simp] theorem State.updStation_ring (f : Station → Station) (j : Nat) : (s.updStation k f).ring j = s.ring j := rfl
@[simp] theorem State.updStation_pll (f : Station → Station) (j : Nat) : (s.updStation k f).pll j = s.pll j := rfl
@[simp] theorem State.updStation_gear (f : Station → Station) (j : Nat) : (s.updStation k f).gear j = s.gear j := rfl
@[simp] theorem State.updStation_enc (f : Station → Station) (j : Nat) : (s.updStation k f).enc j = s.enc j := rfl
@[simp] theorem State.updStation_gpio (f : Station → Station) (j : Nat) : (s.updStation k f).gpio j = s.gpio j := rfl
@[simp] theorem State.updStation_castle (f : Station → Station) (j : Nat) : (s.updStation k f).castle j = s.castle j := rfl
@[simp] theorem State.updStation_ticket (f : Station → Station) (j : Nat) : (s.updStation k f).ticket j = s.ticket j := rfl
@[simp] theorem State.updStation_page (f : Station → Station) (j : Nat) : (s.updStation k f).page j = s.page j := rfl
@[simp] theorem State.updStation_dma (f : Station → Station) (j : Nat) : (s.updStation k f).dma j = s.dma j := rfl
@[simp] theorem State.updStation_lane (f : Station → Station) (j : Nat) : (s.updStation k f).lane j = s.lane j := rfl
@[simp] theorem State.updStation_beam (f : Station → Station) (j : Nat) : (s.updStation k f).beam j = s.beam j := rfl
@[simp] theorem State.updStation_link (f : Station → Station) (j : Nat) : (s.updStation k f).link j = s.link j := rfl
@[simp] theorem State.updStation_tile (f : Station → Station) (j : Nat) : (s.updStation k f).tile j = s.tile j := rfl
@[simp] theorem State.updStation_bus (f : Station → Station) (j : Nat) : (s.updStation k f).bus j = s.bus j := rfl
@[simp] theorem State.updStation_group (f : Station → Station) (j : Nat) : (s.updStation k f).group j = s.group j := rfl
@[simp] theorem State.updStation_axis (f : Station → Station) (j : Nat) : (s.updStation k f).axis j = s.axis j := rfl
@[simp] theorem State.updStation_poly (f : Station → Station) (j : Nat) : (s.updStation k f).poly j = s.poly j := rfl
@[simp] theorem State.updStation_loop (f : Station → Station) (j : Nat) : (s.updStation k f).loop j = s.loop j := rfl
@[simp] theorem State.updStation_heat (f : Station → Station) (j : Nat) : (s.updStation k f).heat j = s.heat j := rfl
@[simp] theorem State.updStation_leg (f : Station → Station) (j : Nat) : (s.updStation k f).leg j = s.leg j := rfl
@[simp] theorem State.updStation_rail (f : Station → Station) (j : Nat) : (s.updStation k f).rail j = s.rail j := rfl
@[simp] theorem State.updStation_sensor (f : Station → Station) (j : Nat) : (s.updStation k f).sensor j = s.sensor j := rfl
@[simp] theorem State.updStation_mem (f : Station → Station) (j : Nat) : (s.updStation k f).mem j = s.mem j := rfl
@[simp] theorem State.updStation_par (f : Station → Station) (c i p : Nat) : (s.updStation k f).par c i p = s.par c i p := rfl

/-! ### Lane -/

theorem State.updLane_eq (f : Lane → Lane) : s.updLane k f = s.setLane k (f (s.lane k)) := rfl
@[simp] theorem State.setLane_get (v : Lane) (j : Nat) : (s.setLane k v).lane j = if j = k then v else s.lane j := Map.get_put _ _ _ _ _
@[simp] theorem State.updLane_get (f : Lane → Lane) (j : Nat) : (s.updLane k f).lane j = if j = k then f (s.lane k) else s.lane j := Map.get_put _ _ _ _ _
@[simp] theorem State.setLane_die (v : Lane) : (s.setLane k v).die = s.die := rfl
@[simp] theorem State.setLane_free (v : Lane) : (s.setLane k v).free = s.free := rfl
@[simp] theorem State.setLane_pending (v : Lane) : (s.setLane k v).pending = s.pending := rfl
@[simp] theorem State.setLane_tempo (v : Lane) : (s.setLane k v).tempo = s.tempo := rfl
@[simp] theorem State.setLane_running (v : Lane) : (s.setLane k v).running = s.running := rfl
@[simp] theorem State.setLane_follower (v : Lane) : (s.setLane k v).follower = s.follower := rfl
@[simp] theorem State.setLane_md (v : Lane) : (s.setLane k v).md = s.md := rfl
@[simp] theorem State.setLane_host (v : Lane) : (s.setLane k v).host = s.host := rfl
@[simp] theorem State.setLane_faults (v : Lane) : (s.setLane k v).faults = s.faults := rfl
@[simp] theorem State.setLane_firstCode (v : Lane) : (s.setLane k v).firstCode = s.firstCode := rfl
@[simp] theorem State.setLane_firstTempo (v : Lane) : (s.setLane k v).firstTempo = s.firstTempo := rfl
@[simp] theorem State.setLane_thermTrip (v : Lane) : (s.setLane k v).thermTrip = s.thermTrip := rfl
@[simp] theorem State.setLane_watchdog (v : Lane) : (s.setLane k v).watchdog = s.watchdog := rfl
@[simp] theorem State.setLane_params (v : Lane) : (s.setLane k v).params = s.params := rfl
@[simp] theorem State.setLane_removed (v : Lane) : (s.setLane k v).removed = s.removed := rfl
@[simp] theorem State.setLane_promotions (v : Lane) : (s.setLane k v).promotions = s.promotions := rfl
@[simp] theorem State.setLane_ageNew (v : Lane) : (s.setLane k v).ageNew = s.ageNew := rfl
@[simp] theorem State.setLane_aon (v : Lane) : (s.setLane k v).aon = s.aon := rfl
@[simp] theorem State.setLane_sheets (v : Lane) : (s.setLane k v).sheets = s.sheets := rfl
@[simp] theorem State.setLane_clk (v : Lane) : (s.setLane k v).clk = s.clk := rfl
@[simp] theorem State.setLane_store (v : Lane) : (s.setLane k v).store = s.store := rfl
@[simp] theorem State.setLane_drive (v : Lane) : (s.setLane k v).drive = s.drive := rfl
@[simp] theorem State.setLane_rails (v : Lane) : (s.setLane k v).rails = s.rails := rfl
@[simp] theorem State.setLane_therm (v : Lane) : (s.setLane k v).therm = s.therm := rfl
@[simp] theorem State.setLane_mems (v : Lane) : (s.setLane k v).mems = s.mems := rfl
@[simp] theorem State.setLane_io (v : Lane) : (s.setLane k v).io = s.io := rfl
@[simp] theorem State.setLane_out (v : Lane) : (s.setLane k v).out = s.out := rfl
@[simp] theorem State.setLane_jtag (v : Lane) : (s.setLane k v).jtag = s.jtag := rfl
@[simp] theorem State.setLane_place (v : Lane) : (s.setLane k v).place = s.place := rfl
@[simp] theorem State.setLane_snap (v : Lane) : (s.setLane k v).snap = s.snap := rfl
@[simp] theorem State.setLane_ring (v : Lane) (j : Nat) : (s.setLane k v).ring j = s.ring j := rfl
@[simp] theorem State.setLane_pll (v : Lane) (j : Nat) : (s.setLane k v).pll j = s.pll j := rfl
@[simp] theorem State.setLane_gear (v : Lane) (j : Nat) : (s.setLane k v).gear j = s.gear j := rfl
@[simp] theorem State.setLane_enc (v : Lane) (j : Nat) : (s.setLane k v).enc j = s.enc j := rfl
@[simp] theorem State.setLane_gpio (v : Lane) (j : Nat) : (s.setLane k v).gpio j = s.gpio j := rfl
@[simp] theorem State.setLane_castle (v : Lane) (j : Nat) : (s.setLane k v).castle j = s.castle j := rfl
@[simp] theorem State.setLane_ticket (v : Lane) (j : Nat) : (s.setLane k v).ticket j = s.ticket j := rfl
@[simp] theorem State.setLane_page (v : Lane) (j : Nat) : (s.setLane k v).page j = s.page j := rfl
@[simp] theorem State.setLane_dma (v : Lane) (j : Nat) : (s.setLane k v).dma j = s.dma j := rfl
@[simp] theorem State.setLane_station (v : Lane) (j : Nat) : (s.setLane k v).station j = s.station j := rfl
@[simp] theorem State.setLane_beam (v : Lane) (j : Nat) : (s.setLane k v).beam j = s.beam j := rfl
@[simp] theorem State.setLane_link (v : Lane) (j : Nat) : (s.setLane k v).link j = s.link j := rfl
@[simp] theorem State.setLane_tile (v : Lane) (j : Nat) : (s.setLane k v).tile j = s.tile j := rfl
@[simp] theorem State.setLane_bus (v : Lane) (j : Nat) : (s.setLane k v).bus j = s.bus j := rfl
@[simp] theorem State.setLane_group (v : Lane) (j : Nat) : (s.setLane k v).group j = s.group j := rfl
@[simp] theorem State.setLane_axis (v : Lane) (j : Nat) : (s.setLane k v).axis j = s.axis j := rfl
@[simp] theorem State.setLane_poly (v : Lane) (j : Nat) : (s.setLane k v).poly j = s.poly j := rfl
@[simp] theorem State.setLane_loop (v : Lane) (j : Nat) : (s.setLane k v).loop j = s.loop j := rfl
@[simp] theorem State.setLane_heat (v : Lane) (j : Nat) : (s.setLane k v).heat j = s.heat j := rfl
@[simp] theorem State.setLane_leg (v : Lane) (j : Nat) : (s.setLane k v).leg j = s.leg j := rfl
@[simp] theorem State.setLane_rail (v : Lane) (j : Nat) : (s.setLane k v).rail j = s.rail j := rfl
@[simp] theorem State.setLane_sensor (v : Lane) (j : Nat) : (s.setLane k v).sensor j = s.sensor j := rfl
@[simp] theorem State.setLane_mem (v : Lane) (j : Nat) : (s.setLane k v).mem j = s.mem j := rfl
@[simp] theorem State.setLane_par (v : Lane) (c i p : Nat) : (s.setLane k v).par c i p = s.par c i p := rfl
@[simp] theorem State.updLane_die (f : Lane → Lane) : (s.updLane k f).die = s.die := rfl
@[simp] theorem State.updLane_free (f : Lane → Lane) : (s.updLane k f).free = s.free := rfl
@[simp] theorem State.updLane_pending (f : Lane → Lane) : (s.updLane k f).pending = s.pending := rfl
@[simp] theorem State.updLane_tempo (f : Lane → Lane) : (s.updLane k f).tempo = s.tempo := rfl
@[simp] theorem State.updLane_running (f : Lane → Lane) : (s.updLane k f).running = s.running := rfl
@[simp] theorem State.updLane_follower (f : Lane → Lane) : (s.updLane k f).follower = s.follower := rfl
@[simp] theorem State.updLane_md (f : Lane → Lane) : (s.updLane k f).md = s.md := rfl
@[simp] theorem State.updLane_host (f : Lane → Lane) : (s.updLane k f).host = s.host := rfl
@[simp] theorem State.updLane_faults (f : Lane → Lane) : (s.updLane k f).faults = s.faults := rfl
@[simp] theorem State.updLane_firstCode (f : Lane → Lane) : (s.updLane k f).firstCode = s.firstCode := rfl
@[simp] theorem State.updLane_firstTempo (f : Lane → Lane) : (s.updLane k f).firstTempo = s.firstTempo := rfl
@[simp] theorem State.updLane_thermTrip (f : Lane → Lane) : (s.updLane k f).thermTrip = s.thermTrip := rfl
@[simp] theorem State.updLane_watchdog (f : Lane → Lane) : (s.updLane k f).watchdog = s.watchdog := rfl
@[simp] theorem State.updLane_params (f : Lane → Lane) : (s.updLane k f).params = s.params := rfl
@[simp] theorem State.updLane_removed (f : Lane → Lane) : (s.updLane k f).removed = s.removed := rfl
@[simp] theorem State.updLane_promotions (f : Lane → Lane) : (s.updLane k f).promotions = s.promotions := rfl
@[simp] theorem State.updLane_ageNew (f : Lane → Lane) : (s.updLane k f).ageNew = s.ageNew := rfl
@[simp] theorem State.updLane_aon (f : Lane → Lane) : (s.updLane k f).aon = s.aon := rfl
@[simp] theorem State.updLane_sheets (f : Lane → Lane) : (s.updLane k f).sheets = s.sheets := rfl
@[simp] theorem State.updLane_clk (f : Lane → Lane) : (s.updLane k f).clk = s.clk := rfl
@[simp] theorem State.updLane_store (f : Lane → Lane) : (s.updLane k f).store = s.store := rfl
@[simp] theorem State.updLane_drive (f : Lane → Lane) : (s.updLane k f).drive = s.drive := rfl
@[simp] theorem State.updLane_rails (f : Lane → Lane) : (s.updLane k f).rails = s.rails := rfl
@[simp] theorem State.updLane_therm (f : Lane → Lane) : (s.updLane k f).therm = s.therm := rfl
@[simp] theorem State.updLane_mems (f : Lane → Lane) : (s.updLane k f).mems = s.mems := rfl
@[simp] theorem State.updLane_io (f : Lane → Lane) : (s.updLane k f).io = s.io := rfl
@[simp] theorem State.updLane_out (f : Lane → Lane) : (s.updLane k f).out = s.out := rfl
@[simp] theorem State.updLane_jtag (f : Lane → Lane) : (s.updLane k f).jtag = s.jtag := rfl
@[simp] theorem State.updLane_place (f : Lane → Lane) : (s.updLane k f).place = s.place := rfl
@[simp] theorem State.updLane_snap (f : Lane → Lane) : (s.updLane k f).snap = s.snap := rfl
@[simp] theorem State.updLane_ring (f : Lane → Lane) (j : Nat) : (s.updLane k f).ring j = s.ring j := rfl
@[simp] theorem State.updLane_pll (f : Lane → Lane) (j : Nat) : (s.updLane k f).pll j = s.pll j := rfl
@[simp] theorem State.updLane_gear (f : Lane → Lane) (j : Nat) : (s.updLane k f).gear j = s.gear j := rfl
@[simp] theorem State.updLane_enc (f : Lane → Lane) (j : Nat) : (s.updLane k f).enc j = s.enc j := rfl
@[simp] theorem State.updLane_gpio (f : Lane → Lane) (j : Nat) : (s.updLane k f).gpio j = s.gpio j := rfl
@[simp] theorem State.updLane_castle (f : Lane → Lane) (j : Nat) : (s.updLane k f).castle j = s.castle j := rfl
@[simp] theorem State.updLane_ticket (f : Lane → Lane) (j : Nat) : (s.updLane k f).ticket j = s.ticket j := rfl
@[simp] theorem State.updLane_page (f : Lane → Lane) (j : Nat) : (s.updLane k f).page j = s.page j := rfl
@[simp] theorem State.updLane_dma (f : Lane → Lane) (j : Nat) : (s.updLane k f).dma j = s.dma j := rfl
@[simp] theorem State.updLane_station (f : Lane → Lane) (j : Nat) : (s.updLane k f).station j = s.station j := rfl
@[simp] theorem State.updLane_beam (f : Lane → Lane) (j : Nat) : (s.updLane k f).beam j = s.beam j := rfl
@[simp] theorem State.updLane_link (f : Lane → Lane) (j : Nat) : (s.updLane k f).link j = s.link j := rfl
@[simp] theorem State.updLane_tile (f : Lane → Lane) (j : Nat) : (s.updLane k f).tile j = s.tile j := rfl
@[simp] theorem State.updLane_bus (f : Lane → Lane) (j : Nat) : (s.updLane k f).bus j = s.bus j := rfl
@[simp] theorem State.updLane_group (f : Lane → Lane) (j : Nat) : (s.updLane k f).group j = s.group j := rfl
@[simp] theorem State.updLane_axis (f : Lane → Lane) (j : Nat) : (s.updLane k f).axis j = s.axis j := rfl
@[simp] theorem State.updLane_poly (f : Lane → Lane) (j : Nat) : (s.updLane k f).poly j = s.poly j := rfl
@[simp] theorem State.updLane_loop (f : Lane → Lane) (j : Nat) : (s.updLane k f).loop j = s.loop j := rfl
@[simp] theorem State.updLane_heat (f : Lane → Lane) (j : Nat) : (s.updLane k f).heat j = s.heat j := rfl
@[simp] theorem State.updLane_leg (f : Lane → Lane) (j : Nat) : (s.updLane k f).leg j = s.leg j := rfl
@[simp] theorem State.updLane_rail (f : Lane → Lane) (j : Nat) : (s.updLane k f).rail j = s.rail j := rfl
@[simp] theorem State.updLane_sensor (f : Lane → Lane) (j : Nat) : (s.updLane k f).sensor j = s.sensor j := rfl
@[simp] theorem State.updLane_mem (f : Lane → Lane) (j : Nat) : (s.updLane k f).mem j = s.mem j := rfl
@[simp] theorem State.updLane_par (f : Lane → Lane) (c i p : Nat) : (s.updLane k f).par c i p = s.par c i p := rfl

/-! ### Beam -/

theorem State.updBeam_eq (f : Beam → Beam) : s.updBeam k f = s.setBeam k (f (s.beam k)) := rfl
@[simp] theorem State.setBeam_get (v : Beam) (j : Nat) : (s.setBeam k v).beam j = if j = k then v else s.beam j := Map.get_put _ _ _ _ _
@[simp] theorem State.updBeam_get (f : Beam → Beam) (j : Nat) : (s.updBeam k f).beam j = if j = k then f (s.beam k) else s.beam j := Map.get_put _ _ _ _ _
@[simp] theorem State.setBeam_die (v : Beam) : (s.setBeam k v).die = s.die := rfl
@[simp] theorem State.setBeam_free (v : Beam) : (s.setBeam k v).free = s.free := rfl
@[simp] theorem State.setBeam_pending (v : Beam) : (s.setBeam k v).pending = s.pending := rfl
@[simp] theorem State.setBeam_tempo (v : Beam) : (s.setBeam k v).tempo = s.tempo := rfl
@[simp] theorem State.setBeam_running (v : Beam) : (s.setBeam k v).running = s.running := rfl
@[simp] theorem State.setBeam_follower (v : Beam) : (s.setBeam k v).follower = s.follower := rfl
@[simp] theorem State.setBeam_md (v : Beam) : (s.setBeam k v).md = s.md := rfl
@[simp] theorem State.setBeam_host (v : Beam) : (s.setBeam k v).host = s.host := rfl
@[simp] theorem State.setBeam_faults (v : Beam) : (s.setBeam k v).faults = s.faults := rfl
@[simp] theorem State.setBeam_firstCode (v : Beam) : (s.setBeam k v).firstCode = s.firstCode := rfl
@[simp] theorem State.setBeam_firstTempo (v : Beam) : (s.setBeam k v).firstTempo = s.firstTempo := rfl
@[simp] theorem State.setBeam_thermTrip (v : Beam) : (s.setBeam k v).thermTrip = s.thermTrip := rfl
@[simp] theorem State.setBeam_watchdog (v : Beam) : (s.setBeam k v).watchdog = s.watchdog := rfl
@[simp] theorem State.setBeam_params (v : Beam) : (s.setBeam k v).params = s.params := rfl
@[simp] theorem State.setBeam_removed (v : Beam) : (s.setBeam k v).removed = s.removed := rfl
@[simp] theorem State.setBeam_promotions (v : Beam) : (s.setBeam k v).promotions = s.promotions := rfl
@[simp] theorem State.setBeam_ageNew (v : Beam) : (s.setBeam k v).ageNew = s.ageNew := rfl
@[simp] theorem State.setBeam_aon (v : Beam) : (s.setBeam k v).aon = s.aon := rfl
@[simp] theorem State.setBeam_sheets (v : Beam) : (s.setBeam k v).sheets = s.sheets := rfl
@[simp] theorem State.setBeam_clk (v : Beam) : (s.setBeam k v).clk = s.clk := rfl
@[simp] theorem State.setBeam_store (v : Beam) : (s.setBeam k v).store = s.store := rfl
@[simp] theorem State.setBeam_drive (v : Beam) : (s.setBeam k v).drive = s.drive := rfl
@[simp] theorem State.setBeam_rails (v : Beam) : (s.setBeam k v).rails = s.rails := rfl
@[simp] theorem State.setBeam_therm (v : Beam) : (s.setBeam k v).therm = s.therm := rfl
@[simp] theorem State.setBeam_mems (v : Beam) : (s.setBeam k v).mems = s.mems := rfl
@[simp] theorem State.setBeam_io (v : Beam) : (s.setBeam k v).io = s.io := rfl
@[simp] theorem State.setBeam_out (v : Beam) : (s.setBeam k v).out = s.out := rfl
@[simp] theorem State.setBeam_jtag (v : Beam) : (s.setBeam k v).jtag = s.jtag := rfl
@[simp] theorem State.setBeam_place (v : Beam) : (s.setBeam k v).place = s.place := rfl
@[simp] theorem State.setBeam_snap (v : Beam) : (s.setBeam k v).snap = s.snap := rfl
@[simp] theorem State.setBeam_ring (v : Beam) (j : Nat) : (s.setBeam k v).ring j = s.ring j := rfl
@[simp] theorem State.setBeam_pll (v : Beam) (j : Nat) : (s.setBeam k v).pll j = s.pll j := rfl
@[simp] theorem State.setBeam_gear (v : Beam) (j : Nat) : (s.setBeam k v).gear j = s.gear j := rfl
@[simp] theorem State.setBeam_enc (v : Beam) (j : Nat) : (s.setBeam k v).enc j = s.enc j := rfl
@[simp] theorem State.setBeam_gpio (v : Beam) (j : Nat) : (s.setBeam k v).gpio j = s.gpio j := rfl
@[simp] theorem State.setBeam_castle (v : Beam) (j : Nat) : (s.setBeam k v).castle j = s.castle j := rfl
@[simp] theorem State.setBeam_ticket (v : Beam) (j : Nat) : (s.setBeam k v).ticket j = s.ticket j := rfl
@[simp] theorem State.setBeam_page (v : Beam) (j : Nat) : (s.setBeam k v).page j = s.page j := rfl
@[simp] theorem State.setBeam_dma (v : Beam) (j : Nat) : (s.setBeam k v).dma j = s.dma j := rfl
@[simp] theorem State.setBeam_station (v : Beam) (j : Nat) : (s.setBeam k v).station j = s.station j := rfl
@[simp] theorem State.setBeam_lane (v : Beam) (j : Nat) : (s.setBeam k v).lane j = s.lane j := rfl
@[simp] theorem State.setBeam_link (v : Beam) (j : Nat) : (s.setBeam k v).link j = s.link j := rfl
@[simp] theorem State.setBeam_tile (v : Beam) (j : Nat) : (s.setBeam k v).tile j = s.tile j := rfl
@[simp] theorem State.setBeam_bus (v : Beam) (j : Nat) : (s.setBeam k v).bus j = s.bus j := rfl
@[simp] theorem State.setBeam_group (v : Beam) (j : Nat) : (s.setBeam k v).group j = s.group j := rfl
@[simp] theorem State.setBeam_axis (v : Beam) (j : Nat) : (s.setBeam k v).axis j = s.axis j := rfl
@[simp] theorem State.setBeam_poly (v : Beam) (j : Nat) : (s.setBeam k v).poly j = s.poly j := rfl
@[simp] theorem State.setBeam_loop (v : Beam) (j : Nat) : (s.setBeam k v).loop j = s.loop j := rfl
@[simp] theorem State.setBeam_heat (v : Beam) (j : Nat) : (s.setBeam k v).heat j = s.heat j := rfl
@[simp] theorem State.setBeam_leg (v : Beam) (j : Nat) : (s.setBeam k v).leg j = s.leg j := rfl
@[simp] theorem State.setBeam_rail (v : Beam) (j : Nat) : (s.setBeam k v).rail j = s.rail j := rfl
@[simp] theorem State.setBeam_sensor (v : Beam) (j : Nat) : (s.setBeam k v).sensor j = s.sensor j := rfl
@[simp] theorem State.setBeam_mem (v : Beam) (j : Nat) : (s.setBeam k v).mem j = s.mem j := rfl
@[simp] theorem State.setBeam_par (v : Beam) (c i p : Nat) : (s.setBeam k v).par c i p = s.par c i p := rfl
@[simp] theorem State.updBeam_die (f : Beam → Beam) : (s.updBeam k f).die = s.die := rfl
@[simp] theorem State.updBeam_free (f : Beam → Beam) : (s.updBeam k f).free = s.free := rfl
@[simp] theorem State.updBeam_pending (f : Beam → Beam) : (s.updBeam k f).pending = s.pending := rfl
@[simp] theorem State.updBeam_tempo (f : Beam → Beam) : (s.updBeam k f).tempo = s.tempo := rfl
@[simp] theorem State.updBeam_running (f : Beam → Beam) : (s.updBeam k f).running = s.running := rfl
@[simp] theorem State.updBeam_follower (f : Beam → Beam) : (s.updBeam k f).follower = s.follower := rfl
@[simp] theorem State.updBeam_md (f : Beam → Beam) : (s.updBeam k f).md = s.md := rfl
@[simp] theorem State.updBeam_host (f : Beam → Beam) : (s.updBeam k f).host = s.host := rfl
@[simp] theorem State.updBeam_faults (f : Beam → Beam) : (s.updBeam k f).faults = s.faults := rfl
@[simp] theorem State.updBeam_firstCode (f : Beam → Beam) : (s.updBeam k f).firstCode = s.firstCode := rfl
@[simp] theorem State.updBeam_firstTempo (f : Beam → Beam) : (s.updBeam k f).firstTempo = s.firstTempo := rfl
@[simp] theorem State.updBeam_thermTrip (f : Beam → Beam) : (s.updBeam k f).thermTrip = s.thermTrip := rfl
@[simp] theorem State.updBeam_watchdog (f : Beam → Beam) : (s.updBeam k f).watchdog = s.watchdog := rfl
@[simp] theorem State.updBeam_params (f : Beam → Beam) : (s.updBeam k f).params = s.params := rfl
@[simp] theorem State.updBeam_removed (f : Beam → Beam) : (s.updBeam k f).removed = s.removed := rfl
@[simp] theorem State.updBeam_promotions (f : Beam → Beam) : (s.updBeam k f).promotions = s.promotions := rfl
@[simp] theorem State.updBeam_ageNew (f : Beam → Beam) : (s.updBeam k f).ageNew = s.ageNew := rfl
@[simp] theorem State.updBeam_aon (f : Beam → Beam) : (s.updBeam k f).aon = s.aon := rfl
@[simp] theorem State.updBeam_sheets (f : Beam → Beam) : (s.updBeam k f).sheets = s.sheets := rfl
@[simp] theorem State.updBeam_clk (f : Beam → Beam) : (s.updBeam k f).clk = s.clk := rfl
@[simp] theorem State.updBeam_store (f : Beam → Beam) : (s.updBeam k f).store = s.store := rfl
@[simp] theorem State.updBeam_drive (f : Beam → Beam) : (s.updBeam k f).drive = s.drive := rfl
@[simp] theorem State.updBeam_rails (f : Beam → Beam) : (s.updBeam k f).rails = s.rails := rfl
@[simp] theorem State.updBeam_therm (f : Beam → Beam) : (s.updBeam k f).therm = s.therm := rfl
@[simp] theorem State.updBeam_mems (f : Beam → Beam) : (s.updBeam k f).mems = s.mems := rfl
@[simp] theorem State.updBeam_io (f : Beam → Beam) : (s.updBeam k f).io = s.io := rfl
@[simp] theorem State.updBeam_out (f : Beam → Beam) : (s.updBeam k f).out = s.out := rfl
@[simp] theorem State.updBeam_jtag (f : Beam → Beam) : (s.updBeam k f).jtag = s.jtag := rfl
@[simp] theorem State.updBeam_place (f : Beam → Beam) : (s.updBeam k f).place = s.place := rfl
@[simp] theorem State.updBeam_snap (f : Beam → Beam) : (s.updBeam k f).snap = s.snap := rfl
@[simp] theorem State.updBeam_ring (f : Beam → Beam) (j : Nat) : (s.updBeam k f).ring j = s.ring j := rfl
@[simp] theorem State.updBeam_pll (f : Beam → Beam) (j : Nat) : (s.updBeam k f).pll j = s.pll j := rfl
@[simp] theorem State.updBeam_gear (f : Beam → Beam) (j : Nat) : (s.updBeam k f).gear j = s.gear j := rfl
@[simp] theorem State.updBeam_enc (f : Beam → Beam) (j : Nat) : (s.updBeam k f).enc j = s.enc j := rfl
@[simp] theorem State.updBeam_gpio (f : Beam → Beam) (j : Nat) : (s.updBeam k f).gpio j = s.gpio j := rfl
@[simp] theorem State.updBeam_castle (f : Beam → Beam) (j : Nat) : (s.updBeam k f).castle j = s.castle j := rfl
@[simp] theorem State.updBeam_ticket (f : Beam → Beam) (j : Nat) : (s.updBeam k f).ticket j = s.ticket j := rfl
@[simp] theorem State.updBeam_page (f : Beam → Beam) (j : Nat) : (s.updBeam k f).page j = s.page j := rfl
@[simp] theorem State.updBeam_dma (f : Beam → Beam) (j : Nat) : (s.updBeam k f).dma j = s.dma j := rfl
@[simp] theorem State.updBeam_station (f : Beam → Beam) (j : Nat) : (s.updBeam k f).station j = s.station j := rfl
@[simp] theorem State.updBeam_lane (f : Beam → Beam) (j : Nat) : (s.updBeam k f).lane j = s.lane j := rfl
@[simp] theorem State.updBeam_link (f : Beam → Beam) (j : Nat) : (s.updBeam k f).link j = s.link j := rfl
@[simp] theorem State.updBeam_tile (f : Beam → Beam) (j : Nat) : (s.updBeam k f).tile j = s.tile j := rfl
@[simp] theorem State.updBeam_bus (f : Beam → Beam) (j : Nat) : (s.updBeam k f).bus j = s.bus j := rfl
@[simp] theorem State.updBeam_group (f : Beam → Beam) (j : Nat) : (s.updBeam k f).group j = s.group j := rfl
@[simp] theorem State.updBeam_axis (f : Beam → Beam) (j : Nat) : (s.updBeam k f).axis j = s.axis j := rfl
@[simp] theorem State.updBeam_poly (f : Beam → Beam) (j : Nat) : (s.updBeam k f).poly j = s.poly j := rfl
@[simp] theorem State.updBeam_loop (f : Beam → Beam) (j : Nat) : (s.updBeam k f).loop j = s.loop j := rfl
@[simp] theorem State.updBeam_heat (f : Beam → Beam) (j : Nat) : (s.updBeam k f).heat j = s.heat j := rfl
@[simp] theorem State.updBeam_leg (f : Beam → Beam) (j : Nat) : (s.updBeam k f).leg j = s.leg j := rfl
@[simp] theorem State.updBeam_rail (f : Beam → Beam) (j : Nat) : (s.updBeam k f).rail j = s.rail j := rfl
@[simp] theorem State.updBeam_sensor (f : Beam → Beam) (j : Nat) : (s.updBeam k f).sensor j = s.sensor j := rfl
@[simp] theorem State.updBeam_mem (f : Beam → Beam) (j : Nat) : (s.updBeam k f).mem j = s.mem j := rfl
@[simp] theorem State.updBeam_par (f : Beam → Beam) (c i p : Nat) : (s.updBeam k f).par c i p = s.par c i p := rfl

/-! ### Link -/

theorem State.updLink_eq (f : Link → Link) : s.updLink k f = s.setLink k (f (s.link k)) := rfl
@[simp] theorem State.setLink_get (v : Link) (j : Nat) : (s.setLink k v).link j = if j = k then v else s.link j := Map.get_put _ _ _ _ _
@[simp] theorem State.updLink_get (f : Link → Link) (j : Nat) : (s.updLink k f).link j = if j = k then f (s.link k) else s.link j := Map.get_put _ _ _ _ _
@[simp] theorem State.setLink_die (v : Link) : (s.setLink k v).die = s.die := rfl
@[simp] theorem State.setLink_free (v : Link) : (s.setLink k v).free = s.free := rfl
@[simp] theorem State.setLink_pending (v : Link) : (s.setLink k v).pending = s.pending := rfl
@[simp] theorem State.setLink_tempo (v : Link) : (s.setLink k v).tempo = s.tempo := rfl
@[simp] theorem State.setLink_running (v : Link) : (s.setLink k v).running = s.running := rfl
@[simp] theorem State.setLink_follower (v : Link) : (s.setLink k v).follower = s.follower := rfl
@[simp] theorem State.setLink_md (v : Link) : (s.setLink k v).md = s.md := rfl
@[simp] theorem State.setLink_host (v : Link) : (s.setLink k v).host = s.host := rfl
@[simp] theorem State.setLink_faults (v : Link) : (s.setLink k v).faults = s.faults := rfl
@[simp] theorem State.setLink_firstCode (v : Link) : (s.setLink k v).firstCode = s.firstCode := rfl
@[simp] theorem State.setLink_firstTempo (v : Link) : (s.setLink k v).firstTempo = s.firstTempo := rfl
@[simp] theorem State.setLink_thermTrip (v : Link) : (s.setLink k v).thermTrip = s.thermTrip := rfl
@[simp] theorem State.setLink_watchdog (v : Link) : (s.setLink k v).watchdog = s.watchdog := rfl
@[simp] theorem State.setLink_params (v : Link) : (s.setLink k v).params = s.params := rfl
@[simp] theorem State.setLink_removed (v : Link) : (s.setLink k v).removed = s.removed := rfl
@[simp] theorem State.setLink_promotions (v : Link) : (s.setLink k v).promotions = s.promotions := rfl
@[simp] theorem State.setLink_ageNew (v : Link) : (s.setLink k v).ageNew = s.ageNew := rfl
@[simp] theorem State.setLink_aon (v : Link) : (s.setLink k v).aon = s.aon := rfl
@[simp] theorem State.setLink_sheets (v : Link) : (s.setLink k v).sheets = s.sheets := rfl
@[simp] theorem State.setLink_clk (v : Link) : (s.setLink k v).clk = s.clk := rfl
@[simp] theorem State.setLink_store (v : Link) : (s.setLink k v).store = s.store := rfl
@[simp] theorem State.setLink_drive (v : Link) : (s.setLink k v).drive = s.drive := rfl
@[simp] theorem State.setLink_rails (v : Link) : (s.setLink k v).rails = s.rails := rfl
@[simp] theorem State.setLink_therm (v : Link) : (s.setLink k v).therm = s.therm := rfl
@[simp] theorem State.setLink_mems (v : Link) : (s.setLink k v).mems = s.mems := rfl
@[simp] theorem State.setLink_io (v : Link) : (s.setLink k v).io = s.io := rfl
@[simp] theorem State.setLink_out (v : Link) : (s.setLink k v).out = s.out := rfl
@[simp] theorem State.setLink_jtag (v : Link) : (s.setLink k v).jtag = s.jtag := rfl
@[simp] theorem State.setLink_place (v : Link) : (s.setLink k v).place = s.place := rfl
@[simp] theorem State.setLink_snap (v : Link) : (s.setLink k v).snap = s.snap := rfl
@[simp] theorem State.setLink_ring (v : Link) (j : Nat) : (s.setLink k v).ring j = s.ring j := rfl
@[simp] theorem State.setLink_pll (v : Link) (j : Nat) : (s.setLink k v).pll j = s.pll j := rfl
@[simp] theorem State.setLink_gear (v : Link) (j : Nat) : (s.setLink k v).gear j = s.gear j := rfl
@[simp] theorem State.setLink_enc (v : Link) (j : Nat) : (s.setLink k v).enc j = s.enc j := rfl
@[simp] theorem State.setLink_gpio (v : Link) (j : Nat) : (s.setLink k v).gpio j = s.gpio j := rfl
@[simp] theorem State.setLink_castle (v : Link) (j : Nat) : (s.setLink k v).castle j = s.castle j := rfl
@[simp] theorem State.setLink_ticket (v : Link) (j : Nat) : (s.setLink k v).ticket j = s.ticket j := rfl
@[simp] theorem State.setLink_page (v : Link) (j : Nat) : (s.setLink k v).page j = s.page j := rfl
@[simp] theorem State.setLink_dma (v : Link) (j : Nat) : (s.setLink k v).dma j = s.dma j := rfl
@[simp] theorem State.setLink_station (v : Link) (j : Nat) : (s.setLink k v).station j = s.station j := rfl
@[simp] theorem State.setLink_lane (v : Link) (j : Nat) : (s.setLink k v).lane j = s.lane j := rfl
@[simp] theorem State.setLink_beam (v : Link) (j : Nat) : (s.setLink k v).beam j = s.beam j := rfl
@[simp] theorem State.setLink_tile (v : Link) (j : Nat) : (s.setLink k v).tile j = s.tile j := rfl
@[simp] theorem State.setLink_bus (v : Link) (j : Nat) : (s.setLink k v).bus j = s.bus j := rfl
@[simp] theorem State.setLink_group (v : Link) (j : Nat) : (s.setLink k v).group j = s.group j := rfl
@[simp] theorem State.setLink_axis (v : Link) (j : Nat) : (s.setLink k v).axis j = s.axis j := rfl
@[simp] theorem State.setLink_poly (v : Link) (j : Nat) : (s.setLink k v).poly j = s.poly j := rfl
@[simp] theorem State.setLink_loop (v : Link) (j : Nat) : (s.setLink k v).loop j = s.loop j := rfl
@[simp] theorem State.setLink_heat (v : Link) (j : Nat) : (s.setLink k v).heat j = s.heat j := rfl
@[simp] theorem State.setLink_leg (v : Link) (j : Nat) : (s.setLink k v).leg j = s.leg j := rfl
@[simp] theorem State.setLink_rail (v : Link) (j : Nat) : (s.setLink k v).rail j = s.rail j := rfl
@[simp] theorem State.setLink_sensor (v : Link) (j : Nat) : (s.setLink k v).sensor j = s.sensor j := rfl
@[simp] theorem State.setLink_mem (v : Link) (j : Nat) : (s.setLink k v).mem j = s.mem j := rfl
@[simp] theorem State.setLink_par (v : Link) (c i p : Nat) : (s.setLink k v).par c i p = s.par c i p := rfl
@[simp] theorem State.updLink_die (f : Link → Link) : (s.updLink k f).die = s.die := rfl
@[simp] theorem State.updLink_free (f : Link → Link) : (s.updLink k f).free = s.free := rfl
@[simp] theorem State.updLink_pending (f : Link → Link) : (s.updLink k f).pending = s.pending := rfl
@[simp] theorem State.updLink_tempo (f : Link → Link) : (s.updLink k f).tempo = s.tempo := rfl
@[simp] theorem State.updLink_running (f : Link → Link) : (s.updLink k f).running = s.running := rfl
@[simp] theorem State.updLink_follower (f : Link → Link) : (s.updLink k f).follower = s.follower := rfl
@[simp] theorem State.updLink_md (f : Link → Link) : (s.updLink k f).md = s.md := rfl
@[simp] theorem State.updLink_host (f : Link → Link) : (s.updLink k f).host = s.host := rfl
@[simp] theorem State.updLink_faults (f : Link → Link) : (s.updLink k f).faults = s.faults := rfl
@[simp] theorem State.updLink_firstCode (f : Link → Link) : (s.updLink k f).firstCode = s.firstCode := rfl
@[simp] theorem State.updLink_firstTempo (f : Link → Link) : (s.updLink k f).firstTempo = s.firstTempo := rfl
@[simp] theorem State.updLink_thermTrip (f : Link → Link) : (s.updLink k f).thermTrip = s.thermTrip := rfl
@[simp] theorem State.updLink_watchdog (f : Link → Link) : (s.updLink k f).watchdog = s.watchdog := rfl
@[simp] theorem State.updLink_params (f : Link → Link) : (s.updLink k f).params = s.params := rfl
@[simp] theorem State.updLink_removed (f : Link → Link) : (s.updLink k f).removed = s.removed := rfl
@[simp] theorem State.updLink_promotions (f : Link → Link) : (s.updLink k f).promotions = s.promotions := rfl
@[simp] theorem State.updLink_ageNew (f : Link → Link) : (s.updLink k f).ageNew = s.ageNew := rfl
@[simp] theorem State.updLink_aon (f : Link → Link) : (s.updLink k f).aon = s.aon := rfl
@[simp] theorem State.updLink_sheets (f : Link → Link) : (s.updLink k f).sheets = s.sheets := rfl
@[simp] theorem State.updLink_clk (f : Link → Link) : (s.updLink k f).clk = s.clk := rfl
@[simp] theorem State.updLink_store (f : Link → Link) : (s.updLink k f).store = s.store := rfl
@[simp] theorem State.updLink_drive (f : Link → Link) : (s.updLink k f).drive = s.drive := rfl
@[simp] theorem State.updLink_rails (f : Link → Link) : (s.updLink k f).rails = s.rails := rfl
@[simp] theorem State.updLink_therm (f : Link → Link) : (s.updLink k f).therm = s.therm := rfl
@[simp] theorem State.updLink_mems (f : Link → Link) : (s.updLink k f).mems = s.mems := rfl
@[simp] theorem State.updLink_io (f : Link → Link) : (s.updLink k f).io = s.io := rfl
@[simp] theorem State.updLink_out (f : Link → Link) : (s.updLink k f).out = s.out := rfl
@[simp] theorem State.updLink_jtag (f : Link → Link) : (s.updLink k f).jtag = s.jtag := rfl
@[simp] theorem State.updLink_place (f : Link → Link) : (s.updLink k f).place = s.place := rfl
@[simp] theorem State.updLink_snap (f : Link → Link) : (s.updLink k f).snap = s.snap := rfl
@[simp] theorem State.updLink_ring (f : Link → Link) (j : Nat) : (s.updLink k f).ring j = s.ring j := rfl
@[simp] theorem State.updLink_pll (f : Link → Link) (j : Nat) : (s.updLink k f).pll j = s.pll j := rfl
@[simp] theorem State.updLink_gear (f : Link → Link) (j : Nat) : (s.updLink k f).gear j = s.gear j := rfl
@[simp] theorem State.updLink_enc (f : Link → Link) (j : Nat) : (s.updLink k f).enc j = s.enc j := rfl
@[simp] theorem State.updLink_gpio (f : Link → Link) (j : Nat) : (s.updLink k f).gpio j = s.gpio j := rfl
@[simp] theorem State.updLink_castle (f : Link → Link) (j : Nat) : (s.updLink k f).castle j = s.castle j := rfl
@[simp] theorem State.updLink_ticket (f : Link → Link) (j : Nat) : (s.updLink k f).ticket j = s.ticket j := rfl
@[simp] theorem State.updLink_page (f : Link → Link) (j : Nat) : (s.updLink k f).page j = s.page j := rfl
@[simp] theorem State.updLink_dma (f : Link → Link) (j : Nat) : (s.updLink k f).dma j = s.dma j := rfl
@[simp] theorem State.updLink_station (f : Link → Link) (j : Nat) : (s.updLink k f).station j = s.station j := rfl
@[simp] theorem State.updLink_lane (f : Link → Link) (j : Nat) : (s.updLink k f).lane j = s.lane j := rfl
@[simp] theorem State.updLink_beam (f : Link → Link) (j : Nat) : (s.updLink k f).beam j = s.beam j := rfl
@[simp] theorem State.updLink_tile (f : Link → Link) (j : Nat) : (s.updLink k f).tile j = s.tile j := rfl
@[simp] theorem State.updLink_bus (f : Link → Link) (j : Nat) : (s.updLink k f).bus j = s.bus j := rfl
@[simp] theorem State.updLink_group (f : Link → Link) (j : Nat) : (s.updLink k f).group j = s.group j := rfl
@[simp] theorem State.updLink_axis (f : Link → Link) (j : Nat) : (s.updLink k f).axis j = s.axis j := rfl
@[simp] theorem State.updLink_poly (f : Link → Link) (j : Nat) : (s.updLink k f).poly j = s.poly j := rfl
@[simp] theorem State.updLink_loop (f : Link → Link) (j : Nat) : (s.updLink k f).loop j = s.loop j := rfl
@[simp] theorem State.updLink_heat (f : Link → Link) (j : Nat) : (s.updLink k f).heat j = s.heat j := rfl
@[simp] theorem State.updLink_leg (f : Link → Link) (j : Nat) : (s.updLink k f).leg j = s.leg j := rfl
@[simp] theorem State.updLink_rail (f : Link → Link) (j : Nat) : (s.updLink k f).rail j = s.rail j := rfl
@[simp] theorem State.updLink_sensor (f : Link → Link) (j : Nat) : (s.updLink k f).sensor j = s.sensor j := rfl
@[simp] theorem State.updLink_mem (f : Link → Link) (j : Nat) : (s.updLink k f).mem j = s.mem j := rfl
@[simp] theorem State.updLink_par (f : Link → Link) (c i p : Nat) : (s.updLink k f).par c i p = s.par c i p := rfl

/-! ### Tile -/

theorem State.updTile_eq (f : Tile → Tile) : s.updTile k f = s.setTile k (f (s.tile k)) := rfl
@[simp] theorem State.setTile_get (v : Tile) (j : Nat) : (s.setTile k v).tile j = if j = k then v else s.tile j := Map.get_put _ _ _ _ _
@[simp] theorem State.updTile_get (f : Tile → Tile) (j : Nat) : (s.updTile k f).tile j = if j = k then f (s.tile k) else s.tile j := Map.get_put _ _ _ _ _
@[simp] theorem State.setTile_die (v : Tile) : (s.setTile k v).die = s.die := rfl
@[simp] theorem State.setTile_free (v : Tile) : (s.setTile k v).free = s.free := rfl
@[simp] theorem State.setTile_pending (v : Tile) : (s.setTile k v).pending = s.pending := rfl
@[simp] theorem State.setTile_tempo (v : Tile) : (s.setTile k v).tempo = s.tempo := rfl
@[simp] theorem State.setTile_running (v : Tile) : (s.setTile k v).running = s.running := rfl
@[simp] theorem State.setTile_follower (v : Tile) : (s.setTile k v).follower = s.follower := rfl
@[simp] theorem State.setTile_md (v : Tile) : (s.setTile k v).md = s.md := rfl
@[simp] theorem State.setTile_host (v : Tile) : (s.setTile k v).host = s.host := rfl
@[simp] theorem State.setTile_faults (v : Tile) : (s.setTile k v).faults = s.faults := rfl
@[simp] theorem State.setTile_firstCode (v : Tile) : (s.setTile k v).firstCode = s.firstCode := rfl
@[simp] theorem State.setTile_firstTempo (v : Tile) : (s.setTile k v).firstTempo = s.firstTempo := rfl
@[simp] theorem State.setTile_thermTrip (v : Tile) : (s.setTile k v).thermTrip = s.thermTrip := rfl
@[simp] theorem State.setTile_watchdog (v : Tile) : (s.setTile k v).watchdog = s.watchdog := rfl
@[simp] theorem State.setTile_params (v : Tile) : (s.setTile k v).params = s.params := rfl
@[simp] theorem State.setTile_removed (v : Tile) : (s.setTile k v).removed = s.removed := rfl
@[simp] theorem State.setTile_promotions (v : Tile) : (s.setTile k v).promotions = s.promotions := rfl
@[simp] theorem State.setTile_ageNew (v : Tile) : (s.setTile k v).ageNew = s.ageNew := rfl
@[simp] theorem State.setTile_aon (v : Tile) : (s.setTile k v).aon = s.aon := rfl
@[simp] theorem State.setTile_sheets (v : Tile) : (s.setTile k v).sheets = s.sheets := rfl
@[simp] theorem State.setTile_clk (v : Tile) : (s.setTile k v).clk = s.clk := rfl
@[simp] theorem State.setTile_store (v : Tile) : (s.setTile k v).store = s.store := rfl
@[simp] theorem State.setTile_video (v : Tile) : (s.setTile k v).video = s.video := rfl
@[simp] theorem State.setTile_rails (v : Tile) : (s.setTile k v).rails = s.rails := rfl
@[simp] theorem State.setTile_therm (v : Tile) : (s.setTile k v).therm = s.therm := rfl
@[simp] theorem State.setTile_mems (v : Tile) : (s.setTile k v).mems = s.mems := rfl
@[simp] theorem State.setTile_io (v : Tile) : (s.setTile k v).io = s.io := rfl
@[simp] theorem State.setTile_out (v : Tile) : (s.setTile k v).out = s.out := rfl
@[simp] theorem State.setTile_jtag (v : Tile) : (s.setTile k v).jtag = s.jtag := rfl
@[simp] theorem State.setTile_place (v : Tile) : (s.setTile k v).place = s.place := rfl
@[simp] theorem State.setTile_snap (v : Tile) : (s.setTile k v).snap = s.snap := rfl
@[simp] theorem State.setTile_ring (v : Tile) (j : Nat) : (s.setTile k v).ring j = s.ring j := rfl
@[simp] theorem State.setTile_pll (v : Tile) (j : Nat) : (s.setTile k v).pll j = s.pll j := rfl
@[simp] theorem State.setTile_gear (v : Tile) (j : Nat) : (s.setTile k v).gear j = s.gear j := rfl
@[simp] theorem State.setTile_enc (v : Tile) (j : Nat) : (s.setTile k v).enc j = s.enc j := rfl
@[simp] theorem State.setTile_gpio (v : Tile) (j : Nat) : (s.setTile k v).gpio j = s.gpio j := rfl
@[simp] theorem State.setTile_castle (v : Tile) (j : Nat) : (s.setTile k v).castle j = s.castle j := rfl
@[simp] theorem State.setTile_ticket (v : Tile) (j : Nat) : (s.setTile k v).ticket j = s.ticket j := rfl
@[simp] theorem State.setTile_page (v : Tile) (j : Nat) : (s.setTile k v).page j = s.page j := rfl
@[simp] theorem State.setTile_dma (v : Tile) (j : Nat) : (s.setTile k v).dma j = s.dma j := rfl
@[simp] theorem State.setTile_station (v : Tile) (j : Nat) : (s.setTile k v).station j = s.station j := rfl
@[simp] theorem State.setTile_lane (v : Tile) (j : Nat) : (s.setTile k v).lane j = s.lane j := rfl
@[simp] theorem State.setTile_beam (v : Tile) (j : Nat) : (s.setTile k v).beam j = s.beam j := rfl
@[simp] theorem State.setTile_link (v : Tile) (j : Nat) : (s.setTile k v).link j = s.link j := rfl
@[simp] theorem State.setTile_bus (v : Tile) (j : Nat) : (s.setTile k v).bus j = s.bus j := rfl
@[simp] theorem State.setTile_group (v : Tile) (j : Nat) : (s.setTile k v).group j = s.group j := rfl
@[simp] theorem State.setTile_axis (v : Tile) (j : Nat) : (s.setTile k v).axis j = s.axis j := rfl
@[simp] theorem State.setTile_poly (v : Tile) (j : Nat) : (s.setTile k v).poly j = s.poly j := rfl
@[simp] theorem State.setTile_loop (v : Tile) (j : Nat) : (s.setTile k v).loop j = s.loop j := rfl
@[simp] theorem State.setTile_heat (v : Tile) (j : Nat) : (s.setTile k v).heat j = s.heat j := rfl
@[simp] theorem State.setTile_leg (v : Tile) (j : Nat) : (s.setTile k v).leg j = s.leg j := rfl
@[simp] theorem State.setTile_rail (v : Tile) (j : Nat) : (s.setTile k v).rail j = s.rail j := rfl
@[simp] theorem State.setTile_sensor (v : Tile) (j : Nat) : (s.setTile k v).sensor j = s.sensor j := rfl
@[simp] theorem State.setTile_mem (v : Tile) (j : Nat) : (s.setTile k v).mem j = s.mem j := rfl
@[simp] theorem State.setTile_par (v : Tile) (c i p : Nat) : (s.setTile k v).par c i p = s.par c i p := rfl
@[simp] theorem State.updTile_die (f : Tile → Tile) : (s.updTile k f).die = s.die := rfl
@[simp] theorem State.updTile_free (f : Tile → Tile) : (s.updTile k f).free = s.free := rfl
@[simp] theorem State.updTile_pending (f : Tile → Tile) : (s.updTile k f).pending = s.pending := rfl
@[simp] theorem State.updTile_tempo (f : Tile → Tile) : (s.updTile k f).tempo = s.tempo := rfl
@[simp] theorem State.updTile_running (f : Tile → Tile) : (s.updTile k f).running = s.running := rfl
@[simp] theorem State.updTile_follower (f : Tile → Tile) : (s.updTile k f).follower = s.follower := rfl
@[simp] theorem State.updTile_md (f : Tile → Tile) : (s.updTile k f).md = s.md := rfl
@[simp] theorem State.updTile_host (f : Tile → Tile) : (s.updTile k f).host = s.host := rfl
@[simp] theorem State.updTile_faults (f : Tile → Tile) : (s.updTile k f).faults = s.faults := rfl
@[simp] theorem State.updTile_firstCode (f : Tile → Tile) : (s.updTile k f).firstCode = s.firstCode := rfl
@[simp] theorem State.updTile_firstTempo (f : Tile → Tile) : (s.updTile k f).firstTempo = s.firstTempo := rfl
@[simp] theorem State.updTile_thermTrip (f : Tile → Tile) : (s.updTile k f).thermTrip = s.thermTrip := rfl
@[simp] theorem State.updTile_watchdog (f : Tile → Tile) : (s.updTile k f).watchdog = s.watchdog := rfl
@[simp] theorem State.updTile_params (f : Tile → Tile) : (s.updTile k f).params = s.params := rfl
@[simp] theorem State.updTile_removed (f : Tile → Tile) : (s.updTile k f).removed = s.removed := rfl
@[simp] theorem State.updTile_promotions (f : Tile → Tile) : (s.updTile k f).promotions = s.promotions := rfl
@[simp] theorem State.updTile_ageNew (f : Tile → Tile) : (s.updTile k f).ageNew = s.ageNew := rfl
@[simp] theorem State.updTile_aon (f : Tile → Tile) : (s.updTile k f).aon = s.aon := rfl
@[simp] theorem State.updTile_sheets (f : Tile → Tile) : (s.updTile k f).sheets = s.sheets := rfl
@[simp] theorem State.updTile_clk (f : Tile → Tile) : (s.updTile k f).clk = s.clk := rfl
@[simp] theorem State.updTile_store (f : Tile → Tile) : (s.updTile k f).store = s.store := rfl
@[simp] theorem State.updTile_video (f : Tile → Tile) : (s.updTile k f).video = s.video := rfl
@[simp] theorem State.updTile_rails (f : Tile → Tile) : (s.updTile k f).rails = s.rails := rfl
@[simp] theorem State.updTile_therm (f : Tile → Tile) : (s.updTile k f).therm = s.therm := rfl
@[simp] theorem State.updTile_mems (f : Tile → Tile) : (s.updTile k f).mems = s.mems := rfl
@[simp] theorem State.updTile_io (f : Tile → Tile) : (s.updTile k f).io = s.io := rfl
@[simp] theorem State.updTile_out (f : Tile → Tile) : (s.updTile k f).out = s.out := rfl
@[simp] theorem State.updTile_jtag (f : Tile → Tile) : (s.updTile k f).jtag = s.jtag := rfl
@[simp] theorem State.updTile_place (f : Tile → Tile) : (s.updTile k f).place = s.place := rfl
@[simp] theorem State.updTile_snap (f : Tile → Tile) : (s.updTile k f).snap = s.snap := rfl
@[simp] theorem State.updTile_ring (f : Tile → Tile) (j : Nat) : (s.updTile k f).ring j = s.ring j := rfl
@[simp] theorem State.updTile_pll (f : Tile → Tile) (j : Nat) : (s.updTile k f).pll j = s.pll j := rfl
@[simp] theorem State.updTile_gear (f : Tile → Tile) (j : Nat) : (s.updTile k f).gear j = s.gear j := rfl
@[simp] theorem State.updTile_enc (f : Tile → Tile) (j : Nat) : (s.updTile k f).enc j = s.enc j := rfl
@[simp] theorem State.updTile_gpio (f : Tile → Tile) (j : Nat) : (s.updTile k f).gpio j = s.gpio j := rfl
@[simp] theorem State.updTile_castle (f : Tile → Tile) (j : Nat) : (s.updTile k f).castle j = s.castle j := rfl
@[simp] theorem State.updTile_ticket (f : Tile → Tile) (j : Nat) : (s.updTile k f).ticket j = s.ticket j := rfl
@[simp] theorem State.updTile_page (f : Tile → Tile) (j : Nat) : (s.updTile k f).page j = s.page j := rfl
@[simp] theorem State.updTile_dma (f : Tile → Tile) (j : Nat) : (s.updTile k f).dma j = s.dma j := rfl
@[simp] theorem State.updTile_station (f : Tile → Tile) (j : Nat) : (s.updTile k f).station j = s.station j := rfl
@[simp] theorem State.updTile_lane (f : Tile → Tile) (j : Nat) : (s.updTile k f).lane j = s.lane j := rfl
@[simp] theorem State.updTile_beam (f : Tile → Tile) (j : Nat) : (s.updTile k f).beam j = s.beam j := rfl
@[simp] theorem State.updTile_link (f : Tile → Tile) (j : Nat) : (s.updTile k f).link j = s.link j := rfl
@[simp] theorem State.updTile_bus (f : Tile → Tile) (j : Nat) : (s.updTile k f).bus j = s.bus j := rfl
@[simp] theorem State.updTile_group (f : Tile → Tile) (j : Nat) : (s.updTile k f).group j = s.group j := rfl
@[simp] theorem State.updTile_axis (f : Tile → Tile) (j : Nat) : (s.updTile k f).axis j = s.axis j := rfl
@[simp] theorem State.updTile_poly (f : Tile → Tile) (j : Nat) : (s.updTile k f).poly j = s.poly j := rfl
@[simp] theorem State.updTile_loop (f : Tile → Tile) (j : Nat) : (s.updTile k f).loop j = s.loop j := rfl
@[simp] theorem State.updTile_heat (f : Tile → Tile) (j : Nat) : (s.updTile k f).heat j = s.heat j := rfl
@[simp] theorem State.updTile_leg (f : Tile → Tile) (j : Nat) : (s.updTile k f).leg j = s.leg j := rfl
@[simp] theorem State.updTile_rail (f : Tile → Tile) (j : Nat) : (s.updTile k f).rail j = s.rail j := rfl
@[simp] theorem State.updTile_sensor (f : Tile → Tile) (j : Nat) : (s.updTile k f).sensor j = s.sensor j := rfl
@[simp] theorem State.updTile_mem (f : Tile → Tile) (j : Nat) : (s.updTile k f).mem j = s.mem j := rfl
@[simp] theorem State.updTile_par (f : Tile → Tile) (c i p : Nat) : (s.updTile k f).par c i p = s.par c i p := rfl

/-! ### Bus -/

theorem State.updBus_eq (f : Bus → Bus) : s.updBus k f = s.setBus k (f (s.bus k)) := rfl
@[simp] theorem State.setBus_get (v : Bus) (j : Nat) : (s.setBus k v).bus j = if j = k then v else s.bus j := Map.get_put _ _ _ _ _
@[simp] theorem State.updBus_get (f : Bus → Bus) (j : Nat) : (s.updBus k f).bus j = if j = k then f (s.bus k) else s.bus j := Map.get_put _ _ _ _ _
@[simp] theorem State.setBus_die (v : Bus) : (s.setBus k v).die = s.die := rfl
@[simp] theorem State.setBus_free (v : Bus) : (s.setBus k v).free = s.free := rfl
@[simp] theorem State.setBus_pending (v : Bus) : (s.setBus k v).pending = s.pending := rfl
@[simp] theorem State.setBus_tempo (v : Bus) : (s.setBus k v).tempo = s.tempo := rfl
@[simp] theorem State.setBus_running (v : Bus) : (s.setBus k v).running = s.running := rfl
@[simp] theorem State.setBus_follower (v : Bus) : (s.setBus k v).follower = s.follower := rfl
@[simp] theorem State.setBus_md (v : Bus) : (s.setBus k v).md = s.md := rfl
@[simp] theorem State.setBus_host (v : Bus) : (s.setBus k v).host = s.host := rfl
@[simp] theorem State.setBus_faults (v : Bus) : (s.setBus k v).faults = s.faults := rfl
@[simp] theorem State.setBus_firstCode (v : Bus) : (s.setBus k v).firstCode = s.firstCode := rfl
@[simp] theorem State.setBus_firstTempo (v : Bus) : (s.setBus k v).firstTempo = s.firstTempo := rfl
@[simp] theorem State.setBus_thermTrip (v : Bus) : (s.setBus k v).thermTrip = s.thermTrip := rfl
@[simp] theorem State.setBus_watchdog (v : Bus) : (s.setBus k v).watchdog = s.watchdog := rfl
@[simp] theorem State.setBus_params (v : Bus) : (s.setBus k v).params = s.params := rfl
@[simp] theorem State.setBus_removed (v : Bus) : (s.setBus k v).removed = s.removed := rfl
@[simp] theorem State.setBus_promotions (v : Bus) : (s.setBus k v).promotions = s.promotions := rfl
@[simp] theorem State.setBus_ageNew (v : Bus) : (s.setBus k v).ageNew = s.ageNew := rfl
@[simp] theorem State.setBus_aon (v : Bus) : (s.setBus k v).aon = s.aon := rfl
@[simp] theorem State.setBus_sheets (v : Bus) : (s.setBus k v).sheets = s.sheets := rfl
@[simp] theorem State.setBus_clk (v : Bus) : (s.setBus k v).clk = s.clk := rfl
@[simp] theorem State.setBus_store (v : Bus) : (s.setBus k v).store = s.store := rfl
@[simp] theorem State.setBus_video (v : Bus) : (s.setBus k v).video = s.video := rfl
@[simp] theorem State.setBus_rails (v : Bus) : (s.setBus k v).rails = s.rails := rfl
@[simp] theorem State.setBus_therm (v : Bus) : (s.setBus k v).therm = s.therm := rfl
@[simp] theorem State.setBus_mems (v : Bus) : (s.setBus k v).mems = s.mems := rfl
@[simp] theorem State.setBus_io (v : Bus) : (s.setBus k v).io = s.io := rfl
@[simp] theorem State.setBus_out (v : Bus) : (s.setBus k v).out = s.out := rfl
@[simp] theorem State.setBus_jtag (v : Bus) : (s.setBus k v).jtag = s.jtag := rfl
@[simp] theorem State.setBus_place (v : Bus) : (s.setBus k v).place = s.place := rfl
@[simp] theorem State.setBus_snap (v : Bus) : (s.setBus k v).snap = s.snap := rfl
@[simp] theorem State.setBus_ring (v : Bus) (j : Nat) : (s.setBus k v).ring j = s.ring j := rfl
@[simp] theorem State.setBus_pll (v : Bus) (j : Nat) : (s.setBus k v).pll j = s.pll j := rfl
@[simp] theorem State.setBus_gear (v : Bus) (j : Nat) : (s.setBus k v).gear j = s.gear j := rfl
@[simp] theorem State.setBus_enc (v : Bus) (j : Nat) : (s.setBus k v).enc j = s.enc j := rfl
@[simp] theorem State.setBus_gpio (v : Bus) (j : Nat) : (s.setBus k v).gpio j = s.gpio j := rfl
@[simp] theorem State.setBus_castle (v : Bus) (j : Nat) : (s.setBus k v).castle j = s.castle j := rfl
@[simp] theorem State.setBus_ticket (v : Bus) (j : Nat) : (s.setBus k v).ticket j = s.ticket j := rfl
@[simp] theorem State.setBus_page (v : Bus) (j : Nat) : (s.setBus k v).page j = s.page j := rfl
@[simp] theorem State.setBus_dma (v : Bus) (j : Nat) : (s.setBus k v).dma j = s.dma j := rfl
@[simp] theorem State.setBus_station (v : Bus) (j : Nat) : (s.setBus k v).station j = s.station j := rfl
@[simp] theorem State.setBus_lane (v : Bus) (j : Nat) : (s.setBus k v).lane j = s.lane j := rfl
@[simp] theorem State.setBus_beam (v : Bus) (j : Nat) : (s.setBus k v).beam j = s.beam j := rfl
@[simp] theorem State.setBus_link (v : Bus) (j : Nat) : (s.setBus k v).link j = s.link j := rfl
@[simp] theorem State.setBus_tile (v : Bus) (j : Nat) : (s.setBus k v).tile j = s.tile j := rfl
@[simp] theorem State.setBus_group (v : Bus) (j : Nat) : (s.setBus k v).group j = s.group j := rfl
@[simp] theorem State.setBus_axis (v : Bus) (j : Nat) : (s.setBus k v).axis j = s.axis j := rfl
@[simp] theorem State.setBus_poly (v : Bus) (j : Nat) : (s.setBus k v).poly j = s.poly j := rfl
@[simp] theorem State.setBus_loop (v : Bus) (j : Nat) : (s.setBus k v).loop j = s.loop j := rfl
@[simp] theorem State.setBus_heat (v : Bus) (j : Nat) : (s.setBus k v).heat j = s.heat j := rfl
@[simp] theorem State.setBus_leg (v : Bus) (j : Nat) : (s.setBus k v).leg j = s.leg j := rfl
@[simp] theorem State.setBus_rail (v : Bus) (j : Nat) : (s.setBus k v).rail j = s.rail j := rfl
@[simp] theorem State.setBus_sensor (v : Bus) (j : Nat) : (s.setBus k v).sensor j = s.sensor j := rfl
@[simp] theorem State.setBus_mem (v : Bus) (j : Nat) : (s.setBus k v).mem j = s.mem j := rfl
@[simp] theorem State.setBus_par (v : Bus) (c i p : Nat) : (s.setBus k v).par c i p = s.par c i p := rfl
@[simp] theorem State.updBus_die (f : Bus → Bus) : (s.updBus k f).die = s.die := rfl
@[simp] theorem State.updBus_free (f : Bus → Bus) : (s.updBus k f).free = s.free := rfl
@[simp] theorem State.updBus_pending (f : Bus → Bus) : (s.updBus k f).pending = s.pending := rfl
@[simp] theorem State.updBus_tempo (f : Bus → Bus) : (s.updBus k f).tempo = s.tempo := rfl
@[simp] theorem State.updBus_running (f : Bus → Bus) : (s.updBus k f).running = s.running := rfl
@[simp] theorem State.updBus_follower (f : Bus → Bus) : (s.updBus k f).follower = s.follower := rfl
@[simp] theorem State.updBus_md (f : Bus → Bus) : (s.updBus k f).md = s.md := rfl
@[simp] theorem State.updBus_host (f : Bus → Bus) : (s.updBus k f).host = s.host := rfl
@[simp] theorem State.updBus_faults (f : Bus → Bus) : (s.updBus k f).faults = s.faults := rfl
@[simp] theorem State.updBus_firstCode (f : Bus → Bus) : (s.updBus k f).firstCode = s.firstCode := rfl
@[simp] theorem State.updBus_firstTempo (f : Bus → Bus) : (s.updBus k f).firstTempo = s.firstTempo := rfl
@[simp] theorem State.updBus_thermTrip (f : Bus → Bus) : (s.updBus k f).thermTrip = s.thermTrip := rfl
@[simp] theorem State.updBus_watchdog (f : Bus → Bus) : (s.updBus k f).watchdog = s.watchdog := rfl
@[simp] theorem State.updBus_params (f : Bus → Bus) : (s.updBus k f).params = s.params := rfl
@[simp] theorem State.updBus_removed (f : Bus → Bus) : (s.updBus k f).removed = s.removed := rfl
@[simp] theorem State.updBus_promotions (f : Bus → Bus) : (s.updBus k f).promotions = s.promotions := rfl
@[simp] theorem State.updBus_ageNew (f : Bus → Bus) : (s.updBus k f).ageNew = s.ageNew := rfl
@[simp] theorem State.updBus_aon (f : Bus → Bus) : (s.updBus k f).aon = s.aon := rfl
@[simp] theorem State.updBus_sheets (f : Bus → Bus) : (s.updBus k f).sheets = s.sheets := rfl
@[simp] theorem State.updBus_clk (f : Bus → Bus) : (s.updBus k f).clk = s.clk := rfl
@[simp] theorem State.updBus_store (f : Bus → Bus) : (s.updBus k f).store = s.store := rfl
@[simp] theorem State.updBus_video (f : Bus → Bus) : (s.updBus k f).video = s.video := rfl
@[simp] theorem State.updBus_rails (f : Bus → Bus) : (s.updBus k f).rails = s.rails := rfl
@[simp] theorem State.updBus_therm (f : Bus → Bus) : (s.updBus k f).therm = s.therm := rfl
@[simp] theorem State.updBus_mems (f : Bus → Bus) : (s.updBus k f).mems = s.mems := rfl
@[simp] theorem State.updBus_io (f : Bus → Bus) : (s.updBus k f).io = s.io := rfl
@[simp] theorem State.updBus_out (f : Bus → Bus) : (s.updBus k f).out = s.out := rfl
@[simp] theorem State.updBus_jtag (f : Bus → Bus) : (s.updBus k f).jtag = s.jtag := rfl
@[simp] theorem State.updBus_place (f : Bus → Bus) : (s.updBus k f).place = s.place := rfl
@[simp] theorem State.updBus_snap (f : Bus → Bus) : (s.updBus k f).snap = s.snap := rfl
@[simp] theorem State.updBus_ring (f : Bus → Bus) (j : Nat) : (s.updBus k f).ring j = s.ring j := rfl
@[simp] theorem State.updBus_pll (f : Bus → Bus) (j : Nat) : (s.updBus k f).pll j = s.pll j := rfl
@[simp] theorem State.updBus_gear (f : Bus → Bus) (j : Nat) : (s.updBus k f).gear j = s.gear j := rfl
@[simp] theorem State.updBus_enc (f : Bus → Bus) (j : Nat) : (s.updBus k f).enc j = s.enc j := rfl
@[simp] theorem State.updBus_gpio (f : Bus → Bus) (j : Nat) : (s.updBus k f).gpio j = s.gpio j := rfl
@[simp] theorem State.updBus_castle (f : Bus → Bus) (j : Nat) : (s.updBus k f).castle j = s.castle j := rfl
@[simp] theorem State.updBus_ticket (f : Bus → Bus) (j : Nat) : (s.updBus k f).ticket j = s.ticket j := rfl
@[simp] theorem State.updBus_page (f : Bus → Bus) (j : Nat) : (s.updBus k f).page j = s.page j := rfl
@[simp] theorem State.updBus_dma (f : Bus → Bus) (j : Nat) : (s.updBus k f).dma j = s.dma j := rfl
@[simp] theorem State.updBus_station (f : Bus → Bus) (j : Nat) : (s.updBus k f).station j = s.station j := rfl
@[simp] theorem State.updBus_lane (f : Bus → Bus) (j : Nat) : (s.updBus k f).lane j = s.lane j := rfl
@[simp] theorem State.updBus_beam (f : Bus → Bus) (j : Nat) : (s.updBus k f).beam j = s.beam j := rfl
@[simp] theorem State.updBus_link (f : Bus → Bus) (j : Nat) : (s.updBus k f).link j = s.link j := rfl
@[simp] theorem State.updBus_tile (f : Bus → Bus) (j : Nat) : (s.updBus k f).tile j = s.tile j := rfl
@[simp] theorem State.updBus_group (f : Bus → Bus) (j : Nat) : (s.updBus k f).group j = s.group j := rfl
@[simp] theorem State.updBus_axis (f : Bus → Bus) (j : Nat) : (s.updBus k f).axis j = s.axis j := rfl
@[simp] theorem State.updBus_poly (f : Bus → Bus) (j : Nat) : (s.updBus k f).poly j = s.poly j := rfl
@[simp] theorem State.updBus_loop (f : Bus → Bus) (j : Nat) : (s.updBus k f).loop j = s.loop j := rfl
@[simp] theorem State.updBus_heat (f : Bus → Bus) (j : Nat) : (s.updBus k f).heat j = s.heat j := rfl
@[simp] theorem State.updBus_leg (f : Bus → Bus) (j : Nat) : (s.updBus k f).leg j = s.leg j := rfl
@[simp] theorem State.updBus_rail (f : Bus → Bus) (j : Nat) : (s.updBus k f).rail j = s.rail j := rfl
@[simp] theorem State.updBus_sensor (f : Bus → Bus) (j : Nat) : (s.updBus k f).sensor j = s.sensor j := rfl
@[simp] theorem State.updBus_mem (f : Bus → Bus) (j : Nat) : (s.updBus k f).mem j = s.mem j := rfl
@[simp] theorem State.updBus_par (f : Bus → Bus) (c i p : Nat) : (s.updBus k f).par c i p = s.par c i p := rfl

/-! ### Group -/

theorem State.updGroup_eq (f : Group → Group) : s.updGroup k f = s.setGroup k (f (s.group k)) := rfl
@[simp] theorem State.setGroup_get (v : Group) (j : Nat) : (s.setGroup k v).group j = if j = k then v else s.group j := Map.get_put _ _ _ _ _
@[simp] theorem State.updGroup_get (f : Group → Group) (j : Nat) : (s.updGroup k f).group j = if j = k then f (s.group k) else s.group j := Map.get_put _ _ _ _ _
@[simp] theorem State.setGroup_die (v : Group) : (s.setGroup k v).die = s.die := rfl
@[simp] theorem State.setGroup_free (v : Group) : (s.setGroup k v).free = s.free := rfl
@[simp] theorem State.setGroup_pending (v : Group) : (s.setGroup k v).pending = s.pending := rfl
@[simp] theorem State.setGroup_tempo (v : Group) : (s.setGroup k v).tempo = s.tempo := rfl
@[simp] theorem State.setGroup_running (v : Group) : (s.setGroup k v).running = s.running := rfl
@[simp] theorem State.setGroup_follower (v : Group) : (s.setGroup k v).follower = s.follower := rfl
@[simp] theorem State.setGroup_md (v : Group) : (s.setGroup k v).md = s.md := rfl
@[simp] theorem State.setGroup_host (v : Group) : (s.setGroup k v).host = s.host := rfl
@[simp] theorem State.setGroup_faults (v : Group) : (s.setGroup k v).faults = s.faults := rfl
@[simp] theorem State.setGroup_firstCode (v : Group) : (s.setGroup k v).firstCode = s.firstCode := rfl
@[simp] theorem State.setGroup_firstTempo (v : Group) : (s.setGroup k v).firstTempo = s.firstTempo := rfl
@[simp] theorem State.setGroup_thermTrip (v : Group) : (s.setGroup k v).thermTrip = s.thermTrip := rfl
@[simp] theorem State.setGroup_watchdog (v : Group) : (s.setGroup k v).watchdog = s.watchdog := rfl
@[simp] theorem State.setGroup_params (v : Group) : (s.setGroup k v).params = s.params := rfl
@[simp] theorem State.setGroup_removed (v : Group) : (s.setGroup k v).removed = s.removed := rfl
@[simp] theorem State.setGroup_promotions (v : Group) : (s.setGroup k v).promotions = s.promotions := rfl
@[simp] theorem State.setGroup_ageNew (v : Group) : (s.setGroup k v).ageNew = s.ageNew := rfl
@[simp] theorem State.setGroup_aon (v : Group) : (s.setGroup k v).aon = s.aon := rfl
@[simp] theorem State.setGroup_sheets (v : Group) : (s.setGroup k v).sheets = s.sheets := rfl
@[simp] theorem State.setGroup_clk (v : Group) : (s.setGroup k v).clk = s.clk := rfl
@[simp] theorem State.setGroup_store (v : Group) : (s.setGroup k v).store = s.store := rfl
@[simp] theorem State.setGroup_video (v : Group) : (s.setGroup k v).video = s.video := rfl
@[simp] theorem State.setGroup_rails (v : Group) : (s.setGroup k v).rails = s.rails := rfl
@[simp] theorem State.setGroup_therm (v : Group) : (s.setGroup k v).therm = s.therm := rfl
@[simp] theorem State.setGroup_mems (v : Group) : (s.setGroup k v).mems = s.mems := rfl
@[simp] theorem State.setGroup_io (v : Group) : (s.setGroup k v).io = s.io := rfl
@[simp] theorem State.setGroup_out (v : Group) : (s.setGroup k v).out = s.out := rfl
@[simp] theorem State.setGroup_jtag (v : Group) : (s.setGroup k v).jtag = s.jtag := rfl
@[simp] theorem State.setGroup_place (v : Group) : (s.setGroup k v).place = s.place := rfl
@[simp] theorem State.setGroup_snap (v : Group) : (s.setGroup k v).snap = s.snap := rfl
@[simp] theorem State.setGroup_ring (v : Group) (j : Nat) : (s.setGroup k v).ring j = s.ring j := rfl
@[simp] theorem State.setGroup_pll (v : Group) (j : Nat) : (s.setGroup k v).pll j = s.pll j := rfl
@[simp] theorem State.setGroup_gear (v : Group) (j : Nat) : (s.setGroup k v).gear j = s.gear j := rfl
@[simp] theorem State.setGroup_enc (v : Group) (j : Nat) : (s.setGroup k v).enc j = s.enc j := rfl
@[simp] theorem State.setGroup_gpio (v : Group) (j : Nat) : (s.setGroup k v).gpio j = s.gpio j := rfl
@[simp] theorem State.setGroup_castle (v : Group) (j : Nat) : (s.setGroup k v).castle j = s.castle j := rfl
@[simp] theorem State.setGroup_ticket (v : Group) (j : Nat) : (s.setGroup k v).ticket j = s.ticket j := rfl
@[simp] theorem State.setGroup_page (v : Group) (j : Nat) : (s.setGroup k v).page j = s.page j := rfl
@[simp] theorem State.setGroup_dma (v : Group) (j : Nat) : (s.setGroup k v).dma j = s.dma j := rfl
@[simp] theorem State.setGroup_station (v : Group) (j : Nat) : (s.setGroup k v).station j = s.station j := rfl
@[simp] theorem State.setGroup_lane (v : Group) (j : Nat) : (s.setGroup k v).lane j = s.lane j := rfl
@[simp] theorem State.setGroup_beam (v : Group) (j : Nat) : (s.setGroup k v).beam j = s.beam j := rfl
@[simp] theorem State.setGroup_link (v : Group) (j : Nat) : (s.setGroup k v).link j = s.link j := rfl
@[simp] theorem State.setGroup_tile (v : Group) (j : Nat) : (s.setGroup k v).tile j = s.tile j := rfl
@[simp] theorem State.setGroup_bus (v : Group) (j : Nat) : (s.setGroup k v).bus j = s.bus j := rfl
@[simp] theorem State.setGroup_axis (v : Group) (j : Nat) : (s.setGroup k v).axis j = s.axis j := rfl
@[simp] theorem State.setGroup_poly (v : Group) (j : Nat) : (s.setGroup k v).poly j = s.poly j := rfl
@[simp] theorem State.setGroup_loop (v : Group) (j : Nat) : (s.setGroup k v).loop j = s.loop j := rfl
@[simp] theorem State.setGroup_heat (v : Group) (j : Nat) : (s.setGroup k v).heat j = s.heat j := rfl
@[simp] theorem State.setGroup_leg (v : Group) (j : Nat) : (s.setGroup k v).leg j = s.leg j := rfl
@[simp] theorem State.setGroup_rail (v : Group) (j : Nat) : (s.setGroup k v).rail j = s.rail j := rfl
@[simp] theorem State.setGroup_sensor (v : Group) (j : Nat) : (s.setGroup k v).sensor j = s.sensor j := rfl
@[simp] theorem State.setGroup_mem (v : Group) (j : Nat) : (s.setGroup k v).mem j = s.mem j := rfl
@[simp] theorem State.setGroup_par (v : Group) (c i p : Nat) : (s.setGroup k v).par c i p = s.par c i p := rfl
@[simp] theorem State.updGroup_die (f : Group → Group) : (s.updGroup k f).die = s.die := rfl
@[simp] theorem State.updGroup_free (f : Group → Group) : (s.updGroup k f).free = s.free := rfl
@[simp] theorem State.updGroup_pending (f : Group → Group) : (s.updGroup k f).pending = s.pending := rfl
@[simp] theorem State.updGroup_tempo (f : Group → Group) : (s.updGroup k f).tempo = s.tempo := rfl
@[simp] theorem State.updGroup_running (f : Group → Group) : (s.updGroup k f).running = s.running := rfl
@[simp] theorem State.updGroup_follower (f : Group → Group) : (s.updGroup k f).follower = s.follower := rfl
@[simp] theorem State.updGroup_md (f : Group → Group) : (s.updGroup k f).md = s.md := rfl
@[simp] theorem State.updGroup_host (f : Group → Group) : (s.updGroup k f).host = s.host := rfl
@[simp] theorem State.updGroup_faults (f : Group → Group) : (s.updGroup k f).faults = s.faults := rfl
@[simp] theorem State.updGroup_firstCode (f : Group → Group) : (s.updGroup k f).firstCode = s.firstCode := rfl
@[simp] theorem State.updGroup_firstTempo (f : Group → Group) : (s.updGroup k f).firstTempo = s.firstTempo := rfl
@[simp] theorem State.updGroup_thermTrip (f : Group → Group) : (s.updGroup k f).thermTrip = s.thermTrip := rfl
@[simp] theorem State.updGroup_watchdog (f : Group → Group) : (s.updGroup k f).watchdog = s.watchdog := rfl
@[simp] theorem State.updGroup_params (f : Group → Group) : (s.updGroup k f).params = s.params := rfl
@[simp] theorem State.updGroup_removed (f : Group → Group) : (s.updGroup k f).removed = s.removed := rfl
@[simp] theorem State.updGroup_promotions (f : Group → Group) : (s.updGroup k f).promotions = s.promotions := rfl
@[simp] theorem State.updGroup_ageNew (f : Group → Group) : (s.updGroup k f).ageNew = s.ageNew := rfl
@[simp] theorem State.updGroup_aon (f : Group → Group) : (s.updGroup k f).aon = s.aon := rfl
@[simp] theorem State.updGroup_sheets (f : Group → Group) : (s.updGroup k f).sheets = s.sheets := rfl
@[simp] theorem State.updGroup_clk (f : Group → Group) : (s.updGroup k f).clk = s.clk := rfl
@[simp] theorem State.updGroup_store (f : Group → Group) : (s.updGroup k f).store = s.store := rfl
@[simp] theorem State.updGroup_video (f : Group → Group) : (s.updGroup k f).video = s.video := rfl
@[simp] theorem State.updGroup_rails (f : Group → Group) : (s.updGroup k f).rails = s.rails := rfl
@[simp] theorem State.updGroup_therm (f : Group → Group) : (s.updGroup k f).therm = s.therm := rfl
@[simp] theorem State.updGroup_mems (f : Group → Group) : (s.updGroup k f).mems = s.mems := rfl
@[simp] theorem State.updGroup_io (f : Group → Group) : (s.updGroup k f).io = s.io := rfl
@[simp] theorem State.updGroup_out (f : Group → Group) : (s.updGroup k f).out = s.out := rfl
@[simp] theorem State.updGroup_jtag (f : Group → Group) : (s.updGroup k f).jtag = s.jtag := rfl
@[simp] theorem State.updGroup_place (f : Group → Group) : (s.updGroup k f).place = s.place := rfl
@[simp] theorem State.updGroup_snap (f : Group → Group) : (s.updGroup k f).snap = s.snap := rfl
@[simp] theorem State.updGroup_ring (f : Group → Group) (j : Nat) : (s.updGroup k f).ring j = s.ring j := rfl
@[simp] theorem State.updGroup_pll (f : Group → Group) (j : Nat) : (s.updGroup k f).pll j = s.pll j := rfl
@[simp] theorem State.updGroup_gear (f : Group → Group) (j : Nat) : (s.updGroup k f).gear j = s.gear j := rfl
@[simp] theorem State.updGroup_enc (f : Group → Group) (j : Nat) : (s.updGroup k f).enc j = s.enc j := rfl
@[simp] theorem State.updGroup_gpio (f : Group → Group) (j : Nat) : (s.updGroup k f).gpio j = s.gpio j := rfl
@[simp] theorem State.updGroup_castle (f : Group → Group) (j : Nat) : (s.updGroup k f).castle j = s.castle j := rfl
@[simp] theorem State.updGroup_ticket (f : Group → Group) (j : Nat) : (s.updGroup k f).ticket j = s.ticket j := rfl
@[simp] theorem State.updGroup_page (f : Group → Group) (j : Nat) : (s.updGroup k f).page j = s.page j := rfl
@[simp] theorem State.updGroup_dma (f : Group → Group) (j : Nat) : (s.updGroup k f).dma j = s.dma j := rfl
@[simp] theorem State.updGroup_station (f : Group → Group) (j : Nat) : (s.updGroup k f).station j = s.station j := rfl
@[simp] theorem State.updGroup_lane (f : Group → Group) (j : Nat) : (s.updGroup k f).lane j = s.lane j := rfl
@[simp] theorem State.updGroup_beam (f : Group → Group) (j : Nat) : (s.updGroup k f).beam j = s.beam j := rfl
@[simp] theorem State.updGroup_link (f : Group → Group) (j : Nat) : (s.updGroup k f).link j = s.link j := rfl
@[simp] theorem State.updGroup_tile (f : Group → Group) (j : Nat) : (s.updGroup k f).tile j = s.tile j := rfl
@[simp] theorem State.updGroup_bus (f : Group → Group) (j : Nat) : (s.updGroup k f).bus j = s.bus j := rfl
@[simp] theorem State.updGroup_axis (f : Group → Group) (j : Nat) : (s.updGroup k f).axis j = s.axis j := rfl
@[simp] theorem State.updGroup_poly (f : Group → Group) (j : Nat) : (s.updGroup k f).poly j = s.poly j := rfl
@[simp] theorem State.updGroup_loop (f : Group → Group) (j : Nat) : (s.updGroup k f).loop j = s.loop j := rfl
@[simp] theorem State.updGroup_heat (f : Group → Group) (j : Nat) : (s.updGroup k f).heat j = s.heat j := rfl
@[simp] theorem State.updGroup_leg (f : Group → Group) (j : Nat) : (s.updGroup k f).leg j = s.leg j := rfl
@[simp] theorem State.updGroup_rail (f : Group → Group) (j : Nat) : (s.updGroup k f).rail j = s.rail j := rfl
@[simp] theorem State.updGroup_sensor (f : Group → Group) (j : Nat) : (s.updGroup k f).sensor j = s.sensor j := rfl
@[simp] theorem State.updGroup_mem (f : Group → Group) (j : Nat) : (s.updGroup k f).mem j = s.mem j := rfl
@[simp] theorem State.updGroup_par (f : Group → Group) (c i p : Nat) : (s.updGroup k f).par c i p = s.par c i p := rfl

/-! ### Axis -/

theorem State.updAxis_eq (f : AxisSt → AxisSt) : s.updAxis k f = s.setAxis k (f (s.axis k)) := rfl
@[simp] theorem State.setAxis_get (v : AxisSt) (j : Nat) : (s.setAxis k v).axis j = if j = k then v else s.axis j := Map.get_put _ _ _ _ _
@[simp] theorem State.updAxis_get (f : AxisSt → AxisSt) (j : Nat) : (s.updAxis k f).axis j = if j = k then f (s.axis k) else s.axis j := Map.get_put _ _ _ _ _
@[simp] theorem State.setAxis_die (v : AxisSt) : (s.setAxis k v).die = s.die := rfl
@[simp] theorem State.setAxis_free (v : AxisSt) : (s.setAxis k v).free = s.free := rfl
@[simp] theorem State.setAxis_pending (v : AxisSt) : (s.setAxis k v).pending = s.pending := rfl
@[simp] theorem State.setAxis_tempo (v : AxisSt) : (s.setAxis k v).tempo = s.tempo := rfl
@[simp] theorem State.setAxis_running (v : AxisSt) : (s.setAxis k v).running = s.running := rfl
@[simp] theorem State.setAxis_follower (v : AxisSt) : (s.setAxis k v).follower = s.follower := rfl
@[simp] theorem State.setAxis_md (v : AxisSt) : (s.setAxis k v).md = s.md := rfl
@[simp] theorem State.setAxis_host (v : AxisSt) : (s.setAxis k v).host = s.host := rfl
@[simp] theorem State.setAxis_faults (v : AxisSt) : (s.setAxis k v).faults = s.faults := rfl
@[simp] theorem State.setAxis_firstCode (v : AxisSt) : (s.setAxis k v).firstCode = s.firstCode := rfl
@[simp] theorem State.setAxis_firstTempo (v : AxisSt) : (s.setAxis k v).firstTempo = s.firstTempo := rfl
@[simp] theorem State.setAxis_thermTrip (v : AxisSt) : (s.setAxis k v).thermTrip = s.thermTrip := rfl
@[simp] theorem State.setAxis_watchdog (v : AxisSt) : (s.setAxis k v).watchdog = s.watchdog := rfl
@[simp] theorem State.setAxis_params (v : AxisSt) : (s.setAxis k v).params = s.params := rfl
@[simp] theorem State.setAxis_removed (v : AxisSt) : (s.setAxis k v).removed = s.removed := rfl
@[simp] theorem State.setAxis_promotions (v : AxisSt) : (s.setAxis k v).promotions = s.promotions := rfl
@[simp] theorem State.setAxis_ageNew (v : AxisSt) : (s.setAxis k v).ageNew = s.ageNew := rfl
@[simp] theorem State.setAxis_aon (v : AxisSt) : (s.setAxis k v).aon = s.aon := rfl
@[simp] theorem State.setAxis_sheets (v : AxisSt) : (s.setAxis k v).sheets = s.sheets := rfl
@[simp] theorem State.setAxis_clk (v : AxisSt) : (s.setAxis k v).clk = s.clk := rfl
@[simp] theorem State.setAxis_store (v : AxisSt) : (s.setAxis k v).store = s.store := rfl
@[simp] theorem State.setAxis_video (v : AxisSt) : (s.setAxis k v).video = s.video := rfl
@[simp] theorem State.setAxis_rails (v : AxisSt) : (s.setAxis k v).rails = s.rails := rfl
@[simp] theorem State.setAxis_therm (v : AxisSt) : (s.setAxis k v).therm = s.therm := rfl
@[simp] theorem State.setAxis_mems (v : AxisSt) : (s.setAxis k v).mems = s.mems := rfl
@[simp] theorem State.setAxis_io (v : AxisSt) : (s.setAxis k v).io = s.io := rfl
@[simp] theorem State.setAxis_out (v : AxisSt) : (s.setAxis k v).out = s.out := rfl
@[simp] theorem State.setAxis_jtag (v : AxisSt) : (s.setAxis k v).jtag = s.jtag := rfl
@[simp] theorem State.setAxis_place (v : AxisSt) : (s.setAxis k v).place = s.place := rfl
@[simp] theorem State.setAxis_snap (v : AxisSt) : (s.setAxis k v).snap = s.snap := rfl
@[simp] theorem State.setAxis_ring (v : AxisSt) (j : Nat) : (s.setAxis k v).ring j = s.ring j := rfl
@[simp] theorem State.setAxis_pll (v : AxisSt) (j : Nat) : (s.setAxis k v).pll j = s.pll j := rfl
@[simp] theorem State.setAxis_gear (v : AxisSt) (j : Nat) : (s.setAxis k v).gear j = s.gear j := rfl
@[simp] theorem State.setAxis_enc (v : AxisSt) (j : Nat) : (s.setAxis k v).enc j = s.enc j := rfl
@[simp] theorem State.setAxis_gpio (v : AxisSt) (j : Nat) : (s.setAxis k v).gpio j = s.gpio j := rfl
@[simp] theorem State.setAxis_castle (v : AxisSt) (j : Nat) : (s.setAxis k v).castle j = s.castle j := rfl
@[simp] theorem State.setAxis_ticket (v : AxisSt) (j : Nat) : (s.setAxis k v).ticket j = s.ticket j := rfl
@[simp] theorem State.setAxis_page (v : AxisSt) (j : Nat) : (s.setAxis k v).page j = s.page j := rfl
@[simp] theorem State.setAxis_dma (v : AxisSt) (j : Nat) : (s.setAxis k v).dma j = s.dma j := rfl
@[simp] theorem State.setAxis_station (v : AxisSt) (j : Nat) : (s.setAxis k v).station j = s.station j := rfl
@[simp] theorem State.setAxis_lane (v : AxisSt) (j : Nat) : (s.setAxis k v).lane j = s.lane j := rfl
@[simp] theorem State.setAxis_beam (v : AxisSt) (j : Nat) : (s.setAxis k v).beam j = s.beam j := rfl
@[simp] theorem State.setAxis_link (v : AxisSt) (j : Nat) : (s.setAxis k v).link j = s.link j := rfl
@[simp] theorem State.setAxis_tile (v : AxisSt) (j : Nat) : (s.setAxis k v).tile j = s.tile j := rfl
@[simp] theorem State.setAxis_bus (v : AxisSt) (j : Nat) : (s.setAxis k v).bus j = s.bus j := rfl
@[simp] theorem State.setAxis_group (v : AxisSt) (j : Nat) : (s.setAxis k v).group j = s.group j := rfl
@[simp] theorem State.setAxis_poly (v : AxisSt) (j : Nat) : (s.setAxis k v).poly j = s.poly j := rfl
@[simp] theorem State.setAxis_loop (v : AxisSt) (j : Nat) : (s.setAxis k v).loop j = s.loop j := rfl
@[simp] theorem State.setAxis_heat (v : AxisSt) (j : Nat) : (s.setAxis k v).heat j = s.heat j := rfl
@[simp] theorem State.setAxis_leg (v : AxisSt) (j : Nat) : (s.setAxis k v).leg j = s.leg j := rfl
@[simp] theorem State.setAxis_rail (v : AxisSt) (j : Nat) : (s.setAxis k v).rail j = s.rail j := rfl
@[simp] theorem State.setAxis_sensor (v : AxisSt) (j : Nat) : (s.setAxis k v).sensor j = s.sensor j := rfl
@[simp] theorem State.setAxis_mem (v : AxisSt) (j : Nat) : (s.setAxis k v).mem j = s.mem j := rfl
@[simp] theorem State.setAxis_par (v : AxisSt) (c i p : Nat) : (s.setAxis k v).par c i p = s.par c i p := rfl
@[simp] theorem State.updAxis_die (f : AxisSt → AxisSt) : (s.updAxis k f).die = s.die := rfl
@[simp] theorem State.updAxis_free (f : AxisSt → AxisSt) : (s.updAxis k f).free = s.free := rfl
@[simp] theorem State.updAxis_pending (f : AxisSt → AxisSt) : (s.updAxis k f).pending = s.pending := rfl
@[simp] theorem State.updAxis_tempo (f : AxisSt → AxisSt) : (s.updAxis k f).tempo = s.tempo := rfl
@[simp] theorem State.updAxis_running (f : AxisSt → AxisSt) : (s.updAxis k f).running = s.running := rfl
@[simp] theorem State.updAxis_follower (f : AxisSt → AxisSt) : (s.updAxis k f).follower = s.follower := rfl
@[simp] theorem State.updAxis_md (f : AxisSt → AxisSt) : (s.updAxis k f).md = s.md := rfl
@[simp] theorem State.updAxis_host (f : AxisSt → AxisSt) : (s.updAxis k f).host = s.host := rfl
@[simp] theorem State.updAxis_faults (f : AxisSt → AxisSt) : (s.updAxis k f).faults = s.faults := rfl
@[simp] theorem State.updAxis_firstCode (f : AxisSt → AxisSt) : (s.updAxis k f).firstCode = s.firstCode := rfl
@[simp] theorem State.updAxis_firstTempo (f : AxisSt → AxisSt) : (s.updAxis k f).firstTempo = s.firstTempo := rfl
@[simp] theorem State.updAxis_thermTrip (f : AxisSt → AxisSt) : (s.updAxis k f).thermTrip = s.thermTrip := rfl
@[simp] theorem State.updAxis_watchdog (f : AxisSt → AxisSt) : (s.updAxis k f).watchdog = s.watchdog := rfl
@[simp] theorem State.updAxis_params (f : AxisSt → AxisSt) : (s.updAxis k f).params = s.params := rfl
@[simp] theorem State.updAxis_removed (f : AxisSt → AxisSt) : (s.updAxis k f).removed = s.removed := rfl
@[simp] theorem State.updAxis_promotions (f : AxisSt → AxisSt) : (s.updAxis k f).promotions = s.promotions := rfl
@[simp] theorem State.updAxis_ageNew (f : AxisSt → AxisSt) : (s.updAxis k f).ageNew = s.ageNew := rfl
@[simp] theorem State.updAxis_aon (f : AxisSt → AxisSt) : (s.updAxis k f).aon = s.aon := rfl
@[simp] theorem State.updAxis_sheets (f : AxisSt → AxisSt) : (s.updAxis k f).sheets = s.sheets := rfl
@[simp] theorem State.updAxis_clk (f : AxisSt → AxisSt) : (s.updAxis k f).clk = s.clk := rfl
@[simp] theorem State.updAxis_store (f : AxisSt → AxisSt) : (s.updAxis k f).store = s.store := rfl
@[simp] theorem State.updAxis_video (f : AxisSt → AxisSt) : (s.updAxis k f).video = s.video := rfl
@[simp] theorem State.updAxis_rails (f : AxisSt → AxisSt) : (s.updAxis k f).rails = s.rails := rfl
@[simp] theorem State.updAxis_therm (f : AxisSt → AxisSt) : (s.updAxis k f).therm = s.therm := rfl
@[simp] theorem State.updAxis_mems (f : AxisSt → AxisSt) : (s.updAxis k f).mems = s.mems := rfl
@[simp] theorem State.updAxis_io (f : AxisSt → AxisSt) : (s.updAxis k f).io = s.io := rfl
@[simp] theorem State.updAxis_out (f : AxisSt → AxisSt) : (s.updAxis k f).out = s.out := rfl
@[simp] theorem State.updAxis_jtag (f : AxisSt → AxisSt) : (s.updAxis k f).jtag = s.jtag := rfl
@[simp] theorem State.updAxis_place (f : AxisSt → AxisSt) : (s.updAxis k f).place = s.place := rfl
@[simp] theorem State.updAxis_snap (f : AxisSt → AxisSt) : (s.updAxis k f).snap = s.snap := rfl
@[simp] theorem State.updAxis_ring (f : AxisSt → AxisSt) (j : Nat) : (s.updAxis k f).ring j = s.ring j := rfl
@[simp] theorem State.updAxis_pll (f : AxisSt → AxisSt) (j : Nat) : (s.updAxis k f).pll j = s.pll j := rfl
@[simp] theorem State.updAxis_gear (f : AxisSt → AxisSt) (j : Nat) : (s.updAxis k f).gear j = s.gear j := rfl
@[simp] theorem State.updAxis_enc (f : AxisSt → AxisSt) (j : Nat) : (s.updAxis k f).enc j = s.enc j := rfl
@[simp] theorem State.updAxis_gpio (f : AxisSt → AxisSt) (j : Nat) : (s.updAxis k f).gpio j = s.gpio j := rfl
@[simp] theorem State.updAxis_castle (f : AxisSt → AxisSt) (j : Nat) : (s.updAxis k f).castle j = s.castle j := rfl
@[simp] theorem State.updAxis_ticket (f : AxisSt → AxisSt) (j : Nat) : (s.updAxis k f).ticket j = s.ticket j := rfl
@[simp] theorem State.updAxis_page (f : AxisSt → AxisSt) (j : Nat) : (s.updAxis k f).page j = s.page j := rfl
@[simp] theorem State.updAxis_dma (f : AxisSt → AxisSt) (j : Nat) : (s.updAxis k f).dma j = s.dma j := rfl
@[simp] theorem State.updAxis_station (f : AxisSt → AxisSt) (j : Nat) : (s.updAxis k f).station j = s.station j := rfl
@[simp] theorem State.updAxis_lane (f : AxisSt → AxisSt) (j : Nat) : (s.updAxis k f).lane j = s.lane j := rfl
@[simp] theorem State.updAxis_beam (f : AxisSt → AxisSt) (j : Nat) : (s.updAxis k f).beam j = s.beam j := rfl
@[simp] theorem State.updAxis_link (f : AxisSt → AxisSt) (j : Nat) : (s.updAxis k f).link j = s.link j := rfl
@[simp] theorem State.updAxis_tile (f : AxisSt → AxisSt) (j : Nat) : (s.updAxis k f).tile j = s.tile j := rfl
@[simp] theorem State.updAxis_bus (f : AxisSt → AxisSt) (j : Nat) : (s.updAxis k f).bus j = s.bus j := rfl
@[simp] theorem State.updAxis_group (f : AxisSt → AxisSt) (j : Nat) : (s.updAxis k f).group j = s.group j := rfl
@[simp] theorem State.updAxis_poly (f : AxisSt → AxisSt) (j : Nat) : (s.updAxis k f).poly j = s.poly j := rfl
@[simp] theorem State.updAxis_loop (f : AxisSt → AxisSt) (j : Nat) : (s.updAxis k f).loop j = s.loop j := rfl
@[simp] theorem State.updAxis_heat (f : AxisSt → AxisSt) (j : Nat) : (s.updAxis k f).heat j = s.heat j := rfl
@[simp] theorem State.updAxis_leg (f : AxisSt → AxisSt) (j : Nat) : (s.updAxis k f).leg j = s.leg j := rfl
@[simp] theorem State.updAxis_rail (f : AxisSt → AxisSt) (j : Nat) : (s.updAxis k f).rail j = s.rail j := rfl
@[simp] theorem State.updAxis_sensor (f : AxisSt → AxisSt) (j : Nat) : (s.updAxis k f).sensor j = s.sensor j := rfl
@[simp] theorem State.updAxis_mem (f : AxisSt → AxisSt) (j : Nat) : (s.updAxis k f).mem j = s.mem j := rfl
@[simp] theorem State.updAxis_par (f : AxisSt → AxisSt) (c i p : Nat) : (s.updAxis k f).par c i p = s.par c i p := rfl

/-! ### Poly -/

theorem State.updPoly_eq (f : PolySt → PolySt) : s.updPoly k f = s.setPoly k (f (s.poly k)) := rfl
@[simp] theorem State.setPoly_get (v : PolySt) (j : Nat) : (s.setPoly k v).poly j = if j = k then v else s.poly j := Map.get_put _ _ _ _ _
@[simp] theorem State.updPoly_get (f : PolySt → PolySt) (j : Nat) : (s.updPoly k f).poly j = if j = k then f (s.poly k) else s.poly j := Map.get_put _ _ _ _ _
@[simp] theorem State.setPoly_die (v : PolySt) : (s.setPoly k v).die = s.die := rfl
@[simp] theorem State.setPoly_free (v : PolySt) : (s.setPoly k v).free = s.free := rfl
@[simp] theorem State.setPoly_pending (v : PolySt) : (s.setPoly k v).pending = s.pending := rfl
@[simp] theorem State.setPoly_tempo (v : PolySt) : (s.setPoly k v).tempo = s.tempo := rfl
@[simp] theorem State.setPoly_running (v : PolySt) : (s.setPoly k v).running = s.running := rfl
@[simp] theorem State.setPoly_follower (v : PolySt) : (s.setPoly k v).follower = s.follower := rfl
@[simp] theorem State.setPoly_md (v : PolySt) : (s.setPoly k v).md = s.md := rfl
@[simp] theorem State.setPoly_host (v : PolySt) : (s.setPoly k v).host = s.host := rfl
@[simp] theorem State.setPoly_faults (v : PolySt) : (s.setPoly k v).faults = s.faults := rfl
@[simp] theorem State.setPoly_firstCode (v : PolySt) : (s.setPoly k v).firstCode = s.firstCode := rfl
@[simp] theorem State.setPoly_firstTempo (v : PolySt) : (s.setPoly k v).firstTempo = s.firstTempo := rfl
@[simp] theorem State.setPoly_thermTrip (v : PolySt) : (s.setPoly k v).thermTrip = s.thermTrip := rfl
@[simp] theorem State.setPoly_watchdog (v : PolySt) : (s.setPoly k v).watchdog = s.watchdog := rfl
@[simp] theorem State.setPoly_params (v : PolySt) : (s.setPoly k v).params = s.params := rfl
@[simp] theorem State.setPoly_removed (v : PolySt) : (s.setPoly k v).removed = s.removed := rfl
@[simp] theorem State.setPoly_promotions (v : PolySt) : (s.setPoly k v).promotions = s.promotions := rfl
@[simp] theorem State.setPoly_ageNew (v : PolySt) : (s.setPoly k v).ageNew = s.ageNew := rfl
@[simp] theorem State.setPoly_aon (v : PolySt) : (s.setPoly k v).aon = s.aon := rfl
@[simp] theorem State.setPoly_sheets (v : PolySt) : (s.setPoly k v).sheets = s.sheets := rfl
@[simp] theorem State.setPoly_clk (v : PolySt) : (s.setPoly k v).clk = s.clk := rfl
@[simp] theorem State.setPoly_store (v : PolySt) : (s.setPoly k v).store = s.store := rfl
@[simp] theorem State.setPoly_video (v : PolySt) : (s.setPoly k v).video = s.video := rfl
@[simp] theorem State.setPoly_rails (v : PolySt) : (s.setPoly k v).rails = s.rails := rfl
@[simp] theorem State.setPoly_therm (v : PolySt) : (s.setPoly k v).therm = s.therm := rfl
@[simp] theorem State.setPoly_mems (v : PolySt) : (s.setPoly k v).mems = s.mems := rfl
@[simp] theorem State.setPoly_io (v : PolySt) : (s.setPoly k v).io = s.io := rfl
@[simp] theorem State.setPoly_out (v : PolySt) : (s.setPoly k v).out = s.out := rfl
@[simp] theorem State.setPoly_jtag (v : PolySt) : (s.setPoly k v).jtag = s.jtag := rfl
@[simp] theorem State.setPoly_place (v : PolySt) : (s.setPoly k v).place = s.place := rfl
@[simp] theorem State.setPoly_snap (v : PolySt) : (s.setPoly k v).snap = s.snap := rfl
@[simp] theorem State.setPoly_ring (v : PolySt) (j : Nat) : (s.setPoly k v).ring j = s.ring j := rfl
@[simp] theorem State.setPoly_pll (v : PolySt) (j : Nat) : (s.setPoly k v).pll j = s.pll j := rfl
@[simp] theorem State.setPoly_gear (v : PolySt) (j : Nat) : (s.setPoly k v).gear j = s.gear j := rfl
@[simp] theorem State.setPoly_enc (v : PolySt) (j : Nat) : (s.setPoly k v).enc j = s.enc j := rfl
@[simp] theorem State.setPoly_gpio (v : PolySt) (j : Nat) : (s.setPoly k v).gpio j = s.gpio j := rfl
@[simp] theorem State.setPoly_castle (v : PolySt) (j : Nat) : (s.setPoly k v).castle j = s.castle j := rfl
@[simp] theorem State.setPoly_ticket (v : PolySt) (j : Nat) : (s.setPoly k v).ticket j = s.ticket j := rfl
@[simp] theorem State.setPoly_page (v : PolySt) (j : Nat) : (s.setPoly k v).page j = s.page j := rfl
@[simp] theorem State.setPoly_dma (v : PolySt) (j : Nat) : (s.setPoly k v).dma j = s.dma j := rfl
@[simp] theorem State.setPoly_station (v : PolySt) (j : Nat) : (s.setPoly k v).station j = s.station j := rfl
@[simp] theorem State.setPoly_lane (v : PolySt) (j : Nat) : (s.setPoly k v).lane j = s.lane j := rfl
@[simp] theorem State.setPoly_beam (v : PolySt) (j : Nat) : (s.setPoly k v).beam j = s.beam j := rfl
@[simp] theorem State.setPoly_link (v : PolySt) (j : Nat) : (s.setPoly k v).link j = s.link j := rfl
@[simp] theorem State.setPoly_tile (v : PolySt) (j : Nat) : (s.setPoly k v).tile j = s.tile j := rfl
@[simp] theorem State.setPoly_bus (v : PolySt) (j : Nat) : (s.setPoly k v).bus j = s.bus j := rfl
@[simp] theorem State.setPoly_group (v : PolySt) (j : Nat) : (s.setPoly k v).group j = s.group j := rfl
@[simp] theorem State.setPoly_axis (v : PolySt) (j : Nat) : (s.setPoly k v).axis j = s.axis j := rfl
@[simp] theorem State.setPoly_loop (v : PolySt) (j : Nat) : (s.setPoly k v).loop j = s.loop j := rfl
@[simp] theorem State.setPoly_heat (v : PolySt) (j : Nat) : (s.setPoly k v).heat j = s.heat j := rfl
@[simp] theorem State.setPoly_leg (v : PolySt) (j : Nat) : (s.setPoly k v).leg j = s.leg j := rfl
@[simp] theorem State.setPoly_rail (v : PolySt) (j : Nat) : (s.setPoly k v).rail j = s.rail j := rfl
@[simp] theorem State.setPoly_sensor (v : PolySt) (j : Nat) : (s.setPoly k v).sensor j = s.sensor j := rfl
@[simp] theorem State.setPoly_mem (v : PolySt) (j : Nat) : (s.setPoly k v).mem j = s.mem j := rfl
@[simp] theorem State.setPoly_par (v : PolySt) (c i p : Nat) : (s.setPoly k v).par c i p = s.par c i p := rfl
@[simp] theorem State.updPoly_die (f : PolySt → PolySt) : (s.updPoly k f).die = s.die := rfl
@[simp] theorem State.updPoly_free (f : PolySt → PolySt) : (s.updPoly k f).free = s.free := rfl
@[simp] theorem State.updPoly_pending (f : PolySt → PolySt) : (s.updPoly k f).pending = s.pending := rfl
@[simp] theorem State.updPoly_tempo (f : PolySt → PolySt) : (s.updPoly k f).tempo = s.tempo := rfl
@[simp] theorem State.updPoly_running (f : PolySt → PolySt) : (s.updPoly k f).running = s.running := rfl
@[simp] theorem State.updPoly_follower (f : PolySt → PolySt) : (s.updPoly k f).follower = s.follower := rfl
@[simp] theorem State.updPoly_md (f : PolySt → PolySt) : (s.updPoly k f).md = s.md := rfl
@[simp] theorem State.updPoly_host (f : PolySt → PolySt) : (s.updPoly k f).host = s.host := rfl
@[simp] theorem State.updPoly_faults (f : PolySt → PolySt) : (s.updPoly k f).faults = s.faults := rfl
@[simp] theorem State.updPoly_firstCode (f : PolySt → PolySt) : (s.updPoly k f).firstCode = s.firstCode := rfl
@[simp] theorem State.updPoly_firstTempo (f : PolySt → PolySt) : (s.updPoly k f).firstTempo = s.firstTempo := rfl
@[simp] theorem State.updPoly_thermTrip (f : PolySt → PolySt) : (s.updPoly k f).thermTrip = s.thermTrip := rfl
@[simp] theorem State.updPoly_watchdog (f : PolySt → PolySt) : (s.updPoly k f).watchdog = s.watchdog := rfl
@[simp] theorem State.updPoly_params (f : PolySt → PolySt) : (s.updPoly k f).params = s.params := rfl
@[simp] theorem State.updPoly_removed (f : PolySt → PolySt) : (s.updPoly k f).removed = s.removed := rfl
@[simp] theorem State.updPoly_promotions (f : PolySt → PolySt) : (s.updPoly k f).promotions = s.promotions := rfl
@[simp] theorem State.updPoly_ageNew (f : PolySt → PolySt) : (s.updPoly k f).ageNew = s.ageNew := rfl
@[simp] theorem State.updPoly_aon (f : PolySt → PolySt) : (s.updPoly k f).aon = s.aon := rfl
@[simp] theorem State.updPoly_sheets (f : PolySt → PolySt) : (s.updPoly k f).sheets = s.sheets := rfl
@[simp] theorem State.updPoly_clk (f : PolySt → PolySt) : (s.updPoly k f).clk = s.clk := rfl
@[simp] theorem State.updPoly_store (f : PolySt → PolySt) : (s.updPoly k f).store = s.store := rfl
@[simp] theorem State.updPoly_video (f : PolySt → PolySt) : (s.updPoly k f).video = s.video := rfl
@[simp] theorem State.updPoly_rails (f : PolySt → PolySt) : (s.updPoly k f).rails = s.rails := rfl
@[simp] theorem State.updPoly_therm (f : PolySt → PolySt) : (s.updPoly k f).therm = s.therm := rfl
@[simp] theorem State.updPoly_mems (f : PolySt → PolySt) : (s.updPoly k f).mems = s.mems := rfl
@[simp] theorem State.updPoly_io (f : PolySt → PolySt) : (s.updPoly k f).io = s.io := rfl
@[simp] theorem State.updPoly_out (f : PolySt → PolySt) : (s.updPoly k f).out = s.out := rfl
@[simp] theorem State.updPoly_jtag (f : PolySt → PolySt) : (s.updPoly k f).jtag = s.jtag := rfl
@[simp] theorem State.updPoly_place (f : PolySt → PolySt) : (s.updPoly k f).place = s.place := rfl
@[simp] theorem State.updPoly_snap (f : PolySt → PolySt) : (s.updPoly k f).snap = s.snap := rfl
@[simp] theorem State.updPoly_ring (f : PolySt → PolySt) (j : Nat) : (s.updPoly k f).ring j = s.ring j := rfl
@[simp] theorem State.updPoly_pll (f : PolySt → PolySt) (j : Nat) : (s.updPoly k f).pll j = s.pll j := rfl
@[simp] theorem State.updPoly_gear (f : PolySt → PolySt) (j : Nat) : (s.updPoly k f).gear j = s.gear j := rfl
@[simp] theorem State.updPoly_enc (f : PolySt → PolySt) (j : Nat) : (s.updPoly k f).enc j = s.enc j := rfl
@[simp] theorem State.updPoly_gpio (f : PolySt → PolySt) (j : Nat) : (s.updPoly k f).gpio j = s.gpio j := rfl
@[simp] theorem State.updPoly_castle (f : PolySt → PolySt) (j : Nat) : (s.updPoly k f).castle j = s.castle j := rfl
@[simp] theorem State.updPoly_ticket (f : PolySt → PolySt) (j : Nat) : (s.updPoly k f).ticket j = s.ticket j := rfl
@[simp] theorem State.updPoly_page (f : PolySt → PolySt) (j : Nat) : (s.updPoly k f).page j = s.page j := rfl
@[simp] theorem State.updPoly_dma (f : PolySt → PolySt) (j : Nat) : (s.updPoly k f).dma j = s.dma j := rfl
@[simp] theorem State.updPoly_station (f : PolySt → PolySt) (j : Nat) : (s.updPoly k f).station j = s.station j := rfl
@[simp] theorem State.updPoly_lane (f : PolySt → PolySt) (j : Nat) : (s.updPoly k f).lane j = s.lane j := rfl
@[simp] theorem State.updPoly_beam (f : PolySt → PolySt) (j : Nat) : (s.updPoly k f).beam j = s.beam j := rfl
@[simp] theorem State.updPoly_link (f : PolySt → PolySt) (j : Nat) : (s.updPoly k f).link j = s.link j := rfl
@[simp] theorem State.updPoly_tile (f : PolySt → PolySt) (j : Nat) : (s.updPoly k f).tile j = s.tile j := rfl
@[simp] theorem State.updPoly_bus (f : PolySt → PolySt) (j : Nat) : (s.updPoly k f).bus j = s.bus j := rfl
@[simp] theorem State.updPoly_group (f : PolySt → PolySt) (j : Nat) : (s.updPoly k f).group j = s.group j := rfl
@[simp] theorem State.updPoly_axis (f : PolySt → PolySt) (j : Nat) : (s.updPoly k f).axis j = s.axis j := rfl
@[simp] theorem State.updPoly_loop (f : PolySt → PolySt) (j : Nat) : (s.updPoly k f).loop j = s.loop j := rfl
@[simp] theorem State.updPoly_heat (f : PolySt → PolySt) (j : Nat) : (s.updPoly k f).heat j = s.heat j := rfl
@[simp] theorem State.updPoly_leg (f : PolySt → PolySt) (j : Nat) : (s.updPoly k f).leg j = s.leg j := rfl
@[simp] theorem State.updPoly_rail (f : PolySt → PolySt) (j : Nat) : (s.updPoly k f).rail j = s.rail j := rfl
@[simp] theorem State.updPoly_sensor (f : PolySt → PolySt) (j : Nat) : (s.updPoly k f).sensor j = s.sensor j := rfl
@[simp] theorem State.updPoly_mem (f : PolySt → PolySt) (j : Nat) : (s.updPoly k f).mem j = s.mem j := rfl
@[simp] theorem State.updPoly_par (f : PolySt → PolySt) (c i p : Nat) : (s.updPoly k f).par c i p = s.par c i p := rfl

/-! ### Loop -/

theorem State.updLoop_eq (f : Loop → Loop) : s.updLoop k f = s.setLoop k (f (s.loop k)) := rfl
@[simp] theorem State.setLoop_get (v : Loop) (j : Nat) : (s.setLoop k v).loop j = if j = k then v else s.loop j := Map.get_put _ _ _ _ _
@[simp] theorem State.updLoop_get (f : Loop → Loop) (j : Nat) : (s.updLoop k f).loop j = if j = k then f (s.loop k) else s.loop j := Map.get_put _ _ _ _ _
@[simp] theorem State.setLoop_die (v : Loop) : (s.setLoop k v).die = s.die := rfl
@[simp] theorem State.setLoop_free (v : Loop) : (s.setLoop k v).free = s.free := rfl
@[simp] theorem State.setLoop_pending (v : Loop) : (s.setLoop k v).pending = s.pending := rfl
@[simp] theorem State.setLoop_tempo (v : Loop) : (s.setLoop k v).tempo = s.tempo := rfl
@[simp] theorem State.setLoop_running (v : Loop) : (s.setLoop k v).running = s.running := rfl
@[simp] theorem State.setLoop_follower (v : Loop) : (s.setLoop k v).follower = s.follower := rfl
@[simp] theorem State.setLoop_md (v : Loop) : (s.setLoop k v).md = s.md := rfl
@[simp] theorem State.setLoop_host (v : Loop) : (s.setLoop k v).host = s.host := rfl
@[simp] theorem State.setLoop_faults (v : Loop) : (s.setLoop k v).faults = s.faults := rfl
@[simp] theorem State.setLoop_firstCode (v : Loop) : (s.setLoop k v).firstCode = s.firstCode := rfl
@[simp] theorem State.setLoop_firstTempo (v : Loop) : (s.setLoop k v).firstTempo = s.firstTempo := rfl
@[simp] theorem State.setLoop_thermTrip (v : Loop) : (s.setLoop k v).thermTrip = s.thermTrip := rfl
@[simp] theorem State.setLoop_watchdog (v : Loop) : (s.setLoop k v).watchdog = s.watchdog := rfl
@[simp] theorem State.setLoop_params (v : Loop) : (s.setLoop k v).params = s.params := rfl
@[simp] theorem State.setLoop_removed (v : Loop) : (s.setLoop k v).removed = s.removed := rfl
@[simp] theorem State.setLoop_promotions (v : Loop) : (s.setLoop k v).promotions = s.promotions := rfl
@[simp] theorem State.setLoop_ageNew (v : Loop) : (s.setLoop k v).ageNew = s.ageNew := rfl
@[simp] theorem State.setLoop_aon (v : Loop) : (s.setLoop k v).aon = s.aon := rfl
@[simp] theorem State.setLoop_sheets (v : Loop) : (s.setLoop k v).sheets = s.sheets := rfl
@[simp] theorem State.setLoop_clk (v : Loop) : (s.setLoop k v).clk = s.clk := rfl
@[simp] theorem State.setLoop_store (v : Loop) : (s.setLoop k v).store = s.store := rfl
@[simp] theorem State.setLoop_video (v : Loop) : (s.setLoop k v).video = s.video := rfl
@[simp] theorem State.setLoop_rails (v : Loop) : (s.setLoop k v).rails = s.rails := rfl
@[simp] theorem State.setLoop_therm (v : Loop) : (s.setLoop k v).therm = s.therm := rfl
@[simp] theorem State.setLoop_mems (v : Loop) : (s.setLoop k v).mems = s.mems := rfl
@[simp] theorem State.setLoop_io (v : Loop) : (s.setLoop k v).io = s.io := rfl
@[simp] theorem State.setLoop_out (v : Loop) : (s.setLoop k v).out = s.out := rfl
@[simp] theorem State.setLoop_jtag (v : Loop) : (s.setLoop k v).jtag = s.jtag := rfl
@[simp] theorem State.setLoop_place (v : Loop) : (s.setLoop k v).place = s.place := rfl
@[simp] theorem State.setLoop_snap (v : Loop) : (s.setLoop k v).snap = s.snap := rfl
@[simp] theorem State.setLoop_ring (v : Loop) (j : Nat) : (s.setLoop k v).ring j = s.ring j := rfl
@[simp] theorem State.setLoop_pll (v : Loop) (j : Nat) : (s.setLoop k v).pll j = s.pll j := rfl
@[simp] theorem State.setLoop_gear (v : Loop) (j : Nat) : (s.setLoop k v).gear j = s.gear j := rfl
@[simp] theorem State.setLoop_enc (v : Loop) (j : Nat) : (s.setLoop k v).enc j = s.enc j := rfl
@[simp] theorem State.setLoop_gpio (v : Loop) (j : Nat) : (s.setLoop k v).gpio j = s.gpio j := rfl
@[simp] theorem State.setLoop_castle (v : Loop) (j : Nat) : (s.setLoop k v).castle j = s.castle j := rfl
@[simp] theorem State.setLoop_ticket (v : Loop) (j : Nat) : (s.setLoop k v).ticket j = s.ticket j := rfl
@[simp] theorem State.setLoop_page (v : Loop) (j : Nat) : (s.setLoop k v).page j = s.page j := rfl
@[simp] theorem State.setLoop_dma (v : Loop) (j : Nat) : (s.setLoop k v).dma j = s.dma j := rfl
@[simp] theorem State.setLoop_station (v : Loop) (j : Nat) : (s.setLoop k v).station j = s.station j := rfl
@[simp] theorem State.setLoop_lane (v : Loop) (j : Nat) : (s.setLoop k v).lane j = s.lane j := rfl
@[simp] theorem State.setLoop_beam (v : Loop) (j : Nat) : (s.setLoop k v).beam j = s.beam j := rfl
@[simp] theorem State.setLoop_link (v : Loop) (j : Nat) : (s.setLoop k v).link j = s.link j := rfl
@[simp] theorem State.setLoop_tile (v : Loop) (j : Nat) : (s.setLoop k v).tile j = s.tile j := rfl
@[simp] theorem State.setLoop_bus (v : Loop) (j : Nat) : (s.setLoop k v).bus j = s.bus j := rfl
@[simp] theorem State.setLoop_group (v : Loop) (j : Nat) : (s.setLoop k v).group j = s.group j := rfl
@[simp] theorem State.setLoop_axis (v : Loop) (j : Nat) : (s.setLoop k v).axis j = s.axis j := rfl
@[simp] theorem State.setLoop_poly (v : Loop) (j : Nat) : (s.setLoop k v).poly j = s.poly j := rfl
@[simp] theorem State.setLoop_heat (v : Loop) (j : Nat) : (s.setLoop k v).heat j = s.heat j := rfl
@[simp] theorem State.setLoop_leg (v : Loop) (j : Nat) : (s.setLoop k v).leg j = s.leg j := rfl
@[simp] theorem State.setLoop_rail (v : Loop) (j : Nat) : (s.setLoop k v).rail j = s.rail j := rfl
@[simp] theorem State.setLoop_sensor (v : Loop) (j : Nat) : (s.setLoop k v).sensor j = s.sensor j := rfl
@[simp] theorem State.setLoop_mem (v : Loop) (j : Nat) : (s.setLoop k v).mem j = s.mem j := rfl
@[simp] theorem State.setLoop_par (v : Loop) (c i p : Nat) : (s.setLoop k v).par c i p = s.par c i p := rfl
@[simp] theorem State.updLoop_die (f : Loop → Loop) : (s.updLoop k f).die = s.die := rfl
@[simp] theorem State.updLoop_free (f : Loop → Loop) : (s.updLoop k f).free = s.free := rfl
@[simp] theorem State.updLoop_pending (f : Loop → Loop) : (s.updLoop k f).pending = s.pending := rfl
@[simp] theorem State.updLoop_tempo (f : Loop → Loop) : (s.updLoop k f).tempo = s.tempo := rfl
@[simp] theorem State.updLoop_running (f : Loop → Loop) : (s.updLoop k f).running = s.running := rfl
@[simp] theorem State.updLoop_follower (f : Loop → Loop) : (s.updLoop k f).follower = s.follower := rfl
@[simp] theorem State.updLoop_md (f : Loop → Loop) : (s.updLoop k f).md = s.md := rfl
@[simp] theorem State.updLoop_host (f : Loop → Loop) : (s.updLoop k f).host = s.host := rfl
@[simp] theorem State.updLoop_faults (f : Loop → Loop) : (s.updLoop k f).faults = s.faults := rfl
@[simp] theorem State.updLoop_firstCode (f : Loop → Loop) : (s.updLoop k f).firstCode = s.firstCode := rfl
@[simp] theorem State.updLoop_firstTempo (f : Loop → Loop) : (s.updLoop k f).firstTempo = s.firstTempo := rfl
@[simp] theorem State.updLoop_thermTrip (f : Loop → Loop) : (s.updLoop k f).thermTrip = s.thermTrip := rfl
@[simp] theorem State.updLoop_watchdog (f : Loop → Loop) : (s.updLoop k f).watchdog = s.watchdog := rfl
@[simp] theorem State.updLoop_params (f : Loop → Loop) : (s.updLoop k f).params = s.params := rfl
@[simp] theorem State.updLoop_removed (f : Loop → Loop) : (s.updLoop k f).removed = s.removed := rfl
@[simp] theorem State.updLoop_promotions (f : Loop → Loop) : (s.updLoop k f).promotions = s.promotions := rfl
@[simp] theorem State.updLoop_ageNew (f : Loop → Loop) : (s.updLoop k f).ageNew = s.ageNew := rfl
@[simp] theorem State.updLoop_aon (f : Loop → Loop) : (s.updLoop k f).aon = s.aon := rfl
@[simp] theorem State.updLoop_sheets (f : Loop → Loop) : (s.updLoop k f).sheets = s.sheets := rfl
@[simp] theorem State.updLoop_clk (f : Loop → Loop) : (s.updLoop k f).clk = s.clk := rfl
@[simp] theorem State.updLoop_store (f : Loop → Loop) : (s.updLoop k f).store = s.store := rfl
@[simp] theorem State.updLoop_video (f : Loop → Loop) : (s.updLoop k f).video = s.video := rfl
@[simp] theorem State.updLoop_rails (f : Loop → Loop) : (s.updLoop k f).rails = s.rails := rfl
@[simp] theorem State.updLoop_therm (f : Loop → Loop) : (s.updLoop k f).therm = s.therm := rfl
@[simp] theorem State.updLoop_mems (f : Loop → Loop) : (s.updLoop k f).mems = s.mems := rfl
@[simp] theorem State.updLoop_io (f : Loop → Loop) : (s.updLoop k f).io = s.io := rfl
@[simp] theorem State.updLoop_out (f : Loop → Loop) : (s.updLoop k f).out = s.out := rfl
@[simp] theorem State.updLoop_jtag (f : Loop → Loop) : (s.updLoop k f).jtag = s.jtag := rfl
@[simp] theorem State.updLoop_place (f : Loop → Loop) : (s.updLoop k f).place = s.place := rfl
@[simp] theorem State.updLoop_snap (f : Loop → Loop) : (s.updLoop k f).snap = s.snap := rfl
@[simp] theorem State.updLoop_ring (f : Loop → Loop) (j : Nat) : (s.updLoop k f).ring j = s.ring j := rfl
@[simp] theorem State.updLoop_pll (f : Loop → Loop) (j : Nat) : (s.updLoop k f).pll j = s.pll j := rfl
@[simp] theorem State.updLoop_gear (f : Loop → Loop) (j : Nat) : (s.updLoop k f).gear j = s.gear j := rfl
@[simp] theorem State.updLoop_enc (f : Loop → Loop) (j : Nat) : (s.updLoop k f).enc j = s.enc j := rfl
@[simp] theorem State.updLoop_gpio (f : Loop → Loop) (j : Nat) : (s.updLoop k f).gpio j = s.gpio j := rfl
@[simp] theorem State.updLoop_castle (f : Loop → Loop) (j : Nat) : (s.updLoop k f).castle j = s.castle j := rfl
@[simp] theorem State.updLoop_ticket (f : Loop → Loop) (j : Nat) : (s.updLoop k f).ticket j = s.ticket j := rfl
@[simp] theorem State.updLoop_page (f : Loop → Loop) (j : Nat) : (s.updLoop k f).page j = s.page j := rfl
@[simp] theorem State.updLoop_dma (f : Loop → Loop) (j : Nat) : (s.updLoop k f).dma j = s.dma j := rfl
@[simp] theorem State.updLoop_station (f : Loop → Loop) (j : Nat) : (s.updLoop k f).station j = s.station j := rfl
@[simp] theorem State.updLoop_lane (f : Loop → Loop) (j : Nat) : (s.updLoop k f).lane j = s.lane j := rfl
@[simp] theorem State.updLoop_beam (f : Loop → Loop) (j : Nat) : (s.updLoop k f).beam j = s.beam j := rfl
@[simp] theorem State.updLoop_link (f : Loop → Loop) (j : Nat) : (s.updLoop k f).link j = s.link j := rfl
@[simp] theorem State.updLoop_tile (f : Loop → Loop) (j : Nat) : (s.updLoop k f).tile j = s.tile j := rfl
@[simp] theorem State.updLoop_bus (f : Loop → Loop) (j : Nat) : (s.updLoop k f).bus j = s.bus j := rfl
@[simp] theorem State.updLoop_group (f : Loop → Loop) (j : Nat) : (s.updLoop k f).group j = s.group j := rfl
@[simp] theorem State.updLoop_axis (f : Loop → Loop) (j : Nat) : (s.updLoop k f).axis j = s.axis j := rfl
@[simp] theorem State.updLoop_poly (f : Loop → Loop) (j : Nat) : (s.updLoop k f).poly j = s.poly j := rfl
@[simp] theorem State.updLoop_heat (f : Loop → Loop) (j : Nat) : (s.updLoop k f).heat j = s.heat j := rfl
@[simp] theorem State.updLoop_leg (f : Loop → Loop) (j : Nat) : (s.updLoop k f).leg j = s.leg j := rfl
@[simp] theorem State.updLoop_rail (f : Loop → Loop) (j : Nat) : (s.updLoop k f).rail j = s.rail j := rfl
@[simp] theorem State.updLoop_sensor (f : Loop → Loop) (j : Nat) : (s.updLoop k f).sensor j = s.sensor j := rfl
@[simp] theorem State.updLoop_mem (f : Loop → Loop) (j : Nat) : (s.updLoop k f).mem j = s.mem j := rfl
@[simp] theorem State.updLoop_par (f : Loop → Loop) (c i p : Nat) : (s.updLoop k f).par c i p = s.par c i p := rfl

/-! ### Heat -/

theorem State.updHeat_eq (f : Heat → Heat) : s.updHeat k f = s.setHeat k (f (s.heat k)) := rfl
@[simp] theorem State.setHeat_get (v : Heat) (j : Nat) : (s.setHeat k v).heat j = if j = k then v else s.heat j := Map.get_put _ _ _ _ _
@[simp] theorem State.updHeat_get (f : Heat → Heat) (j : Nat) : (s.updHeat k f).heat j = if j = k then f (s.heat k) else s.heat j := Map.get_put _ _ _ _ _
@[simp] theorem State.setHeat_die (v : Heat) : (s.setHeat k v).die = s.die := rfl
@[simp] theorem State.setHeat_free (v : Heat) : (s.setHeat k v).free = s.free := rfl
@[simp] theorem State.setHeat_pending (v : Heat) : (s.setHeat k v).pending = s.pending := rfl
@[simp] theorem State.setHeat_tempo (v : Heat) : (s.setHeat k v).tempo = s.tempo := rfl
@[simp] theorem State.setHeat_running (v : Heat) : (s.setHeat k v).running = s.running := rfl
@[simp] theorem State.setHeat_follower (v : Heat) : (s.setHeat k v).follower = s.follower := rfl
@[simp] theorem State.setHeat_md (v : Heat) : (s.setHeat k v).md = s.md := rfl
@[simp] theorem State.setHeat_host (v : Heat) : (s.setHeat k v).host = s.host := rfl
@[simp] theorem State.setHeat_faults (v : Heat) : (s.setHeat k v).faults = s.faults := rfl
@[simp] theorem State.setHeat_firstCode (v : Heat) : (s.setHeat k v).firstCode = s.firstCode := rfl
@[simp] theorem State.setHeat_firstTempo (v : Heat) : (s.setHeat k v).firstTempo = s.firstTempo := rfl
@[simp] theorem State.setHeat_thermTrip (v : Heat) : (s.setHeat k v).thermTrip = s.thermTrip := rfl
@[simp] theorem State.setHeat_watchdog (v : Heat) : (s.setHeat k v).watchdog = s.watchdog := rfl
@[simp] theorem State.setHeat_params (v : Heat) : (s.setHeat k v).params = s.params := rfl
@[simp] theorem State.setHeat_removed (v : Heat) : (s.setHeat k v).removed = s.removed := rfl
@[simp] theorem State.setHeat_promotions (v : Heat) : (s.setHeat k v).promotions = s.promotions := rfl
@[simp] theorem State.setHeat_ageNew (v : Heat) : (s.setHeat k v).ageNew = s.ageNew := rfl
@[simp] theorem State.setHeat_aon (v : Heat) : (s.setHeat k v).aon = s.aon := rfl
@[simp] theorem State.setHeat_sheets (v : Heat) : (s.setHeat k v).sheets = s.sheets := rfl
@[simp] theorem State.setHeat_clk (v : Heat) : (s.setHeat k v).clk = s.clk := rfl
@[simp] theorem State.setHeat_store (v : Heat) : (s.setHeat k v).store = s.store := rfl
@[simp] theorem State.setHeat_video (v : Heat) : (s.setHeat k v).video = s.video := rfl
@[simp] theorem State.setHeat_rails (v : Heat) : (s.setHeat k v).rails = s.rails := rfl
@[simp] theorem State.setHeat_therm (v : Heat) : (s.setHeat k v).therm = s.therm := rfl
@[simp] theorem State.setHeat_mems (v : Heat) : (s.setHeat k v).mems = s.mems := rfl
@[simp] theorem State.setHeat_io (v : Heat) : (s.setHeat k v).io = s.io := rfl
@[simp] theorem State.setHeat_out (v : Heat) : (s.setHeat k v).out = s.out := rfl
@[simp] theorem State.setHeat_jtag (v : Heat) : (s.setHeat k v).jtag = s.jtag := rfl
@[simp] theorem State.setHeat_place (v : Heat) : (s.setHeat k v).place = s.place := rfl
@[simp] theorem State.setHeat_snap (v : Heat) : (s.setHeat k v).snap = s.snap := rfl
@[simp] theorem State.setHeat_ring (v : Heat) (j : Nat) : (s.setHeat k v).ring j = s.ring j := rfl
@[simp] theorem State.setHeat_pll (v : Heat) (j : Nat) : (s.setHeat k v).pll j = s.pll j := rfl
@[simp] theorem State.setHeat_gear (v : Heat) (j : Nat) : (s.setHeat k v).gear j = s.gear j := rfl
@[simp] theorem State.setHeat_enc (v : Heat) (j : Nat) : (s.setHeat k v).enc j = s.enc j := rfl
@[simp] theorem State.setHeat_gpio (v : Heat) (j : Nat) : (s.setHeat k v).gpio j = s.gpio j := rfl
@[simp] theorem State.setHeat_castle (v : Heat) (j : Nat) : (s.setHeat k v).castle j = s.castle j := rfl
@[simp] theorem State.setHeat_ticket (v : Heat) (j : Nat) : (s.setHeat k v).ticket j = s.ticket j := rfl
@[simp] theorem State.setHeat_page (v : Heat) (j : Nat) : (s.setHeat k v).page j = s.page j := rfl
@[simp] theorem State.setHeat_dma (v : Heat) (j : Nat) : (s.setHeat k v).dma j = s.dma j := rfl
@[simp] theorem State.setHeat_station (v : Heat) (j : Nat) : (s.setHeat k v).station j = s.station j := rfl
@[simp] theorem State.setHeat_lane (v : Heat) (j : Nat) : (s.setHeat k v).lane j = s.lane j := rfl
@[simp] theorem State.setHeat_beam (v : Heat) (j : Nat) : (s.setHeat k v).beam j = s.beam j := rfl
@[simp] theorem State.setHeat_link (v : Heat) (j : Nat) : (s.setHeat k v).link j = s.link j := rfl
@[simp] theorem State.setHeat_tile (v : Heat) (j : Nat) : (s.setHeat k v).tile j = s.tile j := rfl
@[simp] theorem State.setHeat_bus (v : Heat) (j : Nat) : (s.setHeat k v).bus j = s.bus j := rfl
@[simp] theorem State.setHeat_group (v : Heat) (j : Nat) : (s.setHeat k v).group j = s.group j := rfl
@[simp] theorem State.setHeat_axis (v : Heat) (j : Nat) : (s.setHeat k v).axis j = s.axis j := rfl
@[simp] theorem State.setHeat_poly (v : Heat) (j : Nat) : (s.setHeat k v).poly j = s.poly j := rfl
@[simp] theorem State.setHeat_loop (v : Heat) (j : Nat) : (s.setHeat k v).loop j = s.loop j := rfl
@[simp] theorem State.setHeat_leg (v : Heat) (j : Nat) : (s.setHeat k v).leg j = s.leg j := rfl
@[simp] theorem State.setHeat_rail (v : Heat) (j : Nat) : (s.setHeat k v).rail j = s.rail j := rfl
@[simp] theorem State.setHeat_sensor (v : Heat) (j : Nat) : (s.setHeat k v).sensor j = s.sensor j := rfl
@[simp] theorem State.setHeat_mem (v : Heat) (j : Nat) : (s.setHeat k v).mem j = s.mem j := rfl
@[simp] theorem State.setHeat_par (v : Heat) (c i p : Nat) : (s.setHeat k v).par c i p = s.par c i p := rfl
@[simp] theorem State.updHeat_die (f : Heat → Heat) : (s.updHeat k f).die = s.die := rfl
@[simp] theorem State.updHeat_free (f : Heat → Heat) : (s.updHeat k f).free = s.free := rfl
@[simp] theorem State.updHeat_pending (f : Heat → Heat) : (s.updHeat k f).pending = s.pending := rfl
@[simp] theorem State.updHeat_tempo (f : Heat → Heat) : (s.updHeat k f).tempo = s.tempo := rfl
@[simp] theorem State.updHeat_running (f : Heat → Heat) : (s.updHeat k f).running = s.running := rfl
@[simp] theorem State.updHeat_follower (f : Heat → Heat) : (s.updHeat k f).follower = s.follower := rfl
@[simp] theorem State.updHeat_md (f : Heat → Heat) : (s.updHeat k f).md = s.md := rfl
@[simp] theorem State.updHeat_host (f : Heat → Heat) : (s.updHeat k f).host = s.host := rfl
@[simp] theorem State.updHeat_faults (f : Heat → Heat) : (s.updHeat k f).faults = s.faults := rfl
@[simp] theorem State.updHeat_firstCode (f : Heat → Heat) : (s.updHeat k f).firstCode = s.firstCode := rfl
@[simp] theorem State.updHeat_firstTempo (f : Heat → Heat) : (s.updHeat k f).firstTempo = s.firstTempo := rfl
@[simp] theorem State.updHeat_thermTrip (f : Heat → Heat) : (s.updHeat k f).thermTrip = s.thermTrip := rfl
@[simp] theorem State.updHeat_watchdog (f : Heat → Heat) : (s.updHeat k f).watchdog = s.watchdog := rfl
@[simp] theorem State.updHeat_params (f : Heat → Heat) : (s.updHeat k f).params = s.params := rfl
@[simp] theorem State.updHeat_removed (f : Heat → Heat) : (s.updHeat k f).removed = s.removed := rfl
@[simp] theorem State.updHeat_promotions (f : Heat → Heat) : (s.updHeat k f).promotions = s.promotions := rfl
@[simp] theorem State.updHeat_ageNew (f : Heat → Heat) : (s.updHeat k f).ageNew = s.ageNew := rfl
@[simp] theorem State.updHeat_aon (f : Heat → Heat) : (s.updHeat k f).aon = s.aon := rfl
@[simp] theorem State.updHeat_sheets (f : Heat → Heat) : (s.updHeat k f).sheets = s.sheets := rfl
@[simp] theorem State.updHeat_clk (f : Heat → Heat) : (s.updHeat k f).clk = s.clk := rfl
@[simp] theorem State.updHeat_store (f : Heat → Heat) : (s.updHeat k f).store = s.store := rfl
@[simp] theorem State.updHeat_video (f : Heat → Heat) : (s.updHeat k f).video = s.video := rfl
@[simp] theorem State.updHeat_rails (f : Heat → Heat) : (s.updHeat k f).rails = s.rails := rfl
@[simp] theorem State.updHeat_therm (f : Heat → Heat) : (s.updHeat k f).therm = s.therm := rfl
@[simp] theorem State.updHeat_mems (f : Heat → Heat) : (s.updHeat k f).mems = s.mems := rfl
@[simp] theorem State.updHeat_io (f : Heat → Heat) : (s.updHeat k f).io = s.io := rfl
@[simp] theorem State.updHeat_out (f : Heat → Heat) : (s.updHeat k f).out = s.out := rfl
@[simp] theorem State.updHeat_jtag (f : Heat → Heat) : (s.updHeat k f).jtag = s.jtag := rfl
@[simp] theorem State.updHeat_place (f : Heat → Heat) : (s.updHeat k f).place = s.place := rfl
@[simp] theorem State.updHeat_snap (f : Heat → Heat) : (s.updHeat k f).snap = s.snap := rfl
@[simp] theorem State.updHeat_ring (f : Heat → Heat) (j : Nat) : (s.updHeat k f).ring j = s.ring j := rfl
@[simp] theorem State.updHeat_pll (f : Heat → Heat) (j : Nat) : (s.updHeat k f).pll j = s.pll j := rfl
@[simp] theorem State.updHeat_gear (f : Heat → Heat) (j : Nat) : (s.updHeat k f).gear j = s.gear j := rfl
@[simp] theorem State.updHeat_enc (f : Heat → Heat) (j : Nat) : (s.updHeat k f).enc j = s.enc j := rfl
@[simp] theorem State.updHeat_gpio (f : Heat → Heat) (j : Nat) : (s.updHeat k f).gpio j = s.gpio j := rfl
@[simp] theorem State.updHeat_castle (f : Heat → Heat) (j : Nat) : (s.updHeat k f).castle j = s.castle j := rfl
@[simp] theorem State.updHeat_ticket (f : Heat → Heat) (j : Nat) : (s.updHeat k f).ticket j = s.ticket j := rfl
@[simp] theorem State.updHeat_page (f : Heat → Heat) (j : Nat) : (s.updHeat k f).page j = s.page j := rfl
@[simp] theorem State.updHeat_dma (f : Heat → Heat) (j : Nat) : (s.updHeat k f).dma j = s.dma j := rfl
@[simp] theorem State.updHeat_station (f : Heat → Heat) (j : Nat) : (s.updHeat k f).station j = s.station j := rfl
@[simp] theorem State.updHeat_lane (f : Heat → Heat) (j : Nat) : (s.updHeat k f).lane j = s.lane j := rfl
@[simp] theorem State.updHeat_beam (f : Heat → Heat) (j : Nat) : (s.updHeat k f).beam j = s.beam j := rfl
@[simp] theorem State.updHeat_link (f : Heat → Heat) (j : Nat) : (s.updHeat k f).link j = s.link j := rfl
@[simp] theorem State.updHeat_tile (f : Heat → Heat) (j : Nat) : (s.updHeat k f).tile j = s.tile j := rfl
@[simp] theorem State.updHeat_bus (f : Heat → Heat) (j : Nat) : (s.updHeat k f).bus j = s.bus j := rfl
@[simp] theorem State.updHeat_group (f : Heat → Heat) (j : Nat) : (s.updHeat k f).group j = s.group j := rfl
@[simp] theorem State.updHeat_axis (f : Heat → Heat) (j : Nat) : (s.updHeat k f).axis j = s.axis j := rfl
@[simp] theorem State.updHeat_poly (f : Heat → Heat) (j : Nat) : (s.updHeat k f).poly j = s.poly j := rfl
@[simp] theorem State.updHeat_loop (f : Heat → Heat) (j : Nat) : (s.updHeat k f).loop j = s.loop j := rfl
@[simp] theorem State.updHeat_leg (f : Heat → Heat) (j : Nat) : (s.updHeat k f).leg j = s.leg j := rfl
@[simp] theorem State.updHeat_rail (f : Heat → Heat) (j : Nat) : (s.updHeat k f).rail j = s.rail j := rfl
@[simp] theorem State.updHeat_sensor (f : Heat → Heat) (j : Nat) : (s.updHeat k f).sensor j = s.sensor j := rfl
@[simp] theorem State.updHeat_mem (f : Heat → Heat) (j : Nat) : (s.updHeat k f).mem j = s.mem j := rfl
@[simp] theorem State.updHeat_par (f : Heat → Heat) (c i p : Nat) : (s.updHeat k f).par c i p = s.par c i p := rfl

/-! ### Leg -/

theorem State.updLeg_eq (f : HvLeg → HvLeg) : s.updLeg k f = s.setLeg k (f (s.leg k)) := rfl
@[simp] theorem State.setLeg_get (v : HvLeg) (j : Nat) : (s.setLeg k v).leg j = if j = k then v else s.leg j := Map.get_put _ _ _ _ _
@[simp] theorem State.updLeg_get (f : HvLeg → HvLeg) (j : Nat) : (s.updLeg k f).leg j = if j = k then f (s.leg k) else s.leg j := Map.get_put _ _ _ _ _
@[simp] theorem State.setLeg_die (v : HvLeg) : (s.setLeg k v).die = s.die := rfl
@[simp] theorem State.setLeg_free (v : HvLeg) : (s.setLeg k v).free = s.free := rfl
@[simp] theorem State.setLeg_pending (v : HvLeg) : (s.setLeg k v).pending = s.pending := rfl
@[simp] theorem State.setLeg_tempo (v : HvLeg) : (s.setLeg k v).tempo = s.tempo := rfl
@[simp] theorem State.setLeg_running (v : HvLeg) : (s.setLeg k v).running = s.running := rfl
@[simp] theorem State.setLeg_follower (v : HvLeg) : (s.setLeg k v).follower = s.follower := rfl
@[simp] theorem State.setLeg_md (v : HvLeg) : (s.setLeg k v).md = s.md := rfl
@[simp] theorem State.setLeg_host (v : HvLeg) : (s.setLeg k v).host = s.host := rfl
@[simp] theorem State.setLeg_faults (v : HvLeg) : (s.setLeg k v).faults = s.faults := rfl
@[simp] theorem State.setLeg_firstCode (v : HvLeg) : (s.setLeg k v).firstCode = s.firstCode := rfl
@[simp] theorem State.setLeg_firstTempo (v : HvLeg) : (s.setLeg k v).firstTempo = s.firstTempo := rfl
@[simp] theorem State.setLeg_thermTrip (v : HvLeg) : (s.setLeg k v).thermTrip = s.thermTrip := rfl
@[simp] theorem State.setLeg_watchdog (v : HvLeg) : (s.setLeg k v).watchdog = s.watchdog := rfl
@[simp] theorem State.setLeg_params (v : HvLeg) : (s.setLeg k v).params = s.params := rfl
@[simp] theorem State.setLeg_removed (v : HvLeg) : (s.setLeg k v).removed = s.removed := rfl
@[simp] theorem State.setLeg_promotions (v : HvLeg) : (s.setLeg k v).promotions = s.promotions := rfl
@[simp] theorem State.setLeg_ageNew (v : HvLeg) : (s.setLeg k v).ageNew = s.ageNew := rfl
@[simp] theorem State.setLeg_aon (v : HvLeg) : (s.setLeg k v).aon = s.aon := rfl
@[simp] theorem State.setLeg_sheets (v : HvLeg) : (s.setLeg k v).sheets = s.sheets := rfl
@[simp] theorem State.setLeg_clk (v : HvLeg) : (s.setLeg k v).clk = s.clk := rfl
@[simp] theorem State.setLeg_store (v : HvLeg) : (s.setLeg k v).store = s.store := rfl
@[simp] theorem State.setLeg_video (v : HvLeg) : (s.setLeg k v).video = s.video := rfl
@[simp] theorem State.setLeg_rails (v : HvLeg) : (s.setLeg k v).rails = s.rails := rfl
@[simp] theorem State.setLeg_therm (v : HvLeg) : (s.setLeg k v).therm = s.therm := rfl
@[simp] theorem State.setLeg_mems (v : HvLeg) : (s.setLeg k v).mems = s.mems := rfl
@[simp] theorem State.setLeg_io (v : HvLeg) : (s.setLeg k v).io = s.io := rfl
@[simp] theorem State.setLeg_out (v : HvLeg) : (s.setLeg k v).out = s.out := rfl
@[simp] theorem State.setLeg_jtag (v : HvLeg) : (s.setLeg k v).jtag = s.jtag := rfl
@[simp] theorem State.setLeg_place (v : HvLeg) : (s.setLeg k v).place = s.place := rfl
@[simp] theorem State.setLeg_snap (v : HvLeg) : (s.setLeg k v).snap = s.snap := rfl
@[simp] theorem State.setLeg_ring (v : HvLeg) (j : Nat) : (s.setLeg k v).ring j = s.ring j := rfl
@[simp] theorem State.setLeg_pll (v : HvLeg) (j : Nat) : (s.setLeg k v).pll j = s.pll j := rfl
@[simp] theorem State.setLeg_gear (v : HvLeg) (j : Nat) : (s.setLeg k v).gear j = s.gear j := rfl
@[simp] theorem State.setLeg_enc (v : HvLeg) (j : Nat) : (s.setLeg k v).enc j = s.enc j := rfl
@[simp] theorem State.setLeg_gpio (v : HvLeg) (j : Nat) : (s.setLeg k v).gpio j = s.gpio j := rfl
@[simp] theorem State.setLeg_castle (v : HvLeg) (j : Nat) : (s.setLeg k v).castle j = s.castle j := rfl
@[simp] theorem State.setLeg_ticket (v : HvLeg) (j : Nat) : (s.setLeg k v).ticket j = s.ticket j := rfl
@[simp] theorem State.setLeg_page (v : HvLeg) (j : Nat) : (s.setLeg k v).page j = s.page j := rfl
@[simp] theorem State.setLeg_dma (v : HvLeg) (j : Nat) : (s.setLeg k v).dma j = s.dma j := rfl
@[simp] theorem State.setLeg_station (v : HvLeg) (j : Nat) : (s.setLeg k v).station j = s.station j := rfl
@[simp] theorem State.setLeg_lane (v : HvLeg) (j : Nat) : (s.setLeg k v).lane j = s.lane j := rfl
@[simp] theorem State.setLeg_beam (v : HvLeg) (j : Nat) : (s.setLeg k v).beam j = s.beam j := rfl
@[simp] theorem State.setLeg_link (v : HvLeg) (j : Nat) : (s.setLeg k v).link j = s.link j := rfl
@[simp] theorem State.setLeg_tile (v : HvLeg) (j : Nat) : (s.setLeg k v).tile j = s.tile j := rfl
@[simp] theorem State.setLeg_bus (v : HvLeg) (j : Nat) : (s.setLeg k v).bus j = s.bus j := rfl
@[simp] theorem State.setLeg_group (v : HvLeg) (j : Nat) : (s.setLeg k v).group j = s.group j := rfl
@[simp] theorem State.setLeg_axis (v : HvLeg) (j : Nat) : (s.setLeg k v).axis j = s.axis j := rfl
@[simp] theorem State.setLeg_poly (v : HvLeg) (j : Nat) : (s.setLeg k v).poly j = s.poly j := rfl
@[simp] theorem State.setLeg_loop (v : HvLeg) (j : Nat) : (s.setLeg k v).loop j = s.loop j := rfl
@[simp] theorem State.setLeg_heat (v : HvLeg) (j : Nat) : (s.setLeg k v).heat j = s.heat j := rfl
@[simp] theorem State.setLeg_rail (v : HvLeg) (j : Nat) : (s.setLeg k v).rail j = s.rail j := rfl
@[simp] theorem State.setLeg_sensor (v : HvLeg) (j : Nat) : (s.setLeg k v).sensor j = s.sensor j := rfl
@[simp] theorem State.setLeg_mem (v : HvLeg) (j : Nat) : (s.setLeg k v).mem j = s.mem j := rfl
@[simp] theorem State.setLeg_par (v : HvLeg) (c i p : Nat) : (s.setLeg k v).par c i p = s.par c i p := rfl
@[simp] theorem State.updLeg_die (f : HvLeg → HvLeg) : (s.updLeg k f).die = s.die := rfl
@[simp] theorem State.updLeg_free (f : HvLeg → HvLeg) : (s.updLeg k f).free = s.free := rfl
@[simp] theorem State.updLeg_pending (f : HvLeg → HvLeg) : (s.updLeg k f).pending = s.pending := rfl
@[simp] theorem State.updLeg_tempo (f : HvLeg → HvLeg) : (s.updLeg k f).tempo = s.tempo := rfl
@[simp] theorem State.updLeg_running (f : HvLeg → HvLeg) : (s.updLeg k f).running = s.running := rfl
@[simp] theorem State.updLeg_follower (f : HvLeg → HvLeg) : (s.updLeg k f).follower = s.follower := rfl
@[simp] theorem State.updLeg_md (f : HvLeg → HvLeg) : (s.updLeg k f).md = s.md := rfl
@[simp] theorem State.updLeg_host (f : HvLeg → HvLeg) : (s.updLeg k f).host = s.host := rfl
@[simp] theorem State.updLeg_faults (f : HvLeg → HvLeg) : (s.updLeg k f).faults = s.faults := rfl
@[simp] theorem State.updLeg_firstCode (f : HvLeg → HvLeg) : (s.updLeg k f).firstCode = s.firstCode := rfl
@[simp] theorem State.updLeg_firstTempo (f : HvLeg → HvLeg) : (s.updLeg k f).firstTempo = s.firstTempo := rfl
@[simp] theorem State.updLeg_thermTrip (f : HvLeg → HvLeg) : (s.updLeg k f).thermTrip = s.thermTrip := rfl
@[simp] theorem State.updLeg_watchdog (f : HvLeg → HvLeg) : (s.updLeg k f).watchdog = s.watchdog := rfl
@[simp] theorem State.updLeg_params (f : HvLeg → HvLeg) : (s.updLeg k f).params = s.params := rfl
@[simp] theorem State.updLeg_removed (f : HvLeg → HvLeg) : (s.updLeg k f).removed = s.removed := rfl
@[simp] theorem State.updLeg_promotions (f : HvLeg → HvLeg) : (s.updLeg k f).promotions = s.promotions := rfl
@[simp] theorem State.updLeg_ageNew (f : HvLeg → HvLeg) : (s.updLeg k f).ageNew = s.ageNew := rfl
@[simp] theorem State.updLeg_aon (f : HvLeg → HvLeg) : (s.updLeg k f).aon = s.aon := rfl
@[simp] theorem State.updLeg_sheets (f : HvLeg → HvLeg) : (s.updLeg k f).sheets = s.sheets := rfl
@[simp] theorem State.updLeg_clk (f : HvLeg → HvLeg) : (s.updLeg k f).clk = s.clk := rfl
@[simp] theorem State.updLeg_store (f : HvLeg → HvLeg) : (s.updLeg k f).store = s.store := rfl
@[simp] theorem State.updLeg_video (f : HvLeg → HvLeg) : (s.updLeg k f).video = s.video := rfl
@[simp] theorem State.updLeg_rails (f : HvLeg → HvLeg) : (s.updLeg k f).rails = s.rails := rfl
@[simp] theorem State.updLeg_therm (f : HvLeg → HvLeg) : (s.updLeg k f).therm = s.therm := rfl
@[simp] theorem State.updLeg_mems (f : HvLeg → HvLeg) : (s.updLeg k f).mems = s.mems := rfl
@[simp] theorem State.updLeg_io (f : HvLeg → HvLeg) : (s.updLeg k f).io = s.io := rfl
@[simp] theorem State.updLeg_out (f : HvLeg → HvLeg) : (s.updLeg k f).out = s.out := rfl
@[simp] theorem State.updLeg_jtag (f : HvLeg → HvLeg) : (s.updLeg k f).jtag = s.jtag := rfl
@[simp] theorem State.updLeg_place (f : HvLeg → HvLeg) : (s.updLeg k f).place = s.place := rfl
@[simp] theorem State.updLeg_snap (f : HvLeg → HvLeg) : (s.updLeg k f).snap = s.snap := rfl
@[simp] theorem State.updLeg_ring (f : HvLeg → HvLeg) (j : Nat) : (s.updLeg k f).ring j = s.ring j := rfl
@[simp] theorem State.updLeg_pll (f : HvLeg → HvLeg) (j : Nat) : (s.updLeg k f).pll j = s.pll j := rfl
@[simp] theorem State.updLeg_gear (f : HvLeg → HvLeg) (j : Nat) : (s.updLeg k f).gear j = s.gear j := rfl
@[simp] theorem State.updLeg_enc (f : HvLeg → HvLeg) (j : Nat) : (s.updLeg k f).enc j = s.enc j := rfl
@[simp] theorem State.updLeg_gpio (f : HvLeg → HvLeg) (j : Nat) : (s.updLeg k f).gpio j = s.gpio j := rfl
@[simp] theorem State.updLeg_castle (f : HvLeg → HvLeg) (j : Nat) : (s.updLeg k f).castle j = s.castle j := rfl
@[simp] theorem State.updLeg_ticket (f : HvLeg → HvLeg) (j : Nat) : (s.updLeg k f).ticket j = s.ticket j := rfl
@[simp] theorem State.updLeg_page (f : HvLeg → HvLeg) (j : Nat) : (s.updLeg k f).page j = s.page j := rfl
@[simp] theorem State.updLeg_dma (f : HvLeg → HvLeg) (j : Nat) : (s.updLeg k f).dma j = s.dma j := rfl
@[simp] theorem State.updLeg_station (f : HvLeg → HvLeg) (j : Nat) : (s.updLeg k f).station j = s.station j := rfl
@[simp] theorem State.updLeg_lane (f : HvLeg → HvLeg) (j : Nat) : (s.updLeg k f).lane j = s.lane j := rfl
@[simp] theorem State.updLeg_beam (f : HvLeg → HvLeg) (j : Nat) : (s.updLeg k f).beam j = s.beam j := rfl
@[simp] theorem State.updLeg_link (f : HvLeg → HvLeg) (j : Nat) : (s.updLeg k f).link j = s.link j := rfl
@[simp] theorem State.updLeg_tile (f : HvLeg → HvLeg) (j : Nat) : (s.updLeg k f).tile j = s.tile j := rfl
@[simp] theorem State.updLeg_bus (f : HvLeg → HvLeg) (j : Nat) : (s.updLeg k f).bus j = s.bus j := rfl
@[simp] theorem State.updLeg_group (f : HvLeg → HvLeg) (j : Nat) : (s.updLeg k f).group j = s.group j := rfl
@[simp] theorem State.updLeg_axis (f : HvLeg → HvLeg) (j : Nat) : (s.updLeg k f).axis j = s.axis j := rfl
@[simp] theorem State.updLeg_poly (f : HvLeg → HvLeg) (j : Nat) : (s.updLeg k f).poly j = s.poly j := rfl
@[simp] theorem State.updLeg_loop (f : HvLeg → HvLeg) (j : Nat) : (s.updLeg k f).loop j = s.loop j := rfl
@[simp] theorem State.updLeg_heat (f : HvLeg → HvLeg) (j : Nat) : (s.updLeg k f).heat j = s.heat j := rfl
@[simp] theorem State.updLeg_rail (f : HvLeg → HvLeg) (j : Nat) : (s.updLeg k f).rail j = s.rail j := rfl
@[simp] theorem State.updLeg_sensor (f : HvLeg → HvLeg) (j : Nat) : (s.updLeg k f).sensor j = s.sensor j := rfl
@[simp] theorem State.updLeg_mem (f : HvLeg → HvLeg) (j : Nat) : (s.updLeg k f).mem j = s.mem j := rfl
@[simp] theorem State.updLeg_par (f : HvLeg → HvLeg) (c i p : Nat) : (s.updLeg k f).par c i p = s.par c i p := rfl

/-! ### Rail -/

theorem State.updRail_eq (f : Rail → Rail) : s.updRail k f = s.setRail k (f (s.rail k)) := rfl
@[simp] theorem State.setRail_get (v : Rail) (j : Nat) : (s.setRail k v).rail j = if j = k then v else s.rail j := Map.get_put _ _ _ _ _
@[simp] theorem State.updRail_get (f : Rail → Rail) (j : Nat) : (s.updRail k f).rail j = if j = k then f (s.rail k) else s.rail j := Map.get_put _ _ _ _ _
@[simp] theorem State.setRail_die (v : Rail) : (s.setRail k v).die = s.die := rfl
@[simp] theorem State.setRail_free (v : Rail) : (s.setRail k v).free = s.free := rfl
@[simp] theorem State.setRail_pending (v : Rail) : (s.setRail k v).pending = s.pending := rfl
@[simp] theorem State.setRail_tempo (v : Rail) : (s.setRail k v).tempo = s.tempo := rfl
@[simp] theorem State.setRail_running (v : Rail) : (s.setRail k v).running = s.running := rfl
@[simp] theorem State.setRail_follower (v : Rail) : (s.setRail k v).follower = s.follower := rfl
@[simp] theorem State.setRail_md (v : Rail) : (s.setRail k v).md = s.md := rfl
@[simp] theorem State.setRail_host (v : Rail) : (s.setRail k v).host = s.host := rfl
@[simp] theorem State.setRail_faults (v : Rail) : (s.setRail k v).faults = s.faults := rfl
@[simp] theorem State.setRail_firstCode (v : Rail) : (s.setRail k v).firstCode = s.firstCode := rfl
@[simp] theorem State.setRail_firstTempo (v : Rail) : (s.setRail k v).firstTempo = s.firstTempo := rfl
@[simp] theorem State.setRail_thermTrip (v : Rail) : (s.setRail k v).thermTrip = s.thermTrip := rfl
@[simp] theorem State.setRail_watchdog (v : Rail) : (s.setRail k v).watchdog = s.watchdog := rfl
@[simp] theorem State.setRail_params (v : Rail) : (s.setRail k v).params = s.params := rfl
@[simp] theorem State.setRail_removed (v : Rail) : (s.setRail k v).removed = s.removed := rfl
@[simp] theorem State.setRail_promotions (v : Rail) : (s.setRail k v).promotions = s.promotions := rfl
@[simp] theorem State.setRail_ageNew (v : Rail) : (s.setRail k v).ageNew = s.ageNew := rfl
@[simp] theorem State.setRail_aon (v : Rail) : (s.setRail k v).aon = s.aon := rfl
@[simp] theorem State.setRail_sheets (v : Rail) : (s.setRail k v).sheets = s.sheets := rfl
@[simp] theorem State.setRail_clk (v : Rail) : (s.setRail k v).clk = s.clk := rfl
@[simp] theorem State.setRail_store (v : Rail) : (s.setRail k v).store = s.store := rfl
@[simp] theorem State.setRail_video (v : Rail) : (s.setRail k v).video = s.video := rfl
@[simp] theorem State.setRail_drive (v : Rail) : (s.setRail k v).drive = s.drive := rfl
@[simp] theorem State.setRail_therm (v : Rail) : (s.setRail k v).therm = s.therm := rfl
@[simp] theorem State.setRail_mems (v : Rail) : (s.setRail k v).mems = s.mems := rfl
@[simp] theorem State.setRail_io (v : Rail) : (s.setRail k v).io = s.io := rfl
@[simp] theorem State.setRail_out (v : Rail) : (s.setRail k v).out = s.out := rfl
@[simp] theorem State.setRail_jtag (v : Rail) : (s.setRail k v).jtag = s.jtag := rfl
@[simp] theorem State.setRail_place (v : Rail) : (s.setRail k v).place = s.place := rfl
@[simp] theorem State.setRail_snap (v : Rail) : (s.setRail k v).snap = s.snap := rfl
@[simp] theorem State.setRail_ring (v : Rail) (j : Nat) : (s.setRail k v).ring j = s.ring j := rfl
@[simp] theorem State.setRail_pll (v : Rail) (j : Nat) : (s.setRail k v).pll j = s.pll j := rfl
@[simp] theorem State.setRail_gear (v : Rail) (j : Nat) : (s.setRail k v).gear j = s.gear j := rfl
@[simp] theorem State.setRail_enc (v : Rail) (j : Nat) : (s.setRail k v).enc j = s.enc j := rfl
@[simp] theorem State.setRail_gpio (v : Rail) (j : Nat) : (s.setRail k v).gpio j = s.gpio j := rfl
@[simp] theorem State.setRail_castle (v : Rail) (j : Nat) : (s.setRail k v).castle j = s.castle j := rfl
@[simp] theorem State.setRail_ticket (v : Rail) (j : Nat) : (s.setRail k v).ticket j = s.ticket j := rfl
@[simp] theorem State.setRail_page (v : Rail) (j : Nat) : (s.setRail k v).page j = s.page j := rfl
@[simp] theorem State.setRail_dma (v : Rail) (j : Nat) : (s.setRail k v).dma j = s.dma j := rfl
@[simp] theorem State.setRail_station (v : Rail) (j : Nat) : (s.setRail k v).station j = s.station j := rfl
@[simp] theorem State.setRail_lane (v : Rail) (j : Nat) : (s.setRail k v).lane j = s.lane j := rfl
@[simp] theorem State.setRail_beam (v : Rail) (j : Nat) : (s.setRail k v).beam j = s.beam j := rfl
@[simp] theorem State.setRail_link (v : Rail) (j : Nat) : (s.setRail k v).link j = s.link j := rfl
@[simp] theorem State.setRail_tile (v : Rail) (j : Nat) : (s.setRail k v).tile j = s.tile j := rfl
@[simp] theorem State.setRail_bus (v : Rail) (j : Nat) : (s.setRail k v).bus j = s.bus j := rfl
@[simp] theorem State.setRail_group (v : Rail) (j : Nat) : (s.setRail k v).group j = s.group j := rfl
@[simp] theorem State.setRail_axis (v : Rail) (j : Nat) : (s.setRail k v).axis j = s.axis j := rfl
@[simp] theorem State.setRail_poly (v : Rail) (j : Nat) : (s.setRail k v).poly j = s.poly j := rfl
@[simp] theorem State.setRail_loop (v : Rail) (j : Nat) : (s.setRail k v).loop j = s.loop j := rfl
@[simp] theorem State.setRail_heat (v : Rail) (j : Nat) : (s.setRail k v).heat j = s.heat j := rfl
@[simp] theorem State.setRail_leg (v : Rail) (j : Nat) : (s.setRail k v).leg j = s.leg j := rfl
@[simp] theorem State.setRail_sensor (v : Rail) (j : Nat) : (s.setRail k v).sensor j = s.sensor j := rfl
@[simp] theorem State.setRail_mem (v : Rail) (j : Nat) : (s.setRail k v).mem j = s.mem j := rfl
@[simp] theorem State.setRail_par (v : Rail) (c i p : Nat) : (s.setRail k v).par c i p = s.par c i p := rfl
@[simp] theorem State.updRail_die (f : Rail → Rail) : (s.updRail k f).die = s.die := rfl
@[simp] theorem State.updRail_free (f : Rail → Rail) : (s.updRail k f).free = s.free := rfl
@[simp] theorem State.updRail_pending (f : Rail → Rail) : (s.updRail k f).pending = s.pending := rfl
@[simp] theorem State.updRail_tempo (f : Rail → Rail) : (s.updRail k f).tempo = s.tempo := rfl
@[simp] theorem State.updRail_running (f : Rail → Rail) : (s.updRail k f).running = s.running := rfl
@[simp] theorem State.updRail_follower (f : Rail → Rail) : (s.updRail k f).follower = s.follower := rfl
@[simp] theorem State.updRail_md (f : Rail → Rail) : (s.updRail k f).md = s.md := rfl
@[simp] theorem State.updRail_host (f : Rail → Rail) : (s.updRail k f).host = s.host := rfl
@[simp] theorem State.updRail_faults (f : Rail → Rail) : (s.updRail k f).faults = s.faults := rfl
@[simp] theorem State.updRail_firstCode (f : Rail → Rail) : (s.updRail k f).firstCode = s.firstCode := rfl
@[simp] theorem State.updRail_firstTempo (f : Rail → Rail) : (s.updRail k f).firstTempo = s.firstTempo := rfl
@[simp] theorem State.updRail_thermTrip (f : Rail → Rail) : (s.updRail k f).thermTrip = s.thermTrip := rfl
@[simp] theorem State.updRail_watchdog (f : Rail → Rail) : (s.updRail k f).watchdog = s.watchdog := rfl
@[simp] theorem State.updRail_params (f : Rail → Rail) : (s.updRail k f).params = s.params := rfl
@[simp] theorem State.updRail_removed (f : Rail → Rail) : (s.updRail k f).removed = s.removed := rfl
@[simp] theorem State.updRail_promotions (f : Rail → Rail) : (s.updRail k f).promotions = s.promotions := rfl
@[simp] theorem State.updRail_ageNew (f : Rail → Rail) : (s.updRail k f).ageNew = s.ageNew := rfl
@[simp] theorem State.updRail_aon (f : Rail → Rail) : (s.updRail k f).aon = s.aon := rfl
@[simp] theorem State.updRail_sheets (f : Rail → Rail) : (s.updRail k f).sheets = s.sheets := rfl
@[simp] theorem State.updRail_clk (f : Rail → Rail) : (s.updRail k f).clk = s.clk := rfl
@[simp] theorem State.updRail_store (f : Rail → Rail) : (s.updRail k f).store = s.store := rfl
@[simp] theorem State.updRail_video (f : Rail → Rail) : (s.updRail k f).video = s.video := rfl
@[simp] theorem State.updRail_drive (f : Rail → Rail) : (s.updRail k f).drive = s.drive := rfl
@[simp] theorem State.updRail_therm (f : Rail → Rail) : (s.updRail k f).therm = s.therm := rfl
@[simp] theorem State.updRail_mems (f : Rail → Rail) : (s.updRail k f).mems = s.mems := rfl
@[simp] theorem State.updRail_io (f : Rail → Rail) : (s.updRail k f).io = s.io := rfl
@[simp] theorem State.updRail_out (f : Rail → Rail) : (s.updRail k f).out = s.out := rfl
@[simp] theorem State.updRail_jtag (f : Rail → Rail) : (s.updRail k f).jtag = s.jtag := rfl
@[simp] theorem State.updRail_place (f : Rail → Rail) : (s.updRail k f).place = s.place := rfl
@[simp] theorem State.updRail_snap (f : Rail → Rail) : (s.updRail k f).snap = s.snap := rfl
@[simp] theorem State.updRail_ring (f : Rail → Rail) (j : Nat) : (s.updRail k f).ring j = s.ring j := rfl
@[simp] theorem State.updRail_pll (f : Rail → Rail) (j : Nat) : (s.updRail k f).pll j = s.pll j := rfl
@[simp] theorem State.updRail_gear (f : Rail → Rail) (j : Nat) : (s.updRail k f).gear j = s.gear j := rfl
@[simp] theorem State.updRail_enc (f : Rail → Rail) (j : Nat) : (s.updRail k f).enc j = s.enc j := rfl
@[simp] theorem State.updRail_gpio (f : Rail → Rail) (j : Nat) : (s.updRail k f).gpio j = s.gpio j := rfl
@[simp] theorem State.updRail_castle (f : Rail → Rail) (j : Nat) : (s.updRail k f).castle j = s.castle j := rfl
@[simp] theorem State.updRail_ticket (f : Rail → Rail) (j : Nat) : (s.updRail k f).ticket j = s.ticket j := rfl
@[simp] theorem State.updRail_page (f : Rail → Rail) (j : Nat) : (s.updRail k f).page j = s.page j := rfl
@[simp] theorem State.updRail_dma (f : Rail → Rail) (j : Nat) : (s.updRail k f).dma j = s.dma j := rfl
@[simp] theorem State.updRail_station (f : Rail → Rail) (j : Nat) : (s.updRail k f).station j = s.station j := rfl
@[simp] theorem State.updRail_lane (f : Rail → Rail) (j : Nat) : (s.updRail k f).lane j = s.lane j := rfl
@[simp] theorem State.updRail_beam (f : Rail → Rail) (j : Nat) : (s.updRail k f).beam j = s.beam j := rfl
@[simp] theorem State.updRail_link (f : Rail → Rail) (j : Nat) : (s.updRail k f).link j = s.link j := rfl
@[simp] theorem State.updRail_tile (f : Rail → Rail) (j : Nat) : (s.updRail k f).tile j = s.tile j := rfl
@[simp] theorem State.updRail_bus (f : Rail → Rail) (j : Nat) : (s.updRail k f).bus j = s.bus j := rfl
@[simp] theorem State.updRail_group (f : Rail → Rail) (j : Nat) : (s.updRail k f).group j = s.group j := rfl
@[simp] theorem State.updRail_axis (f : Rail → Rail) (j : Nat) : (s.updRail k f).axis j = s.axis j := rfl
@[simp] theorem State.updRail_poly (f : Rail → Rail) (j : Nat) : (s.updRail k f).poly j = s.poly j := rfl
@[simp] theorem State.updRail_loop (f : Rail → Rail) (j : Nat) : (s.updRail k f).loop j = s.loop j := rfl
@[simp] theorem State.updRail_heat (f : Rail → Rail) (j : Nat) : (s.updRail k f).heat j = s.heat j := rfl
@[simp] theorem State.updRail_leg (f : Rail → Rail) (j : Nat) : (s.updRail k f).leg j = s.leg j := rfl
@[simp] theorem State.updRail_sensor (f : Rail → Rail) (j : Nat) : (s.updRail k f).sensor j = s.sensor j := rfl
@[simp] theorem State.updRail_mem (f : Rail → Rail) (j : Nat) : (s.updRail k f).mem j = s.mem j := rfl
@[simp] theorem State.updRail_par (f : Rail → Rail) (c i p : Nat) : (s.updRail k f).par c i p = s.par c i p := rfl

/-! ### Sensor -/

theorem State.updSensor_eq (f : Sensor → Sensor) : s.updSensor k f = s.setSensor k (f (s.sensor k)) := rfl
@[simp] theorem State.setSensor_get (v : Sensor) (j : Nat) : (s.setSensor k v).sensor j = if j = k then v else s.sensor j := Map.get_put _ _ _ _ _
@[simp] theorem State.updSensor_get (f : Sensor → Sensor) (j : Nat) : (s.updSensor k f).sensor j = if j = k then f (s.sensor k) else s.sensor j := Map.get_put _ _ _ _ _
@[simp] theorem State.setSensor_die (v : Sensor) : (s.setSensor k v).die = s.die := rfl
@[simp] theorem State.setSensor_free (v : Sensor) : (s.setSensor k v).free = s.free := rfl
@[simp] theorem State.setSensor_pending (v : Sensor) : (s.setSensor k v).pending = s.pending := rfl
@[simp] theorem State.setSensor_tempo (v : Sensor) : (s.setSensor k v).tempo = s.tempo := rfl
@[simp] theorem State.setSensor_running (v : Sensor) : (s.setSensor k v).running = s.running := rfl
@[simp] theorem State.setSensor_follower (v : Sensor) : (s.setSensor k v).follower = s.follower := rfl
@[simp] theorem State.setSensor_md (v : Sensor) : (s.setSensor k v).md = s.md := rfl
@[simp] theorem State.setSensor_host (v : Sensor) : (s.setSensor k v).host = s.host := rfl
@[simp] theorem State.setSensor_faults (v : Sensor) : (s.setSensor k v).faults = s.faults := rfl
@[simp] theorem State.setSensor_firstCode (v : Sensor) : (s.setSensor k v).firstCode = s.firstCode := rfl
@[simp] theorem State.setSensor_firstTempo (v : Sensor) : (s.setSensor k v).firstTempo = s.firstTempo := rfl
@[simp] theorem State.setSensor_thermTrip (v : Sensor) : (s.setSensor k v).thermTrip = s.thermTrip := rfl
@[simp] theorem State.setSensor_watchdog (v : Sensor) : (s.setSensor k v).watchdog = s.watchdog := rfl
@[simp] theorem State.setSensor_params (v : Sensor) : (s.setSensor k v).params = s.params := rfl
@[simp] theorem State.setSensor_removed (v : Sensor) : (s.setSensor k v).removed = s.removed := rfl
@[simp] theorem State.setSensor_promotions (v : Sensor) : (s.setSensor k v).promotions = s.promotions := rfl
@[simp] theorem State.setSensor_ageNew (v : Sensor) : (s.setSensor k v).ageNew = s.ageNew := rfl
@[simp] theorem State.setSensor_aon (v : Sensor) : (s.setSensor k v).aon = s.aon := rfl
@[simp] theorem State.setSensor_sheets (v : Sensor) : (s.setSensor k v).sheets = s.sheets := rfl
@[simp] theorem State.setSensor_clk (v : Sensor) : (s.setSensor k v).clk = s.clk := rfl
@[simp] theorem State.setSensor_store (v : Sensor) : (s.setSensor k v).store = s.store := rfl
@[simp] theorem State.setSensor_video (v : Sensor) : (s.setSensor k v).video = s.video := rfl
@[simp] theorem State.setSensor_drive (v : Sensor) : (s.setSensor k v).drive = s.drive := rfl
@[simp] theorem State.setSensor_rails (v : Sensor) : (s.setSensor k v).rails = s.rails := rfl
@[simp] theorem State.setSensor_mems (v : Sensor) : (s.setSensor k v).mems = s.mems := rfl
@[simp] theorem State.setSensor_io (v : Sensor) : (s.setSensor k v).io = s.io := rfl
@[simp] theorem State.setSensor_out (v : Sensor) : (s.setSensor k v).out = s.out := rfl
@[simp] theorem State.setSensor_jtag (v : Sensor) : (s.setSensor k v).jtag = s.jtag := rfl
@[simp] theorem State.setSensor_place (v : Sensor) : (s.setSensor k v).place = s.place := rfl
@[simp] theorem State.setSensor_snap (v : Sensor) : (s.setSensor k v).snap = s.snap := rfl
@[simp] theorem State.setSensor_ring (v : Sensor) (j : Nat) : (s.setSensor k v).ring j = s.ring j := rfl
@[simp] theorem State.setSensor_pll (v : Sensor) (j : Nat) : (s.setSensor k v).pll j = s.pll j := rfl
@[simp] theorem State.setSensor_gear (v : Sensor) (j : Nat) : (s.setSensor k v).gear j = s.gear j := rfl
@[simp] theorem State.setSensor_enc (v : Sensor) (j : Nat) : (s.setSensor k v).enc j = s.enc j := rfl
@[simp] theorem State.setSensor_gpio (v : Sensor) (j : Nat) : (s.setSensor k v).gpio j = s.gpio j := rfl
@[simp] theorem State.setSensor_castle (v : Sensor) (j : Nat) : (s.setSensor k v).castle j = s.castle j := rfl
@[simp] theorem State.setSensor_ticket (v : Sensor) (j : Nat) : (s.setSensor k v).ticket j = s.ticket j := rfl
@[simp] theorem State.setSensor_page (v : Sensor) (j : Nat) : (s.setSensor k v).page j = s.page j := rfl
@[simp] theorem State.setSensor_dma (v : Sensor) (j : Nat) : (s.setSensor k v).dma j = s.dma j := rfl
@[simp] theorem State.setSensor_station (v : Sensor) (j : Nat) : (s.setSensor k v).station j = s.station j := rfl
@[simp] theorem State.setSensor_lane (v : Sensor) (j : Nat) : (s.setSensor k v).lane j = s.lane j := rfl
@[simp] theorem State.setSensor_beam (v : Sensor) (j : Nat) : (s.setSensor k v).beam j = s.beam j := rfl
@[simp] theorem State.setSensor_link (v : Sensor) (j : Nat) : (s.setSensor k v).link j = s.link j := rfl
@[simp] theorem State.setSensor_tile (v : Sensor) (j : Nat) : (s.setSensor k v).tile j = s.tile j := rfl
@[simp] theorem State.setSensor_bus (v : Sensor) (j : Nat) : (s.setSensor k v).bus j = s.bus j := rfl
@[simp] theorem State.setSensor_group (v : Sensor) (j : Nat) : (s.setSensor k v).group j = s.group j := rfl
@[simp] theorem State.setSensor_axis (v : Sensor) (j : Nat) : (s.setSensor k v).axis j = s.axis j := rfl
@[simp] theorem State.setSensor_poly (v : Sensor) (j : Nat) : (s.setSensor k v).poly j = s.poly j := rfl
@[simp] theorem State.setSensor_loop (v : Sensor) (j : Nat) : (s.setSensor k v).loop j = s.loop j := rfl
@[simp] theorem State.setSensor_heat (v : Sensor) (j : Nat) : (s.setSensor k v).heat j = s.heat j := rfl
@[simp] theorem State.setSensor_leg (v : Sensor) (j : Nat) : (s.setSensor k v).leg j = s.leg j := rfl
@[simp] theorem State.setSensor_rail (v : Sensor) (j : Nat) : (s.setSensor k v).rail j = s.rail j := rfl
@[simp] theorem State.setSensor_mem (v : Sensor) (j : Nat) : (s.setSensor k v).mem j = s.mem j := rfl
@[simp] theorem State.setSensor_par (v : Sensor) (c i p : Nat) : (s.setSensor k v).par c i p = s.par c i p := rfl
@[simp] theorem State.updSensor_die (f : Sensor → Sensor) : (s.updSensor k f).die = s.die := rfl
@[simp] theorem State.updSensor_free (f : Sensor → Sensor) : (s.updSensor k f).free = s.free := rfl
@[simp] theorem State.updSensor_pending (f : Sensor → Sensor) : (s.updSensor k f).pending = s.pending := rfl
@[simp] theorem State.updSensor_tempo (f : Sensor → Sensor) : (s.updSensor k f).tempo = s.tempo := rfl
@[simp] theorem State.updSensor_running (f : Sensor → Sensor) : (s.updSensor k f).running = s.running := rfl
@[simp] theorem State.updSensor_follower (f : Sensor → Sensor) : (s.updSensor k f).follower = s.follower := rfl
@[simp] theorem State.updSensor_md (f : Sensor → Sensor) : (s.updSensor k f).md = s.md := rfl
@[simp] theorem State.updSensor_host (f : Sensor → Sensor) : (s.updSensor k f).host = s.host := rfl
@[simp] theorem State.updSensor_faults (f : Sensor → Sensor) : (s.updSensor k f).faults = s.faults := rfl
@[simp] theorem State.updSensor_firstCode (f : Sensor → Sensor) : (s.updSensor k f).firstCode = s.firstCode := rfl
@[simp] theorem State.updSensor_firstTempo (f : Sensor → Sensor) : (s.updSensor k f).firstTempo = s.firstTempo := rfl
@[simp] theorem State.updSensor_thermTrip (f : Sensor → Sensor) : (s.updSensor k f).thermTrip = s.thermTrip := rfl
@[simp] theorem State.updSensor_watchdog (f : Sensor → Sensor) : (s.updSensor k f).watchdog = s.watchdog := rfl
@[simp] theorem State.updSensor_params (f : Sensor → Sensor) : (s.updSensor k f).params = s.params := rfl
@[simp] theorem State.updSensor_removed (f : Sensor → Sensor) : (s.updSensor k f).removed = s.removed := rfl
@[simp] theorem State.updSensor_promotions (f : Sensor → Sensor) : (s.updSensor k f).promotions = s.promotions := rfl
@[simp] theorem State.updSensor_ageNew (f : Sensor → Sensor) : (s.updSensor k f).ageNew = s.ageNew := rfl
@[simp] theorem State.updSensor_aon (f : Sensor → Sensor) : (s.updSensor k f).aon = s.aon := rfl
@[simp] theorem State.updSensor_sheets (f : Sensor → Sensor) : (s.updSensor k f).sheets = s.sheets := rfl
@[simp] theorem State.updSensor_clk (f : Sensor → Sensor) : (s.updSensor k f).clk = s.clk := rfl
@[simp] theorem State.updSensor_store (f : Sensor → Sensor) : (s.updSensor k f).store = s.store := rfl
@[simp] theorem State.updSensor_video (f : Sensor → Sensor) : (s.updSensor k f).video = s.video := rfl
@[simp] theorem State.updSensor_drive (f : Sensor → Sensor) : (s.updSensor k f).drive = s.drive := rfl
@[simp] theorem State.updSensor_rails (f : Sensor → Sensor) : (s.updSensor k f).rails = s.rails := rfl
@[simp] theorem State.updSensor_mems (f : Sensor → Sensor) : (s.updSensor k f).mems = s.mems := rfl
@[simp] theorem State.updSensor_io (f : Sensor → Sensor) : (s.updSensor k f).io = s.io := rfl
@[simp] theorem State.updSensor_out (f : Sensor → Sensor) : (s.updSensor k f).out = s.out := rfl
@[simp] theorem State.updSensor_jtag (f : Sensor → Sensor) : (s.updSensor k f).jtag = s.jtag := rfl
@[simp] theorem State.updSensor_place (f : Sensor → Sensor) : (s.updSensor k f).place = s.place := rfl
@[simp] theorem State.updSensor_snap (f : Sensor → Sensor) : (s.updSensor k f).snap = s.snap := rfl
@[simp] theorem State.updSensor_ring (f : Sensor → Sensor) (j : Nat) : (s.updSensor k f).ring j = s.ring j := rfl
@[simp] theorem State.updSensor_pll (f : Sensor → Sensor) (j : Nat) : (s.updSensor k f).pll j = s.pll j := rfl
@[simp] theorem State.updSensor_gear (f : Sensor → Sensor) (j : Nat) : (s.updSensor k f).gear j = s.gear j := rfl
@[simp] theorem State.updSensor_enc (f : Sensor → Sensor) (j : Nat) : (s.updSensor k f).enc j = s.enc j := rfl
@[simp] theorem State.updSensor_gpio (f : Sensor → Sensor) (j : Nat) : (s.updSensor k f).gpio j = s.gpio j := rfl
@[simp] theorem State.updSensor_castle (f : Sensor → Sensor) (j : Nat) : (s.updSensor k f).castle j = s.castle j := rfl
@[simp] theorem State.updSensor_ticket (f : Sensor → Sensor) (j : Nat) : (s.updSensor k f).ticket j = s.ticket j := rfl
@[simp] theorem State.updSensor_page (f : Sensor → Sensor) (j : Nat) : (s.updSensor k f).page j = s.page j := rfl
@[simp] theorem State.updSensor_dma (f : Sensor → Sensor) (j : Nat) : (s.updSensor k f).dma j = s.dma j := rfl
@[simp] theorem State.updSensor_station (f : Sensor → Sensor) (j : Nat) : (s.updSensor k f).station j = s.station j := rfl
@[simp] theorem State.updSensor_lane (f : Sensor → Sensor) (j : Nat) : (s.updSensor k f).lane j = s.lane j := rfl
@[simp] theorem State.updSensor_beam (f : Sensor → Sensor) (j : Nat) : (s.updSensor k f).beam j = s.beam j := rfl
@[simp] theorem State.updSensor_link (f : Sensor → Sensor) (j : Nat) : (s.updSensor k f).link j = s.link j := rfl
@[simp] theorem State.updSensor_tile (f : Sensor → Sensor) (j : Nat) : (s.updSensor k f).tile j = s.tile j := rfl
@[simp] theorem State.updSensor_bus (f : Sensor → Sensor) (j : Nat) : (s.updSensor k f).bus j = s.bus j := rfl
@[simp] theorem State.updSensor_group (f : Sensor → Sensor) (j : Nat) : (s.updSensor k f).group j = s.group j := rfl
@[simp] theorem State.updSensor_axis (f : Sensor → Sensor) (j : Nat) : (s.updSensor k f).axis j = s.axis j := rfl
@[simp] theorem State.updSensor_poly (f : Sensor → Sensor) (j : Nat) : (s.updSensor k f).poly j = s.poly j := rfl
@[simp] theorem State.updSensor_loop (f : Sensor → Sensor) (j : Nat) : (s.updSensor k f).loop j = s.loop j := rfl
@[simp] theorem State.updSensor_heat (f : Sensor → Sensor) (j : Nat) : (s.updSensor k f).heat j = s.heat j := rfl
@[simp] theorem State.updSensor_leg (f : Sensor → Sensor) (j : Nat) : (s.updSensor k f).leg j = s.leg j := rfl
@[simp] theorem State.updSensor_rail (f : Sensor → Sensor) (j : Nat) : (s.updSensor k f).rail j = s.rail j := rfl
@[simp] theorem State.updSensor_mem (f : Sensor → Sensor) (j : Nat) : (s.updSensor k f).mem j = s.mem j := rfl
@[simp] theorem State.updSensor_par (f : Sensor → Sensor) (c i p : Nat) : (s.updSensor k f).par c i p = s.par c i p := rfl

/-! ### Mem -/

theorem State.updMem_eq (f : Mem → Mem) : s.updMem k f = s.setMem k (f (s.mem k)) := rfl
@[simp] theorem State.setMem_get (v : Mem) (j : Nat) : (s.setMem k v).mem j = if j = k then v else s.mem j := Map.get_put _ _ _ _ _
@[simp] theorem State.updMem_get (f : Mem → Mem) (j : Nat) : (s.updMem k f).mem j = if j = k then f (s.mem k) else s.mem j := Map.get_put _ _ _ _ _
@[simp] theorem State.setMem_die (v : Mem) : (s.setMem k v).die = s.die := rfl
@[simp] theorem State.setMem_free (v : Mem) : (s.setMem k v).free = s.free := rfl
@[simp] theorem State.setMem_pending (v : Mem) : (s.setMem k v).pending = s.pending := rfl
@[simp] theorem State.setMem_tempo (v : Mem) : (s.setMem k v).tempo = s.tempo := rfl
@[simp] theorem State.setMem_running (v : Mem) : (s.setMem k v).running = s.running := rfl
@[simp] theorem State.setMem_follower (v : Mem) : (s.setMem k v).follower = s.follower := rfl
@[simp] theorem State.setMem_md (v : Mem) : (s.setMem k v).md = s.md := rfl
@[simp] theorem State.setMem_host (v : Mem) : (s.setMem k v).host = s.host := rfl
@[simp] theorem State.setMem_faults (v : Mem) : (s.setMem k v).faults = s.faults := rfl
@[simp] theorem State.setMem_firstCode (v : Mem) : (s.setMem k v).firstCode = s.firstCode := rfl
@[simp] theorem State.setMem_firstTempo (v : Mem) : (s.setMem k v).firstTempo = s.firstTempo := rfl
@[simp] theorem State.setMem_thermTrip (v : Mem) : (s.setMem k v).thermTrip = s.thermTrip := rfl
@[simp] theorem State.setMem_watchdog (v : Mem) : (s.setMem k v).watchdog = s.watchdog := rfl
@[simp] theorem State.setMem_params (v : Mem) : (s.setMem k v).params = s.params := rfl
@[simp] theorem State.setMem_removed (v : Mem) : (s.setMem k v).removed = s.removed := rfl
@[simp] theorem State.setMem_promotions (v : Mem) : (s.setMem k v).promotions = s.promotions := rfl
@[simp] theorem State.setMem_ageNew (v : Mem) : (s.setMem k v).ageNew = s.ageNew := rfl
@[simp] theorem State.setMem_aon (v : Mem) : (s.setMem k v).aon = s.aon := rfl
@[simp] theorem State.setMem_sheets (v : Mem) : (s.setMem k v).sheets = s.sheets := rfl
@[simp] theorem State.setMem_clk (v : Mem) : (s.setMem k v).clk = s.clk := rfl
@[simp] theorem State.setMem_store (v : Mem) : (s.setMem k v).store = s.store := rfl
@[simp] theorem State.setMem_video (v : Mem) : (s.setMem k v).video = s.video := rfl
@[simp] theorem State.setMem_drive (v : Mem) : (s.setMem k v).drive = s.drive := rfl
@[simp] theorem State.setMem_rails (v : Mem) : (s.setMem k v).rails = s.rails := rfl
@[simp] theorem State.setMem_therm (v : Mem) : (s.setMem k v).therm = s.therm := rfl
@[simp] theorem State.setMem_io (v : Mem) : (s.setMem k v).io = s.io := rfl
@[simp] theorem State.setMem_out (v : Mem) : (s.setMem k v).out = s.out := rfl
@[simp] theorem State.setMem_jtag (v : Mem) : (s.setMem k v).jtag = s.jtag := rfl
@[simp] theorem State.setMem_place (v : Mem) : (s.setMem k v).place = s.place := rfl
@[simp] theorem State.setMem_snap (v : Mem) : (s.setMem k v).snap = s.snap := rfl
@[simp] theorem State.setMem_ring (v : Mem) (j : Nat) : (s.setMem k v).ring j = s.ring j := rfl
@[simp] theorem State.setMem_pll (v : Mem) (j : Nat) : (s.setMem k v).pll j = s.pll j := rfl
@[simp] theorem State.setMem_gear (v : Mem) (j : Nat) : (s.setMem k v).gear j = s.gear j := rfl
@[simp] theorem State.setMem_enc (v : Mem) (j : Nat) : (s.setMem k v).enc j = s.enc j := rfl
@[simp] theorem State.setMem_gpio (v : Mem) (j : Nat) : (s.setMem k v).gpio j = s.gpio j := rfl
@[simp] theorem State.setMem_castle (v : Mem) (j : Nat) : (s.setMem k v).castle j = s.castle j := rfl
@[simp] theorem State.setMem_ticket (v : Mem) (j : Nat) : (s.setMem k v).ticket j = s.ticket j := rfl
@[simp] theorem State.setMem_page (v : Mem) (j : Nat) : (s.setMem k v).page j = s.page j := rfl
@[simp] theorem State.setMem_dma (v : Mem) (j : Nat) : (s.setMem k v).dma j = s.dma j := rfl
@[simp] theorem State.setMem_station (v : Mem) (j : Nat) : (s.setMem k v).station j = s.station j := rfl
@[simp] theorem State.setMem_lane (v : Mem) (j : Nat) : (s.setMem k v).lane j = s.lane j := rfl
@[simp] theorem State.setMem_beam (v : Mem) (j : Nat) : (s.setMem k v).beam j = s.beam j := rfl
@[simp] theorem State.setMem_link (v : Mem) (j : Nat) : (s.setMem k v).link j = s.link j := rfl
@[simp] theorem State.setMem_tile (v : Mem) (j : Nat) : (s.setMem k v).tile j = s.tile j := rfl
@[simp] theorem State.setMem_bus (v : Mem) (j : Nat) : (s.setMem k v).bus j = s.bus j := rfl
@[simp] theorem State.setMem_group (v : Mem) (j : Nat) : (s.setMem k v).group j = s.group j := rfl
@[simp] theorem State.setMem_axis (v : Mem) (j : Nat) : (s.setMem k v).axis j = s.axis j := rfl
@[simp] theorem State.setMem_poly (v : Mem) (j : Nat) : (s.setMem k v).poly j = s.poly j := rfl
@[simp] theorem State.setMem_loop (v : Mem) (j : Nat) : (s.setMem k v).loop j = s.loop j := rfl
@[simp] theorem State.setMem_heat (v : Mem) (j : Nat) : (s.setMem k v).heat j = s.heat j := rfl
@[simp] theorem State.setMem_leg (v : Mem) (j : Nat) : (s.setMem k v).leg j = s.leg j := rfl
@[simp] theorem State.setMem_rail (v : Mem) (j : Nat) : (s.setMem k v).rail j = s.rail j := rfl
@[simp] theorem State.setMem_sensor (v : Mem) (j : Nat) : (s.setMem k v).sensor j = s.sensor j := rfl
@[simp] theorem State.setMem_par (v : Mem) (c i p : Nat) : (s.setMem k v).par c i p = s.par c i p := rfl
@[simp] theorem State.updMem_die (f : Mem → Mem) : (s.updMem k f).die = s.die := rfl
@[simp] theorem State.updMem_free (f : Mem → Mem) : (s.updMem k f).free = s.free := rfl
@[simp] theorem State.updMem_pending (f : Mem → Mem) : (s.updMem k f).pending = s.pending := rfl
@[simp] theorem State.updMem_tempo (f : Mem → Mem) : (s.updMem k f).tempo = s.tempo := rfl
@[simp] theorem State.updMem_running (f : Mem → Mem) : (s.updMem k f).running = s.running := rfl
@[simp] theorem State.updMem_follower (f : Mem → Mem) : (s.updMem k f).follower = s.follower := rfl
@[simp] theorem State.updMem_md (f : Mem → Mem) : (s.updMem k f).md = s.md := rfl
@[simp] theorem State.updMem_host (f : Mem → Mem) : (s.updMem k f).host = s.host := rfl
@[simp] theorem State.updMem_faults (f : Mem → Mem) : (s.updMem k f).faults = s.faults := rfl
@[simp] theorem State.updMem_firstCode (f : Mem → Mem) : (s.updMem k f).firstCode = s.firstCode := rfl
@[simp] theorem State.updMem_firstTempo (f : Mem → Mem) : (s.updMem k f).firstTempo = s.firstTempo := rfl
@[simp] theorem State.updMem_thermTrip (f : Mem → Mem) : (s.updMem k f).thermTrip = s.thermTrip := rfl
@[simp] theorem State.updMem_watchdog (f : Mem → Mem) : (s.updMem k f).watchdog = s.watchdog := rfl
@[simp] theorem State.updMem_params (f : Mem → Mem) : (s.updMem k f).params = s.params := rfl
@[simp] theorem State.updMem_removed (f : Mem → Mem) : (s.updMem k f).removed = s.removed := rfl
@[simp] theorem State.updMem_promotions (f : Mem → Mem) : (s.updMem k f).promotions = s.promotions := rfl
@[simp] theorem State.updMem_ageNew (f : Mem → Mem) : (s.updMem k f).ageNew = s.ageNew := rfl
@[simp] theorem State.updMem_aon (f : Mem → Mem) : (s.updMem k f).aon = s.aon := rfl
@[simp] theorem State.updMem_sheets (f : Mem → Mem) : (s.updMem k f).sheets = s.sheets := rfl
@[simp] theorem State.updMem_clk (f : Mem → Mem) : (s.updMem k f).clk = s.clk := rfl
@[simp] theorem State.updMem_store (f : Mem → Mem) : (s.updMem k f).store = s.store := rfl
@[simp] theorem State.updMem_video (f : Mem → Mem) : (s.updMem k f).video = s.video := rfl
@[simp] theorem State.updMem_drive (f : Mem → Mem) : (s.updMem k f).drive = s.drive := rfl
@[simp] theorem State.updMem_rails (f : Mem → Mem) : (s.updMem k f).rails = s.rails := rfl
@[simp] theorem State.updMem_therm (f : Mem → Mem) : (s.updMem k f).therm = s.therm := rfl
@[simp] theorem State.updMem_io (f : Mem → Mem) : (s.updMem k f).io = s.io := rfl
@[simp] theorem State.updMem_out (f : Mem → Mem) : (s.updMem k f).out = s.out := rfl
@[simp] theorem State.updMem_jtag (f : Mem → Mem) : (s.updMem k f).jtag = s.jtag := rfl
@[simp] theorem State.updMem_place (f : Mem → Mem) : (s.updMem k f).place = s.place := rfl
@[simp] theorem State.updMem_snap (f : Mem → Mem) : (s.updMem k f).snap = s.snap := rfl
@[simp] theorem State.updMem_ring (f : Mem → Mem) (j : Nat) : (s.updMem k f).ring j = s.ring j := rfl
@[simp] theorem State.updMem_pll (f : Mem → Mem) (j : Nat) : (s.updMem k f).pll j = s.pll j := rfl
@[simp] theorem State.updMem_gear (f : Mem → Mem) (j : Nat) : (s.updMem k f).gear j = s.gear j := rfl
@[simp] theorem State.updMem_enc (f : Mem → Mem) (j : Nat) : (s.updMem k f).enc j = s.enc j := rfl
@[simp] theorem State.updMem_gpio (f : Mem → Mem) (j : Nat) : (s.updMem k f).gpio j = s.gpio j := rfl
@[simp] theorem State.updMem_castle (f : Mem → Mem) (j : Nat) : (s.updMem k f).castle j = s.castle j := rfl
@[simp] theorem State.updMem_ticket (f : Mem → Mem) (j : Nat) : (s.updMem k f).ticket j = s.ticket j := rfl
@[simp] theorem State.updMem_page (f : Mem → Mem) (j : Nat) : (s.updMem k f).page j = s.page j := rfl
@[simp] theorem State.updMem_dma (f : Mem → Mem) (j : Nat) : (s.updMem k f).dma j = s.dma j := rfl
@[simp] theorem State.updMem_station (f : Mem → Mem) (j : Nat) : (s.updMem k f).station j = s.station j := rfl
@[simp] theorem State.updMem_lane (f : Mem → Mem) (j : Nat) : (s.updMem k f).lane j = s.lane j := rfl
@[simp] theorem State.updMem_beam (f : Mem → Mem) (j : Nat) : (s.updMem k f).beam j = s.beam j := rfl
@[simp] theorem State.updMem_link (f : Mem → Mem) (j : Nat) : (s.updMem k f).link j = s.link j := rfl
@[simp] theorem State.updMem_tile (f : Mem → Mem) (j : Nat) : (s.updMem k f).tile j = s.tile j := rfl
@[simp] theorem State.updMem_bus (f : Mem → Mem) (j : Nat) : (s.updMem k f).bus j = s.bus j := rfl
@[simp] theorem State.updMem_group (f : Mem → Mem) (j : Nat) : (s.updMem k f).group j = s.group j := rfl
@[simp] theorem State.updMem_axis (f : Mem → Mem) (j : Nat) : (s.updMem k f).axis j = s.axis j := rfl
@[simp] theorem State.updMem_poly (f : Mem → Mem) (j : Nat) : (s.updMem k f).poly j = s.poly j := rfl
@[simp] theorem State.updMem_loop (f : Mem → Mem) (j : Nat) : (s.updMem k f).loop j = s.loop j := rfl
@[simp] theorem State.updMem_heat (f : Mem → Mem) (j : Nat) : (s.updMem k f).heat j = s.heat j := rfl
@[simp] theorem State.updMem_leg (f : Mem → Mem) (j : Nat) : (s.updMem k f).leg j = s.leg j := rfl
@[simp] theorem State.updMem_rail (f : Mem → Mem) (j : Nat) : (s.updMem k f).rail j = s.rail j := rfl
@[simp] theorem State.updMem_sensor (f : Mem → Mem) (j : Nat) : (s.updMem k f).sensor j = s.sensor j := rfl
@[simp] theorem State.updMem_par (f : Mem → Mem) (c i p : Nat) : (s.updMem k f).par c i p = s.par c i p := rfl

/-! ### Which units are there -/

@[simp] theorem State.setAxis_present (v : AxisSt) (c i : Nat) : (s.setAxis k v).present c i = s.present c i := rfl
@[simp] theorem State.setAxis_inService (v : AxisSt) (c i : Nat) : (s.setAxis k v).inService c i = s.inService c i := rfl
@[simp] theorem State.setBeam_present (v : Beam) (c i : Nat) : (s.setBeam k v).present c i = s.present c i := rfl
@[simp] theorem State.setBeam_inService (v : Beam) (c i : Nat) : (s.setBeam k v).inService c i = s.inService c i := rfl
@[simp] theorem State.setBus_present (v : Bus) (c i : Nat) : (s.setBus k v).present c i = s.present c i := rfl
@[simp] theorem State.setBus_inService (v : Bus) (c i : Nat) : (s.setBus k v).inService c i = s.inService c i := rfl
@[simp] theorem State.setCastle_present (v : Castle) (c i : Nat) : (s.setCastle k v).present c i = s.present c i := rfl
@[simp] theorem State.setCastle_inService (v : Castle) (c i : Nat) : (s.setCastle k v).inService c i = s.inService c i := rfl
@[simp] theorem State.setDma_present (v : Dma) (c i : Nat) : (s.setDma k v).present c i = s.present c i := rfl
@[simp] theorem State.setDma_inService (v : Dma) (c i : Nat) : (s.setDma k v).inService c i = s.inService c i := rfl
@[simp] theorem State.setEnc_present (v : Enc) (c i : Nat) : (s.setEnc k v).present c i = s.present c i := rfl
@[simp] theorem State.setEnc_inService (v : Enc) (c i : Nat) : (s.setEnc k v).inService c i = s.inService c i := rfl
@[simp] theorem State.setGear_present (v : Gear) (c i : Nat) : (s.setGear k v).present c i = s.present c i := rfl
@[simp] theorem State.setGear_inService (v : Gear) (c i : Nat) : (s.setGear k v).inService c i = s.inService c i := rfl
@[simp] theorem State.setGpio_present (v : Gpio) (c i : Nat) : (s.setGpio k v).present c i = s.present c i := rfl
@[simp] theorem State.setGpio_inService (v : Gpio) (c i : Nat) : (s.setGpio k v).inService c i = s.inService c i := rfl
@[simp] theorem State.setGroup_present (v : Group) (c i : Nat) : (s.setGroup k v).present c i = s.present c i := rfl
@[simp] theorem State.setGroup_inService (v : Group) (c i : Nat) : (s.setGroup k v).inService c i = s.inService c i := rfl
@[simp] theorem State.setHeat_present (v : Heat) (c i : Nat) : (s.setHeat k v).present c i = s.present c i := rfl
@[simp] theorem State.setHeat_inService (v : Heat) (c i : Nat) : (s.setHeat k v).inService c i = s.inService c i := rfl
@[simp] theorem State.setLane_present (v : Lane) (c i : Nat) : (s.setLane k v).present c i = s.present c i := rfl
@[simp] theorem State.setLane_inService (v : Lane) (c i : Nat) : (s.setLane k v).inService c i = s.inService c i := rfl
@[simp] theorem State.setLeg_present (v : HvLeg) (c i : Nat) : (s.setLeg k v).present c i = s.present c i := rfl
@[simp] theorem State.setLeg_inService (v : HvLeg) (c i : Nat) : (s.setLeg k v).inService c i = s.inService c i := rfl
@[simp] theorem State.setLink_present (v : Link) (c i : Nat) : (s.setLink k v).present c i = s.present c i := rfl
@[simp] theorem State.setLink_inService (v : Link) (c i : Nat) : (s.setLink k v).inService c i = s.inService c i := rfl
@[simp] theorem State.setLoop_present (v : Loop) (c i : Nat) : (s.setLoop k v).present c i = s.present c i := rfl
@[simp] theorem State.setLoop_inService (v : Loop) (c i : Nat) : (s.setLoop k v).inService c i = s.inService c i := rfl
@[simp] theorem State.setMem_present (v : Mem) (c i : Nat) : (s.setMem k v).present c i = s.present c i := rfl
@[simp] theorem State.setMem_inService (v : Mem) (c i : Nat) : (s.setMem k v).inService c i = s.inService c i := rfl
@[simp] theorem State.setPage_present (v : Page) (c i : Nat) : (s.setPage k v).present c i = s.present c i := rfl
@[simp] theorem State.setPage_inService (v : Page) (c i : Nat) : (s.setPage k v).inService c i = s.inService c i := rfl
@[simp] theorem State.setPll_present (v : Pll) (c i : Nat) : (s.setPll k v).present c i = s.present c i := rfl
@[simp] theorem State.setPll_inService (v : Pll) (c i : Nat) : (s.setPll k v).inService c i = s.inService c i := rfl
@[simp] theorem State.setPoly_present (v : PolySt) (c i : Nat) : (s.setPoly k v).present c i = s.present c i := rfl
@[simp] theorem State.setPoly_inService (v : PolySt) (c i : Nat) : (s.setPoly k v).inService c i = s.inService c i := rfl
@[simp] theorem State.setRail_present (v : Rail) (c i : Nat) : (s.setRail k v).present c i = s.present c i := rfl
@[simp] theorem State.setRail_inService (v : Rail) (c i : Nat) : (s.setRail k v).inService c i = s.inService c i := rfl
@[simp] theorem State.setRing_present (v : Ring) (c i : Nat) : (s.setRing k v).present c i = s.present c i := rfl
@[simp] theorem State.setRing_inService (v : Ring) (c i : Nat) : (s.setRing k v).inService c i = s.inService c i := rfl
@[simp] theorem State.setSensor_present (v : Sensor) (c i : Nat) : (s.setSensor k v).present c i = s.present c i := rfl
@[simp] theorem State.setSensor_inService (v : Sensor) (c i : Nat) : (s.setSensor k v).inService c i = s.inService c i := rfl
@[simp] theorem State.setStation_present (v : Station) (c i : Nat) : (s.setStation k v).present c i = s.present c i := rfl
@[simp] theorem State.setStation_inService (v : Station) (c i : Nat) : (s.setStation k v).inService c i = s.inService c i := rfl
@[simp] theorem State.setTicket_present (v : Ticket) (c i : Nat) : (s.setTicket k v).present c i = s.present c i := rfl
@[simp] theorem State.setTicket_inService (v : Ticket) (c i : Nat) : (s.setTicket k v).inService c i = s.inService c i := rfl
@[simp] theorem State.setTile_present (v : Tile) (c i : Nat) : (s.setTile k v).present c i = s.present c i := rfl
@[simp] theorem State.setTile_inService (v : Tile) (c i : Nat) : (s.setTile k v).inService c i = s.inService c i := rfl

end Sys2Proof.Machine
end

