-- ==== Sys2Proof/Laws/Ops.lean ====
section
/-!
SUPPORT. What the shared operations can do: raising an event, latching a fault, spoiling a station, answering a command, and the
frame of every Atotte command.
-/
namespace Sys2Proof.Machine

/-! ### Events and faults -/

/-- Latching a fault changes the fault records, FIRST_CODE and FIRST_TEMPO, and the fault counts of sealed sheets. -/
theorem State.latchNew_eq (s : State) (code o : Nat) : ∃ fs fc ft ts,
    s.latchNew code o = { s with faults := fs, firstCode := fc, firstTempo := ft, sheets := { s.sheets with tickets := ts } } := by
  have loop : ∀ (xs : List Nat) (u : State), ∃ ts,
      xs.foldl (fun u k => u.updTicket k (fun t => t.faulted code)) u = { u with sheets := { u.sheets with tickets := ts } } := by
    intro xs
    induction xs with
    | nil => exact fun u => ⟨_, rfl⟩
    | cons x xs ih =>
      intro u
      obtain ⟨ts, h⟩ := ih (u.updTicket x (fun t => t.faulted code))
      exact ⟨ts, h⟩
  unfold State.latchNew
  split
  · exact ⟨_, _, _, _, rfl⟩
  · obtain ⟨ts, h⟩ := loop _ { s with
      faults := s.faults ++ [{ code := code, obj := o, tempo := s.tempo }]
      firstCode := if s.faults.isEmpty then code else s.firstCode
      firstTempo := if s.faults.isEmpty then s.tempo else s.firstTempo }
    exact ⟨_, _, _, ts, h⟩

/-- Raising an event changes what latching does, and the backlog with its count of discarded events. -/
theorem State.raise_eq (s : State) (e : Ev) : ∃ fs fc ft ts bl lc lt,
    s.raise e = { s with
      faults := fs, firstCode := fc, firstTempo := ft, sheets := { s.sheets with tickets := ts }
      host := { s.host with backlog := bl, lostCount := lc, lostTempo := lt } } := by
  have loop : ∀ (xs : List Nat) (u : State), ∃ fs fc ft ts,
      xs.foldl (fun u o => u.latchNew e.code o) u
        = { u with faults := fs, firstCode := fc, firstTempo := ft, sheets := { u.sheets with tickets := ts } } := by
    intro xs
    induction xs with
    | nil => exact fun u => ⟨_, _, _, _, rfl⟩
    | cons x xs ih =>
      intro u
      obtain ⟨fs, fc, ft, ts, h⟩ := u.latchNew_eq e.code x
      obtain ⟨gs, gc, gt, hs, h2⟩ := ih (u.latchNew e.code x)
      refine ⟨gs, gc, gt, hs, ?_⟩
      rw [List.foldl_cons, h2, h]
  unfold State.raise
  split
  · obtain ⟨fs, fc, ft, ts, h⟩ := loop (e.latch.filter (fun o => s.objHere o && !s.latched e.code o)) s
    dsimp only
    rw [h]
    unfold State.queueEv
    split
    · exact ⟨_, _, _, _, _, _, _, rfl⟩
    · exact ⟨_, _, _, _, _, _, _, rfl⟩
  · exact ⟨_, _, _, _, _, _, _, rfl⟩

/-- Raising a rate-limited event changes the rate records besides. -/
theorem State.raiseLimited_eq (s : State) (e : Ev) (period sub : Nat) (cf : Bool) : ∃ fs fc ft ts bl lc lt rs,
    s.raiseLimited e period sub cf = { s with
      faults := fs, firstCode := fc, firstTempo := ft, sheets := { s.sheets with tickets := ts }
      host := { s.host with backlog := bl, lostCount := lc, lostTempo := lt, rates := rs } } := by
  unfold State.raiseLimited
  split
  · extract_lets k r due set fs
    split
    · obtain ⟨fs, fc, ft, ts, bl, lc, lt, h⟩ := State.raise_eq _ _
      exact ⟨fs, fc, ft, ts, bl, lc, lt, _, h⟩
    · exact ⟨_, _, _, _, _, _, _, _, rfl⟩
  · exact ⟨_, _, _, _, _, _, _, _, rfl⟩

/-- Spoiling a station changes what raising an event does. -/
theorem State.spoil_eq (s : State) (tk st cause line : Nat) : ∃ fs fc ft ts bl lc lt,
    s.spoil tk st cause line = { s with
      faults := fs, firstCode := fc, firstTempo := ft, sheets := { s.sheets with tickets := ts }
      host := { s.host with backlog := bl, lostCount := lc, lostTempo := lt } } := by
  unfold State.spoil
  dsimp only
  split
  · exact ⟨_, _, _, _, _, _, _, rfl⟩
  · split
    · exact ⟨_, _, _, _, _, _, _, rfl⟩
    · obtain ⟨fs, fc, ft, ts, bl, lc, lt, h⟩ := State.raise_eq _ _
      exact ⟨fs, fc, ft, ts, bl, lc, lt, h⟩

/-- Signalling a vector sends it or sets its pending bit. -/
theorem State.signal_eq (s : State) (v : Nat) : ∃ pba out,
    s.signal v = { s with host := { s.host with pba := pba }, out := out } := by
  unfold State.signal
  split
  · exact ⟨_, _, rfl⟩
  · exact ⟨_, _, rfl⟩

/-! ### Commands -/

/-- An answer changes its ring alone. -/
theorem State.post_eq (s : State) (r : Reply) (code index : Nat) (data : Bytes) : ∃ g, s.post r code index data = s.setRing r.ring g :=
  ⟨_, rfl⟩

/-- A ring that listens gets the answer of a command that is not quiet at the end of its waiting list. -/
theorem State.post_waiting (s : State) (r : Reply) (code index : Nat) (data : Bytes) (he : (s.ring r.ring).en = true)
    (hp : (s.ring r.ring).epoch = r.epoch) (hq : r.quiet = false) :
    ((s.post r code index data).ring r.ring).waiting = (s.ring r.ring).waiting ++ [r.msg code index data s.tempo] := by
  simp [State.post, he, hp, hq]

@[simp] theorem refuse_false (code index : Nat) : refuse false code index = [] := rfl

@[simp] theorem firstRef_nil : firstRef [] = none := rfl

/-- With no refusal, a command that is not CHECK_ONLY has its effect. -/
theorem State.command_runs (s : State) (op : Nat) (m : Msg) (effect : Reply → State → State) (hb : s.takes op m = true)
    (hc : m.checkOnly = false) : s.command op m [] effect = effect (s.replyOf op m) s := by
  simp [State.command, hb, hc]

/-- CHECK_ONLY and a refusal answer without effect; otherwise the effect runs; and nothing at all happens unless firmware has taken
the message. -/
theorem State.command_cases (s : State) (op : Nat) (m : Msg) (refs : List Ref) (effect : Reply → State → State) :
    (s.takes op m = false ∧ s.command op m refs effect = s)
      ∨ (∃ x, firstRef refs = some x ∧ s.command op m refs effect = s.post (s.replyOf op m) x.code x.index x.data)
      ∨ (m.checkOnly = true ∧ firstRef refs = none ∧ s.command op m refs effect = s.ok (s.replyOf op m))
      ∨ (m.checkOnly = false ∧ firstRef refs = none ∧ s.command op m refs effect = effect (s.replyOf op m) s) := by
  unfold State.command
  cases hb : s.takes op m with
  | false => exact .inl ⟨rfl, rfl⟩
  | true =>
    simp only [↓reduceIte]
    cases hr : firstRef refs with
    | some x => exact .inr (.inl ⟨x, rfl, rfl⟩)
    | none =>
      cases hc : m.checkOnly with
      | true => exact .inr (.inr (.inl ⟨rfl, rfl, rfl⟩))
      | false => exact .inr (.inr (.inr ⟨rfl, rfl, rfl⟩))

end Sys2Proof.Machine
end

