-- ==== Sys2Proof/Laws/Frames.lean ====
section
/-!
SUPPORT. What the shared operations leave as it was: events, spoils, signals and answers, part by part.
-/
namespace Sys2Proof.Machine

/-! ### raise -/

@[simp] theorem State.raise_die (s : State) (e : Ev) : (s.raise e).die = s.die := by
  obtain ⟨_, _, _, _, _, _, _, h⟩ := s.raise_eq e; rw [h]
@[simp] theorem State.raise_free (s : State) (e : Ev) : (s.raise e).free = s.free := by
  obtain ⟨_, _, _, _, _, _, _, h⟩ := s.raise_eq e; rw [h]
@[simp] theorem State.raise_pending (s : State) (e : Ev) : (s.raise e).pending = s.pending := by
  obtain ⟨_, _, _, _, _, _, _, h⟩ := s.raise_eq e; rw [h]
@[simp] theorem State.raise_jtag (s : State) (e : Ev) : (s.raise e).jtag = s.jtag := by
  obtain ⟨_, _, _, _, _, _, _, h⟩ := s.raise_eq e; rw [h]
@[simp] theorem State.raise_place (s : State) (e : Ev) : (s.raise e).place = s.place := by
  obtain ⟨_, _, _, _, _, _, _, h⟩ := s.raise_eq e; rw [h]
@[simp] theorem State.raise_snap (s : State) (e : Ev) : (s.raise e).snap = s.snap := by
  obtain ⟨_, _, _, _, _, _, _, h⟩ := s.raise_eq e; rw [h]
@[simp] theorem State.raise_tempo (s : State) (e : Ev) : (s.raise e).tempo = s.tempo := by
  obtain ⟨_, _, _, _, _, _, _, h⟩ := s.raise_eq e; rw [h]
@[simp] theorem State.raise_running (s : State) (e : Ev) : (s.raise e).running = s.running := by
  obtain ⟨_, _, _, _, _, _, _, h⟩ := s.raise_eq e; rw [h]
@[simp] theorem State.raise_follower (s : State) (e : Ev) : (s.raise e).follower = s.follower := by
  obtain ⟨_, _, _, _, _, _, _, h⟩ := s.raise_eq e; rw [h]
@[simp] theorem State.raise_md (s : State) (e : Ev) : (s.raise e).md = s.md := by
  obtain ⟨_, _, _, _, _, _, _, h⟩ := s.raise_eq e; rw [h]
@[simp] theorem State.raise_thermTrip (s : State) (e : Ev) : (s.raise e).thermTrip = s.thermTrip := by
  obtain ⟨_, _, _, _, _, _, _, h⟩ := s.raise_eq e; rw [h]
@[simp] theorem State.raise_watchdog (s : State) (e : Ev) : (s.raise e).watchdog = s.watchdog := by
  obtain ⟨_, _, _, _, _, _, _, h⟩ := s.raise_eq e; rw [h]
@[simp] theorem State.raise_params (s : State) (e : Ev) : (s.raise e).params = s.params := by
  obtain ⟨_, _, _, _, _, _, _, h⟩ := s.raise_eq e; rw [h]
@[simp] theorem State.raise_removed (s : State) (e : Ev) : (s.raise e).removed = s.removed := by
  obtain ⟨_, _, _, _, _, _, _, h⟩ := s.raise_eq e; rw [h]
@[simp] theorem State.raise_promotions (s : State) (e : Ev) : (s.raise e).promotions = s.promotions := by
  obtain ⟨_, _, _, _, _, _, _, h⟩ := s.raise_eq e; rw [h]
@[simp] theorem State.raise_ageNew (s : State) (e : Ev) : (s.raise e).ageNew = s.ageNew := by
  obtain ⟨_, _, _, _, _, _, _, h⟩ := s.raise_eq e; rw [h]
@[simp] theorem State.raise_aon (s : State) (e : Ev) : (s.raise e).aon = s.aon := by
  obtain ⟨_, _, _, _, _, _, _, h⟩ := s.raise_eq e; rw [h]
@[simp] theorem State.raise_clk (s : State) (e : Ev) : (s.raise e).clk = s.clk := by
  obtain ⟨_, _, _, _, _, _, _, h⟩ := s.raise_eq e; rw [h]
@[simp] theorem State.raise_store (s : State) (e : Ev) : (s.raise e).store = s.store := by
  obtain ⟨_, _, _, _, _, _, _, h⟩ := s.raise_eq e; rw [h]
@[simp] theorem State.raise_video (s : State) (e : Ev) : (s.raise e).video = s.video := by
  obtain ⟨_, _, _, _, _, _, _, h⟩ := s.raise_eq e; rw [h]
@[simp] theorem State.raise_drive (s : State) (e : Ev) : (s.raise e).drive = s.drive := by
  obtain ⟨_, _, _, _, _, _, _, h⟩ := s.raise_eq e; rw [h]
@[simp] theorem State.raise_rails (s : State) (e : Ev) : (s.raise e).rails = s.rails := by
  obtain ⟨_, _, _, _, _, _, _, h⟩ := s.raise_eq e; rw [h]
@[simp] theorem State.raise_therm (s : State) (e : Ev) : (s.raise e).therm = s.therm := by
  obtain ⟨_, _, _, _, _, _, _, h⟩ := s.raise_eq e; rw [h]
@[simp] theorem State.raise_mems (s : State) (e : Ev) : (s.raise e).mems = s.mems := by
  obtain ⟨_, _, _, _, _, _, _, h⟩ := s.raise_eq e; rw [h]
@[simp] theorem State.raise_io (s : State) (e : Ev) : (s.raise e).io = s.io := by
  obtain ⟨_, _, _, _, _, _, _, h⟩ := s.raise_eq e; rw [h]
@[simp] theorem State.raise_out (s : State) (e : Ev) : (s.raise e).out = s.out := by
  obtain ⟨_, _, _, _, _, _, _, h⟩ := s.raise_eq e; rw [h]
@[simp] theorem State.raise_host_linkUp (s : State) (e : Ev) : (s.raise e).host.linkUp = s.host.linkUp := by
  obtain ⟨_, _, _, _, _, _, _, h⟩ := s.raise_eq e; rw [h]
@[simp] theorem State.raise_host_perst (s : State) (e : Ev) : (s.raise e).host.perst = s.host.perst := by
  obtain ⟨_, _, _, _, _, _, _, h⟩ := s.raise_eq e; rw [h]
@[simp] theorem State.raise_host_training (s : State) (e : Ev) : (s.raise e).host.training = s.host.training := by
  obtain ⟨_, _, _, _, _, _, _, h⟩ := s.raise_eq e; rw [h]
@[simp] theorem State.raise_host_rings (s : State) (e : Ev) : (s.raise e).host.rings = s.host.rings := by
  obtain ⟨_, _, _, _, _, _, _, h⟩ := s.raise_eq e; rw [h]
@[simp] theorem State.raise_host_msixEn (s : State) (e : Ev) : (s.raise e).host.msixEn = s.host.msixEn := by
  obtain ⟨_, _, _, _, _, _, _, h⟩ := s.raise_eq e; rw [h]
@[simp] theorem State.raise_host_msix (s : State) (e : Ev) : (s.raise e).host.msix = s.host.msix := by
  obtain ⟨_, _, _, _, _, _, _, h⟩ := s.raise_eq e; rw [h]
@[simp] theorem State.raise_host_pba (s : State) (e : Ev) : (s.raise e).host.pba = s.host.pba := by
  obtain ⟨_, _, _, _, _, _, _, h⟩ := s.raise_eq e; rw [h]
@[simp] theorem State.raise_host_routes (s : State) (e : Ev) : (s.raise e).host.routes = s.host.routes := by
  obtain ⟨_, _, _, _, _, _, _, h⟩ := s.raise_eq e; rw [h]
@[simp] theorem State.raise_host_tempoHi (s : State) (e : Ev) : (s.raise e).host.tempoHi = s.host.tempoHi := by
  obtain ⟨_, _, _, _, _, _, _, h⟩ := s.raise_eq e; rw [h]
@[simp] theorem State.raise_host_helloPosted (s : State) (e : Ev) : (s.raise e).host.helloPosted = s.host.helloPosted := by
  obtain ⟨_, _, _, _, _, _, _, h⟩ := s.raise_eq e; rw [h]
@[simp] theorem State.raise_host_discarded (s : State) (e : Ev) : (s.raise e).host.discarded = s.host.discarded := by
  obtain ⟨_, _, _, _, _, _, _, h⟩ := s.raise_eq e; rw [h]
@[simp] theorem State.raise_host_linkNote (s : State) (e : Ev) : (s.raise e).host.linkNote = s.host.linkNote := by
  obtain ⟨_, _, _, _, _, _, _, h⟩ := s.raise_eq e; rw [h]
@[simp] theorem State.raise_host_rates (s : State) (e : Ev) : (s.raise e).host.rates = s.host.rates := by
  obtain ⟨_, _, _, _, _, _, _, h⟩ := s.raise_eq e; rw [h]
@[simp] theorem State.raise_ring (s : State) (e : Ev) (j : Nat) : (s.raise e).ring j = s.ring j := by
  obtain ⟨_, _, _, _, _, _, _, h⟩ := s.raise_eq e; rw [h]; rfl
@[simp] theorem State.raise_pll (s : State) (e : Ev) (j : Nat) : (s.raise e).pll j = s.pll j := by
  obtain ⟨_, _, _, _, _, _, _, h⟩ := s.raise_eq e; rw [h]; rfl
@[simp] theorem State.raise_gear (s : State) (e : Ev) (j : Nat) : (s.raise e).gear j = s.gear j := by
  obtain ⟨_, _, _, _, _, _, _, h⟩ := s.raise_eq e; rw [h]; rfl
@[simp] theorem State.raise_enc (s : State) (e : Ev) (j : Nat) : (s.raise e).enc j = s.enc j := by
  obtain ⟨_, _, _, _, _, _, _, h⟩ := s.raise_eq e; rw [h]; rfl
@[simp] theorem State.raise_gpio (s : State) (e : Ev) (j : Nat) : (s.raise e).gpio j = s.gpio j := by
  obtain ⟨_, _, _, _, _, _, _, h⟩ := s.raise_eq e; rw [h]; rfl
@[simp] theorem State.raise_castle (s : State) (e : Ev) (j : Nat) : (s.raise e).castle j = s.castle j := by
  obtain ⟨_, _, _, _, _, _, _, h⟩ := s.raise_eq e; rw [h]; rfl
@[simp] theorem State.raise_page (s : State) (e : Ev) (j : Nat) : (s.raise e).page j = s.page j := by
  obtain ⟨_, _, _, _, _, _, _, h⟩ := s.raise_eq e; rw [h]; rfl
@[simp] theorem State.raise_dma (s : State) (e : Ev) (j : Nat) : (s.raise e).dma j = s.dma j := by
  obtain ⟨_, _, _, _, _, _, _, h⟩ := s.raise_eq e; rw [h]; rfl
@[simp] theorem State.raise_station (s : State) (e : Ev) (j : Nat) : (s.raise e).station j = s.station j := by
  obtain ⟨_, _, _, _, _, _, _, h⟩ := s.raise_eq e; rw [h]; rfl
@[simp] theorem State.raise_lane (s : State) (e : Ev) (j : Nat) : (s.raise e).lane j = s.lane j := by
  obtain ⟨_, _, _, _, _, _, _, h⟩ := s.raise_eq e; rw [h]; rfl
@[simp] theorem State.raise_beam (s : State) (e : Ev) (j : Nat) : (s.raise e).beam j = s.beam j := by
  obtain ⟨_, _, _, _, _, _, _, h⟩ := s.raise_eq e; rw [h]; rfl
@[simp] theorem State.raise_link (s : State) (e : Ev) (j : Nat) : (s.raise e).link j = s.link j := by
  obtain ⟨_, _, _, _, _, _, _, h⟩ := s.raise_eq e; rw [h]; rfl
@[simp] theorem State.raise_tile (s : State) (e : Ev) (j : Nat) : (s.raise e).tile j = s.tile j := by
  obtain ⟨_, _, _, _, _, _, _, h⟩ := s.raise_eq e; rw [h]; rfl
@[simp] theorem State.raise_bus (s : State) (e : Ev) (j : Nat) : (s.raise e).bus j = s.bus j := by
  obtain ⟨_, _, _, _, _, _, _, h⟩ := s.raise_eq e; rw [h]; rfl
@[simp] theorem State.raise_group (s : State) (e : Ev) (j : Nat) : (s.raise e).group j = s.group j := by
  obtain ⟨_, _, _, _, _, _, _, h⟩ := s.raise_eq e; rw [h]; rfl
@[simp] theorem State.raise_axis (s : State) (e : Ev) (j : Nat) : (s.raise e).axis j = s.axis j := by
  obtain ⟨_, _, _, _, _, _, _, h⟩ := s.raise_eq e; rw [h]; rfl
@[simp] theorem State.raise_poly (s : State) (e : Ev) (j : Nat) : (s.raise e).poly j = s.poly j := by
  obtain ⟨_, _, _, _, _, _, _, h⟩ := s.raise_eq e; rw [h]; rfl
@[simp] theorem State.raise_loop (s : State) (e : Ev) (j : Nat) : (s.raise e).loop j = s.loop j := by
  obtain ⟨_, _, _, _, _, _, _, h⟩ := s.raise_eq e; rw [h]; rfl
@[simp] theorem State.raise_heat (s : State) (e : Ev) (j : Nat) : (s.raise e).heat j = s.heat j := by
  obtain ⟨_, _, _, _, _, _, _, h⟩ := s.raise_eq e; rw [h]; rfl
@[simp] theorem State.raise_leg (s : State) (e : Ev) (j : Nat) : (s.raise e).leg j = s.leg j := by
  obtain ⟨_, _, _, _, _, _, _, h⟩ := s.raise_eq e; rw [h]; rfl
@[simp] theorem State.raise_rail (s : State) (e : Ev) (j : Nat) : (s.raise e).rail j = s.rail j := by
  obtain ⟨_, _, _, _, _, _, _, h⟩ := s.raise_eq e; rw [h]; rfl
@[simp] theorem State.raise_sensor (s : State) (e : Ev) (j : Nat) : (s.raise e).sensor j = s.sensor j := by
  obtain ⟨_, _, _, _, _, _, _, h⟩ := s.raise_eq e; rw [h]; rfl
@[simp] theorem State.raise_mem (s : State) (e : Ev) (j : Nat) : (s.raise e).mem j = s.mem j := by
  obtain ⟨_, _, _, _, _, _, _, h⟩ := s.raise_eq e; rw [h]; rfl
@[simp] theorem State.raise_par (s : State) (e : Ev) (x y z : Nat) : (s.raise e).par x y z = s.par x y z := by
  obtain ⟨_, _, _, _, _, _, _, h⟩ := s.raise_eq e; rw [h]; rfl

/-! ### raiseLimited -/

@[simp] theorem State.raiseLimited_die (s : State) (e : Ev) (p b : Nat) (c : Bool) : (s.raiseLimited e p b c).die = s.die := by
  obtain ⟨_, _, _, _, _, _, _, _, h⟩ := s.raiseLimited_eq e p b c; rw [h]
@[simp] theorem State.raiseLimited_free (s : State) (e : Ev) (p b : Nat) (c : Bool) : (s.raiseLimited e p b c).free = s.free := by
  obtain ⟨_, _, _, _, _, _, _, _, h⟩ := s.raiseLimited_eq e p b c; rw [h]
@[simp] theorem State.raiseLimited_pending (s : State) (e : Ev) (p b : Nat) (c : Bool) : (s.raiseLimited e p b c).pending = s.pending := by
  obtain ⟨_, _, _, _, _, _, _, _, h⟩ := s.raiseLimited_eq e p b c; rw [h]
@[simp] theorem State.raiseLimited_jtag (s : State) (e : Ev) (p b : Nat) (c : Bool) : (s.raiseLimited e p b c).jtag = s.jtag := by
  obtain ⟨_, _, _, _, _, _, _, _, h⟩ := s.raiseLimited_eq e p b c; rw [h]
@[simp] theorem State.raiseLimited_place (s : State) (e : Ev) (p b : Nat) (c : Bool) : (s.raiseLimited e p b c).place = s.place := by
  obtain ⟨_, _, _, _, _, _, _, _, h⟩ := s.raiseLimited_eq e p b c; rw [h]
@[simp] theorem State.raiseLimited_snap (s : State) (e : Ev) (p b : Nat) (c : Bool) : (s.raiseLimited e p b c).snap = s.snap := by
  obtain ⟨_, _, _, _, _, _, _, _, h⟩ := s.raiseLimited_eq e p b c; rw [h]
@[simp] theorem State.raiseLimited_tempo (s : State) (e : Ev) (p b : Nat) (c : Bool) : (s.raiseLimited e p b c).tempo = s.tempo := by
  obtain ⟨_, _, _, _, _, _, _, _, h⟩ := s.raiseLimited_eq e p b c; rw [h]
@[simp] theorem State.raiseLimited_running (s : State) (e : Ev) (p b : Nat) (c : Bool) : (s.raiseLimited e p b c).running = s.running := by
  obtain ⟨_, _, _, _, _, _, _, _, h⟩ := s.raiseLimited_eq e p b c; rw [h]
@[simp] theorem State.raiseLimited_follower (s : State) (e : Ev) (p b : Nat) (c : Bool) : (s.raiseLimited e p b c).follower = s.follower := by
  obtain ⟨_, _, _, _, _, _, _, _, h⟩ := s.raiseLimited_eq e p b c; rw [h]
@[simp] theorem State.raiseLimited_md (s : State) (e : Ev) (p b : Nat) (c : Bool) : (s.raiseLimited e p b c).md = s.md := by
  obtain ⟨_, _, _, _, _, _, _, _, h⟩ := s.raiseLimited_eq e p b c; rw [h]
@[simp] theorem State.raiseLimited_thermTrip (s : State) (e : Ev) (p b : Nat) (c : Bool) : (s.raiseLimited e p b c).thermTrip = s.thermTrip := by
  obtain ⟨_, _, _, _, _, _, _, _, h⟩ := s.raiseLimited_eq e p b c; rw [h]
@[simp] theorem State.raiseLimited_watchdog (s : State) (e : Ev) (p b : Nat) (c : Bool) : (s.raiseLimited e p b c).watchdog = s.watchdog := by
  obtain ⟨_, _, _, _, _, _, _, _, h⟩ := s.raiseLimited_eq e p b c; rw [h]
@[simp] theorem State.raiseLimited_params (s : State) (e : Ev) (p b : Nat) (c : Bool) : (s.raiseLimited e p b c).params = s.params := by
  obtain ⟨_, _, _, _, _, _, _, _, h⟩ := s.raiseLimited_eq e p b c; rw [h]
@[simp] theorem State.raiseLimited_removed (s : State) (e : Ev) (p b : Nat) (c : Bool) : (s.raiseLimited e p b c).removed = s.removed := by
  obtain ⟨_, _, _, _, _, _, _, _, h⟩ := s.raiseLimited_eq e p b c; rw [h]
@[simp] theorem State.raiseLimited_promotions (s : State) (e : Ev) (p b : Nat) (c : Bool) : (s.raiseLimited e p b c).promotions = s.promotions := by
  obtain ⟨_, _, _, _, _, _, _, _, h⟩ := s.raiseLimited_eq e p b c; rw [h]
@[simp] theorem State.raiseLimited_ageNew (s : State) (e : Ev) (p b : Nat) (c : Bool) : (s.raiseLimited e p b c).ageNew = s.ageNew := by
  obtain ⟨_, _, _, _, _, _, _, _, h⟩ := s.raiseLimited_eq e p b c; rw [h]
@[simp] theorem State.raiseLimited_aon (s : State) (e : Ev) (p b : Nat) (c : Bool) : (s.raiseLimited e p b c).aon = s.aon := by
  obtain ⟨_, _, _, _, _, _, _, _, h⟩ := s.raiseLimited_eq e p b c; rw [h]
@[simp] theorem State.raiseLimited_clk (s : State) (e : Ev) (p b : Nat) (c : Bool) : (s.raiseLimited e p b c).clk = s.clk := by
  obtain ⟨_, _, _, _, _, _, _, _, h⟩ := s.raiseLimited_eq e p b c; rw [h]
@[simp] theorem State.raiseLimited_store (s : State) (e : Ev) (p b : Nat) (c : Bool) : (s.raiseLimited e p b c).store = s.store := by
  obtain ⟨_, _, _, _, _, _, _, _, h⟩ := s.raiseLimited_eq e p b c; rw [h]
@[simp] theorem State.raiseLimited_video (s : State) (e : Ev) (p b : Nat) (c : Bool) : (s.raiseLimited e p b c).video = s.video := by
  obtain ⟨_, _, _, _, _, _, _, _, h⟩ := s.raiseLimited_eq e p b c; rw [h]
@[simp] theorem State.raiseLimited_drive (s : State) (e : Ev) (p b : Nat) (c : Bool) : (s.raiseLimited e p b c).drive = s.drive := by
  obtain ⟨_, _, _, _, _, _, _, _, h⟩ := s.raiseLimited_eq e p b c; rw [h]
@[simp] theorem State.raiseLimited_rails (s : State) (e : Ev) (p b : Nat) (c : Bool) : (s.raiseLimited e p b c).rails = s.rails := by
  obtain ⟨_, _, _, _, _, _, _, _, h⟩ := s.raiseLimited_eq e p b c; rw [h]
@[simp] theorem State.raiseLimited_therm (s : State) (e : Ev) (p b : Nat) (c : Bool) : (s.raiseLimited e p b c).therm = s.therm := by
  obtain ⟨_, _, _, _, _, _, _, _, h⟩ := s.raiseLimited_eq e p b c; rw [h]
@[simp] theorem State.raiseLimited_mems (s : State) (e : Ev) (p b : Nat) (c : Bool) : (s.raiseLimited e p b c).mems = s.mems := by
  obtain ⟨_, _, _, _, _, _, _, _, h⟩ := s.raiseLimited_eq e p b c; rw [h]
@[simp] theorem State.raiseLimited_io (s : State) (e : Ev) (p b : Nat) (c : Bool) : (s.raiseLimited e p b c).io = s.io := by
  obtain ⟨_, _, _, _, _, _, _, _, h⟩ := s.raiseLimited_eq e p b c; rw [h]
@[simp] theorem State.raiseLimited_out (s : State) (e : Ev) (p b : Nat) (c : Bool) : (s.raiseLimited e p b c).out = s.out := by
  obtain ⟨_, _, _, _, _, _, _, _, h⟩ := s.raiseLimited_eq e p b c; rw [h]
@[simp] theorem State.raiseLimited_host_linkUp (s : State) (e : Ev) (p b : Nat) (c : Bool) : (s.raiseLimited e p b c).host.linkUp = s.host.linkUp := by
  obtain ⟨_, _, _, _, _, _, _, _, h⟩ := s.raiseLimited_eq e p b c; rw [h]
@[simp] theorem State.raiseLimited_host_perst (s : State) (e : Ev) (p b : Nat) (c : Bool) : (s.raiseLimited e p b c).host.perst = s.host.perst := by
  obtain ⟨_, _, _, _, _, _, _, _, h⟩ := s.raiseLimited_eq e p b c; rw [h]
@[simp] theorem State.raiseLimited_host_training (s : State) (e : Ev) (p b : Nat) (c : Bool) : (s.raiseLimited e p b c).host.training = s.host.training := by
  obtain ⟨_, _, _, _, _, _, _, _, h⟩ := s.raiseLimited_eq e p b c; rw [h]
@[simp] theorem State.raiseLimited_host_rings (s : State) (e : Ev) (p b : Nat) (c : Bool) : (s.raiseLimited e p b c).host.rings = s.host.rings := by
  obtain ⟨_, _, _, _, _, _, _, _, h⟩ := s.raiseLimited_eq e p b c; rw [h]
@[simp] theorem State.raiseLimited_host_msixEn (s : State) (e : Ev) (p b : Nat) (c : Bool) : (s.raiseLimited e p b c).host.msixEn = s.host.msixEn := by
  obtain ⟨_, _, _, _, _, _, _, _, h⟩ := s.raiseLimited_eq e p b c; rw [h]
@[simp] theorem State.raiseLimited_host_msix (s : State) (e : Ev) (p b : Nat) (c : Bool) : (s.raiseLimited e p b c).host.msix = s.host.msix := by
  obtain ⟨_, _, _, _, _, _, _, _, h⟩ := s.raiseLimited_eq e p b c; rw [h]
@[simp] theorem State.raiseLimited_host_pba (s : State) (e : Ev) (p b : Nat) (c : Bool) : (s.raiseLimited e p b c).host.pba = s.host.pba := by
  obtain ⟨_, _, _, _, _, _, _, _, h⟩ := s.raiseLimited_eq e p b c; rw [h]
@[simp] theorem State.raiseLimited_host_routes (s : State) (e : Ev) (p b : Nat) (c : Bool) : (s.raiseLimited e p b c).host.routes = s.host.routes := by
  obtain ⟨_, _, _, _, _, _, _, _, h⟩ := s.raiseLimited_eq e p b c; rw [h]
@[simp] theorem State.raiseLimited_host_tempoHi (s : State) (e : Ev) (p b : Nat) (c : Bool) : (s.raiseLimited e p b c).host.tempoHi = s.host.tempoHi := by
  obtain ⟨_, _, _, _, _, _, _, _, h⟩ := s.raiseLimited_eq e p b c; rw [h]
@[simp] theorem State.raiseLimited_host_helloPosted (s : State) (e : Ev) (p b : Nat) (c : Bool) : (s.raiseLimited e p b c).host.helloPosted = s.host.helloPosted := by
  obtain ⟨_, _, _, _, _, _, _, _, h⟩ := s.raiseLimited_eq e p b c; rw [h]
@[simp] theorem State.raiseLimited_host_discarded (s : State) (e : Ev) (p b : Nat) (c : Bool) : (s.raiseLimited e p b c).host.discarded = s.host.discarded := by
  obtain ⟨_, _, _, _, _, _, _, _, h⟩ := s.raiseLimited_eq e p b c; rw [h]
@[simp] theorem State.raiseLimited_host_linkNote (s : State) (e : Ev) (p b : Nat) (c : Bool) : (s.raiseLimited e p b c).host.linkNote = s.host.linkNote := by
  obtain ⟨_, _, _, _, _, _, _, _, h⟩ := s.raiseLimited_eq e p b c; rw [h]
@[simp] theorem State.raiseLimited_ring (s : State) (e : Ev) (p b : Nat) (c : Bool) (j : Nat) : (s.raiseLimited e p b c).ring j = s.ring j := by
  obtain ⟨_, _, _, _, _, _, _, _, h⟩ := s.raiseLimited_eq e p b c; rw [h]; rfl
@[simp] theorem State.raiseLimited_pll (s : State) (e : Ev) (p b : Nat) (c : Bool) (j : Nat) : (s.raiseLimited e p b c).pll j = s.pll j := by
  obtain ⟨_, _, _, _, _, _, _, _, h⟩ := s.raiseLimited_eq e p b c; rw [h]; rfl
@[simp] theorem State.raiseLimited_gear (s : State) (e : Ev) (p b : Nat) (c : Bool) (j : Nat) : (s.raiseLimited e p b c).gear j = s.gear j := by
  obtain ⟨_, _, _, _, _, _, _, _, h⟩ := s.raiseLimited_eq e p b c; rw [h]; rfl
@[simp] theorem State.raiseLimited_enc (s : State) (e : Ev) (p b : Nat) (c : Bool) (j : Nat) : (s.raiseLimited e p b c).enc j = s.enc j := by
  obtain ⟨_, _, _, _, _, _, _, _, h⟩ := s.raiseLimited_eq e p b c; rw [h]; rfl
@[simp] theorem State.raiseLimited_gpio (s : State) (e : Ev) (p b : Nat) (c : Bool) (j : Nat) : (s.raiseLimited e p b c).gpio j = s.gpio j := by
  obtain ⟨_, _, _, _, _, _, _, _, h⟩ := s.raiseLimited_eq e p b c; rw [h]; rfl
@[simp] theorem State.raiseLimited_castle (s : State) (e : Ev) (p b : Nat) (c : Bool) (j : Nat) : (s.raiseLimited e p b c).castle j = s.castle j := by
  obtain ⟨_, _, _, _, _, _, _, _, h⟩ := s.raiseLimited_eq e p b c; rw [h]; rfl
@[simp] theorem State.raiseLimited_page (s : State) (e : Ev) (p b : Nat) (c : Bool) (j : Nat) : (s.raiseLimited e p b c).page j = s.page j := by
  obtain ⟨_, _, _, _, _, _, _, _, h⟩ := s.raiseLimited_eq e p b c; rw [h]; rfl
@[simp] theorem State.raiseLimited_dma (s : State) (e : Ev) (p b : Nat) (c : Bool) (j : Nat) : (s.raiseLimited e p b c).dma j = s.dma j := by
  obtain ⟨_, _, _, _, _, _, _, _, h⟩ := s.raiseLimited_eq e p b c; rw [h]; rfl
@[simp] theorem State.raiseLimited_station (s : State) (e : Ev) (p b : Nat) (c : Bool) (j : Nat) : (s.raiseLimited e p b c).station j = s.station j := by
  obtain ⟨_, _, _, _, _, _, _, _, h⟩ := s.raiseLimited_eq e p b c; rw [h]; rfl
@[simp] theorem State.raiseLimited_lane (s : State) (e : Ev) (p b : Nat) (c : Bool) (j : Nat) : (s.raiseLimited e p b c).lane j = s.lane j := by
  obtain ⟨_, _, _, _, _, _, _, _, h⟩ := s.raiseLimited_eq e p b c; rw [h]; rfl
@[simp] theorem State.raiseLimited_beam (s : State) (e : Ev) (p b : Nat) (c : Bool) (j : Nat) : (s.raiseLimited e p b c).beam j = s.beam j := by
  obtain ⟨_, _, _, _, _, _, _, _, h⟩ := s.raiseLimited_eq e p b c; rw [h]; rfl
@[simp] theorem State.raiseLimited_link (s : State) (e : Ev) (p b : Nat) (c : Bool) (j : Nat) : (s.raiseLimited e p b c).link j = s.link j := by
  obtain ⟨_, _, _, _, _, _, _, _, h⟩ := s.raiseLimited_eq e p b c; rw [h]; rfl
@[simp] theorem State.raiseLimited_tile (s : State) (e : Ev) (p b : Nat) (c : Bool) (j : Nat) : (s.raiseLimited e p b c).tile j = s.tile j := by
  obtain ⟨_, _, _, _, _, _, _, _, h⟩ := s.raiseLimited_eq e p b c; rw [h]; rfl
@[simp] theorem State.raiseLimited_bus (s : State) (e : Ev) (p b : Nat) (c : Bool) (j : Nat) : (s.raiseLimited e p b c).bus j = s.bus j := by
  obtain ⟨_, _, _, _, _, _, _, _, h⟩ := s.raiseLimited_eq e p b c; rw [h]; rfl
@[simp] theorem State.raiseLimited_group (s : State) (e : Ev) (p b : Nat) (c : Bool) (j : Nat) : (s.raiseLimited e p b c).group j = s.group j := by
  obtain ⟨_, _, _, _, _, _, _, _, h⟩ := s.raiseLimited_eq e p b c; rw [h]; rfl
@[simp] theorem State.raiseLimited_axis (s : State) (e : Ev) (p b : Nat) (c : Bool) (j : Nat) : (s.raiseLimited e p b c).axis j = s.axis j := by
  obtain ⟨_, _, _, _, _, _, _, _, h⟩ := s.raiseLimited_eq e p b c; rw [h]; rfl
@[simp] theorem State.raiseLimited_poly (s : State) (e : Ev) (p b : Nat) (c : Bool) (j : Nat) : (s.raiseLimited e p b c).poly j = s.poly j := by
  obtain ⟨_, _, _, _, _, _, _, _, h⟩ := s.raiseLimited_eq e p b c; rw [h]; rfl
@[simp] theorem State.raiseLimited_loop (s : State) (e : Ev) (p b : Nat) (c : Bool) (j : Nat) : (s.raiseLimited e p b c).loop j = s.loop j := by
  obtain ⟨_, _, _, _, _, _, _, _, h⟩ := s.raiseLimited_eq e p b c; rw [h]; rfl
@[simp] theorem State.raiseLimited_heat (s : State) (e : Ev) (p b : Nat) (c : Bool) (j : Nat) : (s.raiseLimited e p b c).heat j = s.heat j := by
  obtain ⟨_, _, _, _, _, _, _, _, h⟩ := s.raiseLimited_eq e p b c; rw [h]; rfl
@[simp] theorem State.raiseLimited_leg (s : State) (e : Ev) (p b : Nat) (c : Bool) (j : Nat) : (s.raiseLimited e p b c).leg j = s.leg j := by
  obtain ⟨_, _, _, _, _, _, _, _, h⟩ := s.raiseLimited_eq e p b c; rw [h]; rfl
@[simp] theorem State.raiseLimited_rail (s : State) (e : Ev) (p b : Nat) (c : Bool) (j : Nat) : (s.raiseLimited e p b c).rail j = s.rail j := by
  obtain ⟨_, _, _, _, _, _, _, _, h⟩ := s.raiseLimited_eq e p b c; rw [h]; rfl
@[simp] theorem State.raiseLimited_sensor (s : State) (e : Ev) (p b : Nat) (c : Bool) (j : Nat) : (s.raiseLimited e p b c).sensor j = s.sensor j := by
  obtain ⟨_, _, _, _, _, _, _, _, h⟩ := s.raiseLimited_eq e p b c; rw [h]; rfl
@[simp] theorem State.raiseLimited_mem (s : State) (e : Ev) (p b : Nat) (c : Bool) (j : Nat) : (s.raiseLimited e p b c).mem j = s.mem j := by
  obtain ⟨_, _, _, _, _, _, _, _, h⟩ := s.raiseLimited_eq e p b c; rw [h]; rfl
@[simp] theorem State.raiseLimited_par (s : State) (e : Ev) (p b : Nat) (c : Bool) (x y z : Nat) : (s.raiseLimited e p b c).par x y z = s.par x y z := by
  obtain ⟨_, _, _, _, _, _, _, _, h⟩ := s.raiseLimited_eq e p b c; rw [h]; rfl

/-! ### spoil -/

@[simp] theorem State.spoil_die (s : State) (tk n c l : Nat) : (s.spoil tk n c l).die = s.die := by
  obtain ⟨_, _, _, _, _, _, _, h⟩ := s.spoil_eq tk n c l; rw [h]
@[simp] theorem State.spoil_free (s : State) (tk n c l : Nat) : (s.spoil tk n c l).free = s.free := by
  obtain ⟨_, _, _, _, _, _, _, h⟩ := s.spoil_eq tk n c l; rw [h]
@[simp] theorem State.spoil_pending (s : State) (tk n c l : Nat) : (s.spoil tk n c l).pending = s.pending := by
  obtain ⟨_, _, _, _, _, _, _, h⟩ := s.spoil_eq tk n c l; rw [h]
@[simp] theorem State.spoil_jtag (s : State) (tk n c l : Nat) : (s.spoil tk n c l).jtag = s.jtag := by
  obtain ⟨_, _, _, _, _, _, _, h⟩ := s.spoil_eq tk n c l; rw [h]
@[simp] theorem State.spoil_place (s : State) (tk n c l : Nat) : (s.spoil tk n c l).place = s.place := by
  obtain ⟨_, _, _, _, _, _, _, h⟩ := s.spoil_eq tk n c l; rw [h]
@[simp] theorem State.spoil_snap (s : State) (tk n c l : Nat) : (s.spoil tk n c l).snap = s.snap := by
  obtain ⟨_, _, _, _, _, _, _, h⟩ := s.spoil_eq tk n c l; rw [h]
@[simp] theorem State.spoil_tempo (s : State) (tk n c l : Nat) : (s.spoil tk n c l).tempo = s.tempo := by
  obtain ⟨_, _, _, _, _, _, _, h⟩ := s.spoil_eq tk n c l; rw [h]
@[simp] theorem State.spoil_running (s : State) (tk n c l : Nat) : (s.spoil tk n c l).running = s.running := by
  obtain ⟨_, _, _, _, _, _, _, h⟩ := s.spoil_eq tk n c l; rw [h]
@[simp] theorem State.spoil_follower (s : State) (tk n c l : Nat) : (s.spoil tk n c l).follower = s.follower := by
  obtain ⟨_, _, _, _, _, _, _, h⟩ := s.spoil_eq tk n c l; rw [h]
@[simp] theorem State.spoil_md (s : State) (tk n c l : Nat) : (s.spoil tk n c l).md = s.md := by
  obtain ⟨_, _, _, _, _, _, _, h⟩ := s.spoil_eq tk n c l; rw [h]
@[simp] theorem State.spoil_thermTrip (s : State) (tk n c l : Nat) : (s.spoil tk n c l).thermTrip = s.thermTrip := by
  obtain ⟨_, _, _, _, _, _, _, h⟩ := s.spoil_eq tk n c l; rw [h]
@[simp] theorem State.spoil_watchdog (s : State) (tk n c l : Nat) : (s.spoil tk n c l).watchdog = s.watchdog := by
  obtain ⟨_, _, _, _, _, _, _, h⟩ := s.spoil_eq tk n c l; rw [h]
@[simp] theorem State.spoil_params (s : State) (tk n c l : Nat) : (s.spoil tk n c l).params = s.params := by
  obtain ⟨_, _, _, _, _, _, _, h⟩ := s.spoil_eq tk n c l; rw [h]
@[simp] theorem State.spoil_removed (s : State) (tk n c l : Nat) : (s.spoil tk n c l).removed = s.removed := by
  obtain ⟨_, _, _, _, _, _, _, h⟩ := s.spoil_eq tk n c l; rw [h]
@[simp] theorem State.spoil_promotions (s : State) (tk n c l : Nat) : (s.spoil tk n c l).promotions = s.promotions := by
  obtain ⟨_, _, _, _, _, _, _, h⟩ := s.spoil_eq tk n c l; rw [h]
@[simp] theorem State.spoil_ageNew (s : State) (tk n c l : Nat) : (s.spoil tk n c l).ageNew = s.ageNew := by
  obtain ⟨_, _, _, _, _, _, _, h⟩ := s.spoil_eq tk n c l; rw [h]
@[simp] theorem State.spoil_aon (s : State) (tk n c l : Nat) : (s.spoil tk n c l).aon = s.aon := by
  obtain ⟨_, _, _, _, _, _, _, h⟩ := s.spoil_eq tk n c l; rw [h]
@[simp] theorem State.spoil_clk (s : State) (tk n c l : Nat) : (s.spoil tk n c l).clk = s.clk := by
  obtain ⟨_, _, _, _, _, _, _, h⟩ := s.spoil_eq tk n c l; rw [h]
@[simp] theorem State.spoil_store (s : State) (tk n c l : Nat) : (s.spoil tk n c l).store = s.store := by
  obtain ⟨_, _, _, _, _, _, _, h⟩ := s.spoil_eq tk n c l; rw [h]
@[simp] theorem State.spoil_video (s : State) (tk n c l : Nat) : (s.spoil tk n c l).video = s.video := by
  obtain ⟨_, _, _, _, _, _, _, h⟩ := s.spoil_eq tk n c l; rw [h]
@[simp] theorem State.spoil_drive (s : State) (tk n c l : Nat) : (s.spoil tk n c l).drive = s.drive := by
  obtain ⟨_, _, _, _, _, _, _, h⟩ := s.spoil_eq tk n c l; rw [h]
@[simp] theorem State.spoil_rails (s : State) (tk n c l : Nat) : (s.spoil tk n c l).rails = s.rails := by
  obtain ⟨_, _, _, _, _, _, _, h⟩ := s.spoil_eq tk n c l; rw [h]
@[simp] theorem State.spoil_therm (s : State) (tk n c l : Nat) : (s.spoil tk n c l).therm = s.therm := by
  obtain ⟨_, _, _, _, _, _, _, h⟩ := s.spoil_eq tk n c l; rw [h]
@[simp] theorem State.spoil_mems (s : State) (tk n c l : Nat) : (s.spoil tk n c l).mems = s.mems := by
  obtain ⟨_, _, _, _, _, _, _, h⟩ := s.spoil_eq tk n c l; rw [h]
@[simp] theorem State.spoil_io (s : State) (tk n c l : Nat) : (s.spoil tk n c l).io = s.io := by
  obtain ⟨_, _, _, _, _, _, _, h⟩ := s.spoil_eq tk n c l; rw [h]
@[simp] theorem State.spoil_out (s : State) (tk n c l : Nat) : (s.spoil tk n c l).out = s.out := by
  obtain ⟨_, _, _, _, _, _, _, h⟩ := s.spoil_eq tk n c l; rw [h]
@[simp] theorem State.spoil_host_linkUp (s : State) (tk n c l : Nat) : (s.spoil tk n c l).host.linkUp = s.host.linkUp := by
  obtain ⟨_, _, _, _, _, _, _, h⟩ := s.spoil_eq tk n c l; rw [h]
@[simp] theorem State.spoil_host_perst (s : State) (tk n c l : Nat) : (s.spoil tk n c l).host.perst = s.host.perst := by
  obtain ⟨_, _, _, _, _, _, _, h⟩ := s.spoil_eq tk n c l; rw [h]
@[simp] theorem State.spoil_host_training (s : State) (tk n c l : Nat) : (s.spoil tk n c l).host.training = s.host.training := by
  obtain ⟨_, _, _, _, _, _, _, h⟩ := s.spoil_eq tk n c l; rw [h]
@[simp] theorem State.spoil_host_rings (s : State) (tk n c l : Nat) : (s.spoil tk n c l).host.rings = s.host.rings := by
  obtain ⟨_, _, _, _, _, _, _, h⟩ := s.spoil_eq tk n c l; rw [h]
@[simp] theorem State.spoil_host_msixEn (s : State) (tk n c l : Nat) : (s.spoil tk n c l).host.msixEn = s.host.msixEn := by
  obtain ⟨_, _, _, _, _, _, _, h⟩ := s.spoil_eq tk n c l; rw [h]
@[simp] theorem State.spoil_host_msix (s : State) (tk n c l : Nat) : (s.spoil tk n c l).host.msix = s.host.msix := by
  obtain ⟨_, _, _, _, _, _, _, h⟩ := s.spoil_eq tk n c l; rw [h]
@[simp] theorem State.spoil_host_pba (s : State) (tk n c l : Nat) : (s.spoil tk n c l).host.pba = s.host.pba := by
  obtain ⟨_, _, _, _, _, _, _, h⟩ := s.spoil_eq tk n c l; rw [h]
@[simp] theorem State.spoil_host_routes (s : State) (tk n c l : Nat) : (s.spoil tk n c l).host.routes = s.host.routes := by
  obtain ⟨_, _, _, _, _, _, _, h⟩ := s.spoil_eq tk n c l; rw [h]
@[simp] theorem State.spoil_host_tempoHi (s : State) (tk n c l : Nat) : (s.spoil tk n c l).host.tempoHi = s.host.tempoHi := by
  obtain ⟨_, _, _, _, _, _, _, h⟩ := s.spoil_eq tk n c l; rw [h]
@[simp] theorem State.spoil_host_helloPosted (s : State) (tk n c l : Nat) : (s.spoil tk n c l).host.helloPosted = s.host.helloPosted := by
  obtain ⟨_, _, _, _, _, _, _, h⟩ := s.spoil_eq tk n c l; rw [h]
@[simp] theorem State.spoil_host_discarded (s : State) (tk n c l : Nat) : (s.spoil tk n c l).host.discarded = s.host.discarded := by
  obtain ⟨_, _, _, _, _, _, _, h⟩ := s.spoil_eq tk n c l; rw [h]
@[simp] theorem State.spoil_host_linkNote (s : State) (tk n c l : Nat) : (s.spoil tk n c l).host.linkNote = s.host.linkNote := by
  obtain ⟨_, _, _, _, _, _, _, h⟩ := s.spoil_eq tk n c l; rw [h]
@[simp] theorem State.spoil_host_rates (s : State) (tk n c l : Nat) : (s.spoil tk n c l).host.rates = s.host.rates := by
  obtain ⟨_, _, _, _, _, _, _, h⟩ := s.spoil_eq tk n c l; rw [h]
@[simp] theorem State.spoil_ring (s : State) (tk n c l : Nat) (j : Nat) : (s.spoil tk n c l).ring j = s.ring j := by
  obtain ⟨_, _, _, _, _, _, _, h⟩ := s.spoil_eq tk n c l; rw [h]; rfl
@[simp] theorem State.spoil_pll (s : State) (tk n c l : Nat) (j : Nat) : (s.spoil tk n c l).pll j = s.pll j := by
  obtain ⟨_, _, _, _, _, _, _, h⟩ := s.spoil_eq tk n c l; rw [h]; rfl
@[simp] theorem State.spoil_gear (s : State) (tk n c l : Nat) (j : Nat) : (s.spoil tk n c l).gear j = s.gear j := by
  obtain ⟨_, _, _, _, _, _, _, h⟩ := s.spoil_eq tk n c l; rw [h]; rfl
@[simp] theorem State.spoil_enc (s : State) (tk n c l : Nat) (j : Nat) : (s.spoil tk n c l).enc j = s.enc j := by
  obtain ⟨_, _, _, _, _, _, _, h⟩ := s.spoil_eq tk n c l; rw [h]; rfl
@[simp] theorem State.spoil_gpio (s : State) (tk n c l : Nat) (j : Nat) : (s.spoil tk n c l).gpio j = s.gpio j := by
  obtain ⟨_, _, _, _, _, _, _, h⟩ := s.spoil_eq tk n c l; rw [h]; rfl
@[simp] theorem State.spoil_castle (s : State) (tk n c l : Nat) (j : Nat) : (s.spoil tk n c l).castle j = s.castle j := by
  obtain ⟨_, _, _, _, _, _, _, h⟩ := s.spoil_eq tk n c l; rw [h]; rfl
@[simp] theorem State.spoil_page (s : State) (tk n c l : Nat) (j : Nat) : (s.spoil tk n c l).page j = s.page j := by
  obtain ⟨_, _, _, _, _, _, _, h⟩ := s.spoil_eq tk n c l; rw [h]; rfl
@[simp] theorem State.spoil_dma (s : State) (tk n c l : Nat) (j : Nat) : (s.spoil tk n c l).dma j = s.dma j := by
  obtain ⟨_, _, _, _, _, _, _, h⟩ := s.spoil_eq tk n c l; rw [h]; rfl
@[simp] theorem State.spoil_station (s : State) (tk n c l : Nat) (j : Nat) : (s.spoil tk n c l).station j = s.station j := by
  obtain ⟨_, _, _, _, _, _, _, h⟩ := s.spoil_eq tk n c l; rw [h]; rfl
@[simp] theorem State.spoil_lane (s : State) (tk n c l : Nat) (j : Nat) : (s.spoil tk n c l).lane j = s.lane j := by
  obtain ⟨_, _, _, _, _, _, _, h⟩ := s.spoil_eq tk n c l; rw [h]; rfl
@[simp] theorem State.spoil_beam (s : State) (tk n c l : Nat) (j : Nat) : (s.spoil tk n c l).beam j = s.beam j := by
  obtain ⟨_, _, _, _, _, _, _, h⟩ := s.spoil_eq tk n c l; rw [h]; rfl
@[simp] theorem State.spoil_link (s : State) (tk n c l : Nat) (j : Nat) : (s.spoil tk n c l).link j = s.link j := by
  obtain ⟨_, _, _, _, _, _, _, h⟩ := s.spoil_eq tk n c l; rw [h]; rfl
@[simp] theorem State.spoil_tile (s : State) (tk n c l : Nat) (j : Nat) : (s.spoil tk n c l).tile j = s.tile j := by
  obtain ⟨_, _, _, _, _, _, _, h⟩ := s.spoil_eq tk n c l; rw [h]; rfl
@[simp] theorem State.spoil_bus (s : State) (tk n c l : Nat) (j : Nat) : (s.spoil tk n c l).bus j = s.bus j := by
  obtain ⟨_, _, _, _, _, _, _, h⟩ := s.spoil_eq tk n c l; rw [h]; rfl
@[simp] theorem State.spoil_group (s : State) (tk n c l : Nat) (j : Nat) : (s.spoil tk n c l).group j = s.group j := by
  obtain ⟨_, _, _, _, _, _, _, h⟩ := s.spoil_eq tk n c l; rw [h]; rfl
@[simp] theorem State.spoil_axis (s : State) (tk n c l : Nat) (j : Nat) : (s.spoil tk n c l).axis j = s.axis j := by
  obtain ⟨_, _, _, _, _, _, _, h⟩ := s.spoil_eq tk n c l; rw [h]; rfl
@[simp] theorem State.spoil_poly (s : State) (tk n c l : Nat) (j : Nat) : (s.spoil tk n c l).poly j = s.poly j := by
  obtain ⟨_, _, _, _, _, _, _, h⟩ := s.spoil_eq tk n c l; rw [h]; rfl
@[simp] theorem State.spoil_loop (s : State) (tk n c l : Nat) (j : Nat) : (s.spoil tk n c l).loop j = s.loop j := by
  obtain ⟨_, _, _, _, _, _, _, h⟩ := s.spoil_eq tk n c l; rw [h]; rfl
@[simp] theorem State.spoil_heat (s : State) (tk n c l : Nat) (j : Nat) : (s.spoil tk n c l).heat j = s.heat j := by
  obtain ⟨_, _, _, _, _, _, _, h⟩ := s.spoil_eq tk n c l; rw [h]; rfl
@[simp] theorem State.spoil_leg (s : State) (tk n c l : Nat) (j : Nat) : (s.spoil tk n c l).leg j = s.leg j := by
  obtain ⟨_, _, _, _, _, _, _, h⟩ := s.spoil_eq tk n c l; rw [h]; rfl
@[simp] theorem State.spoil_rail (s : State) (tk n c l : Nat) (j : Nat) : (s.spoil tk n c l).rail j = s.rail j := by
  obtain ⟨_, _, _, _, _, _, _, h⟩ := s.spoil_eq tk n c l; rw [h]; rfl
@[simp] theorem State.spoil_sensor (s : State) (tk n c l : Nat) (j : Nat) : (s.spoil tk n c l).sensor j = s.sensor j := by
  obtain ⟨_, _, _, _, _, _, _, h⟩ := s.spoil_eq tk n c l; rw [h]; rfl
@[simp] theorem State.spoil_mem (s : State) (tk n c l : Nat) (j : Nat) : (s.spoil tk n c l).mem j = s.mem j := by
  obtain ⟨_, _, _, _, _, _, _, h⟩ := s.spoil_eq tk n c l; rw [h]; rfl
@[simp] theorem State.spoil_par (s : State) (tk n c l : Nat) (x y z : Nat) : (s.spoil tk n c l).par x y z = s.par x y z := by
  obtain ⟨_, _, _, _, _, _, _, h⟩ := s.spoil_eq tk n c l; rw [h]; rfl

/-! ### signal -/

@[simp] theorem State.signal_die (s : State) (v : Nat) : (s.signal v).die = s.die := by
  obtain ⟨_, _, h⟩ := s.signal_eq v; rw [h]
@[simp] theorem State.signal_free (s : State) (v : Nat) : (s.signal v).free = s.free := by
  obtain ⟨_, _, h⟩ := s.signal_eq v; rw [h]
@[simp] theorem State.signal_pending (s : State) (v : Nat) : (s.signal v).pending = s.pending := by
  obtain ⟨_, _, h⟩ := s.signal_eq v; rw [h]
@[simp] theorem State.signal_jtag (s : State) (v : Nat) : (s.signal v).jtag = s.jtag := by
  obtain ⟨_, _, h⟩ := s.signal_eq v; rw [h]
@[simp] theorem State.signal_place (s : State) (v : Nat) : (s.signal v).place = s.place := by
  obtain ⟨_, _, h⟩ := s.signal_eq v; rw [h]
@[simp] theorem State.signal_snap (s : State) (v : Nat) : (s.signal v).snap = s.snap := by
  obtain ⟨_, _, h⟩ := s.signal_eq v; rw [h]
@[simp] theorem State.signal_tempo (s : State) (v : Nat) : (s.signal v).tempo = s.tempo := by
  obtain ⟨_, _, h⟩ := s.signal_eq v; rw [h]
@[simp] theorem State.signal_running (s : State) (v : Nat) : (s.signal v).running = s.running := by
  obtain ⟨_, _, h⟩ := s.signal_eq v; rw [h]
@[simp] theorem State.signal_follower (s : State) (v : Nat) : (s.signal v).follower = s.follower := by
  obtain ⟨_, _, h⟩ := s.signal_eq v; rw [h]
@[simp] theorem State.signal_md (s : State) (v : Nat) : (s.signal v).md = s.md := by
  obtain ⟨_, _, h⟩ := s.signal_eq v; rw [h]
@[simp] theorem State.signal_faults (s : State) (v : Nat) : (s.signal v).faults = s.faults := by
  obtain ⟨_, _, h⟩ := s.signal_eq v; rw [h]
@[simp] theorem State.signal_firstCode (s : State) (v : Nat) : (s.signal v).firstCode = s.firstCode := by
  obtain ⟨_, _, h⟩ := s.signal_eq v; rw [h]
@[simp] theorem State.signal_firstTempo (s : State) (v : Nat) : (s.signal v).firstTempo = s.firstTempo := by
  obtain ⟨_, _, h⟩ := s.signal_eq v; rw [h]
@[simp] theorem State.signal_thermTrip (s : State) (v : Nat) : (s.signal v).thermTrip = s.thermTrip := by
  obtain ⟨_, _, h⟩ := s.signal_eq v; rw [h]
@[simp] theorem State.signal_watchdog (s : State) (v : Nat) : (s.signal v).watchdog = s.watchdog := by
  obtain ⟨_, _, h⟩ := s.signal_eq v; rw [h]
@[simp] theorem State.signal_params (s : State) (v : Nat) : (s.signal v).params = s.params := by
  obtain ⟨_, _, h⟩ := s.signal_eq v; rw [h]
@[simp] theorem State.signal_removed (s : State) (v : Nat) : (s.signal v).removed = s.removed := by
  obtain ⟨_, _, h⟩ := s.signal_eq v; rw [h]
@[simp] theorem State.signal_promotions (s : State) (v : Nat) : (s.signal v).promotions = s.promotions := by
  obtain ⟨_, _, h⟩ := s.signal_eq v; rw [h]
@[simp] theorem State.signal_ageNew (s : State) (v : Nat) : (s.signal v).ageNew = s.ageNew := by
  obtain ⟨_, _, h⟩ := s.signal_eq v; rw [h]
@[simp] theorem State.signal_aon (s : State) (v : Nat) : (s.signal v).aon = s.aon := by
  obtain ⟨_, _, h⟩ := s.signal_eq v; rw [h]
@[simp] theorem State.signal_sheets (s : State) (v : Nat) : (s.signal v).sheets = s.sheets := by
  obtain ⟨_, _, h⟩ := s.signal_eq v; rw [h]
@[simp] theorem State.signal_clk (s : State) (v : Nat) : (s.signal v).clk = s.clk := by
  obtain ⟨_, _, h⟩ := s.signal_eq v; rw [h]
@[simp] theorem State.signal_store (s : State) (v : Nat) : (s.signal v).store = s.store := by
  obtain ⟨_, _, h⟩ := s.signal_eq v; rw [h]
@[simp] theorem State.signal_video (s : State) (v : Nat) : (s.signal v).video = s.video := by
  obtain ⟨_, _, h⟩ := s.signal_eq v; rw [h]
@[simp] theorem State.signal_drive (s : State) (v : Nat) : (s.signal v).drive = s.drive := by
  obtain ⟨_, _, h⟩ := s.signal_eq v; rw [h]
@[simp] theorem State.signal_rails (s : State) (v : Nat) : (s.signal v).rails = s.rails := by
  obtain ⟨_, _, h⟩ := s.signal_eq v; rw [h]
@[simp] theorem State.signal_therm (s : State) (v : Nat) : (s.signal v).therm = s.therm := by
  obtain ⟨_, _, h⟩ := s.signal_eq v; rw [h]
@[simp] theorem State.signal_mems (s : State) (v : Nat) : (s.signal v).mems = s.mems := by
  obtain ⟨_, _, h⟩ := s.signal_eq v; rw [h]
@[simp] theorem State.signal_io (s : State) (v : Nat) : (s.signal v).io = s.io := by
  obtain ⟨_, _, h⟩ := s.signal_eq v; rw [h]
@[simp] theorem State.signal_host_linkUp (s : State) (v : Nat) : (s.signal v).host.linkUp = s.host.linkUp := by
  obtain ⟨_, _, h⟩ := s.signal_eq v; rw [h]
@[simp] theorem State.signal_host_perst (s : State) (v : Nat) : (s.signal v).host.perst = s.host.perst := by
  obtain ⟨_, _, h⟩ := s.signal_eq v; rw [h]
@[simp] theorem State.signal_host_training (s : State) (v : Nat) : (s.signal v).host.training = s.host.training := by
  obtain ⟨_, _, h⟩ := s.signal_eq v; rw [h]
@[simp] theorem State.signal_host_rings (s : State) (v : Nat) : (s.signal v).host.rings = s.host.rings := by
  obtain ⟨_, _, h⟩ := s.signal_eq v; rw [h]
@[simp] theorem State.signal_host_backlog (s : State) (v : Nat) : (s.signal v).host.backlog = s.host.backlog := by
  obtain ⟨_, _, h⟩ := s.signal_eq v; rw [h]
@[simp] theorem State.signal_host_lostCount (s : State) (v : Nat) : (s.signal v).host.lostCount = s.host.lostCount := by
  obtain ⟨_, _, h⟩ := s.signal_eq v; rw [h]
@[simp] theorem State.signal_host_lostTempo (s : State) (v : Nat) : (s.signal v).host.lostTempo = s.host.lostTempo := by
  obtain ⟨_, _, h⟩ := s.signal_eq v; rw [h]
@[simp] theorem State.signal_host_msixEn (s : State) (v : Nat) : (s.signal v).host.msixEn = s.host.msixEn := by
  obtain ⟨_, _, h⟩ := s.signal_eq v; rw [h]
@[simp] theorem State.signal_host_msix (s : State) (v : Nat) : (s.signal v).host.msix = s.host.msix := by
  obtain ⟨_, _, h⟩ := s.signal_eq v; rw [h]
@[simp] theorem State.signal_host_routes (s : State) (v : Nat) : (s.signal v).host.routes = s.host.routes := by
  obtain ⟨_, _, h⟩ := s.signal_eq v; rw [h]
@[simp] theorem State.signal_host_tempoHi (s : State) (v : Nat) : (s.signal v).host.tempoHi = s.host.tempoHi := by
  obtain ⟨_, _, h⟩ := s.signal_eq v; rw [h]
@[simp] theorem State.signal_host_helloPosted (s : State) (v : Nat) : (s.signal v).host.helloPosted = s.host.helloPosted := by
  obtain ⟨_, _, h⟩ := s.signal_eq v; rw [h]
@[simp] theorem State.signal_host_discarded (s : State) (v : Nat) : (s.signal v).host.discarded = s.host.discarded := by
  obtain ⟨_, _, h⟩ := s.signal_eq v; rw [h]
@[simp] theorem State.signal_host_linkNote (s : State) (v : Nat) : (s.signal v).host.linkNote = s.host.linkNote := by
  obtain ⟨_, _, h⟩ := s.signal_eq v; rw [h]
@[simp] theorem State.signal_host_rates (s : State) (v : Nat) : (s.signal v).host.rates = s.host.rates := by
  obtain ⟨_, _, h⟩ := s.signal_eq v; rw [h]
@[simp] theorem State.signal_ring (s : State) (v : Nat) (j : Nat) : (s.signal v).ring j = s.ring j := by
  obtain ⟨_, _, h⟩ := s.signal_eq v; rw [h]; rfl
@[simp] theorem State.signal_pll (s : State) (v : Nat) (j : Nat) : (s.signal v).pll j = s.pll j := by
  obtain ⟨_, _, h⟩ := s.signal_eq v; rw [h]; rfl
@[simp] theorem State.signal_gear (s : State) (v : Nat) (j : Nat) : (s.signal v).gear j = s.gear j := by
  obtain ⟨_, _, h⟩ := s.signal_eq v; rw [h]; rfl
@[simp] theorem State.signal_enc (s : State) (v : Nat) (j : Nat) : (s.signal v).enc j = s.enc j := by
  obtain ⟨_, _, h⟩ := s.signal_eq v; rw [h]; rfl
@[simp] theorem State.signal_gpio (s : State) (v : Nat) (j : Nat) : (s.signal v).gpio j = s.gpio j := by
  obtain ⟨_, _, h⟩ := s.signal_eq v; rw [h]; rfl
@[simp] theorem State.signal_castle (s : State) (v : Nat) (j : Nat) : (s.signal v).castle j = s.castle j := by
  obtain ⟨_, _, h⟩ := s.signal_eq v; rw [h]; rfl
@[simp] theorem State.signal_ticket (s : State) (v : Nat) (j : Nat) : (s.signal v).ticket j = s.ticket j := by
  obtain ⟨_, _, h⟩ := s.signal_eq v; rw [h]; rfl
@[simp] theorem State.signal_page (s : State) (v : Nat) (j : Nat) : (s.signal v).page j = s.page j := by
  obtain ⟨_, _, h⟩ := s.signal_eq v; rw [h]; rfl
@[simp] theorem State.signal_dma (s : State) (v : Nat) (j : Nat) : (s.signal v).dma j = s.dma j := by
  obtain ⟨_, _, h⟩ := s.signal_eq v; rw [h]; rfl
@[simp] theorem State.signal_station (s : State) (v : Nat) (j : Nat) : (s.signal v).station j = s.station j := by
  obtain ⟨_, _, h⟩ := s.signal_eq v; rw [h]; rfl
@[simp] theorem State.signal_lane (s : State) (v : Nat) (j : Nat) : (s.signal v).lane j = s.lane j := by
  obtain ⟨_, _, h⟩ := s.signal_eq v; rw [h]; rfl
@[simp] theorem State.signal_beam (s : State) (v : Nat) (j : Nat) : (s.signal v).beam j = s.beam j := by
  obtain ⟨_, _, h⟩ := s.signal_eq v; rw [h]; rfl
@[simp] theorem State.signal_link (s : State) (v : Nat) (j : Nat) : (s.signal v).link j = s.link j := by
  obtain ⟨_, _, h⟩ := s.signal_eq v; rw [h]; rfl
@[simp] theorem State.signal_tile (s : State) (v : Nat) (j : Nat) : (s.signal v).tile j = s.tile j := by
  obtain ⟨_, _, h⟩ := s.signal_eq v; rw [h]; rfl
@[simp] theorem State.signal_bus (s : State) (v : Nat) (j : Nat) : (s.signal v).bus j = s.bus j := by
  obtain ⟨_, _, h⟩ := s.signal_eq v; rw [h]; rfl
@[simp] theorem State.signal_group (s : State) (v : Nat) (j : Nat) : (s.signal v).group j = s.group j := by
  obtain ⟨_, _, h⟩ := s.signal_eq v; rw [h]; rfl
@[simp] theorem State.signal_axis (s : State) (v : Nat) (j : Nat) : (s.signal v).axis j = s.axis j := by
  obtain ⟨_, _, h⟩ := s.signal_eq v; rw [h]; rfl
@[simp] theorem State.signal_poly (s : State) (v : Nat) (j : Nat) : (s.signal v).poly j = s.poly j := by
  obtain ⟨_, _, h⟩ := s.signal_eq v; rw [h]; rfl
@[simp] theorem State.signal_loop (s : State) (v : Nat) (j : Nat) : (s.signal v).loop j = s.loop j := by
  obtain ⟨_, _, h⟩ := s.signal_eq v; rw [h]; rfl
@[simp] theorem State.signal_heat (s : State) (v : Nat) (j : Nat) : (s.signal v).heat j = s.heat j := by
  obtain ⟨_, _, h⟩ := s.signal_eq v; rw [h]; rfl
@[simp] theorem State.signal_leg (s : State) (v : Nat) (j : Nat) : (s.signal v).leg j = s.leg j := by
  obtain ⟨_, _, h⟩ := s.signal_eq v; rw [h]; rfl
@[simp] theorem State.signal_rail (s : State) (v : Nat) (j : Nat) : (s.signal v).rail j = s.rail j := by
  obtain ⟨_, _, h⟩ := s.signal_eq v; rw [h]; rfl
@[simp] theorem State.signal_sensor (s : State) (v : Nat) (j : Nat) : (s.signal v).sensor j = s.sensor j := by
  obtain ⟨_, _, h⟩ := s.signal_eq v; rw [h]; rfl
@[simp] theorem State.signal_mem (s : State) (v : Nat) (j : Nat) : (s.signal v).mem j = s.mem j := by
  obtain ⟨_, _, h⟩ := s.signal_eq v; rw [h]; rfl
@[simp] theorem State.signal_par (s : State) (v : Nat) (x y z : Nat) : (s.signal v).par x y z = s.par x y z := by
  obtain ⟨_, _, h⟩ := s.signal_eq v; rw [h]; rfl

/-! ### post -/

@[simp] theorem State.post_die (s : State) (r : Reply) (c i : Nat) (d : Bytes) : (s.post r c i d).die = s.die := rfl
@[simp] theorem State.post_free (s : State) (r : Reply) (c i : Nat) (d : Bytes) : (s.post r c i d).free = s.free := rfl
@[simp] theorem State.post_pending (s : State) (r : Reply) (c i : Nat) (d : Bytes) : (s.post r c i d).pending = s.pending := rfl
@[simp] theorem State.post_jtag (s : State) (r : Reply) (c i : Nat) (d : Bytes) : (s.post r c i d).jtag = s.jtag := rfl
@[simp] theorem State.post_place (s : State) (r : Reply) (c i : Nat) (d : Bytes) : (s.post r c i d).place = s.place := rfl
@[simp] theorem State.post_snap (s : State) (r : Reply) (c i : Nat) (d : Bytes) : (s.post r c i d).snap = s.snap := rfl
@[simp] theorem State.post_tempo (s : State) (r : Reply) (c i : Nat) (d : Bytes) : (s.post r c i d).tempo = s.tempo := rfl
@[simp] theorem State.post_running (s : State) (r : Reply) (c i : Nat) (d : Bytes) : (s.post r c i d).running = s.running := rfl
@[simp] theorem State.post_follower (s : State) (r : Reply) (c i : Nat) (d : Bytes) : (s.post r c i d).follower = s.follower := rfl
@[simp] theorem State.post_md (s : State) (r : Reply) (c i : Nat) (d : Bytes) : (s.post r c i d).md = s.md := rfl
@[simp] theorem State.post_faults (s : State) (r : Reply) (c i : Nat) (d : Bytes) : (s.post r c i d).faults = s.faults := rfl
@[simp] theorem State.post_firstCode (s : State) (r : Reply) (c i : Nat) (d : Bytes) : (s.post r c i d).firstCode = s.firstCode := rfl
@[simp] theorem State.post_firstTempo (s : State) (r : Reply) (c i : Nat) (d : Bytes) : (s.post r c i d).firstTempo = s.firstTempo := rfl
@[simp] theorem State.post_thermTrip (s : State) (r : Reply) (c i : Nat) (d : Bytes) : (s.post r c i d).thermTrip = s.thermTrip := rfl
@[simp] theorem State.post_watchdog (s : State) (r : Reply) (c i : Nat) (d : Bytes) : (s.post r c i d).watchdog = s.watchdog := rfl
@[simp] theorem State.post_params (s : State) (r : Reply) (c i : Nat) (d : Bytes) : (s.post r c i d).params = s.params := rfl
@[simp] theorem State.post_removed (s : State) (r : Reply) (c i : Nat) (d : Bytes) : (s.post r c i d).removed = s.removed := rfl
@[simp] theorem State.post_promotions (s : State) (r : Reply) (c i : Nat) (d : Bytes) : (s.post r c i d).promotions = s.promotions := rfl
@[simp] theorem State.post_ageNew (s : State) (r : Reply) (c i : Nat) (d : Bytes) : (s.post r c i d).ageNew = s.ageNew := rfl
@[simp] theorem State.post_aon (s : State) (r : Reply) (c i : Nat) (d : Bytes) : (s.post r c i d).aon = s.aon := rfl
@[simp] theorem State.post_sheets (s : State) (r : Reply) (c i : Nat) (d : Bytes) : (s.post r c i d).sheets = s.sheets := rfl
@[simp] theorem State.post_clk (s : State) (r : Reply) (c i : Nat) (d : Bytes) : (s.post r c i d).clk = s.clk := rfl
@[simp] theorem State.post_store (s : State) (r : Reply) (c i : Nat) (d : Bytes) : (s.post r c i d).store = s.store := rfl
@[simp] theorem State.post_video (s : State) (r : Reply) (c i : Nat) (d : Bytes) : (s.post r c i d).video = s.video := rfl
@[simp] theorem State.post_drive (s : State) (r : Reply) (c i : Nat) (d : Bytes) : (s.post r c i d).drive = s.drive := rfl
@[simp] theorem State.post_rails (s : State) (r : Reply) (c i : Nat) (d : Bytes) : (s.post r c i d).rails = s.rails := rfl
@[simp] theorem State.post_therm (s : State) (r : Reply) (c i : Nat) (d : Bytes) : (s.post r c i d).therm = s.therm := rfl
@[simp] theorem State.post_mems (s : State) (r : Reply) (c i : Nat) (d : Bytes) : (s.post r c i d).mems = s.mems := rfl
@[simp] theorem State.post_io (s : State) (r : Reply) (c i : Nat) (d : Bytes) : (s.post r c i d).io = s.io := rfl
@[simp] theorem State.post_out (s : State) (r : Reply) (c i : Nat) (d : Bytes) : (s.post r c i d).out = s.out := rfl
@[simp] theorem State.post_host_linkUp (s : State) (r : Reply) (c i : Nat) (d : Bytes) : (s.post r c i d).host.linkUp = s.host.linkUp := rfl
@[simp] theorem State.post_host_perst (s : State) (r : Reply) (c i : Nat) (d : Bytes) : (s.post r c i d).host.perst = s.host.perst := rfl
@[simp] theorem State.post_host_training (s : State) (r : Reply) (c i : Nat) (d : Bytes) : (s.post r c i d).host.training = s.host.training := rfl
@[simp] theorem State.post_host_backlog (s : State) (r : Reply) (c i : Nat) (d : Bytes) : (s.post r c i d).host.backlog = s.host.backlog := rfl
@[simp] theorem State.post_host_lostCount (s : State) (r : Reply) (c i : Nat) (d : Bytes) : (s.post r c i d).host.lostCount = s.host.lostCount := rfl
@[simp] theorem State.post_host_lostTempo (s : State) (r : Reply) (c i : Nat) (d : Bytes) : (s.post r c i d).host.lostTempo = s.host.lostTempo := rfl
@[simp] theorem State.post_host_msixEn (s : State) (r : Reply) (c i : Nat) (d : Bytes) : (s.post r c i d).host.msixEn = s.host.msixEn := rfl
@[simp] theorem State.post_host_msix (s : State) (r : Reply) (c i : Nat) (d : Bytes) : (s.post r c i d).host.msix = s.host.msix := rfl
@[simp] theorem State.post_host_pba (s : State) (r : Reply) (c i : Nat) (d : Bytes) : (s.post r c i d).host.pba = s.host.pba := rfl
@[simp] theorem State.post_host_routes (s : State) (r : Reply) (c i : Nat) (d : Bytes) : (s.post r c i d).host.routes = s.host.routes := rfl
@[simp] theorem State.post_host_tempoHi (s : State) (r : Reply) (c i : Nat) (d : Bytes) : (s.post r c i d).host.tempoHi = s.host.tempoHi := rfl
@[simp] theorem State.post_host_helloPosted (s : State) (r : Reply) (c i : Nat) (d : Bytes) : (s.post r c i d).host.helloPosted = s.host.helloPosted := rfl
@[simp] theorem State.post_host_discarded (s : State) (r : Reply) (c i : Nat) (d : Bytes) : (s.post r c i d).host.discarded = s.host.discarded := rfl
@[simp] theorem State.post_host_linkNote (s : State) (r : Reply) (c i : Nat) (d : Bytes) : (s.post r c i d).host.linkNote = s.host.linkNote := rfl
@[simp] theorem State.post_host_rates (s : State) (r : Reply) (c i : Nat) (d : Bytes) : (s.post r c i d).host.rates = s.host.rates := rfl
@[simp] theorem State.post_pll (s : State) (r : Reply) (c i : Nat) (d : Bytes) (j : Nat) : (s.post r c i d).pll j = s.pll j := rfl
@[simp] theorem State.post_gear (s : State) (r : Reply) (c i : Nat) (d : Bytes) (j : Nat) : (s.post r c i d).gear j = s.gear j := rfl
@[simp] theorem State.post_enc (s : State) (r : Reply) (c i : Nat) (d : Bytes) (j : Nat) : (s.post r c i d).enc j = s.enc j := rfl
@[simp] theorem State.post_gpio (s : State) (r : Reply) (c i : Nat) (d : Bytes) (j : Nat) : (s.post r c i d).gpio j = s.gpio j := rfl
@[simp] theorem State.post_castle (s : State) (r : Reply) (c i : Nat) (d : Bytes) (j : Nat) : (s.post r c i d).castle j = s.castle j := rfl
@[simp] theorem State.post_ticket (s : State) (r : Reply) (c i : Nat) (d : Bytes) (j : Nat) : (s.post r c i d).ticket j = s.ticket j := rfl
@[simp] theorem State.post_page (s : State) (r : Reply) (c i : Nat) (d : Bytes) (j : Nat) : (s.post r c i d).page j = s.page j := rfl
@[simp] theorem State.post_dma (s : State) (r : Reply) (c i : Nat) (d : Bytes) (j : Nat) : (s.post r c i d).dma j = s.dma j := rfl
@[simp] theorem State.post_station (s : State) (r : Reply) (c i : Nat) (d : Bytes) (j : Nat) : (s.post r c i d).station j = s.station j := rfl
@[simp] theorem State.post_lane (s : State) (r : Reply) (c i : Nat) (d : Bytes) (j : Nat) : (s.post r c i d).lane j = s.lane j := rfl
@[simp] theorem State.post_beam (s : State) (r : Reply) (c i : Nat) (d : Bytes) (j : Nat) : (s.post r c i d).beam j = s.beam j := rfl
@[simp] theorem State.post_link (s : State) (r : Reply) (c i : Nat) (d : Bytes) (j : Nat) : (s.post r c i d).link j = s.link j := rfl
@[simp] theorem State.post_tile (s : State) (r : Reply) (c i : Nat) (d : Bytes) (j : Nat) : (s.post r c i d).tile j = s.tile j := rfl
@[simp] theorem State.post_bus (s : State) (r : Reply) (c i : Nat) (d : Bytes) (j : Nat) : (s.post r c i d).bus j = s.bus j := rfl
@[simp] theorem State.post_group (s : State) (r : Reply) (c i : Nat) (d : Bytes) (j : Nat) : (s.post r c i d).group j = s.group j := rfl
@[simp] theorem State.post_axis (s : State) (r : Reply) (c i : Nat) (d : Bytes) (j : Nat) : (s.post r c i d).axis j = s.axis j := rfl
@[simp] theorem State.post_poly (s : State) (r : Reply) (c i : Nat) (d : Bytes) (j : Nat) : (s.post r c i d).poly j = s.poly j := rfl
@[simp] theorem State.post_loop (s : State) (r : Reply) (c i : Nat) (d : Bytes) (j : Nat) : (s.post r c i d).loop j = s.loop j := rfl
@[simp] theorem State.post_heat (s : State) (r : Reply) (c i : Nat) (d : Bytes) (j : Nat) : (s.post r c i d).heat j = s.heat j := rfl
@[simp] theorem State.post_leg (s : State) (r : Reply) (c i : Nat) (d : Bytes) (j : Nat) : (s.post r c i d).leg j = s.leg j := rfl
@[simp] theorem State.post_rail (s : State) (r : Reply) (c i : Nat) (d : Bytes) (j : Nat) : (s.post r c i d).rail j = s.rail j := rfl
@[simp] theorem State.post_sensor (s : State) (r : Reply) (c i : Nat) (d : Bytes) (j : Nat) : (s.post r c i d).sensor j = s.sensor j := rfl
@[simp] theorem State.post_mem (s : State) (r : Reply) (c i : Nat) (d : Bytes) (j : Nat) : (s.post r c i d).mem j = s.mem j := rfl
@[simp] theorem State.post_par (s : State) (r : Reply) (c i : Nat) (d : Bytes) (x y z : Nat) : (s.post r c i d).par x y z = s.par x y z := rfl

/-! ### Which units are there -/

theorem State.inService_congr {s t : State} (hd : t.die = s.die) (hr : t.removed = s.removed) (c i : Nat) :
    t.inService c i = s.inService c i := by
  unfold State.inService State.present State.nSt
  rw [hd, hr]

@[simp] theorem State.raise_inService (s : State) (e : Ev) (c i : Nat) : (s.raise e).inService c i = s.inService c i :=
  State.inService_congr (by simp) (by simp) c i
@[simp] theorem State.raiseLimited_inService (s : State) (e : Ev) (p n : Nat) (b : Bool) (c i : Nat) :
    (s.raiseLimited e p n b).inService c i = s.inService c i := State.inService_congr (by simp) (by simp) c i
@[simp] theorem State.spoil_inService (s : State) (tk st cause line c i : Nat) :
    (s.spoil tk st cause line).inService c i = s.inService c i := State.inService_congr (by simp) (by simp) c i
@[simp] theorem State.post_inService (s : State) (r : Reply) (x y : Nat) (d : Bytes) (c i : Nat) :
    (s.post r x y d).inService c i = s.inService c i := rfl
theorem State.ok_eq (s : State) (r : Reply) (d : Bytes) : s.ok r d = s.post r stOK noIndex d := rfl
theorem State.accepted_eq (s : State) (r : Reply) : s.accepted r = s.post r stACCEPTED noIndex [] := rfl

end Sys2Proof.Machine
end

