-- ==== Sys2Proof/Laws/Kept.lean ====
section
/-!
SUPPORT. What keeps a state kept (`Kept`: the queue and the die as they were, and the state sound): memories in their one form under
reads and writes, and the ways in which a state's other parts may change.
-/
namespace Sys2Proof.Machine
variable {q : List Instr} {d : Die} {s : State}

/-- A memory whose words are in their one form. -/
def Mem.wf (m : Mem) : Prop := Map.wf (fun _ => (none : Option (Nat × Nat))) m.words = true

theorem Memory.wf_iff {ms : Map Mem} :
    Memory.wf ms = true ↔ Map.wf (fun _ => ({} : Mem)) ms = true ∧ ∀ e ∈ ms, e.2.wf := by
  simp [Memory.wf, Mem.wf, List.all_eq_true]

theorem Memory.wf_get {ms : Map Mem} (h : Memory.wf ms = true) (k : Nat) : (Map.get (fun _ => ({} : Mem)) ms k).wf := by
  rcases Map.get_cases (d := fun _ => ({} : Mem)) ms k with h1 | h1
  · rw [h1]; rfl
  · exact (Memory.wf_iff.1 h).2 _ h1

theorem Memory.wf_put {ms : Map Mem} {k : Nat} {v : Mem} (h : Memory.wf ms = true) (hv : v.wf) :
    Memory.wf (Map.put (fun _ => {}) ms k v) = true := by
  rw [Memory.wf_iff] at h ⊢
  exact ⟨Map.wf_put k v h.1, fun e he => (Map.mem_put he).elim (fun h1 => h1 ▸ hv) (h.2 e)⟩

theorem Memory.wf_mapV {ms : Map Mem} {f : Nat → Mem → Mem} (h : Memory.wf ms = true) (hf : ∀ i m, m.wf → (f i m).wf) :
    Memory.wf (Map.mapV (fun _ => {}) ms f) = true := by
  rw [Memory.wf_iff] at h ⊢
  refine ⟨Map.wfFrom_mapV f h.1, fun e he => ?_⟩
  simp only [Map.mapV, List.mem_filterMap, Option.ite_none_left_eq_some, Option.some.injEq] at he
  obtain ⟨x, hx, _, rfl⟩ := he
  exact hf _ _ (h.2 x hx)

/-- A state that differs from a kept one only in parts that `Kept` does not speak of is kept. -/
theorem Kept.mk' {t : State} (h : Kept q d s) (h1 : t.pending = s.pending) (h2 : t.die = s.die) (h3 : t.faults = s.faults)
    (h4 : t.firstCode = s.firstCode) (h5 : t.firstTempo = s.firstTempo) (h6 : t.host.backlog = s.host.backlog)
    (h7 : t.tempo = s.tempo) (h8 : t.mems = s.mems) : Kept q d t := by
  obtain ⟨a, b, c1, c2, c3, c4, c5⟩ := h
  exact ⟨h1 ▸ a, h2 ▸ b, h3 ▸ c1, h3 ▸ h4 ▸ h5 ▸ c2, h6 ▸ c3, h7 ▸ c4, h8 ▸ c5⟩

/-- Only what the device holds counts, not how far its tempo has come. -/
theorem Kept.base {t : State} (e : t.toBase = s.toBase) (h : Kept q d s) : Kept q d t :=
  h.mk' (congrArg Base.pending e) (congrArg Base.die e) (congrArg Base.faults e) (congrArg Base.firstCode e)
    (congrArg Base.firstTempo e) (congrArg (fun b => b.host.backlog) e) (congrArg Base.tempo e) (congrArg Base.mems e)

theorem Kept.ite2 {α : Type} {c : Prop} [Decidable c] {a b : α × State} (ha : Kept q d a.2) (hb : Kept q d b.2) :
    Kept q d (if c then a else b).2 := by
  split
  · exact ha
  · exact hb

theorem Kept.foldl {α : Type} {f : State → α → State} {xs : List α} (hf : ∀ u x, Kept q d u → Kept q d (f u x))
    (h : Kept q d s) : Kept q d (xs.foldl f s) := by
  induction xs generalizing s with
  | nil => exact h
  | cons x xs ih => exact ih (hf _ _ h)

theorem State.setMem_kept {k : Nat} {v : Mem} (hv : v.wf) (h : Kept q d s) : Kept q d (s.setMem k v) :=
  ⟨h.queue, h.die, h.sound.oneRecord, h.sound.firstZero, h.sound.backlog, h.sound.tempo, Memory.wf_put h.sound.memory hv⟩

theorem State.mem_wf (h : Kept q d s) (k : Nat) : (s.mem k).wf := Memory.wf_get h.sound.memory k

theorem State.updMem_kept {k : Nat} {f : Mem → Mem} (hf : ∀ m, m.wf → (f m).wf) (h : Kept q d s) : Kept q d (s.updMem k f) :=
  State.setMem_kept (hf _ (State.mem_wf h k)) h

/-- `Kept` as it depends on the parts of a state. -/
def KeptF (q : List Instr) (d : Die) (pending : List Instr) (die : Die) (faults : List FaultRec) (code : Nat) (first : Tempo)
    (backlog : List EvMsg) (tempo : Tempo) (mems : Map Mem) : Prop :=
  pending = q ∧ die = d ∧ (faults.map FaultRec.key).Nodup ∧ (faults = [] → code = 0 ∧ first = 0) ∧ backlog.length ≤ 512
    ∧ tempo < 2 ^ 64 ∧ Memory.wf mems = true

theorem Kept.mk_eq (b : Base) (place : Nat) (snap : Option Base) :
    Kept q d (State.mk b place snap) = KeptF q d b.pending b.die b.faults b.firstCode b.firstTempo b.host.backlog b.tempo b.mems :=
  propext ⟨fun h => ⟨h.queue, h.die, h.sound.oneRecord, h.sound.firstZero, h.sound.backlog, h.sound.tempo, h.sound.memory⟩,
    fun ⟨a, b, c1, c2, c3, c4, c5⟩ => ⟨a, b, c1, c2, c3, c4, c5⟩⟩

theorem KeptF.of (h : Kept q d s) :
    KeptF q d s.pending s.die s.faults s.firstCode s.firstTempo s.host.backlog s.tempo s.mems :=
  ⟨h.queue, h.die, h.sound.oneRecord, h.sound.firstZero, h.sound.backlog, h.sound.tempo, h.sound.memory⟩

theorem Kept.ofPair {α : Type} {p : α × State} {a : α} {t : State} (e : p = (a, t)) (h : Kept q d p.2) : Kept q d t := by
  subst e; exact h

theorem Kept.ofTriple {α β : Type} {p : α × β × State} {a : α} {b : β} {t : State} (e : p = (a, b, t)) (h : Kept q d p.2.2) :
    Kept q d t := by subst e; exact h

theorem insertEv_length (e : EvMsg) (xs : List EvMsg) : (insertEv e xs).length = xs.length + 1 := by
  induction xs with
  | nil => rfl
  | cons x xs ih => simp only [insertEv]; split <;> simp [ih]

theorem State.setMem_same {k : Nat} {v : Mem} (hv : v.words = (s.mem k).words) (h : Kept q d s) : Kept q d (s.setMem k v) :=
  State.setMem_kept (by have := State.mem_wf h k; unfold Mem.wf at *; rw [hv]; exact this) h

theorem State.updMem_same {k : Nat} {f : Mem → Mem} (hf : ∀ m, (f m).words = m.words) (h : Kept q d s) : Kept q d (s.updMem k f) :=
  State.setMem_same (hf _) h

theorem State.updMem_words {k w : Nat} {v : Option (Nat × Nat)} (h : Kept q d s) :
    Kept q d (s.updMem k (fun m => { m with words := Map.put (fun _ => none) m.words w v })) :=
  State.updMem_kept (fun _ hm => Map.wf_put _ _ hm) h

theorem foldl_pred {α β : Type} {P : β → Prop} {f : β → α → β} {xs : List α} {b : β} (hf : ∀ u x, P u → P (f u x)) (h : P b) :
    P (xs.foldl f b) := by
  induction xs generalizing b with
  | nil => exact h
  | cons x xs ih => exact ih (hf _ _ h)

end Sys2Proof.Machine
end

