-- ==== Sys2Proof/Machine/TestPort.lean ====
section
/-!
DEFINITION. The test port (R426): the test access port of IEEE 1149.1, its registers, and what the PX and VL_TX balls carry while it
drives them. No row of the table clocks it: RESET_N resets it in a run, and `State.tck` is one rising edge of TCK. (DESIGN CHOICE: assumption 45)
-/
namespace Sys2Proof.Machine

/-- The next state, by TMS (IEEE 1149.1). (PRESUMED: assumption 45) -/
def TapState.next : TapState → Bool → TapState
  | .reset, tms => if tms then .reset else .idle
  | .idle, tms | .updateDr, tms | .updateIr, tms => if tms then .selectDr else .idle
  | .selectDr, tms => if tms then .selectIr else .captureDr
  | .captureDr, tms | .shiftDr, tms => if tms then .exit1Dr else .shiftDr
  | .exit1Dr, tms => if tms then .updateDr else .pauseDr
  | .pauseDr, tms => if tms then .exit2Dr else .pauseDr
  | .exit2Dr, tms => if tms then .updateDr else .shiftDr
  | .selectIr, tms => if tms then .reset else .captureIr
  | .captureIr, tms | .shiftIr, tms => if tms then .exit1Ir else .shiftIr
  | .exit1Ir, tms => if tms then .updateIr else .pauseIr
  | .pauseIr, tms => if tms then .exit2Ir else .pauseIr
  | .exit2Ir, tms => if tms then .updateIr else .shiftIr

/-- Bits of the instruction register. -/
def irLength : Nat := 2 + Config.tapIrMore

/-- The instruction that a code selects: BYPASS for all ones, and for every code that selects none of the others. (PRESUMED: assumption 45) -/
def tapInstr (ir : List Bool) : TapInstr :=
  if ir.all (fun b => b) then .bypass
  else match Config.tapSelect ir with
    | 0 => .idcode | 1 => .sample | 2 => .extest | 3 => .clamp | 4 => .highz | _ => .bypass

/-- IDCODE: bit 0 is 1, and the part number is IDENT.DEVICE (R426). (PRESUMED: assumption 45) -/
def State.idcode (s : State) : Nat :=
  1 + Config.tapMaker % 2 ^ 11 * 2 ^ 1 + s.deviceId * 2 ^ 12 + Config.tapVersion % 2 ^ 4 * 2 ^ 28

/-- What the selected data register captures; `pins` are the levels at the boundary cells. -/
def State.tapCapture (s : State) (pins : List Bool) : List Bool := match s.jtag.instr with
  | .idcode => (List.range 32).map (bit s.idcode)
  | .sample | .extest => (List.range Config.tapCells).map (fun i => pins.getD i false)
  | _ => [false]

/-- The bit on TDO: that of the register being shifted. -/
def Tap.tdo (t : Tap) : Option Bool :=
  if t.state = .shiftDr ∨ t.state = .shiftIr then t.shift.head? else none

/-- One rising edge of TCK; RESET_N holds the port in its reset state (R426). (PRESUMED: assumption 45) -/
def State.tck (s : State) (tms tdi : Bool) (pins : List Bool) : State :=
  let t := s.jtag
  let t1 : Tap := match t.state with
    | .captureDr => { t with shift := s.tapCapture pins }
    | .captureIr => { t with shift := true :: List.replicate (irLength - 1) false }
    | .shiftDr | .shiftIr => { t with shift := t.shift.drop 1 ++ [tdi] }
    | _ => t
  let t2 : Tap := { t1 with state := t.state.next tms }
  let t3 : Tap := match t2.state with
    | .reset => { t2 with instr := .idcode }
    | .updateIr => { t2 with instr := tapInstr t2.shift }
    | .updateDr => if t2.instr = .sample ∨ t2.instr = .extest then { t2 with cells := t2.shift } else t2
    | _ => t2
  if s.aon.resetLow then { s with jtag := {} } else { s with jtag := t3 }

/-- The level that the device drives on a ball of boundary cell `i` whose own level is `own`: none at high impedance. `laser`: a PX or
VL_TX ball, which EXTEST leaves at its blanked level while an interlock input is high (R426). -/
def State.ball (s : State) (i : Nat) (laser : Bool) (own : Bool) : Option Bool := match s.jtag.instr with
  | .extest => some (if laser && (s.video.ilkA || s.video.ilkB) then false else s.jtag.cells.getD i false)
  | .clamp => some (s.jtag.cells.getD i false)
  | .highz => none
  | _ => some own

/-- The PX ball of a link. -/
def State.pxBall (s : State) (l : Nat) (own : Bool) : Option Bool := s.ball (Config.tapPxCell l) true own

/-- The VL_TX ball of a link; its blanked level is electrical idle. -/
def State.vlBall (s : State) (l : Nat) (own : Bool) : Option Bool := s.ball (Config.tapVlCell l) true own

end Sys2Proof.Machine
end

