-- ==== Sys2Proof/Laws/KeptOps1.lean ====
section
/-!
SUPPORT. Every operation on a state keeps it kept, part 1 of 4: one lemma per operation, callees before their callers.
-/
namespace Sys2Proof.Machine
variable {q : List Instr} {d : Die} {s : State}

theorem State.setRing_kept (k : Nat) (v : Ring) (h : Kept q d s) :
    Kept q d (State.setRing s k v) := by
  unfold State.setRing
  repeat' first | with_reducible assumption | (simp only [↓Kept.mk_eq]; with_reducible apply KeptF.of) | extract_lets x

theorem State.updRing_kept (k : Nat) (f : Ring → Ring) (h : Kept q d s) :
    Kept q d (State.updRing s k f) := by
  unfold State.updRing
  repeat' first | with_reducible assumption | with_reducible apply State.setRing_kept

theorem State.setPll_kept (k : Nat) (v : Pll) (h : Kept q d s) :
    Kept q d (State.setPll s k v) := by
  unfold State.setPll
  repeat' first | with_reducible assumption | (simp only [↓Kept.mk_eq]; with_reducible apply KeptF.of) | extract_lets x

theorem State.updPll_kept (k : Nat) (f : Pll → Pll) (h : Kept q d s) :
    Kept q d (State.updPll s k f) := by
  unfold State.updPll
  repeat' first | with_reducible assumption | with_reducible apply State.setPll_kept

theorem State.setGear_kept (k : Nat) (v : Gear) (h : Kept q d s) :
    Kept q d (State.setGear s k v) := by
  unfold State.setGear
  repeat' first | with_reducible assumption | (simp only [↓Kept.mk_eq]; with_reducible apply KeptF.of) | extract_lets x

theorem State.updGear_kept (k : Nat) (f : Gear → Gear) (h : Kept q d s) :
    Kept q d (State.updGear s k f) := by
  unfold State.updGear
  repeat' first | with_reducible assumption | with_reducible apply State.setGear_kept

theorem State.setEnc_kept (k : Nat) (v : Enc) (h : Kept q d s) :
    Kept q d (State.setEnc s k v) := by
  unfold State.setEnc
  repeat' first | with_reducible assumption | (simp only [↓Kept.mk_eq]; with_reducible apply KeptF.of) | extract_lets x

theorem State.updEnc_kept (k : Nat) (f : Enc → Enc) (h : Kept q d s) :
    Kept q d (State.updEnc s k f) := by
  unfold State.updEnc
  repeat' first | with_reducible assumption | with_reducible apply State.setEnc_kept

theorem State.setGpio_kept (k : Nat) (v : Gpio) (h : Kept q d s) :
    Kept q d (State.setGpio s k v) := by
  unfold State.setGpio
  repeat' first | with_reducible assumption | (simp only [↓Kept.mk_eq]; with_reducible apply KeptF.of) | extract_lets x

theorem State.updGpio_kept (k : Nat) (f : Gpio → Gpio) (h : Kept q d s) :
    Kept q d (State.updGpio s k f) := by
  unfold State.updGpio
  repeat' first | with_reducible assumption | with_reducible apply State.setGpio_kept

theorem State.setCastle_kept (k : Nat) (v : Castle) (h : Kept q d s) :
    Kept q d (State.setCastle s k v) := by
  unfold State.setCastle
  repeat' first | with_reducible assumption | (simp only [↓Kept.mk_eq]; with_reducible apply KeptF.of) | extract_lets x

theorem State.updCastle_kept (k : Nat) (f : Castle → Castle) (h : Kept q d s) :
    Kept q d (State.updCastle s k f) := by
  unfold State.updCastle
  repeat' first | with_reducible assumption | with_reducible apply State.setCastle_kept

theorem State.setTicket_kept (k : Nat) (v : Ticket) (h : Kept q d s) :
    Kept q d (State.setTicket s k v) := by
  unfold State.setTicket
  repeat' first | with_reducible assumption | (simp only [↓Kept.mk_eq]; with_reducible apply KeptF.of) | extract_lets x

theorem State.updTicket_kept (k : Nat) (f : Ticket → Ticket) (h : Kept q d s) :
    Kept q d (State.updTicket s k f) := by
  unfold State.updTicket
  repeat' first | with_reducible assumption | with_reducible apply State.setTicket_kept

theorem State.setPage_kept (k : Nat) (v : Page) (h : Kept q d s) :
    Kept q d (State.setPage s k v) := by
  unfold State.setPage
  repeat' first | with_reducible assumption | (simp only [↓Kept.mk_eq]; with_reducible apply KeptF.of) | extract_lets x

theorem State.updPage_kept (k : Nat) (f : Page → Page) (h : Kept q d s) :
    Kept q d (State.updPage s k f) := by
  unfold State.updPage
  repeat' first | with_reducible assumption | with_reducible apply State.setPage_kept

theorem State.setDma_kept (k : Nat) (v : Dma) (h : Kept q d s) :
    Kept q d (State.setDma s k v) := by
  unfold State.setDma
  repeat' first | with_reducible assumption | (simp only [↓Kept.mk_eq]; with_reducible apply KeptF.of) | extract_lets x

theorem State.updDma_kept (k : Nat) (f : Dma → Dma) (h : Kept q d s) :
    Kept q d (State.updDma s k f) := by
  unfold State.updDma
  repeat' first | with_reducible assumption | with_reducible apply State.setDma_kept

theorem State.setStation_kept (k : Nat) (v : Station) (h : Kept q d s) :
    Kept q d (State.setStation s k v) := by
  unfold State.setStation
  repeat' first | with_reducible assumption | (simp only [↓Kept.mk_eq]; with_reducible apply KeptF.of) | extract_lets x

theorem State.updStation_kept (k : Nat) (f : Station → Station) (h : Kept q d s) :
    Kept q d (State.updStation s k f) := by
  unfold State.updStation
  repeat' first | with_reducible assumption | with_reducible apply State.setStation_kept

theorem State.setLane_kept (k : Nat) (v : Lane) (h : Kept q d s) :
    Kept q d (State.setLane s k v) := by
  unfold State.setLane
  repeat' first | with_reducible assumption | (simp only [↓Kept.mk_eq]; with_reducible apply KeptF.of) | extract_lets x

theorem State.updLane_kept (k : Nat) (f : Lane → Lane) (h : Kept q d s) :
    Kept q d (State.updLane s k f) := by
  unfold State.updLane
  repeat' first | with_reducible assumption | with_reducible apply State.setLane_kept

theorem State.setBeam_kept (k : Nat) (v : Beam) (h : Kept q d s) :
    Kept q d (State.setBeam s k v) := by
  unfold State.setBeam
  repeat' first | with_reducible assumption | (simp only [↓Kept.mk_eq]; with_reducible apply KeptF.of) | extract_lets x

theorem State.updBeam_kept (k : Nat) (f : Beam → Beam) (h : Kept q d s) :
    Kept q d (State.updBeam s k f) := by
  unfold State.updBeam
  repeat' first | with_reducible assumption | with_reducible apply State.setBeam_kept

theorem State.setLink_kept (k : Nat) (v : Link) (h : Kept q d s) :
    Kept q d (State.setLink s k v) := by
  unfold State.setLink
  repeat' first | with_reducible assumption | (simp only [↓Kept.mk_eq]; with_reducible apply KeptF.of) | extract_lets x

theorem State.updLink_kept (k : Nat) (f : Link → Link) (h : Kept q d s) :
    Kept q d (State.updLink s k f) := by
  unfold State.updLink
  repeat' first | with_reducible assumption | with_reducible apply State.setLink_kept

theorem State.setTile_kept (k : Nat) (v : Tile) (h : Kept q d s) :
    Kept q d (State.setTile s k v) := by
  unfold State.setTile
  repeat' first | with_reducible assumption | (simp only [↓Kept.mk_eq]; with_reducible apply KeptF.of) | extract_lets x

theorem State.updTile_kept (k : Nat) (f : Tile → Tile) (h : Kept q d s) :
    Kept q d (State.updTile s k f) := by
  unfold State.updTile
  repeat' first | with_reducible assumption | with_reducible apply State.setTile_kept

theorem State.setBus_kept (k : Nat) (v : Bus) (h : Kept q d s) :
    Kept q d (State.setBus s k v) := by
  unfold State.setBus
  repeat' first | with_reducible assumption | (simp only [↓Kept.mk_eq]; with_reducible apply KeptF.of) | extract_lets x

theorem State.updBus_kept (k : Nat) (f : Bus → Bus) (h : Kept q d s) :
    Kept q d (State.updBus s k f) := by
  unfold State.updBus
  repeat' first | with_reducible assumption | with_reducible apply State.setBus_kept

theorem State.setGroup_kept (k : Nat) (v : Group) (h : Kept q d s) :
    Kept q d (State.setGroup s k v) := by
  unfold State.setGroup
  repeat' first | with_reducible assumption | (simp only [↓Kept.mk_eq]; with_reducible apply KeptF.of) | extract_lets x

theorem State.updGroup_kept (k : Nat) (f : Group → Group) (h : Kept q d s) :
    Kept q d (State.updGroup s k f) := by
  unfold State.updGroup
  repeat' first | with_reducible assumption | with_reducible apply State.setGroup_kept

theorem State.setAxis_kept (k : Nat) (v : AxisSt) (h : Kept q d s) :
    Kept q d (State.setAxis s k v) := by
  unfold State.setAxis
  repeat' first | with_reducible assumption | (simp only [↓Kept.mk_eq]; with_reducible apply KeptF.of) | extract_lets x

theorem State.updAxis_kept (k : Nat) (f : AxisSt → AxisSt) (h : Kept q d s) :
    Kept q d (State.updAxis s k f) := by
  unfold State.updAxis
  repeat' first | with_reducible assumption | with_reducible apply State.setAxis_kept

theorem State.setPoly_kept (k : Nat) (v : PolySt) (h : Kept q d s) :
    Kept q d (State.setPoly s k v) := by
  unfold State.setPoly
  repeat' first | with_reducible assumption | (simp only [↓Kept.mk_eq]; with_reducible apply KeptF.of) | extract_lets x

theorem State.updPoly_kept (k : Nat) (f : PolySt → PolySt) (h : Kept q d s) :
    Kept q d (State.updPoly s k f) := by
  unfold State.updPoly
  repeat' first | with_reducible assumption | with_reducible apply State.setPoly_kept

theorem State.setLoop_kept (k : Nat) (v : Loop) (h : Kept q d s) :
    Kept q d (State.setLoop s k v) := by
  unfold State.setLoop
  repeat' first | with_reducible assumption | (simp only [↓Kept.mk_eq]; with_reducible apply KeptF.of) | extract_lets x

theorem State.updLoop_kept (k : Nat) (f : Loop → Loop) (h : Kept q d s) :
    Kept q d (State.updLoop s k f) := by
  unfold State.updLoop
  repeat' first | with_reducible assumption | with_reducible apply State.setLoop_kept

theorem State.setHeat_kept (k : Nat) (v : Heat) (h : Kept q d s) :
    Kept q d (State.setHeat s k v) := by
  unfold State.setHeat
  repeat' first | with_reducible assumption | (simp only [↓Kept.mk_eq]; with_reducible apply KeptF.of) | extract_lets x

theorem State.updHeat_kept (k : Nat) (f : Heat → Heat) (h : Kept q d s) :
    Kept q d (State.updHeat s k f) := by
  unfold State.updHeat
  repeat' first | with_reducible assumption | with_reducible apply State.setHeat_kept

theorem State.setLeg_kept (k : Nat) (v : HvLeg) (h : Kept q d s) :
    Kept q d (State.setLeg s k v) := by
  unfold State.setLeg
  repeat' first | with_reducible assumption | (simp only [↓Kept.mk_eq]; with_reducible apply KeptF.of) | extract_lets x

theorem State.updLeg_kept (k : Nat) (f : HvLeg → HvLeg) (h : Kept q d s) :
    Kept q d (State.updLeg s k f) := by
  unfold State.updLeg
  repeat' first | with_reducible assumption | with_reducible apply State.setLeg_kept

theorem State.setRail_kept (k : Nat) (v : Rail) (h : Kept q d s) :
    Kept q d (State.setRail s k v) := by
  unfold State.setRail
  repeat' first | with_reducible assumption | (simp only [↓Kept.mk_eq]; with_reducible apply KeptF.of) | extract_lets x

theorem State.updRail_kept (k : Nat) (f : Rail → Rail) (h : Kept q d s) :
    Kept q d (State.updRail s k f) := by
  unfold State.updRail
  repeat' first | with_reducible assumption | with_reducible apply State.setRail_kept

theorem State.setSensor_kept (k : Nat) (v : Sensor) (h : Kept q d s) :
    Kept q d (State.setSensor s k v) := by
  unfold State.setSensor
  repeat' first | with_reducible assumption | (simp only [↓Kept.mk_eq]; with_reducible apply KeptF.of) | extract_lets x

theorem State.updSensor_kept (k : Nat) (f : Sensor → Sensor) (h : Kept q d s) :
    Kept q d (State.updSensor s k f) := by
  unfold State.updSensor
  repeat' first | with_reducible assumption | with_reducible apply State.setSensor_kept

theorem State.setParam_kept (a : Nat) (v : Nat) (h : Kept q d s) :
    Kept q d (State.setParam s a v) := by
  unfold State.setParam
  repeat' first | with_reducible assumption | (simp only [↓Kept.mk_eq]; with_reducible apply KeptF.of) | extract_lets x

theorem State.setTable_kept (id : Nat) (inst : Nat) (b : Bytes) (h : Kept q d s) :
    Kept q d (State.setTable s id inst b) := by
  unfold State.setTable
  repeat' first | with_reducible assumption | (simp only [↓Kept.mk_eq]; with_reducible apply KeptF.of) | extract_lets x

theorem State.setStaging_kept (id : Nat) (v : Staging) (h : Kept q d s) :
    Kept q d (State.setStaging s id v) := by
  unfold State.setStaging
  repeat' first | with_reducible assumption | (simp only [↓Kept.mk_eq]; with_reducible apply KeptF.of) | extract_lets x

theorem State.setAgeField_kept (off : Nat) (n : Nat) (v : Nat) (h : Kept q d s) :
    Kept q d (State.setAgeField s off n v) := by
  unfold State.setAgeField
  repeat' first | with_reducible assumption | with_reducible apply State.setTable_kept

theorem State.age_kept (off : Nat) (v : Nat) (h : Kept q d s) :
    Kept q d (State.age s off v) := by
  unfold State.age
  repeat' first | with_reducible assumption | with_reducible apply State.setAgeField_kept | extract_lets x | split

theorem State.sendLine_kept (l : Nat) (seq : Nat) (blank : Nat) (noData : Bool) (ws : List Nat) (h : Kept q d s) :
    Kept q d (State.sendLine s l seq blank noData ws) := by
  unfold State.sendLine
  repeat' first | with_reducible assumption | with_reducible apply State.updLink_kept | extract_lets x | split

theorem State.fresh_kept (h : Kept q d s) :
    Kept q d ((State.fresh s).2) := by
  unfold State.fresh
  repeat' first | with_reducible assumption | (simp only [↓Kept.mk_eq]; with_reducible apply KeptF.of) | extract_lets x

theorem State.emit_kept (o : Out) (h : Kept q d s) :
    Kept q d (State.emit s o) := by
  unfold State.emit
  repeat' first | with_reducible assumption | (simp only [↓Kept.mk_eq]; with_reducible apply KeptF.of) | extract_lets x

theorem State.signal_kept (v : Nat) (h : Kept q d s) :
    Kept q d (State.signal s v) := by
  unfold State.signal
  repeat' first
    | with_reducible assumption | with_reducible apply State.emit_kept
    | (simp only [↓Kept.mk_eq]; with_reducible apply KeptF.of) | extract_lets x | split

theorem State.latchNew_kept (code : Nat) (o : Nat) (h : Kept q d s) :
    Kept q d (State.latchNew s code o) := by
  unfold State.latchNew
  split
  · exact h
  · next hl =>
    refine Kept.foldl (fun u k hu => State.updTicket_kept _ _ hu) ⟨h.queue, h.die, ?_, ?_, h.sound.backlog, h.sound.tempo, h.sound.memory⟩
    · have ho := h.sound.oneRecord
      simp only [List.map_append, List.map_cons, List.map_nil, List.nodup_append, List.mem_map, List.mem_singleton]
      refine ⟨ho, by simp, fun a ⟨f, hf, ha⟩ b hb hab => hl ?_⟩
      simp only [State.latched, List.any_eq_true, Bool.and_eq_true, beq_iff_eq]
      refine ⟨f, hf, ?_⟩
      simp_all [FaultRec.key]
    · simp

theorem State.queueEv_kept (e : EvMsg) (h : Kept q d s) :
    Kept q d (State.queueEv s e) := by
  unfold State.queueEv
  split
  · next hl =>
    refine ⟨h.queue, h.die, h.sound.oneRecord, h.sound.firstZero, ?_, h.sound.tempo, h.sound.memory⟩
    show (insertEv e s.host.backlog).length ≤ 512
    rw [insertEv_length]; omega
  · exact h.mk' rfl rfl rfl rfl rfl rfl rfl rfl

theorem State.raise_kept (e : Ev) (h : Kept q d s) :
    Kept q d (State.raise s e) := by
  unfold State.raise
  repeat' first
    | with_reducible assumption | with_reducible apply State.latchNew_kept
    | with_reducible apply State.queueEv_kept | with_reducible apply Kept.foldl | extract_lets x | split | intro _

theorem State.reportUe_kept (i : Nat) (a : Nat) (reader : Nat) (what : Nat) (latch : (List Nat)) (sheet : Bool) (h : Kept q d s) :
    Kept q d (State.reportUe s i a reader what latch sheet) := by
  unfold State.reportUe
  have h1 := fun v hv => State.setMem_same (k := i) (v := v) hv h
  dsimp only
  split
  · exact State.raise_kept _ (h1 _ rfl)
  · exact State.raise_kept _ (State.signal_kept _ (h1 _ rfl))

theorem State.tableUe_kept (n : Nat) (a : Nat) (h : Kept q d s) :
    Kept q d (State.tableUe s n a) := by
  unfold State.tableUe
  repeat' first
    | with_reducible assumption | with_reducible apply State.fresh_kept | with_reducible apply State.reportUe_kept
    | (simp only [↓Kept.mk_eq]; with_reducible apply KeptF.of) | extract_lets x | split
    | (with_reducible apply Kept.ofPair; with_reducible assumption)

theorem State.raiseLimited_kept (e : Ev) (period : Nat) (sub : Nat) (countField : Bool) (h : Kept q d s) :
    Kept q d (State.raiseLimited s e period sub countField) := by
  unfold State.raiseLimited
  repeat' first
    | with_reducible assumption | with_reducible apply State.raise_kept
    | (simp only [↓Kept.mk_eq]; with_reducible apply KeptF.of) | split | (dsimp +zetaDelta only)

theorem State.addBlank_kept (tk : Nat) (st : Nat) (n : Nat) (h : Kept q d s) :
    Kept q d (State.addBlank s tk st n) := by
  unfold State.addBlank
  repeat' first | with_reducible assumption | with_reducible apply State.updTicket_kept | extract_lets x

theorem State.spoil_kept (tk : Nat) (st : Nat) (cause : Nat) (line : Nat) (h : Kept q d s) :
    Kept q d (State.spoil s tk st cause line) := by
  unfold State.spoil
  repeat' first
    | with_reducible assumption | with_reducible apply State.setTicket_kept
    | with_reducible apply State.raise_kept | extract_lets x | split

theorem State.blankLines_kept (n : Nat) (d_2 : Drawing) (fs : List (Nat × Int)) (cause : Nat) (h : Kept q d s) :
    Kept q d (State.blankLines s n d_2 fs cause) := by
  unfold State.blankLines
  repeat' first
    | with_reducible assumption | with_reducible apply State.addBlank_kept | with_reducible apply State.spoil_kept | split
    | (dsimp +zetaDelta only)

theorem State.drawLine_kept (l : Nat) (seq : Nat) (d_1 : Drawing) (ue : MapperUe) (h : Kept q d s) :
    Kept q d (State.drawLine s l seq d_1 ue) := by
  unfold State.drawLine
  repeat' first
    | with_reducible assumption | with_reducible apply State.updLink_kept
    | with_reducible apply State.raiseLimited_kept | with_reducible apply State.addBlank_kept
    | with_reducible apply State.blankLines_kept | with_reducible apply State.tableUe_kept
    | with_reducible apply State.reportUe_kept | with_reducible apply State.sendLine_kept | with_reducible apply Kept.foldl
    | extract_lets x | split | intro _

theorem State.coastLink_kept (l : Nat) (d_1 : Drawing) (h : Kept q d s) :
    Kept q d (State.coastLink s l d_1) := by
  unfold State.coastLink
  repeat' first
    | with_reducible assumption | with_reducible apply State.addBlank_kept | with_reducible apply State.spoil_kept
    | with_reducible apply State.updLink_kept | extract_lets x | split

theorem State.edgeSync_kept (l : Nat) (h : Kept q d s) :
    Kept q d ((State.edgeSync s l).2) := by
  unfold State.edgeSync
  repeat' first | with_reducible assumption | with_reducible apply State.updLink_kept | extract_lets x

theorem State.slotZero_kept (l : Nat) (h : Kept q d s) :
    Kept q d ((State.slotZero s l).2) := by
  unfold State.slotZero
  repeat' first
    | with_reducible assumption | with_reducible apply State.setLink_kept
    | with_reducible apply State.edgeSync_kept | (simp only [↓Kept.mk_eq]; with_reducible apply KeptF.of) | extract_lets x
    | split | (with_reducible apply Kept.ofPair; with_reducible assumption)

theorem State.pxRun_kept (l : Nat) (h : Kept q d s) :
    Kept q d (State.pxRun s l) := by
  unfold State.pxRun
  repeat' first
    | with_reducible assumption | with_reducible apply State.setLink_kept | with_reducible apply State.emit_kept
    | extract_lets x | split

theorem State.trainNext_kept (l : Nat) (k : Nat) (h : Kept q d s) :
    Kept q d (State.trainNext s l k) := by
  unfold State.trainNext
  repeat' first | with_reducible assumption | with_reducible apply State.updLink_kept | extract_lets x

theorem State.sendBlock_kept (l : Nat) (b : Bytes) (h : Kept q d s) :
    Kept q d (State.sendBlock s l b) := by
  unfold State.sendBlock
  repeat' first | with_reducible assumption | with_reducible apply State.updLink_kept | extract_lets x

theorem State.mgmtRead_kept (l : Nat) (a : Nat) (h : Kept q d s) :
    Kept q d (State.mgmtRead s l a) := by
  unfold State.mgmtRead
  repeat' first | with_reducible assumption | with_reducible apply State.sendBlock_kept

theorem State.bcPacket_kept (l : Nat) (p : Bytes) (type : Nat) (act : State → State) (ha : ∀ u, Kept q d u → Kept q d (act u)) (h : Kept q d s) :
    Kept q d (State.bcPacket s l p type act) := by
  unfold State.bcPacket
  split
  · split
    · exact State.updLink_kept _ _ h
    · extract_lets s0 s1
      have h0 : Kept q d s0 := State.updLink_kept _ _ h
      have h1 : Kept q d s1 := by
        show Kept q d (if _ then _ else _)
        split
        · exact State.trainNext_kept _ _ h0
        · exact h0
      split
      · exact ha _ h1
      · exact h1
  · exact h

theorem State.stopPx_kept (l : Nat) (h : Kept q d s) :
    Kept q d (State.stopPx s l) := by
  unfold State.stopPx
  repeat' first
    | with_reducible assumption | with_reducible apply State.updLink_kept | with_reducible apply State.emit_kept
    | extract_lets x | split

theorem State.linkDown_kept (l : Nat) (code : Nat) (f : Nat) (h : Kept q d s) :
    Kept q d (State.linkDown s l code f) := by
  unfold State.linkDown
  repeat' first
    | with_reducible assumption | with_reducible apply State.stopPx_kept | with_reducible apply State.updLink_kept
    | with_reducible apply State.raise_kept | extract_lets x

theorem State.updTrain_kept (l : Nat) (f : Training → Training) (h : Kept q d s) :
    Kept q d (State.updTrain s l f) := by
  unfold State.updTrain
  repeat' first | with_reducible assumption | with_reducible apply State.updLink_kept | extract_lets x

theorem State.startPx_kept (l : Nat) (h : Kept q d s) :
    Kept q d (State.startPx s l) := by
  unfold State.startPx
  repeat' first | with_reducible assumption | with_reducible apply State.updLink_kept | extract_lets x | split

theorem State.trainRead_kept (l : Nat) (t : Training) (h : Kept q d s) :
    Kept q d (State.trainRead s l t) := by
  unfold State.trainRead
  repeat' first
    | with_reducible assumption | with_reducible apply State.updTrain_kept
    | with_reducible apply State.mgmtRead_kept | with_reducible apply State.trainNext_kept
    | with_reducible apply State.startPx_kept | extract_lets x | split

theorem State.darken_kept (l : Nat) (h : Kept q d s) :
    Kept q d (State.darken s l) := by
  unfold State.darken
  repeat' first
    | with_reducible assumption | with_reducible apply State.stopPx_kept | with_reducible apply State.updLink_kept
    | with_reducible apply State.emit_kept | extract_lets x | split

theorem State.blankLink_kept (l : Nat) (h : Kept q d s) :
    Kept q d (State.blankLink s l) := by
  unfold State.blankLink
  repeat' first
    | with_reducible assumption | with_reducible apply State.darken_kept
    | with_reducible apply State.updTrain_kept | extract_lets x

theorem State.relight_kept (h : Kept q d s) :
    Kept q d (State.relight s) := by
  unfold State.relight
  repeat' first
    | with_reducible assumption | with_reducible apply State.updLink_kept
    | with_reducible apply State.startPx_kept | with_reducible apply Kept.foldl | extract_lets x | split | intro _

theorem State.blankAll_kept (mask : Nat) (h : Kept q d s) :
    Kept q d (State.blankAll s mask) := by
  unfold State.blankAll
  repeat' first
    | with_reducible assumption | with_reducible apply State.blankLink_kept
    | with_reducible apply State.spoil_kept | with_reducible apply State.raise_kept | with_reducible apply Kept.foldl
    | (simp only [↓Kept.mk_eq]; with_reducible apply KeptF.of) | extract_lets x | intro _

theorem State.pllSubst_kept (p : Nat) (h : Kept q d s) :
    Kept q d (State.pllSubst s p) := by
  unfold State.pllSubst
  repeat' first
    | with_reducible assumption | with_reducible apply State.updPll_kept | with_reducible apply State.raise_kept
    | extract_lets x | split

theorem State.storeSlot_kept (n : Nat) (k : Nat) (h : Kept q d s) :
    Kept q d (State.storeSlot s n k) := by
  unfold State.storeSlot
  repeat' first
    | with_reducible assumption | with_reducible apply State.pllSubst_kept
    | with_reducible apply State.setTable_kept | extract_lets x

theorem State.pllSearch_kept (p : Nat) (h : Kept q d s) :
    Kept q d (State.pllSearch s p) := by
  unfold State.pllSearch
  repeat' first | with_reducible assumption | with_reducible apply State.updPll_kept | extract_lets x

theorem State.edgesBegin_kept (p : Nat) (h : Kept q d s) :
    Kept q d (State.edgesBegin s p) := by
  unfold State.edgesBegin
  repeat' first
    | with_reducible assumption | with_reducible apply State.fresh_kept | with_reducible apply State.updPll_kept
    | extract_lets x | split | (with_reducible apply Kept.ofPair; with_reducible assumption)

theorem State.pllAcquire_kept (p : Nat) (h : Kept q d s) :
    Kept q d (State.pllAcquire s p) := by
  unfold State.pllAcquire
  repeat' first
    | with_reducible assumption | with_reducible apply State.edgesBegin_kept
    | with_reducible apply State.updPll_kept | extract_lets x | split

theorem State.recallSlot_kept (n : Nat) (k : Nat) (h : Kept q d s) :
    Kept q d (State.recallSlot s n k) := by
  unfold State.recallSlot
  repeat' first
    | with_reducible assumption | with_reducible apply State.pllSubst_kept | with_reducible apply State.fresh_kept
    | with_reducible apply State.updPll_kept | with_reducible apply State.pllAcquire_kept
    | with_reducible apply State.raise_kept | with_reducible apply State.pllSearch_kept | extract_lets x | split
    | (with_reducible apply Kept.ofPair; with_reducible assumption)

theorem State.bandSlot_kept (n : Nat) (k : Nat) (h : Kept q d s) :
    Kept q d (State.bandSlot s n k) := by
  unfold State.bandSlot
  repeat' first
    | with_reducible assumption | with_reducible apply State.pllSearch_kept
    | with_reducible apply State.recallSlot_kept | split

theorem State.noteRewritten_kept (k : Nat) (b : Nat) (h : Kept q d s) :
    Kept q d (State.noteRewritten s k b) := by
  unfold State.noteRewritten
  repeat' first | with_reducible assumption | (simp only [↓Kept.mk_eq]; with_reducible apply KeptF.of) | extract_lets x

theorem State.noteCoef_kept (k : Nat) (h : Kept q d s) :
    Kept q d (State.noteCoef s k) := by
  unfold State.noteCoef
  repeat' first | with_reducible assumption | (simp only [↓Kept.mk_eq]; with_reducible apply KeptF.of) | extract_lets x

theorem State.heatWindow_kept (k : Nat) (h : Kept q d s) :
    Kept q d (State.heatWindow s k) := by
  unfold State.heatWindow
  repeat' first
    | with_reducible assumption | with_reducible apply State.setHeat_kept | with_reducible apply State.raise_kept
    | extract_lets x | split

theorem State.legKeep_kept (k : Nat) (j : Nat) (ok : Bool) (h : Kept q d s) :
    Kept q d (State.legKeep s k j ok) := by
  unfold State.legKeep
  repeat' first
    | with_reducible assumption | with_reducible apply State.setLeg_kept | with_reducible apply State.raise_kept
    | extract_lets x | split

theorem State.legWindow_kept (k : Nat) (j : Nat) (h : Kept q d s) :
    Kept q d (State.legWindow s k j) := by
  unfold State.legWindow
  repeat' first
    | with_reducible assumption | with_reducible apply State.updLeg_kept | with_reducible apply State.legKeep_kept
    | extract_lets x

theorem State.startCfg_kept (k : Nat) (tries : Nat) (h : Kept q d s) :
    Kept q d (State.startCfg s k tries) := by
  unfold State.startCfg
  repeat' first | with_reducible assumption | with_reducible apply State.updTile_kept | extract_lets x

theorem State.gpioOut_kept (before : Option Bool) (i : Nat) (h : Kept q d s) :
    Kept q d (State.gpioOut s before i) := by
  unfold State.gpioOut
  repeat' first | with_reducible assumption | with_reducible apply State.emit_kept | extract_lets x | split

theorem State.applyParam_kept (a : Nat) (v : Nat) (h : Kept q d s) :
    Kept q d (State.applyParam s a v) := by
  unfold State.applyParam
  repeat' first
    | with_reducible assumption | with_reducible apply State.setParam_kept
    | with_reducible apply State.updStation_kept | with_reducible apply State.storeSlot_kept
    | with_reducible apply State.bandSlot_kept | with_reducible apply State.noteRewritten_kept
    | with_reducible apply State.noteCoef_kept | with_reducible apply State.heatWindow_kept
    | with_reducible apply State.legWindow_kept | with_reducible apply State.startCfg_kept
    | with_reducible apply State.updEnc_kept | with_reducible apply State.gpioOut_kept
    | with_reducible apply State.setRail_kept | with_reducible apply Kept.foldl | extract_lets x | split | intro _

theorem State.checkTable_kept (id : Nat) (k : Nat) (h : Kept q d s) :
    Kept q d (State.checkTable s id k) := by
  unfold State.checkTable
  repeat' first | with_reducible assumption | with_reducible apply State.raise_kept | split

theorem State.unlatch_kept (code : Nat) (o : Nat) (h : Kept q d s) :
    Kept q d (State.unlatch s code o) := by
  refine ⟨h.queue, h.die, ?_, ?_, h.sound.backlog, h.sound.tempo, h.sound.memory⟩
  · exact h.sound.oneRecord.sublist (List.filter_sublist.map _)
  · intro he
    have he' : s.faults.filter (fun f => !(f.code == code && f.obj == o)) = [] := he
    simp only [State.unlatch, he', List.isEmpty_nil, ↓reduceIte, and_self]

theorem State.tableMended_kept (id : Nat) (inst : Nat) (h : Kept q d s) :
    Kept q d (State.tableMended s id inst) := by
  unfold State.tableMended
  repeat' first
    | with_reducible assumption | with_reducible apply State.unlatch_kept
    | (simp only [↓Kept.mk_eq]; with_reducible apply KeptF.of) | split | (dsimp +zetaDelta only)

theorem State.commitTable_kept (id : Nat) (inst : Nat) (h : Kept q d s) :
    Kept q d (State.commitTable s id inst) := by
  unfold State.commitTable
  repeat' first
    | with_reducible assumption | with_reducible apply State.setStaging_kept | with_reducible apply State.checkTable_kept
    | with_reducible apply State.noteRewritten_kept | with_reducible apply State.tableMended_kept
    | with_reducible apply State.setTable_kept | (simp only [↓Kept.mk_eq]; with_reducible apply KeptF.of) | split
    | (dsimp +zetaDelta only)

theorem State.startScan_kept (k : Nat) (h : Kept q d s) :
    Kept q d (State.startScan s k) := by
  unfold State.startScan
  repeat' first | with_reducible assumption | with_reducible apply State.updHeat_kept | extract_lets x

theorem State.enableHeat_kept (k : Nat) (h : Kept q d s) :
    Kept q d (State.enableHeat s k) := by
  unfold State.enableHeat
  repeat' first
    | with_reducible assumption | with_reducible apply State.updHeat_kept
    | with_reducible apply State.startScan_kept | extract_lets x

theorem State.legLeave_kept (k : Nat) (j : Nat) (h : Kept q d s) :
    Kept q d (State.legLeave s k j) := by
  unfold State.legLeave
  repeat' first
    | with_reducible assumption | with_reducible apply State.updLeg_kept | with_reducible apply State.legKeep_kept
    | extract_lets x

theorem State.outputEnable_kept (k : Nat) (v : Nat) (h : Kept q d s) :
    Kept q d (State.outputEnable s k v) := by
  unfold State.outputEnable
  repeat' first
    | with_reducible assumption | with_reducible apply State.updTile_kept
    | with_reducible apply State.enableHeat_kept | with_reducible apply State.updHeat_kept
    | with_reducible apply State.heatWindow_kept | with_reducible apply State.updLeg_kept
    | with_reducible apply State.legLeave_kept | with_reducible apply Kept.foldl | extract_lets x | split | intro _

theorem State.int64_kept (x : Int) (h : Kept q d s) :
    Kept q d ((State.int64 s x).2) := by
  unfold State.int64
  split
  · exact h
  · exact State.fresh_kept h

theorem State.geared_kept (g : Gear) (delta : Int) (h : Kept q d s) :
    Kept q d ((State.geared s g delta).2) := State.int64_kept _ h

theorem State.profileStart_kept (o : Nat) (h : Kept q d s) :
    Kept q d (State.profileStart s o) := by
  unfold State.profileStart
  repeat' first
    | with_reducible assumption | with_reducible apply State.setAxis_kept | with_reducible apply State.raise_kept
    | with_reducible apply State.geared_kept | (simp only [↓Kept.mk_eq]; with_reducible apply KeptF.of) | extract_lets x
    | split | (with_reducible apply Kept.ofPair; with_reducible assumption)

theorem State.applyAction_kept (tk : Option Idx) (a : Action) (h : Kept q d s) :
    Kept q d (State.applyAction s tk a) := by
  unfold State.applyAction
  repeat' first
    | with_reducible assumption | with_reducible apply State.applyParam_kept
    | with_reducible apply State.commitTable_kept | with_reducible apply State.updStation_kept
    | with_reducible apply State.outputEnable_kept | with_reducible apply State.profileStart_kept
    | with_reducible apply Kept.foldl | extract_lets x | split | intro _

theorem State.applyActions_kept (tk : Option Idx) (as : List Action) (h : Kept q d s) :
    Kept q d (State.applyActions s tk as) := by
  unfold State.applyActions
  repeat' first
    | with_reducible assumption | with_reducible apply State.applyAction_kept | with_reducible apply Kept.foldl
    | intro _

theorem State.disarmSlot_kept (slot : Nat) (outcome : Nat) (h : Kept q d s) :
    Kept q d (State.disarmSlot s slot outcome) := by
  unfold State.disarmSlot
  repeat' first | with_reducible assumption | with_reducible apply State.updCastle_kept | extract_lets x

theorem State.disarmSlots_kept (h : Kept q d s) :
    Kept q d (State.disarmSlots s) := by
  unfold State.disarmSlots
  repeat' first
    | with_reducible assumption | with_reducible apply State.disarmSlot_kept | with_reducible apply Kept.foldl
    | intro _

theorem State.updLanes_kept (n : Nat) (f : Lane → Lane) (h : Kept q d s) :
    Kept q d (State.updLanes s n f) := by
  unfold State.updLanes
  repeat' first
    | with_reducible assumption | with_reducible apply State.updLane_kept | with_reducible apply Kept.foldl
    | intro _

theorem State.setQueue_kept (n : Nat) (new : List QStrip) (h : Kept q d s) :
    Kept q d (State.setQueue s n new) := by
  unfold State.setQueue
  repeat' first
    | with_reducible assumption | with_reducible apply State.setStation_kept
    | with_reducible apply State.updLanes_kept | extract_lets x | split

theorem State.unqueue_kept (n : Nat) (tk : Nat) (h : Kept q d s) :
    Kept q d (State.unqueue s n tk) := by
  unfold State.unqueue
  repeat' first | with_reducible assumption | with_reducible apply State.setQueue_kept | extract_lets x | split

theorem State.releaseTicket_kept (tk : Idx) (h : Kept q d s) :
    Kept q d (State.releaseTicket s tk) := by
  unfold State.releaseTicket
  repeat' first
    | with_reducible assumption | with_reducible apply State.unqueue_kept
    | with_reducible apply State.updTicket_kept | with_reducible apply Kept.foldl
    | (simp only [↓Kept.mk_eq]; with_reducible apply KeptF.of) | extract_lets x | split | intro _

theorem State.fall_kept (tk : Idx) (mask : Nat) (outcome : Nat) (h : Kept q d s) :
    Kept q d (State.fall s tk mask outcome) := by
  unfold State.fall
  repeat' first
    | with_reducible assumption | with_reducible apply State.releaseTicket_kept
    | with_reducible apply State.updTicket_kept | with_reducible apply State.raise_kept | extract_lets x

theorem State.disarmTickets_kept (h : Kept q d s) :
    Kept q d (State.disarmTickets s) := by
  unfold State.disarmTickets
  repeat' first | with_reducible assumption | with_reducible apply State.fall_kept | with_reducible apply Kept.foldl | intro _

theorem State.prune_kept (n : Nat) (h : Kept q d s) :
    Kept q d (State.prune s n) := by
  unfold State.prune
  repeat' first
    | with_reducible assumption | with_reducible apply State.setStation_kept | with_reducible apply Kept.foldl
    | extract_lets x | intro _

theorem State.endImage_kept (n : Nat) (tk : Nat) (h : Kept q d s) :
    Kept q d (State.endImage s n tk) := by
  unfold State.endImage
  repeat' first
    | with_reducible assumption | with_reducible apply State.setStation_kept
    | with_reducible apply State.prune_kept | extract_lets x | split

theorem State.endImages_kept (tk : Nat) (h : Kept q d s) :
    Kept q d (State.endImages s tk) := by
  unfold State.endImages
  repeat' first
    | with_reducible assumption | with_reducible apply State.endImage_kept | with_reducible apply Kept.foldl
    | intro _

theorem State.reportCe_kept (i : Nat) (a : Nat) (bitNo : Nat) (reader : Nat) (h : Kept q d s) :
    Kept q d (State.reportCe s i a bitNo reader) := by
  unfold State.reportCe
  have h1 := fun v hv => State.setMem_same (k := i) (v := v) hv h
  dsimp only
  split
  · exact State.raiseLimited_kept _ _ _ _ (State.raiseLimited_kept _ _ _ _ (h1 _ rfl))
  · exact State.raiseLimited_kept _ _ _ _ (h1 _ rfl)

theorem State.report_kept (i : Nat) (w : Nat) (reader : Nat) (r : Read) (what : Nat) (latch : List Nat) (h : Kept q d s) :
    Kept q d (State.report s i w reader r what latch) := by
  unfold State.report
  repeat' first
    | with_reducible assumption | with_reducible apply State.reportCe_kept
    | with_reducible apply State.reportUe_kept | split

theorem State.endSheet_kept (tk : Idx) (outcome : Nat) (h : Kept q d s) :
    Kept q d (State.endSheet s tk outcome) := by
  unfold State.endSheet
  repeat' first
    | with_reducible assumption | with_reducible apply State.endImages_kept
    | with_reducible apply State.report_kept | with_reducible apply State.releaseTicket_kept
    | (simp only [↓Kept.mk_eq]; with_reducible apply KeptF.of) | extract_lets x

theorem State.abortSheet_kept (tk : Idx) (h : Kept q d s) :
    Kept q d (State.abortSheet s tk) := by
  unfold State.abortSheet
  repeat' first
    | with_reducible assumption | with_reducible apply State.spoil_kept | with_reducible apply State.endSheet_kept
    | with_reducible apply Kept.foldl | intro _

theorem State.abortSheets_kept (h : Kept q d s) :
    Kept q d (State.abortSheets s) := by
  unfold State.abortSheets
  repeat' first
    | with_reducible assumption | with_reducible apply State.abortSheet_kept | with_reducible apply Kept.foldl
    | intro _

theorem State.axisGear_kept (o : Nat) (engage : Bool) (h : Kept q d s) :
    Kept q d (State.axisGear s o engage) := by
  unfold State.axisGear
  repeat' first
    | with_reducible assumption | with_reducible apply State.updAxis_kept | with_reducible apply State.geared_kept
    | extract_lets x | split | (with_reducible apply Kept.ofPair; with_reducible assumption)

theorem State.regChange_kept (n : Nat) (was : Bool) (h : Kept q d s) :
    Kept q d (State.regChange s n was) := by
  unfold State.regChange
  repeat' first | with_reducible assumption | with_reducible apply State.raise_kept | extract_lets x | split

theorem State.stationGear_kept (o : Nat) (was : Bool) (h : Kept q d s) :
    Kept q d (State.stationGear s o was) := by
  unfold State.stationGear
  repeat' first
    | with_reducible assumption | with_reducible apply State.updStation_kept
    | with_reducible apply State.regChange_kept | extract_lets x | split

theorem State.gearCount_kept (me : Nat) (delta : Int) (pos : Int) (o : Nat) (h : Kept q d s) :
    Kept q d (State.gearCount s me delta pos o) := by
  unfold State.gearCount
  repeat' first
    | with_reducible apply State.stationGear_kept
    | with_reducible assumption | with_reducible apply State.geared_kept | with_reducible apply State.setGear_kept | with_reducible apply State.axisGear_kept
    | with_reducible apply State.raise_kept | split | (dsimp +zetaDelta only)

theorem State.gearCounts_kept (me : Nat) (delta : Int) (pos : Int) (h : Kept q d s) :
    Kept q d (State.gearCounts s me delta pos) := by
  unfold State.gearCounts
  repeat' first
    | with_reducible assumption | with_reducible apply State.gearCount_kept | with_reducible apply Kept.foldl
    | intro _

end Sys2Proof.Machine
end

