-- ==== Sys2Proof/Laws/KeptOps2.lean ====
section
/-!
SUPPORT. Every operation on a state keeps it kept, part 2 of 4: one lemma per operation, callees before their callers.
-/
namespace Sys2Proof.Machine
variable {q : List Instr} {d : Die} {s : State}

theorem State.meCount_kept (me : Nat) (delta : Int) (h : Kept q d s) :
    Kept q d (State.meCount s me delta) := by
  unfold State.meCount
  repeat' first
    | with_reducible assumption | with_reducible apply State.int64_kept | with_reducible apply State.setEnc_kept
    | with_reducible apply State.gearCounts_kept | extract_lets x
    | (with_reducible apply Kept.ofPair; with_reducible assumption)

theorem State.meIllegal_kept (me : Nat) (h : Kept q d s) :
    Kept q d (State.meIllegal s me) := by
  unfold State.meIllegal
  repeat' first
    | with_reducible assumption | with_reducible apply State.setEnc_kept
    | with_reducible apply State.raiseLimited_kept | with_reducible apply State.raise_kept | extract_lets x | split

theorem State.post_kept (r : Reply) (code : Nat) (index : Nat) (data : Bytes) (h : Kept q d s) :
    Kept q d (State.post s r code index data) := by
  unfold State.post
  repeat' first | with_reducible assumption | with_reducible apply State.setRing_kept | extract_lets x | split

theorem State.jobEnd_kept (j : Job) (code : Nat) (data : Bytes) (h : Kept q d s) :
    Kept q d (State.jobEnd s j code data) := by
  unfold State.jobEnd
  repeat' first
    | with_reducible assumption | with_reducible apply State.raise_kept | with_reducible apply State.post_kept
    | (simp only [↓Kept.mk_eq]; with_reducible apply KeptF.of) | extract_lets x

theorem State.freshBytes_kept (n : Nat) (h : Kept q d s) :
    Kept q d ((State.freshBytes s n).2) := by
  unfold State.freshBytes
  repeat' first | with_reducible assumption | (simp only [↓Kept.mk_eq]; with_reducible apply KeptF.of) | extract_lets x

theorem State.withdraw_kept (p : Nat) (h : Kept q d s) :
    Kept q d (State.withdraw s p) := by
  unfold State.withdraw
  repeat' first
    | with_reducible assumption | with_reducible apply State.updTicket_kept
    | with_reducible apply State.unqueue_kept | with_reducible apply Kept.foldl | extract_lets x | split | intro _

theorem State.dirty_kept (c : Nat) (p : Nat) (h : Kept q d s) :
    Kept q d (State.dirty s c p) := by
  unfold State.dirty
  repeat' first
    | with_reducible assumption | with_reducible apply State.withdraw_kept
    | (simp only [↓Kept.mk_eq]; with_reducible apply KeptF.of) | extract_lets x | split

theorem State.putWord_kept (i : Nat) (w : Nat) (v : Nat × Nat) (h : Kept q d s) :
    Kept q d (State.putWord s i w v) := by
  exact State.updMem_words h

theorem State.writeWord_kept (i : Nat) (w : Nat) (d_1 : Nat) (h : Kept q d s) :
    Kept q d (State.writeWord s i w d_1) := by
  unfold State.writeWord
  repeat' first | with_reducible assumption | with_reducible apply State.putWord_kept

theorem State.settle_kept (seqs : List Nat) (h : Kept q d s) :
    Kept q d (State.settle s seqs) := by
  unfold State.settle
  repeat' first | with_reducible assumption | (simp only [↓Kept.mk_eq]; with_reducible apply KeptF.of) | extract_lets x

theorem State.written_kept (n : Nat) (c : Cur) (h : Kept q d s) :
    Kept q d (State.written s n c) := by
  unfold State.written
  split
  case h_3 =>
    refine ⟨h.queue, h.die, h.sound.oneRecord, h.sound.firstZero, ?_, h.sound.tempo, h.sound.memory⟩
    exact Nat.le_trans (List.erase_sublist.length_le) h.sound.backlog
  all_goals first
    | exact h
    | exact State.updRing_kept _ _ h
    | exact h.mk' rfl rfl rfl rfl rfl rfl rfl rfl

theorem State.wordAt_kept (i : Nat) (w : Nat) (h : Kept q d s) :
    Kept q d ((State.wordAt s i w).2) := by
  unfold State.wordAt
  repeat' first
    | with_reducible assumption | with_reducible apply State.fresh_kept | with_reducible apply State.written_kept
    | extract_lets x | split | (with_reducible apply Kept.ofPair; with_reducible assumption)

theorem State.checkedWord_kept (i : Nat) (w : Nat) (h : Kept q d s) :
    Kept q d ((State.checkedWord s i w).2) := by
  unfold State.checkedWord
  repeat' first
    | with_reducible assumption | with_reducible apply State.wordAt_kept | with_reducible apply State.fresh_kept
    | (simp only [↓Kept.mk_eq]; with_reducible apply KeptF.of) | extract_lets x | split
    | (with_reducible apply Kept.ofPair; with_reducible assumption)

theorem State.badCheck_kept (d_1 : Nat) (h : Kept q d s) :
    Kept q d ((State.badCheck s d_1).2) := by
  unfold State.badCheck
  repeat' first
    | with_reducible assumption | with_reducible apply State.fresh_kept | extract_lets x | split
    | (with_reducible apply Kept.ofPair; with_reducible assumption)

theorem State.drainEntry_kept (i : Nat) (e : Merge) (h : Kept q d s) :
    Kept q d (State.drainEntry s i e) := by
  unfold State.drainEntry
  repeat' first
    | with_reducible assumption | with_reducible apply State.updMem_words | with_reducible apply State.updMem_same
    | (intro m; rfl) | with_reducible apply State.writeWord_kept | with_reducible apply State.settle_kept
    | with_reducible apply State.checkedWord_kept | with_reducible apply State.report_kept
    | with_reducible apply State.badCheck_kept | with_reducible apply State.putWord_kept
    | with_reducible apply State.updDma_kept | with_reducible apply Kept.foldl | extract_lets x | split
    | (with_reducible apply Kept.ofPair; with_reducible assumption) | intro _

theorem State.writeMasked_kept (i : Nat) (w : Nat) (d_3 : Nat) (mask : Nat) (seq : Nat) (h : Kept q d s) :
    Kept q d (State.writeMasked s i w d_3 mask seq) := by
  unfold State.writeMasked
  repeat' first
    | with_reducible assumption | with_reducible apply State.updMem_same | with_reducible apply State.writeWord_kept
    | with_reducible apply State.drainEntry_kept | (intro m; rfl) | split | (dsimp +zetaDelta only)

theorem State.memWrite_kept (i : Nat) (a : Nat) (d_1 : Bytes) (seq : Nat) (h : Kept q d s) :
    Kept q d (State.memWrite s i a d_1 seq) := by
  unfold State.memWrite
  repeat' first
    | with_reducible assumption | with_reducible apply State.writeMasked_kept | with_reducible apply Kept.foldl
    | intro _

theorem State.jobFail_kept (j : Job) (code : Nat) (data : Bytes) (h : Kept q d s) :
    Kept q d (State.jobFail s j code data) := by
  unfold State.jobFail
  repeat' first
    | with_reducible assumption | with_reducible apply State.freshBytes_kept
    | with_reducible apply State.dirty_kept | with_reducible apply State.memWrite_kept
    | with_reducible apply State.jobEnd_kept | with_reducible apply Kept.foldl | extract_lets x | split
    | (with_reducible apply Kept.ofPair; with_reducible assumption) | intro _

theorem State.updJob_kept (f : Job → Job) (h : Kept q d s) :
    Kept q d (State.updJob s f) := by
  unfold State.updJob
  repeat' first | with_reducible assumption | (simp only [↓Kept.mk_eq]; with_reducible apply KeptF.of) | extract_lets x

theorem State.jobFails_kept (ch : Nat) (code : Nat) (data : Bytes) (h : Kept q d s) :
    Kept q d (State.jobFails s ch code data) := by
  unfold State.jobFails
  repeat' first | with_reducible assumption | with_reducible apply State.updJob_kept | extract_lets x | split

theorem State.addReq_kept (q_1 : Req) (h : Kept q d s) :
    Kept q d (State.addReq s q_1) := by
  unfold State.addReq
  repeat' first
    | with_reducible assumption | (simp only [↓Kept.mk_eq]; with_reducible apply KeptF.of) | extract_lets x
    | split

theorem State.descStep_kept (ch : Nat) (step : DmaStep) (h : Kept q d s) :
    Kept q d (State.descStep s ch step) := by
  unfold State.descStep
  repeat' first
    | with_reducible assumption | with_reducible apply State.updDma_kept | with_reducible apply State.addReq_kept
    | extract_lets x | split

theorem State.descFail_kept (ch : Nat) (cause : Nat) (h : Kept q d s) :
    Kept q d (State.descFail s ch cause) := by
  unfold State.descFail
  repeat' first
    | with_reducible assumption | with_reducible apply State.updDma_kept
    | with_reducible apply State.descStep_kept | (simp only [↓Kept.mk_eq]; with_reducible apply KeptF.of) | extract_lets x
    | split

theorem State.clError_kept (j : Job) (a : Nat) (h : Kept q d s) :
    Kept q d (State.clError s j a) := by
  unfold State.clError
  repeat' first
    | with_reducible assumption | with_reducible apply State.reportUe_kept
    | with_reducible apply State.jobFails_kept | with_reducible apply State.descFail_kept | extract_lets x | split

theorem State.fenceAll_kept (hit : Nat → Page → Bool) (h : Kept q d s) :
    Kept q d (State.fenceAll s hit) := by
  unfold State.fenceAll
  repeat' first
    | with_reducible assumption | (simp only [↓Kept.mk_eq]; with_reducible apply KeptF.of) | extract_lets x
    | split

theorem State.jobDone_kept (j : Job) (h : Kept q d s) :
    Kept q d (State.jobDone s j) := by
  unfold State.jobDone
  repeat' first
    | with_reducible assumption | with_reducible apply State.jobFail_kept
    | with_reducible apply State.fenceAll_kept | with_reducible apply State.jobEnd_kept
    | with_reducible apply State.fresh_kept | extract_lets x | split
    | (with_reducible apply Kept.ofPair; with_reducible assumption)

theorem State.dmaFault_kept (ch : Nat) (kind : Nat) (h : Kept q d s) :
    Kept q d (State.dmaFault s ch kind) := by
  unfold State.dmaFault
  repeat' first
    | with_reducible assumption | with_reducible apply State.updDma_kept | with_reducible apply State.raise_kept
    | extract_lets x

theorem State.idleVector_kept (ch : Nat) (h : Kept q d s) :
    Kept q d (State.idleVector s ch) := by
  unfold State.idleVector
  repeat' first | with_reducible assumption | with_reducible apply State.signal_kept | split

theorem State.dmaIdle_kept (ch : Nat) (h : Kept q d s) :
    Kept q d (State.dmaIdle s ch) := by
  unfold State.dmaIdle
  repeat' first
    | with_reducible assumption | with_reducible apply State.updDma_kept
    | with_reducible apply State.idleVector_kept | extract_lets x

theorem State.openDma_kept (ch : Nat) (h : Kept q d s) :
    Kept q d (State.openDma s ch) := by
  unfold State.openDma
  repeat' first
    | with_reducible assumption | with_reducible apply State.unlatch_kept | with_reducible apply State.setDma_kept
    | with_reducible apply State.idleVector_kept | with_reducible apply Kept.foldl | extract_lets x | intro _

theorem State.closeDma_kept (ch : Nat) (h : Kept q d s) :
    Kept q d (State.closeDma s ch) := by
  unfold State.closeDma
  repeat' first
    | with_reducible assumption | with_reducible apply State.fresh_kept | with_reducible apply State.setDma_kept
    | with_reducible apply State.raise_kept | (simp only [↓Kept.mk_eq]; with_reducible apply KeptF.of) | split
    | (dsimp +zetaDelta only)

theorem State.ok_kept (r : Reply) (data : Bytes) (h : Kept q d s) :
    Kept q d (State.ok s r data) := by
  unfold State.ok
  repeat' first | with_reducible assumption | with_reducible apply State.post_kept

theorem State.drainWord_kept (i : Nat) (w : Nat) (h : Kept q d s) :
    Kept q d (State.drainWord s i w) := by
  unfold State.drainWord
  repeat' first
    | with_reducible assumption | with_reducible apply State.drainEntry_kept
    | (simp only [↓Kept.mk_eq]; with_reducible apply KeptF.of) | extract_lets x | split

theorem State.readWord_kept (i : Nat) (w : Nat) (reader : Nat) (what : Nat) (latch : List Nat) (h : Kept q d s) :
    Kept q d ((State.readWord s i w reader what latch).2) := by
  unfold State.readWord
  repeat' first
    | with_reducible assumption | with_reducible apply State.drainWord_kept
    | with_reducible apply State.checkedWord_kept | with_reducible apply State.report_kept | extract_lets x | split
    | (with_reducible apply Kept.ofPair; with_reducible assumption)

theorem State.readWords_kept (i reader what : Nat) (latch ws : List Nat) (h : Kept q d s) :
    Kept q d (s.readWords i reader what latch ws).2.2 := by
  induction ws generalizing s with
  | nil => exact h
  | cons w ws ih => exact ih (State.readWord_kept i w reader what latch h)

theorem State.memScan_kept (i : Nat) (a : Nat) (n : Nat) (reader : Nat) (what : Nat) (latch : List Nat) (h : Kept q d s) :
    Kept q d ((State.memScan s i a n reader what latch).2.2) := by
  unfold State.memScan
  repeat' first
    | with_reducible assumption | with_reducible apply State.readWords_kept | extract_lets x | split
    | (with_reducible apply Kept.ofPair; with_reducible assumption)
    | (with_reducible apply Kept.ofTriple; with_reducible assumption)

theorem State.memRead_kept (i : Nat) (a : Nat) (n : Nat) (reader : Nat) (what : Nat) (latch : List Nat) (h : Kept q d s) :
    Kept q d ((State.memRead s i a n reader what latch).2.2) := by
  unfold State.memRead
  repeat' first
    | with_reducible assumption | with_reducible apply State.memScan_kept | extract_lets x
    | (with_reducible apply Kept.ofPair; with_reducible assumption)
    | (with_reducible apply Kept.ofTriple; with_reducible assumption)

theorem State.readDesc_kept (ch : Nat) (d_1 : HostData) (h : Kept q d s) :
    Kept q d ((State.readDesc s ch d_1).2) := by
  unfold State.readDesc
  repeat' first
    | with_reducible assumption | with_reducible apply State.ok_kept | with_reducible apply State.memRead_kept
    | extract_lets x | split | (with_reducible apply Kept.ofPair; with_reducible assumption)
    | (with_reducible apply Kept.ofTriple; with_reducible assumption)

theorem State.startChain_kept (ch : Nat) (a : Nat) (h : Kept q d s) :
    Kept q d (State.startChain s ch a) := by
  unfold State.startChain
  repeat' first
    | with_reducible assumption | with_reducible apply State.updDma_kept
    | with_reducible apply State.descStep_kept | with_reducible apply State.readDesc_kept | extract_lets x | split
    | (with_reducible apply Kept.ofPair; with_reducible assumption)

theorem State.doorbell_kept (ch : Nat) (v : Nat) (h : Kept q d s) :
    Kept q d (State.doorbell s ch v) := by
  unfold State.doorbell
  repeat' first
    | with_reducible assumption | with_reducible apply State.closeDma_kept
    | with_reducible apply State.startChain_kept | split

theorem State.fwRing_kept (ch : Nat) (ws : List (Nat × Bytes)) (next : Nat) (h : Kept q d s) :
    Kept q d (State.fwRing s ch ws next) := by
  unfold State.fwRing
  repeat' first
    | with_reducible assumption | with_reducible apply State.memWrite_kept
    | with_reducible apply State.startChain_kept | with_reducible apply Kept.foldl | split | intro _

theorem State.clearDma_kept (ch : Nat) (v : Nat) (h : Kept q d s) :
    Kept q d (State.clearDma s ch v) := by
  unfold State.clearDma
  repeat' first | with_reducible assumption | with_reducible apply State.updDma_kept | extract_lets x | split

theorem State.takeDone_kept (ch : Nat) (h : Kept q d s) :
    Kept q d ((State.takeDone s ch).2) := by
  unfold State.takeDone
  repeat' first | with_reducible assumption | with_reducible apply State.updDma_kept | extract_lets x | split

theorem State.takeBad_kept (ch : Nat) (h : Kept q d s) :
    Kept q d ((State.takeBad s ch).2) := by
  unfold State.takeBad
  repeat' first | with_reducible assumption | with_reducible apply State.updDma_kept | extract_lets x | split

theorem State.compress_kept (j : Job) (h : Kept q d s) :
    Kept q d (State.compress s j) := by
  unfold State.compress
  repeat' first
    | with_reducible assumption | with_reducible apply State.updJob_kept
    | with_reducible apply State.jobFails_kept | extract_lets x | split

theorem State.drain_kept (ch : Nat) (h : Kept q d s) :
    Kept q d (State.drain s ch) := by
  unfold State.drain
  repeat' first
    | with_reducible assumption | with_reducible apply State.descFail_kept
    | with_reducible apply State.descStep_kept | with_reducible apply State.jobFails_kept
    | with_reducible apply State.addReq_kept | extract_lets x | split

theorem State.nextReq_kept (ch : Nat) (h : Kept q d s) :
    Kept q d (State.nextReq s ch) := by
  unfold State.nextReq
  repeat' first
    | with_reducible assumption | with_reducible apply State.drain_kept | with_reducible apply State.descStep_kept
    | with_reducible apply State.addReq_kept | with_reducible apply State.memRead_kept
    | with_reducible apply State.descFail_kept | extract_lets x | split
    | (with_reducible apply Kept.ofPair; with_reducible assumption)
    | (with_reducible apply Kept.ofTriple; with_reducible assumption)

theorem State.moved_kept (ch : Nat) (n : Nat) (h : Kept q d s) :
    Kept q d (State.moved s ch n) := by
  unfold State.moved
  repeat' first
    | with_reducible assumption | with_reducible apply State.updDma_kept | with_reducible apply State.nextReq_kept
    | extract_lets x

theorem State.beginDesc_kept (ch : Nat) (e : Desc) (h : Kept q d s) :
    Kept q d (State.beginDesc s ch e) := by
  unfold State.beginDesc
  repeat' first
    | with_reducible assumption | with_reducible apply State.updDma_kept
    | with_reducible apply State.descFail_kept | with_reducible apply State.compress_kept
    | with_reducible apply State.nextReq_kept | extract_lets x | split

theorem State.land_kept (f : Flight) (h : Kept q d s) :
    Kept q d (State.land s f) := by
  unfold State.land
  repeat' first
    | with_reducible assumption | with_reducible apply State.memWrite_kept
    | with_reducible apply State.settle_kept | (simp only [↓Kept.mk_eq]; with_reducible apply KeptF.of) | extract_lets x
    | split

theorem State.landOwn_kept (ch : Nat) (a : Nat) (n : Nat) (h : Kept q d s) :
    Kept q d (State.landOwn s ch a n) := by
  unfold State.landOwn
  repeat' first | with_reducible assumption | with_reducible apply State.land_kept | with_reducible apply Kept.foldl | intro _

theorem State.drained_kept (ch : Nat) (n : Nat) (h : Kept q d s) :
    Kept q d (State.drained s ch n) := by
  unfold State.drained
  repeat' first
    | with_reducible assumption | with_reducible apply State.updJob_kept
    | (simp only [↓Kept.mk_eq]; with_reducible apply KeptF.of) | extract_lets x | split

theorem State.grantWrite_kept (q_1 : Req) (h : Kept q d s) :
    Kept q d (State.grantWrite s q_1) := by
  unfold State.grantWrite
  repeat' first
    | with_reducible assumption | with_reducible apply State.jobFails_kept
    | with_reducible apply State.descFail_kept | with_reducible apply State.dirty_kept
    | with_reducible apply State.drained_kept | with_reducible apply State.moved_kept | with_reducible apply Kept.foldl
    | (simp only [↓Kept.mk_eq]; with_reducible apply KeptF.of) | extract_lets x | split | intro _

theorem State.fed_kept (ch : Nat) (b : Bytes) (h : Kept q d s) :
    Kept q d (State.fed s ch b) := by
  unfold State.fed
  repeat' first
    | with_reducible assumption | with_reducible apply State.updJob_kept
    | (simp only [↓Kept.mk_eq]; with_reducible apply KeptF.of) | extract_lets x | split

theorem State.storeRead_kept (a : Nat) (n : Nat) (reader : Nat) (what : Nat) (latch : List Nat) (h : Kept q d s) :
    Kept q d ((State.storeRead s a n reader what latch).2.2) := by
  unfold State.storeRead
  repeat' first
    | with_reducible assumption | with_reducible apply State.memRead_kept
    | (with_reducible apply Kept.ofPair; with_reducible assumption)
    | (with_reducible apply Kept.ofTriple; with_reducible assumption)

theorem State.grantRead_kept (q_1 : Req) (h : Kept q d s) :
    Kept q d (State.grantRead s q_1) := by
  unfold State.grantRead
  repeat' first
    | with_reducible assumption | with_reducible apply State.landOwn_kept
    | with_reducible apply State.storeRead_kept | with_reducible apply State.moved_kept
    | with_reducible apply State.jobFails_kept | with_reducible apply State.descFail_kept
    | with_reducible apply State.addReq_kept | with_reducible apply State.fed_kept | with_reducible apply State.memWrite_kept
    | extract_lets x | split | (with_reducible apply Kept.ofPair; with_reducible assumption)
    | (with_reducible apply Kept.ofTriple; with_reducible assumption)

theorem State.grantHost_kept (q_1 : Req) (data : HostData) (h : Kept q d s) :
    Kept q d (State.grantHost s q_1 data) := by
  unfold State.grantHost
  repeat' first
    | with_reducible assumption | with_reducible apply State.descFail_kept | with_reducible apply State.emit_kept
    | with_reducible apply State.moved_kept | with_reducible apply State.addReq_kept | extract_lets x | split

theorem State.grantCtl_kept (q_1 : Req) (h : Kept q d s) :
    Kept q d (State.grantCtl s q_1) := by
  unfold State.grantCtl
  repeat' first
    | with_reducible assumption | with_reducible apply State.updDma_kept | with_reducible apply State.emit_kept
    | extract_lets x | split

theorem State.grantDma_kept (q_1 : Req) (data : HostData) (h : Kept q d s) :
    Kept q d (State.grantDma s q_1 data) := by
  unfold State.grantDma
  repeat' first
    | with_reducible apply State.grantCtl_kept
    | with_reducible assumption | with_reducible apply State.grantRead_kept | with_reducible apply State.grantWrite_kept
    | with_reducible apply State.grantHost_kept | (simp only [↓Kept.mk_eq]; with_reducible apply KeptF.of) | split
    | (dsimp +zetaDelta only)

theorem State.writeDescStatus_kept (ch : Nat) (v : Nat) (h : Kept q d s) :
    Kept q d (State.writeDescStatus s ch v) := by
  unfold State.writeDescStatus
  repeat' first
    | with_reducible assumption | with_reducible apply State.memWrite_kept | with_reducible apply State.emit_kept
    | extract_lets x | split

theorem State.countDesc_kept (ch : Nat) (cause : Nat) (h : Kept q d s) :
    Kept q d (State.countDesc s ch cause) := by
  unfold State.countDesc
  repeat' first
    | with_reducible assumption | with_reducible apply State.updDma_kept
    | with_reducible apply State.raiseLimited_kept | extract_lets x | split

theorem State.clearEcc_kept (i : Nat) (v : Nat) (h : Kept q d s) :
    Kept q d (State.clearEcc s i v) := by
  unfold State.clearEcc
  repeat' first
    | with_reducible assumption | with_reducible apply State.updMem_words | with_reducible apply State.updMem_same
    | (intro m; rfl) | extract_lets x | split

theorem State.takeCe_kept (i : Nat) (h : Kept q d s) :
    Kept q d ((State.takeCe s i).2) := by
  unfold State.takeCe
  repeat' first
    | with_reducible assumption | with_reducible apply State.updMem_words | with_reducible apply State.updMem_same
    | (intro m; rfl) | extract_lets x | split

theorem State.takeUe_kept (i : Nat) (h : Kept q d s) :
    Kept q d ((State.takeUe s i).2) := by
  unfold State.takeUe
  repeat' first
    | with_reducible assumption | with_reducible apply State.updMem_words | with_reducible apply State.updMem_same
    | (intro m; rfl) | extract_lets x | split

theorem State.setTest_kept (i : Nat) (on : Bool) (h : Kept q d s) :
    Kept q d (State.setTest s i on) := by
  unfold State.setTest
  repeat' first
    | with_reducible assumption | with_reducible apply State.updMem_words | with_reducible apply State.updMem_same
    | (intro m; rfl) | extract_lets x | split

theorem State.testGo_kept (i : Nat) (op : Nat) (act : State → Nat → State) (ha : ∀ u n, Kept q d u → Kept q d (act u n)) (h : Kept q d s) :
    Kept q d (State.testGo s i op act) := by
  unfold State.testGo
  repeat' first
    | with_reducible assumption | with_reducible apply ha | with_reducible apply State.updMem_same
    | with_reducible apply State.drainWord_kept | extract_lets x  | (intro m; rfl) | split

theorem State.testReadRaw_kept (i : Nat) (h : Kept q d s) :
    Kept q d (State.testReadRaw s i) := by
  unfold State.testReadRaw
  repeat' first
    | with_reducible assumption | with_reducible apply State.testGo_kept | with_reducible apply State.wordAt_kept
    | with_reducible apply State.updMem_words | with_reducible apply State.updMem_same | (intro m; rfl) | extract_lets x
    | split | (with_reducible apply Kept.ofPair; with_reducible assumption) | intro _

theorem State.testReadChecked_kept (i : Nat) (h : Kept q d s) :
    Kept q d (State.testReadChecked s i) := by
  unfold State.testReadChecked
  repeat' first
    | with_reducible assumption | with_reducible apply State.testGo_kept
    | with_reducible apply State.readWord_kept | with_reducible apply State.updMem_words
    | with_reducible apply State.updMem_same | (intro m; rfl) | extract_lets x | split
    | (with_reducible apply Kept.ofPair; with_reducible assumption) | intro _

theorem State.testWriteData_kept (i : Nat) (h : Kept q d s) :
    Kept q d (State.testWriteData s i) := by
  unfold State.testWriteData
  repeat' first
    | with_reducible assumption | with_reducible apply State.testGo_kept | with_reducible apply State.wordAt_kept
    | with_reducible apply State.putWord_kept | extract_lets x | split
    | (with_reducible apply Kept.ofPair; with_reducible assumption) | intro _

theorem State.testWriteCheck_kept (i : Nat) (h : Kept q d s) :
    Kept q d (State.testWriteCheck s i) := by
  unfold State.testWriteCheck
  repeat' first
    | with_reducible assumption | with_reducible apply State.testGo_kept | with_reducible apply State.wordAt_kept
    | with_reducible apply State.putWord_kept | extract_lets x | split
    | (with_reducible apply Kept.ofPair; with_reducible assumption) | intro _

theorem State.testWriteRaw_kept (i : Nat) (h : Kept q d s) :
    Kept q d (State.testWriteRaw s i) := by
  unfold State.testWriteRaw
  repeat' first
    | with_reducible assumption | with_reducible apply State.testGo_kept | with_reducible apply State.putWord_kept
    | intro _

theorem State.testWriteNormal_kept (i : Nat) (h : Kept q d s) :
    Kept q d (State.testWriteNormal s i) := by
  unfold State.testWriteNormal
  repeat' first
    | with_reducible assumption | with_reducible apply State.testGo_kept
    | with_reducible apply State.writeWord_kept | intro _

theorem State.testOp_kept (i : Nat) (op : Nat) (h : Kept q d s) :
    Kept q d (State.testOp s i op) := by
  unfold State.testOp
  repeat' first
    | with_reducible assumption | with_reducible apply State.testReadRaw_kept
    | with_reducible apply State.testReadChecked_kept | with_reducible apply State.testWriteData_kept
    | with_reducible apply State.testWriteCheck_kept | with_reducible apply State.testWriteRaw_kept
    | with_reducible apply State.testWriteNormal_kept | with_reducible apply State.updMem_words
    | with_reducible apply State.updMem_same | (intro m; rfl) | extract_lets x | split

theorem State.writeTestCtrl_kept (i : Nat) (v : Nat) (h : Kept q d s) :
    Kept q d (State.writeTestCtrl s i v) := by
  unfold State.writeTestCtrl
  repeat' first
    | with_reducible assumption | with_reducible apply State.updMem_same | with_reducible apply State.testOp_kept
    | with_reducible apply State.setTest_kept | (intro m; rfl) | split | (dsimp +zetaDelta only)

theorem State.writeTestReg_kept (i : Nat) (off : Nat) (v : Nat) (h : Kept q d s) :
    Kept q d (State.writeTestReg s i off v) := by
  unfold State.writeTestReg
  have set : ∀ f : Mem → Mem, (∀ m, (f m).words = m.words) → Kept q d (if s.eccOpen i then s.updMem i f else s) := by
    intro f hf
    split
    · exact State.updMem_same hf h
    · exact h
  dsimp only
  split
  · exact set _ fun _ => rfl
  · split
    · exact set _ fun _ => rfl
    · split
      · exact set _ fun _ => rfl
      · split
        · exact set _ fun _ => rfl
        · split
          · exact set _ fun _ => rfl
          · exact h

theorem State.logAbort_kept (h : Kept q d s) :
    Kept q d (State.logAbort s) := by
  unfold State.logAbort
  repeat' first | with_reducible assumption | (simp only [↓Kept.mk_eq]; with_reducible apply KeptF.of) | extract_lets x

theorem State.resetLoops_kept (k : Nat) (h : Kept q d s) :
    Kept q d (State.resetLoops s k) := by
  unfold State.resetLoops
  repeat' first | with_reducible assumption | with_reducible apply State.updLoop_kept | extract_lets x

theorem State.startAxis_kept (o : Nat) (h : Kept q d s) :
    Kept q d (State.startAxis s o) := by
  unfold State.startAxis
  repeat' first | with_reducible assumption | with_reducible apply State.updAxis_kept | extract_lets x

theorem State.endRunout_kept (o : Nat) (cause : Nat) (h : Kept q d s) :
    Kept q d (State.endRunout s o cause) := by
  unfold State.endRunout
  repeat' first
    | with_reducible assumption | with_reducible apply State.updTile_kept | with_reducible apply State.raise_kept
    | extract_lets x | split

theorem State.polyTo_kept (k : Nat) (st : Poly) (h : Kept q d s) :
    Kept q d (State.polyTo s k st) := by
  unfold State.polyTo
  repeat' first
    | with_reducible assumption | with_reducible apply State.setPoly_kept | with_reducible apply State.raise_kept
    | extract_lets x | split

theorem State.endHold_kept (o : Nat) (h : Kept q d s) :
    Kept q d (State.endHold s o) := by
  unfold State.endHold
  repeat' first
    | with_reducible apply State.geared_kept
    | with_reducible assumption | with_reducible apply State.polyTo_kept | with_reducible apply State.updLoop_kept
    | with_reducible apply State.raise_kept | with_reducible apply State.setAxis_kept | with_reducible apply Kept.foldl | split
    | intro _ | (dsimp +zetaDelta only)

theorem State.refreshAxis_kept (o : Nat) (h : Kept q d s) :
    Kept q d (State.refreshAxis s o) := by
  unfold State.refreshAxis
  repeat' first
    | with_reducible assumption | with_reducible apply State.setAxis_kept
    | with_reducible apply State.endRunout_kept | with_reducible apply State.endHold_kept | extract_lets x | split

theorem State.axisCleared_kept (o : Nat) (h : Kept q d s) :
    Kept q d (State.axisCleared s o) := by
  unfold State.axisCleared
  repeat' first
    | with_reducible assumption | with_reducible apply State.resetLoops_kept
    | with_reducible apply State.startAxis_kept | with_reducible apply State.refreshAxis_kept
    | with_reducible apply Kept.foldl | split | intro _

theorem State.disableTile_kept (k : Nat) (h : Kept q d s) :
    Kept q d (State.disableTile s k) := by
  unfold State.disableTile
  repeat' first
    | with_reducible assumption | with_reducible apply State.polyTo_kept | with_reducible apply State.outputEnable_kept
    | with_reducible apply State.updTile_kept | with_reducible apply State.endRunout_kept | split | (dsimp +zetaDelta only)

theorem State.restAxis_kept (o : Nat) (h : Kept q d s) :
    Kept q d (State.restAxis s o) := by
  unfold State.restAxis
  repeat' first
    | with_reducible assumption | with_reducible apply State.updAxis_kept
    | with_reducible apply State.updGear_kept | with_reducible apply State.endRunout_kept | extract_lets x

theorem State.latchCleared_kept (k : Nat) (h : Kept q d s) :
    Kept q d (State.latchCleared s k) := by
  unfold State.latchCleared
  repeat' first
    | with_reducible assumption | with_reducible apply State.disableTile_kept
    | with_reducible apply State.restAxis_kept | extract_lets x | split

theorem State.tileCleared_kept (code : Nat) (k : Nat) (h : Kept q d s) :
    Kept q d (State.tileCleared s code k) := by
  unfold State.tileCleared
  repeat' first
    | with_reducible assumption | with_reducible apply State.latchCleared_kept
    | with_reducible apply State.polyTo_kept | with_reducible apply State.axisCleared_kept
    | with_reducible apply State.resetLoops_kept | split

theorem State.toRail_kept (i : Nat) (st : RailState) (h : Kept q d s) :
    Kept q d (State.toRail s i st) := by
  unfold State.toRail
  repeat' first
    | with_reducible assumption | with_reducible apply State.setRail_kept
    | (simp only [↓Kept.mk_eq]; with_reducible apply KeptF.of) | extract_lets x | split

theorem State.cleared_kept (code : Nat) (o : Nat) (h : Kept q d s) :
    Kept q d (State.cleared s code o) := by
  unfold State.cleared
  repeat' first
    | with_reducible assumption | with_reducible apply State.relight_kept
    | with_reducible apply State.axisCleared_kept | with_reducible apply State.tileCleared_kept
    | with_reducible apply State.updLink_kept | with_reducible apply State.dmaIdle_kept
    | with_reducible apply State.toRail_kept | (simp only [↓Kept.mk_eq]; with_reducible apply KeptF.of) | extract_lets x
    | split

theorem State.outputsRun_kept (k : Nat) (h : Kept q d s) :
    Kept q d (State.outputsRun s k) := by
  unfold State.outputsRun
  repeat' first
    | with_reducible assumption | with_reducible apply State.enableHeat_kept
    | with_reducible apply State.startScan_kept | with_reducible apply State.updLeg_kept | with_reducible apply Kept.foldl
    | split | intro _

theorem State.setMod_kept (k : Nat) (m : Modulation) (start : Tempo) (h : Kept q d s) :
    Kept q d (State.setMod s k m start) := by
  unfold State.setMod
  repeat' first | with_reducible assumption | with_reducible apply State.updTile_kept | extract_lets x

theorem State.driveBridge_kept (k : Nat) (f : Int) (duty : Int) (start : Tempo) (h : Kept q d s) :
    Kept q d (State.driveBridge s k f duty start) := by
  unfold State.driveBridge
  repeat' first | with_reducible assumption | with_reducible apply State.setMod_kept | extract_lets x | split

theorem State.hold_kept (op : Nat) (m : Msg) (h : Kept q d s) :
    Kept q d (State.hold s op m) := by
  unfold State.hold
  repeat' first | with_reducible assumption | with_reducible apply State.updRing_kept | extract_lets x

theorem State.scanSample_kept (k : Nat) (n : Nat) (h : Kept q d s) :
    Kept q d (State.scanSample s k n) := by
  unfold State.scanSample
  repeat' first
    | with_reducible assumption | with_reducible apply State.hold_kept | with_reducible apply State.setHeat_kept
    | with_reducible apply State.driveBridge_kept | extract_lets x | split

theorem State.temperatureSample_kept (k : Nat) (h : Kept q d s) :
    Kept q d (State.temperatureSample s k) := by
  unfold State.temperatureSample
  repeat' first | with_reducible assumption | with_reducible apply State.setHeat_kept | extract_lets x | split

theorem State.powerSample_kept (k : Nat) (n : Nat) (h : Kept q d s) :
    Kept q d (State.powerSample s k n) := by
  unfold State.powerSample
  repeat' first
    | with_reducible assumption | with_reducible apply State.setHeat_kept | with_reducible apply State.setMod_kept
    | with_reducible apply State.driveBridge_kept | extract_lets x | split

theorem State.tankCheck_kept (k : Nat) (h : Kept q d s) :
    Kept q d (State.tankCheck s k) := by
  unfold State.tankCheck
  repeat' first
    | with_reducible assumption | with_reducible apply State.updHeat_kept | with_reducible apply State.raise_kept
    | extract_lets x | split

theorem State.measure_kept (k : Nat) (h : Kept q d s) :
    Kept q d (State.measure s k) := by
  unfold State.measure
  repeat' first | with_reducible assumption | with_reducible apply State.updLoop_kept | extract_lets x

theorem State.coastAxis_kept (o : Nat) (h : Kept q d s) :
    Kept q d (State.coastAxis s o) := by
  unfold State.coastAxis
  repeat' first
    | with_reducible assumption | with_reducible apply State.updAxis_kept | with_reducible apply State.polyTo_kept
    | with_reducible apply State.endRunout_kept | with_reducible apply Kept.foldl | extract_lets x | split | intro _

theorem State.supervise_kept (k : Nat) (h : Kept q d s) :
    Kept q d (State.supervise s k) := by
  unfold State.supervise
  repeat' first
    | with_reducible assumption | with_reducible apply State.setLoop_kept | with_reducible apply State.raise_kept
    | with_reducible apply State.coastAxis_kept | with_reducible apply Kept.foldl | extract_lets x | split | intro _

theorem State.heatSample_kept (k : Nat) (n : Nat) (h : Kept q d s) :
    Kept q d (State.heatSample s k n) := by
  unfold State.heatSample
  repeat' first
    | with_reducible assumption | with_reducible apply State.measure_kept
    | with_reducible apply State.tankCheck_kept | with_reducible apply State.updHeat_kept
    | with_reducible apply State.supervise_kept | with_reducible apply State.scanSample_kept
    | with_reducible apply State.temperatureSample_kept | with_reducible apply State.powerSample_kept
    | with_reducible apply State.heatWindow_kept | extract_lets x | split

theorem State.arc_kept (k : Nat) (j : Nat) (step : Int) (h : Kept q d s) :
    Kept q d (State.arc s k j step) := by
  unfold State.arc
  repeat' first
    | with_reducible assumption | with_reducible apply State.setLeg_kept
    | with_reducible apply State.legLeave_kept | with_reducible apply State.raiseLimited_kept
    | with_reducible apply State.raise_kept | extract_lets x | split

theorem State.legRegulate_kept (k : Nat) (j : Nat) (m : Int) (h : Kept q d s) :
    Kept q d (State.legRegulate s k j m) := by
  unfold State.legRegulate
  repeat' first
    | with_reducible assumption | with_reducible apply State.setLeg_kept
    | with_reducible apply State.raiseLimited_kept | with_reducible apply State.legWindow_kept | extract_lets x | split

theorem State.legSample_kept (k : Nat) (j : Nat) (h : Kept q d s) :
    Kept q d (State.legSample s k j) := by
  unfold State.legSample
  repeat' first
    | with_reducible assumption | with_reducible apply State.arc_kept
    | with_reducible apply State.legRegulate_kept | split

theorem State.legCount_kept (k : Nat) (j : Nat) (h : Kept q d s) :
    Kept q d (State.legCount s k j) := by
  unfold State.legCount
  repeat' first | with_reducible assumption | with_reducible apply State.updLeg_kept | extract_lets x | split

theorem State.twoStep_kept (k : Nat) (retry : Bool) (cause : Nat) (h : Kept q d s) :
    Kept q d (State.twoStep s k retry cause) := by
  unfold State.twoStep
  repeat' first | with_reducible assumption | with_reducible apply State.updTile_kept | extract_lets x | split

theorem State.hvSample_kept (k : Nat) (n : Nat) (h : Kept q d s) :
    Kept q d (State.hvSample s k n) := by
  unfold State.hvSample
  repeat' first
    | with_reducible assumption | with_reducible apply State.measure_kept
    | with_reducible apply State.twoStep_kept | with_reducible apply State.legCount_kept
    | with_reducible apply State.legSample_kept | with_reducible apply State.supervise_kept
    | with_reducible apply State.setMod_kept | with_reducible apply Kept.foldl | extract_lets x | split | intro _

theorem State.badRead_kept (k : Nat) (z : Nat) (cause : Nat) (h : Kept q d s) :
    Kept q d (State.badRead s k z cause) := by
  unfold State.badRead
  repeat' first
    | with_reducible assumption | with_reducible apply State.updHeat_kept | with_reducible apply State.raise_kept
    | extract_lets x | split

theorem State.putSpi_kept (c : Nat) (q_1 : List SpiJob) (h : Kept q d s) :
    Kept q d (State.putSpi s c q_1) := by
  unfold State.putSpi
  repeat' first | with_reducible assumption | (simp only [↓Kept.mk_eq]; with_reducible apply KeptF.of) | extract_lets x

theorem State.spiSend_kept (c : Nat) (j : SpiJob) (h : Kept q d s) :
    Kept q d (State.spiSend s c j) := by
  unfold State.spiSend
  repeat' first | with_reducible assumption | with_reducible apply State.emit_kept | extract_lets x | split

theorem State.spiPush_kept (c : Nat) (j : SpiJob) (h : Kept q d s) :
    Kept q d (State.spiPush s c j) := by
  unfold State.spiPush
  repeat' first
    | with_reducible assumption | with_reducible apply State.putSpi_kept | with_reducible apply State.spiSend_kept
    | extract_lets x | split

end Sys2Proof.Machine
end

