-- ==== Sys2Proof/Laws/KeptOps3.lean ====
section
/-!
SUPPORT. Every operation on a state keeps it kept, part 3 of 4: one lemma per operation, callees before their callers.
-/
namespace Sys2Proof.Machine
variable {q : List Instr} {d : Die} {s : State}

theorem State.spiPop_kept (c : Nat) (h : Kept q d s) :
    Kept q d (State.spiPop s c) := by
  unfold State.spiPop
  repeat' first
    | with_reducible assumption | with_reducible apply State.putSpi_kept | with_reducible apply State.spiSend_kept
    | extract_lets x | split

theorem State.dropReads_kept (k : Nat) (h : Kept q d s) :
    Kept q d (State.dropReads s k) := by
  unfold State.dropReads
  repeat' first
    | with_reducible assumption | with_reducible apply State.putSpi_kept | with_reducible apply Kept.foldl
    | extract_lets x | split | intro _

theorem State.zoneDone_kept (tile : Nat) (zone : Nat) (rx : Bytes) (h : Kept q d s) :
    Kept q d (State.zoneDone s tile zone rx) := by
  unfold State.zoneDone
  repeat' first
    | with_reducible assumption | with_reducible apply State.setHeat_kept
    | with_reducible apply State.badRead_kept | with_reducible apply State.updHeat_kept
    | with_reducible apply State.raise_kept | with_reducible apply State.heatWindow_kept | extract_lets x | split
    | (dsimp +zetaDelta only)

theorem State.measureRo_kept (ro : List Nat) (h : Kept q d s) :
    Kept q d (State.measureRo s ro) := by
  unfold State.measureRo
  repeat' first
    | with_reducible assumption | with_reducible apply State.age_kept | with_reducible apply Kept.foldl | split
    | intro _

theorem State.voutMantissa_kept (v : Nat) (mode : Nat) (h : Kept q d s) :
    Kept q d ((State.voutMantissa s v mode).2) := by
  unfold State.voutMantissa
  repeat' first
    | with_reducible assumption | with_reducible apply State.fresh_kept | extract_lets x | split
    | (with_reducible apply Kept.ofPair; with_reducible assumption)

theorem State.writeVcore_kept (v : Nat) (a : VcoreAnswer) (h : Kept q d s) :
    Kept q d (State.writeVcore s v a) := by
  unfold State.writeVcore
  repeat' first
    | with_reducible assumption | with_reducible apply State.emit_kept | with_reducible apply State.raise_kept
    | with_reducible apply State.voutMantissa_kept | (simp only [↓Kept.mk_eq]; with_reducible apply KeptF.of) | extract_lets x
    | split | (with_reducible apply Kept.ofPair; with_reducible assumption)

theorem State.reportDrifts_kept (h : Kept q d s) :
    Kept q d (State.reportDrifts s) := by
  unfold State.reportDrifts
  repeat' first
    | with_reducible assumption | with_reducible apply State.raise_kept | with_reducible apply Kept.foldl
    | (simp only [↓Kept.mk_eq]; with_reducible apply KeptF.of) | extract_lets x | intro _

theorem State.applyPlan_kept (p : PlanObs) (h : Kept q d s) :
    Kept q d ((State.applyPlan s p).2) := by
  unfold State.applyPlan
  repeat' first
    | with_reducible assumption | with_reducible apply State.measureRo_kept
    | with_reducible apply State.writeVcore_kept | with_reducible apply State.setParam_kept
    | with_reducible apply State.updTile_kept | with_reducible apply State.written_kept
    | with_reducible apply State.setAgeField_kept | with_reducible apply State.setTable_kept
    | with_reducible apply State.reportDrifts_kept | with_reducible apply State.raise_kept | with_reducible apply Kept.foldl
    | (simp only [↓Kept.mk_eq]; with_reducible apply KeptF.of) | extract_lets x | split | intro _

theorem State.endTests_kept (h : Kept q d s) :
    Kept q d (State.endTests s) := by
  refine ⟨h.queue, h.die, h.sound.oneRecord, h.sound.firstZero, h.sound.backlog, h.sound.tempo, ?_⟩
  exact Memory.wf_mapV (f := fun _ m => { m with test := false }) h.sound.memory (fun _ _ hm => hm)

theorem State.toMode_kept (m : Mode) (hw : Bool) (h : Kept q d s) :
    Kept q d (State.toMode s m hw) := by
  unfold State.toMode
  repeat' first
    | with_reducible assumption | with_reducible apply State.fresh_kept | with_reducible apply State.endTests_kept
    | with_reducible apply State.raise_kept | (simp only [↓Kept.mk_eq]; with_reducible apply KeptF.of) | extract_lets x
    | split | (with_reducible apply Kept.ofPair; with_reducible assumption)

theorem State.startRunout_kept (o : Nat) (h : Kept q d s) :
    Kept q d (State.startRunout s o) := by
  unfold State.startRunout
  repeat' first
    | with_reducible assumption | with_reducible apply State.updTile_kept | with_reducible apply State.geared_kept
    | with_reducible apply State.setAxis_kept | with_reducible apply State.updGear_kept | extract_lets x | split
    | (with_reducible apply Kept.ofPair; with_reducible assumption)

theorem State.refresh_kept (ks : List Nat) (h : Kept q d s) :
    Kept q d (State.refresh s ks) := by
  unfold State.refresh
  repeat' first
    | with_reducible assumption | with_reducible apply State.endRunout_kept
    | with_reducible apply State.refreshAxis_kept | with_reducible apply Kept.foldl | split | intro _

theorem State.holdTiles_kept (h : Kept q d s) :
    Kept q d (State.holdTiles s) := by
  unfold State.holdTiles
  repeat' first
    | with_reducible assumption | with_reducible apply State.startRunout_kept
    | with_reducible apply State.twoStep_kept | with_reducible apply State.refresh_kept | with_reducible apply Kept.foldl
    | extract_lets x | split | intro _

theorem State.lowerCause_kept (code : Nat) (h : Kept q d s) :
    Kept q d (State.lowerCause s code) := by
  exact ⟨h.queue, h.die, h.sound.oneRecord, h.sound.firstZero, by simpa [State.lowerCause] using h.sound.backlog,
    h.sound.tempo, h.sound.memory⟩

theorem State.enterSafeHold_kept (code : Nat) (hw : Bool) (h : Kept q d s) :
    Kept q d (State.enterSafeHold s code hw) := by
  unfold State.enterSafeHold
  repeat' first
    | with_reducible assumption | with_reducible apply State.abortSheets_kept
    | with_reducible apply State.disarmTickets_kept | with_reducible apply State.disarmSlots_kept
    | with_reducible apply State.toMode_kept | with_reducible apply State.raise_kept
    | with_reducible apply State.holdTiles_kept | with_reducible apply State.lowerCause_kept
    | (simp only [↓Kept.mk_eq]; with_reducible apply KeptF.of) | extract_lets x | split

theorem State.watchdogHold_kept (h : Kept q d s) :
    Kept q d (State.watchdogHold s) := by
  unfold State.watchdogHold
  repeat' first | with_reducible assumption | with_reducible apply State.enterSafeHold_kept | split

theorem State.finishPlan_kept (p : PlanObs) (reply : Option Reply) (h : Kept q d s) :
    Kept q d (State.finishPlan s p reply) := by
  unfold State.finishPlan
  repeat' first
    | with_reducible assumption | with_reducible apply State.applyPlan_kept | with_reducible apply State.ok_kept
    | with_reducible apply State.toMode_kept | with_reducible apply State.watchdogHold_kept
    | (simp only [↓Kept.mk_eq]; with_reducible apply KeptF.of) | extract_lets x | split
    | (with_reducible apply Kept.ofPair; with_reducible assumption)

theorem State.planResume_kept (h : Kept q d s) :
    Kept q d (State.planResume s) := by
  unfold State.planResume
  repeat' first | with_reducible assumption | with_reducible apply State.finishPlan_kept | extract_lets x | split

theorem State.putI2c_kept (c : Nat) (q_1 : List Xfer) (h : Kept q d s) :
    Kept q d (State.putI2c s c q_1) := by
  unfold State.putI2c
  repeat' first | with_reducible assumption | (simp only [↓Kept.mk_eq]; with_reducible apply KeptF.of) | extract_lets x

theorem State.i2cNext_kept (c : Nat) (h : Kept q d s) :
    Kept q d (State.i2cNext s c) := by
  unfold State.i2cNext
  repeat' first
    | with_reducible assumption | with_reducible apply State.putI2c_kept | with_reducible apply State.emit_kept
    | extract_lets x | split

theorem State.i2cGo_kept (c : Nat) (h : Kept q d s) :
    Kept q d (State.i2cGo s c) := by
  unfold State.i2cGo
  repeat' first
    | with_reducible assumption | with_reducible apply State.planResume_kept
    | with_reducible apply State.i2cNext_kept

theorem State.pmbus_kept (i : Nat) (cmd : Nat) (n : Nat) (h : Kept q d s) :
    Kept q d (State.pmbus s i cmd n) := by
  unfold State.pmbus
  repeat' first | with_reducible assumption | with_reducible apply State.emit_kept | extract_lets x | split

theorem State.pmbusFallback_kept (i : Nat) (cause : Nat) (h : Kept q d s) :
    Kept q d (State.pmbusFallback s i cause) := by
  unfold State.pmbusFallback
  repeat' first
    | with_reducible assumption | with_reducible apply State.updRail_kept | with_reducible apply State.raise_kept
    | extract_lets x

theorem State.sequenceDone_kept (last : Nat) (h : Kept q d s) :
    Kept q d (State.sequenceDone s last) := by
  unfold State.sequenceDone
  repeat' first
    | with_reducible assumption | with_reducible apply State.fresh_kept | with_reducible apply State.raise_kept
    | extract_lets x | split | (with_reducible apply Kept.ofPair; with_reducible assumption)

theorem State.ownDown_kept (h : Kept q d s) :
    Kept q d (State.ownDown s) := by
  unfold State.ownDown
  repeat' first
    | with_reducible assumption | (simp only [↓Kept.mk_eq]; with_reducible apply KeptF.of) | extract_lets x
    | split

theorem State.downDone_kept (d_1 : Down) (h : Kept q d s) :
    Kept q d (State.downDone s d_1) := by
  unfold State.downDone
  repeat' first
    | with_reducible assumption | with_reducible apply State.post_kept | with_reducible apply State.sequenceDone_kept
    | with_reducible apply State.ownDown_kept | with_reducible apply State.ok_kept | split | (dsimp +zetaDelta only)

theorem State.downAdvance_kept (h : Kept q d s) :
    Kept q d (State.downAdvance s) := by
  unfold State.downAdvance
  repeat' first
    | with_reducible assumption | with_reducible apply State.toRail_kept
    | with_reducible apply State.downDone_kept | with_reducible apply Kept.foldl
    | (simp only [↓Kept.mk_eq]; with_reducible apply KeptF.of) | extract_lets x | split | intro _

theorem State.fallen_kept (i : Nat) (h : Kept q d s) :
    Kept q d (State.fallen s i) := by
  unfold State.fallen
  repeat' first
    | with_reducible assumption | with_reducible apply State.toRail_kept
    | with_reducible apply State.downAdvance_kept

theorem State.pmbusRead_kept (rail : Nat) (r : PmbusRead) (h : Kept q d s) :
    Kept q d (State.pmbusRead s rail r) := by
  unfold State.pmbusRead
  repeat' first
    | with_reducible assumption | with_reducible apply State.pmbus_kept
    | with_reducible apply State.pmbusFallback_kept | with_reducible apply State.updRail_kept
    | with_reducible apply State.fallen_kept | extract_lets x | split | (dsimp +zetaDelta only)

theorem State.hdrInvalid_kept (tk : Nat) (i : Image) (cause : Nat) (h : Kept q d s) :
    Kept q d (State.hdrInvalid s tk i cause) := by
  unfold State.hdrInvalid
  repeat' first | with_reducible assumption | with_reducible apply State.raise_kept | split

theorem State.recordBox_kept (e : QStrip) (h : Kept q d s) :
    Kept q d (State.recordBox s e) := by
  unfold State.recordBox
  repeat' first
    | with_reducible assumption | with_reducible apply State.hdrInvalid_kept
    | with_reducible apply State.updTicket_kept | with_reducible apply State.unqueue_kept | with_reducible apply Kept.foldl
    | (simp only [↓Kept.mk_eq]; with_reducible apply KeptF.of) | extract_lets x | split | intro _

theorem State.updStrip_kept (n : Nat) (first : Nat) (f : QStrip → QStrip) (h : Kept q d s) :
    Kept q d (State.updStrip s n first f) := by
  unfold State.updStrip
  repeat' first | with_reducible assumption | with_reducible apply State.updStation_kept | extract_lets x | split

theorem State.laneNext_kept (l : Nat) (h : Kept q d s) :
    Kept q d (State.laneNext s l) := by
  unfold State.laneNext
  repeat' first | with_reducible assumption | with_reducible apply State.updLane_kept | with_reducible apply State.prune_kept

theorem State.decodeError_kept (l : Nat) (e : QStrip) (code : Nat) (at_ : Nat) (record : Bool) (h : Kept q d s) :
    Kept q d (State.decodeError s l e code at_ record) := by
  unfold State.decodeError
  repeat' first
    | with_reducible assumption | with_reducible apply State.updLane_kept | with_reducible apply State.updStrip_kept
    | with_reducible apply State.laneNext_kept | with_reducible apply State.recordBox_kept
    | with_reducible apply State.raise_kept | with_reducible apply State.spoil_kept | with_reducible apply State.updStation_kept
    | split | (dsimp +zetaDelta only)

theorem State.crcMismatch_kept (l : Nat) (e : QStrip) (crc : Nat) (h : Kept q d s) :
    Kept q d (State.crcMismatch s l e crc) := by
  unfold State.crcMismatch
  repeat' first
    | with_reducible assumption | with_reducible apply State.updLane_kept | with_reducible apply State.raise_kept
    | with_reducible apply State.updStrip_kept | with_reducible apply State.spoil_kept
    | with_reducible apply State.recordBox_kept | extract_lets x | split

theorem State.polyRamp_kept (k : Nat) (h : Kept q d s) :
    Kept q d (State.polyRamp s k) := by
  unfold State.polyRamp
  repeat' first
    | with_reducible assumption | with_reducible apply State.setPoly_kept | with_reducible apply State.polyTo_kept
    | with_reducible apply State.endRunout_kept | extract_lets x | split

theorem State.polyBlind_kept (k : Nat) (thetaO : Nat) (vo : Int) (h : Kept q d s) :
    Kept q d (State.polyBlind s k thetaO vo) := by
  unfold State.polyBlind
  repeat' first
    | with_reducible assumption | with_reducible apply State.setPoly_kept | with_reducible apply State.polyTo_kept
    | extract_lets x | split

theorem State.polyObserve_kept (k : Nat) (thetaO : Nat) (vo : Int) (h : Kept q d s) :
    Kept q d (State.polyObserve s k thetaO vo) := by
  unfold State.polyObserve
  repeat' first
    | with_reducible assumption | with_reducible apply State.setPoly_kept
    | with_reducible apply State.polyRamp_kept | extract_lets x | split

theorem State.polySample_kept (k : Nat) (h : Kept q d s) :
    Kept q d (State.polySample s k) := by
  unfold State.polySample
  repeat' first
    | with_reducible assumption | with_reducible apply State.updPoly_kept | with_reducible apply State.fresh_kept
    | with_reducible apply State.polyBlind_kept | with_reducible apply State.polyObserve_kept
    | with_reducible apply State.polyRamp_kept | extract_lets x | split
    | (with_reducible apply Kept.ofPair; with_reducible assumption)

theorem State.notchStep_kept (k : Nat) (n : Nat) (z : Notch) (u : Int) (h : Kept q d s) :
    Kept q d ((State.notchStep s k n z u).2.2) := by
  unfold State.notchStep
  repeat' first
    | with_reducible assumption | with_reducible apply State.raise_kept
    | (simp only [↓Kept.mk_eq]; with_reducible apply KeptF.of) | extract_lets x | split

theorem State.positionSample_kept (k : Nat) (h : Kept q d s) :
    Kept q d (State.positionSample s k) := by
  unfold State.positionSample
  repeat' first | with_reducible assumption | with_reducible apply State.setLoop_kept | extract_lets x | split

theorem State.speedLoop_kept (k : Nat) (h : Kept q d s) :
    Kept q d (State.speedLoop s k) := by
  unfold State.speedLoop
  repeat' first
    | with_reducible assumption | with_reducible apply State.notchStep_kept
    | with_reducible apply State.updLoop_kept | extract_lets x | split
    | (with_reducible apply Kept.ofPair; with_reducible assumption)
    | (with_reducible apply Kept.ofTriple; with_reducible assumption)

theorem State.speedSample_kept (k : Nat) (n : Nat) (h : Kept q d s) :
    Kept q d (State.speedSample s k n) := by
  unfold State.speedSample
  repeat' first
    | with_reducible assumption | with_reducible apply State.positionSample_kept
    | with_reducible apply State.speedLoop_kept | with_reducible apply State.updLoop_kept | extract_lets x | split

theorem State.saturate_kept (k : Nat) (run : Nat) (u : Int) (avail : Int) (h : Kept q d s) :
    Kept q d (State.saturate s k run u avail) := by
  unfold State.saturate
  repeat' first
    | with_reducible assumption | with_reducible apply State.setAxis_kept
    | with_reducible apply State.raiseLimited_kept | with_reducible apply State.updAxis_kept | extract_lets x | split

theorem State.currentLoop_kept (k : Nat) (h : Kept q d s) :
    Kept q d (State.currentLoop s k) := by
  unfold State.currentLoop
  repeat' first
    | with_reducible assumption | with_reducible apply State.setLoop_kept
    | with_reducible apply State.saturate_kept | extract_lets x | split

theorem State.ageConduction_kept (k : Nat) (h : Kept q d s) :
    Kept q d (State.ageConduction s k) := by
  unfold State.ageConduction
  repeat' first
    | with_reducible assumption | with_reducible apply State.setLoop_kept | with_reducible apply State.age_kept
    | extract_lets x | split

theorem State.ageFriction_kept (k : Nat) (h : Kept q d s) :
    Kept q d (State.ageFriction s k) := by
  unfold State.ageFriction
  repeat' first
    | with_reducible assumption | with_reducible apply State.setLoop_kept | with_reducible apply State.age_kept
    | extract_lets x | split

theorem State.holdU_kept (k : Nat) (u : Int) (h : Kept q d s) :
    Kept q d ((State.holdU s k u).2) := by
  unfold State.holdU
  repeat' first
    | with_reducible assumption | with_reducible apply State.updLoop_kept
    | with_reducible apply State.saturate_kept | extract_lets x | split

theorem State.legOn_kept (k : Nat) (leg : Nat) (u : Int) (h : Kept q d s) :
    Kept q d ((State.legOn s k leg u).2) := by
  unfold State.legOn
  repeat' first
    | with_reducible assumption | with_reducible apply State.fresh_kept | extract_lets x | split
    | (with_reducible apply Kept.ofPair; with_reducible assumption)

theorem State.driveEach_kept (k : Nat) (mid : Int) (us : List (Option Int)) (leg : Nat) (h : Kept q d s) :
    Kept q d (s.driveEach k mid us leg).2 := by
  induction us generalizing s leg with
  | nil => exact h
  | cons u us ih =>
    cases u with
    | none => exact ih _ h
    | some u => exact ih (leg + 1) (State.legOn_kept k leg (u - mid) h)

theorem State.driveLegs_kept (k : Nat) (us : List (Option Int)) (start : Tempo) (h : Kept q d s) :
    Kept q d (State.driveLegs s k us start) := by
  unfold State.driveLegs
  exact State.updTile_kept _ _ (State.driveEach_kept k _ us 0 h)

theorem State.driveMotor_kept (k : Nat) (n : Nat) (h : Kept q d s) :
    Kept q d (State.driveMotor s k n) := by
  unfold State.driveMotor
  repeat' first
    | with_reducible assumption | with_reducible apply State.driveLegs_kept
    | with_reducible apply State.holdU_kept | extract_lets x | split
    | (with_reducible apply Kept.ofPair; with_reducible assumption)

theorem State.motorSample_kept (k : Nat) (n : Nat) (h : Kept q d s) :
    Kept q d (State.motorSample s k n) := by
  unfold State.motorSample
  repeat' first
    | with_reducible assumption | with_reducible apply State.polySample_kept | with_reducible apply State.supervise_kept
    | with_reducible apply State.ageFriction_kept | with_reducible apply State.updLoop_kept
    | with_reducible apply State.speedSample_kept | with_reducible apply State.measure_kept
    | with_reducible apply State.currentLoop_kept | with_reducible apply State.ageConduction_kept
    | with_reducible apply State.driveMotor_kept | split | (dsimp +zetaDelta only)

theorem State.tap_kept (k : Nat) (h : Kept q d s) :
    Kept q d (State.tap s k) := by
  unfold State.tap
  repeat' first
    | with_reducible assumption | (simp only [↓Kept.mk_eq]; with_reducible apply KeptF.of) | extract_lets x
    | split

theorem State.writeRingEn_kept (n : Idx) (on : Bool) (h : Kept q d s) :
    Kept q d (State.writeRingEn s n on) := by
  unfold State.writeRingEn
  repeat' first | with_reducible assumption | with_reducible apply State.setRing_kept | extract_lets x | split

theorem State.writeCmdTail_kept (n : Nat) (v : Nat) (h : Kept q d s) :
    Kept q d (State.writeCmdTail s n v) := by
  unfold State.writeCmdTail
  repeat' first | with_reducible assumption | with_reducible apply State.updRing_kept | extract_lets x | split

theorem State.writeRspHead_kept (n : Nat) (v : Nat) (h : Kept q d s) :
    Kept q d (State.writeRspHead s n v) := by
  unfold State.writeRspHead
  repeat' first | with_reducible assumption | with_reducible apply State.updRing_kept | extract_lets x | split

theorem State.readSlots_kept (ring k n : Nat) (h : Kept q d s) : Kept q d (s.readSlots ring k n).2.2 := by
  induction n generalizing s k with
  | zero => exact h
  | succ n ih => exact ih _ (State.memRead_kept memMailbox (0x1000 * ring + 64 * (k % 64)) 64 0xc _ _ h)

theorem State.haltRing_kept (n : Nat) (cause : Nat) (h : Kept q d s) :
    Kept q d (State.haltRing s n cause) := by
  unfold State.haltRing
  repeat' first
    | with_reducible assumption | with_reducible apply State.updRing_kept | with_reducible apply State.raise_kept
    | extract_lets x

theorem State.answerSkipped_kept (n : Nat) (bs : Bytes) (code : Nat) (h : Kept q d s) :
    Kept q d (State.answerSkipped s n bs code) := by
  unfold State.answerSkipped
  repeat' first | with_reducible assumption | with_reducible apply State.post_kept

theorem State.writeEntry_kept (n : Nat) (b : Bytes) (urgent : Bool) (h : Kept q d s) :
    Kept q d (State.writeEntry s n b urgent) := by
  unfold State.writeEntry
  repeat' first
    | with_reducible assumption | with_reducible apply State.emit_kept | with_reducible apply State.setRing_kept
    | extract_lets x | split

theorem State.bar2_kept (write : Bool) (off : Nat) (len : Nat) (data : Bytes) (h : Kept q d s) :
    Kept q d (State.bar2 s write off len data) := by
  unfold State.bar2
  repeat' first
    | with_reducible assumption | with_reducible apply State.emit_kept | with_reducible apply State.memWrite_kept
    | with_reducible apply State.memRead_kept | with_reducible apply Kept.foldl
    | (simp only [↓Kept.mk_eq]; with_reducible apply KeptF.of) | extract_lets x | split
    | (with_reducible apply Kept.ofPair; with_reducible assumption)
    | (with_reducible apply Kept.ofTriple; with_reducible assumption) | intro _

theorem State.linkCuts_kept (ch : Nat) (h : Kept q d s) :
    Kept q d (State.linkCuts s ch) := by
  unfold State.linkCuts
  repeat' first
    | with_reducible assumption | with_reducible apply State.readDesc_kept
    | with_reducible apply State.dmaFault_kept | with_reducible apply State.descFail_kept | extract_lets x | split
    | (with_reducible apply Kept.ofPair; with_reducible assumption)

theorem State.accepted_kept (r : Reply) (h : Kept q d s) :
    Kept q d (State.accepted s r) := by
  unfold State.accepted
  repeat' first | with_reducible assumption | with_reducible apply State.post_kept

theorem State.stopPoly_kept (k : Nat) (h : Kept q d s) :
    Kept q d (State.stopPoly s k) := by
  unfold State.stopPoly
  repeat' first
    | with_reducible assumption | with_reducible apply State.updPoly_kept | with_reducible apply State.polyTo_kept
    | extract_lets x | split

theorem State.stopAxis_kept (o : Nat) (h : Kept q d s) :
    Kept q d (State.stopAxis s o) := by
  unfold State.stopAxis
  repeat' first
    | with_reducible assumption | with_reducible apply State.updGear_kept
    | with_reducible apply State.setAxis_kept | with_reducible apply State.geared_kept | extract_lets x | split
    | (with_reducible apply Kept.ofPair; with_reducible assumption)

theorem State.stopObj_kept (o : Nat) (h : Kept q d s) :
    Kept q d (State.stopObj s o) := by
  unfold State.stopObj
  repeat' first
    | with_reducible assumption | with_reducible apply State.stopPoly_kept
    | with_reducible apply State.stopAxis_kept | split

theorem State.stopAll_kept (h : Kept q d s) :
    Kept q d (State.stopAll s) := by
  unfold State.stopAll
  repeat' first
    | with_reducible assumption | with_reducible apply State.stopObj_kept
    | with_reducible apply State.outputEnable_kept | with_reducible apply Kept.foldl | extract_lets x | split | intro _

theorem State.writeMems_kept (h : Kept q d s) :
    Kept q d (State.writeMems s) := by
  exact Kept.foldl (fun _ _ hu => State.updMem_kept (fun _ _ => rfl) hu) h

theorem State.restDrive_kept (h : Kept q d s) :
    Kept q d (State.restDrive s) := by
  unfold State.restDrive
  repeat' first
    | with_reducible assumption | with_reducible apply State.restAxis_kept
    | with_reducible apply State.disableTile_kept | with_reducible apply State.updGroup_kept | with_reducible apply Kept.foldl
    | extract_lets x | split | intro _

theorem State.enterStandby_kept (hw : Bool) (h : Kept q d s) :
    Kept q d (State.enterStandby s hw) := by
  unfold State.enterStandby
  repeat' first
    | with_reducible assumption | with_reducible apply State.writeMems_kept
    | with_reducible apply State.restDrive_kept | with_reducible apply State.startCfg_kept
    | with_reducible apply State.disarmTickets_kept | with_reducible apply State.toMode_kept | with_reducible apply Kept.foldl
    | extract_lets x | split | intro _

theorem State.leaveRunOut_kept (h : Kept q d s) :
    Kept q d (State.leaveRunOut s) := by
  unfold State.leaveRunOut
  repeat' first
    | with_reducible assumption | with_reducible apply State.enterStandby_kept
    | with_reducible apply State.toMode_kept | split

theorem State.transit_kept (t : Mode) (exit : Mode) (r : Reply) (h : Kept q d s) :
    Kept q d (State.transit s t exit r) := by
  unfold State.transit
  repeat' first
    | with_reducible assumption | with_reducible apply State.accepted_kept
    | with_reducible apply State.stopAll_kept | with_reducible apply State.enterStandby_kept
    | with_reducible apply State.ok_kept | with_reducible apply State.toMode_kept
    | with_reducible apply State.leaveRunOut_kept | with_reducible apply State.fresh_kept
    | with_reducible apply State.enterSafeHold_kept | (simp only [↓Kept.mk_eq]; with_reducible apply KeptF.of)
    | extract_lets x | split | (with_reducible apply Kept.ofPair; with_reducible assumption)

theorem State.watchdogExpires_kept (h : Kept q d s) :
    Kept q d (State.watchdogExpires s) := by
  unfold State.watchdogExpires
  repeat' first
    | with_reducible assumption | with_reducible apply State.signal_kept | with_reducible apply State.raise_kept
    | with_reducible apply State.watchdogHold_kept | (simp only [↓Kept.mk_eq]; with_reducible apply KeptF.of) | extract_lets x
    | split

theorem State.afterExit_kept (h : Kept q d s) :
    Kept q d (State.afterExit s) := by
  unfold State.afterExit
  repeat' first
    | with_reducible assumption | with_reducible apply State.watchdogHold_kept
    | with_reducible apply State.toMode_kept | with_reducible apply State.startRunout_kept | with_reducible apply Kept.foldl
    | split | intro _

theorem State.motionFault_kept (o : Nat) (code : Nat) (fields : List Nat) (h : Kept q d s) :
    Kept q d (State.motionFault s o code fields) := by
  unfold State.motionFault
  repeat' first
    | with_reducible assumption | with_reducible apply State.raise_kept
    | with_reducible apply State.coastAxis_kept

theorem State.tileCoast_kept (k : Nat) (code : Nat) (fields : List Nat) (h : Kept q d s) :
    Kept q d (State.tileCoast s k code fields) := by
  unfold State.tileCoast
  repeat' first
    | with_reducible assumption | with_reducible apply State.raise_kept
    | with_reducible apply State.coastAxis_kept

theorem State.tickSensors_kept (o : Nat) (h : Kept q d s) :
    Kept q d (State.tickSensors s o) := by
  unfold State.tickSensors
  repeat' first
    | with_reducible assumption | with_reducible apply State.setTile_kept
    | with_reducible apply State.motionFault_kept | with_reducible apply Kept.foldl | extract_lets x | split | intro _

theorem State.comeToRest_kept (o : Nat) (code : Nat) (h : Kept q d s) :
    Kept q d (State.comeToRest s o code) := by
  unfold State.comeToRest
  repeat' first
    | with_reducible assumption | with_reducible apply State.setAxis_kept | with_reducible apply State.raise_kept
    | with_reducible apply State.endRunout_kept | extract_lets x | split

theorem State.tryRegear_kept (o : Nat) (vs : Int) (h : Kept q d s) :
    Kept q d (State.tryRegear s o vs) := by
  unfold State.tryRegear
  repeat' first
    | with_reducible assumption | with_reducible apply State.setAxis_kept | with_reducible apply State.geared_kept
    | with_reducible apply State.setGear_kept | with_reducible apply State.raise_kept | extract_lets x | split
    | (with_reducible apply Kept.ofPair; with_reducible assumption)

theorem State.tickGeared_kept (o : Nat) (h : Kept q d s) :
    Kept q d (State.tickGeared s o) := by
  unfold State.tickGeared
  repeat' first
    | with_reducible assumption | with_reducible apply State.setAxis_kept
    | with_reducible apply State.raiseLimited_kept | extract_lets x | split

theorem State.tickMoving_kept (o : Nat) (h : Kept q d s) :
    Kept q d (State.tickMoving s o) := by
  unfold State.tickMoving
  repeat' first
    | with_reducible assumption | with_reducible apply State.setAxis_kept
    | with_reducible apply State.comeToRest_kept | with_reducible apply State.tryRegear_kept
    | (simp only [↓Kept.mk_eq]; with_reducible apply KeptF.of) | extract_lets x | split

theorem State.followCheck_kept (o : Nat) (h : Kept q d s) :
    Kept q d (State.followCheck s o) := by
  unfold State.followCheck
  repeat' first | with_reducible assumption | with_reducible apply State.motionFault_kept | extract_lets x | split

theorem State.stepSaturation_kept (o : Nat) (h : Kept q d s) :
    Kept q d (State.stepSaturation s o) := by
  unfold State.stepSaturation
  repeat' first
    | with_reducible assumption | with_reducible apply State.updLoop_kept
    | with_reducible apply State.saturate_kept | with_reducible apply Kept.foldl | extract_lets x | split | intro _

theorem State.command_kept (op : Nat) (m : Msg) (refs : List Ref) (effect : Reply → State → State) (he : ∀ r u, Kept q d u → Kept q d (effect r u)) (h : Kept q d s) :
    Kept q d (State.command s op m refs effect) := by
  unfold State.command
  repeat' first
    | with_reducible assumption | with_reducible apply he | with_reducible apply State.post_kept
    | with_reducible apply State.ok_kept | split

theorem State.access_kept (f : State → State) (hf : ∀ u, Kept q d u → Kept q d (f u)) (h : Kept q d s) :
    Kept q d (State.access s f) := by
  unfold State.access
  split
  · exact hf _ h
  · exact h

theorem State.assertPwrflt_kept (code : Nat) (o : Nat) (h : Kept q d s) :
    Kept q d (State.assertPwrflt s code o) := by
  unfold State.assertPwrflt
  repeat' first
    | with_reducible assumption | (simp only [↓Kept.mk_eq]; with_reducible apply KeptF.of) | extract_lets x
    | split

theorem State.dropPwrflt_kept (code : Nat) (o : Nat) (h : Kept q d s) :
    Kept q d (State.dropPwrflt s code o) := by
  unfold State.dropPwrflt
  repeat' first | with_reducible assumption | (simp only [↓Kept.mk_eq]; with_reducible apply KeptF.of) | extract_lets x

theorem State.readEffect_kept (a : Nat) (h : Kept q d s) :
    Kept q d (State.readEffect s a) := by
  unfold State.readEffect
  repeat' first | with_reducible assumption | with_reducible apply State.updGpio_kept | extract_lets x | split

theorem State.notePos_kept (h : Kept q d s) :
    Kept q d (State.notePos s) := by
  unfold State.notePos
  repeat' first | with_reducible assumption | (simp only [↓Kept.mk_eq]; with_reducible apply KeptF.of) | extract_lets x

theorem State.endEvents_kept (h : Kept q d s) : Kept q d (State.endEvents s) := by
  unfold State.endEvents
  split
  · exact h
  · extract_lets u
    have hu : Kept q d u := State.notePos_kept h
    clear_value u
    exact Kept.base (s := u) rfl hu

theorem State.noteLane_kept (l : Nat) (h : Kept q d s) :
    Kept q d (State.noteLane s l) := by
  unfold State.noteLane
  repeat' first | with_reducible assumption | with_reducible apply State.setLane_kept | extract_lets x | split

theorem State.noteLanes_kept (h : Kept q d s) :
    Kept q d (State.noteLanes s) := by
  unfold State.noteLanes
  repeat' first
    | with_reducible assumption | with_reducible apply State.noteLane_kept | with_reducible apply Kept.foldl
    | intro _

theorem State.tick_kept (h : Kept q d s) : Kept q d (State.tick s) := by
  unfold State.tick
  split
  · extract_lets u
    have hu : Kept q d u := State.noteLanes_kept (State.endEvents_kept h)
    clear_value u
    exact ⟨hu.queue, hu.die, hu.sound.oneRecord, hu.sound.firstZero, hu.sound.backlog, Nat.mod_lt _ (by decide), hu.sound.memory⟩
  · exact h

theorem State.enter_kept (p : Nat) (h : Kept q d s) : Kept q d (State.enter s p) := by
  unfold State.enter
  extract_lets s1 u
  have h1 : Kept q d s1 := by
    show Kept q d (if _ then _ else _)
    split
    · exact State.tick_kept h
    · exact h
  have hu : Kept q d u := by
    show Kept q d (if _ then _ else _)
    split
    · exact State.endEvents_kept h1
    · exact h1
  clear_value u
  split
  · exact Kept.base (s := u) rfl hu
  · exact h

theorem State.setRatio_kept (p : Nat) (r : Nat) (h : Kept q d s) :
    Kept q d (State.setRatio s p r) := by
  unfold State.setRatio
  repeat' first | with_reducible assumption | with_reducible apply State.updPll_kept | extract_lets x | split

theorem State.pllLock_kept (p : Nat) (h : Kept q d s) :
    Kept q d (State.pllLock s p) := by
  unfold State.pllLock
  repeat' first
    | with_reducible assumption | with_reducible apply State.setPll_kept | with_reducible apply State.raise_kept
    | extract_lets x

theorem State.pllCoast_kept (p : Nat) (refLost : Bool) (fields : List Nat) (h : Kept q d s) :
    Kept q d (State.pllCoast s p refLost fields) := by
  unfold State.pllCoast
  repeat' first
    | with_reducible assumption | with_reducible apply State.updPll_kept | with_reducible apply State.raise_kept
    | extract_lets x | split

theorem State.startPll_kept (p : Nat) (h : Kept q d s) :
    Kept q d (State.startPll s p) := by
  unfold State.startPll
  repeat' first
    | with_reducible assumption | with_reducible apply State.recallSlot_kept
    | with_reducible apply State.pllSearch_kept | extract_lets x | split

theorem State.pllWindow_kept (p : Nat) (count : Nat) (expected : Nat) (ok : Bool) (h : Kept q d s) :
    Kept q d (State.pllWindow s p count expected ok) := by
  unfold State.pllWindow
  repeat' first
    | with_reducible apply State.recallSlot_kept
    | with_reducible assumption | with_reducible apply State.fresh_kept | with_reducible apply State.setPll_kept
    | with_reducible apply State.pllLock_kept | with_reducible apply State.updPll_kept | with_reducible apply State.raise_kept
    | with_reducible apply State.pllCoast_kept | with_reducible apply State.pllSearch_kept | split
    | (with_reducible apply Kept.ofPair; with_reducible assumption) | (dsimp +zetaDelta only)

theorem State.keepFaults_kept (fs : List FaultRec) (hn : (fs.map FaultRec.key).Nodup) (h : Kept q d s) :
    Kept q d (State.keepFaults s fs) := by
  refine ⟨h.queue, h.die, hn, ?_, h.sound.backlog, h.sound.tempo, h.sound.memory⟩
  intro he
  have : fs = [] := he
  subst this
  exact ⟨rfl, rfl⟩

theorem State.mainReset_kept (h : Kept q d s) :
    Kept q d (State.mainReset s) := by
  unfold State.mainReset
  refine State.keepFaults_kept _ ?_ ⟨h.queue, h.die, List.nodup_nil, fun _ => ⟨rfl, rfl⟩, Nat.zero_le _, ?_, rfl⟩
  · exact h.sound.oneRecord.sublist (List.filter_sublist.map _)
  · exact Nat.two_pow_pos 64

theorem State.goDormant_kept (h : Kept q d s) :
    Kept q d (State.goDormant s) := by
  unfold State.goDormant
  repeat' first
    | with_reducible assumption | with_reducible apply State.mainReset_kept
    | (simp only [↓Kept.mk_eq]; with_reducible apply KeptF.of) | extract_lets x | split

theorem State.restarted_kept (h : Kept q d s) : Kept q d (State.restarted s) :=
  ⟨h.queue, h.die, List.nodup_nil, fun _ => ⟨rfl, rfl⟩, Nat.zero_le _, h.sound.tempo, Memory.wf_mapV h.sound.memory fun i m hm => by
    unfold Mem.afterReset
    split
    · rfl
    · split
      · rfl
      · exact hm⟩

theorem State.firmwareReset_kept (v : Nat) (h : Kept q d s) :
    Kept q d (State.firmwareReset s v) := by
  unfold State.firmwareReset
  split
  · have h1 := Kept.foldl (f := fun u i => u.updMem i (fun m => { m with zeroed := true })) (xs := [11, 12])
      (fun u i hu => State.updMem_same (fun _ => rfl) hu) (State.restarted_kept h)
    have h3 := State.toMode_kept .configure true
      (State.keepFaults_kept s.restartFaults (h.sound.oneRecord.sublist (List.filter_sublist.map _)) h1)
    extract_lets s1 s2
    split
    · exact h3
    · exact State.signal_kept _ h3
  · exact h

theorem State.note_kept (code : Nat) (rail : Nat) (last : Nat) (h : Kept q d s) :
    Kept q d (State.note s code rail last) := by
  unfold State.note
  repeat' first | with_reducible assumption | (simp only [↓Kept.mk_eq]; with_reducible apply KeptF.of) | extract_lets x

theorem State.ledgerWrite_kept (kind : Nat) (source : Nat) (h : Kept q d s) :
    Kept q d (State.ledgerWrite s kind source) := by
  unfold State.ledgerWrite
  repeat' first
    | with_reducible assumption | (simp only [↓Kept.mk_eq]; with_reducible apply KeptF.of) | extract_lets x
    | split

theorem State.hardFault_kept (rail : Nat) (h : Kept q d s) :
    Kept q d (State.hardFault s rail) := by
  unfold State.hardFault
  repeat' first
    | with_reducible assumption | with_reducible apply State.ledgerWrite_kept
    | with_reducible apply State.assertPwrflt_kept

theorem State.reportNotes_kept (h : Kept q d s) :
    Kept q d (State.reportNotes s) := by
  unfold State.reportNotes
  repeat' first
    | with_reducible assumption | with_reducible apply State.raise_kept | with_reducible apply Kept.foldl
    | (simp only [↓Kept.mk_eq]; with_reducible apply KeptF.of) | extract_lets x | split | intro _

theorem State.stopPll_kept (p : Nat) (h : Kept q d s) :
    Kept q d (State.stopPll s p) := by
  unfold State.stopPll
  repeat' first | with_reducible assumption | with_reducible apply State.updPll_kept | extract_lets x

theorem State.startDown_kept (cause : DownCause) (scope : List Nat) (waits : Bool) (reply : Option Reply) (h : Kept q d s) :
    Kept q d (State.startDown s cause scope waits reply) := by
  unfold State.startDown
  repeat' first
    | with_reducible assumption | with_reducible apply State.toRail_kept
    | with_reducible apply State.sequenceDone_kept | with_reducible apply State.post_kept
    | with_reducible apply State.downAdvance_kept | with_reducible apply Kept.foldl
    | (simp only [↓Kept.mk_eq]; with_reducible apply KeptF.of) | extract_lets x | split | intro _

theorem State.leaveL0_kept (h : Kept q d s) :
    Kept q d (State.leaveL0 s) := by
  unfold State.leaveL0
  repeat' first
    | with_reducible assumption | with_reducible apply State.stopPll_kept
    | with_reducible apply State.startDown_kept | with_reducible apply Kept.foldl
    | (simp only [↓Kept.mk_eq]; with_reducible apply KeptF.of) | extract_lets x | split | intro _ | (dsimp +zetaDelta only)

theorem State.toBoot_kept (b : Boot) (h : Kept q d s) :
    Kept q d (State.toBoot s b) := by
  unfold State.toBoot
  repeat' first
    | with_reducible assumption | with_reducible apply State.signal_kept
    | (simp only [↓Kept.mk_eq]; with_reducible apply KeptF.of) | extract_lets x

end Sys2Proof.Machine
end

