-- ==== Sys2Proof/Laws/KeptOps4.lean ====
section
/-!
SUPPORT. Every operation on a state keeps it kept, part 4 of 4: one lemma per operation, callees before their callers.
-/
namespace Sys2Proof.Machine
variable {q : List Instr} {d : Die} {s : State}

theorem State.bootGo_kept (v : Nat) (h : Kept q d s) :
    Kept q d (State.bootGo s v) := by
  unfold State.bootGo
  repeat' first | with_reducible assumption | with_reducible apply State.toBoot_kept | split

theorem State.switchOff_kept (k : Nat) (i : Nat) (n : Nat) (edge : Nat) (h : Kept q d s) :
    Kept q d (State.switchOff s k i n edge) := by
  unfold State.switchOff
  repeat' first | with_reducible assumption | with_reducible apply State.updTile_kept

theorem State.allOff_kept (k : Nat) (n : Nat) (edge : Nat) (h : Kept q d s) :
    Kept q d (State.allOff s k n edge) := by
  unfold State.allOff
  repeat' first
    | with_reducible assumption | with_reducible apply State.switchOff_kept | with_reducible apply Kept.foldl
    | split | intro _

theorem State.raiseDt_kept (k : Nat) (e : Ev) (h : Kept q d s) :
    Kept q d (State.raiseDt s k e) := by
  unfold State.raiseDt
  repeat' first
    | with_reducible assumption | with_reducible apply State.updTile_kept | with_reducible apply State.raise_kept
    | extract_lets x

theorem State.follow_kept (k : Nat) (h : Kept q d s) :
    Kept q d (State.follow s k) := by
  unfold State.follow
  repeat' first
    | with_reducible assumption | with_reducible apply State.twoStep_kept
    | with_reducible apply State.updTile_kept | with_reducible apply State.raise_kept | with_reducible apply Kept.foldl
    | (simp only [↓Kept.mk_eq]; with_reducible apply KeptF.of) | extract_lets x | split | intro _

theorem State.turnOff_kept (k : Nat) (retry : Bool) (cause : Nat) (h : Kept q d s) :
    Kept q d (State.turnOff s k retry cause) := by
  unfold State.turnOff
  repeat' first
    | with_reducible assumption | with_reducible apply State.twoStep_kept | with_reducible apply State.follow_kept
    | extract_lets x | split

theorem State.latchTile_kept (k : Nat) (h : Kept q d s) :
    Kept q d (State.latchTile s k) := by
  unfold State.latchTile
  repeat' first
    | with_reducible assumption | with_reducible apply State.updTile_kept | with_reducible apply Kept.foldl
    | extract_lets x | intro _

theorem State.afterTwoStep_kept (k : Nat) (h : Kept q d s) :
    Kept q d (State.afterTwoStep s k) := by
  unfold State.afterTwoStep
  repeat' first
    | with_reducible assumption | with_reducible apply State.updTile_kept
    | with_reducible apply State.latchTile_kept | with_reducible apply State.raiseDt_kept | extract_lets x | split

theorem State.release_kept (k : Nat) (h : Kept q d s) :
    Kept q d (State.release s k) := by
  unfold State.release
  repeat' first | with_reducible assumption | with_reducible apply State.updTile_kept | extract_lets x

theorem State.enableTile_kept (k : Nat) (h : Kept q d s) :
    Kept q d (State.enableTile s k) := by
  unfold State.enableTile
  repeat' first
    | with_reducible assumption | with_reducible apply State.resetLoops_kept
    | with_reducible apply State.updTile_kept | with_reducible apply State.checkTable_kept | extract_lets x | split

theorem State.disableObj_kept (o : Nat) (h : Kept q d s) :
    Kept q d (State.disableObj s o) := by
  unfold State.disableObj
  repeat' first
    | with_reducible assumption | with_reducible apply State.disableTile_kept | with_reducible apply State.updGroup_kept
    | with_reducible apply State.restAxis_kept | with_reducible apply Kept.foldl | split | (dsimp +zetaDelta only)

theorem State.sendFrame_kept (k : Nat) (n : Nat) (top : Nat) (h : Kept q d s) :
    Kept q d (State.sendFrame s k n top) := by
  unfold State.sendFrame
  repeat' first
    | with_reducible assumption | with_reducible apply State.updTile_kept | with_reducible apply State.emit_kept
    | extract_lets x

theorem State.sendGate_kept (k : Nat) (n : Nat) (gates : Nat) (edge : Nat) (offmode : Nat) (pump : Bool) (h : Kept q d s) :
    Kept q d (State.sendGate s k n gates edge offmode pump) := by
  unfold State.sendGate
  repeat' first
    | with_reducible assumption | with_reducible apply State.updTile_kept
    | with_reducible apply State.sendFrame_kept | extract_lets x

theorem State.markSent_kept (k : Nat) (n : Nat) (op : Nat) (arg : Nat) (h : Kept q d s) :
    Kept q d (State.markSent s k n op arg) := by
  unfold State.markSent
  repeat' first | with_reducible assumption | with_reducible apply State.updTile_kept | extract_lets x | split

theorem State.sendWaiting_kept (k n : Nat) {other : State} (ho : Kept q d other) (h : Kept q d s) :
    Kept q d (s.sendWaiting k n other) := by
  unfold State.sendWaiting
  dsimp only
  split
  · exact State.sendFrame_kept _ _ _ (State.markSent_kept _ _ _ _ (State.updTile_kept _ _ h))
  · exact State.sendFrame_kept _ _ _ (State.updTile_kept _ _ h)
  · exact ho

theorem State.gateOrWaiting_kept (k : Nat) (n : Nat) (gates : Nat) (edge : Nat) (offmode : Nat) (pump : Bool) (h : Kept q d s) :
    Kept q d (State.gateOrWaiting s k n gates edge offmode pump) := by
  unfold State.gateOrWaiting
  repeat' first
    | with_reducible assumption | with_reducible apply State.sendGate_kept
    | with_reducible apply State.sendWaiting_kept | extract_lets x | split

theorem State.runFrame_kept (k : Nat) (n : Nat) (h : Kept q d s) :
    Kept q d (State.runFrame s k n) := by
  unfold State.runFrame
  repeat' first
    | with_reducible assumption | with_reducible apply State.raiseLimited_kept
    | with_reducible apply State.updTile_kept | with_reducible apply State.switchOff_kept
    | with_reducible apply State.gateOrWaiting_kept | with_reducible apply Kept.foldl
    | (simp only [↓Kept.mk_eq]; with_reducible apply KeptF.of) | extract_lets x | split | intro _

theorem State.twoStepFrame_kept (k : Nat) (n : Nat) (h : Kept q d s) :
    Kept q d (State.twoStepFrame s k n) := by
  unfold State.twoStepFrame
  repeat' first
    | with_reducible assumption | with_reducible apply State.sendGate_kept
    | with_reducible apply State.allOff_kept | with_reducible apply State.gateOrWaiting_kept | extract_lets x | split

theorem State.offFrame_kept (k : Nat) (n : Nat) (waiting : Bool) (h : Kept q d s) :
    Kept q d (State.offFrame s k n waiting) := by
  unfold State.offFrame
  repeat' first
    | with_reducible assumption | with_reducible apply State.allOff_kept
    | with_reducible apply State.gateOrWaiting_kept | with_reducible apply State.updTile_kept
    | with_reducible apply State.sendWaiting_kept | with_reducible apply State.sendFrame_kept | extract_lets x | split

theorem State.postShort_kept (k : Nat) (cause : Nat) (first : Nat) (later : Nat) (sw : Nat) (blank : Nat) (h : Kept q d s) :
    Kept q d (State.postShort s k cause first later sw blank) := by
  unfold State.postShort
  repeat' first
    | with_reducible assumption | with_reducible apply State.updTile_kept
    | with_reducible apply State.queueEv_kept | extract_lets x

theorem State.shortSeen_kept (k : Nat) (cause : Nat) (h : Kept q d s) :
    Kept q d (State.shortSeen s k cause) := by
  unfold State.shortSeen
  repeat' first
    | with_reducible assumption | with_reducible apply State.updTile_kept | with_reducible apply State.latchNew_kept
    | with_reducible apply State.turnOff_kept | split | (dsimp +zetaDelta only)

theorem State.linkFault_kept (k : Nat) (cause : Nat) (h : Kept q d s) :
    Kept q d (State.linkFault s k cause) := by
  unfold State.linkFault
  repeat' first
    | with_reducible assumption | with_reducible apply State.raiseDt_kept
    | with_reducible apply State.turnOff_kept | extract_lets x | split

theorem State.uvSeen_kept (k : Nat) (h : Kept q d s) :
    Kept q d (State.uvSeen s k) := by
  unfold State.uvSeen
  repeat' first
    | with_reducible assumption | with_reducible apply State.raiseDt_kept
    | with_reducible apply State.turnOff_kept | split

theorem State.sincFrame_kept (k : Nat) (m : Nat) (w : Nat) (h : Kept q d s) :
    Kept q d (State.sincFrame s k m w) := by
  unfold State.sincFrame
  repeat' first
    | with_reducible assumption | with_reducible apply State.updTile_kept | with_reducible apply Kept.foldl
    | extract_lets x | split | intro _

theorem State.sensorFault_kept (k : Nat) (cause : Nat) (count : Nat) (h : Kept q d s) :
    Kept q d (State.sensorFault s k cause count) := by
  unfold State.sensorFault
  repeat' first
    | with_reducible assumption | with_reducible apply State.updTile_kept
    | with_reducible apply State.tileCoast_kept | extract_lets x

theorem State.encFrame_kept (k : Nat) (w : Nat) (ok : Bool) (h : Kept q d s) :
    Kept q d (State.encFrame s k w ok) := by
  unfold State.encFrame
  repeat' first
    | with_reducible assumption | with_reducible apply State.setTile_kept
    | with_reducible apply State.sensorFault_kept | extract_lets x | split

theorem State.resFrame_kept (k : Nat) (h : Kept q d s) :
    Kept q d (State.resFrame s k) := by
  unfold State.resFrame
  repeat' first
    | with_reducible assumption | with_reducible apply State.setTile_kept
    | with_reducible apply State.sensorFault_kept | extract_lets x | split

theorem State.reachRun_kept (k : Nat) (h : Kept q d s) :
    Kept q d (State.reachRun s k) := by
  unfold State.reachRun
  repeat' first
    | with_reducible assumption | with_reducible apply State.updTile_kept
    | with_reducible apply State.outputsRun_kept | with_reducible apply State.startAxis_kept | extract_lets x | split

theorem State.flagsFrame_kept (k : Nat) (flags : Nat) (h : Kept q d s) :
    Kept q d (State.flagsFrame s k flags) := by
  unfold State.flagsFrame
  repeat' first
    | with_reducible assumption | with_reducible apply State.shortSeen_kept
    | with_reducible apply State.setTile_kept | with_reducible apply State.reachRun_kept
    | with_reducible apply State.uvSeen_kept | extract_lets x | split

theorem State.typeFrame_kept (k : Nat) (old : Nat) (new : Nat) (flags : Nat) (h : Kept q d s) :
    Kept q d (State.typeFrame s k old new flags) := by
  unfold State.typeFrame
  repeat' first
    | with_reducible assumption | with_reducible apply State.updTile_kept
    | with_reducible apply State.raiseDt_kept | with_reducible apply State.startCfg_kept
    | with_reducible apply State.twoStep_kept | with_reducible apply State.turnOff_kept
    | with_reducible apply State.linkFault_kept | with_reducible apply State.unlatch_kept
    | with_reducible apply State.reachRun_kept | with_reducible apply Kept.foldl | extract_lets x | split | intro _

theorem State.fieldsFrame_kept (k : Nat) (c : Nat) (w : Nat) (ok : Bool) (h : Kept q d s) :
    Kept q d (State.fieldsFrame s k c w ok) := by
  unfold State.fieldsFrame
  repeat' first
    | with_reducible assumption | with_reducible apply State.updTile_kept
    | with_reducible apply State.flagsFrame_kept | with_reducible apply State.typeFrame_kept | extract_lets x | split

theorem State.frameIn_kept (k : Nat) (c : Nat) (w : Nat) (ok : Bool) (h : Kept q d s) :
    Kept q d (State.frameIn s k c w ok) := by
  unfold State.frameIn
  repeat' first | with_reducible assumption | with_reducible apply State.fieldsFrame_kept | extract_lets x | split

theorem State.lateShort_kept (k : Nat) (h : Kept q d s) :
    Kept q d (State.lateShort s k) := by
  unfold State.lateShort
  repeat' first | with_reducible assumption | with_reducible apply State.postShort_kept | extract_lets x | split

theorem State.historyFrame_kept (k : Nat) (h : Kept q d s) :
    Kept q d (State.historyFrame s k) := by
  unfold State.historyFrame
  repeat' first | with_reducible assumption | with_reducible apply State.updTile_kept | extract_lets x

theorem State.onWord_kept (k : Nat) (type : Nat) (act : State → Nat → State) (ha : ∀ u n, Kept q d u → Kept q d (act u n)) (h : Kept q d s) :
    Kept q d (State.onWord s k type act) := by
  unfold State.onWord
  repeat' first | with_reducible assumption | with_reducible apply ha | with_reducible apply State.updTile_kept | split

theorem State.newFault_kept (k : Nat) (h : Kept q d s) :
    Kept q d (State.newFault s k) := by
  unfold State.newFault
  repeat' first
    | with_reducible assumption | with_reducible apply State.setTile_kept
    | with_reducible apply State.latchTile_kept | with_reducible apply State.raiseDt_kept | extract_lets x | split

theorem State.diagNext_kept (k : Nat) (d_1 : Diag) (h : Kept q d s) :
    Kept q d (State.diagNext s k d_1) := by
  unfold State.diagNext
  repeat' first
    | with_reducible assumption | with_reducible apply State.updTile_kept | with_reducible apply State.ok_kept
    | with_reducible apply State.raiseDt_kept | extract_lets x | split

theorem State.stopCurrents_kept (k : Nat) (h : Kept q d s) :
    Kept q d (State.stopCurrents s k) := by
  unfold State.stopCurrents
  repeat' first | with_reducible assumption | with_reducible apply State.updTile_kept | extract_lets x

theorem State.diagFallback_kept (k : Nat) (d_1 : Diag) (h : Kept q d s) :
    Kept q d (State.diagFallback s k d_1) := by
  unfold State.diagFallback
  repeat' first
    | with_reducible assumption | with_reducible apply State.stopCurrents_kept
    | with_reducible apply State.diagNext_kept | extract_lets x

theorem State.chop_kept (b : Nat) (on : Bool) (h : Kept q d s) :
    Kept q d (State.chop s b on) := by
  unfold State.chop
  repeat' first
    | with_reducible assumption | with_reducible apply State.updBus_kept | with_reducible apply State.setMod_kept
    | (simp only [↓Kept.mk_eq]; with_reducible apply KeptF.of) | extract_lets x | split

theorem State.chopper_kept (b : Nat) (vb : Nat) (h : Kept q d s) :
    Kept q d (State.chopper s b vb) := by
  unfold State.chopper
  repeat' first
    | with_reducible assumption | with_reducible apply State.setBus_kept | with_reducible apply State.raise_kept
    | with_reducible apply State.chop_kept | (simp only [↓Kept.mk_eq]; with_reducible apply KeptF.of) | extract_lets x | split

theorem State.busEnter_kept (b : Nat) (vb : Nat) (stage : Nat) (h : Kept q d s) :
    Kept q d (State.busEnter s b vb stage) := by
  unfold State.busEnter
  repeat' first
    | with_reducible assumption | with_reducible apply State.updBus_kept | with_reducible apply State.raise_kept
    | with_reducible apply State.updTile_kept | with_reducible apply State.turnOff_kept | with_reducible apply Kept.foldl
    | (simp only [↓Kept.mk_eq]; with_reducible apply KeptF.of) | extract_lets x | split | intro _

theorem State.overshoot_kept (o : Nat) (h : Kept q d s) :
    Kept q d (State.overshoot s o) := by
  unfold State.overshoot
  repeat' first
    | with_reducible assumption | with_reducible apply State.setAxis_kept | with_reducible apply State.raise_kept
    | (simp only [↓Kept.mk_eq]; with_reducible apply KeptF.of) | extract_lets x | split

theorem State.ledgerCheck_kept (h : Kept q d s) :
    Kept q d (State.ledgerCheck s) := by
  unfold State.ledgerCheck
  repeat' first
    | with_reducible assumption | with_reducible apply State.raise_kept
    | (simp only [↓Kept.mk_eq]; with_reducible apply KeptF.of) | extract_lets x | split

theorem State.blockRails_kept (n : Nat) (h : Kept q d s) : Kept q d (s.blockRails n) := by
  induction n generalizing s with
  | zero => exact h
  | succ n ih =>
    refine ih (Kept.foldl (fun u i hu => ?_) h)
    split
    · exact State.raise_kept _ (State.toRail_kept _ _ hu)
    · exact hu

theorem State.upEnd_kept (h : Kept q d s) :
    Kept q d (State.upEnd s) := by
  unfold State.upEnd
  repeat' first
    | with_reducible assumption | with_reducible apply State.post_kept | with_reducible apply State.sequenceDone_kept
    | (simp only [↓Kept.mk_eq]; with_reducible apply KeptF.of) | split | (dsimp +zetaDelta only)

theorem State.upAdvance_kept (h : Kept q d s) :
    Kept q d (State.upAdvance s) := by
  unfold State.upAdvance
  repeat' first
    | with_reducible assumption | with_reducible apply State.blockRails_kept
    | with_reducible apply State.toRail_kept | with_reducible apply State.upEnd_kept | with_reducible apply Kept.foldl
    | extract_lets x | split | intro _

theorem State.upStart_kept (h : Kept q d s) :
    Kept q d (State.upStart s) := by
  unfold State.upStart
  repeat' first
    | with_reducible assumption | with_reducible apply State.toRail_kept | with_reducible apply State.raise_kept
    | with_reducible apply State.setRail_kept | with_reducible apply State.upAdvance_kept | with_reducible apply Kept.foldl
    | (simp only [↓Kept.mk_eq]; with_reducible apply KeptF.of) | extract_lets x | split | intro _

theorem State.dependantDown_kept (i : Nat) (h : Kept q d s) :
    Kept q d (State.dependantDown s i) := by
  unfold State.dependantDown
  repeat' first
    | with_reducible assumption | with_reducible apply State.upAdvance_kept
    | with_reducible apply State.downAdvance_kept | with_reducible apply State.startDown_kept | extract_lets x | split

theorem State.pwrfltDown_kept (h : Kept q d s) :
    Kept q d (State.pwrfltDown s) := by
  unfold State.pwrfltDown
  repeat' first
    | with_reducible assumption | with_reducible apply State.startDown_kept
    | (simp only [↓Kept.mk_eq]; with_reducible apply KeptF.of) | extract_lets x | split

theorem State.takeIlk_kept (h : Kept q d s) :
    Kept q d ((State.takeIlk s).2) := by
  unfold State.takeIlk
  repeat' first | with_reducible assumption | (simp only [↓Kept.mk_eq]; with_reducible apply KeptF.of) | extract_lets x

theorem State.read4_kept (off : Nat) (h : Kept q d s) :
    Kept q d ((State.read4 s off).2) := by
  unfold State.read4
  refine Kept.ite2 ?_ (Kept.ite2 (State.takeIlk_kept h) (Kept.ite2 (State.takeDone_kept _ h) (Kept.ite2 (State.takeBad_kept _ h)
    (Kept.ite2 (State.takeCe_kept _ h) (Kept.ite2 (State.takeUe_kept _ h) h)))))
  exact h.mk' rfl rfl rfl rfl rfl rfl rfl rfl

theorem State.read8_kept (off : Nat) (h : Kept q d s) : Kept q d ((State.read8 s off).2) := by
  unfold State.read8
  exact Kept.ite2 h (State.read4_kept _ (State.read4_kept _ h))

theorem State.answer_kept (off : Nat) (wide : Bool) (h : Kept q d s) :
    Kept q d (State.answer s off wide) := by
  unfold State.answer
  repeat' first
    | with_reducible assumption | with_reducible apply State.read8_kept | with_reducible apply State.emit_kept
    | with_reducible apply State.read4_kept | split | (with_reducible apply Kept.ofPair; with_reducible assumption)

theorem State.clearOpenSeen_kept (v : Nat) (h : Kept q d s) :
    Kept q d (State.clearOpenSeen s v) := by
  unfold State.clearOpenSeen
  repeat' first
    | with_reducible assumption | (simp only [↓Kept.mk_eq]; with_reducible apply KeptF.of) | extract_lets x
    | split

theorem State.writeBootCtrl_kept (v : Nat) (h : Kept q d s) :
    Kept q d (State.writeBootCtrl s v) := by
  unfold State.writeBootCtrl
  repeat' first
    | with_reducible assumption | with_reducible apply State.firmwareReset_kept
    | with_reducible apply State.bootGo_kept | split

theorem State.writeRing_kept (n : Nat) (off : Nat) (v : Nat) (h : Kept q d s) :
    Kept q d (State.writeRing s n off v) := by
  unfold State.writeRing
  repeat' first
    | with_reducible assumption | with_reducible apply State.writeRingEn_kept
    | with_reducible apply State.writeCmdTail_kept | with_reducible apply State.writeRspHead_kept
    | with_reducible apply State.setRing_kept | extract_lets x | split

theorem State.writeDma_kept (ch : Nat) (off : Nat) (v : Nat) (h : Kept q d s) :
    Kept q d (State.writeDma s ch off v) := by
  unfold State.writeDma
  repeat' first
    | with_reducible assumption | with_reducible apply State.doorbell_kept
    | with_reducible apply State.clearDma_kept | with_reducible apply State.setDma_kept | extract_lets x | split

theorem State.writeEcc_kept (i : Nat) (off : Nat) (v : Nat) (h : Kept q d s) :
    Kept q d (State.writeEcc s i off v) := by
  unfold State.writeEcc
  repeat' first
    | with_reducible assumption | with_reducible apply State.clearEcc_kept
    | with_reducible apply State.writeTestCtrl_kept | with_reducible apply State.writeTestReg_kept | split

theorem State.sendPending_kept (h : Kept q d s) :
    Kept q d (State.sendPending s) := by
  unfold State.sendPending
  repeat' first
    | with_reducible assumption | with_reducible apply State.emit_kept | with_reducible apply Kept.foldl
    | (simp only [↓Kept.mk_eq]; with_reducible apply KeptF.of) | extract_lets x | split | intro _

theorem State.writeMsix_kept (w : Nat) (v : Nat) (h : Kept q d s) :
    Kept q d (State.writeMsix s w v) := by
  unfold State.writeMsix
  repeat' first
    | with_reducible assumption | with_reducible apply State.sendPending_kept
    | (simp only [↓Kept.mk_eq]; with_reducible apply KeptF.of) | extract_lets x | split

theorem State.writeReg_kept (off : Nat) (v : Nat) (h : Kept q d s) :
    Kept q d (State.writeReg s off v) := by
  unfold State.writeReg
  repeat' first
    | with_reducible assumption | with_reducible apply State.writeBootCtrl_kept
    | with_reducible apply State.clearOpenSeen_kept | with_reducible apply State.writeRing_kept
    | with_reducible apply State.writeDma_kept | with_reducible apply State.writeEcc_kept
    | with_reducible apply State.writeMsix_kept | with_reducible apply State.sendPending_kept
    | (simp only [↓Kept.mk_eq]; with_reducible apply KeptF.of) | extract_lets x | split

theorem State.dropReg_kept (n : Nat) (h : Kept q d s) :
    Kept q d (State.dropReg s n) := by
  unfold State.dropReg
  repeat' first
    | with_reducible assumption | with_reducible apply State.updStation_kept
    | with_reducible apply State.regChange_kept | extract_lets x

theorem State.polyToObserver_kept (k : Nat) (h : Kept q d s) :
    Kept q d (State.polyToObserver s k) := by
  unfold State.polyToObserver
  repeat' first
    | with_reducible assumption | with_reducible apply State.fresh_kept | with_reducible apply State.updPoly_kept
    | with_reducible apply State.polyTo_kept | extract_lets x | split
    | (with_reducible apply Kept.ofPair; with_reducible assumption)

theorem State.syncTo_kept (n : Nat) (st : Sync) (code : Nat) (fields : List Nat) (h : Kept q d s) :
    Kept q d (State.syncTo s n st code fields) := by
  unfold State.syncTo
  repeat' first
    | with_reducible assumption | with_reducible apply State.polyToObserver_kept | with_reducible apply State.raise_kept
    | with_reducible apply State.dropReg_kept | with_reducible apply State.updStation_kept | split | (dsimp +zetaDelta only)

theorem State.polyEdge_kept (n : Nat) (ok : Bool) (h : Kept q d s) :
    Kept q d (State.polyEdge s n ok) := by
  unfold State.polyEdge
  repeat' first
    | with_reducible assumption | with_reducible apply State.updPoly_kept | with_reducible apply State.polyTo_kept
    | with_reducible apply State.fresh_kept | with_reducible apply State.raiseLimited_kept | extract_lets x | split
    | (with_reducible apply Kept.ofPair; with_reducible assumption)

theorem State.polyMiss_kept (n : Nat) (blanked : Bool) (lost : Bool) (h : Kept q d s) :
    Kept q d (State.polyMiss s n blanked lost) := by
  unfold State.polyMiss
  repeat' first
    | with_reducible assumption | with_reducible apply State.updPoly_kept
    | with_reducible apply State.polyToObserver_kept | with_reducible apply State.polyTo_kept | extract_lets x | split

theorem State.cutImage_kept (n : Nat) (new : Nat) (h : Kept q d s) :
    Kept q d (State.cutImage s n new) := by
  unfold State.cutImage
  repeat' first
    | with_reducible assumption | with_reducible apply State.addBlank_kept | with_reducible apply State.spoil_kept
    | with_reducible apply State.endImage_kept | with_reducible apply State.raise_kept | with_reducible apply Kept.foldl
    | extract_lets x | split | intro _

theorem State.beginImage_kept (n : Nat) (tk : Nat) (h : Kept q d s) :
    Kept q d (State.beginImage s n tk) := by
  unfold State.beginImage
  repeat' first
    | with_reducible assumption | with_reducible apply State.cutImage_kept | with_reducible apply State.raise_kept
    | with_reducible apply State.setStation_kept | extract_lets x | split

theorem State.nextScan_kept (n : Nat) (h : Kept q d s) :
    Kept q d (State.nextScan s n) := by
  unfold State.nextScan
  repeat' first
    | with_reducible assumption | with_reducible apply State.endImage_kept
    | with_reducible apply State.setStation_kept | with_reducible apply State.updStation_kept
    | with_reducible apply State.beginImage_kept | with_reducible apply Kept.foldl | extract_lets x | split | intro _

theorem State.coastCheck_kept (n : Nat) (h : Kept q d s) :
    Kept q d (State.coastCheck s n) := by
  unfold State.coastCheck
  repeat' first
    | with_reducible assumption | with_reducible apply State.updStation_kept
    | with_reducible apply State.addBlank_kept | with_reducible apply State.spoil_kept | extract_lets x | split

theorem State.decideFacet_kept (n : Nat) (b : Int) (i : Nat) (h : Kept q d s) :
    Kept q d (State.decideFacet s n b i) := by
  unfold State.decideFacet
  repeat' first
    | with_reducible assumption | with_reducible apply State.updStation_kept
    | with_reducible apply State.raiseLimited_kept | with_reducible apply State.syncTo_kept
    | with_reducible apply State.nextScan_kept | with_reducible apply State.coastCheck_kept | extract_lets x | split

theorem State.register_kept (n : Nat) (h : Kept q d s) :
    Kept q d (State.register s n) := by
  unfold State.register
  repeat' first
    | with_reducible assumption | with_reducible apply State.setStation_kept
    | with_reducible apply State.regChange_kept | extract_lets x | split

theorem State.edgeState_kept (n : Nat) (i : Nat) (p : Option Nat) (h : Kept q d s) :
    Kept q d (State.edgeState s n i p) := by
  unfold State.edgeState
  repeat' first
    | with_reducible assumption | with_reducible apply State.setStation_kept
    | with_reducible apply State.syncTo_kept | with_reducible apply State.updStation_kept | extract_lets x | split

theorem State.acceptEdge_kept (n : Nat) (raw : Nat) (h : Kept q d s) :
    Kept q d (State.acceptEdge s n raw) := by
  unfold State.acceptEdge
  repeat' first
    | with_reducible assumption | with_reducible apply State.setStation_kept
    | with_reducible apply State.edgeState_kept | with_reducible apply State.register_kept
    | with_reducible apply State.decideFacet_kept | with_reducible apply State.polyEdge_kept | extract_lets x | split

theorem State.strayEdge_kept (n : Nat) (h : Kept q d s) :
    Kept q d (State.strayEdge s n) := by
  unfold State.strayEdge
  repeat' first
    | with_reducible assumption | with_reducible apply State.updStation_kept
    | with_reducible apply State.raiseLimited_kept | extract_lets x

theorem State.monRequest_kept (n : Nat) (r : Nat) (pred : Int) (h : Kept q d s) :
    Kept q d (State.monRequest s n r pred) := by
  unfold State.monRequest
  repeat' first
    | with_reducible assumption | with_reducible apply State.setLink_kept
    | with_reducible apply State.sendBlock_kept | (simp only [↓Kept.mk_eq]; with_reducible apply KeptF.of) | extract_lets x
    | split

theorem State.bdPulse_kept (n : Nat) (pred : Int) (h : Kept q d s) :
    Kept q d (State.bdPulse s n pred) := by
  unfold State.bdPulse
  repeat' first | with_reducible assumption | with_reducible apply State.sendBlock_kept | extract_lets x | split

theorem State.linkIdle_kept (l : Nat) (h : Kept q d s) :
    Kept q d (State.linkIdle s l) := by
  unfold State.linkIdle
  repeat' first
    | with_reducible assumption | with_reducible apply State.stopPx_kept | with_reducible apply State.updLink_kept
    | extract_lets x | split

theorem State.gateBlpll_kept (half : Nat) (h : Kept q d s) :
    Kept q d (State.gateBlpll s half) := by
  unfold State.gateBlpll
  repeat' first
    | with_reducible assumption | with_reducible apply State.linkIdle_kept
    | with_reducible apply State.updPll_kept | with_reducible apply Kept.foldl | extract_lets x | split | intro _

theorem State.disableStation_kept (n : Nat) (h : Kept q d s) :
    Kept q d (State.disableStation s n) := by
  unfold State.disableStation
  repeat' first
    | with_reducible assumption | with_reducible apply State.linkIdle_kept
    | with_reducible apply State.setStation_kept | with_reducible apply State.regChange_kept
    | with_reducible apply State.updPll_kept | with_reducible apply State.gateBlpll_kept
    | with_reducible apply State.polyToObserver_kept | with_reducible apply Kept.foldl
    | (simp only [↓Kept.mk_eq]; with_reducible apply KeptF.of) | extract_lets x | split | intro _

theorem State.sealQueue_kept (n : Nat) (tk : Nat) (h : Kept q d s) :
    Kept q d (State.sealQueue s n tk) := by
  unfold State.sealQueue
  repeat' first | with_reducible assumption | with_reducible apply State.setQueue_kept | extract_lets x

theorem State.sealTicket_kept (tk evals : Nat) (h : Kept q d s) :
    Kept q d (State.sealTicket s tk evals) := by
  unfold State.sealTicket
  repeat' first
    | with_reducible assumption | with_reducible apply State.sealQueue_kept | with_reducible apply State.toMode_kept
    | with_reducible apply State.raise_kept | with_reducible apply State.setTicket_kept | with_reducible apply Kept.foldl
    | (simp only [↓Kept.mk_eq]; with_reducible apply KeptF.of) | split | intro _ | (dsimp +zetaDelta only)

theorem State.loseResidency_kept (tk : Nat) (ue : Option Nat) (h : Kept q d s) :
    Kept q d (State.loseResidency s tk ue) := by
  unfold State.loseResidency
  repeat' first
    | with_reducible assumption | with_reducible apply State.reportUe_kept
    | with_reducible apply State.updTicket_kept | (simp only [↓Kept.mk_eq]; with_reducible apply KeptF.of) | extract_lets x
    | split

theorem State.slip_kept (tk : Nat) (h : Kept q d s) :
    Kept q d (State.slip s tk) := by
  unfold State.slip
  repeat' first
    | with_reducible assumption | with_reducible apply State.updTicket_kept
    | with_reducible apply State.moved_kept | with_reducible apply Kept.foldl | split | intro _

theorem State.entryMissed_kept (tk : Nat) (i : Nat) (e : TEntry) (mask : Nat) (h : Kept q d s) :
    Kept q d (State.entryMissed s tk i e mask) := by
  unfold State.entryMissed
  repeat' first
    | with_reducible assumption | with_reducible apply State.updTicket_kept
    | with_reducible apply State.raise_kept | with_reducible apply State.spoil_kept | with_reducible apply Kept.foldl
    | extract_lets x | split | intro _

theorem State.timelineUe_kept (tk : Nat) (a : Nat) (h : Kept q d s) :
    Kept q d (State.timelineUe s tk a) := by
  unfold State.timelineUe
  repeat' first
    | with_reducible assumption | with_reducible apply State.reportUe_kept
    | with_reducible apply State.enterSafeHold_kept

theorem State.answerRun_kept (r : Option Reply) (h : Kept q d s) :
    Kept q d (State.answerRun s r) := by
  unfold State.answerRun
  repeat' first | with_reducible assumption | with_reducible apply State.post_kept | extract_lets x | split

theorem State.idleUnit_kept (c : Nat) (i : Nat) (h : Kept q d s) :
    Kept q d (State.idleUnit s c i) := by
  unfold State.idleUnit
  repeat' first
    | with_reducible assumption | with_reducible apply State.disableStation_kept
    | with_reducible apply State.setGear_kept | with_reducible apply State.setBeam_kept
    | with_reducible apply State.stopPx_kept | with_reducible apply State.setLink_kept
    | with_reducible apply State.answerRun_kept | with_reducible apply State.updLane_kept
    | with_reducible apply State.disableTile_kept | with_reducible apply State.setTile_kept
    | with_reducible apply State.setLoop_kept | with_reducible apply State.setPoly_kept
    | with_reducible apply State.setHeat_kept | with_reducible apply State.setAxis_kept
    | with_reducible apply State.setLeg_kept | with_reducible apply Kept.foldl | extract_lets x | split | intro _

theorem State.setService_kept (c : Nat) (i : Nat) (back : Bool) (h : Kept q d s) :
    Kept q d (State.setService s c i back) := by
  unfold State.setService
  repeat' first
    | with_reducible apply State.updLane_kept
    | with_reducible assumption | with_reducible apply State.idleUnit_kept | with_reducible apply State.updGroup_kept
    | with_reducible apply Kept.foldl | (simp only [↓Kept.mk_eq]; with_reducible apply KeptF.of) | split | intro _
    | (dsimp +zetaDelta only)

theorem State.noteApplied_kept (a : Nat) (h : Kept q d s) :
    Kept q d (State.noteApplied s a) := by
  unfold State.noteApplied
  repeat' first
    | with_reducible assumption | (simp only [↓Kept.mk_eq]; with_reducible apply KeptF.of) | extract_lets x
    | split

theorem State.trained_kept (c : Nat) (r : TrainDram) (h : Kept q d s) :
    Kept q d (State.trained s c r) := by
  unfold State.trained
  repeat' first
    | with_reducible assumption | with_reducible apply State.ok_kept | with_reducible apply State.raise_kept
    | (simp only [↓Kept.mk_eq]; with_reducible apply KeptF.of) | extract_lets x | split

theorem State.fencePages_kept (c : Nat) (t : Tempo) (h : Kept q d s) :
    Kept q d (State.fencePages s c t) := by
  unfold State.fencePages
  repeat' first | with_reducible assumption | with_reducible apply State.fenceAll_kept

theorem State.fenceEnd_kept (f : Fence) (h : Kept q d s) :
    Kept q d (State.fenceEnd s f) := by
  unfold State.fenceEnd
  repeat' first
    | with_reducible assumption | with_reducible apply State.fencePages_kept
    | with_reducible apply State.accepted_kept | with_reducible apply State.ok_kept

theorem State.dropFence_kept (f : Fence) (h : Kept q d s) :
    Kept q d (State.dropFence s f) := by
  unfold State.dropFence
  repeat' first | with_reducible assumption | (simp only [↓Kept.mk_eq]; with_reducible apply KeptF.of) | extract_lets x

theorem State.tck_kept (tms : Bool) (tdi : Bool) (pins : List Bool) (h : Kept q d s) :
    Kept q d (State.tck s tms tdi pins) := by
  unfold State.tck
  repeat' first
    | with_reducible assumption | (simp only [↓Kept.mk_eq]; with_reducible apply KeptF.of) | extract_lets x
    | split

theorem State.captureSensors_kept (rs : List Int) (h : Kept q d s) :
    Kept q d (State.captureSensors s rs) := by
  unfold State.captureSensors
  repeat' first
    | with_reducible assumption | with_reducible apply State.updSensor_kept
    | with_reducible apply State.setSensor_kept | with_reducible apply State.raise_kept | with_reducible apply Kept.foldl
    | extract_lets x | split | intro _

theorem State.dieMax_kept (h : Kept q d s) :
    Kept q d (State.dieMax s) := by
  unfold State.dieMax
  repeat' first
    | with_reducible assumption | (simp only [↓Kept.mk_eq]; with_reducible apply KeptF.of) | extract_lets x
    | split

theorem State.checkRates_kept (h : Kept q d s) :
    Kept q d (State.checkRates s) := by
  unfold State.checkRates
  repeat' first
    | with_reducible assumption | with_reducible apply State.setSensor_kept
    | with_reducible apply State.raise_kept | with_reducible apply Kept.foldl
    | (simp only [↓Kept.mk_eq]; with_reducible apply KeptF.of) | extract_lets x | split | intro _

theorem State.setStep_kept (p : Nat) (cause : Nat) (h : Kept q d s) :
    Kept q d (State.setStep s p cause) := by
  unfold State.setStep
  repeat' first
    | with_reducible assumption | with_reducible apply State.raise_kept
    | (simp only [↓Kept.mk_eq]; with_reducible apply KeptF.of) | extract_lets x | split

theorem State.checkBlind_kept (h : Kept q d s) :
    Kept q d (State.checkBlind s) := by
  unfold State.checkBlind
  repeat' first
    | with_reducible assumption | with_reducible apply State.raise_kept | with_reducible apply State.setStep_kept
    | (simp only [↓Kept.mk_eq]; with_reducible apply KeptF.of) | extract_lets x | split

theorem State.throttle_kept (h : Kept q d s) :
    Kept q d (State.throttle s) := by
  unfold State.throttle
  repeat' first
    | with_reducible assumption | with_reducible apply State.setStep_kept
    | (simp only [↓Kept.mk_eq]; with_reducible apply KeptF.of) | extract_lets x | split

theorem State.toGuard_kept (g : Nat) (h : Kept q d s) :
    Kept q d (State.toGuard s g) := by
  unfold State.toGuard
  repeat' first | with_reducible assumption | (simp only [↓Kept.mk_eq]; with_reducible apply KeptF.of) | extract_lets x

theorem State.guardNormal_kept (h : Kept q d s) :
    Kept q d (State.guardNormal s) := by
  unfold State.guardNormal
  repeat' first | with_reducible assumption | with_reducible apply State.toGuard_kept | with_reducible apply State.raise_kept

theorem State.guard_kept (h : Kept q d s) :
    Kept q d (State.guard s) := by
  unfold State.guard
  repeat' first
    | with_reducible assumption | with_reducible apply State.toGuard_kept | with_reducible apply State.raise_kept
    | with_reducible apply State.guardNormal_kept | split | (dsimp +zetaDelta only)

theorem State.guardEnd_kept (h : Kept q d s) :
    Kept q d (State.guardEnd s) := by
  unfold State.guardEnd
  repeat' first
    | with_reducible assumption | with_reducible apply State.guardNormal_kept
    | with_reducible apply State.toGuard_kept | split

theorem State.trip_kept (h : Kept q d s) :
    Kept q d (State.trip s) := by
  unfold State.trip
  repeat' first
    | with_reducible assumption | with_reducible apply State.signal_kept | with_reducible apply State.raise_kept
    | with_reducible apply State.assertPwrflt_kept | with_reducible apply State.ledgerWrite_kept
    | with_reducible apply State.setStep_kept | with_reducible apply State.darken_kept
    | with_reducible apply State.enterSafeHold_kept | with_reducible apply Kept.foldl
    | (simp only [↓Kept.mk_eq]; with_reducible apply KeptF.of) | extract_lets x | intro _

theorem State.critical_kept (h : Kept q d s) :
    Kept q d (State.critical s) := by
  unfold State.critical
  repeat' first
    | with_reducible assumption | with_reducible apply State.toGuard_kept | with_reducible apply State.raise_kept
    | with_reducible apply State.ledgerWrite_kept | with_reducible apply State.twoStep_kept
    | with_reducible apply State.startDown_kept | with_reducible apply Kept.foldl | extract_lets x | intro _

theorem State.evaluate_kept (h : Kept q d s) :
    Kept q d (State.evaluate s) := by
  unfold State.evaluate
  repeat' first
    | with_reducible assumption | with_reducible apply State.checkBlind_kept | with_reducible apply State.throttle_kept
    | with_reducible apply State.dieMax_kept | with_reducible apply State.trip_kept | with_reducible apply State.guardEnd_kept
    | with_reducible apply State.checkRates_kept | with_reducible apply State.guard_kept
    | with_reducible apply State.critical_kept | split | (dsimp +zetaDelta only)

theorem State.putLine_kept (n : Nat) (q_1 : Nat) (d_1 : Bytes) (h : Kept q d s) :
    Kept q d (State.putLine s n q_1 d_1) := by
  unfold State.putLine
  repeat' first | with_reducible assumption | with_reducible apply State.updStation_kept | extract_lets x

theorem State.enqueue_kept (n : Nat) (tk : Nat) (strips : List QStrip) (h : Kept q d s) :
    Kept q d (State.enqueue s n tk strips) := by
  unfold State.enqueue
  repeat' first | with_reducible assumption | with_reducible apply State.setQueue_kept | extract_lets x

end Sys2Proof.Machine
end

