-- ==== Sys2Proof/Laws/Phase.lean ====
section
/-!
SUPPORT. What coming to a place in the tempo can do: the state that a row acts in, and when it is the state that stands.
-/
namespace Sys2Proof.Machine
variable (s : State) (p : Nat)

@[simp] theorem State.noteLane_running (l : Nat) : (s.noteLane l).running = s.running := by
  unfold State.noteLane State.setLane; dsimp only; split <;> split <;> rfl

@[simp] theorem State.noteLane_tempo (l : Nat) : (s.noteLane l).tempo = s.tempo := by
  unfold State.noteLane State.setLane; dsimp only; split <;> split <;> rfl

theorem State.noteLanes_aux (ls : List Nat) :
    (ls.foldl (fun u l => u.noteLane l) s).running = s.running ∧ (ls.foldl (fun u l => u.noteLane l) s).tempo = s.tempo := by
  induction ls generalizing s with
  | nil => exact ⟨rfl, rfl⟩
  | cons l ls ih => simpa using ih (s.noteLane l)

@[simp] theorem State.noteLanes_running : s.noteLanes.running = s.running := by
  unfold State.noteLanes; exact (s.noteLanes_aux _).1
@[simp] theorem State.noteLanes_tempo : s.noteLanes.tempo = s.tempo := by
  unfold State.noteLanes; exact (s.noteLanes_aux _).2

@[simp] theorem State.endEvents_running : s.endEvents.running = s.running := by unfold State.endEvents; split <;> rfl
@[simp] theorem State.endEvents_tempo : s.endEvents.tempo = s.tempo := by unfold State.endEvents; split <;> rfl
@[simp] theorem State.endEvents_place : s.endEvents.place = s.place := by unfold State.endEvents; split <;> rfl

/-- Phase 3 has ended, and ends once. -/
theorem State.endEvents_snap : s.endEvents.snap.isSome = true := by
  unfold State.endEvents; split
  · assumption
  · rfl

theorem State.endEvents_of_snap (h : s.snap.isSome = true) : s.endEvents = s := by simp [State.endEvents, h]

@[simp] theorem State.tick_running : s.tick.running = s.running := by
  unfold State.tick; split <;> simp

theorem State.tick_tempo (h : s.running = true) : s.tick.tempo = (s.tempo + 1) % 2 ^ 64 := by simp [State.tick, h]

/-- A device whose tempo counter stands still has no phases. -/
theorem State.enter_stopped (h : s.running = false) : s.enter p = s := by simp [State.enter, h]

/-- Everything that coming to a place does: a tempo passes where this one has gone past it, and phase 3 ends where the place is
after it. -/
theorem State.enter_eq (h : s.running = true) :
    s.enter p = { (if inDirect ≤ p then (if p < s.place then s.tick else s).endEvents else if p < s.place then s.tick else s) with
      place := p } := by
  simp [State.enter, h]

@[simp] theorem State.enter_running : (s.enter p).running = s.running := by
  cases h : s.running
  · rw [s.enter_stopped p h, h]
  · rw [s.enter_eq p h]; (repeat' split) <;> simp [h]

theorem State.enter_place (h : s.running = true) : (s.enter p).place = p := by rw [s.enter_eq p h]

theorem State.enter_tempo (h : s.running = true) :
    (s.enter p).tempo = if p < s.place then (s.tempo + 1) % 2 ^ 64 else s.tempo := by
  rw [s.enter_eq p h]
  by_cases hp : p < s.place <;> by_cases hd : inDirect ≤ p <;> simp [hp, hd, s.tick_tempo h]

/-- From phase 4 on the end of phase 3 is held. -/
theorem State.enter_snap (h : s.running = true) (hp : inDirect ≤ p) : (s.enter p).snap.isSome = true := by
  rw [s.enter_eq p h, if_pos hp]; exact State.endEvents_snap _

/-- A state at a place stays as it is: what the premise of a statement about a row says. -/
theorem State.enter_here (h : s.place = p) (hs : inDirect ≤ p → s.snap.isSome = true) : s.enter p = s := by
  cases hr : s.running
  · exact s.enter_stopped p hr
  · subst h
    rw [s.enter_eq _ hr, if_neg (Nat.lt_irrefl _)]
    split
    · rw [s.endEvents_of_snap (hs ‹_›)]
    · rfl

/-- To come to a place twice is to come once. -/
theorem State.enter_enter : (s.enter p).enter p = s.enter p := by
  cases h : s.running
  · rw [s.enter_stopped p h, s.enter_stopped p h]
  · exact (s.enter p).enter_here p (s.enter_place p h) (s.enter_snap p h)

end Sys2Proof.Machine
end

