-- ==== Sys2Proof/Tests/Slice0.lean ====
section
/-!
SUPPORT. Tests of the model: ill-formed commands that `Instr.wf` refuses, single steps taken from the manual's own examples and
tables, and for every statement with hypotheses a witness that meets them.
-/
namespace Sys2Proof.Tests
set_option Elab.async false
open Sys2Proof Sys2Proof.Machine Sys2Proof.Claims

/-- The device with firmware running, in a mode. -/
def up (mode : Mode) : State := { running := true, tempo := 1000000000, md := { boot := .running, mode := mode, pressOk := true, dramOk := true } }

/-- A message on ring 1. -/
def msg (arg : Nat) (payload : Bytes := []) : Msg :=
  { ring := 1, tag := 7, flags := 0, arg := BitVec.ofNat 64 arg, payload := payload }

/-- `n` zero bytes. -/
def zeros (n : Nat) : Bytes := List.replicate n 0

/-- A list of one holds what holds of its only element. -/
theorem only {α : Type} {a : α} {P : Nat → α → Prop} (h : P 0 a) : ∀ j x, [a][j]? = some x → P j x := by
  intro j x e
  cases j with
  | zero => cases e; exact h
  | succ j => cases e

/-- A state without stations in service, so that Warm-up needs no tables. -/
def bare (mode : Mode) : State := { up mode with ageNew := true, removed := (List.range 8).map (fun n => (obj clsSTN n, true)) }

/-- The state in which a row at a place of the tempo acts; from phase 4 on the end of phase 3 is held. -/
def placed (p : Nat) (s : State) : State := { s with place := p, snap := if inDirect ≤ p then some s.toBase else none }

/-- Firmware has taken a message from its ring, and the tempo is at the commands. -/
def taking (op : Nat) (m : Msg) (s : State) : State :=
  placed inDirect (s.updRing m.ring (fun g => { g with taken := some { opcode := op, msg := m, epoch := g.epoch } }))

/-- A word stored with its check bits reads as it stands and changes nothing. -/
theorem readWord_kept {s : State} {i w d r what : Nat} {l : List Nat} (hm : (s.mem i).merge = [])
    (h : s.wordAt i w = ((d, eccOf d), s)) : s.readWord i w r what l = ({ data := d, cls := 0, bitNo := 0 }, s) := by
  simp [State.readWord, State.drainWord, hm, State.checkedWord, h, judge, codeword, State.report]

theorem witness_StepRunsTheFrontCommand : ({ State.reset with pending := [.helloPost] }).pending = .helloPost :: [] := by decide

theorem witness_AnEmptyQueueLetsOneTempoPass : State.reset.pending = [] ∧ (up .ready).pending = [] := by decide

theorem witness_sound : Sound State.reset := ⟨by decide, by decide, by decide, by decide, by decide⟩

theorem witness_EveryStepKeepsTheStateSound : Sound State.reset ∧ step State.reset = .next State.reset.tick :=
  ⟨witness_sound, rfl⟩

theorem witness_NoCommandChangesTheQueueOrTheDie : Sound State.reset := witness_sound

theorem witness_ACommandThatIsNotTakenOnlyAnswers :
    message (.nop (msg 0)) = some (0, noArg, msg 0) ∧ placeIn (.nop (msg 0)) State.reset = some inDirect ∧ At State.reset inDirect
      ∧ ({ msg 0 with flags := 2 } : Msg).checkOnly = true
      ∧ Nat.land (msg 1).arg.toNat noArg ≠ 0 ∧ State.reset.takes 0 (msg 0) = false := by decide +kernel

theorem witness_SessionCommandsAnswerWhatTheyRead :
    (∀ f ∈ [0, 1], let m : Msg := { msg 0 with flags := f }; let s := taking 0 m ((up .ready).setRing 1 { en := true });
      Takes 0 m 0 noArg s ∧ (s.ring m.ring).en = true ∧ (∀ x ∈ (s.ring m.ring).taken, x.epoch = (s.ring m.ring).epoch)
      ∧ bit m.flags.toNat 0 = decide (f = 1))
    ∧ Takes 0x0001 (msg 0) 0 noArg (taking 0x0001 (msg 0) (up .ready)) ∧ Takes 0x0021 (msg 0) 0 noArg (taking 0x0021 (msg 0) (up .ready))
    ∧ (Takes 0x0020 (msg 0x0f0e) 0 0xffffffffffff0000 (taking 0x0020 (msg 0x0f0e) (up .ready)) ∧ 1 ≤ (msg 0x0f0e).argN 8 1
      ∧ (msg 0x0f0e).argN 8 1 ≤ 14 ∧ (msg 0x0f0e).argN 9 1 ≤ 15)
    ∧ (Takes 0x0030 (msg 0x0e) 0 0xffffffff0000ff00 (taking 0x0030 (msg 0x0e) (up .ready)) ∧ (msg 0x0e).argN 8 1 ≤ 14) := by
  decide +kernel

/-- A press description that is consistent: every station within the scan limits. -/
def pressed : State :=
  (List.range 8).foldl (fun u n => u.setParam (addr clsSTN n 0x003) 36864) { up .configure with md := { boot := .running } }

theorem witness_PressCommitAcceptsAConsistentDescription :
    let s := taking 0x0100 (msg 0) pressed
    let b := s.setParam 0x02000003 16
    s.md.mode = .configure ∧ Takes 0x0100 (msg 0) 0 noArg s ∧ s.md.pressOk = false ∧ s.pressFault = none
      ∧ (Takes 0x0100 (msg 0) 0 noArg b ∧ b.pressFault = some 0x02000003)
      ∧ (Takes 0x0100 (msg 0) 0 noArg (taking 0x0100 (msg 0) (up .configure)) ∧ (up .configure).md.pressOk = true)
      ∧ Takes 0x0101 (msg 0) 0 noArg (taking 0x0101 (msg 0) pressed) := by decide +kernel

theorem witness_ServiceSetRemovesAndReturnsUnits :
    ∀ x ∈ [(0x06011000, 0), (0x106011000, 1)],
      let m := msg x.1;
      let s := taking 0x0110 m (up .standby);
      Takes 0x0110 m 0 0xffffff0000000000 s ∧ s.md.mode = .standby ∧ aPid (m.argN 8 4) = 0
        ∧ aCls (m.argN 8 4) ∈ [clsSTN, clsBEAM, clsVL, clsDL, clsDT] ∧ aIdx (m.argN 8 4) < classInstances (aCls (m.argN 8 4))
        ∧ m.argN 12 1 = x.2 ∧ s.inService (aCls (m.argN 8 4)) (aIdx (m.argN 8 4)) = true
        ∧ s.present (aCls (m.argN 8 4)) (aIdx (m.argN 8 4)) = true := by
  decide +kernel

theorem witness_GroupCommandsReplaceReadAndClearAMembership :
    let m := msg 0x0807f000
    let ms := msg 0x0807f000 [0x00, 0x10, 0x00, 0x06]
    let u := (up .standby).setParam 0x06001000 1
    let s := taking 0x0120 ms u
    Names (m.argN 8 4) [clsGRP] u ∧ Takes 0x0121 m 0 0xffffffff00000000 (taking 0x0121 m u)
      ∧ Takes 0x0122 m 0 0xffffffff00000000 (taking 0x0122 m u)
      ∧ u.md.mode ∈ [Mode.configure, .standby, .warmUp, .ready, .safeHold]
      ∧ ((m.argN 8 4 :: u.parents 128 (m.argN 8 4)).any (fun g => (u.group (aIdx g)).enabled)) = false
      ∧ Takes 0x0120 ms (4 * 1) 0xffffffff00000000 s ∧ (records 4 ms.payload).map ofLE = [0x06001000]
      ∧ s.memberStatus (ms.argN 8 4) [0x06001000] 0 0x06001000 = [] := by decide +kernel

/-- MODE_SET to a mode, with Standby as exit target. -/
def modeSetMsg (t : Mode) : Msg := msg (t.code + 0x200)

theorem witness_ModeSetMakesATransitionOfTable22 :
    ∀ x ∈ [(Mode.standby, Mode.warmUp), (.configure, .standby), (.warmUp, .standby), (.warmUp, .safeHold), (.ready, .warmUp),
        (.ready, .runOut), (.print, .runOut), (.runOut, .safeHold), (.safeHold, .standby)],
      let m := modeSetMsg x.2;
      let s := placed inModeSet (taking 0x0010 m (bare x.1));
      s.takes 0x0010 m = true ∧ At s inModeSet ∧ m.payload = [] ∧ Nat.land m.arg.toNat 0xfffffffffffff8f8 = 0 ∧ m.checkOnly = false
        ∧ modeOf (m.argN 8 1 % 8) = x.2 ∧ x.2 ∈ s.md.mode.reaches ∧ (x.2 = .runOut → modeOf (m.argN 9 1 % 8) ∈ exitTargets)
        ∧ s.md.hwAt ≠ some s.tempo ∧ s.md.pend = none ∧ s.transitionRefs x.2 = [] := by
  decide +kernel

theorem witness_ModeTransitionCompleteEndsRunOutAndWarmUp :
    (let s := placed inEvents (up .runOut); At s inEvents ∧ s.md.mode = .runOut ∧ s.anySealed = false ∧ s.runoutsDone = true)
    ∧ (let s := placed inEvents { up .warmUp with md := { (up .warmUp).md with pend := some ⟨.standby, none⟩ } };
      At s inEvents ∧ s.md.mode = .warmUp ∧ s.md.pend = some ⟨.standby, none⟩ ∧ s.outputsOff = true) := by decide +kernel

theorem witness_DormantEnterStoresTheStrapImage :
    ∀ x ∈ [(zeros 16, true), (zeros 8 ++ [4] ++ zeros 7, false)],
      let m := msg 0 x.1;
      let s := taking 0x0011 m ((up .standby).setRing 1 { en := x.2 });
      Takes 0x0011 m 16 noArg s ∧ m.pay 9 7 = 0 ∧ s.md.mode = .standby ∧ s.md.pend = none ∧ (m.pay 8 1 = 0 ∨ 4 ≤ m.pay 8 1)
        ∧ s.badKeep (m.pay 0 4 / 32 * 32) = false
        ∧ ((s.ok (s.replyOf 0x0011 m)).ring m.ring).owes (s.replyOf 0x0011 m) = x.2 := by decide +kernel

/-- A device with 0x0222 latched on ticket 0. -/
def overrun (mode : Mode) : State := { up mode with faults := [{ code := 0x0222, obj := 0x11000000, tempo := 5 }] }

theorem witness_FaultClearRemovesOneRecord :
    ∀ x ∈ [(Mode.safeHold, true), (.ready, false)],
      let m := msg 0x1100000000000222;
      let s := taking 0x0031 m (overrun x.1);
      Takes 0x0031 m 0 0xffff0000 s ∧ m.argN 8 2 = 0x0222 ∧ m.argN 12 4 = 0x11000000 ∧ 0x0222 ∈ latchingCodes ∧ aPid 0x11000000 = 0
        ∧ s.addrStatus 0x11000000 = [] ∧ s.latched 0x0222 0x11000000 = true
        ∧ (s.clearDisables 0x0222 0x11000000 && s.participates 0x11000000) = false
        ∧ s.judged.mayClear 0x0222 0x11000000 = x.2 := by
  decide +kernel

theorem witness_ParamReadReturnsEveryValue :
    (let m := msg 117 ((List.replicate 117 (toLE 4 0x01000010)).flatten);
      let s := taking 0x0200 m (up .ready);
      m.argN 8 2 = 117 ∧ Takes 0x0200 m (4 * 117) 0xffffffffffff0000 s
        ∧ ∀ a, a ∈ (records 4 m.payload).map ofLE → s.paramStatus a = [])
    ∧ (let m := msg 2 (toLE 4 0x01000010 ++ toLE 4 0x01000fff);
      let s := taking 0x0200 m (up .ready);
      m.argN 8 2 = 2 ∧ Takes 0x0200 m (4 * 2) 0xffffffffffff0000 s ∧ (records 4 m.payload).map ofLE = [0x01000010, 0x01000fff]
        ∧ s.paramStatus 0x01000010 = [] ∧ s.paramStatus 0x01000fff = [stUNKNOWN_ADDRESS]) := by
  decide +kernel

/-- The tempo is at the commands, and on a ring one pair of a PARAM_WRITE is still to be applied, or two are; the last one was in a tempo. -/
def pairing (a : Nat) (rest : List (Nat × Nat)) (last : Option Tempo := none) : State :=
  placed inDirect ((up .ready).setRing 1 { en := true, pairs := some { pairs := (a, 5) :: rest, lastAt := last } })

/-- Ticket 0 is sealed and holds station 0. -/
def sealed0 (s : State) : State := s.setTicket 0 { state := 3, held := [obj clsSTN 0] }

theorem witness_ParamWriteAppliesItsPairsOneByOne :
    (let m := msg 1 (toLE 4 0x01000080 ++ zeros 4 ++ toLE 8 5);
      let s := taking 0x0201 m (up .ready);
      m.argN 8 2 = 1 ∧ Takes 0x0201 m (16 * 1) 0xffffffffffff0000 s ∧ (s.ring m.ring).pairs = none
        ∧ ∀ b, b ∈ records 16 m.payload → leAt b 4 4 = 0 ∧ s.writeRef (leAt b 0 4) (leAt b 8 8) = none)
    ∧ (∀ x ∈ [(pairing 0x01000080 [], true, false, (none : Option Nat)), (pairing 0x01000080 [(0x01000080, 6)], true, false, none),
        (sealed0 (pairing 0x02000051 []), true, true, some 8), (pairing 0x02000002 [], true, false, some 8),
        (pairing 0x01000080 [] (some 1000000000), false, false, none)],
      At x.1 inDirect ∧ x.1.md.boot = .running ∧ x.1.defers 1 (((x.1.ring 1).pairs.bind (fun j => j.pairs.head?)).getD (0, 0)).1 = false
        ∧ ((x.1.ring 1).pairs.map (fun j => j.due x.1.tempo)) = some x.2.1
        ∧ x.1.writeLocked (((x.1.ring 1).pairs.bind (fun j => j.pairs.head?)).getD (0, 0)).1 = x.2.2.1
        ∧ x.1.gatedClock (((x.1.ring 1).pairs.bind (fun j => j.pairs.head?)).getD (0, 0)).1 = x.2.2.2)
    ∧ ((pairing 0x01000080 []).setRing 0 { pairs := some { pairs := [(0x01000080, 6)] } }).defers 1 0x01000080 = true := by decide +kernel

theorem witness_ParametersDescribeThemselves :
    let m := msg 0x01000080
    let s := taking 0x0202 m (up .ready)
    m.argN 8 4 = 0x01000080 ∧ Takes 0x0202 m 0 0xffffffff00000000 s ∧ s.paramStatus 0x01000080 = []
      ∧ (findFamily (aCls 0x01000080) (aPid 0x01000080)).isSome = true
      ∧ Takes 0x0203 (msg 1) 0 0xffffffff0000ff00 (taking 0x0203 (msg 1) (up .ready)) ∧ 0 < classInstances ((msg 1).argN 8 1) := by
  decide +kernel

theorem witness_TablesAreStagedAndCommitted :
    let held := (up .standby).setStaging 8 { inst := some 0, data := zeros 128 }
    tableSize 8 ≠ 0 ∧ 0 < classInstances (tableClass 8) ∧ (up .standby).addrStatus (obj (tableClass 8) 0) = []
    ∧ (∀ u ∈ [up .standby, held], let m := msg 0x7800000008 (zeros 8); let s := taking 0x0300 m u;
      m.argN 8 1 = 8 ∧ m.argN 10 2 = 0 ∧ Takes 0x0300 m (8 * 1) 0xff00 s ∧ m.argN 12 4 % 8 = 0 ∧ m.argN 12 4 + 8 * 1 ≤ tableSize 8
        ∧ s.stagingHeld 8 none none = false ∧ ((s.staging 8).inst = none ∨ (s.staging 8).inst = some 0))
    ∧ (let m := msg (8 + 3265854109 * 2 ^ 32); let s := taking 0x0301 m held;
      Takes 0x0301 m 0 0xff00 s ∧ s.commitWindow 8 0 = [] ∧ s.commitRef 8 0 (m.argN 12 4) none none false = none)
    ∧ (∀ x ∈ [(0x7f00000008, 0), (0x108, 1)], let m := msg x.1; let s := taking 0x0302 m held;
      Takes 0x0302 m 0 0 s ∧ m.argN 12 4 < tableSize 8 ∧ m.argN 9 1 = x.2 ∧ (s.staging 8).inst = some 0)
    ∧ (let s := taking 0x0303 (msg 8) held; Takes 0x0303 (msg 8) 0 0xffffffffffffff00 s ∧ s.stagingHeld 8 none none = false) := by
  decide +kernel

/-- Slot 0 holds one PARAM_SET, and is in a state; armed, its trigger is a tempo. -/
def slot0 (s : State) (state : Nat) (trigger : Int := 0) (pres : List Pre := []) (target : Nat := 0x01000080) : State :=
  s.setCastle 0 { state := state, trigger := trigger, pres := pres, actions := [{ target := target, kind := 1, table := 0, value := 5 }] }

theorem witness_CastleCommandsStageArmAndDisarmSlots :
    let stage := msg 0 (toLE 4 0x01000080 ++ [1, 0, 0, 0] ++ toLE 8 5)
    let arm := msg 0 (zeros 8 ++ toLE 8 2000000000 ++ (toLE 4 0x01000000 ++ [6, 0, 0, 0]))
    let s0 := taking 0x0400 stage (up .standby)
    let s := taking 0x0401 arm (slot0 (up .standby) 1)
    let a := taking 0x0402 (msg 0) (slot0 (up .standby) 2 2000000000)
    stage.argN 8 1 = 0
    ∧ (Takes 0x0400 stage (16 * 1) 0xffffffffffffff00 s0 ∧ (s0.castle 0).state ≠ 2 ∧ s0.stageRefs 0 (records 16 stage.payload) = [])
    ∧ (Takes 0x0401 arm (16 + 8 * 1) 0xffffffffffffff00 s ∧ arm.pay 0 1 ≤ 8 ∧ arm.pay 1 7 = 0
      ∧ s.md.mode ∈ [Mode.standby, .warmUp, .ready, .print, .runOut] ∧ (∀ b, b ∈ records 8 (arm.payload.drop 16) → s.preStatus b = [])
      ∧ (s.castle 0).state = 1 ∧ (∀ a, a ∈ (s.castle 0).actions → a.kind ≠ 5) ∧ s.armRefs (some 0) none (s.castle 0).actions = []
      ∧ s.conflicts (arm.pay 0 1) (triggerOf (arm.pay 0 1) (arm.pay 8 8)) (s.castle 0).actions = false
      ∧ s.reached (arm.pay 0 1) (triggerOf (arm.pay 0 1) (arm.pay 8 8)) = false)
    ∧ (Takes 0x0402 (msg 0) 0 0xffffffffffffff00 a ∧ (a.castle 0).state = 2 ∧ (a.castle 0).reachedAt = none
      ∧ a.reached (a.castle 0).basis (a.castle 0).trigger = false)
    ∧ Takes 0x0403 (msg 0) 0 0xffffffffffffff00 (taking 0x0403 (msg 0) (slot0 (up .standby) 1))
    ∧ Takes 0x0404 (msg 0) 0 0xffffffffffffff00 (taking 0x0404 (msg 0) (up .standby)) := by decide +kernel

theorem witness_ACastleTriggerFiresAllOrNothing :
    (∀ x ∈ [(slot0 (up .standby) 2 1000000000, 0), (slot0 (up .standby) 2 1000000000 [{ obj := 0x01000000, cond := 6 }], 1),
        (sealed0 (slot0 (up .print) 2 1000000000 [] 0x02000051), 2 ^ 16)],
      let s := placed (inSlot 0) x.1;
      At s (inSlot 0) ∧ (s.castle 0).state = 2 ∧ s.firesNow (s.castle 0) = true ∧ s.objHere objDEV = true
        ∧ x.2 = s.preMask (s.castle 0).pres + (if (s.castle 0).actions.any s.judged.meetsLock then 2 ^ 16 else 0))
    ∧ (let s := placed (inSlot 0) (slot0 (up .standby) 2 999999999);
      At s (inSlot 0) ∧ (s.castle 0).state = 2 ∧ s.firesNow (s.castle 0) = false) := by decide +kernel

/-- A ticket of the shape of R115 that has no images: a FEED and an EXIT entry. -/
def plain : Ticket := { state := 1, entries := [{ feed := true }, { exit := true, offset := 10000000 }] }

/-- The plain ticket as ticket 0, ARMED on the tempo, with its seal point at tempo `at_`. -/
def armed0 (s : State) (at_ : Int) (window : Nat) (resident : Bool := true) : State :=
  s.setTicket 0 { plain with
    state := 2, feed := at_ + 10000000, sealOff := -10000000, window := window, maxSpan := 16, resident := resident, lastMask := 8 }

theorem witness_TicketCommandsBuildArmAndRelease :
    let build := msg 0 ([1, 0, 1, 0] ++ zeros 12)
    let arm := msg 0 (zeros 8 ++ toLE 8 3000000000 ++ toLE 8 (2 ^ 64 - 100000000) ++ toLE 4 500000 ++ toLE 4 16)
    let b := taking 0x0410 build (slot0 (up .standby) 1)
    let s := taking 0x0411 arm ((up .ready).setTicket 0 plain)
    let a := taking 0x0412 (msg 0) (armed0 (up .ready) 1500000000 1000)
    (build.argN 8 2 = 0 ∧ Takes 0x0410 build (16 * 1) 0xffffffffffff0000 b ∧ (b.ticket 0).state < 2
      ∧ (b.buildEntries 0 0 (b.ticket 0) (records 16 build.payload)).2 = [])
    ∧ (Takes 0x0411 arm (32 + 8 * 0) 0xffffffffffff0000 s ∧ arm.pay 0 1 ≤ 8 ∧ arm.pay 1 7 = 0
      ∧ 3000000000 = triggerOf (arm.pay 0 1) (arm.pay 8 8) ∧ -100000000 = sext 64 (arm.pay 16 8) ∧ (s.ticket 0).shapeOk = true
      ∧ s.md.mode ∈ [Mode.warmUp, .ready, .print, .runOut] ∧ arm.pay 24 4 ≤ 500000 ∧ 16 ≤ arm.pay 28 4
      ∧ (∀ b, b ∈ records 8 (arm.payload.drop 32) → s.preStatus b = []) ∧ (s.ticket 0).state = 1
      ∧ s.armRefs none (some 0) (s.ticket 0).actions = []
      ∧ (((s.ticket 0).entries.filter (fun e => !e.afterFeed)).any (fun e => s.conflicts (arm.pay 0 1) (3000000000 + e.offset) e.actions))
        = false
      ∧ s.reached (arm.pay 0 1) (3000000000 + -100000000) = false
      ∧ (arm.pay 0 1 = 0 → 1000000 ≤ (s.ticket 0).minBase - (-100000000 + arm.pay 24 4)))
    ∧ (Takes 0x0412 (msg 0) 0 0xffffffffffff0000 a ∧ (a.ticket 0).state = 2 ∧ a.sealReached 0 = false)
    ∧ Takes 0x0413 (msg 0) 0 0xffffffffffff0000 (taking 0x0413 (msg 0) ((up .ready).setTicket 0 plain))
    ∧ Takes 0x0414 (msg 0) 0 0xffffffffffff0000 (taking 0x0414 (msg 0) (up .ready)) := by decide +kernel

theorem witness_ASealHappensExactlyWhenEveryPreconditionHolds :
    (let s := armed0 { up .ready with sheets := { queue := [0] } } 1500000000 1000 false;
      s.md.boot = .running ∧ (s.sheets.queue.filter s.fits).head? = some 0 ∧ (s.ticket 0).state = 2)
    ∧ (∀ x ∈ [(true, 0), (false, 8)],
      let s := placed (inSeal 0) (armed0 (up .ready) 1000000000 0 x.1);
      At s (inSeal 0) ∧ (s.ticket 0).state = 2 ∧ (s.ticket 0).inSealWindow s.tempo = true ∧ (s.ticket 0).evalAt ≠ some s.tempo
        ∧ s.sealMask 0 = x.2 ∧ s.objHere (obj clsTK 0) = true)
    ∧ (let s := placed (inSeal 0) (armed0 (up .ready) 1000000001 0);
      At s (inSeal 0) ∧ (s.ticket 0).inSealWindow s.tempo = false) := by decide +kernel

/-- The window of the plain ticket ends in this tempo, without its headers; its slip and pitch are set. -/
def falling (slip : Nat) : State :=
  placed (inFall 0) (((armed0 (up .ready) 999999500 500 false).setParam 0x11000000 slip).setParam 0x11000001 100000000)

theorem witness_AFlagFallEmptiesThePitchOrSlips :
    At (falling 0) (inFall 0) ∧ (falling 0).falls 0 = some 8 ∧ (falling 0).objHere (obj clsTK 0) = true ∧ (falling 0).slipOutcome 0 8 ≠ 1
    ∧ At (falling 1) (inFall 0) ∧ (falling 1).falls 0 = some 8 ∧ (falling 1).objHere (obj clsTK 0) = true
    ∧ (falling 1).slipOutcome 0 8 = 1 ∧ ((falling 1).movers 0).count 0 = 1
    ∧ (let s := placed (inFall 0) (up .ready); At s (inFall 0) ∧ s.falls 0 = none) := by decide +kernel

theorem witness_ATimelineEntryFiresAllOrNothing :
    ∀ x ∈ [(([] : List Pre), 0, (1000000000 : Int)), ([{ obj := 0x01000000, cond := 6 }], 1, 1000000000), ([], 0, 1000000001)],
      let e : TEntry := { feed := true, pres := x.1 }
      let t : Ticket := { plain with state := 3, feed := x.2.2, entries := [e, { exit := true }] }
      let s := placed (t.entryPlace 0 0) ((up .print).setTicket 0 t)
      At s ((s.ticket 0).entryPlace 0 0) ∧ (s.ticket 0).entries[0]? = some e ∧ 3 ≤ (s.ticket 0).state ∧ e.done = false ∧ e.exit = false
        ∧ s.entryReached (s.ticket 0) e = decide (x.2.2 = 1000000000) ∧ s.preMask e.pres = x.2.1
        ∧ s.objHere (obj clsTK 0) = true := by decide +kernel

theorem witness_ASealedSheetEndsAtItsExitOrItsOverrun :
    let t : Ticket := { plain with state := 4, feed := 990000000, maxSpan := 16, sealTempo := 1000000000 - 1048576 }
    let s := placed (t.entryPlace 0 1) ((up .print).setTicket 0 t)
    let o := placed inTimeouts ((up .print).setTicket 0 t)
    (At s ((s.ticket 0).entryPlace 0 (((s.ticket 0).entries.findIdx? (fun e => e.exit)).getD 0))
      ∧ (s.ticket 0).entries.find? (fun e => e.exit) = some { exit := true, offset := 10000000 } ∧ 3 ≤ (s.ticket 0).state
      ∧ s.entryReached (s.ticket 0) { exit := true, offset := 10000000 } = true)
    ∧ (At o inTimeouts ∧ 3 ≤ (o.ticket 0).state ∧ o.objHere (obj clsTK 0) = true
      ∧ (o.ticket 0).sealTempo + (o.ticket 0).maxSpan * 65536 ≤ o.tempo
      ∧ o.md.mode ∈ [Mode.warmUp, .ready, .print, .runOut]) := by decide +kernel

/-- A device whose two channels have trained with 16 GiB each, with its link up. -/
def trained (mode : Mode) : State :=
  { up mode with store := { gib0 := 16, gib1 := 16 }, host := { linkUp := true, helloPosted := true, rings := [(1, { en := true, vec := 2 })] } }

/-- A store write of channel 0 that has been granted and not arrived. -/
def write0 : Flight :=
  { seq := 1, ch := 0, addr := 0x1000000, data := zeros 8, granted := 999999999, live := true, merging := false }

/-- Channel 0 IDLE, with or without a write on its way. -/
def writing (fs : List Flight) : State :=
  let s := (trained .standby).setDma 0 { state := .idle }
  { s with store := { s.store with flights := fs, flightSeq := 1 } }

/-- A fence of ring 1 on channel 0 that covers write 1, at its deadline. -/
def fence0 : Fence := { reply := { ring := 1 }, ch := 0, accepted := 999999000, deadline := 1000000000, cover := [1] }

/-- A state in which that fence waits. -/
def fencing (fs : List Flight) (f : Fence) : State := { writing fs with store := { (writing fs).store with fences := [f] } }

theorem witness_TheStoreIsTrainedAllocatedAndFenced :
    (∀ x ∈ [(0, 1), (255, 1), (1, 2)],
      let m := msg (x.2 + x.1 * 2 ^ 32);
      let s := taking 0x0500 m (trained .standby);
      s.md.dramOk = true ∧ m.argN 8 4 = x.2 ∧ m.argN 12 1 = x.1 ∧ Takes 0x0500 m 0 0xffffff0000000000 s
        ∧ s.md.mode ∈ modesStore ∧ (x.1 < 2 → s.chHere x.1 = true) ∧ fits x.2 (s.runsOf x.1) ≠ 0)
    ∧ (let m := msg 0 (toLE 8 0x2000000);
      let s := taking 0x0501 m { trained .safeHold with store := { gib0 := 16, regions := [(0x2000000, 4)] } };
      Takes 0x0501 m 8 noArg s ∧ s.md.mode ∈ modesStore ++ [.safeHold]
        ∧ s.store.regions.find? (fun x => x.1 == m.pay 0 8) = some (0x2000000, 4) ∧ s.sealedTks = [])
    ∧ (∀ x ∈ [(0, ([] : List Flight), true), (0, [write0], false), (255, [write0], false), (255, [], true)],
      let m := msg (x.1 + 2 ^ 32);
      let s := taking 0x0502 m (writing x.2.1);
      m.argN 8 1 = x.1 ∧ m.argN 12 4 = 1 ∧ (x.1 ≤ 31 ∧ (s.dma x.1).state ≠ .closed ∨ x.1 = 255)
        ∧ Takes 0x0502 m 0 0xffffff00 s ∧ s.md.mode ∈ modesStore ++ [.safeHold]
        ∧ s.fenceDone { reply := s.replyOf 0x0502 m, ch := x.1, accepted := s.tempo, deadline := s.tempo + 256, cover := s.covered x.1 }
          = x.2.2)
    ∧ (∀ f ∈ [fence0, { fence0 with ch := 255 }],
      (fencing [] f).fenceOf 1 = some f ∧ (fencing [] f).fenceDone f = true
        ∧ (let s := placed inTimeouts (fencing [write0] f);
          At s inTimeouts ∧ s.fenceOf 1 = some f ∧ s.fenceDone f = false ∧ f.deadline ≤ s.tempo
            ∧ s.objHere (if f.ch = 255 then objDEV else obj clsDMA f.ch) = true))
    ∧ (let s := { up .configure with md := { boot := .running } };
      s.md.boot = .running ∧ s.md.dramOk = false ∧ s.store.out0 = false ∧ s.nCh = 2 ∧ s.store.out1 = false
        ∧ s.objHere objDEV = true) := by decide +kernel

/-- Channel 5 belongs to firmware, for the compressor, and is IDLE. -/
def pressing : State :=
  ((((trained .standby).setDma 5 { state := .idle }).setParam 0x0c005002 1).setParam 0x0c005000 2).setParam 0x0d000000 0

theorem witness_DmaChannelsOpenRunAndClose :
    let m := msg 31
    let s := taking 0x0510 m (trained .standby)
    let i := placed inCapture ((trained .standby).setDma 31 { state := .idle, next := 0x1000 })
    let c := taking 0x0511 m ((trained .standby).setDma 31 { state := .idle })
    let f := placed inCapture pressing
    s.md.dramOk = true ∧ m.argN 8 1 = 31 ∧ Takes 0x0510 m 0 0xffffffffffffff00 s ∧ s.md.mode ∈ modesStore ∧ (s.dma 31).state = .closed
      ∧ c.md.dramOk = true ∧ Takes 0x0511 m 0 0xffffffffffffff00 c ∧ (c.dma 31).state ≠ .closed
      ∧ i.md.dramOk = true ∧ At i inCapture ∧ i.host.reachable = true ∧ i.hostOwned 31 = true ∧ (i.dma 31).state = .idle
      ∧ bit (1 : Word).toNat 1 = false ∧ bit (1 : Word).toNat 0 = true ∧ bit (2 : Word).toNat 1 = true
      ∧ f.md.dramOk = true ∧ At f inCapture ∧ f.md.boot = .running ∧ f.hostOwned 5 = false ∧ (f.dma 5).state = .idle := by decide +kernel

/-- A running channel at a step whose access has been granted. -/
def dma0 (step : DmaStep) (cause : Nat := 0) (d : Desc := {}) : State :=
  placed inCapture ((trained .standby).setDma 0 { state := .running, step := step, slot := true, cause := cause, desc := d, cur := 0x10000 })

/-- A descriptor that copies 4,096 bytes from the host to the store. -/
def copyIn : Bytes := toLE 4 (4096 * 256 + 2) ++ toLE 4 0 ++ toLE 8 0x7f00 ++ toLE 8 0x2000000 ++ toLE 8 0x10020

/-- Channel 5, firmware's, has its descriptor at the start of a descriptor SRAM of zeros. -/
def chained : State :=
  { pressing.setDma 5 { state := .running, step := .readDesc, slot := true } with mems := [(10, { zeroed := true })] }

theorem chained_desc : chained.memRead 10 0 32 5 (obj clsDMA 5) [obj clsDMA 5] = (zeros 32, false, chained) := rfl

theorem witness_DescriptorsStartEndAndChain :
    (let s := trained .standby; (s.dma 0).slot = false ∧ At (placed inCapture s) inCapture)
    ∧ (let s := dma0 .readDesc;
      (s.dma 0).state = .running ∧ (s.dma 0).step = .readDesc ∧ (s.dma 0).slot = true ∧ s.hostOwned 0 = true ∧ s.host.linkUp = true
        ∧ s.descCause 0 (descOf (zeros 32)) ≠ 0 ∧ s.descCause 0 (descOf copyIn) = 0 ∧ (descOf copyIn).kind = 0
        ∧ s.objHere (obj clsDMA 0) = true)
    ∧ ((chained.dma 5).state = .running ∧ (chained.dma 5).step = .readDesc ∧ (chained.dma 5).slot = true ∧ chained.hostOwned 5 = false
      ∧ chained.memRange 10 (chained.dma 5).cur 32 = true
      ∧ chained.memRead 10 (chained.dma 5).cur 32 5 (obj clsDMA 5) [obj clsDMA 5] = (zeros 32, false, chained)
      ∧ (let s := chained.updDma 5 (fun d => { d with cur := 2 ^ 32 });
        (s.dma 5).slot = true ∧ s.hostOwned 5 = false ∧ s.memRange 10 (s.dma 5).cur 32 = false ∧ s.objHere (obj clsDMA 5) = true))
    ∧ (∀ x ∈ [(0, 1), (4, 2), (0, 0)],
      let s := dma0 .finish x.1 { ctrl := x.2, link := 0x10020 };
      (s.dma 0).state = .running ∧ (s.dma 0).slot = true ∧ (s.dma 0).step = .finish ∧ At s inCapture ∧ s.hostOwned 0 = true
        ∧ s.host.linkUp = true ∧ (s.dma 0).cause = x.1
        ∧ (s.dma 0).desc.isEnd = decide (x.2 = 1) ∧ (s.dma 0).desc.linkValid = decide (x.2 = 2))
    ∧ (let s := dma0 .lookAgain;
      (s.dma 0).state = .running ∧ (s.dma 0).slot = true ∧ (s.dma 0).step = .lookAgain ∧ s.hostOwned 0 = true ∧ s.host.linkUp = true
        ∧ (descOf copyIn).isEnd = false ∧ (descOf copyIn).linkValid = true
        ∧ ((descOf (zeros 32)).isEnd || !(descOf (zeros 32)).linkValid) = true) :=
  ⟨by decide +kernel, by decide +kernel,
    ⟨by decide +kernel, by decide +kernel, by decide +kernel, by decide +kernel, by decide +kernel, chained_desc, by decide +kernel⟩,
    by decide +kernel, by decide +kernel⟩

/-- A request of channel 0 that waits since tempo 5. -/
def req0 (res : Resource) : Req :=
  { res := res, cls := 2, since := 5, who := 0, write := true, addr := 0x2000000, data := zeros 8, len := 8 }

/-- That request waits. -/
def asking (q : Req) : State := placed inCapture { trained .standby with store := { (trained .standby).store with reqs := [q] } }

/-- The lanes of station 0 wait for a strip of ticket 0. -/
def fetching : State :=
  (asking (req0 (.dram 0))).setStation 0 { queue := [{ tk := 0, strip := 0, addr := 0x1000000, first := 0, lines := 32, pred := 0
                                                       lens := [2, 2, 2, 2], crc := 0 }] }

theorem witness_ResourcesAreGrantedVideoFirst :
    (At fetching inCapture ∧ fetching.laneWinner (.dram 0) = some 0)
    ∧ (let q := req0 .hostSlots; let s := asking q;
      At s inCapture ∧ s.laneWinner .hostSlots = none ∧ s.winner .hostSlots = some q ∧ q.write = true ∧ q.ctl = false
        ∧ s.host.linkUp = true)
    ∧ (let q := { req0 .hostSlots with ctl := true }; let s := asking q;
      At s inCapture ∧ s.laneWinner .hostSlots = none ∧ s.winner .hostSlots = some q)
    ∧ (let s := { asking (req0 .hostSlots) with therm := { step := 50 } };
      At s inCapture ∧ s.laneWinner .hostSlots = none ∧ s.tempo * s.therm.step / 100 = (s.tempo + 1) * s.therm.step / 100)
    ∧ (∀ x ∈ [([] : List Nat), [0x2000]],
      let q := req0 (.dram 0);
      let s := (asking q).setTicket 0 { state := if x = [] then 1 else 3, images := x.map (fun p => { station := 0, strip := 0, addr := 4096 * p, raw := zeros 64 }) };
      At s inCapture ∧ s.laneWinner (.dram 0) = none ∧ s.winner (.dram 0) = some q ∧ q.ctl = false ∧ q.write = true
        ∧ 0x2000 ∈ pagesOf q.addr q.len ∧ (pagesOf q.addr q.len).any s.lockedPage = !x.isEmpty ∧ (s.dma q.who).cause = 0)
    ∧ (let s := placed inCapture (writing [write0]);
      At s inCapture ∧ s.store.flights.find? (fun f => f.seq == 1 && !f.merging) = some write0 ∧ write0.live = true)
    ∧ (let e : Merge := { word := 4, mask := 1, data := 0, since := 999999936, seqs := [] };
      let s := (trained .standby).setMem 22 { merge := [e] };
      (s.mem 22).merge.find? (fun e => e.word == 4) = some e ∧ e.since + 64 ≤ s.tempo) := by decide +kernel

/-- A job of CL0. -/
def job0 : Job :=
  { reply := {}, level := 9, dyn := false, src := 0x2000000, dst := 0x3000000, len := 256, limit := 4096, ch := 5, container := false
    pred := 0, station := 0, width16 := 1 }

/-- CL0 runs a job on channel 5 in a state. -/
def pressed0 (st : DmaState) (j : Job) : State :=
  let s := pressing.updDma 5 (fun d => { d with state := st })
  { s with store := { s.store with job := some j } }

theorem witness_CompressionJobsQueueRunAndEnd :
    (let m := msg 9 (toLE 8 0x2000000 ++ toLE 8 0x3000000 ++ toLE 8 256 ++ toLE 8 4096);
      let s := taking 0x0520 m pressing;
      Takes 0x0520 m 32 0xffffffffffff0000 s ∧ m.argN 8 1 ≤ 9 ∧ m.argN 9 1 ≤ 1 ∧ s.md.mode ∈ modesStore
        ∧ s.md.dramOk = true ∧ (m.argN 9 1 = 1 → s.die.variant = 1) ∧ s.par clsCL 0 0x000 = 0
        ∧ 256 % (32 * (8 * s.par clsCL 0 0x003)) = 0 ∧ 1 ≤ 256 / (32 * (8 * s.par clsCL 0 0x003))
        ∧ 256 / (32 * (8 * s.par clsCL 0 0x003)) ≤ 32 ∧ 0x3000000 % 4096 = 0 ∧ s.badRange 0x2000000 256 = false
        ∧ s.badRange 0x3000000 4096 = false ∧ overlap 0x2000000 256 0x3000000 4096 = false
        ∧ boxBound (s.subBytes 0x2000000 256) ≤ 4096 ∧ (pagesOf 0x3000000 4096).any s.lockedPage = false
        ∧ s.jobChannels ≠ [])
    ∧ (let s : State := { pressing with store := { pressing.store with jobs := [job0] } };
      s.store.job = none ∧ s.store.jobs = [job0] ∧ s.jobChannels = [5] ∧ s.tripped = false)
    ∧ ((pressed0 .running job0).store.job = some job0 ∧ (pressed0 .running job0).tripped = false
      ∧ ((pressed0 .running job0).dma job0.ch).state = .running)
    ∧ (let j : Job := { job0 with box := some (zeros 8), outAt := 8 };
      let s := pressed0 .idle j;
      s.store.job = some j ∧ s.tripped = false ∧ (s.dma j.ch).state ≠ .running ∧ j.fail = none ∧ j.box = some (zeros 8)
        ∧ (zeros 8).length ≤ j.outAt ∧ s.allLanded j.dst (zeros 8).length = true ∧ s.objHere (obj clsCL 0) = true)
    ∧ (let j : Job := { job0 with fail := some (stTIMEOUT, []) };
      let s := pressed0 .idle j;
      s.store.job = some j ∧ s.tripped = false ∧ (s.dma j.ch).state ≠ .running ∧ j.fail = some (stTIMEOUT, [])
        ∧ s.objHere (obj clsCL 0) = true) := by decide +kernel

theorem witness_GoIsActedOnOnlyWhileAwaitingOrRejected :
    (trained .standby).host.reachable = true ∧ bit (1 : Word).toNat 0 = true ∧ bit (1 : Word).toNat 1 = false
    ∧ bit (3 : Word).toNat 0 = true ∧ bit (3 : Word).toNat 1 = true
    ∧ (∀ b ∈ [Boot.awaiting, .rejected, .running, .locked], ∃ s : State, s.host.reachable = true ∧ s.md.boot = b)
    ∧ (trained .standby).md.boot ≠ .locked ∧ (trained .standby).md.mode ∈ [Mode.configure, .standby, .safeHold]
    ∧ (trained .print).md.mode ∉ [Mode.configure, .standby, .safeHold] := by
  refine ⟨by decide, by decide, by decide, by decide, by decide, ?_, by decide, by decide, by decide⟩
  intro b _
  exact ⟨{ host := { linkUp := true }, md := { boot := b } }, rfl, rfl⟩

/-- The window holds the header of an image with one segment of 16 bytes; `len` is its length field. -/
def imaged (len : Nat) : State :=
  let bs : Bytes := toLE 4 0x41565253 ++ toLE 2 1 ++ toLE 2 0 ++ toLE 4 len ++ toLE 4 0x10000 ++ toLE 4 0x20000 ++ toLE 4 0xe
    ++ toLE 4 0 ++ toLE 4 1 ++ toLE 4 0x100 ++ toLE 4 16 ++ toLE 4 0 ++ toLE 4 0
  { running := true, host := { linkUp := true }
    md := { boot := .checking, window := (bs.zipIdx.map (fun x => (x.2, x.1))).filter (fun x => x.2 != 0) } }

/-- An image that is right but for its signature passes when the signature is right. -/
theorem imaged_ok (h : (imaged 0x170).signed = true) : (imaged 0x170).bootReject = 0 := by
  have a1 : (imaged 0x170).die.fuseOk = true := by decide +kernel
  have a2 : (imaged 0x170).imageN 0 4 = 0x41565253 := by decide +kernel
  have a3 : (imaged 0x170).imageN 4 2 = 1 := by decide +kernel
  have a4 : (imaged 0x170).imageN 0x08 4 = 0x170 := by decide +kernel
  have a5 : bit ((imaged 0x170).imageN 0x14 4) (imaged 0x170).die.variant = true := by decide +kernel
  have a6 : (imaged 0x170).segmentsOk = true := by decide +kernel
  have a7 : (imaged 0x170).reservedOk = true := by decide +kernel
  simp [State.bootReject, a1, a2, a3, a4, a5, a6, a7, h]

theorem witness_BootRunsAGoodImageAndRejectsAnother :
    (let s : State := { running := true }; s.md.boot = .init ∧ s.running = true ∧ s.md.mode ≠ .dormant)
    ∧ ((imaged 0x170).md.boot = .checking ∧ ((imaged 0x170).signed = true → (imaged 0x170).bootReject = 0))
    ∧ ((imaged 0x171).md.boot = .checking ∧ (imaged 0x171).bootReject ≠ 0)
    ∧ ∀ mode ∈ [Mode.configure, .standby, .warmUp, .print],
      let s := placed inTimeouts (up mode)
      At s inTimeouts ∧ s.md.boot = .running ∧ s.md.wdExpired = false ∧ s.md.wdAt + 500000 * 1000 ≤ s.tempo
        ∧ s.objHere objDEV = true ∧ s.latched 0x0c11 objDEV = false ∧ s.sealedTks = [] :=
  ⟨by decide +kernel, ⟨by decide +kernel, imaged_ok⟩, by decide +kernel, by decide +kernel⟩

/-- A running device with ring 0 enabled for 64 entries, and its hello posted or not. -/
def ringing (hello : Bool) (r : Ring) : State :=
  { up .ready with host := { linkUp := true, helloPosted := hello, rings := [(0, { r with en := true, log2 := 6 })] } }

/-- Mailbox memory with a NOP with TAG 7 in slot 0 of ring 0. -/
def nopThere : State :=
  { ringing true { cmdTail := 1 } with mems := [(11, { zeroed := true, words := [(0, some (7 * 2 ^ 32 + 2 ^ 16, eccOf (7 * 2 ^ 32 + 2 ^ 16)))] })] }

theorem nopThere_read (w d : Nat) (h : nopThere.wordAt 11 w = ((d, eccOf d), nopThere)) (r what : Nat) (l : List Nat) :
    nopThere.readWord 11 w r what l = ({ data := d, cls := 0, bitNo := 0 }, nopThere) := readWord_kept rfl h

theorem nopThere_slot : nopThere.readSlots 0 0 1 = (toLE 8 (7 * 2 ^ 32 + 2 ^ 16) ++ zeros 56, false, nopThere) := by
  have e : (List.range ((0x1000 * 0 + 64 * (0 % 64) + 64 - 1) / 8 - (0x1000 * 0 + 64 * (0 % 64)) / 8 + 1)).map
      (fun k => (0x1000 * 0 + 64 * (0 % 64)) / 8 + k) = [0, 1, 2, 3, 4, 5, 6, 7] := by decide
  have z : ¬ (64 : Nat) = 0 := by decide
  simp only [State.readSlots, State.memRead, State.memScan, memMailbox, if_neg z, e, State.readWords,
    nopThere_read 0 (7 * 2 ^ 32 + 2 ^ 16) rfl, nopThere_read 1 0 rfl, nopThere_read 2 0 rfl, nopThere_read 3 0 rfl,
    nopThere_read 4 0 rfl, nopThere_read 5 0 rfl, nopThere_read 6 0 rfl, nopThere_read 7 0 rfl]
  rfl

theorem witness_MailboxRingsTakeCommandsAndPostEntries :
    (let s := ((trained .ready).setRing 3 { log2 := 6 }).setRing 4 { log2 := 12 };
      s.host.reachable = true ∧ At (placed inCapture s) inCapture ∧ bit (1 : Word).toNat 0 = true ∧ bit (0 : Word).toNat 0 = false
        ∧ (s.ring 3).en = false
        ∧ 6 ≤ (s.ring 3).log2 ∧ (s.ring 3).log2 ≤ 12 ∧ (s.ring 4).en = false ∧ 6 ≤ (s.ring 4).log2 ∧ (s.ring 4).log2 ≤ 12
        ∧ (s.ring 1).en = true ∧ s.md.leaving = none)
    ∧ ((ringing false {}).mayPost 0 = true ∧ (ringing false {}).host.helloPosted = false ∧ (ringing false {}).host.linkNote = none)
    ∧ (nopThere.md.boot = .running ∧ nopThere.host.helloPosted = true ∧ (nopThere.ring 0).code = 1
      ∧ (nopThere.ring 0).taken = none ∧ (nopThere.ring 0).cmdHead ≠ (nopThere.ring 0).cmdTail ∧ (nopThere.ring 0).cmdTail < 64
      ∧ (nopThere.ring 0).cmdHead < 64
      ∧ nopThere.readSlots 0 (nopThere.ring 0).cmdHead 1 = (toLE 8 (7 * 2 ^ 32 + 2 ^ 16) ++ zeros 56, false, nopThere)
      ∧ leAt (toLE 8 (7 * 2 ^ 32 + 2 ^ 16) ++ zeros 56) 2 1 = 1 ∧ leAt (toLE 8 (7 * 2 ^ 32 + 2 ^ 16) ++ zeros 56) 3 1 < 4
      ∧ leAt (toLE 8 (7 * 2 ^ 32 + 2 ^ 16) ++ zeros 56) 6 2 ≤ 48 ∧ leAt (toLE 8 (7 * 2 ^ 32 + 2 ^ 16) ++ zeros 56) 0 2 ∈ opcodes)
    ∧ (let s := ringing true { waiting := [{ payload := [0, 0, 0xff, 0xff] }] };
      s.mayPost 0 = true ∧ (s.ring 0).cur = .idle ∧ (s.ring 0).curAt = 0
        ∧ s.nextMsg 0 = .response { payload := [0, 0, 0xff, 0xff] } ∧ ([0, 0, 0xff, 0xff] : Bytes).length ≤ 44)
    ∧ (let s := ringing true { unsig := 1 }; (s.ring 0).en = true ∧ 0 < (s.ring 0).unsig ∧ (s.ring 0).irqTime = 0) := by
  refine ⟨by decide +kernel, by decide +kernel, ⟨rfl, rfl, by decide, rfl, by decide, by decide, by decide, nopThere_slot, by decide,
    by decide, by decide, by decide⟩, by decide +kernel, by decide +kernel⟩

theorem witness_RegistersReadAndWriteAsTheirFieldMapsSay :
    (∀ b ∈ [Boot.awaiting, .rejected, .locked], ∃ s : State, s.host.reachable = true ∧ s.md.boot = b) ∧ bit (8 : Word).toNat 3 = true
    ∧ ¬ ((4 = 4 ∨ 4 = 8) ∧ 2 % 4 = 0) ∧ ¬ ((2 = 4 ∨ 2 = 8) ∧ 0 % 2 = 0) ∧ 0x7ffe00 + 512 ≤ 0x800000
    ∧ ((trained .ready).ring 1).en = true ∧ ((trained .ready).ring 15).en = false := by
  refine ⟨fun b _ => ⟨{ host := { linkUp := true }, md := { boot := b } }, rfl, rfl⟩, by decide, by decide, by decide, by decide,
    by decide, by decide⟩

/-- Instance 8 in test mode, with a stored word at address 0x3fff8 or with none. -/
def testing (ws : List (Nat × Option (Nat × Nat))) (busy : Bool) : State :=
  { trained .configure with mems := [(8, { test := true, testBusy := busy, tAddr := 0x3fff8, words := ws })] }

theorem witness_EccRegistersAndTestOperations :
    (testing [] true).host.reachable = true ∧ (testing [] true).eccOpen 8 = true ∧ bit (1 : Word).toNat 4 = false
    ∧ (testing [] true).testAllowed 8 = true ∧ ((testing [] true).mem 8).testBusy = true
    ∧ ∀ v : Nat × Nat, ((testing [(0x7fff, some v)] false).mem 8).test = true
      ∧ (testing [(0x7fff, some v)] false).memRange 8 ((testing [(0x7fff, some v)] false).mem 8).tAddr 8 = true
      ∧ 0x7fff = ((testing [(0x7fff, some v)] false).mem 8).tAddr / 8
      ∧ (∀ e, e ∈ ((testing [(0x7fff, some v)] false).mem 8).merge → e.word ≠ 0x7fff)
      ∧ Map.get (fun _ => none) ((testing [(0x7fff, some v)] false).mem 8).words 0x7fff = some v :=
  ⟨by decide +kernel, by decide +kernel, by decide, by decide +kernel, by decide +kernel,
    fun v => ⟨rfl, rfl, (by show 0x7fff = 0x3fff8 / 8; decide), (fun _ h => nomatch (show _ ∈ ([] : List Merge) from h)), rfl⟩⟩

/-- Every word that is stored with its check bits is a codeword. -/
theorem witness_codeword (d : Nat) : codeword (d, eccOf d) = true := by simp [codeword]

theorem witness_ScrubsReadTheirRangeAndReportCounts :
    (let m := msg 8 (toLE 8 0x3fff8 ++ toLE 8 8);
      let s := taking 0x0820 m (trained .standby);
      Takes 0x0820 m 16 0xffffffffffffff00 s ∧ (m.argN 8 1 ≤ 12 ∨ (17 ≤ m.argN 8 1 ∧ m.argN 8 1 ≤ 23))
        ∧ (s.mem (m.argN 8 1)).scrub = none ∧ s.memHere (m.argN 8 1) = true ∧ m.pay 0 8 % 8 = 0
        ∧ m.pay 8 8 % 8 = 0 ∧ m.pay 8 8 ≠ 0 ∧ s.memRange (m.argN 8 1) (m.pay 0 8) (m.pay 8 8) = true
        ∧ (s.mem (m.argN 8 1)).test = false)
    ∧ ∀ v : Nat × Nat, let s : State := { trained .standby with mems := [(8, { scrub := some ({}, 8, 8, 5), words := [(1, some v)] })] };
      (s.mem 8).scrub = some ({}, 8, 8, 5) ∧ s.objHere objDEV = true ∧ (∀ e, e ∈ (s.mem 8).merge → e.word ≠ 8 / 8)
        ∧ Map.get (fun _ => none) (s.mem 8).words (8 / 8) = some v :=
  ⟨by decide +kernel, fun _ => ⟨rfl, rfl, (fun _ h => nomatch (show _ ∈ ([] : List Merge) from h)), rfl⟩⟩

/-- An ARMED resident ticket 0 with one image entry on station 0, whose header's four words are stored with their check bits. -/
def headed (w0 : Nat) : State :=
  { trained .print with
    mems := [(22, { words := [(0x200000, some (w0, eccOf w0)), (0x200001, some (562949986975746, eccOf 562949986975746)),
      (0x200002, some (512, eccOf 512)), (0x200003, some (6024006445152862208, eccOf 6024006445152862208))] })]
    sheets := { tickets := [(0, { state := 2, resident := true, images := [{ station := 0, strip := 0, addr := 0x1000000 }] })] } }

theorem headed_read (w0 : Nat) : (headed w0).storeRead 0x1000000 32 7 (obj clsTK 0) =
    (bytesAt (toLE 8 w0 ++ (toLE 8 562949986975746 ++ (toLE 8 512 ++ (toLE 8 6024006445152862208 ++ [])))) 0 32, false, headed w0) := by
  have e : (List.range ((0x1000000 + 32 - 1) / 8 - 0x1000000 / 8 + 1)).map (fun k => 0x1000000 / 8 + k)
      = [0x200000, 0x200001, 0x200002, 0x200003] := by decide
  have hi : storeInst 0x1000000 = 22 := by decide
  have r0 : ∀ r what l, (headed w0).readWord 22 0x200000 r what l = ({ data := w0, cls := 0, bitNo := 0 }, headed w0) :=
    fun _ _ _ => readWord_kept rfl rfl
  have r1 : ∀ r what l, (headed w0).readWord 22 0x200001 r what l = ({ data := 562949986975746, cls := 0, bitNo := 0 }, headed w0) :=
    fun _ _ _ => readWord_kept rfl rfl
  have r2 : ∀ r what l, (headed w0).readWord 22 0x200002 r what l = ({ data := 512, cls := 0, bitNo := 0 }, headed w0) :=
    fun _ _ _ => readWord_kept rfl rfl
  have r3 : ∀ r what l, (headed w0).readWord 22 0x200003 r what l
      = ({ data := 6024006445152862208, cls := 0, bitNo := 0 }, headed w0) := fun _ _ _ => readWord_kept rfl rfl
  simp [State.storeRead, hi, State.memRead, State.memScan, e, State.readWords, r0, r1, r2, r3]

theorem witness_header_check :
    (let s := headed 9007203549824851; let t := s.ticket 0; let i : Image := { station := 0, strip := 0, addr := 0x1000000 };
      s.tripped = false ∧ t.resident = true ∧ t.state = 2 ∧ s.inService clsDL (4 * i.station + 0) = true ∧ t.images[0]? = some i ∧ (s.page (i.addr / 4096)).kind = 0
        ∧ Map.get (fun _ => none) i.hdr 0 = none ∧ s.objHere (obj clsSTN 0) = true
        ∧ (∀ r, r < 4 → Map.get (fun _ => none) i.hdr r = some 0 ∨ r = 0 ∨ 0 < r)
        ∧ ∃ h, s.storeRead i.addr 32 7 (obj clsTK 0) = (h, false, s) ∧ s.headerCause i true h false = 0)
    ∧ (let s := headed 0; ∃ h, s.storeRead 0x1000000 32 7 (obj clsTK 0) = (h, false, s)
      ∧ s.headerCause { station := 0, strip := 0, addr := 0x1000000 } true h false = 1) := by
  refine ⟨⟨by decide +kernel, by decide +kernel, by decide +kernel, by decide +kernel, by decide +kernel, by decide +kernel, by decide +kernel,
    by decide +kernel, by decide, _, headed_read _, by decide +kernel⟩, _, headed_read _, by decide +kernel⟩

/-- The last header of an image entry whose other three ranks are valid. -/
theorem witness_header_last :
    let i : Image := { station := 0, strip := 0, addr := 0x1000000, hdr := [(1, some 0), (2, some 0), (3, some 0)] };
    ∀ (k : Nat) (x : Image) (r : Nat), [i][k]? = some x → r < 4 →
      (k = 0 ∧ r = 0) ∨ Map.get (fun _ => none) x.hdr r = some 0 := by
  intro i k x r e h
  revert h r
  exact only (P := fun k x => ∀ r, r < 4 → (k = 0 ∧ r = 0) ∨ Map.get (fun _ => none) x.hdr r = some 0) (by decide) k x e

/-- The strip of 32 lines of 8 bytes that `laned` works on. -/
def strip0 (done : List (Nat × Option Nat)) : QStrip :=
  { tk := 0, strip := 0, addr := 0x1000000, first := 0, lines := 32, pred := 0, lens := [69, 69, 69, 69], crc := 0, done := done }

/-- Station 0 with `strip0` in its queue, and lane 0 in it. -/
def laned (line : Nat) (input : Bytes) (done : List (Nat × Option Nat) := []) : State :=
  { trained .print with video := {
      stations := [(0, { queue := [strip0 done], qEnd := 32 })]
      lanes := [(0, { line := line, granted := true, fetched := true, input := input, since := some 0 })] } }

/-- A stored DEFLATE block of 64 zero bytes. -/
def stored64 : Bytes := [0x01, 0x40, 0x00, 0xbf, 0xff] ++ zeros 64

/-- The lane of `laned` before its fetch has returned, over a store of zeros. -/
def fetched0 : State :=
  placed inCapture { laned 0 [] with
    mems := [(22, { zeroed := true })], video := { (laned 0 []).video with lanes := [(0, { granted := true, since := some 0 })] } }

theorem witness_fetch :
    At fetched0 inCapture ∧ fetched0.laneStrip 0 = some (strip0 []) ∧ fetched0.tripped = false ∧ fetched0.inService clsDL 0 = true
      ∧ (fetched0.lane 0).granted = true ∧ (fetched0.lane 0).fetched = false ∧ fetched0.objHere objDEV = true
      ∧ (fetched0.lane 0).since = some 0 ∧ 1000 < fetched0.tempo - 0 :=
  by decide +kernel

theorem witness_line :
    (∀ b ∈ [stored64, [7]], let s := placed inCapture (laned 0 b);
      At s inCapture ∧ s.laneStrip 0 = some (strip0 []) ∧ s.tripped = false ∧ s.inService clsDL 0 = true ∧ (s.lane 0).fetched = true
      ∧ s.laneMore 0 (strip0 []) = true ∧ s.hasRoom 0 (s.laneQ 0 (strip0 [])) = true ∧ s.objHere (obj clsDL 0) = true)
    ∧ (laned 0 stored64).lineBytes 0 * 1 ≤ ((laned 0 stored64).laneDecode 0 (strip0 [])).out.length
    ∧ ((laned 0 [7]).laneDecode 0 (strip0 [])).out.length < (laned 0 [7]).lineBytes 0 * 1
    ∧ ((laned 0 [7]).laneDecode 0 (strip0 [])).err = some (1, 0) := by decide +kernel

theorem witness_substream :
    (∀ d ∈ [[], [(1, some 1), (2, some 2), (3, some 3)]], let s := placed inCapture (laned 8 stored64 d);
      At s inCapture ∧ s.laneStrip 0 = some (strip0 d) ∧ s.tripped = false ∧ s.inService clsDL 0 = true ∧ (s.lane 0).fetched = true
        ∧ s.laneMore 0 (strip0 d) = false ∧ (s.laneDecode 0 (strip0 d)).err = none ∧ s.objHere (obj clsSTN 0) = true)
    ∧ ((List.range 4).map (fun r => (([(1, some 1), (2, some 2), (3, some 3)] ++ [(0 % 4, some 0)]).lookup r).getD
        (none : Option Nat))).all (fun c => c.isSome) = true := by decide +kernel

/-- Links with the interlock closed and every clock locked, with an OUT4 edge 1,064 tempo ahead; link 0 as given. -/
def linked (mode : Mode) (x : Link) (blanked : Bool := false) : State :=
  { trained mode with
    clk := { plls := (List.range 16).map (fun p => (p, { state := .locked, everLocked := true, ratio := 32 * 2 ^ 32, edgeT := 1000001064 * 2 ^ 38 })) }
    video := { ilkA := false, ilkB := false, blanked := blanked, links := [(0, x)] } }

/-- A training run of link 0 that began 2,000 tempo ago and stands at a step. -/
def run0 (step : Nat) (fail : Nat := 0) (ilk : Bool := false) : Training :=
  { reply := (linked .standby {}).replyOf 0x0710 (msg (obj clsVL 0)), start := 999998000, since := 999998000, step := step
    fail := fail, ilk := ilk }

/-- Station 0 enabled, with link 0 UP and a line due whose mapper start is this tempo; it draws image 0 of 64 lines of ticket 0 in a
state. -/
def mapping (tk : Nat) (blanked : Bool) (hold : Bool := false) : State :=
  placed inEvents { linked .print {} blanked with
    sheets := { tickets := [(0, { state := tk })] }
    video := { (linked .print { state := .up, lineDue := true, pxHold := hold } blanked).video with stations := [(0,
      { enabled := true, sync := .locked, lineQ := some 0, outOn := true
        queue := [strip0 []], swath := (List.range 32).map (fun q => (q, { q := q, data := zeros 8 }))
        draw := some { tk := 0, scan := 0, begun := false, q0 := 0, lines := 64 } })] } }

theorem witness_BeamLinksTrainAndSendFramesAndLines :
    (let m := msg (obj clsVL 0); let s := taking 0x0710 m (linked .standby {});
      Takes 0x0710 m 0 0xffffffff00000000 s ∧ s.md.mode ∈ [Mode.standby, .warmUp, .ready] ∧ Names (m.argN 8 4) [clsVL] s
        ∧ 0 = aIdx (m.argN 8 4) ∧ (s.link 0).state = .down ∧ s.video.ilkA = false ∧ s.video.ilkB = false
        ∧ s.participates (m.argN 8 4) = false)
    ∧ (∀ x ∈ [(run0 7, some 999990000, some 0), (run0 3, none, none), (run0 7 0 true, none, some 8), (run0 5 4, none, some 4),
        ({ run0 7 with start := 999000000 }, none, some 6)],
      let s := linked .standby { state := .training, train := some x.1, pxAt := x.2.1 };
      (s.link 0).train = some x.1 ∧ s.objHere (obj clsVL 0) = true ∧ s.trainResult 0 x.1 true = x.2.2
        ∧ s.pxCounted 0 = x.2.1.isSome)
    ∧ (∀ x ∈ [(({} : Link), false), ({ state := .up, marker := some (1000000000, [1]) }, false), ({ state := .up, pxWait := true }, false),
        ({ state := .up, slot0 := [[1]] }, false), ({ state := .training }, false), ({ state := .up }, true),
        ({ state := .up, line := some { head := none, blocks := [], start := 0 } }, false)],
      let s := placed inLinks (linked .standby x.1 x.2);
      At s inLinks ∧ s.inService clsVL 0 = true ∧ s.running = true ∧ s.tempo % 64 = 0 ∧ (s.link 0).frameAt ≠ some s.tempo
        ∧ s.serialised 0 = true ∧ s.dark = x.2)
    ∧ (let s := placed inLinks (trained .standby); At s inLinks ∧ s.inService clsVL 0 = true ∧ s.serialised 0 = false)
    ∧ (∀ tk ∈ [0, 3], ∀ b h, let s := mapping tk b h; At s inEvents ∧ (s.station 0).lineQ = some 0 ∧ s.inService clsVL 0 = true
      ∧ s.scanOn 0 = true ∧ (s.link 0).lineDue = true ∧ s.tempo = (s.lineAt 0 0).start ∧ s.video.blanked = b
      ∧ (s.link 0).heldAt (s.lineAt 0 0).frame = h ∧ (s.link 0).state = .up
      ∧ s.drawing 0 = if tk = 3 then (s.station 0).draw else none) := by decide +kernel

/-- Every beam of station 0 reads only lines of the image that stand in the swath, and beam 0 of link 0 draws image line 0. -/
theorem witness_ALineCarriesThePulseValuesOfItsBeams :
    let s := mapping 3 false
    s.drawing 0 = (s.station 0).draw ∧ (s.station 0).outOn = true ∧ s.ownLine 0 0 0 = some 0 ∧ 0 < s.par clsSTN 0 0x003
      ∧ (∀ j ∈ s.linesRead 0 0 0 64, s.swLine 0 (0 + j) ≠ none) ∧ s.swLine 0 0 = some (zeros 8) := by decide +kernel

/-- A packet with its CRC. -/
def packet (p : Bytes) : Bytes := p ++ toLE 1 (crc8 p)

theorem witness_TheBackchannelReportsItsDriver :
    (∀ x ∈ [LinkState.up, .down], let s := placed inCapture (linked .ready { state := x }); At s inCapture ∧ s.inService clsVL 0 = true)
    ∧ ([1, 2, 3] : Bytes).length ≠ 8
    ∧ (∀ a ∈ [0, 1], ∀ p ∈ ([[1, a, 0, 0, 0, 0, 0], [2, a, 31, 0xff, 0xf, 0, 0], [3, a, 0, 0, 0, 0, 0], [4, 0, 0, a, 0, 0, 0],
        [4, 1, 0, 0, 0, 0, 0], [5, a, 0, 0, 0, 0, 0]] : List Bytes),
      (packet p).length = 8 ∧ crc8 ((packet p).take 7) = leAt (packet p) 7 1 ∧ leAt (packet p) 0 1 = leAt p 0 1)
    ∧ (linked .ready {}).inService clsBEAM 0 = true ∧ (linked .ready {}).objHere (obj clsBEAM 0) = true
    ∧ (∀ x ∈ [3, 4, 5, 6], (linked .standby { state := .training, train := some { run0 x with reads := 15 } }).trainAt 0 x = true)
    ∧ (let s := placed inTimeouts (linked .ready { state := .up });
      At s inTimeouts ∧ s.objHere (obj clsVL 0) = true ∧ (s.link 0).state = .up ∧ (s.link 0).lastPkt + 32000 ≤ s.tempo)
    ∧ (let m := msg (obj clsBEAM 0); let s := taking 0x0720 m (linked .ready {});
      Takes 0x0720 m 0 0xffffffff00000000 s ∧ s.md.mode ∈ [Mode.standby, .warmUp, .ready, .print, .runOut]
        ∧ Names (m.argN 8 4) [clsBEAM] s) := by decide +kernel

theorem witness_TheLaserInterlockBlanksAndReleases :
    (let s := placed inProtect (linked .print {}); s.objHere objDEV = true ∧ At s inProtect ∧ (true || false) = true
      ∧ s.video.ilkA = false ∧ s.video.ilkB = false ∧ At (placed inProtect (mapping 3 true)) inProtect)
    ∧ (let s := placed inTimeouts (mapping 3 true); At s inTimeouts ∧ s.objHere objDEV = true ∧ s.video.blanked = true
      ∧ s.video.ilkA = false ∧ s.video.ilkB = false ∧ s.video.ilkSince + 500000 ≤ s.tempo ∧ (s.ticket 0).state = 3
      ∧ (s.link 0).state = .up ∧ s.tripped = false)
    ∧ (let s : State := { sheets := { tickets := [(0, { state := 3, entries := [{ actions := [{ target := obj clsSTN 2, kind := 5, table := 0, value := 0 }] }] })] } };
      2 ∈ (s.ticket 0).imaging) := by decide +kernel

theorem witness_AnInterlockThatDisagreesLatches0x0603 :
    (let s := placed inTimeouts { trained .standby with video := { ilkA := true, ilkB := false } };
      At s inTimeouts ∧ s.objHere objDEV = true ∧ s.video.ilkA ≠ s.video.ilkB ∧ s.latched 0x0603 objDEV = false
        ∧ s.video.ilkSince + 2500000 < s.tempo)
    ∧ (∀ b, let m := msg (0x0603 + objDEV * 2 ^ 32);
      let s := taking 0x0031 m { trained .standby with
        video := { ilkA := true, ilkB := b }, faults := [{ code := 0x0603, obj := objDEV, tempo := 0 }] };
      Takes 0x0031 m 0 0xffff0000 s ∧ m.argN 8 2 = 0x0603 ∧ m.argN 12 4 = objDEV ∧ s.objHere objDEV = true
        ∧ s.latched 0x0603 objDEV = true ∧ s.judged.video.ilkA = true ∧ s.judged.video.ilkB = b) := by decide +kernel

/-- A device whose clocks are as given, with parameters of classes, instances and PIDs, at the captures of a tempo. -/
def clocked (mode : Mode) (c : Clk) (ps : List (Nat × Nat × Nat × Nat) := []) : State :=
  placed inCapture (ps.foldl (fun s p => s.setParam (addr p.1 p.2.1 p.2.2.1) p.2.2.2) { trained mode with clk := c })

theorem witness_GearedSlavesFollowTheirMasterExactly :
    let s := clocked .print { encs := [(0, { started := true })], gears := [(obj clsDT 0, { master := 1, n := -7, d := 3, r := 2 })] } [(clsME, 0, 0x000, 1)];
    At s inCapture ∧ s.par clsME 0 0x000 = 1 ∧ s.tempo - 3 - s.par clsME 0 0x002 + 3 + s.par clsME 0 0x002 = s.tempo ∧ (s.enc 0).started = true
      ∧ ((s.enc 0).a ≠ true ∧ (s.enc 0).b = false) ∧ -(2 ^ 63) ≤ (s.enc 0).pos + 1 ∧ (s.enc 0).pos + 1 < 2 ^ 63
      ∧ (s.gear (obj clsDT 0)).master = 0 + 1 ∧ 0 < (s.gear (obj clsDT 0)).d ∧ (s.gear (obj clsDT 0)).pend = none
      ∧ -(2 ^ 63) ≤ (s.gear (obj clsDT 0)).s + Int.fdiv (2 - 7) 3 ∧ (s.gear (obj clsDT 0)).s + Int.fdiv (2 - 7) 3 < 2 ^ 63
      ∧ (s.gear (obj clsDT 1)).master ≠ 0 + 1 ∧ (s.gear (obj clsDT 1)).pend = none := by decide +kernel

/-- An encoder 0 whose index is in use in a mode, with counts since its last index edge. -/
def indexed (mode : Nat) (run : Int) : State :=
  clocked .print { encs := [(0, { started := true, pos := 4100, idxSeen := true, idxRun := run })] }
    [(clsME, 0, 0x000, 1), (clsME, 0, 0x004, mode), (clsME, 0, 0x005, 4096), (clsME, 0, 0x006, 3)]

/-- The three outcomes of an index edge that completes: mode 1, mode 2 within the tolerance, and mode 2 beyond it. -/
theorem witness_meIndexEdge :
    ∀ x ∈ [(1, (5000 : Int)), (2, 4098), (2, -5000)], let s := indexed x.1 x.2;
      At s inCapture ∧ s.par clsME 0 0x000 = 1 ∧ s.par clsME 0 0x004 ≠ 0 ∧ s.tempo - 3 - s.par clsME 0 0x002 + 3 + s.par clsME 0 0x002 = s.tempo
        ∧ s.par clsME 0 0x004 = x.1 ∧ (s.enc 0).idxSeen = true ∧ s.objHere (obj clsME 0) = true
        ∧ (s.par clsME 0 0x006 < (((s.enc 0).idxRun.natAbs : Int) - (s.par clsME 0 0x005 : Int)).natAbs ↔ x.2 ≠ 4098) := by decide +kernel

theorem witness_MasterEncodersCountAndKeepTheirIndex :
    (At (clocked .print {}) inCapture ∧ (clocked .print {}).par clsME 0 0x000 ≠ 1 ∧ (clocked .print {}).par clsME 0 0x004 = 0
      ∧ 0 + 3 + (clocked .print {}).par clsME 0 0x002 ≠ (clocked .print {}).tempo)
    ∧ (let s := clocked .print {} [(clsME, 0, 0x000, 1)]; At s inCapture ∧ s.par clsME 0 0x000 = 1
      ∧ s.tempo - 3 - s.par clsME 0 0x002 + 3 + s.par clsME 0 0x002 = s.tempo ∧ (s.enc 0).started = false)
    ∧ (let s := clocked .print { encs := [(0, { started := true, errs := [999999999] })] } [(clsME, 0, 0x000, 1), (clsME, 0, 0x003, 1)];
      At s inCapture ∧ s.par clsME 0 0x000 = 1 ∧ s.tempo - 3 - s.par clsME 0 0x002 + 3 + s.par clsME 0 0x002 = s.tempo ∧ (s.enc 0).started = true
        ∧ (s.enc 0).a ≠ true ∧ (s.enc 0).b ≠ true ∧ s.objHere (obj clsME 0) = true
        ∧ s.par clsME 0 0x003 < ((s.enc 0).errs.filter (fun x => decide (s.tempo < x + 1000000))).length + 1)
    ∧ (let s := clocked .print { encs := [(0, { started := true, pos := 99 })]
                                 gears := [(obj clsDT 0, { master := 1, n := 1, d := 1, pend := some { master := 1, n := 5, d := 2, p := 98 } })] }
          [(clsME, 0, 0x000, 1)];
      At s inCapture ∧ s.par clsME 0 0x000 = 1 ∧ s.tempo - 3 - s.par clsME 0 0x002 + 3 + s.par clsME 0 0x002 = s.tempo
        ∧ (s.enc 0).started = true ∧ ((s.enc 0).a ≠ true ∧ (s.enc 0).b = false) ∧ (s.gear (obj clsDT 0)).master = 0 + 1
        ∧ (s.gear (obj clsDT 0)).d ≠ 0 ∧ (s.gear (obj clsDT 0)).pend = some { master := 1, n := 5, d := 2, p := 98 }
        ∧ (98 : Int) + 1 ≤ (s.enc 0).pos ∧ (s.enc 0).pos + 1 < 2 ^ 63 ∧ -(2 ^ 63) < (s.enc 0).pos ∧ s.objHere (obj clsDT 0) = true) := by
  decide +kernel

/-- A device with a press description, in a TSYNC role, at a tempo. -/
def synced (role : Nat) (mode : Mode) (tempo : Nat) (c : Clk := {}) : State :=
  { clocked mode c [(clsDEV, 0, 0x010, role)] with tempo := tempo }

theorem witness_TsyncKeepsACascadeTogether :
    (let s := synced 1 .ready (2 ^ 20); s.running = true ∧ s.par clsDEV 0 0x010 = 1 ∧ s.md.pressOk = true ∧ s.tempo % 2 ^ 20 = 0)
    ∧ (∀ x ∈ [(Mode.configure, ({} : Clk)), (.print, { tsLoaded := true })], let s := synced 2 x.1 5000000 x.2;
      s.running = true ∧ At s inCapture ∧ s.par clsDEV 0 0x010 = 2 ∧ 4194400 ≤ s.tempo
        ∧ 4194400 ≠ 4 % 2 ^ 44 * 2 ^ 20 + s.par clsDEV 0 0x011
        ∧ s.objHere objDEV = true ∧ s.mayLoad = (x.1 == .configure) ∧ (x.1 = .print → s.clk.tsLoaded = true)
        ∧ 1 < ((4194400 : Int) - (4 * 2 ^ 20 : Nat)).natAbs)
    ∧ crc8Bits (bitsMSB 44 4) = (BitVec.ofNat 8 (crc8Bits (bitsMSB 44 4)) : Byte).toNat ∧ crc8Bits (bitsMSB 44 4) ≠ 0
    ∧ (let s := synced 2 .print 5000000; s.mayLoad = false ∧ ((4194313 : Int) - (4 % 2 ^ 44 * 2 ^ 20 + s.par clsDEV 0 0x011 : Nat)).natAbs ≤ 1)
    ∧ (let s := placed inTimeouts (synced 2 .print 5000000 { tsLoaded := true });
      s.running = true ∧ At s inTimeouts ∧ s.par clsDEV 0 0x010 = 2 ∧ s.clk.tsLoaded = true ∧ s.clk.tsLost = false
        ∧ s.clk.tsLast + 3 * 2 ^ 20 ≤ s.tempo ∧ s.objHere objDEV = true) := by decide +kernel

/-- PLL `p` in a state; station 0 enabled, with recall slot 0 valid or not. -/
def pllAt (p : Nat) (l : Pll) (slot : Bytes := []) : State :=
  ({ trained .warmUp with clk := { plls := [(p, l)] }, video := { stations := [(0, { enabled := true })] } }).setTable 0x08 0 slot

theorem witness_PllsSearchLockAndCoast :
    (∀ st ∈ [PllState.off, .locked], let s := pllAt 2 { state := st }; s.md.boot = .running ∧ s.md.mode ≠ .dormant ∧ (s.pll 2).state = st
      ∧ s.md.mode ≠ .configure ∧ (s.pll 3).state = .off ∧ s.inService clsSTN 0 = true ∧ (s.station 0).enabled = true
      ∧ (s.pll 8).state = .off)
    ∧ bit ((pllAt 8 {}).slotField 0 0 0 1) 0 = false
    ∧ (let s := (pllAt 8 {} [1, 17]).setParam (addr clsSTN 0 0x078) 0; s.par clsSTN 0 0x078 = 0 ∧ bit (s.slotField 0 0 0 1) 0 = true)
    ∧ (∀ l ∈ [({ state := .search } : Pll), { state := .acquire, inTol := 3 }, { state := .locked }, { state := .locked, outTol := 1 },
        { state := .coasting }, { state := .coasting, refLost := true, coastWin := 3 }], ∀ p ∈ [0, 2, 3, 8],
      let s := placed inEvents (pllAt p l); s.pllHere p = true ∧ s.md.mode ≠ .dormant ∧ s.objHere objDEV = true ∧ s.pll p = l
        ∧ s.running = true ∧ At s inEvents ∧ (s.pll p).winAt + s.pllWinLen p ≤ s.tempo
        ∧ (∀ x ∈ [(s.pllExpected p / 2 ^ 32, true), (10 ^ 12, false)],
          x.2 = decide (((x.1 * 2 ^ 32 : Nat) - (s.pllExpected p : Int)).natAbs ≤ 2 * 2 ^ 32
            ∨ ((x.1 * 2 ^ 32 : Nat) - (s.pllExpected p : Int)).natAbs * 1000000 ≤ s.pllExpected p * s.pllTol p))
        ∧ (s.sensor (pllSensor p)).suspect = false ∧ ((s.sensor (pllSensor p)).temp - (s.pll p).corrTemp).natAbs < 32
        ∧ (s.pll p).readAt.all (fun r => decide (r + 1048576 ≤ s.tempo)) = true)
    ∧ (let s := pllAt 2 { state := .locked, corrTemp := 232, winAt := 1000000000, readAt := some 999999999 };
      32 ≤ ((s.sensor (pllSensor 2)).temp - (s.pll 2).corrTemp).natAbs ∧ s.tempo < (s.pll 2).winAt + s.pllWinLen 2
        ∧ (s.pll 2).readAt.any (fun r => decide (s.tempo < r + 1048576)) = true) := by decide +kernel

/-- Transfers that wait at a controller. -/
def xfer (n : Nat) (on : Bool := false) : Xfer :=
  { reply := (up .ready).replyOf 0x0900 (msg 0), target := 0, mode := 0, tx := [1], rxLen := n, on := on }

theorem witness_SpiAndI2cTransfersQueueRunAndAnswer :
    (∀ q ∈ [[], [SpiJob.xfer (xfer 2), .xfer (xfer 3)]], let m := msg (1 + 2 * 2 ^ 8 + 3 * 2 ^ 16) [0xaa, 0x55];
      let s := taking 0x0900 m { trained .ready with io := { spi := [(1, q)] } };
      Takes 0x0900 m m.payload.length 0xffffffffff000000 s ∧ 1 ≤ m.payload.length ∧ m.payload.length ≤ 936 ∧ m.argN 8 1 ≤ 3
        ∧ m.argN 9 1 ≤ 3 ∧ m.argN 10 1 ≤ 3 ∧ s.spiTaken (m.argN 8 1) (m.argN 9 1) = false ∧ s.spiQueue 1 = q)
    ∧ (∀ q ∈ [[], [xfer 2 true]], let m := msg (1 + 0x50 * 2 ^ 8 + 2 * 2 ^ 16 + 4 * 2 ^ 32) [0, 1];
      let s := taking 0x0910 m { trained .ready with io := { i2c := [(1, q)] } };
      Takes 0x0910 m (m.argN 10 2) 0xffff000000000000 s ∧ m.argN 8 1 ≤ 3 ∧ m.argN 9 1 ≤ 127 ∧ m.argN 12 2 ≤ 936
        ∧ s.i2cBusy (m.argN 8 1) = false ∧ s.i2cTaken (m.argN 8 1) (m.argN 9 1) = false ∧ s.i2cQueue 1 = q ∧ s.seqWaits 1 = false) := by
  decide +kernel

/-- Stations whose parameters pass every check of Table 10-1: pixels of 4 tempo, 20,000 of them, and facets of 100,000 tempo. -/
def stationed (mode : Mode) (st : Station) : State :=
  [(0x001, 125000000), (0x002, 6400000), (0x003, 20000), (0x004, 1000), (0x007, 400), (0x00a, 200), (0x00b, 10), (0x064, 16), (0x070, 1), (0x090, 4)].foldl
    (fun s p => s.setParam (addr clsSTN 0 p.1) p.2) { linked mode { state := .up } with
      video := { (linked mode { state := .up }).video with stations := [(0, st)] } }

theorem witness_StationsAreEnabledDisabledAndPromoted :
    ∀ e ∈ [false, true], let m := msg (obj clsSTN 0); let s := taking 0x0700 m (stationed .standby { enabled := e });
      let d := taking 0x0701 m (stationed .standby { enabled := e });
      Names (m.argN 8 4) [clsSTN] s ∧ s.participates (m.argN 8 4) = false
        ∧ Takes 0x0700 m 0 0xffffffff00000000 s
        ∧ s.md.mode ∈ [Mode.standby, .warmUp, .ready] ∧ s.inService clsBEAM (32 * 0 + s.par clsSTN 0 0x008) = true
        ∧ s.enableBad 0 = false ∧ s.video.ilkA = false ∧ s.video.ilkB = false ∧ (s.station 0).enabled = e
        ∧ (s.station 0).sync = .off ∧ (s.gear (obj clsSTN 0)).master = 0
        ∧ Takes 0x0701 m 0 0xffffffff00000000 d ∧ (d.pll (3 + 0 / 4)).state ≠ .off
        ∧ (∀ k ∈ [1, 2, 3], (d.station k).enabled = false)
        ∧ ((d.setStation 1 { enabled := true }).station 1).enabled = true := by decide +kernel

/-- A station with spares, and with spare 1 promoted for beam 29 or not. -/
def withSpares (p : List (Nat × Nat)) : State := { stationed .standby {} with promotions := p }

theorem witness_promote :
    ∀ x ∈ [([], obj clsBEAM 29), ([(1, 29)], obj clsBEAM 1)], let m := msg (obj clsBEAM 1 + x.2 * 2 ^ 32);
      let s := taking 0x0111 m (withSpares x.1);
      Takes 0x0111 m 0 0 s ∧ s.md.mode ∈ modesCfSb ∧ Names (m.argN 8 4) [clsBEAM] s ∧ m.argN 12 4 = x.2 ∧ Names x.2 [clsBEAM] s
        ∧ (s.station 0).enabled = false ∧ 29 = 1 + s.scanL 0 ∧ 1 % 32 < s.spares 0
        ∧ s.role 0 1 = (if x.1 = [] then .spare else .promoted) ∧ (x.1 = [] → s.role 0 29 = .imaging) := by decide +kernel

theorem witness_BeamDetectDecidesEachFacet :
    (∀ raw ∈ [63999999000, 63999000000], let s := placed inCapture (stationed .print { enabled := true, sync := .locked, pred := some 63999998900 });
      let u := { s with tempo := ceilDiv raw 64 + 3 + s.par clsSTN 0 0x006 };
      s.scanOn 0 = true ∧ At u inCapture ∧ (u.station 0).pred = some 63999998900 ∧ (u.station 0).seek = false
        ∧ true = (u.par clsSTN 0 0x005 == 0) ∧ ceilDiv raw 64 + 3 + u.par clsSTN 0 0x006 = u.tempo ∧ (u.station 0).bdAt ≠ some u.tempo
        ∧ (((raw : Nat) - (63999998900 : Int) : Int).natAbs ≤ u.halfWin 0 ↔ raw = 63999999000))
    ∧ (let s := placed inTimeouts (stationed .print { enabled := true, sync := .locked, pred := some 63999900000 });
      s.scanOn 0 = true ∧ At s inTimeouts ∧ s.missTempo 0 63999900000 ≤ s.tempo ∧ s.objHere (obj clsSTN 0) = true)
    ∧ (∀ d ∈ [999999700, 1000000000], let s := placed inEvents ((stationed .print {
          enabled := true, sync := .locked, boundary := true
          decTempo := d, bModel := some 5, decRatio := 2 ^ 37, pred := some 64999999000 }).updPll 8 (fun p => { p with
            edgeT := 999999000 * 2 ^ 38 }));
      s.scanOn 0 = true ∧ At s inEvents ∧ (s.station 0).boundary = true ∧ s.out4On 0 = true ∧ (s.station 0).bModel = some 5
        ∧ 0 ≤ s.edgeTime 0 (s.boundaryEdge 0)
        ∧ (s.edgeTime 0 (s.boundaryEdge 0) < (s.tempo + 1 : Nat) * 2 ^ 38 ↔ d = 999999700)
        ∧ s.mayPulse 0 = true ∧ (s.station 0).seek = false ∧ (s.link (s.bdLink 0)).state = .up
        ∧ s.par clsSTN 0 0x008 < 32) := by decide +kernel

/-- A slow word of 28 bits, bit 0 first, with a type in bits 3 to 1 and its data above. -/
def slowWord (type d : Nat) : List Bool := (List.range 28).map (fun i => bit (2 * type + 16 * d) i)

/-- Tile 0 as given, in service, with parameters of its class. -/
def tiled (mode : Mode) (t : Tile) (ps : List (Nat × Nat) := []) : State :=
  ps.foldl (fun s p => s.setParam (addr clsDT 0 p.1) p.2) { trained mode with drive := { tiles := [(0, t)] } }

theorem witness_SeekPulsesAndIndexEdgesServeTheStation :
    (∀ lit ∈ [none, some (63000000000, 63000000100), some (640000000000, 640000000100)],
      let s := stationed .ready { enabled := true, sync := .seeking, seek := true, seekLit := lit };
      let w := (s.pixTime 0 (64 * 16 * s.par clsSTN 0 0x00c : Nat) (s.pll 8).ratio).toNat;
      let soonest := 64 * (s.nextSlot0 0 + 1024);
      s.mayPulse 0 = true ∧ (s.station 0).seek = true ∧ s.bdLink 0 = 0 ∧ (s.link 0).state = .up ∧ 0 < s.outDiv 0
        ∧ ((match lit with
          | none => soonest
          | some (a, _) => a + s.seekPeriod 0 + w / 2) ≤ soonest + 64 * 64 ↔ lit ≠ some (640000000000, 640000000100)))
    ∧ (∀ c ∈ [0, 8], let s := placed inCapture (((stationed .print {
          enabled := true, sync := .locked, idxArm := true, idxSeen := true
          idxOk := true, idxCount := c }).setParam (addr clsSTN 0 0x00f) 2).setParam (addr clsSTN 0 0x000) 8);
      At s inCapture ∧ s.scanOn 0 = true ∧ (s.station 0).idxArm = true ∧ s.par clsSTN 0 0x00f ≠ 0 ∧ s.objHere (obj clsSTN 0) = true
        ∧ decide ((s.station 0).idxCount = s.facets 0) = decide (c = 8))
    ∧ (let s := placed inCapture ((((stationed .print {}).setParam (addr clsSTN 0 0x00f) 2).setParam (addr clsSTN 0 0x010) 3).setParam
          (addr clsGPIO 3 0x000) 0x30);
      At s inCapture ∧ (∀ lv : Bool, bit (s.par clsGPIO 3 0x000) (if lv then 4 else 5) = true) ∧ s.inService clsSTN 0 = true
        ∧ s.par clsSTN 0 0x00f = 2 ∧ s.par clsSTN 0 0x010 = 3)
    ∧ (∀ b, let s := tiled .print { slowWord := some (slowWord 4 32), indexSeen := b };
      s.inService clsDT 0 = true ∧ (s.tile 0).word 4 = some 32 ∧ bit 32 5 = true ∧ s.objHere (obj clsDT 0) = true) := by decide +kernel

/-- Tile 0 with the fault, protection and endpoint parameters and the loop table that enabling asks for. -/
def fitTile (mode : Mode) (t : Tile) : State :=
  (tiled mode { t with sync := true, configured := true } [(0x000, 7), (0x023, 1 + 2 * 2 ^ 10 + 2 ^ 20 + 2 ^ 30 + 2 ^ 43 + 2 ^ 47)]).setTable 0x07 0
    ([7, 0] ++ zeros 18)

theorem witness_TilesAreEnabledDisabledAndHeldByTheirBus :
    (∀ p ∈ [Prot.disabled, .run], let m := msg (obj clsDT 0); let o := m.argN 8 4; let s := taking 0x0600 m (fitTile .ready { prot := p });
      Names o [clsDT, clsGRP] s ∧ s.parent o = none ∧ (s.span o).any s.participates = false ∧ Takes 0x0600 m 0 0xffffffff00000000 s
        ∧ s.md.mode ∈ [Mode.warmUp, .ready, .print, .runOut] ∧ s.anyFault o = false ∧ s.groupFit o = true ∧ s.axisTiles o = [0]
        ∧ (∀ k ∈ s.axisTiles o, (s.tile k).prot ≠ .latched ∧ s.tileFit k = true)
        ∧ Takes 0x0601 m 0 0xffffffff00000000 (taking 0x0601 m (fitTile .ready { prot := p })))
    ∧ (let s := placed inTimeouts (tiled .ready { prot := .enabling });
      At s inTimeouts ∧ s.objHere (obj clsDT 0) = true ∧ (s.tile 0).prot = .enabling ∧ (s.tile 0).since + 500000 ≤ s.tempo)
    ∧ (∀ v ∈ [500, 900], let s := placed inProtect ((fitTile .ready { prot := .run, vbus := v }).setParam (addr clsDEV 0 0x040)
          (100 * 2 ^ 12 + 400 * 2 ^ 24 + 600 * 2 ^ 36 + 800 * 2 ^ 48));
      At s inProtect ∧ s.inService clsDT 0 = true ∧ s.busOf 0 = some 0 ∧ s.sdEn 0 3 = true ∧ s.objHere objDEV = true ∧ s.vBus 0 = v
        ∧ 0 ∈ s.busTiles 0 ∧ s.canTurnOff 0 = true ∧ (s.bus 0).stage = 0
        ∧ decide (s.busLimit 0 4 ≤ v) = decide (v = 900) ∧ s.busLimit 0 2 ≤ v)
    ∧ (∀ st ∈ [1, 3], let s := placed inEvents { fitTile .ready {} with
          drive := { (fitTile .ready {}).drive with buses := [(0, { stage := st, quiet := some 5 })] } };
      At s inEvents ∧ 0 < (s.bus 0).stage ∧ (s.bus 0).quiet = some 5 ∧ 5 + 500000 ≤ s.tempo ∧ s.objHere objDEV = true
        ∧ (∀ k ∈ s.busTiles 0, (s.tile k).prot = .disabled)) := by decide +kernel

/-- A state in which tile 0 retries with tile 1 as its mate in group 0, which is enabled. -/
def paired (t0 t1 : Tile) : State :=
  { tiled .ready t0 [(0x020, 1), (0x021, 2)] with
    drive := { tiles := [(0, t0), (1, t1)], groups := [(0, { enabled := true, members := [obj clsDT 0, obj clsDT 1] })] } }

theorem witness_two_steps_and_windows :
    (∀ p ∈ [Prot.disabled, .enabling, .run, .twoStep, .latched],
      let s := placed inTimeouts (tiled .ready { prot := p, switches := [(2, { window := some (5, 1000) })] });
      s.inService clsDT 0 = true ∧ s.objHere (obj clsDT 0) = true ∧ At s inTimeouts ∧ ((s.tile 0).sw 2).window = some (5, 1000)
        ∧ 1000 ≤ s.tempo ∧ (s.tile 0).prot = p)
    ∧ (∀ x ∈ [(0, true, 0), (0x0803, true, 0), (0x0803, true, 3), (0x0804, false, 0)],
      let s := placed inTimeouts (tiled .ready { prot := .twoStep, lastCause := x.1, retry := x.2.1, tries := List.replicate x.2.2 999000000 } [(0x021, 2)]);
      At s inTimeouts ∧ s.inService clsDT 0 = true ∧ s.objHere (obj clsDT 0) = true ∧ (s.tile 0).prot = .twoStep
        ∧ (s.tile 0).twoStepAt + s.softT 0 / 20 + 1 ≤ periodOf s.tempo ∧ ((s.tile 0).recent s.tempo).length = x.2.2 ∧ s.dt 0 0x021 = 2)
    ∧ (∀ d ∈ [2 ^ 17, 2 ^ 15, 1 + 2 ^ 12], let s := placed inProtect (tiled .ready { prot := .run, slowWord := some (slowWord 1 d) });
      At s inProtect ∧ s.inService clsDT 0 = true ∧ s.objHere (obj clsDT 0) = true ∧ (s.tile 0).word 1 = some d
        ∧ (s.tile 0).prot ∈ [Prot.enabling, .run] ∧ (s.tile 0).shortAt = none)
    ∧ field (1 + 2 ^ 12) 12 2 ≠ 0 := by decide +kernel

theorem witness_retries :
    (∀ n ∈ [0, 2], let s := placed inTimeouts (paired { prot := .retryWait, spoilt := some 1000000000, sync := true, tries := List.replicate n 999000000 } {
        prot := .run });
      At s inTimeouts ∧ s.inService clsDT 0 = true ∧ s.objHere (obj clsDT 0) = true ∧ (s.tile 0).prot = .retryWait
        ∧ (s.tile 0).released = false ∧ s.waitPassed 0 = true ∧ s.nearRelease 0 = true ∧ (s.tile 0).spoilt = some s.tempo
        ∧ ((s.tile 0).recent s.tempo).length = n ∧ s.dt 0 0x021 = 2)
    ∧ (∀ x ∈ [(Prot.latched, 16), (.retryWait, 16), (.run, 5)],
      let s := placed inTimeouts (paired { prot := .retryWait, sync := true, cleanRun := x.2 } { prot := x.1, sync := true, cleanRun := 16 });
      At s inTimeouts ∧ s.inService clsDT 0 = true ∧ (s.tile 0).prot = .retryWait ∧ (s.tile 0).released = false
        ∧ (s.tile 0).spoilt ≠ some s.tempo ∧ s.waitPassed 0 = true ∧ 1 ∈ s.mates 0
        ∧ s.mayRelease 0 = decide (x.1 = .retryWait) ∧ (∀ j ∈ s.mates 0, (s.tile j).prot = x.1)
        ∧ (s.tile 0).faultAt + 2 * (s.dt 0 0x020 * 500000) ≤ s.tempo) := by decide +kernel

/-- The word of an up frame with its CRC. -/
def upWord (top : Nat) : BitVec 24 := BitVec.ofNat 24 (16 * top + crc4 (bitsMSB 20 top))

/-- A down frame at the start of a period not yet sent, in each state that drives the gates otherwise; and one that was sent. -/
theorem witness_pslDownFrame :
    (∀ p ∈ [Prot.run, .twoStep, .disabled],
      let s := placed inFrames (tiled .ready { prot := p, switches := [(0, { on := true })], twoStepAt := 49999975 });
      At s inFrames ∧ s.inService clsDT 0 = true ∧ s.running = true ∧ s.tempo % 20 = 0 ∧ (s.tile 0).lastPeriod ≠ some (periodOf s.tempo)
        ∧ (∀ i, i < 6 → ((s.tile 0).sw i).on = true → ((s.tile 0).sw (opposite i)).on = false)
        ∧ periodOf s.tempo = (s.tile 0).twoStepAt + s.softT 0 / 20)
    ∧ (let s := placed inFrames (tiled .ready { lastPeriod := some (periodOf 1000000000) });
      At s inFrames ∧ (s.tile 0).lastPeriod = some (periodOf s.tempo)) := by decide +kernel

/-- An up frame of a period not yet taken: with a wrong CRC, with a wrong echo, and with each of the flags. -/
theorem witness_pslUpFrame :
    (∀ p ∈ [Prot.disabled, .enabling, .run], ∀ l ∈ [none, some 49999999], ∀ st ∈ [false, true],
      let s := placed inCapture (tiled .ready { prot := p, badRun := 1, goodUv := 15, lastPeriod := l, up := { inStep := st } });
      At s inCapture ∧ s.inService clsDT 0 = true ∧ s.objHere (obj clsDT 0) = true ∧ s.running = true ∧ s.tempo % 20 = 0
        ∧ 3 ≤ periodOf s.tempo ∧ (s.tile 0).upAt ≠ some (periodOf s.tempo) ∧ (s.tile 0).up.inStep = st ∧ (s.tile 0).lastWord = none
        ∧ (s.tile 0).released = false ∧ (s.tile 0).diag = none ∧ (s.tile 0).badRun = 1)
    ∧ upCrcOk (1 : BitVec 24).toNat = false
    ∧ (∀ f ∈ [0, 1, 2, 4], upCrcOk (upWord (f * 2 ^ 9)).toNat = true ∧ field (upWord (f * 2 ^ 9)).toNat 22 2 = 0
      ∧ field (upWord (f * 2 ^ 9)).toNat 13 3 = f)
    ∧ (∀ e ∈ [0, 1], upCrcOk (upWord e).toNat = true ∧ field (upWord e).toNat 4 2 = e) := by decide +kernel

/-- A diagnostic run of tile 0 with steps; its first CMD went out in period `n`. -/
def diagnosing (steps : List DiagStep) (n : Nat) (t : Tile) : State :=
  tiled .standby { t with diag := some { reply := (up .standby).replyOf 0x0640 (msg (obj clsDT 0)), kind := 5, start := 5, steps := steps, sentAt := some n } }

theorem witness_slow_words :
    (∀ ty ∈ [6, 7], let s := tiled .ready { slowWord := some (slowWord ty 200) };
      s.inService clsDT 0 = true ∧ (s.tile 0).word ty = some 200)
    ∧ (∀ x ∈ [(15 + 3 * 16, 0), (15 + 4 * 16, 0), (15 + 4 * 16, 3)],
      let s := tiled .ready { slowWord := some (slowWord 2 x.1), cfgSent := [(15, 3)], cfgTries := x.2 };
      (s.tile 0).word 2 = some x.1 ∧ (s.tile 0).cfgSent.find? (fun e => e.1 == field x.1 0 4) = some (15, 3)
        ∧ decide (3 = field x.1 4 10) = decide (x.1 = 63))
    ∧ (∀ x ∈ [(100, none), (100, some 65000), (2 ^ 16 + 100, none)],
      let s := (tiled .ready { prot := .run, slowWord := some (slowWord 5 x.1), resAngle := x.2, resBad := 3 } [(0x000, 4)]).setTable 0x07 0 [4, 2];
      (s.tile 0).word 5 = some x.1 ∧ s.sensorOf 0 = 2 ∧ s.isMotor 0 = true ∧ (s.tile 0).prot ≠ .disabled ∧ s.objHere (obj clsDT 0) = true
        ∧ (s.tile 0).resAngle = x.2 ∧ decide (field x.1 16 4 = 0) = decide (x.1 = 100) ∧ (s.tile 0).resBad = 3) := by decide +kernel

theorem witness_diagnostics :
    (let m := msg (obj clsDT 0 + 3 * 2 ^ 32); let s := taking 0x0640 m (tiled .standby { configured := true } [(0x000, 4)]);
      m.argN 12 1 = 3 ∧ Takes 0x0640 m 0 0xffffff0000000000 s ∧ s.md.mode = .standby ∧ Names (m.argN 8 4) [clsDT] s ∧ s.tMode 0 ∉ [5, 6, 7]
        ∧ (s.tile 0).prot = .disabled ∧ (s.tile 0).configured = true ∧ (s.tile 0).diag = none)
    ∧ (∀ rest ∈ [[], [DiagStep.ground 0]], ∀ w ∈ [0, 64],
      let s := diagnosing (.bus 1 :: rest) 100 { slowWord := some (slowWord 3 w) };
      ∀ d ∈ (s.tile 0).diag, d.steps = .bus 1 :: rest ∧ d.sentAt = some 100 ∧ s.objHere (obj clsDT 0) = true ∧ s.inService clsDT 0 = true
        ∧ (s.tile 0).word 3 = some w ∧ bit w 6 = decide (w = 64) ∧ 20 * 100 + 250000 ≤ s.tempo
        ∧ (s.ring d.reply.ring).en = true ∧ (s.ring d.reply.ring).epoch = d.reply.epoch)
    ∧ (∀ st ∈ [DiagStep.bus 1, .comparator 2], let s := placed inTimeouts (diagnosing [st] 100 {});
      At s inTimeouts ∧ s.objHere (obj clsDT 0) = true ∧ s.inService clsDT 0 = true ∧ 20 * 100 + 250000 ≤ s.tempo)
    ∧ ((diagnosing [.bus 1] 100 {}).tile 0).diag.isSome = true ∧ ((diagnosing [.comparator 2] 100 {}).tile 0).diag.isSome = true
    ∧ 100 + 52 < periodOf (diagnosing [.comparator 2] 100 {}).tempo ∧ (∀ y, DiagStep.bus 1 ≠ .comparator y) := by
  refine ⟨by decide +kernel, by decide +kernel, by decide +kernel, by decide +kernel, by decide +kernel, by decide +kernel, fun _ h => nomatch h⟩

/-- A MOVE's payload: its flag bytes, speeds and accelerations, and its target. -/
def moveTo (kind deferred : Nat) (target : Int) : Bytes :=
  toLE 1 kind ++ toLE 1 deferred ++ toLE 2 0 ++ (List.replicate 8 (toLE 4 10)).flatten ++ toLE 4 0 ++ toLE 8 (i64 target)

/-- Tile 0 is a STEP tile in RUN with a speed limit, and its axis is as given. -/
def axised (a : AxisSt) (mode : Nat := 1) (g : Gear := {}) : State :=
  ({ tiled .ready { prot := .run } [(0x000, mode)] with
      clk := { gears := [(obj clsDT 0, g)], encs := [(0, { pos := 5 })] }
      drive := { tiles := [(0, { prot := .run })], axes := [(obj clsDT 0, a)] } }).setTable 0x07 0
    ([BitVec.ofNat 8 mode, 0] ++ zeros 46 ++ toLE 4 1000)

theorem witness_move :
    ∀ a ∈ [({} : AxisSt), { v := 5, state := .moving }, { v := 2 ^ 40, dir := -1, state := .moving }], ∀ d ∈ [0, 1],
      let m := msg (obj clsDT 0) (moveTo 0 d 100000); let s := taking 0x0610 m (axised a); let mv := profileOf m (s.axis (obj clsDT 0)).x;
      Takes 0x0610 m 48 0xffffffff00000000 s ∧ Names (m.argN 8 4) [clsDT, clsGRP] s ∧ (s.parent (obj clsDT 0) = none
        ∧ (s.span (obj clsDT 0)).any s.participates = false) ∧ s.anyFault (obj clsDT 0) = false
        ∧ (m.pay 1 1 = d ∧ m.pay 3 1 = 0 ∧ m.pay 36 4 = 0 ∧ m.pay 0 1 ≤ 2 ∧ m.pay 2 1 ≤ 1)
        ∧ mv.vel = false ∧ mv.vStart ≤ mv.vKnee ∧ mv.vKnee ≤ mv.vMax ∧ mv.vMax ≤ s.vLimit (s.leadOf (obj clsDT 0)) ∧ mv.vStop ≤ mv.vKnee
        ∧ (1 ≤ mv.a1 ∧ 1 ≤ mv.a2 ∧ 1 ≤ mv.d2 ∧ 1 ≤ mv.d1) ∧ s.axisOn (obj clsDT 0) = true ∧ s.tMode (s.leadOf (obj clsDT 0)) ≠ 3
        ∧ (s.axis (obj clsDT 0)).state ∉ [Prof.geared, .held] := by decide +kernel

theorem witness_stop_and_gear :
    (∀ st ∈ [Prof.moving, .deferred, .geared, .idle], let m := msg (obj clsDT 0); let s := taking 0x0611 m (axised { state := st });
      Takes 0x0611 m 0 0xffffffff00000000 s ∧ Names (m.argN 8 4) [clsDT, clsGRP] s ∧ s.tMode (s.leadOf (obj clsDT 0)) ≠ 3
        ∧ s.md.mode ∈ [Mode.warmUp, .ready, .print, .runOut, .safeHold] ∧ (s.axis (obj clsDT 0)).state = st)
    ∧ (let s := axised {} 3; s.tMode (s.leadOf (obj clsDT 0)) = 3)
    ∧ (∀ x ∈ [(0, (1 : Nat)), (1, 3)], let m := msg (obj clsDT 0) (toLE 1 x.1 ++ toLE 3 0 ++ toLE 4 0 ++ toLE 4 x.2 ++ toLE 4 0 ++ toLE 8 7);
      let s := taking 0x0620 m (axised {} 1 { master := 1, n := 1, d := 1 });
      Takes 0x0620 m 24 0xffffffff00000000 s ∧ m.pay 1 3 = 0 ∧ m.pay 12 4 = 0 ∧ Names (m.argN 8 4) [clsDT, clsGRP, clsSTN] s
        ∧ m.pay 0 1 = x.1 ∧ m.pay 8 4 = x.2 ∧ sext 32 (m.pay 4 4) = 0 ∧ (s.gear (obj clsDT 0)).master ≠ 0 ∧ (s.enc (1 - 1)).pos < 7
        ∧ sext 64 (m.pay 16 8) = 7) := by decide +kernel

/-- A POLY tile of station 0, in RUN, with its polygon in a stage. -/
def poly0 (p : PolySt) (st : Station := {}) : State :=
  let s := axised {} 3
  ({ s with video := { stations := [(0, st)] }, drive := { s.drive with polys := [(0, p)] } }).setParam (addr clsSTN 0 0x011) 0

/-- A start profile in which every field that must not be 0 is 1. -/
def startProfile : Bytes :=
  toLE 4 1 ++ toLE 2 1 ++ toLE 2 1 ++ toLE 4 1 ++ toLE 4 1 ++ toLE 4 1 ++ toLE 4 1 ++ toLE 4 0 ++ toLE 4 1 ++ toLE 4 1 ++ toLE 4 0
    ++ toLE 2 1 ++ toLE 2 1 ++ toLE 4 0

theorem witness_poly_start :
    let m := msg (obj clsDT 0) startProfile; let s := taking 0x0630 m (poly0 {})
    Takes 0x0630 m 48 0xffffffff00000000 s ∧ m.pay 44 4 = 0 ∧ Names (m.argN 8 4) [clsDT] s ∧ s.md.mode ∈ [Mode.warmUp, .ready]
      ∧ s.parent (obj clsDT 0) = none ∧ s.participates (obj clsDT 0) = false ∧ s.faultOn (obj clsDT 0) = false
      ∧ (∀ e ∈ [(0, 4), (4, 2), (6, 2), (8, 4), (12, 4), (16, 4), (20, 4), (28, 4), (32, 4), (40, 2), (42, 2)], m.pay e.1 e.2 ≠ 0)
      ∧ m.pay 24 4 ≤ s.vLimit 0 ∧ (s.tile 0).prot = .run ∧ s.tMode 0 = 3 ∧ (s.poly 0).stage = .off ∧ s.polyStation 0 = some 0
      ∧ up32 (m.pay 36 4) ≤ (if m.pay 24 4 = 0 then s.vNom 0 else up32 (m.pay 24 4)) := by decide +kernel

theorem witness_profile_tick :
    ∀ st ∈ [Prof.idle, .moving, .stopping, .geared, .held], ∀ h ∈ [Prof.idle, .geared],
      let s := placed inDirect (axised { state := st, heldFrom := h, v := 5, nextTick := 1000000000 - 2048, mv := { vMax := 10, target := 100000 } } 4);
      At s inDirect ∧ aCls (obj clsDT 0) ∈ [clsDT, clsGRP] ∧ s.objHere (obj clsDT 0) = true ∧ s.axisOn (obj clsDT 0) = true
        ∧ s.parent (obj clsDT 0) = none ∧ s.running = true ∧ (s.axis (obj clsDT 0)).nextTick ≤ s.tempo
        ∧ (s.tempo - (s.axis (obj clsDT 0)).nextTick) % 1024 = 0 ∧ s.sensorOf (s.leadOf (obj clsDT 0)) = 0
        ∧ (∀ k ∈ s.axisTiles (obj clsDT 0), s.sensorOf k = 0 ∧ s.tMode k ≠ 1) ∧ s.axisBus (obj clsDT 0) 1 = false
        ∧ (s.axis (obj clsDT 0)).state = st ∧ (s.axis (obj clsDT 0)).heldFrom = h ∧ (s.axis (obj clsDT 0)).regear = false
        ∧ (5 : Int) ≤ up32 (s.axis (obj clsDT 0)).mv.vMax := by decide +kernel

theorem witness_profile_ends :
    (let s := (tiled .ready { aligning := some 5 } [(0x000, 2)]).setTable 0x07 0 (zeros 6 ++ [1]);
      s.objHere (obj clsDT 0) = true ∧ (s.tile 0).aligning = some 5 ∧ 5 + 100000000 ≤ s.tempo ∧ s.tMode 0 = 2 ∧ bit (s.fb 0 6 1) 0 = true)
    ∧ (let s := poly0 { stage := .align, start := startProfile }; s.objHere (obj clsDT 0) = true ∧ (s.poly 0).stage = .align
      ∧ (s.poly 0).entered + ((s.poly 0).field 4 2 + (s.poly 0).field 6 2) * 500000 ≤ s.tempo)
    ∧ (let s := placed inTimeouts (poly0 { stage := .blind, start := startProfile }); At s inTimeouts ∧ (s.poly 0).stage = .blind
      ∧ (s.poly 0).entered + (s.poly 0).field 40 2 * 500000 ≤ s.tempo)
    ∧ (let s := placed inTimeouts (poly0 { stage := .observer, rampEnd := some 7 }); At s inTimeouts ∧ (s.poly 0).stage = .observer
      ∧ (s.poly 0).rampEnd = some 7 ∧ (s.poly 0).syncFail = false ∧ 7 + (s.poly 0).field 42 2 * 500000 ≤ s.tempo
      ∧ s.polyStation 0 = some 0 ∧ s.stnLocked 0 = false)
    ∧ (∀ st, let s := (poly0 { stage := .catch, stopping := st }).setTable 0x07 0 ([3, 0] ++ zeros 98 ++ toLE 4 50);
      (s.poly 0).stage = .catch ∧ (s.poly 0).stopping = st ∧ 0 < s.fb 0 100 4
        ∧ (s.poly 0).entered + s.fb 0 88 4 * 500 + s.fb 0 96 4 * 500 + ceilDiv (s.fb 0 92 4) 2 ≤ s.tempo) := by decide +kernel

theorem witness_runout_programs :
    ∀ x ∈ [(0, Prof.idle, Poly.off), (1, .idle, .off), (1, .moving, .off), (3, .idle, .off), (3, .idle, .sync)],
      let s := placed inTimeouts { tiled .runOut { runout := some 7 } [(0x000, x.1)] with drive := {
          tiles := [(0, { runout := some 7 })], axes := [(obj clsDT 0, { state := x.2.1 })], polys := [(0, { stage := x.2.2 })] } };
      At s inTimeouts ∧ s.leadOf (obj clsDT 0) = 0 ∧ aCls (obj clsDT 0) ∈ [clsDT, clsGRP] ∧ s.objHere (obj clsDT 0) = true
        ∧ (s.tile 0).runout = some 7 ∧ 7 + s.dt 0 0x003 * 500000 ≤ s.tempo ∧ s.tMode 0 = x.1 ∧ (s.axis (obj clsDT 0)).state = x.2.1
        ∧ (s.poly 0).stage = x.2.2 := by
  decide +kernel

/-- A device at a sample tempo of tile 0, which is in RUN in a mode and has the loop table `tbl`. -/
def sampling (mode : Nat) (tbl : Bytes) (d : Drive) : State :=
  ((({ trained .ready with tempo := 1000000068, drive := d }).setParam (addr clsDT 0 0x000) mode).setParam (addr clsLE 0 0x001) 50).setTable 0x07 0 tbl

/-- Tile 0 in RUN. -/
def runTile : Tile := { prot := .run, outOn := true }

theorem witness_samples :
    (∀ x ∈ [(4, Prof.idle), (4, .held)], let s := placed inEvents (sampling x.1 [4, 0] { tiles := [(0, runTile)], axes := [(obj clsDT 0, { state := x.2 })] });
      At s inEvents ∧ (s.sampleNo 0).isSome = true ∧ s.inService clsDT 0 = true ∧ s.objHere (obj clsDT 0) = true ∧ (s.tile 0).prot ≠ .disabled ∧ s.running = true
        ∧ s.isMotor 0 = true ∧ s.loopsHeld 0 = (x.2 == .held) ∧ s.sensorOf 0 = 0 ∧ s.axisOf 0 = obj clsDT 0 ∧ (s.tile 0).aligning = none
        ∧ s.objHere objDEV = true)
    ∧ (∀ h ∈ [({ scanning := true, point := 3, hold := 2 } : Heat), { scanning := true, point := 3, hold := 4 }, { scanned := true, pRef := 5, roundDone := false }, { scanned := true, roundDone := false }],
      let s := placed inEvents (sampling 5 (zeros 12 ++ toLE 4 100) { tiles := [(0, runTile)], heats := [(0, h)] });
      At s inEvents ∧ s.tMode 0 = 5 ∧ s.loopsHeld 0 = false ∧ (s.tile 0).outOn = true ∧ ((s.tile 0).chan 0).big ≤ s.fb 0 36 4 ∧ s.heat 0 = h ∧ (s.heat 0).roundDone = false
        ∧ s.fFloor 0 ≤ (s.fMax 0 : Int) * 65536)
    ∧ (∀ n ∈ [0, 2], let s := placed inEvents (sampling 6 (zeros 64 ++ [1, 0] ++ zeros 22 ++ [2, 0, 1, 9]) { tiles := [(0, runTile)], legs := [(0, { on := true, mPrev := some 5, arcs := List.replicate n 1000000000 })] });
      At s inEvents ∧ s.tMode 0 = 6 ∧ s.loopsHeld 0 = false ∧ s.legF 0 0 0 1 = 1 ∧ s.legLive 0 0 = true ∧ (s.legF 0 0 24 2 : Int) < s.arcStep 0 0
        ∧ decide ((s.tempo :: (s.leg 0).arcs.filter (fun x => decide (s.tempo < x + 500000000))).length ≤ s.legF 0 0 26 1) = decide (n = 0)) := by
  decide +kernel

/-- A HEAT table with one zone, read by SPI controller 1, which is used. -/
def zone1 : Bytes := [5, 1] ++ zeros 42 ++ [1, 0, 0, 0] ++ zeros 16 ++ [1] ++ zeros 23 ++ toLE 4 400000

/-- Controller 1 reads the zone of tile 0 for round 5; the tile's own round, the value every read has and the limit are as given. -/
def reading (round : Tempo) (value limit : Int) : State :=
  let s := sampling 5 (zone1.take 80 ++ toLE 4 (i64 value) ++ toLE 4 0 ++ toLE 4 (i64 limit)) {
    tiles := [(0, runTile)], heats := [(0, { out := [0], round := some round })] }
  { s with io := { s.io with spi := [(1, [.zone 0 0 5])] } }

theorem witness_heaters :
    (∀ b ∈ [0, 9, 64], let s := sampling 5 [] { tiles := [(0, runTile)], heats := [(0, { scanning := true, point := 65, bestPoint := b })] };
      s.tMode 0 = 5 ∧ (s.heat 0).scanning = true ∧ (s.heat 0).point = 65 ∧ s.loopsHeld 0 = false ∧ (s.heat 0).bestPoint = b)
    ∧ (∀ x ∈ [(([] : List Nat), 0), ([0], 0), ([0], 2)],
      let s := sampling 5 zone1 { tiles := [(0, runTile)], heats := [(0, { out := x.1, round := some 5, bad := if x.2 = 0 then [] else [(0, x.2)] })] };
      s.tMode 0 = 5 ∧ s.heatAlive 0 = true ∧ (s.heat 0).round = some 5 ∧ 5 + s.fb 0 40 4 * 500 ≤ s.tempo ∧ (s.heat 0).out = x.1
        ∧ Map.get (fun _ => 0) (s.heat 0).bad 0 = x.2 ∧ 0 < s.fb 0 44 4 ∧ (s.heat 0).reportAt + s.fb 0 44 4 * 500000 ≤ s.tempo
        ∧ 0 < s.zones 0 ∧ s.spiQueue (s.zone 0 0 0 1) = [])
    ∧ (let s := sampling 5 zone1 { tiles := [(0, runTile)] }; (s.heat 0).round = none ∧ s.zoneRead 0 0 = none)
    ∧ (∀ x ∈ [(5, (100 : Int)), (5, 300), (5, 500000), (6, 100)],
      let s := reading x.1 x.2 200; s.tMode 0 = 5 ∧ s.heatAlive 0 = true ∧ s.zoneRead 0 0 = some (1, 5) ∧ (0 : Nat) ∈ (s.heat 0).out
        ∧ (s.heat 0).round = some x.1 ∧ s.zoneValue 0 0 [] = x.2 ∧ s.zoneI 0 0 24 4 = 200)
    ∧ (let s := placed inEvents (sampling 5 [5, 0] { tiles := [(0, runTile)], heats := [(0, { okSince := some 5, scanned := true })] });
      At s inEvents ∧ (s.heat 0).okSince = some 5 ∧ (s.heat 0).inWindow = false ∧ s.heatIn 0 = true ∧ 5 + s.settleT 0 ≤ s.tempo)
    ∧ (let s := sampling 6 [6, 0] { tiles := [(0, runTile)], legs := [(0, { on := true, okSince := some 5, offUntil := some 7 })] };
      let e := placed inEvents s; let f := placed inTimeouts s;
      At e inEvents ∧ e.tMode 0 = 6 ∧ (e.leg 0).okSince = some 5 ∧ (e.leg 0).inWindow = false ∧ e.legIn 0 0 = true ∧ 5 + e.settleT 0 ≤ e.tempo
        ∧ At f inTimeouts ∧ f.tMode 0 = 6 ∧ (f.leg 0).offUntil = some 7 ∧ 7 ≤ f.tempo) := by decide +kernel

/-- A device whose rails 5 and 6 are used, 6 on 5, each with a settle time of 10 µs, a rise timeout and fall time of 20 µs. -/
def railed (mode : Mode) (r : Rails) (dep : Nat := 0) (cfg : Nat := 0) : State :=
  [(5, 0x001, 10), (5, 0x002, 20), (5, 0x003, 20), (5, 0x005, cfg), (6, 0x001, 10), (6, 0x002, 20), (6, 0x003, 20), (6, 0x000, dep)].foldl
    (fun s p => s.setParam (addr clsRAIL p.1 p.2.1) p.2.2) { trained mode with rails := r }

/-- Where the answer of a rail sequence goes. -/
def railReply : Reply := (trained .standby).replyOf 0x0800 (msg 1)

theorem witness_rail_commands :
    Takes 0x0801 (msg 0) 0 noArg (taking 0x0801 (msg 0) (trained .ready))
    ∧ (∀ n ∈ [0, 1], ∀ b, let s0 := railed .standby {}; let s := taking 0x0800 (msg n) { s0 with aon := { s0.aon with seqUpIn := b, seqDnIn := b } };
      Takes 0x0800 (msg n) 0 0xffffffffffffff00 s ∧ s.md.mode ∈ modesCfSb ∧ s.sequencing = false ∧ (msg n).argN 8 1 = n ∧ s.aon.seqUpIn = b ∧ s.aon.seqDnIn = b
        ∧ s.objHere objDEV = true ∧ s.rails.up = none ∧ s.usedRails = [5, 6]
        ∧ (∀ i ∈ s.usedRails, (s.rail i).kept = false ∧ s.objHere (obj clsRAIL i) = true ∧ (s.rail i).state = .off))
    ∧ (let s := placed inTimeouts (railed .standby { up := some railReply, upWait := some 7 }); At s inTimeouts ∧ s.rails.up.isSome = true ∧ s.rails.upWait.isSome = true ∧ 7 ≤ s.tempo)
    ∧ (let s := placed inTimeouts (railed .standby { downs := [{ cause := .sequence, scope := [5, 6], wait := some 7, reply := some railReply }] });
      At s inTimeouts ∧ s.usedRails = [5, 6] ∧ 7 ≤ s.tempo ∧ s.rails.up = none)
    ∧ (let s := placed inProtect (railed .standby {}); At s inProtect ∧ s.rails.upWait = none ∧ s.aon.pwrflt = [] ∧ s.running = true
      ∧ s.aon.pwrfltReported = false ∧ s.objHere objDEV = true ∧ s.par clsDEV 0 0x061 ≠ 2 ∧ (s.setParam (addr clsDEV 0 0x061) 2).par clsDEV 0 0x061 = 2) := by decide +kernel

theorem witness_rail_events :
    (let s := placed inTimeouts (railed .standby { up := some railReply, rails := [(5, { state := .rising, tempo := 999993000 }), (6, { state := .waiting })] } 32);
      At s inTimeouts ∧ s.railUsed 5 = true ∧ s.objHere (obj clsRAIL 5) = true ∧ (s.rail 5).state = .rising ∧ (s.rail 5).tempo + us (s.par clsRAIL 5 0x001) ≤ s.tempo
        ∧ s.tempo ≤ (s.rail 5).tempo + us (s.par clsRAIL 5 0x002) ∧ s.rails.up.isSome = true ∧ s.rails.upWait = none ∧ 5 ∈ s.deps 6
        ∧ s.par clsRAIL 6 0x004 = 0)
    ∧ (let s := placed inTimeouts (railed .standby { up := some railReply, rails := [(5, { state := .up }), (6, { state := .waiting })] } 32);
      At s inTimeouts ∧ s.mayRise 6 = true ∧ s.rails.up.isSome = true ∧ s.rails.upWait = none)
    ∧ (let s := placed inTimeouts (railed .standby { up := some railReply, rails := [(5, { state := .rising }), (6, { state := .waiting })] } 32);
      At s inTimeouts ∧ (s.rail 5).state = .rising ∧ (s.rail 5).tempo + us (s.par clsRAIL 5 0x002) ≤ s.tempo ∧ s.rails.downs = [] ∧ 6 ∈ s.allDependants 5)
    ∧ (∀ k, ∀ p ∈ [inEvents, inTimeouts], let s := placed p (railed .ready { rails := [(5, { state := .up, kept := k })] });
      At s p ∧ (s.rail 5).state = .up ∧ s.inDown 5 = false ∧ (s.rail 5).kept = k ∧ s.dependants 5 = [])
    ∧ (let s := railed .standby { rails := [(5, { state := .up })], downs := [{ cause := .sequence, scope := [5, 6], wait := none, reply := none }] };
      s.rails.runoutDown = false ∧ s.inDown 5 = true ∧ s.mayFall 5 = true)
    ∧ (let s := railed .safeHold { rails := [(5, { state := .up })], runoutDown := true };
      s.rails.runoutDown = true ∧ s.noRunout = true ∧ (s.rail 5).state = .up ∧ s.dependants 5 = []) := by decide +kernel

theorem witness_rail_falls :
    (∀ x ∈ [(0, 999995000), (2, 7), (1, 999875000)],
      let s := placed inTimeouts (railed .standby { rails := [(5, { state := .falling, tempo := x.2, polls := 1 })] } 0 x.1);
      At s inTimeouts ∧ s.railUsed 5 = true ∧ (s.rail 5).state = .falling ∧ s.railCfg 5 0 2 = x.1 ∧ (s.rail 5).asTime = false
        ∧ (x.1 = 0 → s.tempo ≤ (s.rail 5).tempo + us (s.par clsRAIL 5 0x003))
        ∧ (x.1 ≠ 0 → (s.rail 5).tempo + us (s.par clsRAIL 5 0x003) ≤ s.tempo)
        ∧ (x.1 = 1 → (s.rail 5).tempo + (s.rail 5).polls * 125000 ≤ s.tempo ∧ s.i2cFree (s.railCfg 5 14 2) = true
          ∧ ({ s with io := { s.io with i2c := [(s.railCfg 5 14 2, [{ reply := railReply, target := 0, mode := 0, tx := [], rxLen := 0, on := true }])] } } : State).i2cFree (s.railCfg 5 14 2) = false) ∧ s.aon.ledger.length + s.aon.ledgerQueue.length < 64)
    ∧ ({ railed .standby {} with aon := { wake := .down } } : State).aon.wake = .down := by decide +kernel

/-- A device whose always-on domain is as given. -/
def powered (mode : Mode) (a : Aon) : State := { trained mode with aon := a }

theorem witness_resets_and_wake :
    (∀ e : LedgerEntry, (powered .ready { ledgerQueue := [e] }).aon.ledgerQueue = e :: [])
    ∧ ((powered .ready { wake := .idle }).ownGood = true ∧ (powered .ready { wake := .idle }).aon.wake ≠ .down
      ∧ (powered .ready { wake := .idle }).md.mode ≠ .dormant)
    ∧ (∀ w ∈ [Wake.idle, .down], let s := powered .dormant { wake := w }; s.aon.standbyOn = true ∧ s.aon.resetLow = false
      ∧ s.md.mode = .dormant ∧ s.aon.wake = w)
    ∧ (powered .dormant { wake := .rl00 }).aon.wake = .rl00
    ∧ (let s := powered .dormant { wake := .rails, ownUp := [(0, true), (2, true), (3, true)] };
      s.aon.wake = .rails ∧ Map.get (fun _ => false) s.aon.ownUp 1 = false
        ∧ ∃ j, j < 5 ∧ j ≠ 1 ∧ Map.get (fun _ => false) s.aon.ownUp j = false)
    ∧ (let s := powered .dormant { wake := .rails, ownUp := [(0, true), (2, true), (3, true), (4, true)] };
      ∀ j, j < 5 → j ≠ 1 → Map.get (fun _ => false) s.aon.ownUp j = true)
    ∧ (let s : State := { powered .configure { wake := .spll, notes := [(0x0c04, 2, 0), (0x0c05, 7, 0)] } with running := false };
      s.aon.wake = .spll ∧ s.running = false ∧ s.aon.resetLow = false ∧ (0x0c04, 2, 0) ∈ s.aon.notes ∧ (0x0c05, 7, 0) ∈ s.aon.notes
        ∧ s.objHere objDEV = true ∧ s.objHere (obj clsRAIL 7) = true) := by
  refine ⟨fun _ => rfl, by decide +kernel, by decide +kernel, by decide +kernel,
    ⟨by decide +kernel, by decide +kernel, 4, by decide +kernel⟩, by decide +kernel, by decide +kernel⟩

theorem witness_own_rails_and_link :
    (let s := powered .print { wake := .idle }; s.md.mode ≠ .dormant ∧ s.running = true ∧ s.aon.wake ≠ .down ∧ s.objHere objDEV = true
      ∧ Map.get (fun _ => false) s.aon.ownUp 0 = true ∧ s.md.mode ∈ [Mode.warmUp, .ready, .print, .runOut])
    ∧ (let s := powered .standby { wake := .down, ownUp := [(0, true)] };
      s.aon.wake = .down ∧ ∀ i, 1 ≤ i → i < 5 → Map.get (fun _ => false) s.aon.ownUp i = false)
    ∧ (let s := powered .standby { wake := .down };
      s.aon.wake = .down ∧ Map.get (fun _ => false) s.aon.ownUp 1 = true ∧ s.aon.downAt + 5000000 ≤ s.tempo)
    ∧ (let s := { powered .dormant { keep := 64, watch := 64 } with rails := { rails := [(6, { state := .up })] } };
      s.md.mode = .dormant ∧ bit s.aon.keep 6 = true ∧ bit s.aon.watch 6 = true ∧ (s.rail 6).state = .up
        ∧ s.aon.ledger.length + s.aon.ledgerQueue.length < 64)
    ∧ ({ host := { training := true } } : State).host.training = true
    ∧ (trained .ready).md.leaving = none
    ∧ ({ (trained .standby).md with leaving := some railReply } : ModeSt).leaving ≠ none := by
  refine ⟨by decide +kernel, ⟨rfl, ?_⟩, by decide +kernel, by decide +kernel, rfl, by decide +kernel, by decide +kernel⟩
  intro i h1 h2
  have : i = 1 ∨ i = 2 ∨ i = 3 ∨ i = 4 := by omega
  rcases this with rfl | rfl | rfl | rfl <;> rfl

/-- A thermal guard in a state, with a step. -/
def guarded (state step : Nat) (sensors : Map Sensor := []) : State :=
  { trained .print with therm := { state := state, step := step, sensors := sensors } }

theorem witness_thermal_conversion :
    (∀ x ∈ [(0, 800), (1, 700), (2, 824), (2, 920), (3, 1000)], let s := placed inProtect (guarded x.1 100); let rs := List.replicate 16 (x.2 : Int);
      At s inProtect ∧ s.converts = true ∧ s.objHere objDEV = true ∧ (∀ k, k < 16 → (s.sensor k).suspect = false)
        ∧ (∀ i, i < 16 → ∀ j, j < 16 → (rs.getD i 0 - rs.getD j 0).natAbs ≤ 96) ∧ (∀ k, k < 16 → rs.getD k 0 ≤ (x.2 : Int))
        ∧ rs.getD 3 0 = (x.2 : Int) ∧ s.therm.state = x.1 ∧ s.therm.stepAt = none ∧ s.therm.ratePend = false
        ∧ (∀ k, k < 16 → (s.sensor k).hist.length < 1024 ∧ (s.sensor k).rate ≤ (s.par clsDEV 0 0x070 : Int)))
    ∧ (let s := placed inProtect (guarded 0 100 [(0, { run := 3 })]); let rs : List Int := 400 :: List.replicate 15 200;
      At s inProtect ∧ s.converts = true ∧ s.objHere (obj clsTS 0) = true ∧ (s.sensor 0).suspect = false ∧ (s.sensor 0).run = 3 ∧ s.healthyNear 0 ≠ []
        ∧ (∀ n ∈ s.healthyNear 0, 96 < (rs.getD 0 0 - rs.getD n 0).natAbs)) := by decide +kernel

/-- 63 entries in the ledger, and one that waits. -/
def almostFull : State :=
  let e : LedgerEntry := { kind := 1, source := 0, mode := 0, temp := 0, tempo := 0, ok := true }
  powered .print { ledger := List.replicate 63 e, ledgerQueue := [e] }

theorem witness_ledger_and_margin :
    (almostFull.aon.ledger.length = 63 ∧ almostFull.aon.ledgerQueue.length = 1 ∧ almostFull.aon.ledgerFull = false
      ∧ almostFull.md.mode ≠ .dormant ∧ almostFull.objHere objDEV = true)
    ∧ (let s := taking 0x0810 (msg 0) (trained .standby); Takes 0x0810 (msg 0) 0 noArg s ∧ s.md.mode ∈ modesCfSb)
    ∧ (let s := taking 0x0811 (msg 0) (trained .standby);
      Takes 0x0811 (msg 0) 0 noArg s ∧ s.md.mode ∈ [Mode.standby, .warmUp] ∧ s.therm.plan = none)
    ∧ (∀ b ∈ [0, 1], let s := { ((trained .standby).setTable 0x09 0 [1, 0, b]).setParam (addr clsDEV 0 0x076) 1 with
          therm := { plan := some (if b = 0 then some railReply else none) } };
      s.therm.plan.isSome = true ∧ s.therm.due = none ∧ s.planFree = true ∧ s.objHere objDEV = true ∧ bit (s.par clsDEV 0 0x076) 0 = true
        ∧ bit (s.ageField 2 1) 0 = (b == 1) ∧ s.md.wdExpired = false ∧ s.md.pend = none)
    ∧ (let s0 := (trained .standby).setParam (addr clsDEV 0 0x076) 1;
      let s : State := { s0 with therm := { plan := some none }, io := { s0.io with i2c := [(0, [{
        reply := railReply, target := 0, mode := 0, tx := [], rxLen := 0, on := true }])] } };
      s.therm.plan = some none ∧ s.therm.due = none ∧ s.planFree = false)
    ∧ bit ((trained .standby).par clsDEV 0 0x076) 0 = false
    ∧ (VcoreAnswer.nack.written = false ∧ (VcoreAnswer.mode 0x60).written = false ∧ field 0x20 5 3 ≠ 0 ∧ field 0x1f 5 3 = 0)
    ∧ (let s := { trained .standby with md := { (trained .standby).md with pend := some { target := .warmUp, reply := none } }, therm := { plan := some none } };
      s.therm.plan = some none ∧ s.md.pend = some { target := .warmUp, reply := none } ∧ s.md.wdExpired = false) := by decide +kernel

/-! ### Ill-formed commands: one for each check of `Instr.wf`, which refuses it -/

theorem test_wf_refuses :
    ∀ c ∈ [Instr.nop { msg 0 with ring := 16 }, .modeSet { msg 0 with flags := 4 }, .paramWrite (msg 0 (zeros 1009)),
      .paramWritePairApply 16, .ringInterrupt 16, .beamLinkFrame 32, .bcMon 32 [], .scrubDone 24, .mergeBufferDrain 24 0,
      .spiTransferDone 4 [], .dmaDoorbellRing 32 (.host 0), .dmaDoorbellRing 5 (.firmware [(0x3fff9, zeros 8)] 0),
      .dmaDoorbellRing 5 (.firmware [] 0x40000), .dmaDoorbellRing 5 (.firmware [] 16), .dmaDescriptorStart 32 .busError,
      .dmaDescriptorStart 0 (.bytes [0]), .dmaLookAgain 0 (.bytes (zeros 33)), .bar2Access true 0 8 [0], .ownRailSettled 5,
      .ownRailFault 0, .ownRailFault 5, .dormantPgLost 32, .clockStart (.blpll 2), .clockStart (.vpll 8), .pllBandFound 5 0,
      .pllLockWindow 16 0 0] ++ [Instr.meIndexEdge ⟨8, 0⟩, .gpioEdgeCapture 32 true, .castleTrigger 64, .ticketResident 256,
      .headerCheck 256 0 0, .headerCheck 0 0 4, .dramTrainingDone (.ok 10) (.fail 0), .sharedResourceGrant (.dram 2) .none,
      .fetchReturn 32, .seekPulse 8, .slowTemp 64, .offokTimeout 64 0, .offokTimeout 0 6, .busStageFall 8, .profileTick 0x02000000,
      .profileTick 0x06040000, .runoutProgramExpire 0x06000001, .zoneReadDone 0 4 [], .hvArcOffExpire 0 3,
      .thermalConversion (List.replicate 15 0), .watchdogExpire (.silent 0), .watchdogExpire (.silent 1001),
      .exitCastle ⟨256, none⟩, .railRiseTimeout ⟨32, none⟩], c.wf = false := by decide +kernel

theorem test_wf_accepts :
    ∀ c ∈ [Instr.nop (msg 0), .paramWrite (msg 0 (zeros 1008)), .ringInterrupt 15, .beamLinkFrame 31, .scrubDone 23,
      .spiTransferDone 3 [], .dmaDoorbellRing 5 (.firmware [(0x3fff8, zeros 8)] 0x3ffe0), .dmaDescriptorStart 31 (.bytes (zeros 32)),
      .dmaLookAgain 0 .busError, .bar2Access true 0 2 [0, 0], .ownRailFault 4, .ilkOpen true false, .ilkOpen false false,
      .pllBandFound 15 0, .headerCheck 255 0 3, .dramTrainingDone (.ok 12) (.fail 0), .offokTimeout 63 5, .profileTick 0x0807f000,
      .runoutProgramExpire 0x0603f000, .thermalConversion (List.replicate 16 0), .watchdogExpire (.silent 1000), .watchdogExpire (.ue 0)],
      c.wf = true := by decide +kernel

/-! ### Single steps and functions against the manual's own examples -/

/-- The outcome is a next state that passes a check. -/
def ran (o : Host.Outcome State Fault Refusal) (p : State → Bool) : Bool :=
  match o with
  | .next t => p t
  | _ => false

/-- The CRC-32 of "123456789" (R188). -/
theorem test_crc32 : crc32 [0x31, 0x32, 0x33, 0x34, 0x35, 0x36, 0x37, 0x38, 0x39] = 0xcbf43926 := by decide +kernel

/-- Table 3-8: tile DT17 and beam ST3.B17 out of service. -/
def table3_8 : State := { trained .standby with removed := [(obj clsBEAM 113, true), (obj clsDT 17, true)] }

theorem test_capability_words :
    [0x110, 0x12c, 0x14c, 0x180, 0x18c, 0x190].map table3_8.readReg
      = [0x100, 0xffffffff, 0xfffdffff, 0x40, 0xfffdffff, 0xffffffff] := by decide +kernel

theorem test_capability_words_of_6192 :
    [0x180, 0x188].map ({ table3_8 with die := { variant := 2 } } : State).readReg = [0x30, 0xffff] := by decide +kernel

/-- Table 4-6: the PARAM_WRITE of two coefficients of DT12. -/
theorem test_param_write_of_table_4_6 :
    let m : Msg := { ring := 1, tag := 0x42, flags := 0, arg := 2
                     payload := toLE 4 0x0600c100 ++ toLE 4 0 ++ toLE 8 0x14000 ++ toLE 4 0x0600c101 ++ toLE 4 0 ++ toLE 8 0x1000 };
    ran (exec (.paramWrite m) (taking 0x0201 m (trained .print))) (fun t => decide ((t.ring 1).pairs.map (fun p => p.pairs) = some [(0x0600c100, 0x14000), (0x0600c101, 0x1000)])) := by decide +kernel

theorem test_first_pair_of_table_4_7 :
    ran (exec (.paramWritePairApply 1) (placed inDirect ((trained .print).setRing 1 { en := true, pairs := some {
        pairs := [(0x0600c100, 0x14000), (0x0600c101, 0x1000)] } }))) (fun t => decide (t.par clsDT 12 0x100 = 0x14000 ∧ t.par clsDT 12 0x101 = 0)) := by decide +kernel

/-- Station 3 geared to ME0 as in Table 6-8, at a position with a remainder. -/
def table6_8 (pos : Int) (n : Int) (d r : Nat) (pend : Option GearPend := none) : State :=
  clocked .print { encs := [(0, { started := true, pos := pos - 1 })]
                   gears := [(obj clsSTN 3, { master := 1, n := n, d := d, r := r, s := 1000, pend := pend })] } [(clsME, 0, 0x000, 1)]

/-- The slave's advance, remainder and ratio after one count up. -/
def oneUp (s : State) : Option (Int × Nat × Int × Nat) :=
  match exec (.meCountCapture 0 ⟨true, false⟩ (s.tempo - 3 - s.par clsME 0 0x002)) s with
  | .next t => some ((t.gear (obj clsSTN 3)).s - 1000, (t.gear (obj clsSTN 3)).r, (t.gear (obj clsSTN 3)).n, (t.gear (obj clsSTN 3)).d)
  | _ => none

theorem test_ratio_switch_of_table_6_8 :
    oneUp (table6_8 11000000 128 1 0 (some { master := 1, n := 1280000, d := 10001, p := 11000000 })) = some (128, 0, 1280000, 10001) := by
  decide +kernel

theorem test_gearing_of_table_6_8 :
    [(11000001, 0), (11000002, 9873), (11000078, 145), (11000079, 17)].map (fun x => oneUp (table6_8 x.1 1280000 10001 x.2))
      = [some (127, 9873, 1280000, 10001), some (128, 9745, 1280000, 10001), some (128, 17, 1280000, 10001),
        some (127, 9890, 1280000, 10001)] := by decide +kernel

/-- Table 8-5: the four lengths add to 8,454,144 bytes. -/
theorem test_header_of_table_8_5 :
    let h : Bytes := [0x53, 0xc7, 0x01, 0x02, 0x10, 0x08, 0x20, 0x00, 0x10, 0xe4, 0x1f, 0xc8, 0x6c, 0x20, 0x70, 0x51, 0x20, 0xb8, 0x5d, 0x20]
        ++ zeros 8;
    (List.range 4).map (hdrLen (h ++ zeros 4)) = [2090000, 2125000, 2118000, 2121144] ∧ boxBytes (h ++ zeros 4) = 8454176
      ∧ hdrForm (h ++ toLE 4 (crc32 h)) = 0 ∧ hdrForm (h ++ toLE 4 (crc32 h + 1)) = 3 := by decide +kernel

/-- Table 9-7: the line start of VL14. -/
def table9_7 : State :=
  [(clsSTN, 3, 0x003, 33024), (clsVL, 14, 0x001, 200), (clsSTN, 3, 0x064, 10)].foldl (fun s p => s.setParam (addr p.1 p.2.1 p.2.2.1) p.2.2.2)
    { trained .print with
        clk := { plls := [(11, { state := .locked, ratio := 32 * 2 ^ 32, edgeN := 0x3a00, edgeT := 1000000 * 2 ^ 38 })] }
        video := { stations := [(3, { enabled := true, decRatio := 32 * 2 ^ 32 })] } }

theorem test_line_start_of_table_9_7 :
    (table9_7.lineAt 14 (0x3a10 * 64 + 23)).edge = 0x3a13 ∧ (table9_7.lineAt 14 (0x3a10 * 64 + 23)).fine = 31
      ∧ (table9_7.lineAt 14 (0x3a10 * 64 + 23)).start = (table9_7.lineAt 14 (0x3a10 * 64 + 23)).frame
      ∧ ceilDiv (40 * 33024) 64 = 20640 := by decide +kernel

/-- Table 13-9: the loop terms of DT12's sample, in 2^-16 mV. -/
theorem test_current_loop_of_table_13_9 :
    mul16 0x14000 (201 * 65536) = 251 * 65536 + 16384 ∧ 3100 * 65536 + mul16 0x1000 (201 * 65536) = 3112 * 65536 + 36864
      ∧ perSpeed (12 * 65536) (2000000 * q32) = 24000 * 65536 := by decide +kernel

/-- Table 16-4: at 103 °C the step falls from 100 % to 90 %, with cause 1; at 115 °C the device trips. -/
theorem test_throttle_of_table_16_4 :
    ran (exec (.thermalConversion (List.replicate 16 824)) (placed inProtect (guarded 1 100))) (fun t => decide (t.therm.state = 2 ∧ t.therm.step = 90 ∧ t.host.backlog.any (fun e => e.code == 0x0d03 && e.fields == [100, 90, 1]) = true)) := by decide +kernel

theorem test_trip_of_table_16_4 :
    ran (exec (.thermalConversion (List.replicate 16 920)) (placed inProtect (guarded 2 30))) (fun t => decide (t.md.mode = .safeHold ∧ t.aon.ledgerQueue.map (fun e => (e.kind, e.mode, e.temp)) = [(1, 5, 115)])) := by decide +kernel

/-- Table 15-6 and step 1 of Table 15-7. -/
def table15_6 : State :=
  [(5, 0x001, 2000), (5, 0x002, 10000), (6, 0x001, 5000), (6, 0x002, 20000), (6, 0x000, 0x20), (6, 0x004, 500), (7, 0x001, 1000),
    (7, 0x002, 5000), (8, 0x001, 1000), (8, 0x002, 5000), (8, 0x000, 0x80), (9, 0x001, 2000), (9, 0x002, 10000), (9, 0x000, 0x100)].foldl
    (fun s p => s.setParam (addr clsRAIL p.1 p.2.1) p.2.2) { trained .standby with aon := { seqUpIn := true } }

theorem test_power_up_of_table_15_7 :
    ran (exec (.railSequenceUp (msg 1)) (taking 0x0800 (msg 1) table15_6)) (fun t => decide ([5, 6, 7, 8, 9].map (fun i => (t.rail i).state) = [.rising, .waiting, .rising, .waiting, .waiting])) := by decide +kernel

/-- Step 10 of Table 15-7: RL08 fails with its rise window, RL09 is BLOCKED, and the others are unaffected. -/
theorem test_failing_rail_of_table_15_7 :
    ran (exec (.railRiseTimeout ⟨8, none⟩) (placed inTimeouts { table15_6 with rails := { up := some railReply, rails :=
        [(5, { state := .up }), (6, { state := .rising, tempo := 998500000 }), (7, { state := .up }), (8, { state := .rising, tempo := 997500000 }), (9, { state := .waiting })] } })) (fun t => decide ([5, 6, 7, 8, 9].map (fun i => (t.rail i).state) = [.up, .rising, .up, .failed, .blocked]
      ∧ t.latched 0x0c01 (obj clsRAIL 8) = true ∧ t.host.backlog.any (fun e => e.code == 0x0c06 && e.fields == [obj clsRAIL 9, obj clsRAIL 8]) = true)) := by decide +kernel

/-- Table 2-8: the wake filter enables RL00; the lock of SPLL starts the tempo in Configure. -/
theorem test_cold_start_of_table_2_8 :
    (ran (exec .wakeFilterDone (powered .dormant { wake := .idle, ownUp := [] })) (fun t => decide (t.aon.wake = .rl00)))
    ∧ (ran (exec .wakeSpllLocked { powered .configure { wake := .spll } with running := false }) (fun t => decide (t.tempo = 0 ∧ t.running = true ∧ t.md.mode = .configure))) := by decide +kernel

/-- Reset: Configure, no firmware, interlock open (R42, R227), and an empty queue. -/
theorem test_reset :
    State.reset.md.mode = .configure ∧ State.reset.md.boot = .init ∧ State.reset.video.blanked = true ∧ State.reset.pending = []
      ∧ State.reset.tempo = 0 := by decide +kernel

/-- The front of the queue is what a step runs. -/
theorem test_step_takes_the_front :
    ran (step { trained .ready with pending := [.ilkOpen true false, .nop (msg 0)] }) (fun t => decide (t.pending = [.nop (msg 0)])) := by decide +kernel

/-- SHA-384 of "abc" (the example of FIPS 180-4). -/
theorem test_sha384 :
    sha384 [0x61, 0x62, 0x63]
      = 0xcb00753f45a35e8bb5a03d699ac65007272c32ab0eded1631a8b605a43ff5bed8086072ba1e7cc2358baeca134c825a7 := by decide +kernel

end Sys2Proof.Tests
end

section
/-!
Every command keeps a state kept (`Kept`: the queue and the die as they were, and the state sound): one lemma for each row of
`exec`, from the lemmas of Laws/KeptOps about the operations that the row is made of.
-/
namespace Sys2Proof.Machine
variable {q : List Instr} {d : Die} {s : State}

/-- An outcome that is a next state, and a kept one. -/
def NextKept (q : List Instr) (d : Die) (o : Host.Outcome State Fault Refusal) : Prop := ∃ t, o = .next t ∧ Kept q d t

theorem Kept.next {t : State} (h : Kept q d t) : NextKept q d (.next t) := ⟨t, rfl, h⟩

/-- Every message command: the frame keeps the state kept when the effect does. -/
theorem Kept.command {p op : Nat} {m : Msg} {refs : List Ref} {effect : Reply → State → State} (h : Kept q d s)
    (he : ∀ r u, Kept q d u → Kept q d (effect r u)) : NextKept q d (.next ((s.enter p).command op m refs effect)) :=
  (State.command_kept op m refs effect he (State.enter_kept p h)).next

/-- Every access of the host. -/
theorem Kept.access {f : State → State} (h : Kept q d s) (hf : ∀ u, Kept q d u → Kept q d (f u)) :
    NextKept q d (.next (s.access f)) :=
  (State.access_kept f hf h).next

/-- A slow word of a tile, and a packet of a back channel. -/
theorem Kept.word {k type : Nat} {act : State → Nat → State} (h : Kept q d s) (ha : ∀ u n, Kept q d u → Kept q d (act u n)) :
    NextKept q d (.next (s.onWord k type act)) :=
  (State.onWord_kept k type act ha h).next

/-- The tempo counter takes a new value of 64 bits. -/
theorem KeptF.setTempo {n : Tempo} (hn : n < 2 ^ 64) (h : Kept q d s) :
    KeptF q d s.pending s.die s.faults s.firstCode s.firstTempo s.host.backlog n s.mems :=
  ⟨h.queue, h.die, h.sound.oneRecord, h.sound.firstZero, h.sound.backlog, hn, h.sound.memory⟩

/-- An event leaves the backlog. -/
theorem KeptF.dropEvent {e : EvMsg} (h : Kept q d s) :
    KeptF q d s.pending s.die s.faults s.firstCode s.firstTempo (s.host.backlog.erase e) s.tempo s.mems :=
  ⟨h.queue, h.die, h.sound.oneRecord, h.sound.firstZero, Nat.le_trans List.length_erase_le h.sound.backlog, h.sound.tempo,
    h.sound.memory⟩

theorem State.scrubWord_kept (i w : Nat) (c : Scrubbed) (h : Kept q d s) : Kept q d (s.scrubWord i w c).1 := by
  unfold State.scrubWord
  repeat' first
    | with_reducible assumption | with_reducible apply State.writeWord_kept | with_reducible apply State.reportCe_kept
    | with_reducible apply State.reportUe_kept | with_reducible apply State.checkedWord_kept
    | with_reducible apply State.drainWord_kept | split | (with_reducible apply Kept.ofPair; with_reducible assumption)

theorem Kept.ite {c : Prop} [Decidable c] {t u : State} (ht : Kept q d t) (hu : Kept q d u) :
    Kept q d (if c then t else u) := by
  split
  · exact ht
  · exact hu

/-! ### Rows of Machine/Clock.lean -/

theorem execMeCountCapture_kept (me : Idx) (levels : Levels) (edge : Tempo) (h : Kept q d s) :
    NextKept q d (execMeCountCapture me levels edge s) := by
  refine Kept.next ?_
  repeat' first
    | with_reducible assumption | with_reducible apply State.enter_kept | with_reducible apply State.setEnc_kept
    | with_reducible apply State.meIllegal_kept | with_reducible apply State.meCount_kept | extract_lets x | split

theorem execMeIndexEdge_kept (e : IndexEdge) (h : Kept q d s) : NextKept q d (execMeIndexEdge e s) := by
  refine Kept.next ?_
  repeat' first
    | with_reducible assumption | with_reducible apply State.enter_kept | with_reducible apply State.setEnc_kept
    | with_reducible apply State.raise_kept | extract_lets x | split

theorem execTsyncFrameSend_kept (h : Kept q d s) : NextKept q d (execTsyncFrameSend s) := by
  refine Kept.next ?_
  repeat' first
    | with_reducible assumption | with_reducible apply State.emit_kept | split

theorem execTsyncFrameReceive_kept (edge : Tempo) (mk : Nat) (crc : Byte) (h : Kept q d s) :
    NextKept q d (execTsyncFrameReceive edge mk crc s) := by
  refine Kept.next ?_
  repeat' first
    | with_reducible assumption | with_reducible apply State.enter_kept | with_reducible apply State.raise_kept
    | (simp only [↓Kept.mk_eq]; with_reducible apply KeptF.of)
    | (simp only [↓Kept.mk_eq]; with_reducible apply KeptF.setTempo (Nat.mod_lt _ (by decide)))
    | split | (dsimp +zetaDelta only)

theorem execTsyncLost_kept (h : Kept q d s) : NextKept q d (execTsyncLost s) := by
  refine Kept.next ?_
  repeat' first
    | with_reducible assumption | with_reducible apply State.enter_kept | with_reducible apply State.raise_kept
    | (simp only [↓Kept.mk_eq]; with_reducible apply KeptF.of) | extract_lets x | split

/-! ### Rows of Machine/Heat.lean -/

theorem execCurrentSample_kept (tile : Idx) (ue : Option Nat) (h : Kept q d s) : NextKept q d (execCurrentSample tile ue s) := by
  refine Kept.next ?_
  repeat' first
    | with_reducible assumption | with_reducible apply State.enter_kept | with_reducible apply State.reportUe_kept
    | with_reducible apply State.coastAxis_kept | with_reducible apply State.motorSample_kept
    | with_reducible apply State.heatSample_kept | with_reducible apply State.hvSample_kept
    | with_reducible apply State.measure_kept | with_reducible apply State.supervise_kept | with_reducible apply State.tap_kept
    | (simp only [↓Kept.mk_eq]; with_reducible apply KeptF.of) | split | (dsimp +zetaDelta only)

theorem execResonanceScanDone_kept (tile : Idx) (h : Kept q d s) : NextKept q d (execResonanceScanDone tile s) := by
  refine Kept.next ?_
  repeat' first
    | with_reducible assumption | with_reducible apply State.setHeat_kept | with_reducible apply State.raise_kept
    | with_reducible apply State.age_kept | extract_lets x | split

theorem execZonePoll_kept (tile : Idx) (h : Kept q d s) : NextKept q d (execZonePoll tile s) := by
  refine Kept.next ?_
  repeat' first
    | with_reducible assumption | with_reducible apply State.badRead_kept | with_reducible apply State.updHeat_kept
    | with_reducible apply State.dropReads_kept | with_reducible apply State.spiPush_kept | with_reducible apply Kept.foldl
    | extract_lets x | split | intro _

theorem execZoneReadDone_kept (tile zone : Idx) (rx : Bytes) (h : Kept q d s) : NextKept q d (execZoneReadDone tile zone rx s) := by
  refine Kept.next ?_
  repeat' first
    | with_reducible assumption | with_reducible apply State.spiPop_kept | with_reducible apply State.zoneDone_kept | split

theorem execHeatWindowSettled_kept (tile : Idx) (h : Kept q d s) : NextKept q d (execHeatWindowSettled tile s) := by
  refine Kept.next ?_
  repeat' first
    | with_reducible assumption | with_reducible apply State.enter_kept | with_reducible apply State.setHeat_kept
    | with_reducible apply State.raise_kept | extract_lets x | split

theorem execHvWindowSettled_kept (tile leg : Idx) (h : Kept q d s) : NextKept q d (execHvWindowSettled tile leg s) := by
  refine Kept.next ?_
  repeat' first
    | with_reducible assumption | with_reducible apply State.enter_kept | with_reducible apply State.setLeg_kept
    | with_reducible apply State.raise_kept | extract_lets x | split

theorem execHvArcOffExpire_kept (tile leg : Idx) (h : Kept q d s) : NextKept q d (execHvArcOffExpire tile leg s) := by
  refine Kept.next ?_
  repeat' first
    | with_reducible assumption | with_reducible apply State.enter_kept | with_reducible apply State.setLeg_kept
    | extract_lets x | split

theorem execHeatHvStatusReport_kept (tile : Idx) (h : Kept q d s) : NextKept q d (execHeatHvStatusReport tile s) := by
  refine Kept.next ?_
  repeat' first
    | with_reducible assumption | with_reducible apply State.setHeat_kept | with_reducible apply State.raise_kept
    | extract_lets x | split

/-! ### Rows of Machine/PslRows.lean -/

theorem execTileEnable_kept (m : Msg) (h : Kept q d s) : NextKept q d (execTileEnable m s) := by
  refine Kept.next ?_
  repeat' first
    | with_reducible assumption | with_reducible apply State.enter_kept | with_reducible apply State.command_kept
    | with_reducible apply State.updGroup_kept | with_reducible apply State.enableTile_kept | with_reducible apply State.ok_kept
    | with_reducible apply Kept.foldl | split | intro _

theorem execTileDisable_kept (m : Msg) (h : Kept q d s) : NextKept q d (execTileDisable m s) :=
  h.command fun _ _ hu => State.ok_kept _ _ (State.disableObj_kept _ hu)

theorem execPslDownFrame_kept (tile : Idx) (h : Kept q d s) : NextKept q d (execPslDownFrame tile s) := by
  refine Kept.next ?_
  repeat' first
    | with_reducible assumption | with_reducible apply State.enter_kept | with_reducible apply State.offFrame_kept
    | with_reducible apply State.allOff_kept | with_reducible apply State.gateOrWaiting_kept
    | with_reducible apply State.runFrame_kept | with_reducible apply State.twoStepFrame_kept | extract_lets x | split

theorem execPslUpFrame_kept (tile : Idx) (w : BitVec 24) (h : Kept q d s) : NextKept q d (execPslUpFrame tile w s) := by
  refine Kept.next ?_
  extract_lets u c t x echo crc ok s0 sF s1 word s2
  have hu : Kept q d u := State.enter_kept _ h
  have h0 : Kept q d s0 := State.updTile_kept _ _ hu
  have hF : Kept q d sF := Kept.ite (State.frameIn_kept _ _ _ _ h0) h0
  have h1 : Kept q d s1 := Kept.ite (State.linkFault_kept _ _ hF) hF
  exact Kept.ite (State.refresh_kept _ (State.lateShort_kept _ (State.historyFrame_kept _ (State.resFrame_kept _
    (State.encFrame_kept _ _ _ (State.sincFrame_kept _ _ _ h1)))))) hu

theorem execSlowFault_kept (tile : Idx) (h : Kept q d s) : NextKept q d (execSlowFault tile s) := by
  refine Kept.next ?_
  repeat' first
    | with_reducible assumption | with_reducible apply State.enter_kept | with_reducible apply State.onWord_kept
    | with_reducible apply State.updTile_kept | with_reducible apply State.raiseLimited_kept
    | with_reducible apply State.linkFault_kept | with_reducible apply State.shortSeen_kept
    | with_reducible apply State.postShort_kept | with_reducible apply State.refresh_kept | split | intro _
    | (dsimp +zetaDelta only)

theorem execSlowCfgAck_kept (tile : Idx) (h : Kept q d s) : NextKept q d (execSlowCfgAck tile s) := by
  refine Kept.next ?_
  repeat' first
    | with_reducible assumption | with_reducible apply State.onWord_kept | with_reducible apply State.setTile_kept
    | with_reducible apply State.updTile_kept | with_reducible apply State.raiseLimited_kept
    | with_reducible apply State.startCfg_kept | extract_lets x | split | intro _

theorem execSlowResolver_kept (tile : Idx) (h : Kept q d s) : NextKept q d (execSlowResolver tile s) := by
  refine Kept.next ?_
  repeat' first
    | with_reducible assumption | with_reducible apply State.onWord_kept | with_reducible apply State.setTile_kept
    | with_reducible apply State.sensorFault_kept | extract_lets x | split | intro _

theorem execSlowTemp_kept (tile : Idx) (h : Kept q d s) : NextKept q d (execSlowTemp tile s) :=
  h.word fun _ _ hu => State.updTile_kept _ _ hu

theorem execSlowIdent_kept (tile : Idx) (h : Kept q d s) : NextKept q d (execSlowIdent tile s) :=
  h.word fun _ _ hu => State.updTile_kept _ _ hu

theorem execOffokTimeout_kept (tile sw : Idx) (h : Kept q d s) : NextKept q d (execOffokTimeout tile sw s) := by
  refine Kept.next ?_
  repeat' first
    | with_reducible assumption | with_reducible apply State.enter_kept | with_reducible apply State.updTile_kept
    | with_reducible apply State.raiseDt_kept | with_reducible apply State.turnOff_kept
    | with_reducible apply State.refresh_kept | extract_lets x | split

theorem execTwoStepDone_kept (tile : Idx) (h : Kept q d s) : NextKept q d (execTwoStepDone tile s) := by
  refine Kept.next ?_
  repeat' first
    | with_reducible assumption | with_reducible apply State.enter_kept | with_reducible apply State.afterTwoStep_kept
    | with_reducible apply State.refresh_kept | extract_lets x | split

theorem execRetryWaitExpire_kept (tile : Idx) (h : Kept q d s) : NextKept q d (execRetryWaitExpire tile s) := by
  refine Kept.next ?_
  repeat' first
    | with_reducible assumption | with_reducible apply State.enter_kept | with_reducible apply State.newFault_kept
    | with_reducible apply State.refresh_kept | with_reducible apply State.latchTile_kept
    | with_reducible apply State.release_kept | with_reducible apply Kept.foldl | extract_lets x | split

theorem execRetryFurtherWaitExpire_kept (tile : Idx) (h : Kept q d s) : NextKept q d (execRetryFurtherWaitExpire tile s) := by
  refine Kept.next ?_
  repeat' first
    | with_reducible assumption | with_reducible apply State.enter_kept | with_reducible apply State.latchTile_kept
    | with_reducible apply State.refresh_kept | extract_lets x | split

theorem execEnablingTimeout_kept (tile : Idx) (h : Kept q d s) : NextKept q d (execEnablingTimeout tile s) := by
  refine Kept.next ?_
  repeat' first
    | with_reducible assumption | with_reducible apply State.enter_kept | with_reducible apply State.latchTile_kept
    | with_reducible apply State.raiseDt_kept | with_reducible apply State.refresh_kept | extract_lets x | split

theorem execDiagRun_kept (m : Msg) (h : Kept q d s) : NextKept q d (execDiagRun m s) :=
  h.command fun _ _ hu => State.diagNext_kept _ _ (State.hold_kept _ _ hu)

theorem execSlowDiag_kept (tile : Idx) (h : Kept q d s) : NextKept q d (execSlowDiag tile s) := by
  refine Kept.next ?_
  repeat' first
    | with_reducible assumption | with_reducible apply State.onWord_kept | with_reducible apply State.diagFallback_kept
    | with_reducible apply State.stopCurrents_kept | with_reducible apply State.diagNext_kept | split | intro _

theorem execDiagStepTimeout_kept (tile : Idx) (h : Kept q d s) : NextKept q d (execDiagStepTimeout tile s) := by
  refine Kept.next ?_
  repeat' first
    | with_reducible assumption | with_reducible apply State.enter_kept | with_reducible apply State.diagFallback_kept
    | extract_lets x | split

theorem execSelftestWindowEnd_kept (tile : Idx) (h : Kept q d s) : NextKept q d (execSelftestWindowEnd tile s) := by
  refine Kept.next ?_
  repeat' first
    | with_reducible assumption | with_reducible apply State.enter_kept | with_reducible apply State.diagNext_kept
    | extract_lets x | split

theorem execBusVoltageUpdate_kept (tile : Idx) (h : Kept q d s) : NextKept q d (execBusVoltageUpdate tile s) := by
  refine Kept.next ?_
  repeat' first
    | with_reducible assumption | with_reducible apply State.enter_kept | with_reducible apply State.updBus_kept
    | with_reducible apply State.chopper_kept | with_reducible apply State.busEnter_kept
    | with_reducible apply State.refresh_kept | extract_lets x | split

theorem execBusStageFall_kept (bus : Idx) (h : Kept q d s) : NextKept q d (execBusStageFall bus s) := by
  refine Kept.next ?_
  repeat' first
    | with_reducible assumption | with_reducible apply State.enter_kept | with_reducible apply State.setBus_kept
    | with_reducible apply State.refresh_kept | with_reducible apply State.overshoot_kept
    | with_reducible apply State.raise_kept | with_reducible apply Kept.foldl | extract_lets x | split

/-! ### Rows of Machine/Pll.lean -/

theorem execClockStart_kept (unit : ClockUnit) (h : Kept q d s) : NextKept q d (execClockStart unit s) := by
  refine Kept.next ?_
  repeat' first
    | with_reducible assumption | with_reducible apply State.startPll_kept | split

theorem execPllBandFound_kept (pll band : Nat) (h : Kept q d s) : NextKept q d (execPllBandFound pll band s) := by
  refine Kept.next ?_
  repeat' first
    | with_reducible assumption | with_reducible apply State.pllSubst_kept | with_reducible apply State.fresh_kept
    | with_reducible apply State.updPll_kept | with_reducible apply State.pllAcquire_kept | split

theorem execPllLockWindow_kept (pll count expected : Nat) (h : Kept q d s) :
    NextKept q d (execPllLockWindow pll count expected s) := by
  refine Kept.next ?_
  repeat' first
    | with_reducible assumption | with_reducible apply State.pllWindow_kept | with_reducible apply State.setPll_kept
    | with_reducible apply State.raise_kept | with_reducible apply State.pllSearch_kept
    | with_reducible apply State.pllAcquire_kept | extract_lets x | split

theorem execPllRefLost_kept (pll : Nat) (h : Kept q d s) : NextKept q d (execPllRefLost pll s) := by
  refine Kept.next ?_
  repeat' first
    | with_reducible assumption | with_reducible apply State.enter_kept | with_reducible apply State.pllCoast_kept
    | with_reducible apply State.updPll_kept | with_reducible apply State.latchNew_kept | extract_lets x | split

theorem execPllTempCorrection_kept (pll : Nat) (h : Kept q d s) : NextKept q d (execPllTempCorrection pll s) := by
  refine Kept.next ?_
  repeat' first
    | with_reducible assumption | with_reducible apply State.updPll_kept | with_reducible apply State.pllSubst_kept
    | with_reducible apply State.setPll_kept | with_reducible apply State.fresh_kept
    | (simp only [↓Kept.mk_eq]; with_reducible apply KeptF.of) | split | (dsimp +zetaDelta only)

/-! ### Rows of Machine/Scan.lean -/

theorem execBdEdgeCapture_kept (st : Idx) (edge : BdEdge) (h : Kept q d s) : NextKept q d (execBdEdgeCapture st edge s) := by
  refine Kept.next ?_
  repeat' first
    | with_reducible assumption | with_reducible apply State.enter_kept | with_reducible apply State.updStation_kept
    | with_reducible apply State.acceptEdge_kept | with_reducible apply State.strayEdge_kept | extract_lets x | split

theorem execBdWindowMiss_kept (st : Idx) (h : Kept q d s) : NextKept q d (execBdWindowMiss st s) := by
  refine Kept.next ?_
  repeat' first
    | with_reducible assumption | with_reducible apply State.enter_kept | with_reducible apply State.setStation_kept
    | with_reducible apply State.syncTo_kept | with_reducible apply State.updStation_kept
    | with_reducible apply State.decideFacet_kept | with_reducible apply State.polyMiss_kept | split | (dsimp +zetaDelta only)

theorem execFacetIndexEdge_kept (st : Idx) (h : Kept q d s) : NextKept q d (execFacetIndexEdge st s) := by
  refine Kept.next ?_
  repeat' first
    | with_reducible assumption | with_reducible apply State.enter_kept | with_reducible apply State.setStation_kept
    | with_reducible apply State.syncTo_kept | with_reducible apply State.raise_kept | extract_lets x | split

theorem execGpioEdgeCapture_kept (pin : Idx) (level : Bool) (h : Kept q d s) : NextKept q d (execGpioEdgeCapture pin level s) := by
  refine Kept.next ?_
  repeat' first
    | with_reducible assumption | with_reducible apply State.enter_kept | with_reducible apply State.setGpio_kept
    | with_reducible apply State.updStation_kept | with_reducible apply Kept.foldl | extract_lets x | split | intro _

theorem execSlowIndex_kept (tile : Idx) (h : Kept q d s) : NextKept q d (execSlowIndex tile s) := by
  refine Kept.next ?_
  repeat' first
    | with_reducible assumption | with_reducible apply State.onWord_kept | with_reducible apply State.setTile_kept
    | with_reducible apply State.raise_kept | with_reducible apply State.updStation_kept | extract_lets x | split | intro _

theorem execSeekPulse_kept (st : Idx) (h : Kept q d s) : NextKept q d (execSeekPulse st s) := by
  refine Kept.next ?_
  repeat' first
    | with_reducible assumption | with_reducible apply State.setStation_kept | with_reducible apply State.sendBlock_kept
    | extract_lets x | split

theorem execFacetBoundary_kept (st edge : Nat) (time : Tempo) (h : Kept q d s) :
    NextKept q d (execFacetBoundary st edge time s) := by
  refine Kept.next ?_
  repeat' first
    | with_reducible assumption | with_reducible apply State.enter_kept | with_reducible apply State.setRatio_kept
    | with_reducible apply State.updPll_kept | with_reducible apply State.setStation_kept
    | with_reducible apply State.updLink_kept | with_reducible apply State.bdPulse_kept
    | with_reducible apply State.monRequest_kept | with_reducible apply Kept.foldl | extract_lets x | split | intro _

theorem execStationEnable_kept (m : Msg) (h : Kept q d s) : NextKept q d (execStationEnable m s) := by
  refine Kept.next ?_
  repeat' first
    | with_reducible assumption | with_reducible apply State.enter_kept | with_reducible apply State.command_kept
    | with_reducible apply State.ok_kept | with_reducible apply State.setStation_kept | with_reducible apply State.updPll_kept
    | with_reducible apply State.raise_kept | with_reducible apply State.regChange_kept | split | intro _

theorem execStationDisable_kept (m : Msg) (h : Kept q d s) : NextKept q d (execStationDisable m s) :=
  h.command fun _ _ hu => State.ok_kept _ _ (State.disableStation_kept _ hu)

theorem execPromote_kept (m : Msg) (h : Kept q d s) : NextKept q d (execPromote m s) := by
  refine Kept.next ?_
  repeat' first
    | with_reducible assumption | with_reducible apply State.enter_kept | with_reducible apply State.command_kept
    | with_reducible apply State.raise_kept | with_reducible apply State.ok_kept
    | (simp only [↓Kept.mk_eq]; with_reducible apply KeptF.of) | intro _

/-! ### Rows of Machine/Beams.lean -/

theorem execMapperStart_kept (link : Idx) (ue : MapperUe) (h : Kept q d s) : NextKept q d (execMapperStart link ue s) := by
  refine Kept.next ?_
  repeat' first
    | with_reducible assumption | with_reducible apply State.enter_kept | with_reducible apply State.updStation_kept
    | with_reducible apply State.coastLink_kept | with_reducible apply State.updLink_kept
    | with_reducible apply State.blankLines_kept | with_reducible apply State.drawLine_kept
    | with_reducible apply State.sendLine_kept | split | (dsimp +zetaDelta only)

theorem execBeamLinkFrame_kept (link : Idx) (h : Kept q d s) : NextKept q d (execBeamLinkFrame link s) := by
  refine Kept.next ?_
  repeat' first
    | with_reducible assumption | with_reducible apply State.enter_kept | with_reducible apply State.pxRun_kept
    | with_reducible apply State.updLink_kept | with_reducible apply State.emit_kept | with_reducible apply State.slotZero_kept
    | extract_lets x | split | (with_reducible apply Kept.ofPair; with_reducible assumption)

theorem execLinkTrain_kept (m : Msg) (h : Kept q d s) : NextKept q d (execLinkTrain m s) :=
  h.command fun _ _ hu => State.hold_kept _ _ (State.updLink_kept _ _ hu)

theorem execLinkTrainDone_kept (link : Idx) (countEqual : Bool) (h : Kept q d s) :
    NextKept q d (execLinkTrainDone link countEqual s) := by
  refine Kept.next ?_
  repeat' first
    | with_reducible assumption | with_reducible apply State.stopPx_kept | with_reducible apply State.updLink_kept
    | with_reducible apply State.raise_kept | with_reducible apply State.ok_kept | extract_lets x | split

theorem execBcStatus_kept (link : Idx) (p : Bytes) (h : Kept q d s) : NextKept q d (execBcStatus link p s) := by
  refine Kept.next ?_
  repeat' first
    | with_reducible assumption | with_reducible apply State.enter_kept | with_reducible apply State.bcPacket_kept
    | with_reducible apply State.setLink_kept | with_reducible apply State.raise_kept | with_reducible apply State.linkDown_kept
    | with_reducible apply State.trainNext_kept | with_reducible apply State.mgmtRead_kept | split | intro _
    | (dsimp +zetaDelta only)

theorem execBcMon_kept (link : Idx) (p : Bytes) (h : Kept q d s) : NextKept q d (execBcMon link p s) := by
  refine Kept.next ?_
  repeat' first
    | with_reducible assumption | with_reducible apply State.enter_kept | with_reducible apply State.bcPacket_kept
    | with_reducible apply State.setBeam_kept | with_reducible apply State.age_kept | with_reducible apply State.raise_kept
    | split | intro _ | (dsimp +zetaDelta only)

theorem execBcLineLost_kept (link : Idx) (p : Bytes) (h : Kept q d s) : NextKept q d (execBcLineLost link p s) := by
  refine Kept.next ?_
  repeat' first
    | with_reducible assumption | with_reducible apply State.enter_kept | with_reducible apply State.bcPacket_kept
    | with_reducible apply State.setLink_kept | with_reducible apply State.raiseLimited_kept
    | with_reducible apply State.addBlank_kept | with_reducible apply State.spoil_kept | extract_lets x | split | intro _

theorem execBcMgmtRsp_kept (link : Idx) (p : Bytes) (h : Kept q d s) : NextKept q d (execBcMgmtRsp link p s) := by
  refine Kept.next ?_
  repeat' first
    | with_reducible assumption | with_reducible apply State.enter_kept | with_reducible apply State.bcPacket_kept
    | with_reducible apply State.updLink_kept | with_reducible apply State.trainNext_kept
    | with_reducible apply State.mgmtRead_kept | with_reducible apply State.updTrain_kept
    | with_reducible apply State.trainRead_kept | extract_lets x | split | intro _

theorem execBcEmitterFault_kept (link : Idx) (p : Bytes) (h : Kept q d s) : NextKept q d (execBcEmitterFault link p s) := by
  refine Kept.next ?_
  repeat' first
    | with_reducible assumption | with_reducible apply State.enter_kept | with_reducible apply State.bcPacket_kept
    | with_reducible apply State.raise_kept | with_reducible apply Kept.foldl | intro _

theorem execBackchannelLost_kept (link : Idx) (h : Kept q d s) : NextKept q d (execBackchannelLost link s) := by
  refine Kept.next ?_
  repeat' first
    | with_reducible assumption | with_reducible apply State.enter_kept | with_reducible apply State.linkDown_kept
    | extract_lets x | split

theorem execBeamMonitor_kept (m : Msg) (h : Kept q d s) : NextKept q d (execBeamMonitor m s) :=
  h.command fun _ _ hu => State.ok_kept _ _ hu

theorem execIlkOpen_kept (a b : Bool) (h : Kept q d s) : NextKept q d (execIlkOpen a b s) := by
  refine Kept.next ?_
  repeat' first
    | with_reducible assumption | with_reducible apply State.enter_kept | with_reducible apply State.signal_kept
    | with_reducible apply State.blankAll_kept | (simp only [↓Kept.mk_eq]; with_reducible apply KeptF.of) | split
    | (dsimp +zetaDelta only)

theorem execIlkRelease_kept (h : Kept q d s) : NextKept q d (execIlkRelease s) := by
  refine Kept.next ?_
  repeat' first
    | with_reducible assumption | with_reducible apply State.enter_kept | with_reducible apply State.relight_kept
    | with_reducible apply State.raise_kept | (simp only [↓Kept.mk_eq]; with_reducible apply KeptF.of) | split
    | (dsimp +zetaDelta only)

theorem execIlkDisagree_kept (h : Kept q d s) : NextKept q d (execIlkDisagree s) := by
  refine Kept.next ?_
  repeat' first
    | with_reducible assumption | with_reducible apply State.enter_kept | with_reducible apply State.raise_kept | extract_lets x
    | split

/-! ### Rows of Machine/MotionRows.lean -/

theorem execMove_kept (m : Msg) (h : Kept q d s) : NextKept q d (execMove m s) :=
  h.command fun _ _ hu => State.accepted_kept _ (State.updAxis_kept _ _ hu)

theorem execStop_kept (m : Msg) (h : Kept q d s) : NextKept q d (execStop m s) := by
  refine Kept.next ?_
  repeat' first
    | with_reducible assumption | with_reducible apply State.enter_kept | with_reducible apply State.command_kept
    | with_reducible apply State.stopObj_kept | with_reducible apply State.accepted_kept | with_reducible apply State.ok_kept
    | extract_lets x | split | intro _

theorem execGearSet_kept (m : Msg) (h : Kept q d s) : NextKept q d (execGearSet m s) :=
  h.command fun _ _ hu => State.accepted_kept _ (State.updGear_kept _ _ hu)

theorem execPolyStart_kept (m : Msg) (h : Kept q d s) : NextKept q d (execPolyStart m s) :=
  h.command fun _ _ hu => State.accepted_kept _ (State.polyTo_kept _ _ (State.setPoly_kept _ _ hu))

theorem execProfileTick_kept (ax : Nat) (h : Kept q d s) : NextKept q d (execProfileTick ax s) := by
  refine Kept.next ?_
  repeat' first
    | with_reducible assumption | with_reducible apply State.enter_kept | with_reducible apply State.updAxis_kept
    | with_reducible apply State.tickSensors_kept | with_reducible apply State.tickMoving_kept
    | with_reducible apply State.stepSaturation_kept | with_reducible apply State.followCheck_kept
    | with_reducible apply State.setAxis_kept | with_reducible apply State.comeToRest_kept
    | with_reducible apply State.tickGeared_kept | extract_lets x | split

theorem execSixstepAlignDone_kept (tile : Idx) (h : Kept q d s) : NextKept q d (execSixstepAlignDone tile s) := by
  refine Kept.next ?_
  repeat' first
    | with_reducible assumption | with_reducible apply State.updTile_kept | split

theorem execPolyAlignDone_kept (tile : Idx) (h : Kept q d s) : NextKept q d (execPolyAlignDone tile s) := by
  refine Kept.next ?_
  repeat' first
    | with_reducible assumption | with_reducible apply State.setPoly_kept | with_reducible apply State.polyTo_kept
    | extract_lets x | split

theorem execPolyBlindTimeout_kept (tile : Idx) (h : Kept q d s) : NextKept q d (execPolyBlindTimeout tile s) := by
  refine Kept.next ?_
  repeat' first
    | with_reducible assumption | with_reducible apply State.enter_kept | with_reducible apply State.polyTo_kept
    | with_reducible apply State.raise_kept | extract_lets x | split

theorem execPolySyncTimeout_kept (tile : Idx) (h : Kept q d s) : NextKept q d (execPolySyncTimeout tile s) := by
  refine Kept.next ?_
  repeat' first
    | with_reducible assumption | with_reducible apply State.enter_kept | with_reducible apply State.setPoly_kept
    | with_reducible apply State.raise_kept | extract_lets x | split

theorem execPolyCatchDone_kept (tile : Idx) (emf angle speed : Nat) (h : Kept q d s) :
    NextKept q d (execPolyCatchDone tile emf angle speed s) := by
  refine Kept.next ?_
  repeat' first
    | with_reducible assumption | with_reducible apply State.setPoly_kept | with_reducible apply State.polyTo_kept
    | with_reducible apply State.endRunout_kept | with_reducible apply State.raise_kept | split | (dsimp +zetaDelta only)

theorem execRunoutProgramExpire_kept (ax : Nat) (h : Kept q d s) : NextKept q d (execRunoutProgramExpire ax s) := by
  refine Kept.next ?_
  repeat' first
    | with_reducible assumption | with_reducible apply State.enter_kept | with_reducible apply State.endRunout_kept
    | with_reducible apply State.stopObj_kept | extract_lets x | split

/-! ### Rows of Machine/Sheets.lean -/

theorem execCastleStage_kept (m : Msg) (h : Kept q d s) : NextKept q d (execCastleStage m s) :=
  h.command fun _ _ hu => State.ok_kept _ _ (State.updCastle_kept _ _ hu)

theorem execCastleArm_kept (m : Msg) (h : Kept q d s) : NextKept q d (execCastleArm m s) :=
  h.command fun _ _ hu => State.ok_kept _ _ (State.updCastle_kept _ _ hu)

theorem execCastleDisarm_kept (m : Msg) (h : Kept q d s) : NextKept q d (execCastleDisarm m s) :=
  h.command fun _ _ hu => State.ok_kept _ _ (State.disarmSlot_kept _ _ hu)

theorem execCastleClear_kept (m : Msg) (h : Kept q d s) : NextKept q d (execCastleClear m s) :=
  h.command fun _ _ hu => State.ok_kept _ _ (State.setCastle_kept _ _ hu)

theorem execCastleStatus_kept (m : Msg) (h : Kept q d s) : NextKept q d (execCastleStatus m s) :=
  h.command fun _ _ hu => State.ok_kept _ _ hu

theorem execTicketBuild_kept (m : Msg) (h : Kept q d s) : NextKept q d (execTicketBuild m s) :=
  h.command fun _ _ hu => State.ok_kept _ _ (State.setTicket_kept _ _ hu)

theorem execTicketSealArm_kept (m : Msg) (h : Kept q d s) : NextKept q d (execTicketSealArm m s) := by
  refine Kept.next ?_
  repeat' first
    | with_reducible assumption | with_reducible apply State.enter_kept | with_reducible apply State.command_kept
    | with_reducible apply State.updTicket_kept | with_reducible apply State.ok_kept
    | (simp only [↓Kept.mk_eq]; with_reducible apply KeptF.of) | intro _

theorem execTicketDisarm_kept (m : Msg) (h : Kept q d s) : NextKept q d (execTicketDisarm m s) :=
  h.command fun _ _ hu => State.ok_kept _ _ (State.updTicket_kept _ _ (State.releaseTicket_kept _ hu))

theorem execTicketFree_kept (m : Msg) (h : Kept q d s) : NextKept q d (execTicketFree m s) :=
  h.command fun _ _ hu => State.ok_kept _ _ (State.setTicket_kept _ _ hu)

theorem execTicketStatus_kept (m : Msg) (h : Kept q d s) : NextKept q d (execTicketStatus m s) :=
  h.command fun _ _ hu => State.ok_kept _ _ hu

/-! ### Rows of Machine/SealRows.lean -/

theorem execCastleTrigger_kept (slot : Idx) (h : Kept q d s) : NextKept q d (execCastleTrigger slot s) := by
  refine Kept.next ?_
  repeat' first
    | with_reducible assumption | with_reducible apply State.enter_kept | with_reducible apply State.applyActions_kept
    | with_reducible apply State.disarmSlot_kept | with_reducible apply State.raise_kept | extract_lets x | split

theorem execTicketResident_kept (tk : Idx) (h : Kept q d s) : NextKept q d (execTicketResident tk s) := by
  refine Kept.next ?_
  repeat' first
    | with_reducible assumption | with_reducible apply State.updTicket_kept
    | (simp only [↓Kept.mk_eq]; with_reducible apply KeptF.of) | split

theorem execSealEvaluation_kept (tk : Idx) (ue : Option Nat) (h : Kept q d s) : NextKept q d (execSealEvaluation tk ue s) := by
  refine Kept.next ?_
  repeat' first
    | with_reducible assumption | with_reducible apply State.enter_kept | with_reducible apply State.loseResidency_kept
    | with_reducible apply State.updTicket_kept | with_reducible apply State.sealTicket_kept | extract_lets x | split

theorem execFlagFall_kept (tk : Idx) (h : Kept q d s) : NextKept q d (execFlagFall tk s) := by
  refine Kept.next ?_
  repeat' first
    | with_reducible assumption | with_reducible apply State.enter_kept | with_reducible apply State.slip_kept
    | with_reducible apply State.updTicket_kept | with_reducible apply State.raise_kept | with_reducible apply State.fall_kept
    | extract_lets x | split

theorem execTimelineEntryTrigger_kept (tk : Idx) (entry : Nat) (ue : Option Nat) (h : Kept q d s) :
    NextKept q d (execTimelineEntryTrigger tk entry ue s) := by
  refine Kept.next ?_
  repeat' first
    | with_reducible assumption | with_reducible apply State.enter_kept | with_reducible apply State.timelineUe_kept
    | with_reducible apply State.updTicket_kept | with_reducible apply State.applyActions_kept
    | with_reducible apply State.entryMissed_kept | extract_lets x | split

theorem execExitCastle_kept (x : ExitRead) (h : Kept q d s) : NextKept q d (execExitCastle x s) := by
  refine Kept.next ?_
  repeat' first
    | with_reducible assumption | with_reducible apply State.enter_kept | with_reducible apply State.timelineUe_kept
    | with_reducible apply State.updTicket_kept | with_reducible apply State.applyActions_kept
    | with_reducible apply State.endSheet_kept | with_reducible apply State.afterExit_kept | extract_lets x | split

theorem execSheetOverrun_kept (tk : Idx) (h : Kept q d s) : NextKept q d (execSheetOverrun tk s) := by
  refine Kept.next ?_
  repeat' first
    | with_reducible assumption | with_reducible apply State.enter_kept | with_reducible apply State.raise_kept
    | with_reducible apply State.enterSafeHold_kept | extract_lets x | split

/-! ### Rows of Machine/Store.lean -/

theorem execDramTrainingDone_kept (ch0 ch1 : TrainDram) (h : Kept q d s) : NextKept q d (execDramTrainingDone ch0 ch1 s) := by
  refine Kept.next ?_
  repeat' first
    | with_reducible assumption | with_reducible apply State.trained_kept
    | (simp only [↓Kept.mk_eq]; with_reducible apply KeptF.of) | split

theorem execStoreAlloc_kept (m : Msg) (h : Kept q d s) : NextKept q d (execStoreAlloc m s) := by
  refine Kept.next ?_
  repeat' first
    | with_reducible assumption | with_reducible apply State.enter_kept | with_reducible apply State.command_kept
    | with_reducible apply State.fresh_kept | with_reducible apply State.post_kept | with_reducible apply State.ok_kept
    | (simp only [↓Kept.mk_eq]; with_reducible apply KeptF.of) | extract_lets x | split | intro _
    | (with_reducible apply Kept.ofPair; with_reducible assumption)

theorem execStoreFree_kept (m : Msg) (h : Kept q d s) : NextKept q d (execStoreFree m s) := by
  refine Kept.next ?_
  repeat' first
    | with_reducible assumption | with_reducible apply State.enter_kept | with_reducible apply State.command_kept
    | with_reducible apply State.ok_kept | (simp only [↓Kept.mk_eq]; with_reducible apply KeptF.of) | intro _

theorem execStoreFence_kept (m : Msg) (h : Kept q d s) : NextKept q d (execStoreFence m s) := by
  refine Kept.next ?_
  repeat' first
    | with_reducible assumption | with_reducible apply State.enter_kept | with_reducible apply State.command_kept
    | with_reducible apply State.fenceEnd_kept | with_reducible apply State.hold_kept
    | (simp only [↓Kept.mk_eq]; with_reducible apply KeptF.of) | extract_lets x | split | intro _

theorem execStoreFenceComplete_kept (ring : Idx) (h : Kept q d s) : NextKept q d (execStoreFenceComplete ring s) := by
  refine Kept.next ?_
  repeat' first
    | with_reducible assumption | with_reducible apply State.dropFence_kept | with_reducible apply State.fenceEnd_kept | split

theorem execStoreFenceTimeout_kept (ring : Idx) (h : Kept q d s) : NextKept q d (execStoreFenceTimeout ring s) := by
  refine Kept.next ?_
  repeat' first
    | with_reducible assumption | with_reducible apply State.enter_kept | with_reducible apply State.dropFence_kept
    | with_reducible apply State.raise_kept | with_reducible apply State.post_kept | extract_lets x | split

theorem execDramWriteArrival_kept (seq : Nat) (h : Kept q d s) : NextKept q d (execDramWriteArrival seq s) := by
  refine Kept.next ?_
  repeat' first
    | with_reducible assumption | with_reducible apply State.enter_kept | with_reducible apply State.land_kept
    | with_reducible apply State.fresh_kept | (simp only [↓Kept.mk_eq]; with_reducible apply KeptF.of) | extract_lets x | split
    | (with_reducible apply Kept.ofPair; with_reducible assumption)

theorem execMergeBufferDrain_kept (inst : Idx) (word : Nat) (h : Kept q d s) : NextKept q d (execMergeBufferDrain inst word s) := by
  refine Kept.next ?_
  repeat' first
    | with_reducible assumption | with_reducible apply State.drainEntry_kept | split

/-! ### Rows of Machine/DmaRows.lean -/

theorem execDmaOpen_kept (m : Msg) (h : Kept q d s) : NextKept q d (execDmaOpen m s) :=
  h.command fun _ _ hu => State.ok_kept _ _ (State.openDma_kept _ hu)

theorem execDmaClose_kept (m : Msg) (h : Kept q d s) : NextKept q d (execDmaClose m s) :=
  h.command fun _ _ hu => State.ok_kept _ _ (State.closeDma_kept _ hu)

theorem execDmaDoorbellRing_kept (ch : Idx) (by_ : Ringer) (h : Kept q d s) : NextKept q d (execDmaDoorbellRing ch by_ s) := by
  refine Kept.next ?_
  repeat' first
    | with_reducible assumption | with_reducible apply State.enter_kept | with_reducible apply State.access_kept
    | with_reducible apply State.doorbell_kept | with_reducible apply State.fwRing_kept | split | intro _

theorem execDmaDoorbellStop_kept (ch : Idx) (v : Word) (h : Kept q d s) : NextKept q d (execDmaDoorbellStop ch v s) :=
  (State.enter_kept _ h).access fun _ hu => State.doorbell_kept _ _ hu

theorem execDmaStatusClear_kept (ch : Idx) (v : Word) (h : Kept q d s) : NextKept q d (execDmaStatusClear ch v s) :=
  h.access fun _ hu => State.clearDma_kept _ _ hu

theorem execDmaDescriptorStart_kept (ch : Idx) (x : HostData) (h : Kept q d s) : NextKept q d (execDmaDescriptorStart ch x s) := by
  refine Kept.next ?_
  repeat' first
    | with_reducible assumption | with_reducible apply State.readDesc_kept | with_reducible apply State.dmaFault_kept
    | with_reducible apply State.beginDesc_kept | extract_lets x | split
    | (with_reducible apply Kept.ofPair; with_reducible assumption)

theorem execDmaDescriptorComplete_kept (ch : Idx) (h : Kept q d s) : NextKept q d (execDmaDescriptorComplete ch s) := by
  refine Kept.next ?_
  repeat' first
    | with_reducible assumption | with_reducible apply State.enter_kept | with_reducible apply State.writeDescStatus_kept
    | with_reducible apply State.countDesc_kept | with_reducible apply State.signal_kept
    | with_reducible apply State.descStep_kept | with_reducible apply State.updDma_kept
    | with_reducible apply State.dmaIdle_kept | split | (dsimp +zetaDelta only)

theorem execDmaLookAgain_kept (ch : Idx) (x : HostData) (h : Kept q d s) : NextKept q d (execDmaLookAgain ch x s) := by
  refine Kept.next ?_
  repeat' first
    | with_reducible assumption | with_reducible apply State.readDesc_kept | with_reducible apply State.dmaFault_kept
    | with_reducible apply State.dmaIdle_kept | with_reducible apply State.updDma_kept
    | with_reducible apply State.descStep_kept | extract_lets x | split
    | (with_reducible apply Kept.ofPair; with_reducible assumption)

/-! ### Rows of Machine/Lanes.lean -/

theorem execHeaderCheck_kept (tk : Idx) (entry : Nat) (rank : Idx) (h : Kept q d s) :
    NextKept q d (execHeaderCheck tk entry rank s) := by
  refine Kept.next ?_
  repeat' first
    | with_reducible assumption | with_reducible apply State.storeRead_kept | with_reducible apply State.hdrInvalid_kept
    | with_reducible apply State.updTicket_kept | with_reducible apply State.enqueue_kept | extract_lets x | split
    | (with_reducible apply Kept.ofTriple; with_reducible assumption)

theorem execSharedResourceGrant_kept (res : Resource) (data : HostData) (h : Kept q d s) :
    NextKept q d (execSharedResourceGrant res data s) := by
  refine Kept.next ?_
  repeat' first
    | with_reducible assumption | with_reducible apply State.enter_kept | with_reducible apply State.updLane_kept
    | with_reducible apply State.grantDma_kept | extract_lets x | split

theorem execFetchReturn_kept (lane : Idx) (h : Kept q d s) : NextKept q d (execFetchReturn lane s) := by
  refine Kept.next ?_
  repeat' first
    | with_reducible assumption | with_reducible apply State.enter_kept | with_reducible apply State.memScan_kept
    | with_reducible apply State.raise_kept | with_reducible apply State.updLane_kept | extract_lets x | split

theorem execLaneLineWrite_kept (lane : Idx) (ue : Option Nat) (h : Kept q d s) : NextKept q d (execLaneLineWrite lane ue s) := by
  refine Kept.next ?_
  repeat' first
    | with_reducible assumption | with_reducible apply State.enter_kept | with_reducible apply State.reportUe_kept
    | with_reducible apply State.decodeError_kept | with_reducible apply State.fresh_kept
    | with_reducible apply State.putLine_kept | with_reducible apply State.updLane_kept | extract_lets x | split

theorem execLaneSubstreamComplete_kept (lane : Idx) (h : Kept q d s) : NextKept q d (execLaneSubstreamComplete lane s) := by
  refine Kept.next ?_
  repeat' first
    | with_reducible assumption | with_reducible apply State.enter_kept | with_reducible apply State.decodeError_kept
    | with_reducible apply State.updStrip_kept | with_reducible apply State.crcMismatch_kept
    | with_reducible apply State.laneNext_kept | split | (dsimp +zetaDelta only)

/-! ### Rows of Machine/Compress.lean -/

theorem execCompressJob_kept (m : Msg) (h : Kept q d s) : NextKept q d (execCompressJob m s) := by
  refine Kept.next ?_
  repeat' first
    | with_reducible assumption | with_reducible apply State.enter_kept | with_reducible apply State.command_kept
    | with_reducible apply State.hold_kept | (simp only [↓Kept.mk_eq]; with_reducible apply KeptF.of) | intro _

theorem execCompressJobStart_kept (h : Kept q d s) : NextKept q d (execCompressJobStart s) := by
  refine Kept.next ?_
  repeat' first
    | with_reducible assumption | with_reducible apply State.memWrite_kept | with_reducible apply State.startChain_kept
    | with_reducible apply Kept.foldl | (simp only [↓Kept.mk_eq]; with_reducible apply KeptF.of) | split | intro _

theorem execCompressJobEnd_kept (ue : Option Nat) (h : Kept q d s) : NextKept q d (execCompressJobEnd ue s) := by
  refine Kept.next ?_
  repeat' first
    | with_reducible assumption | with_reducible apply State.clError_kept | with_reducible apply State.jobDone_kept | split
    | (dsimp +zetaDelta only)

/-! ### Rows of Machine/Ecc.lean -/

theorem execScrub_kept (m : Msg) (h : Kept q d s) : NextKept q d (execScrub m s) :=
  h.command fun _ _ hu => State.updMem_same (fun _ => rfl) (State.hold_kept _ _ hu)

theorem execScrubDone_kept (inst : Idx) (h : Kept q d s) : NextKept q d (execScrubDone inst s) := by
  refine Kept.next ?_
  split
  · exact h
  · exact State.ok_kept _ _ (State.raise_kept _ (State.updMem_same (fun _ => rfl)
      (foldl_pred (P := fun x : State × Scrubbed => Kept q d x.1) (fun _ _ hu => State.scrubWord_kept _ _ _ hu) h)))

theorem execEccStatusClear_kept (inst : Idx) (v : Word) (h : Kept q d s) : NextKept q d (execEccStatusClear inst v s) :=
  h.access fun _ hu => State.clearEcc_kept _ _ hu

theorem execEccTestEnable_kept (inst : Idx) (v : Word) (h : Kept q d s) : NextKept q d (execEccTestEnable inst v s) :=
  h.access fun _ hu => State.writeTestCtrl_kept _ _ hu

theorem execReadRaw_kept (inst : Idx) (h : Kept q d s) : NextKept q d (execReadRaw inst s) :=
  h.access fun _ hu => State.testReadRaw_kept _ hu

theorem execReadChecked_kept (inst : Idx) (h : Kept q d s) : NextKept q d (execReadChecked inst s) :=
  h.access fun _ hu => State.testReadChecked_kept _ hu

theorem execWriteData_kept (inst : Idx) (h : Kept q d s) : NextKept q d (execWriteData inst s) :=
  h.access fun _ hu => State.testWriteData_kept _ hu

theorem execWriteCheck_kept (inst : Idx) (h : Kept q d s) : NextKept q d (execWriteCheck inst s) :=
  h.access fun _ hu => State.testWriteCheck_kept _ hu

theorem execWriteRaw_kept (inst : Idx) (h : Kept q d s) : NextKept q d (execWriteRaw inst s) :=
  h.access fun _ hu => State.testWriteRaw_kept _ hu

theorem execWriteNormal_kept (inst : Idx) (h : Kept q d s) : NextKept q d (execWriteNormal inst s) :=
  h.access fun _ hu => State.testWriteNormal_kept _ hu

theorem execEccTestDone_kept (inst : Idx) (h : Kept q d s) : NextKept q d (execEccTestDone inst s) := by
  refine Kept.next ?_
  split
  · exact State.updMem_same (fun _ => rfl) h
  · exact h

/-! ### Rows of Machine/Service.lean -/

theorem execPressCommit_kept (m : Msg) (h : Kept q d s) : NextKept q d (execPressCommit m s) := by
  refine Kept.next ?_
  repeat' first
    | with_reducible assumption | with_reducible apply State.enter_kept | with_reducible apply State.command_kept
    | with_reducible apply State.ok_kept | (simp only [↓Kept.mk_eq]; with_reducible apply KeptF.of) | intro _

theorem execPressClear_kept (m : Msg) (h : Kept q d s) : NextKept q d (execPressClear m s) := by
  refine Kept.next ?_
  repeat' first
    | with_reducible assumption | with_reducible apply State.enter_kept | with_reducible apply State.command_kept
    | with_reducible apply State.ok_kept | (simp only [↓Kept.mk_eq]; with_reducible apply KeptF.of) | intro _

theorem execServiceSet_kept (m : Msg) (h : Kept q d s) : NextKept q d (execServiceSet m s) := by
  refine Kept.next ?_
  repeat' first
    | with_reducible assumption | with_reducible apply State.enter_kept | with_reducible apply State.command_kept
    | with_reducible apply State.setService_kept | with_reducible apply State.ok_kept | split | intro _

theorem execGroupSet_kept (m : Msg) (h : Kept q d s) : NextKept q d (execGroupSet m s) :=
  h.command fun _ _ hu => State.ok_kept _ _ (State.setGroup_kept _ _ hu)

theorem execGroupGet_kept (m : Msg) (h : Kept q d s) : NextKept q d (execGroupGet m s) :=
  h.command fun _ _ hu => State.ok_kept _ _ hu

theorem execGroupClear_kept (m : Msg) (h : Kept q d s) : NextKept q d (execGroupClear m s) :=
  h.command fun _ _ hu => State.ok_kept _ _ (State.setGroup_kept _ _ hu)

/-! ### Rows of Machine/Rails.lean -/

theorem execLedgerWriteDone_kept (h : Kept q d s) : NextKept q d (execLedgerWriteDone s) := by
  refine Kept.next ?_
  repeat' first
    | with_reducible assumption | with_reducible apply State.ledgerCheck_kept
    | (simp only [↓Kept.mk_eq]; with_reducible apply KeptF.of) | split

theorem execRailSequenceUp_kept (m : Msg) (h : Kept q d s) : NextKept q d (execRailSequenceUp m s) := by
  refine Kept.next ?_
  repeat' first
    | with_reducible assumption | with_reducible apply State.enter_kept | with_reducible apply State.command_kept
    | with_reducible apply State.hold_kept | with_reducible apply State.upStart_kept
    | (simp only [↓Kept.mk_eq]; with_reducible apply KeptF.of) | split | intro _

theorem execSequpInHigh_kept (h : Kept q d s) : NextKept q d (execSequpInHigh s) := by
  refine Kept.next ?_
  repeat' first
    | with_reducible assumption | with_reducible apply State.upStart_kept
    | (simp only [↓Kept.mk_eq]; with_reducible apply KeptF.of) | split

theorem execRailDelayExpire_kept (rail : Idx) (h : Kept q d s) : NextKept q d (execRailDelayExpire rail s) := by
  refine Kept.next ?_
  repeat' first
    | with_reducible assumption | with_reducible apply State.enter_kept | with_reducible apply State.upAdvance_kept
    | extract_lets x | split

theorem execRailSequenceDown_kept (m : Msg) (h : Kept q d s) : NextKept q d (execRailSequenceDown m s) :=
  h.command fun _ _ hu => State.startDown_kept _ _ _ _ (State.hold_kept _ _ hu)

theorem execSeqdnInHigh_kept (h : Kept q d s) : NextKept q d (execSeqdnInHigh s) := by
  refine Kept.next ?_
  repeat' first
    | with_reducible assumption | with_reducible apply State.downAdvance_kept
    | (simp only [↓Kept.mk_eq]; with_reducible apply KeptF.of)

theorem execCascadeWaitTimeout_kept (h : Kept q d s) : NextKept q d (execCascadeWaitTimeout s) := by
  refine Kept.next ?_
  repeat' first
    | with_reducible assumption | with_reducible apply State.enter_kept | with_reducible apply State.raise_kept
    | with_reducible apply State.post_kept | with_reducible apply State.downAdvance_kept
    | (simp only [↓Kept.mk_eq]; with_reducible apply KeptF.of) | extract_lets x | split

theorem execRailStatus_kept (m : Msg) (h : Kept q d s) : NextKept q d (execRailStatus m s) :=
  h.command fun _ _ hu => State.ok_kept _ _ hu

theorem execRailSettled_kept (rail : Idx) (h : Kept q d s) : NextKept q d (execRailSettled rail s) := by
  refine Kept.next ?_
  repeat' first
    | with_reducible assumption | with_reducible apply State.enter_kept | with_reducible apply State.toRail_kept
    | with_reducible apply State.upAdvance_kept | with_reducible apply State.setRail_kept | extract_lets x | split

theorem execRailRiseTimeout_kept (r : RiseEnd) (h : Kept q d s) : NextKept q d (execRailRiseTimeout r s) := by
  refine Kept.next ?_
  repeat' first
    | with_reducible assumption | with_reducible apply State.enter_kept | with_reducible apply State.toRail_kept
    | with_reducible apply State.raise_kept | with_reducible apply State.dependantDown_kept | extract_lets x | split

theorem execRailLost_kept (rail : Idx) (h : Kept q d s) : NextKept q d (execRailLost rail s) := by
  refine Kept.next ?_
  repeat' first
    | with_reducible assumption | with_reducible apply State.enter_kept | with_reducible apply State.setRail_kept
    | with_reducible apply State.toRail_kept | with_reducible apply State.raise_kept
    | with_reducible apply State.dependantDown_kept | with_reducible apply State.assertPwrflt_kept
    | with_reducible apply State.enterSafeHold_kept | split | (dsimp +zetaDelta only)

theorem execRailTurnOff_kept (rail : Idx) (h : Kept q d s) : NextKept q d (execRailTurnOff rail s) := by
  refine Kept.next ?_
  repeat' first
    | with_reducible assumption | with_reducible apply State.pwrfltDown_kept | with_reducible apply State.downAdvance_kept
    | extract_lets x | split

theorem execRailFallen_kept (rail : Idx) (h : Kept q d s) : NextKept q d (execRailFallen rail s) := by
  refine Kept.next ?_
  repeat' first
    | with_reducible assumption | with_reducible apply State.fallen_kept
    | (simp only [↓Kept.mk_eq]; with_reducible apply KeptF.of) | extract_lets x | split

theorem execRailFallTimeout_kept (rail : Idx) (h : Kept q d s) : NextKept q d (execRailFallTimeout rail s) := by
  refine Kept.next ?_
  repeat' first
    | with_reducible assumption | with_reducible apply State.enter_kept | with_reducible apply State.toRail_kept
    | with_reducible apply State.raise_kept | with_reducible apply State.ledgerWrite_kept
    | with_reducible apply State.assertPwrflt_kept | with_reducible apply State.downAdvance_kept
    | (simp only [↓Kept.mk_eq]; with_reducible apply KeptF.of) | extract_lets x | split

theorem execPwrfltSeen_kept (h : Kept q d s) : NextKept q d (execPwrfltSeen s) := by
  refine Kept.next ?_
  repeat' first
    | with_reducible assumption | with_reducible apply State.enter_kept | with_reducible apply State.raise_kept
    | with_reducible apply State.enterSafeHold_kept | with_reducible apply State.pwrfltDown_kept
    | (simp only [↓Kept.mk_eq]; with_reducible apply KeptF.of) | split | (dsimp +zetaDelta only)

theorem execPwrfltNRelease_kept (h : Kept q d s) : NextKept q d (execPwrfltNRelease s) := by
  refine Kept.next ?_
  repeat' first
    | with_reducible assumption | (simp only [↓Kept.mk_eq]; with_reducible apply KeptF.of) | split

/-! ### Rows of Machine/Power.lean -/

theorem execPinReset_kept (h : Kept q d s) : NextKept q d (execPinReset s) := by
  refine Kept.next ?_
  repeat' first
    | with_reducible assumption | with_reducible apply State.mainReset_kept | with_reducible apply State.toMode_kept
    | with_reducible apply State.goDormant_kept | (simp only [↓Kept.mk_eq]; with_reducible apply KeptF.of) | split
    | (dsimp +zetaDelta only)

theorem execResetNRelease_kept (h : Kept q d s) : NextKept q d (execResetNRelease s) := by
  refine Kept.next ?_
  repeat' first
    | with_reducible assumption | (simp only [↓Kept.mk_eq]; with_reducible apply KeptF.of)

theorem execStandbyPowerOn_kept (h : Kept q d s) : NextKept q d (execStandbyPowerOn s) := by
  refine Kept.next (State.keepFaults_kept _ List.nodup_nil (State.goDormant_kept ?_))
  simp only [↓Kept.mk_eq]
  exact KeptF.of h

theorem execStandbyPowerLoss_kept (h : Kept q d s) : NextKept q d (execStandbyPowerLoss s) := by
  refine Kept.next (State.keepFaults_kept _ List.nodup_nil (State.goDormant_kept ?_))
  simp only [↓Kept.mk_eq]
  exact KeptF.of h

theorem execFirmwareReset_kept (v : Word) (h : Kept q d s) : NextKept q d (execFirmwareReset v s) :=
  h.access fun _ hu => State.firmwareReset_kept _ hu

theorem execWakeFilterDone_kept (h : Kept q d s) : NextKept q d (execWakeFilterDone s) := by
  refine Kept.next ?_
  repeat' first
    | with_reducible assumption | (simp only [↓Kept.mk_eq]; with_reducible apply KeptF.of) | split

theorem execOwnRailSettled_kept (rail : Idx) (h : Kept q d s) : NextKept q d (execOwnRailSettled rail s) := by
  refine Kept.next ?_
  repeat' first
    | with_reducible assumption | with_reducible apply State.startPll_kept
    | (simp only [↓Kept.mk_eq]; with_reducible apply KeptF.of) | split | (dsimp +zetaDelta only)

theorem execOwnRailRiseTimeout_kept (rail : Idx) (h : Kept q d s) : NextKept q d (execOwnRailRiseTimeout rail s) := by
  refine Kept.next ?_
  repeat' first
    | with_reducible assumption | with_reducible apply State.note_kept | with_reducible apply State.hardFault_kept
    | with_reducible apply State.goDormant_kept | with_reducible apply State.ownDown_kept | split

theorem execWakeSpllLocked_kept (h : Kept q d s) : NextKept q d (execWakeSpllLocked s) := by
  refine Kept.next ?_
  split
  · refine State.ledgerCheck_kept (State.reportNotes_kept (State.pllLock_kept _ (State.pllAcquire_kept _
      (State.toMode_kept _ _ (State.startPll_kept _ (State.startPll_kept _ ?_))))))
    simp only [↓Kept.mk_eq]
    exact KeptF.setTempo (by decide) h
  · exact h

theorem execDormantPgLost_kept (rail : Idx) (h : Kept q d s) : NextKept q d (execDormantPgLost rail s) := by
  refine Kept.next ?_
  repeat' first
    | with_reducible assumption | with_reducible apply State.setRail_kept | with_reducible apply State.note_kept
    | with_reducible apply State.ledgerWrite_kept | with_reducible apply State.assertPwrflt_kept | split

theorem execOwnRailFault_kept (rail : Idx) (h : Kept q d s) : NextKept q d (execOwnRailFault rail s) := by
  refine Kept.next ?_
  repeat' first
    | with_reducible assumption | with_reducible apply State.raise_kept | with_reducible apply State.hardFault_kept
    | with_reducible apply State.enterSafeHold_kept | with_reducible apply State.startDown_kept | split

theorem execOwnRailFaultRl00_kept (h : Kept q d s) : NextKept q d (execOwnRailFaultRl00 s) := by
  refine Kept.next ?_
  repeat' first
    | with_reducible assumption | with_reducible apply State.note_kept | with_reducible apply State.hardFault_kept
    | with_reducible apply State.goDormant_kept | split

theorem execOwnRailPowerDown_kept (h : Kept q d s) : NextKept q d (execOwnRailPowerDown s) := by
  refine Kept.next ?_
  repeat' first
    | with_reducible assumption | with_reducible apply State.note_kept | with_reducible apply State.ledgerWrite_kept
    | with_reducible apply State.assertPwrflt_kept | with_reducible apply State.goDormant_kept | with_reducible apply Kept.foldl
    | extract_lets x | split | intro _

theorem execBootRomInitDone_kept (h : Kept q d s) : NextKept q d (execBootRomInitDone s) := by
  refine Kept.next ?_
  split
  · exact State.toBoot_kept _ (Kept.foldl (fun _ _ hu => State.updMem_kept (fun _ _ => rfl) hu) h)
  · exact h

theorem execBootCtrlGo_kept (v : Word) (h : Kept q d s) : NextKept q d (execBootCtrlGo v s) :=
  h.access fun _ hu => State.bootGo_kept _ hu

theorem execBootCheckDone_kept (h : Kept q d s) : NextKept q d (execBootCheckDone s) := by
  refine Kept.next ?_
  repeat' first
    | with_reducible assumption | with_reducible apply State.memWrite_kept | with_reducible apply State.toBoot_kept
    | with_reducible apply Kept.foldl | (simp only [↓Kept.mk_eq]; with_reducible apply KeptF.of) | extract_lets x | split
    | intro _

theorem execWatchdogExpire_kept (cause : WatchdogCause) (h : Kept q d s) : NextKept q d (execWatchdogExpire cause s) := by
  refine Kept.next ?_
  repeat' first
    | with_reducible assumption | with_reducible apply State.enter_kept | with_reducible apply State.reportUe_kept
    | with_reducible apply State.watchdogExpires_kept | (simp only [↓Kept.mk_eq]; with_reducible apply KeptF.of)
    | extract_lets x | split

/-! ### Rows of Machine/Thermal.lean -/

theorem execThermalConversion_kept (readings : List Int) (h : Kept q d s) : NextKept q d (execThermalConversion readings s) := by
  refine Kept.next ?_
  repeat' first
    | with_reducible assumption | with_reducible apply State.enter_kept | with_reducible apply State.captureSensors_kept
    | with_reducible apply State.evaluate_kept | (simp only [↓Kept.mk_eq]; with_reducible apply KeptF.of) | extract_lets x
    | split

theorem execAgeingNew_kept (m : Msg) (h : Kept q d s) : NextKept q d (execAgeingNew m s) := by
  refine Kept.next ?_
  repeat' first
    | with_reducible assumption | with_reducible apply State.enter_kept | with_reducible apply State.command_kept
    | with_reducible apply State.setTable_kept | with_reducible apply State.ok_kept
    | (simp only [↓Kept.mk_eq]; with_reducible apply KeptF.of) | intro _

theorem execMarginPlan_kept (m : Msg) (h : Kept q d s) : NextKept q d (execMarginPlan m s) := by
  refine Kept.next ?_
  repeat' first
    | with_reducible assumption | with_reducible apply State.enter_kept | with_reducible apply State.command_kept
    | with_reducible apply State.hold_kept | (simp only [↓Kept.mk_eq]; with_reducible apply KeptF.of) | intro _

theorem execMarginPlanDone_kept (p : PlanObs) (h : Kept q d s) : NextKept q d (execMarginPlanDone p s) := by
  refine Kept.next ?_
  repeat' first
    | with_reducible assumption | with_reducible apply State.planResume_kept
    | (simp only [↓Kept.mk_eq]; with_reducible apply KeptF.of) | split

/-! ### Rows of Machine/ModeRows.lean -/

theorem execModeSet_kept (m : Msg) (h : Kept q d s) : NextKept q d (execModeSet m s) :=
  h.command fun _ _ hu => State.transit_kept _ _ _ hu

theorem execDormantEnter_kept (m : Msg) (h : Kept q d s) : NextKept q d (execDormantEnter m s) := by
  refine Kept.next ?_
  repeat' first
    | with_reducible assumption | with_reducible apply State.enter_kept | with_reducible apply State.command_kept
    | with_reducible apply State.ok_kept | with_reducible apply State.leaveL0_kept
    | (simp only [↓Kept.mk_eq]; with_reducible apply KeptF.of) | intro _

theorem execModeTransitionComplete_kept (h : Kept q d s) : NextKept q d (execModeTransitionComplete s) := by
  refine Kept.next ?_
  repeat' first
    | with_reducible assumption | with_reducible apply State.enter_kept | with_reducible apply State.leaveRunOut_kept
    | with_reducible apply State.enterStandby_kept | (simp only [↓Kept.mk_eq]; with_reducible apply KeptF.of) | extract_lets x
    | split

/-! ### Rows of Machine/Faults.lean -/

theorem execFaultList_kept (m : Msg) (h : Kept q d s) : NextKept q d (execFaultList m s) :=
  h.command fun _ _ hu => State.ok_kept _ _ hu

theorem execFaultClear_kept (m : Msg) (h : Kept q d s) : NextKept q d (execFaultClear m s) :=
  h.command fun _ _ hu => State.ok_kept _ _ (State.cleared_kept _ _ (State.dropPwrflt_kept _ _ (State.unlatch_kept _ _ hu)))

/-! ### Rows of Machine/Io.lean -/

theorem execSpiXfer_kept (m : Msg) (h : Kept q d s) : NextKept q d (execSpiXfer m s) :=
  h.command fun _ _ hu => State.spiPush_kept _ _ (State.hold_kept _ _ hu)

theorem execSpiTransferDone_kept (ctrl : Idx) (rx : Bytes) (h : Kept q d s) : NextKept q d (execSpiTransferDone ctrl rx s) := by
  refine Kept.next ?_
  repeat' first
    | with_reducible assumption | with_reducible apply State.spiPop_kept | with_reducible apply State.ok_kept | split

theorem execI2cXfer_kept (m : Msg) (h : Kept q d s) : NextKept q d (execI2cXfer m s) :=
  h.command fun _ _ hu => State.i2cNext_kept _ (State.putI2c_kept _ _ (State.hold_kept _ _ hu))

theorem execI2cTransferDone_kept (ctrl : Idx) (r : I2cEnd) (h : Kept q d s) : NextKept q d (execI2cTransferDone ctrl r s) := by
  refine Kept.next ?_
  repeat' first
    | with_reducible assumption | with_reducible apply State.putI2c_kept | with_reducible apply State.ok_kept
    | with_reducible apply State.post_kept | with_reducible apply State.i2cGo_kept | split

theorem execPmbusVoutPoll_kept (rail : Idx) (r : PmbusRead) (h : Kept q d s) : NextKept q d (execPmbusVoutPoll rail r s) := by
  refine Kept.next ?_
  repeat' first
    | with_reducible assumption | with_reducible apply State.updRail_kept | with_reducible apply State.pmbusRead_kept
    | with_reducible apply State.i2cGo_kept | extract_lets x | split

/-! ### Rows of Machine/Mailbox.lean -/

theorem execMbCtrlEnWrite_kept (ring : Idx) (v : Word) (h : Kept q d s) : NextKept q d (execMbCtrlEnWrite ring v s) :=
  h.access fun _ hu => State.leaveL0_kept (State.writeRingEn_kept _ _ hu)

theorem execMbCmdTailDoorbell_kept (ring : Idx) (v : Word) (h : Kept q d s) : NextKept q d (execMbCmdTailDoorbell ring v s) :=
  (State.enter_kept _ h).access fun _ hu => State.writeCmdTail_kept _ _ hu

theorem execMbRspHeadWrite_kept (ring : Idx) (v : Word) (h : Kept q d s) : NextKept q d (execMbRspHeadWrite ring v s) :=
  h.access fun _ hu => State.writeRspHead_kept _ _ hu

theorem execMailboxCommandTake_kept (ring : Idx) (ue : Option Nat) (h : Kept q d s) :
    NextKept q d (execMailboxCommandTake ring ue s) := by
  refine Kept.next ?_
  repeat' first
    | with_reducible assumption | with_reducible apply State.reportUe_kept | with_reducible apply State.readSlots_kept
    | with_reducible apply State.haltRing_kept | with_reducible apply State.updRing_kept
    | with_reducible apply State.answerSkipped_kept | split | (with_reducible apply Kept.ofTriple; with_reducible assumption)
    | (dsimp +zetaDelta only)

theorem execResponseEntryPost_kept (ring : Idx) (ue : Option Nat) (h : Kept q d s) :
    NextKept q d (execResponseEntryPost ring ue s) := by
  refine Kept.next ?_
  split
  · exact h
  · dsimp only
    split
    · refine State.reportUe_kept _ _ _ _ _ _ (State.updRing_kept _ _ ?_)
      simp only [↓Kept.mk_eq]
      exact KeptF.dropEvent h
    · split
      · exact h
      · exact Kept.ite (State.leaveL0_kept (State.written_kept _ _ (State.updRing_kept _ _ (State.writeEntry_kept _ _ _ h))))
          (State.updRing_kept _ _ (State.writeEntry_kept _ _ _ h))

theorem execHelloPost_kept (h : Kept q d s) : NextKept q d (execHelloPost s) := by
  refine Kept.next ?_
  repeat' first
    | with_reducible assumption | with_reducible apply State.writeEntry_kept
    | (simp only [↓Kept.mk_eq]; with_reducible apply KeptF.of) | split

theorem execRingInterrupt_kept (ring : Idx) (h : Kept q d s) : NextKept q d (execRingInterrupt ring s) := by
  refine Kept.next ?_
  repeat' first
    | with_reducible assumption | with_reducible apply State.setRing_kept | with_reducible apply State.signal_kept
    | extract_lets x | split

theorem execBar2Access_kept (write : Bool) (off : Nat) (len : Nat) (data : Bytes) (h : Kept q d s) : NextKept q d (execBar2Access write off len data s) :=
  h.access fun _ hu => State.bar2_kept _ _ _ _ hu

theorem execHostLinkReset_kept (cause : LinkReset) (h : Kept q d s) : NextKept q d (execHostLinkReset cause s) := by
  refine Kept.next ?_
  repeat' first
    | with_reducible assumption | with_reducible apply State.linkCuts_kept | with_reducible apply State.leaveL0_kept
    | with_reducible apply Kept.foldl | (simp only [↓Kept.mk_eq]; with_reducible apply KeptF.of)

theorem execPerstDeassert_kept (h : Kept q d s) : NextKept q d (execPerstDeassert s) := by
  refine Kept.next ?_
  repeat' first
    | with_reducible assumption | (simp only [↓Kept.mk_eq]; with_reducible apply KeptF.of)

theorem execHostLinkUp_kept (h : Kept q d s) : NextKept q d (execHostLinkUp s) := by
  refine Kept.next ?_
  repeat' first
    | with_reducible assumption | with_reducible apply State.fresh_kept
    | (simp only [↓Kept.mk_eq]; with_reducible apply KeptF.of) | split

/-! ### Rows of Machine/Registers.lean -/

theorem execTempoLoRead_kept (h : Kept q d s) : NextKept q d (execTempoLoRead s) :=
  h.access fun _ hu => State.answer_kept _ _ hu

theorem execIlkCountRead_kept (h : Kept q d s) : NextKept q d (execIlkCountRead s) :=
  h.access fun _ hu => State.answer_kept _ _ hu

theorem execDmaDoneCountRead_kept (ch : Idx) (h : Kept q d s) : NextKept q d (execDmaDoneCountRead ch s) :=
  h.access fun _ hu => State.answer_kept _ _ hu

theorem execDmaBadCountRead_kept (ch : Idx) (h : Kept q d s) : NextKept q d (execDmaBadCountRead ch s) :=
  h.access fun _ hu => State.answer_kept _ _ hu

theorem execEccCeCountRead_kept (inst : Idx) (h : Kept q d s) : NextKept q d (execEccCeCountRead inst s) :=
  h.access fun _ hu => State.answer_kept _ _ hu

theorem execEccUeCountRead_kept (inst : Idx) (h : Kept q d s) : NextKept q d (execEccUeCountRead inst s) :=
  h.access fun _ hu => State.answer_kept _ _ hu

theorem execIlkOpenSeenClear_kept (v : Word) (h : Kept q d s) : NextKept q d (execIlkOpenSeenClear v s) :=
  h.access fun _ hu => State.clearOpenSeen_kept _ hu

theorem execRegisterWrite_kept (off : Nat) (v : RegValue) (h : Kept q d s) : NextKept q d (execRegisterWrite off v s) := by
  refine Kept.next ?_
  repeat' first
    | with_reducible assumption | with_reducible apply State.writeReg_kept | with_reducible apply State.access_kept | split
    | intro _

theorem execBar0BadAccess_kept (write : Bool) (off : Nat) (len : Nat) (h : Kept q d s) :
    NextKept q d (execBar0BadAccess write off len s) := by
  refine Kept.next ?_
  repeat' first
    | with_reducible assumption | with_reducible apply State.access_kept | with_reducible apply State.answer_kept
    | with_reducible apply State.logAbort_kept | with_reducible apply State.emit_kept | split | intro _

/-! ### Rows of Machine/Session.lean -/

theorem execNop_kept (m : Msg) (h : Kept q d s) : NextKept q d (execNop m s) :=
  h.command fun _ _ hu => State.ok_kept _ _ hu

theorem execVersionGet_kept (m : Msg) (h : Kept q d s) : NextKept q d (execVersionGet m s) :=
  h.command fun _ _ hu => State.ok_kept _ _ hu

theorem execEventRoute_kept (m : Msg) (h : Kept q d s) : NextKept q d (execEventRoute m s) := by
  refine Kept.next ?_
  repeat' first
    | with_reducible assumption | with_reducible apply State.enter_kept | with_reducible apply State.command_kept
    | with_reducible apply State.ok_kept | (simp only [↓Kept.mk_eq]; with_reducible apply KeptF.of) | intro _

theorem execEventRouteGet_kept (m : Msg) (h : Kept q d s) : NextKept q d (execEventRouteGet m s) :=
  h.command fun _ _ hu => State.ok_kept _ _ hu

theorem execParamRead_kept (m : Msg) (h : Kept q d s) : NextKept q d (execParamRead m s) := by
  refine Kept.next ?_
  repeat' first
    | with_reducible assumption | with_reducible apply State.enter_kept | with_reducible apply State.command_kept
    | with_reducible apply State.readEffect_kept | with_reducible apply State.post_kept | with_reducible apply State.ok_kept
    | with_reducible apply Kept.foldl | split | intro _

theorem execParamWrite_kept (m : Msg) (h : Kept q d s) : NextKept q d (execParamWrite m s) := by
  refine Kept.next ?_
  repeat' first
    | with_reducible assumption | with_reducible apply State.enter_kept | with_reducible apply State.command_kept
    | with_reducible apply State.hold_kept | with_reducible apply State.updRing_kept | extract_lets x | split | intro _

theorem execParamWritePairApply_kept (ring : Idx) (h : Kept q d s) : NextKept q d (execParamWritePairApply ring s) := by
  refine Kept.next ?_
  repeat' first
    | with_reducible assumption | with_reducible apply State.enter_kept | with_reducible apply State.updRing_kept
    | with_reducible apply State.ok_kept | with_reducible apply State.post_kept | with_reducible apply State.startPll_kept
    | with_reducible apply State.applyParam_kept | with_reducible apply State.noteApplied_kept | extract_lets x | split

theorem execParamDescribe_kept (m : Msg) (h : Kept q d s) : NextKept q d (execParamDescribe m s) := by
  refine Kept.next ?_
  repeat' first
    | with_reducible assumption | with_reducible apply State.enter_kept | with_reducible apply State.command_kept
    | with_reducible apply State.ok_kept | split | intro _

theorem execFamilyList_kept (m : Msg) (h : Kept q d s) : NextKept q d (execFamilyList m s) :=
  h.command fun _ _ hu => State.ok_kept _ _ hu

theorem execTableLoad_kept (m : Msg) (h : Kept q d s) : NextKept q d (execTableLoad m s) :=
  h.command fun _ _ hu => State.ok_kept _ _ (State.setStaging_kept _ _ hu)

theorem execTableCommit_kept (m : Msg) (h : Kept q d s) : NextKept q d (execTableCommit m s) :=
  h.command fun _ _ hu => State.ok_kept _ _ (State.commitTable_kept _ _ hu)

theorem execTableRead_kept (m : Msg) (h : Kept q d s) : NextKept q d (execTableRead m s) :=
  h.command fun _ _ hu => State.ok_kept _ _ hu

theorem execTableDiscard_kept (m : Msg) (h : Kept q d s) : NextKept q d (execTableDiscard m s) :=
  h.command fun _ _ hu => State.ok_kept _ _ (State.setStaging_kept _ _ hu)

/-! ### Every row -/

/-- Every command answers a next state, and keeps the queue, the die and soundness: one lemma for each row. -/
theorem exec_kept (c : Instr) (h : Kept q d s) : NextKept q d (exec c s) := by
  cases c with
  | nop m => exact execNop_kept m h
  | versionGet m => exact execVersionGet_kept m h
  | modeSet m => exact execModeSet_kept m h
  | dormantEnter m => exact execDormantEnter_kept m h
  | eventRoute m => exact execEventRoute_kept m h
  | eventRouteGet m => exact execEventRouteGet_kept m h
  | faultList m => exact execFaultList_kept m h
  | faultClear m => exact execFaultClear_kept m h
  | pressCommit m => exact execPressCommit_kept m h
  | pressClear m => exact execPressClear_kept m h
  | serviceSet m => exact execServiceSet_kept m h
  | promote m => exact execPromote_kept m h
  | groupSet m => exact execGroupSet_kept m h
  | groupGet m => exact execGroupGet_kept m h
  | groupClear m => exact execGroupClear_kept m h
  | paramRead m => exact execParamRead_kept m h
  | paramWrite m => exact execParamWrite_kept m h
  | paramWritePairApply ring => exact execParamWritePairApply_kept ring h
  | paramDescribe m => exact execParamDescribe_kept m h
  | familyList m => exact execFamilyList_kept m h
  | tableLoad m => exact execTableLoad_kept m h
  | tableCommit m => exact execTableCommit_kept m h
  | tableRead m => exact execTableRead_kept m h
  | tableDiscard m => exact execTableDiscard_kept m h
  | castleStage m => exact execCastleStage_kept m h
  | castleArm m => exact execCastleArm_kept m h
  | castleDisarm m => exact execCastleDisarm_kept m h
  | castleClear m => exact execCastleClear_kept m h
  | castleStatus m => exact execCastleStatus_kept m h
  | ticketBuild m => exact execTicketBuild_kept m h
  | ticketSealArm m => exact execTicketSealArm_kept m h
  | ticketDisarm m => exact execTicketDisarm_kept m h
  | ticketFree m => exact execTicketFree_kept m h
  | ticketStatus m => exact execTicketStatus_kept m h
  | storeAlloc m => exact execStoreAlloc_kept m h
  | storeFree m => exact execStoreFree_kept m h
  | storeFence m => exact execStoreFence_kept m h
  | storeFenceComplete ring => exact execStoreFenceComplete_kept ring h
  | storeFenceTimeout ring => exact execStoreFenceTimeout_kept ring h
  | dmaOpen m => exact execDmaOpen_kept m h
  | dmaClose m => exact execDmaClose_kept m h
  | compressJob m => exact execCompressJob_kept m h
  | compressJobStart => exact execCompressJobStart_kept h
  | compressJobEnd ue => exact execCompressJobEnd_kept ue h
  | tileEnable m => exact execTileEnable_kept m h
  | tileDisable m => exact execTileDisable_kept m h
  | move m => exact execMove_kept m h
  | stop m => exact execStop_kept m h
  | gearSet m => exact execGearSet_kept m h
  | polyStart m => exact execPolyStart_kept m h
  | diagRun m => exact execDiagRun_kept m h
  | stationEnable m => exact execStationEnable_kept m h
  | stationDisable m => exact execStationDisable_kept m h
  | linkTrain m => exact execLinkTrain_kept m h
  | linkTrainDone link countEqual => exact execLinkTrainDone_kept link countEqual h
  | beamMonitor m => exact execBeamMonitor_kept m h
  | railSequenceUp m => exact execRailSequenceUp_kept m h
  | railSequenceDown m => exact execRailSequenceDown_kept m h
  | railStatus m => exact execRailStatus_kept m h
  | ageingNew m => exact execAgeingNew_kept m h
  | marginPlan m => exact execMarginPlan_kept m h
  | marginPlanDone p => exact execMarginPlanDone_kept p h
  | scrub m => exact execScrub_kept m h
  | scrubDone inst => exact execScrubDone_kept inst h
  | spiXfer m => exact execSpiXfer_kept m h
  | spiTransferDone ctrl rx => exact execSpiTransferDone_kept ctrl rx h
  | i2cXfer m => exact execI2cXfer_kept m h
  | i2cTransferDone ctrl r => exact execI2cTransferDone_kept ctrl r h
  | bootCtrlGo v => exact execBootCtrlGo_kept v h
  | bootCheckDone => exact execBootCheckDone_kept h
  | bootRomInitDone => exact execBootRomInitDone_kept h
  | firmwareReset v => exact execFirmwareReset_kept v h
  | helloPost => exact execHelloPost_kept h
  | mbCtrlEnWrite ring v => exact execMbCtrlEnWrite_kept ring v h
  | mbCmdTailDoorbell ring v => exact execMbCmdTailDoorbell_kept ring v h
  | mailboxCommandTake ring ue => exact execMailboxCommandTake_kept ring ue h
  | mbRspHeadWrite ring v => exact execMbRspHeadWrite_kept ring v h
  | responseEntryPost ring ue => exact execResponseEntryPost_kept ring ue h
  | ringInterrupt ring => exact execRingInterrupt_kept ring h
  | tempoLoRead => exact execTempoLoRead_kept h
  | ilkOpenSeenClear v => exact execIlkOpenSeenClear_kept v h
  | ilkCountRead => exact execIlkCountRead_kept h
  | dmaStatusClear ch v => exact execDmaStatusClear_kept ch v h
  | dmaDoneCountRead ch => exact execDmaDoneCountRead_kept ch h
  | dmaBadCountRead ch => exact execDmaBadCountRead_kept ch h
  | dmaDoorbellRing ch by_ => exact execDmaDoorbellRing_kept ch by_ h
  | dmaDoorbellStop ch v => exact execDmaDoorbellStop_kept ch v h
  | eccStatusClear inst v => exact execEccStatusClear_kept inst v h
  | eccCeCountRead inst => exact execEccCeCountRead_kept inst h
  | eccUeCountRead inst => exact execEccUeCountRead_kept inst h
  | eccTestEnable inst v => exact execEccTestEnable_kept inst v h
  | readRaw inst => exact execReadRaw_kept inst h
  | readChecked inst => exact execReadChecked_kept inst h
  | writeData inst => exact execWriteData_kept inst h
  | writeCheck inst => exact execWriteCheck_kept inst h
  | writeRaw inst => exact execWriteRaw_kept inst h
  | writeNormal inst => exact execWriteNormal_kept inst h
  | eccTestDone inst => exact execEccTestDone_kept inst h
  | bar0BadAccess write off len => exact execBar0BadAccess_kept write off len h
  | bar2Access write off len data => exact execBar2Access_kept write off len data h
  | registerWrite off v => exact execRegisterWrite_kept off v h
  | standbyPowerOn => exact execStandbyPowerOn_kept h
  | pinReset => exact execPinReset_kept h
  | wakeFilterDone => exact execWakeFilterDone_kept h
  | ownRailSettled rail => exact execOwnRailSettled_kept rail h
  | ownRailRiseTimeout rail => exact execOwnRailRiseTimeout_kept rail h
  | wakeSpllLocked => exact execWakeSpllLocked_kept h
  | hostLinkReset cause => exact execHostLinkReset_kept cause h
  | ownRailFault rail => exact execOwnRailFault_kept rail h
  | ownRailFaultRl00 => exact execOwnRailFaultRl00_kept h
  | ownRailPowerDown => exact execOwnRailPowerDown_kept h
  | dormantPgLost rail => exact execDormantPgLost_kept rail h
  | ilkOpen a b => exact execIlkOpen_kept a b h
  | ilkRelease => exact execIlkRelease_kept h
  | ilkDisagree => exact execIlkDisagree_kept h
  | tsyncFrameSend => exact execTsyncFrameSend_kept h
  | tsyncFrameReceive edge mk crc => exact execTsyncFrameReceive_kept edge mk crc h
  | tsyncLost => exact execTsyncLost_kept h
  | clockStart unit => exact execClockStart_kept unit h
  | pllBandFound pll band => exact execPllBandFound_kept pll band h
  | pllLockWindow pll count expected => exact execPllLockWindow_kept pll count expected h
  | pllRefLost pll => exact execPllRefLost_kept pll h
  | pllTempCorrection pll => exact execPllTempCorrection_kept pll h
  | meCountCapture me levels edge => exact execMeCountCapture_kept me levels edge h
  | meIndexEdge e => exact execMeIndexEdge_kept e h
  | gpioEdgeCapture pin level => exact execGpioEdgeCapture_kept pin level h
  | castleTrigger slot => exact execCastleTrigger_kept slot h
  | ticketResident tk => exact execTicketResident_kept tk h
  | headerCheck tk entry rank => exact execHeaderCheck_kept tk entry rank h
  | sealEvaluation tk ue => exact execSealEvaluation_kept tk ue h
  | flagFall tk => exact execFlagFall_kept tk h
  | timelineEntryTrigger tk entry ue => exact execTimelineEntryTrigger_kept tk entry ue h
  | exitCastle x => exact execExitCastle_kept x h
  | sheetOverrun tk => exact execSheetOverrun_kept tk h
  | modeTransitionComplete => exact execModeTransitionComplete_kept h
  | watchdogExpire cause => exact execWatchdogExpire_kept cause h
  | dramTrainingDone ch0 ch1 => exact execDramTrainingDone_kept ch0 ch1 h
  | dmaDescriptorStart ch d => exact execDmaDescriptorStart_kept ch d h
  | dmaDescriptorComplete ch => exact execDmaDescriptorComplete_kept ch h
  | dmaLookAgain ch d => exact execDmaLookAgain_kept ch d h
  | sharedResourceGrant res data => exact execSharedResourceGrant_kept res data h
  | dramWriteArrival seq => exact execDramWriteArrival_kept seq h
  | mergeBufferDrain inst word => exact execMergeBufferDrain_kept inst word h
  | fetchReturn lane => exact execFetchReturn_kept lane h
  | laneLineWrite lane ue => exact execLaneLineWrite_kept lane ue h
  | laneSubstreamComplete lane => exact execLaneSubstreamComplete_kept lane h
  | mapperStart link ue => exact execMapperStart_kept link ue h
  | beamLinkFrame link => exact execBeamLinkFrame_kept link h
  | bcStatus link p => exact execBcStatus_kept link p h
  | bcMon link p => exact execBcMon_kept link p h
  | bcLineLost link p => exact execBcLineLost_kept link p h
  | bcMgmtRsp link p => exact execBcMgmtRsp_kept link p h
  | bcEmitterFault link p => exact execBcEmitterFault_kept link p h
  | backchannelLost link => exact execBackchannelLost_kept link h
  | bdEdgeCapture st edge => exact execBdEdgeCapture_kept st edge h
  | bdWindowMiss st => exact execBdWindowMiss_kept st h
  | facetBoundary st edge time => exact execFacetBoundary_kept st edge time h
  | seekPulse st => exact execSeekPulse_kept st h
  | facetIndexEdge st => exact execFacetIndexEdge_kept st h
  | pslDownFrame tile => exact execPslDownFrame_kept tile h
  | pslUpFrame tile w => exact execPslUpFrame_kept tile w h
  | slowFault tile => exact execSlowFault_kept tile h
  | slowCfgAck tile => exact execSlowCfgAck_kept tile h
  | slowDiag tile => exact execSlowDiag_kept tile h
  | slowIndex tile => exact execSlowIndex_kept tile h
  | slowResolver tile => exact execSlowResolver_kept tile h
  | slowTemp tile => exact execSlowTemp_kept tile h
  | slowIdent tile => exact execSlowIdent_kept tile h
  | offokTimeout tile sw => exact execOffokTimeout_kept tile sw h
  | twoStepDone tile => exact execTwoStepDone_kept tile h
  | retryWaitExpire tile => exact execRetryWaitExpire_kept tile h
  | enablingTimeout tile => exact execEnablingTimeout_kept tile h
  | diagStepTimeout tile => exact execDiagStepTimeout_kept tile h
  | selftestWindowEnd tile => exact execSelftestWindowEnd_kept tile h
  | busVoltageUpdate tile => exact execBusVoltageUpdate_kept tile h
  | busStageFall bus => exact execBusStageFall_kept bus h
  | profileTick ax => exact execProfileTick_kept ax h
  | sixstepAlignDone tile => exact execSixstepAlignDone_kept tile h
  | polyAlignDone tile => exact execPolyAlignDone_kept tile h
  | polyBlindTimeout tile => exact execPolyBlindTimeout_kept tile h
  | polySyncTimeout tile => exact execPolySyncTimeout_kept tile h
  | polyCatchDone tile emf angle speed => exact execPolyCatchDone_kept tile emf angle speed h
  | currentSample tile ue => exact execCurrentSample_kept tile ue h
  | resonanceScanDone tile => exact execResonanceScanDone_kept tile h
  | zonePoll tile => exact execZonePoll_kept tile h
  | zoneReadDone tile zone rx => exact execZoneReadDone_kept tile zone rx h
  | heatWindowSettled tile => exact execHeatWindowSettled_kept tile h
  | hvWindowSettled tile leg => exact execHvWindowSettled_kept tile leg h
  | hvArcOffExpire tile leg => exact execHvArcOffExpire_kept tile leg h
  | sequpInHigh => exact execSequpInHigh_kept h
  | cascadeWaitTimeout => exact execCascadeWaitTimeout_kept h
  | railDelayExpire rail => exact execRailDelayExpire_kept rail h
  | railSettled rail => exact execRailSettled_kept rail h
  | railRiseTimeout r => exact execRailRiseTimeout_kept r h
  | railLost rail => exact execRailLost_kept rail h
  | railTurnOff rail => exact execRailTurnOff_kept rail h
  | pmbusVoutPoll rail r => exact execPmbusVoutPoll_kept rail r h
  | railFallen rail => exact execRailFallen_kept rail h
  | railFallTimeout rail => exact execRailFallTimeout_kept rail h
  | pwrfltSeen => exact execPwrfltSeen_kept h
  | thermalConversion readings => exact execThermalConversion_kept readings h
  | runoutProgramExpire ax => exact execRunoutProgramExpire_kept ax h
  | ledgerWriteDone => exact execLedgerWriteDone_kept h
  | perstDeassert => exact execPerstDeassert_kept h
  | hostLinkUp => exact execHostLinkUp_kept h
  | seqdnInHigh => exact execSeqdnInHigh_kept h
  | heatHvStatusReport tile => exact execHeatHvStatusReport_kept tile h
  | pwrfltNRelease => exact execPwrfltNRelease_kept h
  | resetNRelease => exact execResetNRelease_kept h
  | standbyPowerLoss => exact execStandbyPowerLoss_kept h
  | retryFurtherWaitExpire tile => exact execRetryFurtherWaitExpire_kept tile h

end Sys2Proof.Machine
end

section
namespace Sys2Proof.Proofs
open Sys2Proof Sys2Proof.Machine Sys2Proof.Claims

/-- Settles O4: a sound state is kept with its own queue and die, and `exec_kept` gives the next state. -/
theorem noCommandChangesTheQueueOrTheDie : Obligations.NoCommandChangesTheQueueOrTheDie := by
  intro c s hs
  obtain ⟨t, ht, hk⟩ := exec_kept c (q := s.pending) (d := s.die) ⟨rfl, rfl, hs⟩
  exact ⟨t, ht, hk.queue, hk.die⟩

end Sys2Proof.Proofs
end

section
namespace Sys2Proof.Machine
open Sys2Proof Sys2Proof.Claims
variable {s : State} {op n mask : Nat} {m : Msg}

/-! ### A message that firmware takes -/

/-- With no refusal, a message command that is taken at its place has its effect on the state that stands. -/
theorem State.command_of_takes (h : Takes op m n mask s) {refs : List Ref} (hr : refs = [])
    (effect : Reply → State → State) : s.command op m refs effect = effect (s.replyOf op m) s := by
  obtain ⟨ht, -, -, -, hc⟩ := h
  subst hr
  exact s.command_runs op m effect ht hc

theorem Msg.plen_nil (h : m.payload.length = n) : m.plen n = [] := by simp [Msg.plen, h]

theorem Msg.argRes_nil (h : Nat.land m.arg.toNat mask = 0) : m.argRes mask = [] := by
  unfold Msg.argRes; rw [h]; rfl

theorem State.inModes_nil {ms : List Mode} (h : s.md.mode ∈ ms) : s.inModes ms = [] := by simp [State.inModes, h]

/-! ### SERVICE_SET -/

@[simp] theorem State.ok_inService (r : Reply) (b : Bytes) (c i : Nat) : (s.ok r b).inService c i = s.inService c i := rfl

/-- A unit that is removed is out of service, whatever else its removal does. -/
theorem State.setService_removes (c i : Nat) : (s.setService c i false).inService c i = false := by
  simp [State.setService, State.inService, Map.get_put]

/-- A unit that is returned is in service where the die has it. -/
theorem State.setService_returns {c i : Nat} (h : s.present c i = true) : (s.setService c i true).inService c i = true := by
  have hd : (s.setService c i true).die = s.die := by
    unfold State.setService
    split
    · split
      · rfl
      · rfl
    · contradiction
  have hr : (s.setService c i true).removed = Map.put (fun _ => false) s.removed (obj c i) false := by
    unfold State.setService
    split
    · split
      · rfl
      · rfl
    · contradiction
  have hp : (s.setService c i true).present c i = s.present c i := by unfold State.present State.nSt; rw [hd]
  simp [State.inService, hp, h, hr, Map.get_put]

/-- The return of a unit touches no fault record and no parameter. -/
theorem State.setService_true_frame (c i : Nat) :
    (s.setService c i true).faults = s.faults ∧ (s.setService c i true).params = s.params := by
  unfold State.setService
  split
  · split
    · exact ⟨rfl, rfl⟩
    · exact ⟨rfl, rfl⟩
  · contradiction

/-- SERVICE_SET of a unit that is there to be removed or returned has its effect. -/
theorem execServiceSet_runs (h : Takes 0x0110 m 0 0xffffff0000000000 s) (hm : s.md.mode ∈ modesCfSbSh)
    {c i : Nat} (hp : aPid (m.argN 8 4) = 0) (hc : aCls (m.argN 8 4) = c) (hi : aIdx (m.argN 8 4) = i)
    (hcs : c ∈ [clsSTN, clsBEAM, clsVL, clsDL, clsDT]) (hlt : i < classInstances c) (hb : m.argN 12 1 ≤ 1)
    (hh : (if m.argN 12 1 = 1 then s.present c i else s.inService c i) = true) :
    execServiceSet m s = .next ((if m.argN 12 1 = 1 ∧ s.inService c i then s
      else s.setService c i (m.argN 12 1 == 1)).ok (s.replyOf 0x0110 m)) := by
  obtain ⟨-, hat, hlen, hres, -⟩ := id h
  have hcls : [clsSTN, clsBEAM, clsVL, clsDL, clsDT].contains c = true := by simpa using hcs
  unfold execServiceSet
  rw [hat]
  subst hc hi
  refine congrArg _ (State.command_of_takes h ?_ _)
  rw [Msg.plen_nil hlen, Msg.argRes_nil hres, State.inModes_nil hm, if_neg (Nat.not_le.2 hlt), hcls, hh, hp]
  simp [Nat.not_lt.2 hb]

end Sys2Proof.Machine

namespace Sys2Proof.Proofs
open Sys2Proof Sys2Proof.Machine Sys2Proof.Claims

/-- Settles O9: the command runs, and its effect is `State.setService`, or nothing where the unit is in service already. -/
theorem serviceSetRemovesAndReturnsUnits : Obligations.ServiceSetRemovesAndReturnsUnits := by
  intro m s ht hm hp hc hi
  refine ⟨fun hb hs => ?_, fun hb hs => ?_⟩
  · have hx := execServiceSet_runs ht hm hp rfl rfl hc hi (by omega) (by simpa [hb] using hs)
    rw [if_neg (by omega), hb] at hx
    exact ⟨_, hx, State.setService_removes _ _⟩
  · have hx := execServiceSet_runs ht hm hp rfl rfl hc hi (by omega) (by simpa [hb] using hs)
    refine ⟨_, hx, ?_⟩
    rw [hb]
    split
    · next h => exact ⟨h.2, rfl, rfl⟩
    · exact ⟨State.setService_returns hs, State.setService_true_frame _ _⟩

end Sys2Proof.Proofs
end

section
namespace Sys2Proof.Machine
open Sys2Proof Sys2Proof.Claims
variable {s : State}

/-! ### Bits and maps -/

/-- A bit as Lean's own test of it. -/
theorem bit_eq_testBit (x i : Nat) : bit x i = x.testBit i := by
  rw [bit, Nat.testBit_eq_decide_div_mod_eq]; rfl

theorem bit_lor_pow (x i : Nat) : bit (Nat.lor x (2 ^ i)) i = true := by
  rw [bit_eq_testBit]
  exact (Nat.testBit_or x (2 ^ i) i).trans (by simp)

/-- Successive writes from a key on: the keys written hold what was written, and the others what they held. -/
theorem Map.get_foldl_put {α : Type} [DecidableEq α] (d : Nat → α) (m : Map α) (off : Nat) (f : Nat → α) (n a : Nat) :
    Map.get d ((List.range n).foldl (fun w j => Map.put d w (off + j) (f j)) m) a
      = if off ≤ a ∧ a < off + n then f (a - off) else Map.get d m a := by
  induction n with
  | zero => exact (if_neg (by omega)).symm
  | succ n ih =>
    rw [List.range_succ, List.foldl_append]
    simp only [List.foldl_cons, List.foldl_nil, Map.get_put, ih]
    by_cases ha : a = off + n
    · subst ha; simp
    · rw [if_neg ha]
      by_cases hr : off ≤ a ∧ a < off + n
      · rw [if_pos hr, if_pos ⟨hr.1, by omega⟩]
      · rw [if_neg hr, if_neg (by omega)]

/-! ### Accesses of the host, and reads of BAR0 -/

/-- An access over a link that is up reaches the device. -/
theorem State.access_of_reachable (h : s.host.reachable = true) (f : State → State) : s.access f = f s := if_pos h

/-- A row that is an access of the host, over a link that is up. -/
theorem next_access {f : State → State} {t : State} (h : s.host.reachable = true) (hf : f s = t) :
    (.next (s.access f) : Host.Outcome State Fault Refusal) = .next t := by rw [State.access_of_reachable h, hf]

theorem State.read4_tempoLo (s : State) : s.read4 0x2000
    = (s.tempo % 2 ^ 32, { s with host := { s.host with tempoHi := s.tempo / 2 ^ 32 % 2 ^ 32 } }) := rfl

theorem State.read4_ilkCount (s : State) : s.read4 0x4004 = s.takeIlk := rfl

theorem State.read4_ilkStatus (s : State) : s.read4 0x4000
    = (b2n s.video.ilkA + 2 * b2n s.video.ilkB + 4 * b2n s.video.blanked + 8 * b2n s.video.openSeen, s) := rfl

/-- An 8-byte read but that of TEMPO is two of 4, the lower address first. -/
theorem State.read8_eq {off : Nat} (h : off ≠ 0x2000) : s.read8 off
    = ((s.read4 off).1 + ((s.read4 off).2.read4 (off + 4)).1 * 2 ^ 32, ((s.read4 off).2.read4 (off + 4)).2) := if_neg h

theorem execBar0BadAccess_write (off len : Nat) : execBar0BadAccess true off len s = .next s := by
  unfold execBar0BadAccess State.access; simp

/-- A read that BAR0 accepts answers. -/
theorem execBar0BadAccess_aligned (h : s.host.reachable = true) {off len : Nat} (hl : len = 4 ∨ len = 8) (ho : off % len = 0) :
    execBar0BadAccess false off len s = .next (s.answer off (len == 8)) := by
  unfold execBar0BadAccess
  rw [State.access_of_reachable h, if_neg (by decide), if_pos ⟨hl, ho⟩]

/-- A read that BAR0 does not accept is aborted and logged. -/
theorem execBar0BadAccess_bad (h : s.host.reachable = true) {off len : Nat} (hb : ¬ ((len = 4 ∨ len = 8) ∧ off % len = 0)) :
    execBar0BadAccess false off len s = .next (s.logAbort.emit .completerAbort) := by
  unfold execBar0BadAccess
  rw [State.access_of_reachable h, if_neg (by decide), if_neg hb]

/-- An aligned 8-byte read. -/
theorem State.answer_wide {off : Nat} (h : off % 8 = 0) :
    s.answer off true = (s.read8 off).2.emit (.completion (toLE 8 (s.read8 off).1)) := by
  have : off / 8 * 8 = off := by omega
  unfold State.answer
  rw [if_pos rfl, this]

/-! ### Writes of registers -/

/-- A 4-byte write below the configuration space. -/
theorem execRegisterWrite_word (h : s.host.reachable = true) {off : Nat} (ho : off < 0x200000) (v : Word) :
    execRegisterWrite off (.word v) s = .next (s.writeReg off v.toNat) := by
  unfold execRegisterWrite
  rw [if_neg (by omega), State.access_of_reachable h]

/-- An aligned 8-byte write below the configuration space is two of 4, the lower address first. -/
theorem execRegisterWrite_dword (h : s.host.reachable = true) {off : Nat} (ho : off < 0x200000) (ha : off % 8 = 0) (v : DWord) :
    execRegisterWrite off (.dword v) s = .next ((s.writeReg off (v.toNat % 2 ^ 32)).writeReg (off + 4) (v.toNat / 2 ^ 32)) := by
  unfold execRegisterWrite
  rw [if_neg (by omega), State.access_of_reachable h]
  simp only [ha, if_true]

theorem execRegisterWrite_dword_misaligned (h : s.host.reachable = true) {off : Nat} (ho : off < 0x200000) (ha : off % 8 ≠ 0)
    (v : DWord) : execRegisterWrite off (.dword v) s = .next s := by
  unfold execRegisterWrite
  rw [if_neg (by omega), State.access_of_reachable h]
  simp only [ha, if_false]

/-- No register of identity, capabilities, tempo or faults takes a write. -/
theorem State.writeReg_readOnly {off : Nat} (h : off < 0x1000 ∨ (0x2000 ≤ off ∧ off < 0x4000)) (v : Nat) :
    s.writeReg off v = s := by
  unfold State.writeReg
  split
  · rfl
  · simp only [show off ≠ 0x1010 by omega, show off ≠ 0x4000 by omega, show ¬ 0x10000 ≤ off by omega,
      show ¬ 0x11000 ≤ off by omega, show ¬ 0x20000 ≤ off by omega, show ¬ 0x100000 ≤ off by omega,
      show ¬ 0x200000 ≤ off by omega, false_and, if_false]

/-- A write of a ring's register. -/
theorem State.writeReg_ring {n r : Nat} (hn : n < 16) (hr : r < 0x40) (h4 : r % 4 = 0) (v : Nat) :
    s.writeReg (0x10000 + 0x40 * n + r) v = s.writeRing n r v := by
  unfold State.writeReg
  rw [if_neg (by omega), if_neg (by omega), if_neg (by omega), if_pos (by omega)]
  congr 1 <;> omega

/-- The interrupt word sets its three fields. -/
theorem State.writeRing_interrupt (n v : Nat) : s.writeRing n 0x24 v
    = s.setRing n { s.ring n with vec := field v 0 6, irqCount := field v 8 6, irqTime := field v 16 16 } := rfl

/-- The ring size is written while the ring is disabled only. -/
theorem State.writeRing_size (n v : Nat) : s.writeRing n 0x18 v
    = if (s.ring n).en then s else s.setRing n { s.ring n with log2 := v % 16 } := rfl

/-! ### BAR2 -/

theorem execBar2Access_eq (h : s.host.reachable = true) (write : Bool) (off len : Nat) (data : Bytes) :
    execBar2Access write off len data s = .next (s.bar2 write off len data) := next_access h rfl

/-- A write within the image window keeps its bytes there. -/
theorem State.bar2_write_window {off len : Nat} (data : Bytes) (hl : 1 ≤ len) (hu : len ≤ 512) (he : off + len ≤ 0x800000)
    (hw : s.windowOpen = true) : s.bar2 true off len data = { s with md := { s.md with
      window := (List.range len).foldl (fun w j => Map.put (fun _ => (0 : Byte)) w (off + j) (data.getD j 0)) s.md.window } } := by
  unfold State.bar2
  rw [if_neg (by omega)]
  simp [hw, he]

theorem State.bar2_read_window {off len : Nat} (data : Bytes) (hl : 1 ≤ len) (hu : len ≤ 512) (he : off + len ≤ 0x800000)
    (hw : s.windowOpen = true) : s.bar2 false off len data = s.emit (.completion (s.image off len)) := by
  unfold State.bar2
  rw [if_neg (by omega)]
  simp [hw, he, State.image]

/-- Where no region is open, a write is dropped and a read answers zeros. -/
theorem State.bar2_closed (write : Bool) {off len : Nat} (data : Bytes) (hl : 1 ≤ len) (hu : len ≤ 512) (hw : s.windowOpen = false)
    (hr : s.md.boot ≠ .running) :
    s.bar2 write off len data = if write then s else s.emit (.completion (List.replicate len 0)) := by
  unfold State.bar2
  rw [if_neg (by omega)]
  simp [hw, hr]

/-- What the image window holds after a write to it. -/
theorem State.image_after_write (off len : Nat) (f : Nat → Byte) (a n : Nat) :
    State.image { s with md := { s.md with
        window := (List.range len).foldl (fun w j => Map.put (fun _ => (0 : Byte)) w (off + j) (f j)) s.md.window } } a n
      = (List.range n).map (fun j => if off ≤ a + j ∧ a + j < off + len then f (a + j - off)
          else Map.get (fun _ => (0 : Byte)) s.md.window (a + j)) := by
  simp only [State.image, Map.get_foldl_put]

end Sys2Proof.Machine

namespace Sys2Proof.Proofs
open Sys2Proof Sys2Proof.Machine Sys2Proof.Claims
variable {s : State}

/-- TEMPO_LO, and the whole of TEMPO. -/
theorem tempo_reads (h : s.host.reachable = true) :
    exec .tempoLoRead s = .next ({ s with host := { s.host with tempoHi := s.tempo / 2 ^ 32 % 2 ^ 32 } }.emit
      (.completion (toLE 4 (s.tempo % 2 ^ 32))))
    ∧ exec (.bar0BadAccess false 0x2000 8) s = .next (s.emit (.completion (toLE 8 s.tempo))) :=
  ⟨next_access h rfl,
    (execBar0BadAccess_aligned h (.inr rfl) (by decide)).trans (congrArg _ (State.answer_wide (by decide)))⟩

/-- ILK_COUNT, and ILK_STATUS with it. -/
theorem ilkCount_reads (h : s.host.reachable = true) :
    exec .ilkCountRead s = .next ({ s with video := { s.video with ilkCount := s.video.ilkNew.now s.tempo } }.emit
        (.completion (toLE 4 (s.video.ilkCount - s.video.ilkNew.now s.tempo))))
      ∧ exec (.bar0BadAccess false 0x4000 8) s = .next
        ({ s with video := { s.video with ilkCount := s.video.ilkNew.now s.tempo } }.emit
        (.completion (toLE 8 (b2n s.video.ilkA + 2 * b2n s.video.ilkB + 4 * b2n s.video.blanked + 8 * b2n s.video.openSeen
          + (s.video.ilkCount - s.video.ilkNew.now s.tempo) * 2 ^ 32)))) := by
  refine ⟨next_access h rfl,
    (execBar0BadAccess_aligned h (.inr rfl) (by decide)).trans (congrArg _ ((State.answer_wide (by decide)).trans ?_))⟩
  rw [State.read8_eq (by decide), State.read4_ilkStatus, State.read4_ilkCount]
  rfl

/-- Settles O34, register by register. -/
theorem registersReadAndWriteAsTheirFieldMapsSay : Obligations.RegistersReadAndWriteAsTheirFieldMapsSay := by
  intro s h
  refine ⟨(tempo_reads h).1, (tempo_reads h).2, ?ilk, ?openSeen, ?bar0, ?dword, ?window, ?closed, ?ring, ?readOnly⟩
  case ilk => rintro k rfl; exact ilkCount_reads h
  case openSeen =>
    intro v hv
    exact next_access h (if_pos hv)
  case bar0 =>
    refine fun off len => ⟨execBar0BadAccess_write off len, fun hb => ?_, execBar0BadAccess_aligned h⟩
    exact ⟨_, execBar0BadAccess_bad h hb, rfl, bit_lor_pow _ _, rfl, rfl⟩
  case dword => exact fun off v ha ho => execRegisterWrite_dword h ho ha v
  case window =>
    intro off len data hl hu he hb
    have hw : s.windowOpen = true := by simpa [State.windowOpen] using hb
    refine ⟨⟨_, (execBar2Access_eq h _ _ _ _).trans (congrArg _ (State.bar2_write_window data hl hu he hw)), ?_, ?_⟩,
      (execBar2Access_eq h _ _ _ _).trans (congrArg _ (State.bar2_read_window data hl hu he hw))⟩
    · rw [State.image_after_write]
      refine List.map_congr_left fun j hj => ?_
      have hj : j < len := List.mem_range.1 hj
      rw [if_pos (by omega), Nat.add_sub_cancel_left]
    · intro a ha
      rw [State.image_after_write]
      refine List.map_congr_left fun j hj => ?_
      have hj : j < 1 := List.mem_range.1 hj
      rw [if_neg (by omega)]
  case closed =>
    intro off len data hl hu h1 h2 h3
    have hw : s.windowOpen = false := by simp [State.windowOpen, h1, h2]
    exact ⟨(execBar2Access_eq h _ _ _ _).trans (congrArg _ (State.bar2_closed false data hl hu hw h3)),
      (execBar2Access_eq h _ _ _ _).trans (congrArg _ (State.bar2_closed true data hl hu hw h3))⟩
  case ring =>
    intro v n hn
    have hi : exec (.registerWrite (0x10024 + 0x40 * n) (.word v)) s = .next (s.writeRing n 0x24 v.toNat) := by
      rw [show 0x10024 + 0x40 * n = 0x10000 + 0x40 * n + 0x24 by omega, ← State.writeReg_ring hn (by decide) (by decide)]
      exact execRegisterWrite_word h (by omega) v
    have hs : exec (.registerWrite (0x10018 + 0x40 * n) (.word v)) s = .next (s.writeRing n 0x18 v.toNat) := by
      rw [show 0x10018 + 0x40 * n = 0x10000 + 0x40 * n + 0x18 by omega, ← State.writeReg_ring hn (by decide) (by decide)]
      exact execRegisterWrite_word h (by omega) v
    refine ⟨hi, fun he => ?_, fun he => ?_⟩
    · rw [hs, State.writeRing_size, if_pos he]
    · rw [hs, State.writeRing_size, if_neg (by simp [he])]
  case readOnly =>
    intro v off ho
    cases v with
    | word x => exact (execRegisterWrite_word h (by omega) x).trans (congrArg _ (State.writeReg_readOnly ho _))
    | dword x =>
      by_cases ha : off % 8 = 0
      · refine (execRegisterWrite_dword h (by omega) ha x).trans (congrArg _ ?_)
        rw [State.writeReg_readOnly ho, State.writeReg_readOnly (by omega)]
      · exact execRegisterWrite_dword_misaligned h (by omega) ha x

end Sys2Proof.Proofs
end

section
namespace Sys2Proof.Machine
open Sys2Proof Sys2Proof.Claims
variable {s : State} {i w : Nat} {v : Nat × Nat}

/-! ### Reads of the ECC registers -/

/-- There are 24 instances. -/
theorem State.eccOpen_lt (h : s.eccOpen i = true) : i < 24 := by
  simp only [State.eccOpen, State.memHere, Bool.and_eq_true] at h
  refine Nat.lt_of_not_le fun hi => ?_
  obtain ⟨-, h⟩ := h
  rw [if_neg (by omega), if_neg (by omega), if_neg (by omega)] at h
  exact Nat.not_lt.2 hi (of_decide_eq_true h)

/-- Which registers are open does not depend on what a memory holds. -/
@[simp] theorem State.updMem_eccOpen (k : Nat) (f : Mem → Mem) (i : Nat) : (s.updMem k f).eccOpen i = s.eccOpen i := rfl

theorem State.takeCe_of_open (h : s.eccOpen i = true) : s.takeCe i
    = ((s.mem i).ceCount - (s.mem i).ceNew.now s.tempo,
      s.updMem i (fun m => { m with ceCount := (s.mem i).ceNew.now s.tempo })) := if_pos h

theorem State.takeUe_of_open (h : s.eccOpen i = true) : s.takeUe i
    = ((s.mem i).ueCount - (s.mem i).ueNew.now s.tempo,
      s.updMem i (fun m => { m with ueCount := (s.mem i).ueNew.now s.tempo })) := if_pos h

/-- A 4-byte read of ECC_CE_COUNT takes it. -/
theorem State.read4_ceCount (hi : i < 24) : s.read4 (0x20004 + 0x40 * i) = s.takeCe i := by
  unfold State.read4
  rw [if_neg (by omega), if_neg (by omega), if_neg (by omega), if_neg (by omega), if_pos (by omega)]
  congr 1; omega

/-- A 4-byte read of ECC_UE_COUNT takes it. -/
theorem State.read4_ueCount (hi : i < 24) : s.read4 (0x20008 + 0x40 * i) = s.takeUe i := by
  unfold State.read4
  rw [if_neg (by omega), if_neg (by omega), if_neg (by omega), if_neg (by omega), if_neg (by omega), if_pos (by omega)]
  congr 1; omega

/-- A 4-byte read of another ECC register changes nothing. -/
theorem State.read4_ecc {r : Nat} (hi : i < 24) (hr : r < 0x40) (h4 : r ≠ 0x04) (h8 : r ≠ 0x08) :
    s.read4 (0x20000 + 0x40 * i + r) = (s.readEcc i r, s) := by
  have hq : (0x20000 + 0x40 * i + r - 0x20000) / 0x40 = i := by omega
  have hm : (0x20000 + 0x40 * i + r) % 0x40 = r := by omega
  unfold State.read4 State.readReg
  rw [if_neg (by omega), if_neg (by omega), if_neg (by omega), if_neg (by omega), if_neg (by omega), if_neg (by omega),
    if_neg (by omega), if_neg (by omega), if_neg (by omega), if_neg (by omega), if_neg (by omega), if_pos (by omega), hq, hm]

theorem State.readEcc_status (h : s.eccOpen i = true) : s.readEcc i 0
    = 1 + 2 * b2n (s.mem i).test + 4 * b2n (s.mem i).ceSeen + 8 * b2n (s.mem i).ueSeen + 16 * b2n (s.mem i).scrub.isSome := by
  simp [State.readEcc, h]

theorem State.readEcc_lastLow (h : s.eccOpen i = true) : s.readEcc i 0x0c = (s.mem i).last % 2 ^ 32 := by
  simp [State.readEcc, h, lowWord]

/-- A count and what it shares an 8-byte word with, read together: ECC_STATUS and ECC_CE_COUNT. -/
theorem State.read8_status (h : s.eccOpen i = true) : s.read8 (0x20000 + 0x40 * i)
    = (s.readEcc i 0 + (s.takeCe i).1 * 2 ^ 32, (s.takeCe i).2) := by
  have hi := State.eccOpen_lt h
  have h0 := State.read4_ecc (s := s) (r := 0) hi (by decide) (by decide) (by decide)
  rw [State.read8_eq (by omega), ← Nat.add_zero (0x20000 + 0x40 * i), h0,
    show 0x20000 + 0x40 * i + 0 + 4 = 0x20004 + 0x40 * i by omega, State.read4_ceCount hi]

/-- ECC_UE_COUNT and the low word of the last error's address. -/
theorem State.read8_ueCount (h : s.eccOpen i = true) : s.read8 (0x20008 + 0x40 * i)
    = ((s.takeUe i).1 + (s.takeUe i).2.readEcc i 0x0c * 2 ^ 32, (s.takeUe i).2) := by
  have hi := State.eccOpen_lt h
  rw [State.read8_eq (by omega), State.read4_ueCount hi, show 0x20008 + 0x40 * i + 4 = 0x20000 + 0x40 * i + 0x0c by omega,
    State.read4_ecc hi (by decide) (by decide) (by decide)]

/-! ### Words of a memory -/

/-- A word that holds stored bits is read as they are. -/
theorem State.wordAt_of_stored (h : Map.get (fun _ => none) (s.mem i).words w = some v) : s.wordAt i w = (v, s) := by
  unfold State.wordAt; rw [h]

/-- A word reads as what has been stored in it. -/
theorem State.putWord_wordAt (s : State) (i w : Nat) (v : Nat × Nat) : ((s.putWord i w v).wordAt i w).1 = v := by
  have h : Map.get (fun _ => none) ((s.putWord i w v).mem i).words w = some v := by
    simp [State.putWord, Map.get_put_self]
  rw [State.wordAt_of_stored h]

/-- Where no entry of the merge buffer holds a word, a read of it drains nothing. -/
theorem State.drainWord_of_unmerged (h : ∀ e, e ∈ (s.mem i).merge → e.word ≠ w) : s.drainWord i w = s := by
  have : (s.mem i).merge.find? (fun e => e.word == w) = none := by simpa using h
  unfold State.drainWord; rw [this]

theorem State.checkedWord_of_codeword (h : Map.get (fun _ => none) (s.mem i).words w = some v) (hc : codeword v = true) :
    s.checkedWord i w = ({ data := v.1, cls := 0, bitNo := 0 }, s) := by
  simp [State.checkedWord, State.wordAt_of_stored h, judge, hc]

theorem State.checkedWord_of_oneBit {b : Nat} (h : Map.get (fun _ => none) (s.mem i).words w = some v)
    (hc : codeword v = false) (hb : oneBit v = some b) :
    s.checkedWord i w = ({ data := (flip72 v b).1, cls := 1, bitNo := b }, s) := by
  simp [State.checkedWord, State.wordAt_of_stored h, judge, hc, hb]

/-- A correctable error is counted. -/
theorem State.reportCe_ceCount (i a b reader : Nat) :
    ((s.reportCe i a b reader).mem i).ceCount = satAdd 32 (s.mem i).ceCount 1 := by
  unfold State.reportCe
  dsimp only
  split <;> simp

/-! ### Test operations -/

/-- The state in which a test operation acts. -/
def State.testing (s : State) (i op : Nat) : State := s.updMem i (fun m => { m with op := op, done := false, testBusy := true })

@[simp] theorem State.testing_words (op : Nat) : ((s.testing i op).mem i).words = (s.mem i).words := by simp [State.testing]
@[simp] theorem State.testing_merge (op : Nat) : ((s.testing i op).mem i).merge = (s.mem i).merge := by simp [State.testing]
@[simp] theorem State.testing_ceCount (op : Nat) : ((s.testing i op).mem i).ceCount = (s.mem i).ceCount := by
  simp [State.testing]

/-- Test mode is on, and the test address names a word of the instance that the merge buffer does not hold. -/
structure State.TestReady (s : State) (i : Nat) : Prop where
  isOpen : s.eccOpen i = true
  test : (s.mem i).test = true
  range : s.memRange i (s.mem i).tAddr 8 = true
  unmerged : ∀ e, e ∈ (s.mem i).merge → e.word ≠ (s.mem i).tAddr / 8

/-- Nothing of the word waits in the merge buffer when the operation acts. -/
theorem State.TestReady.drainWord (h : s.TestReady i) (op : Nat) :
    (s.testing i op).drainWord i ((s.mem i).tAddr / 8) = s.testing i op :=
  State.drainWord_of_unmerged (by simpa using h.unmerged)

/-- An operation acts on the word that the test address names. -/
theorem State.TestReady.testGo (h : s.TestReady i) (op : Nat) (act : State → Nat → State) :
    s.testGo i op act = act (s.testing i op) ((s.mem i).tAddr / 8) := by
  unfold State.testGo
  rw [if_pos (by simp [h.isOpen, h.test])]
  dsimp only
  rw [if_pos h.range]
  exact congrArg (act · _) (h.drainWord op)

section
variable (h : s.TestReady i) (hv : Map.get (fun _ => none) (s.mem i).words ((s.mem i).tAddr / 8) = some v)
include h

theorem State.testWriteRaw_eq : s.testWriteRaw i
    = (s.testing i 4).putWord i ((s.mem i).tAddr / 8) ((s.mem i).tData, (s.mem i).tCheck) := h.testGo _ _

theorem State.testWriteNormal_eq : s.testWriteNormal i
    = (s.testing i 5).putWord i ((s.mem i).tAddr / 8) ((s.mem i).tData % 2 ^ 64, eccOf (s.mem i).tData) := h.testGo _ _

include hv

theorem State.testReadRaw_eq : s.testReadRaw i
    = (s.testing i 0).updMem i (fun m => { m with tData := v.1, tCheck := v.2 }) := by
  refine (h.testGo _ _).trans ?_
  rw [State.wordAt_of_stored (by simpa using hv)]

theorem State.testWriteData_eq : s.testWriteData i
    = (s.testing i 2).putWord i ((s.mem i).tAddr / 8) ((s.mem i).tData, v.2) := by
  refine (h.testGo _ _).trans ?_
  rw [State.wordAt_of_stored (by simpa using hv)]

theorem State.testWriteCheck_eq : s.testWriteCheck i
    = (s.testing i 3).putWord i ((s.mem i).tAddr / 8) (v.1, (s.mem i).tCheck) := by
  refine (h.testGo _ _).trans ?_
  rw [State.wordAt_of_stored (by simpa using hv)]

/-- A checked read of a valid codeword. -/
theorem State.testReadChecked_of_codeword (hc : codeword v = true) : s.testReadChecked i
    = (s.testing i 1).updMem i (fun m => { m with tData := v.1, tClass := 0, tBit := 0 }) := by
  refine (h.testGo _ _).trans ?_
  rw [State.readWord, h.drainWord, State.checkedWord_of_codeword (by simpa using hv) hc]
  rfl

/-- A checked read of a word with one wrong bit. -/
theorem State.testReadChecked_of_oneBit {b : Nat} (hc : codeword v = false) (hb : oneBit v = some b) : s.testReadChecked i
    = ((s.testing i 1).reportCe i (8 * ((s.mem i).tAddr / 8)) b 0xe).updMem i
        (fun m => { m with tData := (flip72 v b).1, tClass := 1, tBit := b }) := by
  refine (h.testGo _ _).trans ?_
  rw [State.readWord, h.drainWord, State.checkedWord_of_oneBit (by simpa using hv) hc hb]
  rfl

end

end Sys2Proof.Machine

namespace Sys2Proof.Proofs
open Sys2Proof Sys2Proof.Machine Sys2Proof.Claims
variable {s : State} {i : Nat}

/-- The two counts, alone and with the word that each shares. -/
theorem eccCounts_reads (h : s.host.reachable = true) (ho : s.eccOpen i = true) {ce ue : Nat}
    (hce : ce = (s.mem i).ceNew.now s.tempo) (hue : ue = (s.mem i).ueNew.now s.tempo) :
    exec (.eccCeCountRead i) s = .next ((s.updMem i (fun m => { m with ceCount := ce })).emit
        (.completion (toLE 4 ((s.mem i).ceCount - ce))))
    ∧ exec (.eccUeCountRead i) s = .next ((s.updMem i (fun m => { m with ueCount := ue })).emit
        (.completion (toLE 4 ((s.mem i).ueCount - ue))))
    ∧ exec (.bar0BadAccess false (0x20000 + 0x40 * i) 8) s = .next ((s.updMem i (fun m => { m with ceCount := ce })).emit
        (.completion (toLE 8 (1 + 2 * b2n (s.mem i).test + 4 * b2n (s.mem i).ceSeen + 8 * b2n (s.mem i).ueSeen
          + 16 * b2n (s.mem i).scrub.isSome + ((s.mem i).ceCount - ce) * 2 ^ 32))))
    ∧ exec (.bar0BadAccess false (0x20008 + 0x40 * i) 8) s = .next ((s.updMem i (fun m => { m with ueCount := ue })).emit
        (.completion (toLE 8 ((s.mem i).ueCount - ue + (s.mem i).last % 2 ^ 32 * 2 ^ 32)))) := by
  subst hce hue
  have hi := State.eccOpen_lt ho
  refine ⟨next_access h ?_, next_access h ?_,
    (execBar0BadAccess_aligned h (.inr rfl) (by omega)).trans (congrArg _ ((State.answer_wide (by omega)).trans ?_)),
    (execBar0BadAccess_aligned h (.inr rfl) (by omega)).trans (congrArg _ ((State.answer_wide (by omega)).trans ?_))⟩
  · rw [State.answer, if_neg (by decide), State.read4_ceCount hi, State.takeCe_of_open ho]
  · rw [State.answer, if_neg (by decide), State.read4_ueCount hi, State.takeUe_of_open ho]
  · rw [State.read8_status ho, State.takeCe_of_open ho, State.readEcc_status ho]
  · rw [State.read8_ueCount ho, State.takeUe_of_open ho, State.readEcc_lastLow (by exact ho)]
    simp

/-- Settles O35: the registers one by one, and each operation by what it does in `State.testing`. -/
theorem eccRegistersAndTestOperations : Obligations.EccRegistersAndTestOperations := by
  intro s i h ho
  refine ⟨fun v => ?status, fun ce ue => eccCounts_reads h ho, fun v hgo hen => ?enable, fun hb => ?done, fun w v ht hr hw hm hv => ?ops⟩
  case status => exact next_access h (if_pos ho)
  case enable =>
    have hon : (bit v.toNat 0 && ((s.mem i).test || s.testAllowed i)) = bit v.toNat 0 := by
      cases hb : bit v.toNat 0 with
      | false => rfl
      | true => simp [hen hb]
    refine ⟨_, next_access h rfl, ?_, fun j hj => ?_⟩
    · by_cases hf : field v.toNat 1 3 < 6 <;> simp [State.writeTestCtrl, State.setTest, ho, hgo, hf, hon]
    · by_cases hf : field v.toNat 1 3 < 6 <;> simp [State.writeTestCtrl, State.setTest, ho, hgo, hf, hj]
  case done => exact congrArg _ (if_pos hb)
  case ops =>
    subst hw
    have hr : s.TestReady i := ⟨ho, ht, hr, hm⟩
    refine ⟨⟨_, next_access h (State.testReadRaw_eq hr hv), ?raw⟩,
      fun hc => ⟨_, next_access h (State.testReadChecked_of_codeword hr hv hc), ?clean⟩,
      fun b hc hb => ⟨_, next_access h (State.testReadChecked_of_oneBit hr hv hc hb), ?corrected⟩,
      ⟨_, next_access h (State.testWriteData_eq hr hv), State.putWord_wordAt _ _ _ _⟩,
      ⟨_, next_access h (State.testWriteCheck_eq hr hv), State.putWord_wordAt _ _ _ _⟩,
      ⟨_, next_access h (State.testWriteRaw_eq hr), State.putWord_wordAt _ _ _ _⟩,
      ⟨_, next_access h (State.testWriteNormal_eq hr), State.putWord_wordAt _ _ _ _⟩⟩
    case raw => simp
    case clean => simp
    case corrected => simp [State.reportCe_ceCount]

end Sys2Proof.Proofs
end

section
namespace Sys2Proof.Machine
open Sys2Proof Sys2Proof.Claims
variable {s : State} {ch : Nat}

/-! ### What writing a memory leaves of a channel -/

@[simp] theorem State.putWord_dma (s : State) (i w : Nat) (v : Nat × Nat) (k : Nat) : (s.putWord i w v).dma k = s.dma k := rfl

@[simp] theorem State.writeWord_dma (s : State) (i w d k : Nat) : (s.writeWord i w d).dma k = s.dma k := rfl

@[simp] theorem State.settle_dma (s : State) (seqs : List Nat) (k : Nat) : (s.settle seqs).dma k = s.dma k := rfl

@[simp] theorem State.fresh_dma (s : State) (k : Nat) : s.fresh.2.dma k = s.dma k := rfl

@[simp] theorem State.badCheck_dma (s : State) (d k : Nat) : (s.badCheck d).2.dma k = s.dma k := rfl

@[simp] theorem State.wordAt_dma (s : State) (i w k : Nat) : (s.wordAt i w).2.dma k = s.dma k := by
  unfold State.wordAt
  split
  · rfl
  · split
    · rfl
    · dsimp only [State.fresh]; split <;> rfl

@[simp] theorem State.checkedWord_dma (s : State) (i w k : Nat) : (s.checkedWord i w).2.dma k = s.dma k := by
  have h := s.wordAt_dma i w k
  unfold State.checkedWord
  generalize s.wordAt i w = x at h ⊢
  obtain ⟨v, u⟩ := x
  dsimp only at h ⊢
  (repeat' split) <;> exact h

@[simp] theorem State.reportCe_dma (s : State) (i a b reader k : Nat) : (s.reportCe i a b reader).dma k = s.dma k := by
  unfold State.reportCe; dsimp only; split <;> simp

@[simp] theorem State.reportUe_dma (s : State) (i a reader what : Nat) (latch : List Nat) (sheet : Bool) (k : Nat) :
    (s.reportUe i a reader what latch sheet).dma k = s.dma k := by
  unfold State.reportUe; dsimp only; split <;> simp

@[simp] theorem State.report_dma (s : State) (i w reader : Nat) (r : Read) (what : Nat) (latch : List Nat) (k : Nat) :
    (s.report i w reader r what latch).dma k = s.dma k := by
  unfold State.report
  split
  · simp
  · split
    · simp
    · rfl

/-- A change of channels that keeps each one's state. -/
theorem State.updDmas_state {f : Dma → Dma} (hf : ∀ d, (f d).state = d.state) (cs : List Nat) (s : State) (k : Nat) :
    ((cs.foldl (fun u c => u.updDma c f) s).dma k).state = (s.dma k).state := by
  induction cs generalizing s with
  | nil => rfl
  | cons c cs ih =>
    rw [List.foldl_cons, ih, State.updDma_get]
    split
    · next h => rw [hf, h]
    · rfl

/-- Draining an entry can mark a descriptor's cause, and leaves every channel's state. -/
theorem State.drainEntry_dmaState (s : State) (i : Nat) (e : Merge) (k : Nat) :
    ((s.drainEntry i e).dma k).state = (s.dma k).state := by
  unfold State.drainEntry
  dsimp only
  split
  · simp
  · split
    · rw [State.settle_dma, State.updDmas_state (f := fun x => { x with cause := if x.cause = 0 then 7 else x.cause }) (fun _ => rfl)]
      simp
    · simp

theorem State.writeMasked_dmaState (s : State) (i w d mask seq k : Nat) :
    ((s.writeMasked i w d mask seq).dma k).state = (s.dma k).state := by
  unfold State.writeMasked
  split
  · simp
  · split
    · dsimp only; split
      · rw [State.drainEntry_dmaState]; simp
      · simp
    · dsimp only; rw [State.updMem_dma]; split
      · split
        · rw [State.drainEntry_dmaState]
        · rfl
      · rfl

/-- A write of a memory leaves every channel's state. -/
theorem State.memWrite_dmaState (s : State) (i a : Nat) (d : Bytes) (seq k : Nat) :
    ((s.memWrite i a d seq).dma k).state = (s.dma k).state :=
  foldl_pred (P := fun u : State => (u.dma k).state = (s.dma k).state)
    (fun u _ hu => (u.writeMasked_dmaState _ _ _ _ _ k).trans hu) rfl

/-! ### Opening and closing a channel -/

@[simp] theorem State.ok_dma (s : State) (r : Reply) (b : Bytes) (k : Nat) : (s.ok r b).dma k = s.dma k := rfl

@[simp] theorem State.emit_dma (s : State) (o : Out) (k : Nat) : (s.emit o).dma k = s.dma k := rfl

@[simp] theorem State.idleVector_dma (s : State) (ch k : Nat) : (s.idleVector ch).dma k = s.dma k := by
  unfold State.idleVector; split <;> simp

@[simp] theorem State.idleVector_faults (s : State) (ch : Nat) : (s.idleVector ch).faults = s.faults := by
  unfold State.idleVector; split <;> simp

/-- Forgetting records keeps no other record and forgets each of them. -/
theorem State.mem_unlatches {fs : List FaultRec} {s : State} {f : FaultRec}
    (h : f ∈ (fs.foldl (fun u x => u.unlatch x.code x.obj) s).faults) : f ∈ s.faults ∧ f ∉ fs := by
  induction fs generalizing s with
  | nil => exact ⟨h, List.not_mem_nil⟩
  | cons x fs ih =>
    obtain ⟨h1, h2⟩ := ih h
    have hx : f ∈ s.faults ∧ (f.code ≠ x.code ∨ f.obj ≠ x.obj) := by
      simpa [State.unlatch, List.mem_filter] using h1
    have hne : f ≠ x := fun e => hx.2.elim (fun n => n (congrArg _ e)) (fun n => n (congrArg _ e))
    exact ⟨hx.1, fun hc => (List.mem_cons.1 hc).elim hne h2⟩

theorem State.unlatches_dma (fs : List FaultRec) (s : State) (k : Nat) :
    (fs.foldl (fun u x => u.unlatch x.code x.obj) s).dma k = s.dma k :=
  foldl_pred (P := fun u : State => u.dma k = s.dma k) (fun _ _ hu => hu) rfl

/-- An opened channel is IDLE, with nothing of its past but IRQ.EN and how often it has been opened. -/
theorem State.openDma_dma (s : State) (ch k : Nat) : (s.openDma ch).dma k
    = if k = ch then { state := .idle, irqEn := (s.dma ch).irqEn, opens := (s.dma ch).opens + 1 } else s.dma k := by
  simp [State.openDma, State.unlatches_dma]

/-- An opened channel has no latched fault. -/
theorem State.openDma_faults {f : FaultRec} (h : f ∈ (s.openDma ch).faults) : f.obj ≠ obj clsDMA ch := by
  intro ho
  have h1 : f ∈ ((s.faults.filter (fun f => f.obj == obj clsDMA ch)).foldl (fun u f => u.unlatch f.code f.obj) s).faults := by
    simpa [State.openDma] using h
  obtain ⟨hf, hn⟩ := State.mem_unlatches h1
  exact hn (List.mem_filter.2 ⟨hf, by simpa using ho⟩)

theorem State.closeDma_of_closed (h : (s.dma ch).state = .closed) : s.closeDma ch = s := if_pos h

/-- What a close keeps of the store: no request of the channel, and no live write of its. -/
theorem State.closeDma_store (h : (s.dma ch).state ≠ .closed) :
    ∃ d : Dma, d.state = .closed ∧ (s.closeDma ch).store = { s.store with
      dma := Map.put (fun _ => {}) s.store.dma ch d
      reqs := s.store.reqs.filter (fun q => q.who != ch)
      flights := s.store.flights.map (fun x => if x.ch = ch then { x with live := false } else x) } := by
  unfold State.closeDma
  dsimp only
  rw [if_neg h]
  split
  · obtain ⟨_, _, _, _, _, _, _, he⟩ := s.raise_eq { code := 0x0403, obj := obj clsDMA ch, fields := [obj clsDMA ch, (s.dma ch).cur] }
    rw [he]
    exact ⟨_, rfl, rfl⟩
  · exact ⟨_, rfl, rfl⟩

/-- After a close the channel is CLOSED, and the others are as they were. -/
theorem State.closeDma_dma (s : State) (ch : Nat) :
    ((s.closeDma ch).dma ch).state = .closed ∧ ∀ k, k ≠ ch → (s.closeDma ch).dma k = s.dma k := by
  by_cases h : (s.dma ch).state = .closed
  · rw [State.closeDma_of_closed h]; exact ⟨h, fun _ _ => rfl⟩
  · obtain ⟨d, hd, he⟩ := State.closeDma_store h
    refine ⟨?_, fun k hk => ?_⟩
    · rw [State.dma, he, Map.get_put_self]; exact hd
    · rw [State.dma, he, Map.get_put, if_neg hk]; rfl

/-! ### Starting a channel -/

@[simp] theorem State.addReq_dma (s : State) (q : Req) (k : Nat) : (s.addReq q).dma k = s.dma k := by
  unfold State.addReq; split <;> rfl

@[simp] theorem State.descStep_dma (s : State) (ch : Nat) (x : DmaStep) (k : Nat) : (s.descStep ch x).dma k
    = if k = ch then { s.dma ch with step := x, slot := false } else s.dma k := by
  simp [State.descStep]

/-- An IDLE channel starts at an address, and is to read its descriptor. -/
theorem State.startChain_dma (h : (s.dma ch).state = .idle) (a : Nat) : (s.startChain ch a).dma ch
    = { s.dma ch with state := .running, cur := a, step := .readDesc, slot := false } := by
  simp [State.startChain, h]

/-- A host-owned channel asks the host link for its descriptor. -/
theorem State.startChain_reqs (h : (s.dma ch).state = .idle) (ho : s.hostOwned ch = true) (a : Nat) :
    (s.startChain ch a).store.reqs = s.store.reqs ++ [{ s.reqOf ch .hostSlots false a [] 32 with ctl := true }] := by
  have hr : ((s.updDma ch (fun d => { d with state := .running, cur := a })).descRes ch) = .hostSlots := if_pos ho
  have hc : ((s.updDma ch (fun d => { d with state := .running, cur := a })).dma ch).cur = a := by simp
  unfold State.startChain
  rw [if_pos h]
  unfold State.descStep
  dsimp only
  rw [hr, hc]
  rfl

theorem State.dmaOpen_of (h : s.md.dramOk = true) (hc : ch ≤ 31) : s.dmaOpen ch = true := by
  simp [State.dmaOpen, h]; omega

/-! ### Registers of a channel -/

/-- A 4-byte read of DMA_DONE_COUNT takes the count. -/
theorem State.read4_doneCount (hc : ch ≤ 31) : s.read4 (0x11020 + 0x40 * ch) = s.takeDone ch := by
  unfold State.read4
  rw [if_neg (by omega), if_neg (by omega), if_pos (by omega)]
  congr 1; omega

theorem State.read4_badCount (hc : ch ≤ 31) : s.read4 (0x11024 + 0x40 * ch) = s.takeBad ch := by
  unfold State.read4
  rw [if_neg (by omega), if_neg (by omega), if_neg (by omega), if_pos (by omega)]
  congr 1; omega

theorem State.takeDone_of_open (h : s.dmaOpen ch = true) : s.takeDone ch
    = ((s.dma ch).doneCount - (s.dma ch).doneNew.now s.tempo,
      s.updDma ch (fun d => { d with doneCount := (s.dma ch).doneNew.now s.tempo })) := if_pos h

theorem State.takeBad_of_open (h : s.dmaOpen ch = true) : s.takeBad ch
    = ((s.dma ch).badCount - (s.dma ch).badNew.now s.tempo,
      s.updDma ch (fun d => { d with badCount := (s.dma ch).badNew.now s.tempo })) := if_pos h

/-- Both counts, read together. -/
theorem State.read8_counts (hc : ch ≤ 31) : s.read8 (0x11020 + 0x40 * ch)
    = ((s.takeDone ch).1 + ((s.takeDone ch).2.takeBad ch).1 * 2 ^ 32, ((s.takeDone ch).2.takeBad ch).2) := by
  rw [State.read8_eq (by omega), State.read4_doneCount hc, show 0x11020 + 0x40 * ch + 4 = 0x11024 + 0x40 * ch by omega,
    State.read4_badCount hc]

end Sys2Proof.Machine

namespace Sys2Proof.Proofs
open Sys2Proof Sys2Proof.Machine Sys2Proof.Claims
variable {s : State} {ch : Nat} {m : Msg}

/-- The refusals that DMA_OPEN and DMA_CLOSE share. -/
theorem chRefs_nil (hm : m.argN 8 1 = ch) (hc : ch ≤ 31) (hl : m.payload.length = 0)
    (hr : Nat.land m.arg.toNat 0xffffffffffffff00 = 0) : State.chRefs m = [] := by
  rw [State.chRefs, Msg.plen_nil hl, Msg.argRes_nil hr, hm]
  simp [Nat.not_lt.2 hc]

theorem execDmaOpen_runs (hd : s.md.dramOk = true) (hc : ch ≤ 31) (hm : m.argN 8 1 = ch)
    (ht : Takes 0x0510 m 0 0xffffffffffffff00 s) (hmode : s.md.mode ∈ modesStore) (hs : (s.dma ch).state = .closed) :
    execDmaOpen m s = .next ((s.openDma ch).ok (s.replyOf 0x0510 m)) := by
  obtain ⟨-, hat, hl, hr, -⟩ := id ht
  unfold execDmaOpen
  rw [hat, hm]
  refine congrArg _ (State.command_of_takes ht ?_ _)
  rw [chRefs_nil hm hc hl hr, State.inModes_nil hmode, State.dramRefs, hd, hs]
  rfl

theorem execDmaClose_runs (hd : s.md.dramOk = true) (hc : ch ≤ 31) (hm : m.argN 8 1 = ch)
    (ht : Takes 0x0511 m 0 0xffffffffffffff00 s) : execDmaClose m s = .next ((s.closeDma ch).ok (s.replyOf 0x0511 m)) := by
  obtain ⟨-, hat, hl, hr, -⟩ := id ht
  unfold execDmaClose
  rw [hat, hm]
  refine congrArg _ (State.command_of_takes ht ?_ _)
  rw [chRefs_nil hm hc hl hr, State.dramRefs, hd]
  rfl

/-- Settles O27, command by command and register by register. -/
theorem dmaChannelsOpenRunAndClose : Obligations.DmaChannelsOpenRunAndClose := by
  intro s ch hd hc
  have ho := State.dmaOpen_of hd hc
  refine ⟨fun m hm => ⟨fun ht hmode hs => ?opens, fun ht => ?closes⟩, fun hat h hown => ⟨fun v h1 h0 hi => ?rings, fun v h1 => ?stops⟩,
    fun ws next hat hb hown hi => ?firmware, fun h => ⟨fun v => next_access h (if_pos ho), ?counts⟩⟩
  case opens =>
    refine ⟨_, execDmaOpen_runs hd hc hm ht hmode hs, ?_, fun k hk => ?_, fun f hf => State.openDma_faults hf⟩
    · rw [State.ok_dma, State.openDma_dma, if_pos rfl]
    · rw [State.ok_dma, State.openDma_dma, if_neg hk]
  case closes =>
    refine ⟨_, execDmaClose_runs hd hc hm ht, (s.closeDma_dma ch).1, (s.closeDma_dma ch).2, fun hs => ?_⟩
    obtain ⟨d, -, he⟩ := State.closeDma_store hs
    have hstore : ((s.closeDma ch).ok (s.replyOf 0x0511 m)).store = (s.closeDma ch).store := rfl
    rw [hstore, he]
    refine ⟨fun q hq => by simpa using (List.mem_filter.1 hq).2, fun f hf hch => ?_⟩
    obtain ⟨x, -, rfl⟩ := List.mem_map.1 hf
    split at hch
    · next hx => rw [if_pos hx]
    · next hx => exact absurd hch hx
  case rings =>
    have hx : exec (.dmaDoorbellRing ch (.host v)) s = .next (s.startChain ch (s.dma ch).next) := by
      show execDmaDoorbellRing ch (.host v) s = _
      unfold execDmaDoorbellRing
      rw [hat]
      exact next_access h (by simp [State.doorbell, ho, hown, h1, h0])
    exact ⟨_, hx, State.startChain_dma hi _, State.startChain_reqs hi hown _⟩
  case stops =>
    have hx : exec (.dmaDoorbellStop ch v) s = .next (s.closeDma ch) := by
      show execDmaDoorbellStop ch v s = _
      unfold execDmaDoorbellStop
      rw [hat]
      exact next_access h (by simp [State.doorbell, ho, hown, h1])
    exact ⟨_, hx, (s.closeDma_dma ch).1, (s.closeDma_dma ch).2⟩
  case firmware =>
    have hi' : ((ws.foldl (fun u w => u.memWrite 10 w.1 w.2 0) s).dma ch).state = .idle :=
      foldl_pred (P := fun u : State => (u.dma ch).state = .idle) (fun u _ hu => (u.memWrite_dmaState _ _ _ _ ch).trans hu) hi
    have hx : exec (.dmaDoorbellRing ch (.firmware ws next)) s
        = .next ((ws.foldl (fun u w => u.memWrite 10 w.1 w.2 0) s).startChain ch next) := by
      show execDmaDoorbellRing ch (.firmware ws next) s = _
      unfold execDmaDoorbellRing
      rw [hat]
      exact congrArg _ (if_pos ⟨hb, ho, by simp [hown]⟩)
    refine ⟨_, hx, ?_⟩
    rw [State.startChain_dma hi']
    exact ⟨rfl, rfl, rfl⟩
  case counts =>
    rintro done bad rfl rfl
    refine ⟨next_access h ?_, next_access h ?_, ⟨_, (execBar0BadAccess_aligned h (.inr rfl) (by omega)).trans
      (congrArg _ (State.answer_wide (by omega))), ?_⟩⟩
    · rw [State.answer, if_neg (by decide), State.read4_doneCount hc, State.takeDone_of_open ho]
    · rw [State.answer, if_neg (by decide), State.read4_badCount hc, State.takeBad_of_open ho]
    · rw [State.read8_counts hc, State.takeDone_of_open ho, State.takeBad_of_open (by exact ho)]
      refine ⟨?_, fun k hk => ?_, ?_⟩
      · simp
      · simp [hk]
      · simp [State.emit]

end Sys2Proof.Proofs
end

section
namespace Sys2Proof.Machine
open Sys2Proof Sys2Proof.Claims
variable {s t u : State}

/-- What every step of a fold keeps, the fold keeps. -/
theorem foldl_keeps {α β γ : Type} (g : β → γ) {f : β → α → β} (hf : ∀ u x, g (f u x) = g u) (xs : List α) (b : β) :
    g (xs.foldl f b) = g b :=
  foldl_pred (P := fun u => g u = g b) (fun u x h => (hf u x).trans h) rfl

/-! ### What the device's reactions leave: records of faults and events only grow -/

/-- From `s` to `t` no fault is cleared, no event leaves the backlog, and of the always-on domain only what the own rails' power-down
changes has changed. An event of Safe-hold, 0x0c12, may be given a lower cause (R430). -/
structure Onward (s t : State) : Prop where
  tempo : t.tempo = s.tempo
  watchdog : t.watchdog = s.watchdog
  linkUp : t.host.linkUp = s.host.linkUp
  aon : ∃ up wake since, t.aon = { s.aon with seqUpOut := up, wake := wake, downAt := since }
  down : s.aon.wake = .down → t.aon.wake = .down
  faults : s.faults ⊆ t.faults
  room : s.host.backlog.length ≤ t.host.backlog.length
  backlog : ∀ e ∈ s.host.backlog, e.code ≠ 0x0c12 → e ∈ t.host.backlog

/-- The same, with the mode and the boot state as they were. -/
structure Steady (s t : State) : Prop extends Onward s t where
  md : t.md = s.md

theorem Onward.refl (s : State) : Onward s s := ⟨rfl, rfl, rfl, ⟨_, _, _, rfl⟩, id, List.Subset.refl _, Nat.le_refl _, fun _ h _ => h⟩

theorem Onward.trans (h : Onward s t) (k : Onward t u) : Onward s u := by
  obtain ⟨a, b, c, ha⟩ := h.aon
  obtain ⟨a', b', c', ka⟩ := k.aon
  exact ⟨k.tempo.trans h.tempo, k.watchdog.trans h.watchdog, k.linkUp.trans h.linkUp, ⟨a', b', c', by rw [ka, ha]⟩, fun w => k.down (h.down w),
    List.Subset.trans h.faults k.faults, h.room.trans k.room, fun e he hc => k.backlog e (h.backlog e he hc) hc⟩

theorem Steady.refl (s : State) : Steady s s := ⟨.refl s, rfl⟩

theorem Steady.trans (h : Steady s t) (k : Steady t u) : Steady s u := ⟨h.toOnward.trans k.toOnward, k.md.trans h.md⟩

/-- A state that shares the parts that `Onward` speaks of. -/
theorem Onward.of_eq (h : (t.tempo, t.watchdog, t.host.linkUp, t.aon, t.faults, t.host.backlog)
    = (s.tempo, s.watchdog, s.host.linkUp, s.aon, s.faults, s.host.backlog)) : Onward s t := by
  simp only [Prod.mk.injEq] at h
  obtain ⟨h1, h2, h3, h4, h5, h6⟩ := h
  exact ⟨h1, h2, h3, ⟨_, _, _, h4⟩, fun h => h4 ▸ h, fun _ h => h5 ▸ h, Nat.le_of_eq (by rw [h6]), fun _ h _ => h6 ▸ h⟩

theorem Steady.of_eq (h : (t.md, t.tempo, t.watchdog, t.host.linkUp, t.aon, t.faults, t.host.backlog)
    = (s.md, s.tempo, s.watchdog, s.host.linkUp, s.aon, s.faults, s.host.backlog)) : Steady s t :=
  ⟨.of_eq (Prod.mk.inj h).2, (Prod.mk.inj h).1⟩

theorem Steady.foldl {α : Type} {f : State → α → State} (hf : ∀ u x, Steady u (f u x)) (xs : List α) (s : State) :
    Steady s (xs.foldl f s) :=
  foldl_pred (P := Steady s) (fun u x h => h.trans (hf u x)) (.refl s)

theorem Steady.ite {c : Prop} [Decidable c] (h : Steady s t) (k : Steady s u) : Steady s (if c then t else u) := by
  split
  · exact h
  · exact k

theorem Onward.latched (h : Onward s t) {code o : Nat} (hl : s.latched code o = true) : t.latched code o = true := by
  simp only [State.latched, List.any_eq_true] at hl ⊢
  obtain ⟨f, hf, hc⟩ := hl
  exact ⟨f, h.faults hf, hc⟩

theorem Onward.raised (h : Onward s t) {code o : Nat} {fields : List Nat} (hc : code ≠ 0x0c12) (hr : Raised s code o fields) :
    Raised t code o fields := by
  obtain hf | ⟨e, he, hcode, ho, ht, hfs⟩ := hr
  · exact .inl (hf.trans h.room)
  · exact .inr ⟨e, h.backlog e he (hcode ▸ hc), hcode, ho, ht.trans h.tempo.symm, hfs⟩

/-! ### Events and faults -/

/-- Which objects are there depends on the die and on the units out of service (R1, R4). -/
theorem State.objHere_congr (hd : t.die = s.die) (hr : t.removed = s.removed) (o : Nat) : t.objHere o = s.objHere o := by
  unfold State.objHere State.inService State.present State.nSt
  rw [hd, hr]

theorem mem_insertEv {e x : EvMsg} {xs : List EvMsg} : x ∈ insertEv e xs ↔ x = e ∨ x ∈ xs := by
  induction xs with
  | nil => simp [insertEv]
  | cons y ys ih =>
    unfold insertEv
    split
    · simp
    · simp only [List.mem_cons, ih]; tauto

theorem State.queueEv_steady (s : State) (e : EvMsg) : Steady s (s.queueEv e) := by
  unfold State.queueEv
  split
  · refine ⟨⟨rfl, rfl, rfl, ⟨_, _, _, rfl⟩, id, List.Subset.refl _, ?_, fun x hx _ => mem_insertEv.2 (.inr hx)⟩, rfl⟩
    simp [insertEv_length]
  · exact .of_eq rfl

theorem State.latchNew_steady (s : State) (code o : Nat) : Steady s (s.latchNew code o) := by
  unfold State.latchNew
  split
  · exact .refl s
  · extract_lets first s1
    have h1 : Steady s s1 := ⟨⟨rfl, rfl, rfl, ⟨_, _, _, rfl⟩, id, List.subset_append_left _ _, Nat.le_refl _, fun _ h _ => h⟩, rfl⟩
    exact h1.trans (.foldl (fun _ _ => by exact .of_eq rfl) _ _)

theorem State.raise_steady (s : State) (e : Ev) : Steady s (s.raise e) := by
  unfold State.raise
  split
  · exact (Steady.foldl (fun u o => u.latchNew_steady e.code o) _ s).trans (State.queueEv_steady _ _)
  · exact .refl s

theorem State.raiseLimited_steady (s : State) (e : Ev) (period sub : Nat) (cf : Bool) : Steady s (s.raiseLimited e period sub cf) := by
  unfold State.raiseLimited
  split
  · extract_lets k r due set fs
    exact .ite (Steady.trans (.of_eq (by rfl)) (State.raise_steady _ _)) (.of_eq (by rfl))
  · exact .refl s

theorem State.spoil_steady (s : State) (tk st cause line : Nat) : Steady s (s.spoil tk st cause line) := by
  unfold State.spoil
  exact .ite (.refl s) (.ite (.refl s) (Steady.trans (.of_eq (by rfl)) (State.raise_steady _ _)))

theorem State.signal_steady (s : State) (v : Nat) : Steady s (s.signal v) := by
  unfold State.signal
  exact .ite (.of_eq (by rfl)) (.of_eq (by rfl))

theorem State.post_steady (s : State) (r : Reply) (code index : Nat) (data : Bytes) : Steady s (s.post r code index data) := .of_eq rfl

theorem State.latched_latchNew (s : State) (code o : Nat) : (s.latchNew code o).latched code o = true := by
  unfold State.latchNew
  split
  · assumption
  · extract_lets first s1
    have h1 : s1.latched code o = true := by simp [s1, State.latched]
    exact Onward.latched (Steady.foldl (fun _ _ => by exact .of_eq rfl) _ s1).toOnward h1

/-- An object that is there and named by a raised event has the fault latched, by it or before. -/
theorem State.latched_raise {e : Ev} (h : s.objHere e.obj = true) {o : Nat} (ho : s.objHere o = true) (hm : o ∈ e.latch) :
    (s.raise e).latched e.code o = true := by
  by_cases hl : s.latched e.code o = true
  · exact (s.raise_steady e).toOnward.latched hl
  · have hnew : o ∈ e.latch.filter (fun o => s.objHere o && !s.latched e.code o) := by simp [hm, ho, hl]
    obtain ⟨xs, ys, hxy⟩ := List.append_of_mem hnew
    unfold State.raise
    rw [if_pos h]
    dsimp only
    rw [hxy, List.foldl_append, List.foldl_cons]
    exact ((Steady.foldl (fun u o => u.latchNew_steady e.code o) ys _).trans (State.queueEv_steady _ _)).toOnward.latched
      (State.latched_latchNew _ _ _)

/-- An event of an object that is there stands in the backlog when it has been raised. -/
theorem State.raised_raise {e : Ev} (h : s.objHere e.obj = true) : Raised (s.raise e) e.code e.obj e.fields := by
  have ht := s.raise_tempo e
  unfold State.raise at ht ⊢
  rw [if_pos h] at ht ⊢
  dsimp only at ht ⊢
  generalize hm : ({ code := e.code, obj := e.obj, tempo := s.tempo, .. } : EvMsg) = m at ht ⊢
  subst hm
  revert ht
  unfold State.queueEv
  split
  · intro ht; exact .inr ⟨_, mem_insertEv.2 (.inl rfl), rfl, rfl, ht.symm, rfl⟩
  · next hf => intro _; exact .inl (by simpa using hf)

end Sys2Proof.Machine
end

section
namespace Sys2Proof.Machine
open Sys2Proof Sys2Proof.Claims
variable (s : State)

/-! ### Tiles and axes -/

theorem State.geared_steady (g : Gear) (delta : Int) : Steady s (s.geared g delta).2 := by
  show Steady s (s.int64 _).2
  unfold State.int64
  split
  · exact .refl s
  · exact .of_eq rfl

theorem State.polyTo_steady (k : Nat) (st : Poly) : Steady s (s.polyTo k st) := by
  unfold State.polyTo
  exact .ite (.refl s) (Steady.trans (.of_eq (by rfl)) (State.raise_steady _ _))

theorem State.endRunout_steady (o cause : Nat) : Steady s (s.endRunout o cause) := by
  unfold State.endRunout
  exact .ite (Steady.trans (.of_eq (by rfl)) (State.raise_steady _ _)) (.refl s)

theorem State.endHold_steady (o : Nat) : Steady s (s.endHold o) := by
  unfold State.endHold
  extract_lets a poly sensor vm a1 s0 s1
  have h0 : Steady s s0 := .foldl (fun u k => by
    exact Steady.trans (t := u.updLoop k (fun l => { l with iI := 0 })) (.of_eq (by rfl)) (.ite (State.polyTo_steady _ _ _) (.refl _))) _ s
  have h1 : Steady s s1 := .ite h0 (h0.trans (State.raise_steady _ _))
  refine h1.trans ?_
  split
  case h_4 =>
    split
    · exact Steady.trans (.of_eq (by rfl)) (State.raise_steady _ _)
    · exact .of_eq rfl
  all_goals exact .of_eq rfl

theorem State.refreshAxis_steady (o : Nat) : Steady s (s.refreshAxis o) := by
  unfold State.refreshAxis
  exact .ite (.ite (.refl s) (Steady.trans (.of_eq (by rfl)) (State.endRunout_steady _ _ _))) (.ite (s.endHold_steady o) (.refl s))

theorem State.refresh_steady (ks : List Nat) : Steady s (s.refresh ks) := by
  unfold State.refresh
  exact (Steady.foldl (fun u o => u.refreshAxis_steady o) _ s).trans
    (.foldl (fun u k => by exact .ite (u.endRunout_steady _ 1) (.refl u)) _ _)

theorem State.heatWindow_steady (k : Nat) : Steady s (s.heatWindow k) := by
  unfold State.heatWindow
  exact .ite (Steady.trans (.of_eq (by rfl)) (State.raise_steady _ _)) (.of_eq (by rfl))

theorem State.legLeave_steady (k j : Nat) : Steady s (s.legLeave k j) := by
  unfold State.legLeave State.legKeep
  exact .ite (Steady.trans (.of_eq (by rfl)) (State.raise_steady _ _)) (.of_eq (by rfl))

theorem State.enableHeat_steady (k : Nat) : Steady s (s.enableHeat k) := .of_eq rfl

theorem State.outputEnable_steady (k v : Nat) : Steady s (s.outputEnable k v) := by
  unfold State.outputEnable
  extract_lets on was s1 mask
  have h1 : Steady s s1 := .of_eq rfl
  refine .ite (.ite (h1.trans (.ite (s1.enableHeat_steady k) (.of_eq (by rfl)))) (.ite h1 (h1.trans ?_))) (.ite (.foldl (fun u j => ?_) _ s) h1)
  · exact Steady.trans (.of_eq (by rfl)) (State.heatWindow_steady _ k)
  · exact .ite (.refl u) (.ite (.ite (.refl u) (.ite (.refl u) (.of_eq (by rfl)))) (Steady.trans (.of_eq (by rfl)) (State.legLeave_steady _ k j)))

theorem State.disableTile_steady (k : Nat) : Steady s (s.disableTile k) := by
  unfold State.disableTile
  extract_lets s1 s2
  have h1 : Steady s s1 := .ite (s.polyTo_steady k .off) (.refl s)
  have h2 : Steady s1 s2 := .ite ((s1.outputEnable_steady k 0).trans (State.endRunout_steady _ _ _)) (.ite (s1.outputEnable_steady k 0) (.refl s1))
  exact (h1.trans h2).trans (.ite (.refl s2) (.of_eq (by rfl)))

theorem State.restAxis_steady (o : Nat) : Steady s (s.restAxis o) := Steady.trans (.of_eq (by rfl)) (State.endRunout_steady _ o 0)

theorem State.stopObj_steady (o : Nat) : Steady s (s.stopObj o) := by
  unfold State.stopObj State.stopPoly State.stopAxis
  refine .ite ?_ ?_
  · split
    case h_7 => exact .refl s
    all_goals first | exact .of_eq rfl | exact s.polyTo_steady _ .off
  · extract_lets a cut
    split
    case h_5 => exact .ite (.of_eq (by rfl)) (.of_eq (by rfl))
    case h_6 => exact .refl s
    all_goals exact .of_eq rfl

theorem State.startRunout_steady (o : Nat) : Steady s (s.startRunout o) := by
  unfold State.startRunout
  extract_lets k s1 a
  have h1 : Steady s s1 := .of_eq rfl
  split
  · generalize s.gearTick o = p
    obtain ⟨v, hist⟩ := p
    exact h1.trans (.of_eq (by rfl))
  · exact h1

/-! ### What a mode change does to the drive -/

theorem State.restDrive_steady : Steady s s.restDrive := by
  unfold State.restDrive
  extract_lets live s1 s2
  have h1 : Steady s s1 := .foldl (fun u o => u.restAxis_steady o) _ s
  have h2 : Steady s1 s2 := .foldl (fun u k => u.disableTile_steady k) _ s1
  exact (h1.trans h2).trans (.foldl (fun u g => by exact .ite (.of_eq (by rfl)) (.refl u)) _ s2)

theorem State.stopAll_steady : Steady s s.stopAll := by
  unfold State.stopAll
  exact (Steady.foldl (fun u o => u.stopObj_steady o) _ s).trans (.foldl (fun u k => u.outputEnable_steady k 0) _ _)

theorem State.holdTiles_steady : Steady s s.holdTiles := by
  unfold State.holdTiles
  refine (Steady.foldl (fun u o => ?_) _ s).trans (State.refresh_steady _ _)
  exact .ite (.ite (.refl u) (u.startRunout_steady o)) (.foldl (fun v k => by exact .ite (.of_eq (by rfl)) (.refl v)) _ u)

theorem State.writeMems_steady : Steady s s.writeMems := .foldl (fun _ _ => by exact .of_eq rfl) _ s

/-! ### Sheets, slots and tickets -/

theorem State.setQueue_steady (n : Nat) (new : List QStrip) : Steady s (s.setQueue n new) :=
  Steady.trans (.of_eq (by rfl)) (.foldl (fun _ _ => by exact .of_eq rfl) _ _)

theorem State.unqueue_steady (n tk : Nat) : Steady s (s.unqueue n tk) := by
  unfold State.unqueue
  exact .ite (s.setQueue_steady n _) (.refl s)

theorem State.releaseTicket_steady (tk : Nat) : Steady s (s.releaseTicket tk) := by
  unfold State.releaseTicket
  extract_lets s1 s2
  have h1 : Steady s s1 := .foldl (fun u n => by exact .ite (u.unqueue_steady n tk) (.refl u)) _ s
  exact h1.trans (.of_eq (by rfl))

theorem State.disarmTickets_steady : Steady s s.disarmTickets := by
  refine .foldl (fun u k => ?_) _ s
  exact (u.releaseTicket_steady k).trans (Steady.trans (.of_eq (by rfl)) (State.raise_steady _ _))

theorem State.disarmSlots_steady : Steady s s.disarmSlots := .foldl (fun _ _ => by exact .of_eq rfl) _ s

theorem State.endImages_steady (tk : Nat) : Steady s (s.endImages tk) := .foldl (fun _ _ => by exact .of_eq rfl) _ s

theorem State.endSheet_steady (tk outcome : Nat) : Steady s (s.endSheet tk outcome) := by
  unfold State.endSheet
  extract_lets s1 old s2
  have h1 : Steady s s1 := s.endImages_steady tk
  have h2 : Steady s1 s2 := .of_eq rfl
  exact (h1.trans h2).trans (s2.releaseTicket_steady tk)

theorem State.abortSheets_steady : Steady s s.abortSheets :=
  .foldl (fun u tk => (Steady.foldl (fun v n => v.spoil_steady tk n 6 noLine) _ u).trans (State.endSheet_steady _ tk 2)) _ s

/-! ### Modes -/

@[simp] theorem State.toMode_mode (m : Mode) (hw : Bool) : (s.toMode m hw).md.mode = m := by
  unfold State.toMode
  split
  · assumption
  · simp [State.endTests]

/-- Of the mode state a change of the mode changes the mode itself, and the tempo of the last hardware transition. -/
theorem State.toMode_md (m : Mode) (hw : Bool) : ∃ w, (s.toMode m hw).md = { s.md with mode := m, hwAt := w } := by
  unfold State.toMode
  split
  · next h => subst h; exact ⟨_, rfl⟩
  · exact ⟨_, State.raise_md _ _⟩

theorem State.toMode_onward (m : Mode) (hw : Bool) : Onward s (s.toMode m hw) := by
  unfold State.toMode
  split
  · exact .refl s
  · exact Onward.trans (.of_eq (by rfl)) (State.raise_steady _ _).toOnward

@[simp] theorem State.enterStandby_mode (hw : Bool) : (s.enterStandby hw).md.mode = .standby := State.toMode_mode _ _ _

theorem State.lowerCause_onward (code : Nat) : Onward s (s.lowerCause code) := by
  refine ⟨rfl, rfl, rfl, ⟨_, _, _, rfl⟩, id, List.Subset.refl _, ?_, fun e he hc => ?_⟩
  · simp [State.lowerCause]
  · exact List.mem_map.2 ⟨e, he, if_neg (fun h => hc h.1)⟩

section
variable {s : State} (code : Nat) (hw : Bool)

/-- Safe-hold is entered from these modes (Table 2-2). -/
theorem State.enterSafeHold_of_active (h : s.md.mode ∈ [Mode.warmUp, .ready, .print, .runOut]) : ∃ u, Steady s u
    ∧ s.enterSafeHold code hw = (({ u with md := { u.md with pend := none } }.toMode .safeHold hw).raise
      { code := 0x0c12, fields := [code], sheet := s.anySealed }).holdTiles := by
  refine ⟨s.abortSheets.disarmTickets.disarmSlots,
    (s.abortSheets_steady.trans (State.disarmTickets_steady _)).trans (State.disarmSlots_steady _), ?_⟩
  unfold State.enterSafeHold
  simp only [List.mem_cons, List.not_mem_nil, or_false] at h
  obtain h | h | h | h := h <;> rw [h]

theorem State.enterSafeHold_mode (h : s.md.mode ∈ [Mode.warmUp, .ready, .print, .runOut]) :
    (s.enterSafeHold code hw).md.mode = .safeHold := by
  obtain ⟨u, -, he⟩ := State.enterSafeHold_of_active code hw h
  rw [he, (State.holdTiles_steady _).md]
  simp

/-- From every other mode it is not. -/
theorem State.enterSafeHold_of_rest (h : s.md.mode ∉ [Mode.warmUp, .ready, .print, .runOut]) :
    s.enterSafeHold code hw = s ∨ s.enterSafeHold code hw = s.lowerCause code := by
  unfold State.enterSafeHold
  cases hm : s.md.mode
  case safeHold =>
    cases hw
    · exact .inl rfl
    · exact .inr rfl
  case configure => exact .inl rfl
  case standby => exact .inl rfl
  case dormant => exact .inl rfl
  all_goals exact absurd hm (fun hm => h (by simp [hm]))

theorem State.enterSafeHold_onward : Onward s (s.enterSafeHold code hw) := by
  by_cases h : s.md.mode ∈ [Mode.warmUp, .ready, .print, .runOut]
  · obtain ⟨u, hu, he⟩ := State.enterSafeHold_of_active code hw h
    rw [he]
    exact (hu.toOnward.trans (Onward.trans (.of_eq (by rfl)) (State.toMode_onward _ _ _))).trans
      ((State.raise_steady _ _).trans (State.holdTiles_steady _)).toOnward
  · obtain he | he := State.enterSafeHold_of_rest code hw h
    · rw [he]; exact .refl s
    · rw [he]; exact s.lowerCause_onward code

/-- Of the mode state Safe-hold changes the mode, the pending transition and the tempo of the last hardware transition. -/
theorem State.enterSafeHold_md : ∃ m p w, (s.enterSafeHold code hw).md = { s.md with mode := m, pend := p, hwAt := w } := by
  by_cases h : s.md.mode ∈ [Mode.warmUp, .ready, .print, .runOut]
  · obtain ⟨u, hu, he⟩ := State.enterSafeHold_of_active code hw h
    obtain ⟨w, hm⟩ := State.toMode_md { u with md := { u.md with pend := none } } .safeHold hw
    rw [he, (State.holdTiles_steady _).md, State.raise_md, hm, hu.md]
    exact ⟨_, _, _, rfl⟩
  · obtain he | he := State.enterSafeHold_of_rest code hw h <;> rw [he]
    · exact ⟨_, _, _, rfl⟩
    · exact ⟨_, _, _, rfl⟩

end

end Sys2Proof.Machine
end

section
namespace Sys2Proof.Machine
open Sys2Proof Sys2Proof.Claims
variable {s : State} {m : Msg} {t exit : Mode} {r : Reply}

/-! ### Transitions of Table 2-2 -/

@[simp] theorem State.ok_md (r : Reply) (d : Bytes) : (s.ok r d).md = s.md := rfl
@[simp] theorem State.accepted_md (r : Reply) : (s.accepted r).md = s.md := rfl

@[simp] theorem State.leaveRunOut_mode : s.leaveRunOut.md.mode = s.md.exitTarget := by
  unfold State.leaveRunOut
  split
  · next h => rw [h, State.enterStandby_mode]
  · exact State.toMode_mode _ _ _

/-- MODE_SET that Table 2-2 allows makes its transition. -/
theorem execModeSet_runs (hm : s.takes 0x0010 m = true) (hat : At s inModeSet) (hp : m.payload = [])
    (hres : Nat.land m.arg.toNat 0xfffffffffffff8f8 = 0) (hc : m.checkOnly = false) (ht : modeOf (m.argN 8 1 % 8) = t)
    (hr : t ∈ s.md.mode.reaches) (hx : t = .runOut → modeOf (m.argN 9 1 % 8) ∈ exitTargets) (hw : s.md.hwAt ≠ some s.tempo)
    (hpend : s.md.pend = none) (hcond : s.transitionRefs t = []) :
    exec (.modeSet m) s = .next (s.transit t (modeOf (m.argN 9 1 % 8)) (s.replyOf 0x0010 m)) := by
  have hexit : (t == .runOut && !exitTargets.contains (modeOf (m.argN 9 1 % 8))) = false := by
    by_cases h : t = .runOut
    · rw [List.contains_iff_mem.2 (hx h)]; simp
    · simp [h]
  show execModeSet m s = _
  unfold execModeSet
  dsimp only
  rw [hat, ht, Msg.plen_nil (by simp [hp]), Msg.argRes_nil hres, hexit, hpend, hcond, List.contains_iff_mem.2 hr]
  simp only [beq_eq_false_iff_ne.2 hw, Option.isSome_none, Bool.not_true, Bool.or_false, refuse_false, List.append_nil]
  exact congrArg _ (s.command_runs 0x0010 m _ hm hc)

theorem State.transit_standby (h : s.md.mode = .standby) : s.transit .warmUp exit r
    = ({ s with md := { s.md with pend := some ⟨.warmUp, none⟩ }, therm := { s.therm with
        plan := if s.therm.plan.isSome then s.therm.plan else some none } }).accepted r := by
  unfold State.transit; rw [h]

/-- Warm-up gives way to Standby at once, or waits for its outputs. -/
theorem State.transit_warmUp (h : s.md.mode = .warmUp) : (s.transit .standby exit r).md.mode = .standby
    ∨ (s.transit .standby exit r).md.mode = .warmUp ∧ (s.transit .standby exit r).md.pend = some ⟨.standby, none⟩ := by
  have hstop := s.stopAll_steady.md
  unfold State.transit
  rw [h]
  dsimp only
  split
  · exact .inl (by simp)
  · exact .inr (by simp [hstop, h])

theorem State.transit_ready (h : s.md.mode = .ready) : (s.transit .runOut exit r).md.mode = exit := by
  obtain ⟨w, hmd⟩ := State.toMode_md { s with md := { s.md with exitTarget := exit } } .runOut false
  unfold State.transit
  rw [h]
  simp [hmd]

/-- Every other transition of the table is made. -/
theorem State.transit_mode (hr : t ∈ s.md.mode.reaches) (hs : s.md.mode ≠ .standby) (hw : s.md.mode = .warmUp → t ≠ .standby)
    (hx : s.md.mode = .ready → t ≠ .runOut) : (s.transit t exit r).md.mode = t := by
  unfold State.transit
  split
  next hm => exact absurd hm hs
  next hm => exact absurd rfl (hw hm)
  next hm => exact absurd rfl (hx hm)
  next => simp
  next => simp
  next =>
    refine State.enterSafeHold_mode _ _ ?_
    revert hr
    show Mode.safeHold ∈ s.md.mode.reaches → s.md.mode ∈ _
    cases s.md.mode <;> decide
  next => simp

/-- MODE_TRANSITION_COMPLETE in Run-out. -/
theorem execModeTransitionComplete_runOut (hat : At s inEvents) (hm : s.md.mode = .runOut) (hs : s.anySealed = false)
    (hd : s.runoutsDone = true) : exec .modeTransitionComplete s = .next s.leaveRunOut := by
  show execModeTransitionComplete s = _
  unfold execModeTransitionComplete
  dsimp only
  rw [hat, if_pos hm]
  simp [hs, hd]

/-- MODE_TRANSITION_COMPLETE in Warm-up. -/
theorem execModeTransitionComplete_warmUp {rep : Option Reply} (hat : At s inEvents) (hm : s.md.mode = .warmUp)
    (hp : s.md.pend = some ⟨.standby, rep⟩) (ho : s.outputsOff = true) :
    exec .modeTransitionComplete s = .next ({ s with md := { s.md with pend := none } }.enterStandby false) := by
  show execModeTransitionComplete s = _
  unfold execModeTransitionComplete
  dsimp only
  rw [hat, if_neg (by simp [hm]), hp]
  simp [hm, ho]

end Sys2Proof.Machine

namespace Sys2Proof.Proofs
open Sys2Proof Sys2Proof.Machine Sys2Proof.Claims

/-- Settles O11: the command runs `State.transit`, whose cases are those of the statement. -/
theorem modeSetMakesATransitionOfTable22 : Obligations.ModeSetMakesATransitionOfTable22 := by
  intro m s t hm hat hp hres hc ht hr hx hw hpend hcond
  refine ⟨_, execModeSet_runs hm hat hp hres hc ht hr hx hw hpend hcond, fun h => ?standby, fun h ht => ?warmUp, fun h ht => ?ready,
    State.transit_mode hr⟩
  case standby =>
    obtain rfl : t = .warmUp := by simpa [h, Mode.reaches] using hr
    rw [State.transit_standby h]
    exact ⟨h, rfl, rfl⟩
  case warmUp => subst ht; exact State.transit_warmUp h
  case ready => subst ht; exact State.transit_ready h

/-- Settles O12: each end is `State.leaveRunOut` or `State.enterStandby`, which set the mode. -/
theorem modeTransitionCompleteEndsRunOutAndWarmUp : Obligations.ModeTransitionCompleteEndsRunOutAndWarmUp :=
  fun _ hat => ⟨fun hm hs hd => ⟨_, execModeTransitionComplete_runOut hat hm hs hd, State.leaveRunOut_mode⟩,
    fun _ hm hp ho => ⟨_, execModeTransitionComplete_warmUp hat hm hp ho, State.enterStandby_mode _ _⟩⟩

end Sys2Proof.Proofs
end

section
namespace Sys2Proof.Machine
open Sys2Proof Sys2Proof.Claims
variable (s : State)

/-! ### Power-downs of the rails -/

theorem State.toRail_steady (i : Nat) (st : RailState) : Steady s (s.toRail i st) := by
  unfold State.toRail
  exact .ite (.refl s) (.ite ⟨⟨rfl, rfl, rfl, ⟨_, _, _, rfl⟩, id, List.Subset.refl _, Nat.le_refl _, fun _ h _ => h⟩, rfl⟩ (.of_eq (by rfl)))

@[simp] theorem State.toRail_downs (i : Nat) (st : RailState) : (s.toRail i st).rails.downs = s.rails.downs := by
  unfold State.toRail
  dsimp only
  split
  · rfl
  · split <;> rfl

theorem State.sequenceDone_steady (last : Nat) : Steady s (s.sequenceDone last) :=
  Steady.trans (.of_eq (by rfl)) (State.raise_steady _ _)

theorem State.ownDown_steady : Steady s s.ownDown := by
  unfold State.ownDown
  exact .ite (.refl s) ⟨⟨rfl, rfl, rfl, ⟨_, _, _, rfl⟩, fun _ => rfl, List.Subset.refl _, Nat.le_refl _, fun _ h _ => h⟩, rfl⟩

@[simp] theorem State.ownDown_wake : s.ownDown.aon.wake = .down := by
  unfold State.ownDown
  split
  · assumption
  · rfl

/-- A power-down that completes reports, and answers the host if it asked for it. -/
def State.downReported (s : State) (d : Down) : State :=
  match d.reply with
  | none => s.sequenceDone (maskOf d.timed)
  | some r =>
    if d.timed.isEmpty then (s.sequenceDone (maskOf d.timed)).ok r
    else (s.sequenceDone (maskOf d.timed)).post r stTIMEOUT noIndex (toLE 4 (maskOf d.timed))

theorem State.downReported_steady (d : Down) : Steady s (s.downReported d) := by
  unfold State.downReported
  split
  · exact s.sequenceDone_steady _
  · exact (s.sequenceDone_steady _).trans (.ite (.of_eq (by rfl)) (.of_eq (by rfl)))

@[simp] theorem State.downReported_rails (d : Down) : (s.downReported d).rails = s.rails := by
  unfold State.downReported
  split
  · exact State.raise_rails _ _
  · split
    · exact State.raise_rails _ _
    · exact State.raise_rails _ _

/-- One for Dormant or for a fault of an own rail is followed by the own rails' power-down (Table 15-4). -/
theorem State.downDone_eq (d : Down) : s.downDone d
    = if d.cause = .dormant ∨ d.cause = .ownRail then (s.downReported d).ownDown else s.downReported d := by
  obtain ⟨cause, scope, wait, reply, timed⟩ := d
  cases cause <;> rfl

theorem State.downDone_steady (d : Down) : Steady s (s.downDone d) := by
  rw [s.downDone_eq]
  exact .ite ((s.downReported_steady d).trans (State.ownDown_steady _)) (s.downReported_steady d)

@[simp] theorem State.downDone_rails (d : Down) : (s.downDone d).rails = s.rails := by
  rw [s.downDone_eq]
  split
  · unfold State.ownDown
    split <;> simp
  · simp

/-- The rails of the power-downs that have started have gone as far as they can. -/
def State.railsFall (s : State) : State :=
  let scope := (List.range 32).filter s.inDown
  let s1 := scope.foldl (fun u i =>
    if (u.rail i).state = .waiting ∨ (u.rail i).state = .blocked then u.toRail i .off else u) s
  (scope.filter s1.mayFall).foldl (fun u i => u.toRail i .falling) s1

/-- A power-down that has started and whose scope is down. -/
def State.downEnds (s : State) (d : Down) : Bool := d.wait.isNone && s.scopeDown d

theorem State.downAdvance_eq : s.downAdvance = (s.railsFall.rails.downs.filter s.railsFall.downEnds).foldl (fun u d => u.downDone d)
    { s.railsFall with rails := { s.railsFall.rails with
      downs := s.railsFall.rails.downs.filter (fun d => !s.railsFall.downEnds d) } } := rfl

theorem State.railsFall_steady : Steady s s.railsFall :=
  (Steady.foldl (fun u i => by exact .ite (u.toRail_steady i .off) (.refl u)) _ s).trans
    (.foldl (fun u i => u.toRail_steady i .falling) _ _)

@[simp] theorem State.railsFall_downs : s.railsFall.rails.downs = s.rails.downs := by
  refine (foldl_keeps (fun u : State => u.rails.downs) (fun u i => u.toRail_downs i _) _ _).trans
    (foldl_keeps (fun u : State => u.rails.downs) (fun u i => ?_) _ s)
  show (if _ then _ else u).rails.downs = _
  split
  · exact u.toRail_downs i _
  · rfl

theorem State.downAdvance_steady : Steady s s.downAdvance := by
  rw [s.downAdvance_eq]
  exact s.railsFall_steady.trans (Steady.trans (.of_eq (by rfl)) (.foldl (fun u d => u.downDone_steady d) _ _))

/-- A started power-down for a fault of an own rail goes on, or is over and the own rails go down. -/
theorem State.downAdvance_ownRail {d : Down} (hd : d ∈ s.rails.downs) (hc : d.cause = .ownRail) :
    s.downAdvance.aon.wake = .down ∨ d ∈ s.downAdvance.rails.downs := by
  have hd : d ∈ s.railsFall.rails.downs := by simpa using hd
  rw [s.downAdvance_eq]
  cases he : s.railsFall.downEnds d with
  | true =>
    obtain ⟨xs, ys, hxy⟩ := List.append_of_mem (List.mem_filter.2 ⟨hd, he⟩)
    refine .inl ?_
    rw [hxy, List.foldl_append, List.foldl_cons]
    refine (Steady.foldl (fun u d => u.downDone_steady d) ys _).down ?_
    rw [State.downDone_eq, if_pos (.inr hc)]
    exact State.ownDown_wake _
  | false =>
    refine .inr ?_
    rw [foldl_keeps (fun u : State => u.rails) (fun u d => u.downDone_rails d)]
    exact List.mem_filter.2 ⟨hd, by simp [he]⟩

/-- What a power-down does to a running power-up: any but a dependant shutdown stops it. -/
def State.upStopped (s : State) (cause : DownCause) : State :=
  if cause = .dependant then s
  else match s.rails.up with
    | none => s
    | some r =>
      let u := (s.usedRails.filter (fun i => (s.rail i).state == .waiting)).foldl (fun v i => v.toRail i .off) s
      let u1 : State := { u with rails := { u.rails with up := none, upWait := none } }
      (u1.sequenceDone (u1.railMask .blocked)).post r stFAULT_LATCHED noIndex
        (toLE 4 (u1.railMask .up) ++ toLE 4 (u1.railMask .failed) ++ toLE 4 (u1.railMask .blocked))

theorem State.upStopped_steady (cause : DownCause) : Steady s (s.upStopped cause) := by
  unfold State.upStopped
  refine .ite (.refl s) ?_
  split
  · exact .refl s
  · extract_lets u old u1
    have h : Steady s u := .foldl (fun v i => v.toRail_steady i .off) _ s
    exact (h.trans (.of_eq (by rfl))).trans ((u1.sequenceDone_steady _).trans (.of_eq (by rfl)))

theorem State.startDown_eq (cause : DownCause) (scope : List Nat) (waits : Bool) (reply : Option Reply) :
    s.startDown cause scope waits reply = State.downAdvance { s.upStopped cause with rails := { (s.upStopped cause).rails with
      downs := (s.upStopped cause).rails.downs ++ [{ cause, scope, reply
                                                     wait := if waits && !s.aon.seqDnIn then some (s.tempo + 500000 * s.par clsDEV 0 0x060) else none }] } } :=
  rfl

theorem State.startDown_steady (cause : DownCause) (scope : List Nat) (waits : Bool) (reply : Option Reply) :
    Steady s (s.startDown cause scope waits reply) := by
  rw [s.startDown_eq]
  exact (s.upStopped_steady cause).trans (Steady.trans (.of_eq (by rfl)) (State.downAdvance_steady _))

/-- The power-down for a fault of an own rail is under way, or its last part is. -/
theorem State.startDown_ownRail (scope : List Nat) (reply : Option Reply) :
    (s.startDown .ownRail scope false reply).aon.wake = .down
      ∨ ∃ d, d ∈ (s.startDown .ownRail scope false reply).rails.downs ∧ d.cause = .ownRail ∧ d.wait = none := by
  rw [s.startDown_eq]
  exact (State.downAdvance_ownRail _ (List.mem_append_right _ (List.mem_singleton.2 rfl)) rfl).imp id
    (fun h => ⟨_, h, rfl, rfl⟩)

/-! ### Leaving L0 for Dormant (R41, R90) -/

section
variable {s : State} {r : Reply}

/-- While the response of DORMANT_ENTER waits, nothing has changed. -/
theorem State.leaveL0_waits (hl : s.md.leaving = some r) (ho : (s.ring r.ring).owes r = true) : s.leaveL0 = s := by
  unfold State.leaveL0
  rw [hl]
  exact if_pos ho

theorem State.leaveL0_of_none (hl : s.md.leaving = none) : s.leaveL0 = s := by
  unfold State.leaveL0
  rw [hl]

/-- With the response gone, the link is down and the power-down runs. -/
theorem State.leaveL0_leaves (hl : s.md.leaving = some r) (ho : (s.ring r.ring).owes r = false) :
    Steady { s with md := { s.md with leaving := none }, host := { s.host with linkUp := false, training := false } } s.leaveL0 := by
  unfold State.leaveL0
  rw [hl]
  dsimp only
  rw [if_neg (by simp [ho])]
  exact (Steady.foldl (fun u p => by exact .of_eq rfl) _ _).trans (State.startDown_steady _ _ _ _ _)

end

section
variable {s : State} {m : Msg}

/-- DORMANT_ENTER is answered and the strap image stored, and the response is to be posted before the device leaves L0. -/
def State.strapped (s : State) (m : Msg) : State :=
  { s.ok (s.replyOf 0x0011 m) with
    aon := { s.aon with keep := m.pay 0 4, watch := m.pay 4 4, wakeFilt := m.pay 8 1 }
    md := { s.md with pend := some ⟨.dormant, none⟩, leaving := some (s.replyOf 0x0011 m) } }

theorem execDormantEnter_runs (h : Takes 0x0011 m 16 noArg s) (hz : m.pay 9 7 = 0) (hm : s.md.mode ∈ [Mode.configure, .standby, .safeHold])
    (hp : s.md.pend = none) (hf : m.pay 8 1 = 0 ∨ 4 ≤ m.pay 8 1) (hk : s.badKeep (m.pay 0 4 / 32 * 32) = false) :
    exec (.dormantEnter m) s = .next (s.strapped m).leaveL0 := by
  obtain ⟨-, hat, hlen, hres, -⟩ := id h
  have hf : decide (1 ≤ m.pay 8 1 ∧ m.pay 8 1 ≤ 3) = false := decide_eq_false (by omega)
  show execDormantEnter m s = _
  unfold execDormantEnter
  dsimp only
  rw [hat]
  refine congrArg _ (State.command_of_takes h ?_ _)
  rw [Msg.plen_nil hlen, Msg.argRes_nil hres, State.inModes_nil hm, hz, hp, hf, hk]
  rfl

end

end Sys2Proof.Machine

namespace Sys2Proof.Proofs
open Sys2Proof Sys2Proof.Machine Sys2Proof.Claims

/-- Settles O13: the state that `State.strapped` gives leaves L0 at once, or waits for the response to be posted. -/
theorem dormantEnterStoresTheStrapImage : Obligations.DormantEnterStoresTheStrapImage := by
  intro m s h hz hm hp hf hk
  refine ⟨_, execDormantEnter_runs h hz hm hp hf hk, ?_⟩
  have hl : (s.strapped m).md.leaving = some (s.replyOf 0x0011 m) := rfl
  cases ho : ((s.strapped m).ring m.ring).owes (s.replyOf 0x0011 m) with
  | true =>
    rw [State.leaveL0_waits hl ho]
    exact ⟨rfl, rfl, rfl, .inr rfl, fun _ => ⟨rfl, rfl⟩, fun hn => absurd (ho.symm.trans hn) (by decide)⟩
  | false =>
    have left := State.leaveL0_leaves hl ho
    obtain ⟨up, wake, since, ha⟩ := left.aon
    rw [ha, left.md, left.linkUp]
    exact ⟨rfl, rfl, rfl, .inr rfl, fun hn => absurd (ho.symm.trans hn) (by decide), fun _ => rfl⟩

end Sys2Proof.Proofs
end

section
namespace Sys2Proof.Machine
open Sys2Proof Sys2Proof.Claims
variable (s : State)

/-! ### Reads and writes of memories -/

theorem State.wordAt_steady (i w : Nat) : Steady s (s.wordAt i w).2 := by
  unfold State.wordAt
  dsimp only
  split
  · exact .refl s
  · split
    · exact .refl s
    · split
      · exact .of_eq rfl
      · exact .of_eq rfl

theorem State.checkedWord_steady (i w : Nat) : Steady s (s.checkedWord i w).2 := by
  have hw := s.wordAt_steady i w
  unfold State.checkedWord
  dsimp only
  split
  case h_4 =>
    split
    · exact hw.trans (.of_eq (by rfl))
    · split
      · exact hw.trans (.of_eq (by rfl))
      · exact hw.trans (.of_eq (by rfl))
  all_goals exact hw

theorem State.reportUe_steady (i a reader what : Nat) (latch : List Nat) (sheet : Bool) :
    Steady s (s.reportUe i a reader what latch sheet) := by
  unfold State.reportUe
  extract_lets m s1 s2
  have h2 : Steady s s2 := Steady.trans (t := s1) (.of_eq (by rfl)) (.ite (.refl s1) (s1.signal_steady 0))
  exact h2.trans (s2.raise_steady _)

theorem State.report_steady (i w reader : Nat) (r : Read) (what : Nat) (latch : List Nat) :
    Steady s (s.report i w reader r what latch) := by
  unfold State.report State.reportCe
  refine .ite ?_ (.ite (s.reportUe_steady _ _ _ _ _ _) (.refl s))
  extract_lets m recent ue s1 s2
  have h2 : Steady s s2 := Steady.trans (.of_eq (by rfl)) (State.raiseLimited_steady _ _ _ _ _)
  exact .ite (h2.trans (s2.raiseLimited_steady _ _ _ _)) h2

theorem State.settle_steady (seqs : List Nat) : Steady s (s.settle seqs) := .of_eq rfl

theorem State.drainEntry_steady (i : Nat) (e : Merge) : Steady s (s.drainEntry i e) := by
  unfold State.drainEntry
  extract_lets s1
  have h1 : Steady s s1 := .of_eq rfl
  refine .ite (h1.trans (.of_eq (by rfl))) (h1.trans ?_)
  have h2 := s1.checkedWord_steady i e.word
  generalize s1.checkedWord i e.word = p at h2 ⊢
  obtain ⟨r, s2⟩ := p
  have h3 : Steady s1 (s2.report i e.word 6 r) := h2.trans (s2.report_steady _ _ _ _ _ _)
  dsimp only
  refine h3.trans (.ite (Steady.trans ?_ (State.settle_steady _ _)) (.of_eq (by rfl)))
  exact Steady.trans (t := State.putWord _ i e.word _) (.of_eq (by rfl)) (.foldl (fun _ _ => by exact .of_eq rfl) _ _)

theorem State.writeMasked_steady (i w d mask seq : Nat) : Steady s (s.writeMasked i w d mask seq) := by
  unfold State.writeMasked
  refine .ite (.of_eq (by rfl)) ?_
  split
  · exact Steady.trans (.of_eq (by rfl)) (.ite (State.drainEntry_steady _ _ _) (.refl _))
  · extract_lets s1
    have h1 : Steady s s1 := by
      unfold s1
      split
      · exact .ite (s.drainEntry_steady _ _) (.refl s)
      · exact .refl s
    exact h1.trans (.of_eq (by rfl))

theorem State.memWrite_steady (i a : Nat) (d : Bytes) (seq : Nat) : Steady s (s.memWrite i a d seq) :=
  .foldl (fun u _ => u.writeMasked_steady _ _ _ _ _) _ s

/-! ### Boot (R43 to R45) -/

@[simp] theorem State.toBoot_md (b : Boot) : (s.toBoot b).md = { s.md with boot := b } := State.signal_md _ _

@[simp] theorem State.toBoot_mem (b : Boot) (i : Nat) : (s.toBoot b).mem i = s.mem i := State.signal_mem _ _ _

section
variable {s : State}

theorem execBootRomInitDone_runs (hb : s.md.boot = .init) (hr : s.running = true) (hm : s.md.mode ≠ .dormant) :
    exec .bootRomInitDone s = .next (([11, 12].foldl (fun u i => u.updMem i (fun m => { m with words := [], zeroed := true })) s).toBoot
      .awaiting) :=
  congrArg _ (if_pos ⟨hb, hr, hm⟩)

/-- An image that passes its checks is loaded and runs. -/
theorem execBootCheckDone_good (hb : s.md.boot = .checking) (hg : s.bootReject = 0) : ∃ u, Steady s u
    ∧ exec .bootCheckDone s = .next ({ u with md := { u.md with
        window := [], cmdsetVer := s.imageN 0x0c 4, fwVer := s.imageN 0x10 4, entry := s.imageN 0x18 4, wdMs := 1000
        wdAt := s.tempo, wdExpired := false } }.toBoot .running) := by
  refine ⟨_, .foldl (fun u (g : Nat × Nat × Nat) => u.memWrite_steady 12 g.2.2 (s.image g.1 g.2.1) 0)
    ((List.range (s.imageN 0x1c 4)).map s.segment) s, ?_⟩
  show execBootCheckDone s = _
  unfold execBootCheckDone
  rw [if_neg (not_not.2 hb)]
  exact congrArg _ (if_pos hg)

/-- An image that fails one is rejected, the eighth time for good. -/
theorem execBootCheckDone_bad (hb : s.md.boot = .checking) (hg : s.bootReject ≠ 0) : exec .bootCheckDone s
    = .next ({ s with md := { s.md with rejectCode := s.bootReject, rejectCount := s.md.rejectCount + 1 } }.toBoot
        (if 8 ≤ s.md.rejectCount + 1 then .locked else .rejected)) := by
  show execBootCheckDone s = _
  unfold execBootCheckDone
  rw [if_neg (not_not.2 hb)]
  exact congrArg _ (if_neg hg)

/-! ### The watchdog (R37) -/

/-- With no sheet sealed, an event leaves the sheets as they are. -/
theorem State.raise_sheets_of_unsealed (hs : s.sealedTks = []) (e : Ev) : (s.raise e).sheets = s.sheets := by
  have latch : ∀ (u : State) (o : Nat), u.sheets = s.sheets → (u.latchNew e.code o).sheets = s.sheets := by
    intro u o hu
    have hn : u.sealedTks = [] := by unfold State.sealedTks at hs ⊢; rw [hu, hs]
    unfold State.latchNew
    split
    · exact hu
    · extract_lets first s1
      have h1 : s1.sealedTks = [] := hn
      rw [h1]
      exact hu
  unfold State.raise
  split
  · extract_lets new onSheet
    have hq : ∀ (u : State) (x : EvMsg), (u.queueEv x).sheets = u.sheets := by
      intro u x
      unfold State.queueEv
      split <;> rfl
    rw [hq]
    exact foldl_pred (P := fun u : State => u.sheets = s.sheets) (fun u o hu => latch u o hu) rfl
  · rfl

theorem State.raise_sealedTks_of_unsealed (hs : s.sealedTks = []) (e : Ev) : (s.raise e).sealedTks = [] := by
  unfold State.sealedTks at hs ⊢
  rw [State.raise_sheets_of_unsealed hs, hs]

theorem State.watchdogHold_onward : Onward s s.watchdogHold := by
  unfold State.watchdogHold
  split
  · exact s.enterSafeHold_onward _ _
  · exact .refl s

@[simp] theorem State.watchdogHold_wdExpired : s.watchdogHold.md.wdExpired = s.md.wdExpired := by
  unfold State.watchdogHold
  split
  · obtain ⟨_, _, _, h⟩ := s.enterSafeHold_md 0x0c11 true
    rw [h]
  · rfl

/-- Where no press motion runs, the watchdog holds nothing. -/
theorem State.watchdogHold_of_rest (h : s.md.mode ∉ [Mode.warmUp, .ready, .print, .runOut]) :
    s.watchdogHold = s ∨ s.watchdogHold = s.lowerCause 0x0c11 := by
  unfold State.watchdogHold
  split
  · exact State.enterSafeHold_of_rest _ _ h
  · exact .inl rfl

theorem State.watchdogHold_mode (hw : s.md.wdExpired = true) (hs : s.sealedTks = [])
    (h : s.md.mode ∈ [Mode.warmUp, .ready, .print, .runOut]) : s.watchdogHold.md.mode = .safeHold := by
  unfold State.watchdogHold
  rw [hw, hs]
  exact State.enterSafeHold_mode _ _ h

/-- The watchdog's alarm: FAULT_HW.WATCHDOG, and 0x0c11 with the period. -/
def State.watchdogAlarm (s : State) : State :=
  ({ s with watchdog := true, md := { s.md with wdExpired := true } }.signal 0).raise
    { code := 0x0c11, fields := [s.md.wdMs], latch := [objDEV] }

theorem State.watchdogExpires_eq (h : s.md.wdExpired = false) : s.watchdogExpires = s.watchdogAlarm.watchdogHold := by
  unfold State.watchdogExpires
  rw [if_neg (by simp [h])]
  rfl

theorem State.watchdogAlarm_md : s.watchdogAlarm.md = { s.md with wdExpired := true } := by simp [State.watchdogAlarm]

theorem State.watchdogAlarm_watchdog : s.watchdogAlarm.watchdog = true := by simp [State.watchdogAlarm]

theorem State.watchdogExpires_flags (h : s.md.wdExpired = false) :
    s.watchdogExpires.watchdog = true ∧ s.watchdogExpires.md.wdExpired = true := by
  rw [State.watchdogExpires_eq h, State.watchdogHold_onward.watchdog, State.watchdogHold_wdExpired, State.watchdogAlarm_md]
  exact ⟨State.watchdogAlarm_watchdog, rfl⟩

theorem execWatchdogExpire_ue (a : Nat) (hat : At s inTimeouts) (hb : s.md.boot = .running) :
    exec (.watchdogExpire (.ue a)) s = .next (s.reportUe 12 a 0xb objDEV [objDEV]).watchdogExpires := by
  show execWatchdogExpire (.ue a) s = _
  unfold execWatchdogExpire
  rw [hat]
  exact congrArg _ (if_pos hb)

theorem execWatchdogExpire_silent {ms : Nat} (hat : At s inTimeouts) (hb : s.md.boot = .running) (h1 : 1 ≤ ms) (h2 : ms ≤ 1000)
    (hd : s.md.wdAt + 500000 * ms ≤ s.tempo) :
    exec (.watchdogExpire (.silent ms)) s = .next { s with md := { s.md with wdMs := ms } }.watchdogExpires := by
  show execWatchdogExpire (.silent ms) s = _
  unfold execWatchdogExpire
  rw [hat]
  exact congrArg _ ((if_pos hb).trans (if_pos ⟨h1, h2, hd⟩))

end

end Sys2Proof.Machine

namespace Sys2Proof.Proofs
open Sys2Proof Sys2Proof.Machine Sys2Proof.Claims

/-- What a watchdog does that has not expired before: its alarm, and Safe-hold where the mode and the sheets ask for it. -/
theorem watchdogExpires_holds {s : State} (hx : s.md.wdExpired = false) (ho : s.objHere objDEV = true) :
    s.watchdogExpires.latched 0x0c11 objDEV = true ∧ Raised s.watchdogExpires 0x0c11 objDEV [s.md.wdMs]
    ∧ (s.md.mode = .configure ∨ s.md.mode = .standby → s.watchdogExpires.md.mode = s.md.mode
      ∧ s.watchdogExpires.drive = s.drive ∧ s.watchdogExpires.mems = s.mems)
    ∧ (s.sealedTks = [] → s.md.mode ∈ [Mode.warmUp, .ready, .print, .runOut] → s.watchdogExpires.md.mode = .safeHold) := by
  let e : Ev := { code := 0x0c11, fields := [s.md.wdMs], latch := [objDEV] }
  let u := { s with watchdog := true, md := { s.md with wdExpired := true } }.signal 0
  have hu : u.objHere objDEV = true := (State.objHere_congr (State.signal_die _ _) (State.signal_removed _ _) _).trans ho
  have held : Onward s.watchdogAlarm s.watchdogAlarm.watchdogHold := State.watchdogHold_onward
  have hmode : s.watchdogAlarm.md.mode = s.md.mode := by rw [State.watchdogAlarm_md]
  rw [State.watchdogExpires_eq hx]
  refine ⟨held.latched (State.latched_raise (e := e) hu hu (List.mem_singleton.2 rfl)),
    held.raised (by decide) (State.raised_raise (e := e) hu), fun hm => ?_, fun hs hm => ?_⟩
  · have hrest : s.watchdogAlarm.md.mode ∉ [Mode.warmUp, .ready, .print, .runOut] := by
      rw [hmode]; obtain h | h := hm <;> rw [h] <;> decide
    have hd : s.watchdogAlarm.drive = s.drive := by simp [State.watchdogAlarm]
    have hmem : s.watchdogAlarm.mems = s.mems := by simp [State.watchdogAlarm]
    obtain h | h := State.watchdogHold_of_rest hrest
    · rw [h]; exact ⟨hmode, hd, hmem⟩
    · rw [h]; exact ⟨hmode, hd, hmem⟩
  · have hn : u.sealedTks = [] := by
      obtain ⟨_, _, h⟩ := State.signal_eq { s with watchdog := true, md := { s.md with wdExpired := true } } 0
      rw [show u = _ from h]; exact hs
    exact State.watchdogHold_mode (by rw [State.watchdogAlarm_md]) (State.raise_sealedTks_of_unsealed hn _) (hmode ▸ hm)

/-- Settles O32: the rows one by one; the watchdog's by its alarm and what holds after it. -/
theorem bootRunsAGoodImageAndRejectsAnother : Obligations.BootRunsAGoodImageAndRejectsAnother := by
  intro s
  refine ⟨fun hb hr hm => ⟨_, execBootRomInitDone_runs hb hr hm, State.toBoot_md _ _, ?zeroed, ?others⟩, fun hb hg => ?good,
    fun hb hg => ⟨_, execBootCheckDone_bad hb hg, State.toBoot_md _ _, State.signal_mems _ _⟩, fun a hat hb hx => ?ue,
    fun ms hat hb hx h1 h2 hd ho _ => ?silent⟩
  case zeroed =>
    rintro i (rfl | rfl) <;> simp
  case others =>
    intro i h11 h12
    simp [h11, h12]
  case good =>
    obtain ⟨u, hu, hx⟩ := execBootCheckDone_good hb hg
    refine ⟨_, hx, ?_⟩
    rw [State.toBoot_md, hu.md]
    exact ⟨rfl, rfl, rfl, rfl, rfl, rfl, rfl, rfl, rfl⟩
  case ue =>
    refine ⟨_, execWatchdogExpire_ue a hat hb, State.watchdogExpires_flags ?_⟩
    rw [(s.reportUe_steady _ _ _ _ _ _).md, hx]
  case silent =>
    obtain ⟨hw, he⟩ := State.watchdogExpires_flags (s := { s with md := { s.md with wdMs := ms } }) hx
    exact ⟨_, execWatchdogExpire_silent hat hb h1 h2 hd, hw, he, watchdogExpires_holds hx ho⟩

end Sys2Proof.Proofs
end

section
namespace Sys2Proof.Machine
open Sys2Proof Sys2Proof.Claims
variable (s : State) (p : Nat)

/-! ### PLLs: what the shared operations leave in them -/

@[simp] theorem State.latchNew_pll (code o k : Nat) : (s.latchNew code o).pll k = s.pll k := by
  obtain ⟨_, _, _, _, h⟩ := s.latchNew_eq code o
  rw [h]
  rfl

theorem State.pllSubst_pll : ∃ b, (s.pllSubst p).pll p = { s.pll p with subst := b } := by
  unfold State.pllSubst
  dsimp only
  split
  · exact ⟨true, by simp⟩
  · exact ⟨_, rfl⟩

theorem State.pllSubst_pll_ne {k : Nat} (h : k ≠ p) : (s.pllSubst p).pll k = s.pll k := by
  unfold State.pllSubst
  dsimp only
  split
  · simp [h]
  · rfl

theorem State.edgesBegin_pll : ∃ n t, (s.edgesBegin p).pll p = { s.pll p with edgeN := n, edgeT := t } := by
  unfold State.edgesBegin
  split
  · exact ⟨_, _, rfl⟩
  · exact ⟨_, _, (State.updPll_get _ _ _ _).trans (if_pos rfl)⟩

theorem State.edgesBegin_pll_ne {k : Nat} (h : k ≠ p) : (s.edgesBegin p).pll k = s.pll k := by
  unfold State.edgesBegin
  split
  · rfl
  · exact (State.updPll_get _ _ _ _).trans (if_neg h)

/-- A PLL that enters ACQUIRE opens a window; what its output's first edge is, is free. -/
theorem State.pllAcquire_pll : ∃ n t, (s.pllAcquire p).pll p
    = { s.pll p with edgeN := n, edgeT := t, state := .acquire, inTol := 0, outTol := 0 }.openWindow s.tempo := by
  unfold State.pllAcquire
  rw [State.updPll_get, if_pos rfl]
  split
  · exact ⟨_, _, rfl⟩
  · obtain ⟨n, t, h⟩ := s.edgesBegin_pll p
    exact ⟨n, t, by rw [h]⟩

theorem State.pllAcquire_pll_ne {k : Nat} (h : k ≠ p) : (s.pllAcquire p).pll k = s.pll k := by
  unfold State.pllAcquire
  rw [State.updPll_get, if_neg h]
  split
  · rfl
  · exact s.edgesBegin_pll_ne p h

@[simp] theorem State.pllAcquire_state : ((s.pllAcquire p).pll p).state = .acquire := by
  obtain ⟨_, _, h⟩ := s.pllAcquire_pll p
  rw [h]
  rfl

@[simp] theorem State.pllSearch_state : ((s.pllSearch p).pll p).state = .search := by
  simp [State.pllSearch]

theorem State.pllLock_pll : (s.pllLock p).pll p
    = { s.pll p with state := .locked, inTol := 0, outTol := 0, everLocked := true, recallSlot := none }.openWindow s.tempo := by
  simp [State.pllLock]

theorem State.pllCoast_pll (lost : Bool) (fields : List Nat) : (s.pllCoast p lost fields).pll p
    = { s.pll p with state := .coasting, refLost := lost, coastWin := 0, inTol := 0, outTol := 0
                     frozen := (s.pll p).tune }.openWindow s.tempo := by
  simp [State.pllCoast]

section
variable {s : State} {p : Nat}

theorem State.pllLock_raised (h : s.objHere objDEV = true) : Raised (s.pllLock p) 0x0301 objDEV [p, (s.pll p).state.code] :=
  State.raised_raise (e := { code := 0x0301, fields := [p, (s.pll p).state.code] }) h

theorem State.pllCoast_raised (h : s.objHere objDEV = true) (lost : Bool) (fields : List Nat) :
    Raised (s.pllCoast p lost fields) (if lost then 0x0303 else 0x0302) objDEV (p :: fields) :=
  State.raised_raise h

/-- A lost reference of the SPLL is a latched fault of the device. -/
theorem State.pllCoast_latched (h : s.objHere objDEV = true) (hp : p = 0) (fields : List Nat) :
    (s.pllCoast p true fields).latched 0x0303 objDEV = true :=
  State.latched_raise h h (by simp [hp])

/-! ### CLOCK_START -/

theorem State.startPll_on (h : (s.pll p).state ≠ .off) : s.startPll p = s := if_neg h

/-- A clock that is off, with no band slot to recall, searches. -/
theorem State.startPll_off (h : (s.pll p).state = .off)
    (hk : p < 8 ∨ 8 ≤ s.par clsSTN (p - 8) 0x078 ∨ bit (s.slotField (p - 8) (s.par clsSTN (p - 8) 0x078) 0 1) 0 = false) :
    s.startPll p = s.pllSearch p := by
  unfold State.startPll
  rw [if_pos h]
  refine if_neg ?_
  obtain h | h | h := hk
  · simp [Nat.not_le.2 h]
  · simp [Nat.not_lt.2 h]
  · simp [h]

theorem State.startPll_off_state (h : (s.pll p).state = .off)
    (hk : p < 8 ∨ 8 ≤ s.par clsSTN (p - 8) 0x078 ∨ bit (s.slotField (p - 8) (s.par clsSTN (p - 8) 0x078) 0 1) 0 = false) :
    ((s.startPll p).pll p).state = .search := by
  rw [State.startPll_off h hk, State.pllSearch_state]

/-- A station's PLL that is off recalls the band slot that its parameter names, when that is valid. -/
theorem State.startPll_recall {n k : Nat} (h : (s.pll (8 + n)).state = .off) (hk : s.par clsSTN n 0x078 = k) (h8 : k < 8)
    (hv : bit (s.slotField n k 0 1) 0 = true) : s.startPll (8 + n) = s.recallSlot n k := by
  unfold State.startPll
  rw [if_pos h]
  dsimp only
  rw [Nat.add_sub_cancel_left, hk, hv]
  simp [h8]

/-- A recalled slot leads to ACQUIRE in the slot's band. -/
theorem State.recallSlot_pll {n k : Nat} (hv : bit (s.slotField n k 0 1) 0 = true) : ((s.recallSlot n k).pll (8 + n)).state = .acquire
    ∧ ((s.recallSlot n k).pll (8 + n)).band = s.slotField n k 1 1 ∧ ((s.recallSlot n k).pll (8 + n)).recallSlot = some k := by
  unfold State.recallSlot
  rw [if_pos hv]
  dsimp only
  obtain ⟨_, _, h⟩ := State.pllAcquire_pll (State.updPll _ (8 + n) (fun l => { l with state := .recall })) (8 + n)
  rw [h]
  simp [Pll.openWindow]

theorem execClockStart_eq (u : ClockUnit) (hb : s.md.boot = .running) (hm : s.md.mode ≠ .dormant) : execClockStart u s
    = .next (match u with
      | .dpll => s.startPll 2
      | .blpll half => if half < 2 ∧ s.md.mode ≠ .configure then s.startPll (3 + half) else s
      | .vpll n => if decide (n < 8) && s.inService clsSTN n && (s.station n).enabled then s.startPll (8 + n) else s) :=
  congrArg _ (if_pos ⟨hb, hm⟩)

/-! ### PLL_BAND_FOUND -/

theorem execPllBandFound_runs (hh : s.pllHere p = true) (hm : s.md.mode ≠ .dormant) (hs : (s.pll p).state = .search) (b : Nat) :
    ∃ t, exec (.pllBandFound p b) s = .next t ∧ (t.pll p).state = .acquire ∧ (t.pll p).band = b % 64 ∧ (t.pll p).inTol = 0
      ∧ ∀ k, k ≠ p → t.pll k = s.pll k := by
  have hx : exec (.pllBandFound p b) s = .next ((State.updPll (s.pllSubst p).fresh.2 p (fun l => { l with
      band := b % 64, tune := (s.pllSubst p).fresh.1 % 4096, corrTemp := (s.pllTemp p).getD l.corrTemp })).pllAcquire p) := by
    show execPllBandFound p b s = _
    unfold execPllBandFound
    rw [if_pos ⟨hh, hs, hm⟩]
  refine ⟨_, hx, State.pllAcquire_state _ _, ?_, ?_, fun k hk => ?_⟩
  · obtain ⟨_, _, h⟩ := State.pllAcquire_pll _ p
    rw [h]
    simp [Pll.openWindow]
  · obtain ⟨_, _, h⟩ := State.pllAcquire_pll _ p
    rw [h]
    rfl
  · rw [State.pllAcquire_pll_ne _ _ hk, State.updPll_get, if_neg hk]
    exact s.pllSubst_pll_ne p hk

/-! ### PLL_LOCK_WINDOW -/

/-- The closed loop has its new tuning word: a free value, where the window is in tolerance. -/
def State.tuned (s : State) (p : Nat) (ok : Bool) : State :=
  if ok then s.fresh.2.updPll p (fun l => { l with tune := s.fresh.1 % 4096 }) else s.fresh.2

/-- A window of a PLL that acquires or is locked has been counted. -/
def State.windowed (s : State) (p count : Nat) (ok : Bool) : State :=
  let l := (s.tuned p ok).pll p
  (s.tuned p ok).setPll p ({ l with
    inTol := if ok then l.inTol + 1 else 0, outTol := if ok then 0 else l.outTol + 1
    recallWin := l.recallWin + 1, lastCount := count }.openWindow s.tempo)

theorem State.tuned_pll (s : State) (p : Nat) (ok : Bool) : ∃ f, (s.tuned p ok).pll p = { s.pll p with tune := f } := by
  unfold State.tuned
  split
  · exact ⟨_, (State.updPll_get _ _ _ _).trans (if_pos rfl)⟩
  · exact ⟨_, rfl⟩

theorem State.windowed_pll (s : State) (p count : Nat) (ok : Bool) : ∃ f w c, (s.windowed p count ok).pll p
    = { s.pll p with inTol := if ok then (s.pll p).inTol + 1 else 0, outTol := if ok then 0 else (s.pll p).outTol + 1
                     tune := f, recallWin := w, lastCount := c }.openWindow s.tempo := by
  obtain ⟨f, h⟩ := s.tuned_pll p ok
  exact ⟨f, _, _, (State.setPll_get _ _ _ _).trans (by rw [if_pos rfl, h])⟩

theorem State.windowed_objHere (s : State) (p count : Nat) (ok : Bool) (o : Nat) :
    (s.windowed p count ok).objHere o = s.objHere o := by
  refine State.objHere_congr ?_ ?_ o
  · cases ok <;> rfl
  · cases ok <;> rfl

/-- The fourth window in tolerance in a row locks. -/
theorem State.pllWindow_locks (count expected : Nat) (hs : (s.pll p).state = .acquire) (hi : (s.pll p).inTol = 3) :
    s.pllWindow p count expected true = (s.windowed p count true).pllLock p := by
  obtain ⟨f, h⟩ := s.tuned_pll p true
  refine if_pos ⟨?_, ?_⟩
  · show ((s.tuned p true).pll p).state = _
    rw [h]; exact hs
  · show ((s.tuned p true).pll p).inTol + 1 = 4
    rw [h]; exact congrArg (· + 1) hi

/-- A locked PLL with no recall under way coasts at the second window out of tolerance, and else stays. -/
theorem State.pllWindow_locked (count expected : Nat) (ok : Bool) (hs : (s.pll p).state = .locked) (hr : (s.pll p).recallSlot = none) :
    s.pllWindow p count expected ok = if (if ok then 0 else (s.pll p).outTol + 1) = 2
      then (s.windowed p count ok).pllCoast p false [count, expected] else s.windowed p count ok := by
  obtain ⟨f, h⟩ := s.tuned_pll p ok
  have hs : ((s.tuned p ok).pll p).state ≠ .acquire := by rw [h]; simp [hs]
  have hr : ((s.tuned p ok).pll p).recallSlot = none := by rw [h]; exact hr
  have ho : ((s.tuned p ok).pll p).outTol = (s.pll p).outTol := by rw [h]
  rw [← ho]
  refine (if_neg (fun h => hs h.1)).trans ?_
  split
  · next k hk => exact absurd (hr.symm.trans hk) (by simp)
  · rfl

/-- A window of a coasting PLL with no recall under way has been counted. -/
def State.coasted (s : State) (p count : Nat) : State :=
  s.setPll p ({ s.pll p with
    coastWin := (s.pll p).coastWin + 1, recallWin := (s.pll p).recallWin + 1, lastCount := count }.openWindow s.tempo)

/-- A count is within the lock tolerance of the ratio summed over the window (R139). -/
def State.inTolerance (s : State) (p count : Nat) : Bool :=
  let dev := ((count * 2 ^ 32 : Nat) - (s.pllExpected p : Int)).natAbs
  decide (dev ≤ 2 * 2 ^ 32 ∨ dev * 1000000 ≤ s.pllExpected p * s.pllTol p)

/-- A window that has not come to its end, or with another expected count, is not judged. -/
theorem execPllLockWindow_early {x : Nat} (c : Nat) (h : s.tempo < (s.pll p).winAt + s.pllWinLen p ∨ x ≠ s.pllExpected p / 2 ^ 32) :
    exec (.pllLockWindow p c x) s = .next s := by
  refine congrArg _ (if_neg ?_)
  simp only [Bool.and_eq_true, decide_eq_true_eq]
  rintro ⟨⟨-, hw⟩, hx⟩
  obtain h | h := h
  · exact absurd h (Nat.not_lt.2 hw)
  · exact h hx

section
variable (hh : s.pllHere p = true) (hm : s.md.mode ≠ .dormant) (hr : s.running = true)
  (hw : (s.pll p).winAt + s.pllWinLen p ≤ s.tempo) (c : Nat)
include hh hm hr hw

/-- The lock detector judges a window that has come to its end. -/
theorem execPllLockWindow_judged (hs : (s.pll p).state = .acquire ∨ (s.pll p).state = .locked) :
    exec (.pllLockWindow p c (s.pllExpected p / 2 ^ 32)) s
      = .next (s.pllWindow p c (s.pllExpected p / 2 ^ 32) (s.inTolerance p c)) := by
  refine congrArg _ ((if_pos (by simp [hh, hm, hr, hw])).trans ?_)
  obtain h | h := hs <;> rw [h] <;> rfl

theorem execPllLockWindow_coasting (hs : (s.pll p).state = .coasting) (hn : (s.pll p).recallSlot = none) :
    exec (.pllLockWindow p c (s.pllExpected p / 2 ^ 32)) s
      = .next (if (if (s.pll p).refLost then 4 else 1) ≤ (s.pll p).coastWin + 1 then (s.coasted p c).pllAcquire p else s.coasted p c) := by
  refine congrArg _ ((if_pos (by simp [hh, hm, hr, hw])).trans ?_)
  split
  next h => exact absurd (hs.symm.trans h) (by decide)
  next h => exact absurd (hs.symm.trans h) (by decide)
  next =>
    split
    next k hk => exact absurd (hn.symm.trans hk) (by simp)
    next => rfl
  next h => exact absurd hs h

end

/-! ### PLL_REF_LOST -/

section
variable (hat : At s inEvents) (hh : s.pllHere p = true) (hm : s.md.mode ≠ .dormant)
include hat hh hm

theorem execPllRefLost_locked (hs : (s.pll p).state = .locked) : exec (.pllRefLost p) s = .next (s.pllCoast p true []) := by
  show execPllRefLost p s = _
  unfold execPllRefLost
  dsimp only
  rw [hat, if_pos (by simp [hh, hm]), hs]

theorem execPllRefLost_coasting (hs : (s.pll p).state = .coasting) : exec (.pllRefLost p) s
    = .next (if p = 0 then (s.updPll p (fun l => { l with refLost := true, coastWin := 0 }.openWindow s.tempo)).latchNew 0x0303 objDEV
      else s.updPll p (fun l => { l with refLost := true, coastWin := 0 }.openWindow s.tempo)) := by
  show execPllRefLost p s = _
  unfold execPllRefLost
  dsimp only
  rw [hat, if_pos (by simp [hh, hm]), hs]

end

/-! ### PLL_TEMP_CORRECTION -/

theorem cadenceDue_of_all {last : Option Tempo} {now : Tempo} (h : last.all (fun r => decide (r + 1048576 ≤ now)) = true) :
    cadenceDue last now = true := by
  cases last with
  | none => rfl
  | some r => rw [Option.all_some] at h; exact h

theorem cadenceDue_of_any {last : Option Tempo} {now : Tempo} (h : last.any (fun r => decide (now < r + 1048576)) = true) :
    cadenceDue last now = false := by
  cases last with
  | none => exact absurd h Bool.false_ne_true
  | some r =>
    rw [Option.any_some] at h
    exact decide_eq_false (Nat.not_le.2 (of_decide_eq_true h))

theorem State.pllSubst_of_trusted (h : (s.sensor (pllSensor p)).suspect = false) : s.pllSubst p = s := by
  unfold State.pllSubst
  simp [h]

theorem State.pllTemp_of_trusted (h : (s.sensor (pllSensor p)).suspect = false) :
    s.pllTemp p = some (s.sensor (pllSensor p)).temp := by
  unfold State.pllTemp
  simp [h]

/-- A PLL has read its sensor, and on their own cadence the on-die references have been corrected. -/
def State.sensed (s : State) (p : Nat) : State :=
  let s0 := s.updPll p (fun l => { l with readAt := some s.tempo })
  if cadenceDue s.clk.refsAt s.tempo then { s0 with clk := { s0.clk with refsAt := some s.tempo } } else s0

theorem State.sensed_sensor (s : State) (p k : Nat) : (s.sensed p).sensor k = s.sensor k := by
  unfold State.sensed
  dsimp only
  split <;> rfl

theorem State.sensed_pll (s : State) (p : Nat) : (s.sensed p).pll p = { s.pll p with readAt := some s.tempo } := by
  have h : (s.updPll p (fun l => { l with readAt := some s.tempo })).pll p = { s.pll p with readAt := some s.tempo } :=
    (State.updPll_get _ _ _ _).trans (if_pos rfl)
  unfold State.sensed
  dsimp only
  split
  · exact h
  · exact h

theorem execPllTempCorrection_early (h : cadenceDue (s.pll p).readAt s.tempo = false) :
    exec (.pllTempCorrection p) s = .next s :=
  congrArg _ (if_neg (by simp [h]))

/-- A PLL is corrected by the temperature that it uses (R149). -/
def State.tempCorrected (s : State) (p : Nat) : State :=
  let l := s.pll p
  match s.pllTemp p with
  | none => s
  | some t =>
    match l.state with
    | .locked | .acquire =>
      if 32 ≤ (t - l.corrTemp).natAbs then
        s.setPll p { l with trim := if l.corrTemp < t then l.trim - 1 else l.trim + 1, corrTemp := t }
      else s
    | .coasting =>
      if t = l.corrTemp then s
      else s.fresh.2.setPll p { l with frozen := s.fresh.1 % 4096, corrTemp := t }
    | _ => s

theorem execPllTempCorrection_due (hh : s.pllHere p = true) (hm : s.md.mode ≠ .dormant) (hr : s.running = true)
    (hd : cadenceDue (s.pll p).readAt s.tempo = true) (hs : (s.pll p).state ≠ .off) :
    exec (.pllTempCorrection p) s = .next (((s.sensed p).pllSubst p).tempCorrected p) :=
  congrArg _ (if_pos (by simp [hh, hm, hr, hd, hs]))

/-- A locked PLL steps its trim against the drift where the temperature has moved by 4 degC. -/
theorem State.tempCorrected_locked {x : Int} (hs : (s.pll p).state = .locked) (ht : s.pllTemp p = some x) :
    s.tempCorrected p = if 32 ≤ (x - (s.pll p).corrTemp).natAbs
      then s.setPll p { s.pll p with trim := if (s.pll p).corrTemp < x then (s.pll p).trim - 1 else (s.pll p).trim + 1, corrTemp := x }
      else s := by
  unfold State.tempCorrected
  rw [ht]
  dsimp only
  split
  next => rfl
  next h => exact absurd (hs.symm.trans h) (by decide)
  next h => exact absurd (hs.symm.trans h) (by decide)
  next h _ _ => exact absurd hs h

end

end Sys2Proof.Machine

namespace Sys2Proof.Proofs
open Sys2Proof Sys2Proof.Machine Sys2Proof.Claims
variable {s : State} {p : Nat}

/-- A clock that is asked for starts unless it runs; a station's recalls its band slot when that is valid. -/
theorem clockStart_starts {n : Nat} (hb : s.md.boot = .running) (hm : s.md.mode ≠ .dormant) :
    ((s.pll 2).state ≠ .off → exec (.clockStart .dpll) s = .next s)
    ∧ ((s.pll 2).state = .off → ∃ t, exec (.clockStart .dpll) s = .next t ∧ (t.pll 2).state = .search)
    ∧ (n < 2 → s.md.mode ≠ .configure → (s.pll (3 + n)).state = .off →
      ∃ t, exec (.clockStart (.blpll n)) s = .next t ∧ (t.pll (3 + n)).state = .search)
    ∧ (n < 8 → s.inService clsSTN n = true → (s.station n).enabled = true → (s.pll (8 + n)).state = .off →
      (∀ k, s.par clsSTN n 0x078 = k → 8 ≤ k ∨ bit (s.slotField n k 0 1) 0 = false →
        ∃ t, exec (.clockStart (.vpll n)) s = .next t ∧ (t.pll (8 + n)).state = .search)
      ∧ (∀ k, s.par clsSTN n 0x078 = k → k < 8 → bit (s.slotField n k 0 1) 0 = true → ∃ t, exec (.clockStart (.vpll n)) s = .next t
        ∧ (t.pll (8 + n)).state = .acquire ∧ (t.pll (8 + n)).band = s.slotField n k 1 1 ∧ (t.pll (8 + n)).recallSlot = some k)) := by
  refine ⟨fun hs => ?on, fun hs => ?dpll, fun hn hc hs => ?blpll, fun hn hi he hs => ?vpll⟩
  case on => exact (execClockStart_eq .dpll hb hm).trans (congrArg _ (State.startPll_on hs))
  case dpll => exact ⟨_, execClockStart_eq .dpll hb hm, State.startPll_off_state hs (.inl (by decide))⟩
  case blpll =>
    exact ⟨_, (execClockStart_eq (.blpll n) hb hm).trans (congrArg _ (if_pos ⟨hn, hc⟩)), State.startPll_off_state hs (.inl (by omega))⟩
  case vpll =>
    have hx : exec (.clockStart (.vpll n)) s = .next (s.startPll (8 + n)) :=
      (execClockStart_eq (.vpll n) hb hm).trans (congrArg _ (if_pos (by simp [hn, hi, he])))
    refine ⟨?_, ?_⟩
    · rintro k rfl hk
      exact ⟨_, hx, State.startPll_off_state hs (.inr (by simpa using hk))⟩
    · intro k hk h8 hv
      exact ⟨_, hx.trans (congrArg _ (State.startPll_recall hs hk h8 hv)), State.recallSlot_pll hv⟩

/-- What a window of the lock detector that has come to its end does to a PLL that acquires, is locked or coasts. -/
theorem lockWindow_judges (hh : s.pllHere p = true) (hm : s.md.mode ≠ .dormant) (ho : s.objHere objDEV = true) (hr : s.running = true)
    (hw : (s.pll p).winAt + s.pllWinLen p ≤ s.tempo) (c : Nat) {e : Nat} {ok : Bool} (he : e = s.pllExpected p)
    (hok : ok = s.inTolerance p c) :
    ((s.pll p).state = .acquire → ok = true → (s.pll p).inTol = 3 → ∃ t, exec (.pllLockWindow p c (e / 2 ^ 32)) s = .next t
      ∧ (t.pll p).state = .locked ∧ (t.pll p).everLocked = true ∧ Raised t 0x0301 objDEV [p, 3])
    ∧ ((s.pll p).state = .locked → ok = true → (s.pll p).recallSlot = none → ∃ t, exec (.pllLockWindow p c (e / 2 ^ 32)) s = .next t
      ∧ (t.pll p).state = .locked ∧ (t.pll p).outTol = 0)
    ∧ ((s.pll p).state = .locked → ok = false → (s.pll p).outTol = 1 → (s.pll p).recallSlot = none →
      ∃ t, exec (.pllLockWindow p c (e / 2 ^ 32)) s = .next t ∧ (t.pll p).state = .coasting ∧ (t.pll p).refLost = false
        ∧ Raised t 0x0302 objDEV [p, c, e / 2 ^ 32])
    ∧ ((s.pll p).state = .coasting → (s.pll p).recallSlot = none → ∃ t, exec (.pllLockWindow p c (e / 2 ^ 32)) s = .next t
      ∧ (t.pll p).state = if (if (s.pll p).refLost then 4 else 1) ≤ (s.pll p).coastWin + 1 then .acquire else .coasting) := by
  subst he
  obtain ⟨f, w, c', hp⟩ := s.windowed_pll p c ok
  have ho : (s.windowed p c ok).objHere objDEV = true := (s.windowed_objHere p c ok _).trans ho
  have judged (hs : (s.pll p).state = .acquire ∨ (s.pll p).state = .locked) :
      exec (.pllLockWindow p c (s.pllExpected p / 2 ^ 32)) s = .next (s.pllWindow p c (s.pllExpected p / 2 ^ 32) ok) :=
    hok ▸ execPllLockWindow_judged hh hm hr hw c hs
  refine ⟨fun hs h1 hi => ?locks, fun hs h1 hn => ?stays, fun hs h1 hi hn => ?coasts, fun hs hn => ?returns⟩
  case locks =>
    subst h1
    have hraised := State.pllLock_raised (p := p) ho
    rw [hp] at hraised
    refine ⟨_, (judged (.inl hs)).trans (congrArg _ (State.pllWindow_locks _ _ hs hi)), ?_⟩
    rw [State.pllLock_pll]
    exact ⟨rfl, rfl, by simpa [Pll.openWindow, hs, PllState.code] using hraised⟩
  case stays =>
    subst h1
    refine ⟨_, (judged (.inr hs)).trans (congrArg _ ((State.pllWindow_locked _ _ _ hs hn).trans (if_neg (by simp)))), ?_⟩
    rw [hp]
    exact ⟨hs, rfl⟩
  case coasts =>
    subst h1
    refine ⟨_, (judged (.inr hs)).trans (congrArg _ ((State.pllWindow_locked _ _ _ hs hn).trans (if_pos (by simp [hi])))), ?_⟩
    rw [State.pllCoast_pll]
    exact ⟨rfl, rfl, State.pllCoast_raised ho false _⟩
  case returns =>
    refine ⟨_, execPllLockWindow_coasting hh hm hr hw c hs hn, ?_⟩
    generalize (if (s.pll p).refLost = true then 4 else 1) = windows
    split
    · exact State.pllAcquire_state _ _
    · simp [State.coasted, Pll.openWindow, hs]

/-- What the loss of its reference does to a PLL that is locked, and to one that coasts. -/
theorem refLost_coasts (hat : At s inEvents) (hh : s.pllHere p = true) (hm : s.md.mode ≠ .dormant) (ho : s.objHere objDEV = true) :
    ((s.pll p).state = .locked → ∃ t, exec (.pllRefLost p) s = .next t ∧ (t.pll p).state = .coasting ∧ (t.pll p).refLost = true
      ∧ (t.pll p).frozen = (s.pll p).tune ∧ Raised t 0x0303 objDEV [p] ∧ (p = 0 → t.latched 0x0303 objDEV = true))
    ∧ ((s.pll p).state = .coasting → ∃ t, exec (.pllRefLost p) s = .next t ∧ (t.pll p).state = .coasting
      ∧ (t.pll p).refLost = true ∧ (t.pll p).coastWin = 0 ∧ (t.pll p).winAt = s.tempo ∧ (p = 0 → t.latched 0x0303 objDEV = true)) := by
  refine ⟨fun hs => ⟨_, execPllRefLost_locked hat hh hm hs, ?_⟩, fun hs => ⟨_, execPllRefLost_coasting hat hh hm hs, ?_⟩⟩
  · rw [State.pllCoast_pll]
    exact ⟨rfl, rfl, rfl, State.pllCoast_raised ho true [], fun hp => State.pllCoast_latched ho hp []⟩
  · split
    next => simp [Pll.openWindow, hs, State.latched_latchNew]
    next hp => simp [Pll.openWindow, hs, hp]

/-- A locked PLL whose sensor is trusted is corrected once in 1,048,576 tempo. -/
theorem tempCorrection_steps (hh : s.pllHere p = true) (hm : s.md.mode ≠ .dormant) {x : Int} (hr : s.running = true)
    (hs : (s.pll p).state = .locked) (ht : (s.sensor (pllSensor p)).suspect = false) (hx : (s.sensor (pllSensor p)).temp = x)
    (hd : cadenceDue (s.pll p).readAt s.tempo = true) :
    ∃ t, exec (.pllTempCorrection p) s = .next t ∧ (t.pll p).readAt = some s.tempo ∧ (t.pll p).state = .locked
      ∧ (32 ≤ (x - (s.pll p).corrTemp).natAbs → (t.pll p).corrTemp = x
        ∧ (t.pll p).trim = if (s.pll p).corrTemp < x then (s.pll p).trim - 1 else (s.pll p).trim + 1)
      ∧ ((x - (s.pll p).corrTemp).natAbs < 32 → (t.pll p).corrTemp = (s.pll p).corrTemp ∧ (t.pll p).trim = (s.pll p).trim) := by
  have hsense : (s.sensed p).sensor (pllSensor p) = s.sensor (pllSensor p) := s.sensed_sensor p _
  have hpll := s.sensed_pll p
  have hx' : (s.sensed p).pllTemp p = some x := by rw [State.pllTemp_of_trusted (by rw [hsense, ht]), hsense, hx]
  refine ⟨_, execPllTempCorrection_due hh hm hr hd (by simp [hs]), ?_⟩
  rw [State.pllSubst_of_trusted (by rw [hsense, ht]), State.tempCorrected_locked (by rw [hpll]; exact hs) hx', hpll]
  split
  next h => simp [hs, h, Nat.not_lt.2 h]
  next h => simp [hpll, hs, h]

/-- Settles O46: each row by what it leaves in the PLL that it names. -/
theorem pllsSearchLockAndCoast : Obligations.PllsSearchLockAndCoast := by
  refine ⟨fun s n hb hm => clockStart_starts hb hm, fun s p hh hm ho => ⟨fun b hs => execPllBandFound_runs hh hm hs b,
    fun c x _ hx => execPllLockWindow_early c hx, fun c e n ok hr hw he hn hok => lockWindow_judges hh hm ho hr hw c he ?tolerance,
    fun hat hs => (refLost_coasts hat hh hm ho).1 hs, fun hat hs => (refLost_coasts hat hh hm ho).2 hs,
    fun x hr hs ht hx => ⟨fun hd => execPllTempCorrection_early ?early, fun hd => tempCorrection_steps hh hm hr hs ht hx ?due⟩⟩⟩
  case tolerance => subst he hn; exact hok
  case early => exact cadenceDue_of_any hd
  case due => exact cadenceDue_of_all hd

end Sys2Proof.Proofs
end

section
namespace Sys2Proof.Machine
open Sys2Proof Sys2Proof.Claims
variable (s : State)

/-! ### What a change of the mode leaves -/

/-- An event that latches nothing leaves the faults. -/
theorem State.raise_faults_of_latch_nil {e : Ev} (h : e.latch = []) : (s.raise e).faults = s.faults := by
  unfold State.raise
  rw [h]
  split
  · dsimp only
    unfold State.queueEv
    split <;> rfl
  · rfl

theorem State.toMode_of_ne {m : Mode} (hw : Bool) (h : s.md.mode ≠ m) : ∃ (u : State) (e : Ev), s.toMode m hw = u.raise e ∧ e.latch = []
    ∧ (u.faults, u.params, u.running, u.aon, u.die, u.removed, u.host)
      = (s.faults, s.params, s.running, s.aon, s.die, s.removed, s.host) :=
  ⟨_, _, if_neg h, rfl, rfl⟩

section
variable (m : Mode) (hw : Bool)

theorem State.toMode_kept_parts : (s.toMode m hw).faults = s.faults ∧ (s.toMode m hw).params = s.params
    ∧ (s.toMode m hw).running = s.running ∧ (s.toMode m hw).aon = s.aon ∧ (s.toMode m hw).die = s.die
    ∧ (s.toMode m hw).removed = s.removed ∧ (s.toMode m hw).host.training = s.host.training := by
  by_cases h : s.md.mode = m
  · rw [show s.toMode m hw = s from if_pos h]
    exact ⟨rfl, rfl, rfl, rfl, rfl, rfl, rfl⟩
  · obtain ⟨u, e, ht, he, hu⟩ := s.toMode_of_ne hw h
    simp only [Prod.mk.injEq] at hu
    obtain ⟨hf, hp, hr, ha, hd, hx, hh⟩ := hu
    simp [ht, State.raise_faults_of_latch_nil u he, hf, hp, hr, ha, hd, hx, hh]

@[simp] theorem State.toMode_faults : (s.toMode m hw).faults = s.faults := (s.toMode_kept_parts m hw).1
@[simp] theorem State.toMode_params : (s.toMode m hw).params = s.params := (s.toMode_kept_parts m hw).2.1
@[simp] theorem State.toMode_running : (s.toMode m hw).running = s.running := (s.toMode_kept_parts m hw).2.2.1
@[simp] theorem State.toMode_aon : (s.toMode m hw).aon = s.aon := (s.toMode_kept_parts m hw).2.2.2.1
@[simp] theorem State.toMode_die : (s.toMode m hw).die = s.die := (s.toMode_kept_parts m hw).2.2.2.2.1
@[simp] theorem State.toMode_removed : (s.toMode m hw).removed = s.removed := (s.toMode_kept_parts m hw).2.2.2.2.2.1
@[simp] theorem State.toMode_training : (s.toMode m hw).host.training = s.host.training := (s.toMode_kept_parts m hw).2.2.2.2.2.2
@[simp] theorem State.toMode_tempo : (s.toMode m hw).tempo = s.tempo := (s.toMode_onward m hw).tempo

end

/-! ### The clocks that the wake starts -/

section
variable {s} {p : Nat}

/-- Starting a PLL that has no band slots changes the clocks only. -/
theorem State.startPll_clk (hp : p < 8) : ∃ c, s.startPll p = { s with clk := c } := by
  by_cases h : (s.pll p).state = .off
  · exact ⟨_, State.startPll_off h (.inl hp)⟩
  · exact ⟨_, State.startPll_on h⟩

theorem State.startPll_awake (hp : p < 8) : ((s.startPll p).pll p).state ≠ .off := by
  by_cases h : (s.pll p).state = .off
  · rw [State.startPll_off_state h (.inl hp)]
    decide
  · rwa [State.startPll_on h]

theorem State.startPll_pll_ne (hp : p < 8) {k : Nat} (hk : k ≠ p) : (s.startPll p).pll k = s.pll k := by
  by_cases h : (s.pll p).state = .off
  · rw [State.startPll_off h (.inl hp)]
    simp [State.pllSearch, hk]
  · rw [State.startPll_on h]

theorem State.pllAcquire_clk (hp : p < 8) : ∃ c, s.pllAcquire p = { s with clk := c } := by
  unfold State.pllAcquire State.edgesBegin
  rw [if_pos hp, ite_self]
  exact ⟨_, rfl⟩

end

/-! ### The ledger and PWRFLT_N -/

section
variable (code o kind source rail : Nat)

theorem State.assertPwrflt_eq : ∃ p, s.assertPwrflt code o = { s with aon := { s.aon with pwrflt := p } }
    ∧ (code, o) ∈ p ∧ s.aon.pwrflt ⊆ p := by
  unfold State.assertPwrflt
  split
  · next h => exact ⟨_, rfl, List.contains_iff_mem.1 h, List.Subset.refl _⟩
  · exact ⟨_, rfl, List.mem_append_right _ (List.mem_singleton.2 rfl), List.subset_append_left _ _⟩

theorem State.ledgerWrite_eq : ∃ q, s.ledgerWrite kind source = { s with aon := { s.aon with ledgerQueue := q } }
    ∧ (s.aon.ledger.length + s.aon.ledgerQueue.length < 64 → ∃ e, q = s.aon.ledgerQueue ++ [e] ∧ e.kind = kind ∧ e.source = source) := by
  unfold State.ledgerWrite
  split
  · exact ⟨_, rfl, fun _ => ⟨_, rfl, rfl, rfl⟩⟩
  · next h => exact ⟨_, rfl, fun hr => absurd hr h⟩

/-- A ledger entry and a cause of PWRFLT_N together: of the state they change those two lists. -/
theorem State.recorded_eq : ∃ q p, (s.ledgerWrite kind source).assertPwrflt code o
      = { s with aon := { s.aon with ledgerQueue := q, pwrflt := p } } ∧ (code, o) ∈ p ∧ s.aon.pwrflt ⊆ p
    ∧ (s.aon.ledger.length + s.aon.ledgerQueue.length < 64 → ∃ e, q = s.aon.ledgerQueue ++ [e] ∧ e.kind = kind ∧ e.source = source) := by
  obtain ⟨q, hq, he⟩ := s.ledgerWrite_eq kind source
  obtain ⟨p, hp, hm, hs⟩ := (s.ledgerWrite kind source).assertPwrflt_eq code o
  refine ⟨q, p, ?_, hm, ?_, he⟩
  · rw [hp, hq]
  · rw [hq] at hs
    exact hs

theorem State.hardFault_eq : ∃ q p, s.hardFault rail = { s with aon := { s.aon with ledgerQueue := q, pwrflt := p } }
    ∧ (0x0c04, objDEV) ∈ p := by
  obtain ⟨q, p, h, hm, -⟩ := s.recorded_eq 0x0c04 objDEV 3 rail
  exact ⟨q, p, h, hm⟩

end

theorem State.ownGood_iff : s.ownGood = true ↔ ∀ j, j < 5 → Map.get (fun _ => false) s.aon.ownUp j = true := by
  simp [State.ownGood]

/-! ### Resets -/

theorem State.keptRails_nil (hp : s.aon.pwrflt = []) (hk : s.aon.keep = 0) : s.keptRails = [] := by
  unfold State.keptRails
  refine foldl_pred (P := (· = [])) (fun m i hm => ?_) rfl
  rw [hm, hp, hk]
  simp [bit]

/-- The always-on domain with only a ledger and the level at RESET_N left, as standby power finds it. -/
def State.blank (s : State) (on : Bool) (ledger : List LedgerEntry) : State :=
  { s with therm := {}, aon := { ({} : Aon) with ledger, standbyOn := on, resetLow := s.aon.resetLow, wake := .idle } }

theorem State.execStandbyPowerOn_eq : exec .standbyPowerOn s = .next ((s.blank true s.aon.ledger).goDormant.keepFaults []) := rfl

theorem State.execStandbyPowerLoss_eq : exec .standbyPowerLoss s = .next ((s.blank false
    (s.aon.ledger ++ (s.aon.ledgerQueue.take 1).map (fun e => { e with ok := false }))).goDormant.keepFaults []) := rfl

/-- RESET_N is low, and CRITICAL and the wake are over. -/
def State.pinned (s : State) : State :=
  { s with
    aon := { s.aon with resetLow := true, wakePending := false }
    therm := { s.therm with state := if s.therm.state = 4 then 3 else s.therm.state } }

/-- The main domain is cleared with its own rails good: SPLL is to lock. -/
def State.pinCleared (s : State) : State :=
  { s.pinned.mainReset with aon := { s.pinned.mainReset.aon with wake := .spll, seqUpOut := false } }

theorem State.execPinReset_eq : exec .pinReset s = .next (if (s.ownGood && s.aon.wake != .down) ∧ s.md.mode ≠ .dormant
    then s.pinCleared.toMode .configure true else s.pinned.goDormant) := rfl

/-- Only the faults that hold PWRFLT_N stay. -/
theorem State.pinCleared_faults : s.pinCleared.faults = s.faults.filter (fun f => s.aon.pwrflt.contains (f.code, f.obj)) := by
  have guard : (if s.therm.state = 4 then 3 else s.therm.state) ≠ 4 := by split <;> omega
  refine List.filter_congr fun f _ => ?_
  simp [State.pinned, guard]

/-! ### What the always-on domain reports -/

section
variable {s} {t : State}

theorem State.raise_backlog (e : Ev) : s.host.backlog ⊆ (s.raise e).host.backlog := by
  unfold State.raise
  split
  · dsimp only
    generalize e.latch.filter _ = xs
    have hh : (xs.foldl (fun u o => u.latchNew e.code o) s).host = s.host :=
      foldl_keeps (fun u : State => u.host) (fun u x => by obtain ⟨_, _, _, _, h⟩ := u.latchNew_eq e.code x; rw [h]) xs s
    rw [← hh]
    unfold State.queueEv
    split
    · exact fun x hx => mem_insertEv.2 (.inr hx)
    · exact List.Subset.refl _
  · exact List.Subset.refl _

/-- A fault of object `o` is latched and its event reported. -/
def Noted (t : State) (code o : Nat) (fields : List Nat) : Prop := t.latched code o = true ∧ Raised t code o fields

theorem Noted.of_eq {code o : Nat} {fields : List Nat} (h : Noted s code o fields)
    (he : (t.faults, t.host, t.tempo) = (s.faults, s.host, s.tempo)) : Noted t code o fields := by
  simp only [Prod.mk.injEq] at he
  obtain ⟨hf, hh, ht⟩ := he
  unfold Noted State.latched Raised at h ⊢
  rwa [hf, hh, ht]

/-- Later events leave it so. -/
theorem Noted.raise {code o : Nat} {fields : List Nat} (h : Noted s code o fields) (e : Ev) : Noted (s.raise e) code o fields := by
  refine ⟨(s.raise_steady e).toOnward.latched h.1, ?_⟩
  obtain hf | ⟨x, hx, hc, ho, ht, hfs⟩ := h.2
  · exact .inl (hf.trans (s.raise_steady e).room)
  · exact .inr ⟨x, s.raise_backlog e hx, hc, ho, by rw [ht, State.raise_tempo], hfs⟩

end

/-- The event that reports a note of the always-on domain. -/
def noteEv (n : Nat × Nat × Nat) : Ev :=
  let o := if n.1 = 0x0c05 then obj clsRAIL n.2.1 else objDEV
  { code := n.1, obj := o, latch := [o], fields := if n.1 = 0x0c05 then [o] else [obj clsRAIL n.2.1, n.2.2] }

theorem State.reportNotes_eq : s.reportNotes
    = s.aon.notes.foldl (fun u n => u.raise (noteEv n)) { s with aon := { s.aon with notes := [] } } := rfl

theorem State.reportNotes_keeps {γ : Type} (g : State → γ) (hg : ∀ u e, g (State.raise u e) = g u) :
    g s.reportNotes = g { s with aon := { s.aon with notes := [] } } := by
  rw [s.reportNotes_eq]
  exact foldl_keeps g (fun u n => hg u (noteEv n)) _ _

/-- Every note is reported whose object is there. -/
theorem State.reportNotes_noted {n : Nat × Nat × Nat} (hn : n ∈ s.aon.notes) (ho : s.objHere (noteEv n).obj = true) :
    Noted s.reportNotes n.1 (noteEv n).obj (noteEv n).fields := by
  obtain ⟨xs, ys, h⟩ := List.append_of_mem hn
  rw [s.reportNotes_eq, h, List.foldl_append, List.foldl_cons]
  generalize hw : xs.foldl (fun u n => State.raise u (noteEv n)) { s with aon := { s.aon with notes := [] } } = w
  have here : w.objHere (noteEv n).obj = true := by
    rw [← ho, ← hw]
    exact State.objHere_congr (foldl_keeps (fun u : State => u.die) (fun u n => u.raise_die _) _ _)
      (foldl_keeps (fun u : State => u.removed) (fun u n => u.raise_removed _) _ _) _
  refine foldl_pred (P := fun u : State => Noted u n.1 (noteEv n).obj (noteEv n).fields) (fun u n hu => hu.raise _) ?_
  exact ⟨State.latched_raise here here (List.mem_singleton.2 rfl), State.raised_raise here⟩

theorem State.ledgerCheck_eq : s.ledgerCheck = s ∨ s.ledgerCheck = { s with aon := { s.aon with ledgerFull := true } }.raise { code := 0x0d13 } := by
  unfold State.ledgerCheck
  split
  · exact .inr rfl
  · exact .inl rfl

theorem State.ledgerCheck_keeps {γ : Type} (g : State → γ) (hg : ∀ u e, g (State.raise u e) = g u)
    (hl : g { s with aon := { s.aon with ledgerFull := true } } = g s) : g s.ledgerCheck = g s := by
  obtain h | h := s.ledgerCheck_eq
  · rw [h]
  · rw [h, hg, hl]

theorem Noted.ledgerCheck {s : State} {code o : Nat} {fields : List Nat} (h : Noted s code o fields) :
    Noted s.ledgerCheck code o fields := by
  obtain he | he := s.ledgerCheck_eq
  · rwa [he]
  · rw [he]
    exact Noted.raise (h.of_eq (by rfl)) _

end Sys2Proof.Machine

namespace Sys2Proof.Proofs
open Sys2Proof Sys2Proof.Machine Sys2Proof.Claims
variable {s : State}

/-! ### Standby power, RESET_N and WAKE_N -/

/-- Standby power-on clears everything but the ledger and ends in Dormant. -/
theorem standbyPowerOn_clears : ∃ t, exec .standbyPowerOn s = .next t ∧ t.md = { State.reset.md with mode := .dormant }
    ∧ t.aon.ledger = s.aon.ledger ∧ t.aon.standbyOn = true ∧ t.aon.pwrflt = [] ∧ t.aon.keep = 0 ∧ t.faults = [] ∧ t.params = []
    ∧ t.rails.rails = [] ∧ t.running = false ∧ t.die = s.die :=
  ⟨_, s.execStandbyPowerOn_eq, rfl, rfl, rfl, rfl, rfl, rfl, rfl, State.keptRails_nil (s.blank true s.aon.ledger) rfl rfl, rfl, rfl⟩

/-- Standby power loss leaves the ledger entry that is being written with CHECK_OK 0. -/
theorem standbyPowerLoss_cuts : ∃ t, exec .standbyPowerLoss s = .next t ∧ t.md.mode = .dormant ∧ t.aon.standbyOn = false
    ∧ t.aon.pwrflt = [] ∧ t.faults = [] ∧ (s.aon.ledgerQueue = [] → t.aon.ledger = s.aon.ledger)
    ∧ (∀ e rest, s.aon.ledgerQueue = e :: rest → t.aon.ledger = s.aon.ledger ++ [{ e with ok := false }]) := by
  refine ⟨_, s.execStandbyPowerLoss_eq, rfl, rfl, rfl, rfl, fun h => ?_, fun e rest h => ?_⟩
  · show s.aon.ledger ++ (s.aon.ledgerQueue.take 1).map _ = _
    rw [h]
    exact List.append_nil _
  · show s.aon.ledger ++ (s.aon.ledgerQueue.take 1).map _ = _
    rw [h]
    rfl

/-- A pin reset with the own rails good ends in Configure, with SPLL to lock. -/
theorem pinReset_of_good (hg : s.ownGood = true) (hw : s.aon.wake ≠ .down) (hm : s.md.mode ≠ .dormant) :
    ∃ t, exec .pinReset s = .next t ∧ t.md.mode = .configure
      ∧ t.md.boot = .init ∧ t.md.pressOk = false ∧ t.params = [] ∧ t.tempo = 0 ∧ t.running = false ∧ t.aon.wake = .spll
      ∧ t.aon.resetLow = true ∧ t.aon.ledger = s.aon.ledger
      ∧ t.faults = s.faults.filter (fun f => s.aon.pwrflt.contains (f.code, f.obj)) := by
  obtain ⟨w, hmd⟩ := State.toMode_md s.pinCleared .configure true
  refine ⟨_, s.execPinReset_eq.trans (congrArg _ (if_pos ⟨by simp [hg, hw], hm⟩)), State.toMode_mode _ _ _, ?_⟩
  rw [hmd, State.toMode_params, State.toMode_tempo, State.toMode_running, State.toMode_aon, State.toMode_faults,
    s.pinCleared_faults]
  exact ⟨rfl, rfl, rfl, rfl, rfl, rfl, rfl, rfl, rfl⟩

/-- Every other pin reset ends in Dormant. -/
theorem pinReset_of_not_good (h : s.ownGood = false ∨ s.aon.wake = .down ∨ s.md.mode = .dormant) :
    ∃ t, exec .pinReset s = .next t ∧ t.md.mode = .dormant
      ∧ t.aon.wake = .idle ∧ t.aon.ownUp = [] ∧ t.params = [] ∧ t.aon.resetLow = true := by
  refine ⟨_, s.execPinReset_eq.trans (congrArg _ (if_neg ?_)), rfl, rfl, rfl, rfl, rfl⟩
  rintro ⟨hg, hm⟩
  simp only [Bool.and_eq_true, bne_iff_ne] at hg
  obtain h | h | h := h
  · exact Bool.false_ne_true (h.symm.trans hg.1)
  · exact hg.2 h
  · exact hm h

/-- A WAKE_N that has passed its filter enables RL00, or waits for the end of the power-down. -/
theorem wakeFilterDone_wakes (ho : s.aon.standbyOn = true) (hr : s.aon.resetLow = false) :
    (s.md.mode = .dormant → s.aon.wake = .idle → exec .wakeFilterDone s = .next { s with aon := { s.aon with wake := .rl00 } })
    ∧ (s.aon.wake = .down → exec .wakeFilterDone s = .next { s with aon := { s.aon with wakePending := true } }) := by
  have hx : (!s.aon.standbyOn || s.aon.resetLow) ≠ true := by simp [ho, hr]
  refine ⟨fun hm hw => congrArg _ ((if_neg hx).trans ((if_pos hm).trans ?_)), fun hw => congrArg _ ((if_neg hx).trans ?_)⟩
  · rw [hw]
  · by_cases hm : s.md.mode = .dormant
    · rw [if_pos hm, hw]
    · rw [if_neg hm, if_pos (.inl hw)]

/-! ### The own rails rise -/

theorem ownRailSettled_first (hw : s.aon.wake = .rl00) : exec (.ownRailSettled 0) s
    = .next { s with aon := { s.aon with ownUp := Map.put (fun _ => false) s.aon.ownUp 0 true, wake := .rails } } := by
  show execOwnRailSettled 0 s = _
  unfold execOwnRailSettled
  rw [hw]
  rfl

/-- The last of RL01 to RL04 starts SPLL and HPLL. -/
theorem ownRailSettled_next {i : Nat} (h1 : 1 ≤ i) (h5 : i < 5) (hw : s.aon.wake = .rails) : ∃ t, exec (.ownRailSettled i) s = .next t
    ∧ t.aon.ownUp = Map.put (fun _ => false) s.aon.ownUp i true ∧ t.md = s.md
    ∧ ((∃ j, j < 5 ∧ j ≠ i ∧ Map.get (fun _ => false) s.aon.ownUp j = false) → t.aon.wake = .rails ∧ t.clk = s.clk)
    ∧ ((∀ j, j < 5 → j ≠ i → Map.get (fun _ => false) s.aon.ownUp j = true) → t.aon.wake = .spll
      ∧ (t.pll 0).state ≠ .off ∧ (t.pll 1).state ≠ .off) := by
  obtain ⟨u, hu⟩ : ∃ u : State, u = { s with aon := { s.aon with ownUp := Map.put (fun _ => false) s.aon.ownUp i true } } := ⟨_, rfl⟩
  have hx : exec (.ownRailSettled i) s
      = .next (if u.ownGood then ({ u with aon := { u.aon with wake := .spll } }.startPll 0).startPll 1 else u) := by
    show execOwnRailSettled i s = _
    unfold execOwnRailSettled
    rw [hw]
    dsimp only
    rw [if_pos ⟨h1, h5⟩, hu]
  have good : u.ownGood = true ↔ ∀ j, j < 5 → j ≠ i → Map.get (fun _ => false) s.aon.ownUp j = true := by
    rw [State.ownGood_iff, hu]
    refine forall_congr' fun j => forall_congr' fun _ => ?_
    by_cases hj : j = i <;> simp [Map.get_put, hj]
  by_cases hg : u.ownGood = true
  · rw [if_pos hg] at hx
    obtain ⟨c, hc⟩ := State.startPll_clk (s := { u with aon := { u.aon with wake := .spll } }) (p := 0) (by decide)
    obtain ⟨c', hc'⟩ := State.startPll_clk (s := State.startPll { u with aon := { u.aon with wake := .spll } } 0) (p := 1) (by decide)
    refine ⟨_, hx, ?_, ?_, fun ⟨j, hj, hne, hf⟩ => absurd (good.1 hg j hj hne) (by simp [hf]), fun _ => ⟨?_, ?_, ?_⟩⟩
    · rw [hc', hc, hu]
    · rw [hc', hc, hu]
    · rw [hc', hc]
    · rw [State.startPll_pll_ne (by decide) (by decide)]
      exact State.startPll_awake (by decide)
    · exact State.startPll_awake (by decide)
  · rw [if_neg hg] at hx
    exact ⟨u, hx, by rw [hu], by rw [hu], fun _ => ⟨by rw [hu]; exact hw, by rw [hu]⟩, fun h => absurd (good.2 h) hg⟩

end Sys2Proof.Proofs
end

section
namespace Sys2Proof.Machine
open Sys2Proof Sys2Proof.Claims
variable (s : State)

/-! ### The lock of SPLL -/

/-- The tempo counter runs from 0. -/
def State.woken (s : State) : State :=
  { s with
    aon := { s.aon with wake := .idle }, tempo := 0, running := true
    host := { s.host with training := s.host.perst } }

/-- SPLL is locked, and the device is in Configure. -/
def State.clocked (s : State) : State := ((((s.woken.startPll 0).startPll 1).toMode .configure true).pllAcquire 0).pllLock 0

theorem State.execWakeSpllLocked_eq (hw : s.aon.wake = .spll) (hr : s.running = false) (hl : s.aon.resetLow = false) :
    exec .wakeSpllLocked s = .next s.clocked.reportNotes.ledgerCheck :=
  congrArg _ (if_pos (by simp [hw, hr, hl]))

theorem State.clocked_eq : ∃ c c', s.clocked
    = State.pllLock { State.toMode { s.woken with clk := c } .configure true with clk := c' } 0 := by
  obtain ⟨c0, h0⟩ := State.startPll_clk (s := s.woken) (p := 0) (by decide)
  obtain ⟨c1, h1⟩ := State.startPll_clk (s := s.woken.startPll 0) (p := 1) (by decide)
  obtain ⟨c2, h2⟩ := State.pllAcquire_clk (s := ((s.woken.startPll 0).startPll 1).toMode .configure true) (p := 0) (by decide)
  exact ⟨c1, c2, by rw [State.clocked, h2, h1, h0]⟩

/-- What of the state the reports of the always-on domain leave. -/
def State.wakeView (s : State) := (s.running, s.tempo, s.md.mode, s.clk, s.host.training, s.aon.wake, s.aon.notes)

theorem State.clocked_parts : s.clocked.running = true ∧ s.clocked.tempo = 0 ∧ s.clocked.md.mode = .configure
    ∧ (s.clocked.pll 0).state = .locked ∧ s.clocked.host.training = s.host.perst ∧ s.clocked.aon = { s.aon with wake := .idle }
    ∧ ∀ o, s.clocked.objHere o = s.objHere o := by
  obtain ⟨c, c', h⟩ := s.clocked_eq
  rw [h]
  refine ⟨?_, ?_, ?_, ?_, ?_, ?_, State.objHere_congr ?_ ?_⟩
  · simp [State.pllLock, State.woken]
  · simp [State.pllLock, State.woken]
  · simp [State.pllLock]
  · rw [State.pllLock_pll]
    rfl
  · simp [State.pllLock, State.woken]
  · simp [State.pllLock, State.woken]
  · simp [State.pllLock, State.woken]
  · simp [State.pllLock, State.woken]

theorem State.reported_wakeView : s.reportNotes.ledgerCheck.wakeView
    = State.wakeView { s with aon := { s.aon with notes := [] } } :=
  (State.ledgerCheck_keeps _ State.wakeView (fun u e => by simp [State.wakeView]) (by rfl)).trans
    (State.reportNotes_keeps _ State.wakeView (fun u e => by simp [State.wakeView]))

/-! ### The own rails' power-down -/

/-- The own rails that are still high are reported in turn. -/
def State.stillHigh (s : State) : List Nat := [1, 2, 3, 4].filter (fun i => Map.get (fun _ => false) s.aon.ownUp i)

def State.reportHigh (s : State) (i : Nat) : State := ((s.note 0x0c03 i 0).ledgerWrite 4 i).assertPwrflt 0x0c03 objDEV

theorem State.execOwnRailPowerDown_eq (hw : s.aon.wake = .down)
    (h : s.stillHigh = [] ∨ s.aon.downAt + 5000000 ≤ s.tempo) :
    exec .ownRailPowerDown s = .next (s.stillHigh.foldl State.reportHigh s).goDormant := by
  refine congrArg _ (if_pos ⟨hw, ?_⟩)
  obtain h | h := h
  · exact .inl (List.isEmpty_iff.2 h)
  · exact .inr (.inr h)

theorem State.mem_stillHigh {i : Nat} : i ∈ s.stillHigh ↔ (1 ≤ i ∧ i < 5) ∧ Map.get (fun _ => false) s.aon.ownUp i = true := by
  simp only [State.stillHigh, List.mem_filter, List.mem_cons, List.not_mem_nil, or_false]
  exact and_congr_left' (by omega)

/-- A rail is noted as still high, and holds PWRFLT_N. -/
def State.HighNoted (s : State) (i : Nat) : Prop := (0x0c03, i, 0) ∈ s.aon.notes ∧ (0x0c03, objDEV) ∈ s.aon.pwrflt

theorem State.reportHigh_noted (i : Nat) : (s.reportHigh i).HighNoted i := by
  obtain ⟨q, p, h, hm, -⟩ := (s.note 0x0c03 i 0).recorded_eq 0x0c03 objDEV 4 i
  unfold State.reportHigh State.HighNoted
  rw [h]
  exact ⟨List.mem_append_right _ (List.mem_singleton.2 rfl), hm⟩

theorem State.HighNoted.reportHigh {s : State} {i : Nat} (hn : s.HighNoted i) (j : Nat) : (s.reportHigh j).HighNoted i := by
  obtain ⟨q, p, h, -, hs, -⟩ := (s.note 0x0c03 j 0).recorded_eq 0x0c03 objDEV 4 j
  unfold State.reportHigh State.HighNoted
  rw [h]
  exact ⟨List.mem_append_left _ hn.1, hs hn.2⟩

/-! ### Host link resets -/

/-- A ring after a host link reset. -/
def State.resetRing (s : State) (n : Nat) : Ring :=
  { ({ vec := 1 + n } : Ring) with epoch := (s.ring n).epoch + 1, taken := (s.ring n).taken, pairs := (s.ring n).pairs }

/-- What a host link reset leaves of the host interface, the DMA channels aside (R50). -/
def State.linkReset (s : State) (cause : LinkReset) : State :=
  { s with host := { s.host with
    rings := (List.range 16).foldl (fun m n => Map.put (fun k => { vec := 1 + k }) m n (s.resetRing n)) []
    msixEn := false, msix := [], pba := 0, cfg := {}
    discarded := s.host.discarded + (List.range 16).foldl (fun a n => a + (s.ring n).lostResponses) 0, linkNote := some s.tempo
    linkUp := s.host.linkUp && cause == .flr, perst := s.host.perst && cause != .perst
    training := s.host.perst && (cause == .dlDown || cause == .hotReset) && s.running } }

theorem State.execHostLinkReset_eq (cause : LinkReset) : exec (.hostLinkReset cause) s
    = .next ((List.range 32).foldl State.linkCuts (s.linkReset cause)).leaveL0 := rfl

theorem State.linkReset_ring (cause : LinkReset) (n : Nat) :
    (s.linkReset cause).ring n = if n < 16 then s.resetRing n else { vec := 1 + n } := by
  have h := Map.get_foldl_put (fun k => ({ vec := 1 + k } : Ring)) [] 0 s.resetRing 16 n
  simp only [Nat.zero_add, Nat.zero_le, true_and, Nat.sub_zero] at h
  unfold State.ring State.linkReset
  dsimp only
  rw [h]
  rfl

theorem State.linkReset_waiting (cause : LinkReset) (n : Nat) : ((s.linkReset cause).ring n).waiting = [] := by
  rw [State.linkReset_ring]
  split <;> rfl

theorem Ring.owes_of_waiting_nil {g : Ring} (h : g.waiting = []) (r : Reply) : g.owes r = false := by
  unfold Ring.owes
  rw [h]
  rfl

/-- What a host link reset does to the channels leaves the mode, the parameters, and of the host interface all but the events. -/
structure LinkCut (s t : State) : Prop where
  md : t.md = s.md
  params : t.params = s.params
  host : ∃ bl lc lt, t.host = { s.host with backlog := bl, lostCount := lc, lostTempo := lt }

theorem LinkCut.refl : LinkCut s s := ⟨rfl, rfl, _, _, _, rfl⟩

theorem LinkCut.trans {s t u : State} (h : LinkCut s t) (k : LinkCut t u) : LinkCut s u := by
  obtain ⟨_, _, _, hh⟩ := h.host
  obtain ⟨_, _, _, kh⟩ := k.host
  exact ⟨k.md.trans h.md, k.params.trans h.params, _, _, _, by rw [kh, hh]⟩

theorem LinkCut.ring {s t : State} (h : LinkCut s t) (n : Nat) : t.ring n = s.ring n := by
  obtain ⟨_, _, _, hh⟩ := h.host
  unfold State.ring
  rw [hh]

theorem State.dmaFault_linkCut (ch kind : Nat) : LinkCut s (s.dmaFault ch kind) := by
  refine ⟨State.raise_md _ _, State.raise_params _ _, ?_⟩
  obtain ⟨_, _, _, _, bl, lc, lt, h⟩ := State.raise_eq (s.updDma ch (fun d => { d with state := .faulted, step := .rest }))
    { code := 0x0402, obj := obj clsDMA ch, fields := [obj clsDMA ch, (s.dma ch).cur, kind], latch := [obj clsDMA ch] }
  exact ⟨bl, lc, lt, congrArg (fun u : State => u.host) h⟩

theorem State.addReq_store (q : Req) : ∃ st, s.addReq q = { s with store := st } := by
  unfold State.addReq
  split
  · exact ⟨_, rfl⟩
  · exact ⟨_, rfl⟩

theorem State.descFail_linkCut (ch cause : Nat) : LinkCut s (s.descFail ch cause) := by
  unfold State.descFail State.descStep
  dsimp only
  obtain ⟨st, h⟩ := State.addReq_store _ _
  rw [h]
  exact ⟨rfl, rfl, _, _, _, rfl⟩

theorem State.linkCuts_linkCut (ch : Nat) : LinkCut s (s.linkCuts ch) := by
  unfold State.linkCuts
  dsimp only
  split
  · exact s.dmaFault_linkCut ch 2
  · split
    · exact s.descFail_linkCut ch 6
    · exact .refl s

/-- A channel that is not running and has no request out goes on as it was. -/
theorem State.linkCuts_of_quiet {ch : Nat} (hs : (s.dma ch).state ≠ .running) (hr : s.store.reqs = []) : s.linkCuts ch = s := by
  unfold State.linkCuts
  rw [hr]
  exact (if_neg (fun h => hs h.1)).trans (if_neg (by simp))

theorem State.linkCuts_foldl_of_quiet {chs : List Nat} (hs : ∀ ch ∈ chs, (s.dma ch).state ≠ .running) (hr : s.store.reqs = []) :
    chs.foldl State.linkCuts s = s := by
  induction chs with
  | nil => rfl
  | cons ch chs ih =>
    rw [List.foldl_cons, s.linkCuts_of_quiet (hs ch List.mem_cons_self) hr]
    exact ih (fun c hc => hs c (List.mem_cons_of_mem _ hc))

end Sys2Proof.Machine

namespace Sys2Proof.Proofs
open Sys2Proof Sys2Proof.Machine Sys2Proof.Claims
variable {s : State}

/-- The lock of SPLL starts the tempo in Configure, and what the always-on domain noted is reported. -/
theorem wakeSpllLocked_starts (hw : s.aon.wake = .spll) (hr : s.running = false) (hl : s.aon.resetLow = false) :
    ∃ t, exec .wakeSpllLocked s = .next t ∧ t.running = true
      ∧ t.tempo = 0 ∧ t.md.mode = .configure ∧ t.aon.wake = .idle ∧ t.aon.notes = [] ∧ (t.pll 0).state = .locked
      ∧ t.host.training = s.host.perst
      ∧ (∀ c i x, (c, i, x) ∈ s.aon.notes → c ≠ 0x0c05 → s.objHere objDEV = true → t.latched c objDEV = true ∧ Raised t c objDEV [obj clsRAIL i, x])
      ∧ (∀ i x, (0x0c05, i, x) ∈ s.aon.notes → s.objHere (obj clsRAIL i) = true → t.latched 0x0c05 (obj clsRAIL i) = true
        ∧ Raised t 0x0c05 (obj clsRAIL i) [obj clsRAIL i]) := by
  obtain ⟨hrun, htempo, hmode, hpll, htrain, haon, hobj⟩ := s.clocked_parts
  have hv := s.clocked.reported_wakeView
  simp only [State.wakeView, haon, hrun, htempo, hmode, htrain, Prod.mk.injEq] at hv
  obtain ⟨vrun, vtempo, vmode, vclk, vtrain, vwake, vnotes⟩ := hv
  have noted (n) (hn : n ∈ s.aon.notes) (ho : s.objHere (noteEv n).obj = true) :
      Noted s.clocked.reportNotes.ledgerCheck n.1 (noteEv n).obj (noteEv n).fields :=
    (s.clocked.reportNotes_noted (by rw [haon]; exact hn) (by rw [hobj]; exact ho)).ledgerCheck
  refine ⟨_, s.execWakeSpllLocked_eq hw hr hl, vrun, vtempo, vmode, vwake, vnotes, ?_, vtrain, fun c i x hn hc ho => ?_, fun i x hn ho => ?_⟩
  · unfold State.pll at hpll ⊢
    rw [vclk]
    exact hpll
  · have hobj : (noteEv (c, i, x)).obj = objDEV := if_neg hc
    have hfields : (noteEv (c, i, x)).fields = [obj clsRAIL i, x] := if_neg hc
    have h := noted (c, i, x) hn (by rw [hobj]; exact ho)
    rwa [hobj, hfields] at h
  · exact noted (0x0c05, i, x) hn ho

/-! ### Faults of the own rails and of a kept rail -/

/-- RL00 that does not rise ends in Dormant. -/
theorem ownRailRiseTimeout_first (hw : s.aon.wake = .rl00) : ∃ t, exec (.ownRailRiseTimeout 0) s = .next t ∧ t.md.mode = .dormant
    ∧ (0x0c04, objDEV) ∈ t.aon.pwrflt ∧ t.aon.notes = s.aon.notes ++ [(0x0c04, 0, 0)] ∧ t.aon.ownUp = [] := by
  obtain ⟨q, p, h, hm⟩ := (s.note 0x0c04 0 0).hardFault_eq 0
  have hx : exec (.ownRailRiseTimeout 0) s = .next ((s.note 0x0c04 0 0).hardFault 0).goDormant := congrArg _ (if_pos ⟨hw, rfl⟩)
  refine ⟨_, hx, rfl, ?_, ?_, rfl⟩
  · rw [h]
    exact hm
  · rw [h]
    rfl

/-- One of RL01 to RL04 that does not rise powers the own rails down. -/
theorem ownRailRiseTimeout_next {i : Nat} (h1 : 1 ≤ i) (h5 : i < 5) (hw : s.aon.wake = .rails)
    (hu : Map.get (fun _ => false) s.aon.ownUp i = false) : ∃ t, exec (.ownRailRiseTimeout i) s = .next t
    ∧ t.aon.wake = .down ∧ t.aon.downAt = s.tempo ∧ (0x0c04, objDEV) ∈ t.aon.pwrflt ∧ t.aon.notes = s.aon.notes ++ [(0x0c04, i, 0)] := by
  obtain ⟨q, p, h, hm⟩ := (s.note 0x0c04 i 0).hardFault_eq i
  have hx : exec (.ownRailRiseTimeout i) s = .next ((s.note 0x0c04 i 0).hardFault i).ownDown :=
    congrArg _ ((if_neg (fun hn => by simp [hw] at hn)).trans (if_pos ⟨hw, h1, h5, by simp [hu]⟩))
  have hd : ((s.note 0x0c04 i 0).hardFault i).aon.wake ≠ .down := by
    rw [h]
    exact fun hn => absurd (hw.symm.trans hn) (by decide)
  refine ⟨_, hx, State.ownDown_wake _, ?_⟩
  unfold State.ownDown
  rw [if_neg hd, h]
  exact ⟨rfl, hm, rfl⟩

/-- One of RL01 to RL04 lost in operation latches its fault, ends a print in Safe-hold and powers the device down. -/
theorem ownRailFault_powersDown {i : Nat} (h1 : 1 ≤ i) (h5 : i < 5) (hm : s.md.mode ≠ .dormant) (hr : s.running = true)
    (hw : s.aon.wake ≠ .down) (ho : s.objHere objDEV = true) :
    ∃ t, exec (.ownRailFault i) s = .next t ∧ t.latched 0x0c04 objDEV = true ∧ Raised t 0x0c04 objDEV [obj clsRAIL i, 1]
      ∧ (0x0c04, objDEV) ∈ t.aon.pwrflt
      ∧ (t.aon.wake = .down ∨ ∃ d, d ∈ t.rails.downs ∧ d.cause = .ownRail ∧ d.wait = none)
      ∧ (s.md.mode ∈ [Mode.warmUp, .ready, .print, .runOut] → t.md.mode = .safeHold) := by
  obtain ⟨e, he⟩ : ∃ e : Ev, e = { code := 0x0c04, fields := [obj clsRAIL i, 1], latch := [objDEV], sheet := s.anySealed } := ⟨_, rfl⟩
  have hx : exec (.ownRailFault i) s
      = .next ((((s.raise e).hardFault i).enterSafeHold 0x0c04).startDown .ownRail s.usedRails false none) := by
    show execOwnRailFault i s = _
    unfold execOwnRailFault
    rw [if_pos ⟨h1, h5, hm, hr, hw⟩, he]
  have noted : Noted (s.raise e) 0x0c04 objDEV [obj clsRAIL i, 1] := by
    subst he
    exact ⟨State.latched_raise ho ho (List.mem_singleton.2 rfl), State.raised_raise ho⟩
  obtain ⟨q, p, h, hp⟩ := (s.raise e).hardFault_eq i
  have noted : Noted ((s.raise e).hardFault i) 0x0c04 objDEV [obj clsRAIL i, 1] := by
    rw [h]
    exact noted.of_eq rfl
  have held := State.enterSafeHold_onward (s := (s.raise e).hardFault i) 0x0c04 true
  have down := State.startDown_steady (((s.raise e).hardFault i).enterSafeHold 0x0c04) .ownRail s.usedRails false none
  have on := held.trans down.toOnward
  refine ⟨_, hx, on.latched noted.1, on.raised (by decide) noted.2, ?_, State.startDown_ownRail _ _ _, fun hactive => ?_⟩
  · obtain ⟨_, _, _, ha⟩ := on.aon
    rw [ha, h]
    exact hp
  · rw [down.md]
    refine State.enterSafeHold_mode _ _ ?_
    rw [h]
    exact (State.raise_md s e).symm ▸ hactive

/-- RL00 lost ends in Dormant. -/
theorem ownRailFaultRl00_ends (hu : Map.get (fun _ => false) s.aon.ownUp 0 = true) : ∃ t, exec .ownRailFaultRl00 s = .next t
    ∧ t.md.mode = .dormant ∧ t.aon.ownUp = [] ∧ (0x0c04, objDEV) ∈ t.aon.pwrflt ∧ ∃ x, t.aon.notes = s.aon.notes ++ [(0x0c04, 0, x)] := by
  have hx : exec .ownRailFaultRl00 s = .next ((s.note 0x0c04 0 (if s.md.mode = .dormant then 0 else 1)).hardFault 0).goDormant :=
    congrArg _ (if_pos hu)
  obtain ⟨q, p, h, hm⟩ := (s.note 0x0c04 0 (if s.md.mode = .dormant then 0 else 1)).hardFault_eq 0
  refine ⟨_, hx, rfl, rfl, ?_, ?_⟩
  · rw [h]
    exact hm
  · rw [h]
    exact ⟨_, rfl⟩

/-- The own rails' power-down ends in Dormant, or in a new wake when one waits. -/
theorem ownRailPowerDown_ends (hw : s.aon.wake = .down) :
    ((∀ i, 1 ≤ i → i < 5 → Map.get (fun _ => false) s.aon.ownUp i = false) → ∃ t, exec .ownRailPowerDown s = .next t
      ∧ t.md.mode = .dormant ∧ t.aon.ownUp = [] ∧ t.aon.notes = s.aon.notes ∧ t.aon.wakePending = false
      ∧ t.aon.wake = if s.aon.wakePending && !s.aon.resetLow then .rl00 else .idle)
    ∧ (∀ i, 1 ≤ i → i < 5 → Map.get (fun _ => false) s.aon.ownUp i = true → s.aon.downAt + 5000000 ≤ s.tempo →
      ∃ t, exec .ownRailPowerDown s = .next t ∧ t.md.mode = .dormant ∧ (0x0c03, i, 0) ∈ t.aon.notes
        ∧ (0x0c03, objDEV) ∈ t.aon.pwrflt) := by
  refine ⟨fun hlow => ?_, fun i h1 h5 hu ht => ?_⟩
  · have hh : s.stillHigh = [] := List.eq_nil_iff_forall_not_mem.2 fun i hi => by
      obtain ⟨⟨h1, h5⟩, hu⟩ := (s.mem_stillHigh).1 hi
      simp [hlow i h1 h5] at hu
    refine ⟨_, s.execOwnRailPowerDown_eq hw (.inl hh), rfl, rfl, ?_⟩
    rw [hh]
    exact ⟨rfl, rfl, rfl⟩
  · refine ⟨_, s.execOwnRailPowerDown_eq hw (.inr ht), rfl, ?_⟩
    obtain ⟨xs, ys, h⟩ := List.append_of_mem (s.mem_stillHigh.2 ⟨⟨h1, h5⟩, hu⟩)
    rw [h, List.foldl_append, List.foldl_cons]
    exact foldl_pred (P := fun u : State => u.HighNoted i) (fun u j hu => hu.reportHigh j) (State.reportHigh_noted _ i)

/-- A kept rail lost in Dormant is noted, and the device stays in Dormant. -/
theorem dormantPgLost_notes {i : Nat} (hm : s.md.mode = .dormant) (h5 : 5 ≤ i) (h32 : i < 32) (hk : bit s.aon.keep i = true)
    (hw : bit s.aon.watch i = true) (hu : (s.rail i).state = .up) :
    ∃ t, exec (.dormantPgLost i) s = .next t ∧ (t.rail i).state = .failed ∧ t.aon.notes = s.aon.notes ++ [(0x0c05, i, 0)]
      ∧ (0x0c05, obj clsRAIL i) ∈ t.aon.pwrflt ∧ t.md = s.md
      ∧ (s.aon.ledger.length + s.aon.ledgerQueue.length < 64 →
        ∃ e, t.aon.ledgerQueue = s.aon.ledgerQueue ++ [e] ∧ e.kind = 5 ∧ e.source = i) := by
  obtain ⟨q, p, h, hp, -, hq⟩ := ((s.setRail i { state := .failed }).note 0x0c05 i 0).recorded_eq 0x0c05 (obj clsRAIL i) 5 i
  have hx : exec (.dormantPgLost i) s = .next ((((s.setRail i { state := .failed }).note 0x0c05 i 0).ledgerWrite 5 i).assertPwrflt
      0x0c05 (obj clsRAIL i)) := congrArg _ (if_pos ⟨hm, h5, h32, hk, hw, hu⟩)
  refine ⟨_, hx, ?_⟩
  rw [h]
  refine ⟨?_, rfl, hp, rfl, hq⟩
  show ((s.setRail i { state := .failed }).rail i).state = _
  rw [State.setRail_get, if_pos rfl]

/-! ### The host link -/

/-- The link comes up at a rate and a width that both ends settle on. -/
theorem hostLinkUp_comesUp (h : s.host.training = true) : ∃ t rate width, exec .hostLinkUp s = .next t ∧ 1 ≤ rate ∧ rate ≤ 4
    ∧ width ∈ [1, 2, 4, 8]
    ∧ t.host = { s.host with training := false, linkUp := true, cfg := { s.host.cfg with rate, width } } ∧ t.params = s.params
    ∧ t.faults = s.faults := by
  have widths (w : Nat) : 2 ^ (w % 4) ∈ [1, 2, 4, 8] := by
    have hw : w % 4 = 0 ∨ w % 4 = 1 ∨ w % 4 = 2 ∨ w % 4 = 3 := by omega
    obtain h | h | h | h := hw <;> simp [h]
  have hx : exec .hostLinkUp s = .next { s.fresh.2.fresh.2 with host := { s.host with
      training := false, linkUp := true, cfg := { s.host.cfg with rate := 1 + s.fresh.1 % 4, width := 2 ^ (s.fresh.2.fresh.1 % 4) } } } :=
    congrArg _ (if_pos h)
  exact ⟨_, 1 + s.fresh.1 % 4, 2 ^ (s.fresh.2.fresh.1 % 4), hx, by omega, by omega, widths _, rfl, rfl, rfl⟩

/-- A host link reset lets a DORMANT_ENTER whose response is lost go on. -/
theorem hostLinkReset_leaves (c : LinkReset) (hl : s.md.leaving ≠ none) :
    ∃ t, exec (.hostLinkReset c) s = .next t ∧ t.host.linkUp = false ∧ t.md.leaving = none := by
  obtain ⟨r, hr⟩ := Option.ne_none_iff_exists'.1 hl
  have cut : LinkCut (s.linkReset c) ((List.range 32).foldl State.linkCuts (s.linkReset c)) :=
    foldl_pred (P := LinkCut (s.linkReset c)) (fun u ch h => h.trans (u.linkCuts_linkCut ch)) (.refl _)
  have owed : (((List.range 32).foldl State.linkCuts (s.linkReset c)).ring r.ring).owes r = false := by
    rw [cut.ring]
    exact Ring.owes_of_waiting_nil (s.linkReset_waiting c _) r
  have left := State.leaveL0_leaves (by rw [cut.md]; exact hr) owed
  refine ⟨_, s.execHostLinkReset_eq c, left.linkUp, ?_⟩
  rw [left.md]

/-- With no DORMANT_ENTER waiting, a host link reset returns the rings to their reset. -/
theorem hostLinkReset_resets (c : LinkReset) (hl : s.md.leaving = none) : ∃ t, exec (.hostLinkReset c) s = .next t
    ∧ t.host.linkUp = (s.host.linkUp && c == .flr)
    ∧ t.host.perst = (s.host.perst && c != .perst) ∧ t.host.msixEn = false ∧ t.host.msix = [] ∧ t.host.pba = 0 ∧ t.host.cfg = {}
    ∧ t.host.training = (s.host.perst && (c == .dlDown || c == .hotReset) && s.running)
    ∧ t.host.linkNote = some s.tempo ∧ t.params = s.params
    ∧ ((∀ ch, ch < 32 → (s.dma ch).state ≠ .running) → s.store.reqs = [] → t.faults = s.faults)
    ∧ (∀ n, n < 16 → (t.ring n).en = false ∧ (t.ring n).cmdTail = 0 ∧ (t.ring n).cmdHead = 0 ∧ (t.ring n).waiting = []
      ∧ (t.ring n).epoch = (s.ring n).epoch + 1) := by
  have cut : LinkCut (s.linkReset c) ((List.range 32).foldl State.linkCuts (s.linkReset c)) :=
    foldl_pred (P := LinkCut (s.linkReset c)) (fun u ch h => h.trans (u.linkCuts_linkCut ch)) (.refl _)
  obtain ⟨bl, lc, lt, hh⟩ := cut.host
  have hx := s.execHostLinkReset_eq c
  rw [State.leaveL0_of_none (by rw [cut.md]; exact hl)] at hx
  refine ⟨_, hx, ?_⟩
  rw [hh]
  refine ⟨rfl, rfl, rfl, rfl, rfl, rfl, rfl, rfl, cut.params, fun hq hreq => ?_, fun n hn => ?_⟩
  · rw [(s.linkReset c).linkCuts_foldl_of_quiet (fun ch hc => hq ch (List.mem_range.1 hc)) hreq]
    rfl
  · rw [cut.ring, s.linkReset_ring, if_pos hn]
    exact ⟨rfl, rfl, rfl, rfl, rfl⟩

/-- Settles O59, row by row. -/
theorem powerResetAndDormantFollowTheAlwaysOnDomain : Obligations.PowerResetAndDormantFollowTheAlwaysOnDomain := by
  intro s
  exact ⟨standbyPowerOn_clears, standbyPowerLoss_cuts, pinReset_of_good, pinReset_of_not_good, rfl, wakeFilterDone_wakes,
    ownRailSettled_first, fun _ => ownRailSettled_next, wakeSpllLocked_starts, ownRailRiseTimeout_first,
    fun _ h1 h5 => ⟨ownRailRiseTimeout_next h1 h5, ownRailFault_powersDown h1 h5⟩, ownRailFaultRl00_ends, ownRailPowerDown_ends,
    fun _ => dormantPgLost_notes, rfl, hostLinkUp_comesUp, hostLinkReset_leaves, hostLinkReset_resets⟩

end Sys2Proof.Proofs
end

section
namespace Sys2Proof.Proofs
open Sys2Proof Sys2Proof.Machine Sys2Proof.Claims

/-- Settles O1: `step` reads the front of the queue. -/
theorem stepRunsTheFrontCommand : Obligations.StepRunsTheFrontCommand := by
  intro c rest s h
  unfold step
  rw [h]

/-- The reset state is sound: nothing is latched, nothing waits, and no memory word is listed. -/
theorem reset_sound : Sound State.reset :=
  { oneRecord := List.nodup_nil
    firstZero := fun _ => ⟨rfl, rfl⟩
    backlog := Nat.zero_le _
    tempo := by decide
    memory := rfl }

/-- Settles O5: every map of the reset state is empty, and an unlisted unit reads as its reset value. -/
theorem resetIsSoundAndAsTheManualSays : Obligations.ResetIsSoundAndAsTheManualSays :=
  ⟨reset_sound, rfl, rfl, rfl, rfl, rfl, rfl, rfl, rfl, rfl, rfl, fun _ => ⟨rfl, rfl, rfl⟩, fun _ => rfl, fun _ => rfl, fun _ => rfl⟩

end Sys2Proof.Proofs
end

section
namespace Sys2Proof.Machine
open Sys2Proof Sys2Proof.Claims
variable {s : State} {op mask p : Nat} {m : Msg}

/-! ### The frame of every command -/

/-- An outcome of a message command: nothing at all, or the frame of R72 to R75 with the check of the reserved ARG bits among its
refusals. -/
def Framed (op mask : Nat) (m : Msg) (s : State) (o : Host.Outcome State Fault Refusal) : Prop :=
  o = .next s ∨ ∃ refs effect, o = .next (s.command op m refs effect) ∧ ∀ x ∈ m.argRes mask, x ∈ refs

/-- A command without reserved ARG bits needs no check of them. -/
@[simp] theorem Msg.argRes_zero (m : Msg) : m.argRes 0 = [] := Msg.argRes_nil (Nat.and_zero _)

theorem execParamWrite_framed (m : Msg) (s : State) :
    Framed 0x0201 0xffffffffffff0000 m (s.enter inDirect) (execParamWrite m s) := by
  unfold execParamWrite
  dsimp only
  split
  · exact .inl rfl
  · exact .inr ⟨_, _, rfl, fun x hx => by simp [hx]⟩

/-- Every row that comes as a message is framed, at its place in the tempo. -/
theorem exec_framed {c : Instr} (h : message c = some (op, mask, m)) (hp : placeIn c s = some p) :
    Framed op mask m (s.enter p) (exec c s) := by
  cases c <;> cases h <;> cases hp
  case paramWrite => exact execParamWrite_framed m s
  case dmaOpen | dmaClose => exact .inr ⟨_, _, rfl, fun x hx => by simp [State.chRefs, hx]⟩
  case castleStage | castleArm | castleDisarm | castleClear | castleStatus =>
    exact .inr ⟨_, _, rfl, fun x hx => by simp [slotArg, hx]⟩
  case ticketBuild | ticketSealArm | ticketDisarm | ticketFree | ticketStatus =>
    exact .inr ⟨_, _, rfl, fun x hx => by simp [ticketArg, hx]⟩
  case promote | tableRead => exact .inr ⟨_, _, rfl, fun x hx => by simp at hx⟩
  all_goals exact .inr ⟨_, _, rfl, fun x hx => by simp [hx]⟩

/-- A refusal with a status of R75 is reported, or one that goes before it. -/
theorem firstRef_isSome {refs : List Ref} {x : Ref} (hx : x ∈ refs) (hc : x.code ∈ statusOrder) : firstRef refs ≠ none := by
  intro h
  have hn := List.findSome?_eq_none_iff.1 h x.code hc
  exact List.find?_eq_none.1 hn x hx (beq_self_eq_true _)

/-- A set reserved bit is refused with BAD_ARG. -/
theorem Msg.argRes_of_set (h : Nat.land m.arg.toNat mask ≠ 0) : { code := stBAD_ARG } ∈ m.argRes mask := by
  unfold Msg.argRes refuse
  rw [bne_iff_ne.2 h]
  exact List.mem_singleton.2 rfl

/-- An answer changes the rings alone. -/
theorem State.post_rings (s : State) (r : Reply) (code index : Nat) (data : Bytes) :
    ∃ rs, s.post r code index data = { s with host := { s.host with rings := rs } } := ⟨_, rfl⟩

/-- CHECK_ONLY and a set reserved bit keep a command from its effect. -/
theorem State.command_answers {refs : List Ref} {effect : Reply → State → State} (hr : ∀ x ∈ m.argRes mask, x ∈ refs)
    (h : m.checkOnly = true ∨ Nat.land m.arg.toNat mask ≠ 0) :
    ∃ rs, s.command op m refs effect = { s with host := { s.host with rings := rs } } := by
  obtain ⟨-, he⟩ | ⟨x, -, he⟩ | ⟨-, -, he⟩ | ⟨hc, hn, -⟩ := s.command_cases op m refs effect
  · exact ⟨_, he⟩
  · rw [he]; exact s.post_rings _ _ _ _
  · rw [he]; exact s.post_rings _ _ _ _
  · obtain h | h := h
    · exact absurd (hc.symm.trans h) (by decide)
    · exact absurd hn (firstRef_isSome (hr _ (Msg.argRes_of_set h)) (by decide))

theorem State.command_not_taken (h : s.takes op m = false) (refs : List Ref) (effect : Reply → State → State) :
    s.command op m refs effect = s := by simp [State.command, h]

end Sys2Proof.Machine

namespace Sys2Proof.Proofs
open Sys2Proof Sys2Proof.Machine Sys2Proof.Claims

/-- Settles O6: every command is `Framed`, and the frame only answers. -/
theorem aCommandThatIsNotTakenOnlyAnswers : Obligations.ACommandThatIsNotTakenOnlyAnswers := by
  intro c op mask p m s h hp hat
  have hf := exec_framed h hp
  rw [hat] at hf
  obtain he | ⟨refs, effect, he, hr⟩ := hf
  · exact ⟨fun _ => ⟨_, he⟩, fun _ => he⟩
  · refine ⟨fun hc => ?_, fun ht => by rw [he, State.command_not_taken ht]⟩
    obtain ⟨rs, hrs⟩ := State.command_answers (op := op) (effect := effect) hr hc
    exact ⟨rs, by rw [he, hrs]⟩

end Sys2Proof.Proofs
end

section
namespace Sys2Proof.Machine
open Sys2Proof Sys2Proof.Claims
variable {s : State} {op : Nat} {m : Msg}

/-! ### Session commands -/

/-- A message that is taken answers for the life of its ring in which it was taken. -/
theorem State.takes_taken (h : s.takes op m = true) :
    ∃ x, (s.ring m.ring).taken = some x ∧ (s.replyOf op m).epoch = x.epoch := by
  unfold State.takes at h
  unfold State.replyOf
  cases ht : (s.ring m.ring).taken with
  | none => simp [ht] at h
  | some x =>
    rw [ht] at h
    simp only [Bool.and_eq_true, beq_iff_eq] at h
    obtain ⟨-, ⟨ho, hm⟩, -⟩ := h
    exact ⟨x, rfl, if_pos ⟨ho, hm⟩⟩

/-- The answer of a taken message frees its ring for the next command (R65). -/
theorem State.post_taken (h : s.takes op m = true) (code index : Nat) (data : Bytes) :
    ((s.post (s.replyOf op m) code index data).ring m.ring).taken = none := by
  obtain ⟨x, hx, he⟩ := State.takes_taken h
  have hg : (s.replyOf op m).ring = m.ring := rfl
  simp [State.post, hg, hx, he]

/-- A quiet command that succeeds without data is not answered (Table 4-1). -/
theorem State.ok_waiting_of_quiet {r : Reply} (hq : r.quiet = true) : ((s.ok r).ring r.ring).waiting = (s.ring r.ring).waiting := by
  simp [State.ok, State.post, hq]

theorem State.post_ring_ne (r : Reply) (code index : Nat) (data : Bytes) {k : Nat} (h : k ≠ r.ring) :
    (s.post r code index data).ring k = s.ring k := by simp [State.post, h]

/-- A command with no payload and no other check runs. -/
theorem State.command_bare (h : Takes op m 0 noArg s) (effect : Reply → State → State) :
    s.command op m (m.plen 0 ++ m.argRes noArg) effect = effect (s.replyOf op m) s := by
  obtain ⟨-, -, hl, hr, -⟩ := id h
  exact State.command_of_takes h (by rw [Msg.plen_nil hl, Msg.argRes_nil hr, List.append_nil]) effect

theorem execNop_runs (h : Takes 0x0000 m 0 noArg s) : exec (.nop m) s = .next (s.ok (s.replyOf 0x0000 m)) := by
  show execNop m s = _
  unfold execNop
  obtain ⟨-, hat, -⟩ := id h
  rw [hat]
  exact congrArg _ (State.command_bare h _)

theorem execVersionGet_runs (h : Takes 0x0001 m 0 noArg s) : exec (.versionGet m) s
    = .next (s.ok (s.replyOf 0x0001 m) (s.versions ++ toLE 4 (s.die.romVer % 65536))) := by
  show execVersionGet m s = _
  unfold execVersionGet
  obtain ⟨-, hat, -⟩ := id h
  rw [hat]
  exact congrArg _ (State.command_bare h _)

theorem execEventRouteGet_runs (h : Takes 0x0021 m 0 noArg s) : exec (.eventRouteGet m) s = .next (s.ok (s.replyOf 0x0021 m)
    ((List.range 14).map (fun i => BitVec.ofNat 8 (Map.get (fun _ => 0) s.host.routes (i + 1))))) := by
  show execEventRouteGet m s = _
  unfold execEventRouteGet
  obtain ⟨-, hat, -⟩ := id h
  rw [hat]
  exact congrArg _ (State.command_bare h _)

theorem execEventRoute_runs (h : Takes 0x0020 m 0 0xffffffffffff0000 s) (h1 : 1 ≤ m.argN 8 1) (h14 : m.argN 8 1 ≤ 14)
    (h15 : m.argN 9 1 ≤ 15) : exec (.eventRoute m) s = .next ({ s with host := { s.host with
      routes := Map.put (fun _ => 0) s.host.routes (m.argN 8 1) (m.argN 9 1) } }.ok (s.replyOf 0x0020 m)) := by
  obtain ⟨-, hat, hl, hr, -⟩ := id h
  have hok : ¬ (m.argN 8 1 < 1 ∨ 14 < m.argN 8 1 ∨ 15 < m.argN 9 1) := by omega
  show execEventRoute m s = _
  unfold execEventRoute
  rw [hat]
  refine congrArg _ (State.command_of_takes h ?_ _)
  rw [Msg.plen_nil hl, Msg.argRes_nil hr, decide_eq_false hok]
  rfl

theorem execFaultList_runs (h : Takes 0x0030 m 0 0xffffffff0000ff00 s) (h14 : m.argN 8 1 ≤ 14) :
    exec (.faultList m) s = .next (s.ok (s.replyOf 0x0030 m)
      ((((s.faults.filter (fun f => m.argN 8 1 == 0 || f.code / 256 == m.argN 8 1)).drop (m.argN 10 2)).take 58).flatMap
        (fun f => toLE 2 f.code ++ [0, 0] ++ toLE 4 f.obj ++ toLE 8 f.tempo))) := by
  obtain ⟨-, hat, hl, hr, -⟩ := id h
  show execFaultList m s = _
  unfold execFaultList
  rw [hat]
  refine congrArg _ (State.command_of_takes h ?_ _)
  rw [Msg.plen_nil hl, Msg.argRes_nil hr, decide_eq_false (Nat.not_lt.2 h14)]
  rfl

end Sys2Proof.Machine

namespace Sys2Proof.Proofs
open Sys2Proof Sys2Proof.Machine Sys2Proof.Claims

/-- What the answer of NOP does to the rings: its own goes on, and one that is not QUIET adds its response. -/
theorem nop_answers {m : Msg} {s : State} (h : Takes 0x0000 m 0 noArg s) (hen : (s.ring m.ring).en = true)
    (hep : ∀ x, (s.ring m.ring).taken = some x → x.epoch = (s.ring m.ring).epoch) :
    ∃ t rs, exec (.nop m) s = .next t ∧ t = { s with host := { s.host with rings := rs } }
      ∧ (∀ k, k ≠ m.ring → t.ring k = s.ring k) ∧ (t.ring m.ring).taken = none
      ∧ (bit m.flags.toNat 0 = false → (t.ring m.ring).waiting = (s.ring m.ring).waiting ++
          [{ opcode := 0, tag := m.tag.toNat, code := 0, tempo := s.tempo, payload := [0, 0, 0xff, 0xff] }])
      ∧ (bit m.flags.toNat 0 = true → (t.ring m.ring).waiting = (s.ring m.ring).waiting) := by
  obtain ⟨rs, hrs⟩ := s.post_rings (s.replyOf 0x0000 m) stOK noIndex []
  obtain ⟨x, hx, he⟩ := State.takes_taken h.1
  refine ⟨_, rs, execNop_runs h, hrs, fun k hk => State.post_ring_ne _ _ _ _ hk, State.post_taken h.1 _ _ _, fun hq => ?_,
    fun hq => State.ok_waiting_of_quiet (r := s.replyOf 0x0000 m) hq⟩
  exact s.post_waiting (s.replyOf 0x0000 m) stOK noIndex [] hen ((hep x hx).symm.trans he.symm) hq

/-- Settles O7, command by command. -/
theorem sessionCommandsAnswerWhatTheyRead : Obligations.SessionCommandsAnswerWhatTheyRead :=
  fun _ _ => ⟨fun h => ⟨execNop_runs h, nop_answers h⟩, execVersionGet_runs, execEventRouteGet_runs, execEventRoute_runs,
    execFaultList_runs⟩

end Sys2Proof.Proofs
end

section
namespace Sys2Proof.Machine
open Sys2Proof Sys2Proof.Claims
variable {s : State} {n : Nat}

/-! ### Registers of a ring (R60, R61) -/

theorem State.writeRingEn_on (hn : n < 16) (he : (s.ring n).en = false) (h6 : 6 ≤ (s.ring n).log2) (h12 : (s.ring n).log2 ≤ 12) :
    s.writeRingEn n true = s.setRing n { s.ring n with
      en := true, cmdHead := 0, cmdTail := 0, rspHead := 0, rspTail := 0, phase := true, seq := 0 } := by
  unfold State.writeRingEn
  dsimp only
  rw [if_neg (Nat.not_le.2 hn), if_pos rfl, if_neg (by simp [he]; omega)]

/-- A ring whose EN is cleared is disabled, and one that was enabled has no response left; the other rings go on. -/
theorem State.writeRingEn_off (hn : n < 16) : ((s.writeRingEn n false).ring n).en = false
    ∧ (∀ k, k ≠ n → (s.writeRingEn n false).ring k = s.ring k)
    ∧ ((s.ring n).en = true → ((s.writeRingEn n false).ring n).waiting = [])
    ∧ ((s.writeRingEn n false).ring n).rspBase = (s.ring n).rspBase := by
  unfold State.writeRingEn
  dsimp only
  rw [if_neg (Nat.not_le.2 hn), if_neg (by decide)]
  cases he : (s.ring n).en with
  | true =>
    rw [if_pos rfl]
    exact ⟨by simp [Ring.stop], fun k hk => by simp [hk], fun _ => by simp [Ring.stop], by simp [Ring.stop]⟩
  | false =>
    rw [if_neg (by decide)]
    exact ⟨he, fun _ _ => rfl, fun h => absurd h (by decide), rfl⟩

theorem State.writeCmdTail_eq (hn : n < 16) (v : Nat) :
    s.writeCmdTail n v = s.setRing n { s.ring n with cmdTail := v % 64 } := if_neg (by omega)

theorem State.writeRspHead_eq (hn : n < 16) (v : Nat) :
    s.writeRspHead n v = s.setRing n { s.ring n with rspHead := v % 4096 } := if_neg (by omega)

/-! ### Entries -/

@[simp] theorem bytesAt_length (b : Bytes) (off k : Nat) : (bytesAt b off k).length = k := by simp [bytesAt]

/-- A message of at most 44 payload bytes is one entry of 60 bytes and its final word. -/
theorem messageEntries_of_short {opcode kind tag code : Nat} {t : Tempo} {p : Bytes} (h : p.length ≤ 44) :
    messageEntries opcode kind tag code t p = [entryPad (entryHead opcode 1 kind tag code t ++ p.take 44)] := by
  have hz : ceilDiv (p.length - 44) 60 = 0 := by rw [Nat.sub_eq_zero_of_le h]; rfl
  unfold messageEntries
  rw [hz]
  rfl

/-- Where the entry at the tail of a response queue stands in host memory. -/
def Ring.tailAddr (g : Ring) : Nat := g.rspBase + 64 * g.rspTail

/-- An entry leaves in two writes, its final word last (R62). -/
theorem State.writeEntry_out (s : State) (n : Nat) (b : Bytes) (urgent : Bool) : ∃ w, (s.writeEntry n b urgent).out
    = s.out ++ [.hostWrite (s.ring n).tailAddr b, .hostWrite ((s.ring n).tailAddr + 60) w] :=
  ⟨_, List.append_assoc _ _ _⟩

theorem State.writeEntry_ring (s : State) (n : Nat) (b : Bytes) (urgent : Bool) :
    ((s.writeEntry n b urgent).ring n).rspTail = ((s.ring n).rspTail + 1) % 2 ^ (s.ring n).log2
    ∧ ((s.writeEntry n b urgent).ring n).waiting = (s.ring n).waiting := by
  unfold State.writeEntry
  dsimp only
  rw [State.setRing_get, if_pos rfl]
  exact ⟨rfl, rfl⟩

theorem State.updRing_self (s : State) (n : Nat) (f : Ring → Ring) : (s.updRing n f).ring n = f (s.ring n) := by simp

/-! ### The rows of a ring -/

theorem execHelloPost_posts (hp : s.mayPost 0 = true) (hh : s.host.helloPosted = false) (hl : s.host.linkNote = none) :
    exec .helloPost s = .next (State.writeEntry { s with host := { s.host with helloPosted := true } } 0
      (entryPad (entryHead 0 1 3 0 0 s.tempo ++ toLE 4 s.md.cmdsetVer ++ toLE 4 s.md.fwVer ++ toLE 4 s.die.variant)) false) :=
  congrArg _ (if_pos (by simp [hp, hh, hl]))

/-- Firmware may take a message from the ring: the ring is RUNNING and idle, and a slot waits. -/
structure State.MayTake (s : State) (n : Nat) : Prop where
  runs : s.md.boot = .running
  hello : s.host.helloPosted = true
  ring : n < 16
  code : (s.ring n).code = 1
  idle : (s.ring n).taken = none
  waits : (s.ring n).cmdHead ≠ (s.ring n).cmdTail
  tail : (s.ring n).cmdTail < 64
  head : (s.ring n).cmdHead < 64

/-- A slot that holds a whole message with a defined opcode (Table 3-17). -/
structure OneSlot (h : Bytes) : Prop where
  slots : leAt h 2 1 = 1
  flags : leAt h 3 1 < 4
  plen : leAt h 6 2 ≤ 48
  opcode : leAt h 0 2 ∈ opcodes

/-- The message that a slot carries. -/
def slotMsg (n : Nat) (h : Bytes) : Msg :=
  { ring := n, tag := BitVec.ofNat 16 (leAt h 4 2), flags := BitVec.ofNat 8 (leAt h 3 1), arg := BitVec.ofNat 64 (leAt h 8 8)
    payload := bytesAt h 16 (leAt h 6 2) }

/-- CMD_HEAD has moved past a slot. -/
def State.passedSlot (s : State) (n head : Nat) : State := s.updRing n (fun x => { x with cmdHead := (head + 1) % 64 })

theorem execMailboxCommandTake_takes {s1 : State} {h : Bytes} (hm : s.MayTake n) (hr : s.readSlots n (s.ring n).cmdHead 1 = (h, false, s1))
    (hs : OneSlot h) : ∃ e, exec (.mailboxCommandTake n none) s = .next ((s1.passedSlot n (s.ring n).cmdHead).updRing n
      (fun x => { x with taken := some { opcode := leAt h 0 2, msg := slotMsg n h, epoch := e } })) := by
  obtain ⟨hb, hh, hn, hc, ht, hne, htail, hhead⟩ := hm
  obtain ⟨hone, hf, hl, ho⟩ := hs
  have here : 1 ≤ ((s.ring n).cmdTail + 64 - (s.ring n).cmdHead) % 64 := by omega
  have hrest : s1.readSlots n ((s.ring n).cmdHead + 1) 0 = ([], false, s1) := rfl
  refine ⟨((s1.passedSlot n (s.ring n).cmdHead).ring n).epoch, ?_⟩
  show execMailboxCommandTake n none s = _
  unfold execMailboxCommandTake
  dsimp only
  rw [if_neg (by simp [hb, hh, hc, ht, hne]; omega), hr]
  dsimp only
  rw [hone, if_neg (by omega), if_neg (by omega), if_neg (by omega), hrest]
  dsimp only
  rw [if_neg (by simp; omega), if_neg (by simp [ho]), List.append_nil]
  rfl

/-- The state in which the message that the ring was writing has left it. -/
def State.responded (s : State) (n : Nat) (b : Bytes) : State :=
  ((s.writeEntry n b false).updRing n (fun x => { x with cur := .idle, curAt := 0 })).updRing n
    (fun g => { g with waiting := g.waiting.tail })

theorem State.responded_ring (s : State) (n : Nat) (b : Bytes) : ((s.responded n b).ring n).waiting = (s.ring n).waiting.tail
    ∧ ((s.responded n b).ring n).cur = .idle
    ∧ ((s.responded n b).ring n).rspTail = ((s.ring n).rspTail + 1) % 2 ^ (s.ring n).log2 := by
  obtain ⟨htail, hwait⟩ := s.writeEntry_ring n b false
  unfold State.responded
  rw [State.updRing_self, State.updRing_self]
  exact ⟨congrArg List.tail hwait, rfl, htail⟩

theorem State.responded_out (s : State) (n : Nat) (b : Bytes) : .hostWrite (s.ring n).tailAddr b ∈ (s.responded n b).out := by
  obtain ⟨w, h⟩ := s.writeEntry_out n b false
  simp [State.responded, h]

theorem execResponseEntryPost_response {x : OutMsg} (hp : s.mayPost n = true) (hc : (s.ring n).cur = .idle) (ha : (s.ring n).curAt = 0)
    (hm : s.nextMsg n = .response x) (hx : x.payload.length ≤ 44) : exec (.responseEntryPost n none) s
      = .next (s.responded n (entryPad (entryHead x.opcode 1 0 x.tag x.code x.tempo ++ x.payload.take 44))).leaveL0 := by
  have he : (Cur.response x).entries = [entryPad (entryHead x.opcode 1 0 x.tag x.code x.tempo ++ x.payload.take 44)] :=
    messageEntries_of_short hx
  show execResponseEntryPost n none s = _
  unfold execResponseEntryPost
  dsimp only
  rw [if_neg (by simp [hp]), if_pos hc, hm, he, ha]
  rfl

theorem execRingInterrupt_signals (hn : n < 16) (he : (s.ring n).en = true) (hu : 0 < (s.ring n).unsig) (hi : (s.ring n).irqTime = 0) :
    exec (.ringInterrupt n) s = .next ((s.setRing n { s.ring n with unsig := 0, sigNow := false }).signal (s.ring n).vec) :=
  congrArg _ (if_pos ⟨hn, he, hu, .inr (.inl hi)⟩)

end Sys2Proof.Machine

namespace Sys2Proof.Proofs
open Sys2Proof Sys2Proof.Machine Sys2Proof.Claims

/-- Settles O33, row by row. -/
theorem mailboxRingsTakeCommandsAndPostEntries : Obligations.MailboxRingsTakeCommandsAndPostEntries := by
  refine ⟨fun s n v h hn => ⟨fun hv he h6 h12 => next_access h ?enable, fun hv => ⟨_, next_access h ?disable, State.writeRingEn_off hn⟩,
    fun hat => ?doorbell, next_access h (State.writeRspHead_eq hn _), State.leaveL0_of_none⟩, fun s hp hh hl => ?hello,
    fun s s1 n b hb hh hn hc ht hne htail hhead hr hs hf hl ho => ?take, fun s n x hp hc ha hm hx => ?post,
    fun s n hn he hu hi => execRingInterrupt_signals hn he hu hi⟩
  case enable => rw [hv, State.writeRingEn_on hn he h6 h12]
  case disable => rw [hv]
  case doorbell =>
    show execMbCmdTailDoorbell n v s = _
    unfold execMbCmdTailDoorbell
    rw [hat]
    exact next_access h (State.writeCmdTail_eq hn _)
  case hello =>
    obtain ⟨w, hout⟩ := State.writeEntry_out { s with host := { s.host with helloPosted := true } } 0 _ false
    exact ⟨_, _, w, execHelloPost_posts hp hh hl, rfl, bytesAt_length _ _ _, hout, (State.writeEntry_ring _ _ _ _).1⟩
  case take =>
    obtain ⟨e, he⟩ := execMailboxCommandTake_takes ⟨hb, hh, hn, hc, ht, hne, htail, hhead⟩ hr ⟨hs, hf, hl, ho⟩
    refine ⟨_, { opcode := leAt b 0 2, msg := slotMsg n b, epoch := e }, he, ?_⟩
    rw [State.updRing_self, State.passedSlot, State.updRing_self]
    exact ⟨rfl, rfl, rfl, rfl, rfl, rfl, rfl, rfl, rfl⟩
  case post =>
    obtain ⟨hwait, hcur, htail⟩ := s.responded_ring n _
    exact ⟨_, _, execResponseEntryPost_response hp hc ha hm hx, hwait, hcur, htail, s.responded_out n _, bytesAt_length _ _ _⟩

end Sys2Proof.Proofs
end

section
namespace Sys2Proof.Machine
open Sys2Proof Sys2Proof.Claims
variable (s : State)

/-! ### Blanking a link (R227) -/

/-- From `s` to `t` only the links have changed, and more may have left the package. -/
def LinksOnly (s t : State) : Prop :=
  ∃ ls out, t = { s with video := { s.video with links := ls }, out := s.out ++ out }

theorem LinksOnly.refl : LinksOnly s s := ⟨s.video.links, [], by rw [List.append_nil]⟩

theorem LinksOnly.trans {s t u : State} (h : LinksOnly s t) (k : LinksOnly t u) : LinksOnly s u := by
  obtain ⟨ls, o, rfl⟩ := h
  obtain ⟨ls', o', rfl⟩ := k
  exact ⟨ls', o ++ o', by simp only [List.append_assoc]⟩

theorem LinksOnly.foldl {f : State → Nat → State} (hf : ∀ u l, LinksOnly u (f u l)) (xs : List Nat) : LinksOnly s (xs.foldl f s) :=
  foldl_pred (P := LinksOnly s) (fun u l h => h.trans (hf u l)) (.refl s)

theorem LinksOnly.out {s t : State} (h : LinksOnly s t) : s.out ⊆ t.out := by
  obtain ⟨ls, o, rfl⟩ := h
  exact List.subset_append_left _ _

theorem State.updLink_linksOnly (l : Nat) (f : Link → Link) : LinksOnly s (s.updLink l f) :=
  ⟨_, [], by rw [List.append_nil]; rfl⟩

theorem State.emit_linksOnly (o : Out) : LinksOnly s (s.emit o) := ⟨s.video.links, [o], rfl⟩

theorem State.stopPx_linksOnly (l : Nat) : LinksOnly s (s.stopPx l) := by
  unfold State.stopPx
  dsimp only
  split
  · exact (s.updLink_linksOnly _ _).trans (State.emit_linksOnly _ _)
  · exact s.updLink_linksOnly _ _

theorem State.darken_linksOnly (l : Nat) : LinksOnly s (s.darken l) := by
  have h : LinksOnly s ((s.stopPx l).updLink l Link.quiet) := (s.stopPx_linksOnly l).trans (State.updLink_linksOnly _ _ _)
  unfold State.darken
  dsimp only
  split
  · split
    · exact h.trans (State.emit_linksOnly _ _)
    · exact h
  · exact h

theorem State.blankLink_linksOnly (l : Nat) : LinksOnly s (s.blankLink l) :=
  (s.darken_linksOnly l).trans (by unfold State.blankLink State.updTrain; exact State.updLink_linksOnly _ _ _)

@[simp] theorem State.emit_link (o : Out) (j : Nat) : (s.emit o).link j = s.link j := rfl

@[simp] theorem State.stopPx_link (l j : Nat) : (s.stopPx l).link j = if j = l then (s.link l).pxOff else s.link j := by
  unfold State.stopPx
  dsimp only
  split <;> simp

@[simp] theorem State.darken_link (l j : Nat) : (s.darken l).link j = if j = l then (s.link l).pxOff.quiet else s.link j := by
  have h : ((s.stopPx l).updLink l Link.quiet).link j = if j = l then (s.link l).pxOff.quiet else s.link j := by
    by_cases hj : j = l <;> simp [hj]
  unfold State.darken
  dsimp only
  split
  · split
    · exact h
    · exact h
  · exact h

/-- A link after an opening: PX low, nothing to send, and a training run that fails. -/
def Link.blanked (x : Link) : Link := { x.pxOff.quiet with train := x.train.map (fun t => { t with ilk := true }) }

theorem State.blankLink_link (l j : Nat) : (s.blankLink l).link j = if j = l then (s.link j).blanked else s.link j := by
  unfold State.blankLink State.updTrain
  by_cases hj : j = l
  · subst hj; simp [Link.blanked, Link.pxOff, Link.quiet]
  · simp [hj]

/-- The slots of the frame under way that have not begun carry BLANK_ALL. -/
theorem State.blankLink_out {l f k : Nat} (hf : (s.link l).frameAt = some f) (hk : k = ceilDiv (5 * (s.tempo - f)) 16) (h20 : k < 20)
    (hs : s.serialised l = true) : .frame l k (List.replicate (20 - k) (.ctl blkBLANK)) ∈ (s.blankLink l).out := by
  subst hk
  have hd : s.darken l = ((s.stopPx l).updLink l Link.quiet).emit (.frame l (ceilDiv (5 * (s.tempo - f)) 16)
      (List.replicate (20 - ceilDiv (5 * (s.tempo - f)) 16) (.ctl blkBLANK))) := by
    unfold State.darken
    rw [hf]
    exact if_pos ⟨h20, hs⟩
  exact (State.updLink_linksOnly (s.darken l) l _).out (hd ▸ List.mem_append_right _ (List.mem_singleton.2 rfl))

/-- A fold that changes each link once, by what a link becomes in the states that it passes through. -/
theorem State.foldl_link {R : State → Prop} {f : State → Nat → State} {g : Nat → Link → Link} (hR : ∀ u l, R u → R (f u l))
    (hf : ∀ u l j, R u → (f u l).link j = if j = l then g j (u.link j) else u.link j) {ls : List Nat} (hn : ls.Nodup)
    (hs : R s) (j : Nat) : (ls.foldl f s).link j = if j ∈ ls then g j (s.link j) else s.link j := by
  induction ls generalizing s with
  | nil => rfl
  | cons l ls ih =>
    obtain ⟨hl, hn⟩ := List.nodup_cons.1 hn
    rw [List.foldl_cons, ih _ hn (hR s l hs), hf s l j hs]
    by_cases hj : j = l
    · subst hj; simp [hl]
    · simp [hj]

/-! ### An opening (R125, R227) -/

/-- Every link is blanked. -/
def State.linksBlanked (s : State) : State :=
  (List.range 32).foldl (fun u l => u.blankLink l) { s with video := { s.video with blanked := true } }

/-- Every station that a sealed sheet images on is spoiled. -/
def State.imagesSpoiled (s : State) : State :=
  s.sealedTks.foldl (fun u k => (u.ticket k).imaging.foldl (fun v n => v.spoil k n 4 (v.ilkLine n k)) u) s

theorem State.blankAll_eq (mask : Nat) : s.blankAll mask = s.linksBlanked.imagesSpoiled.raise
    { code := 0x0601, fields := [mask, s.tempo], sheet := s.sealedTks.any (fun k => !(s.ticket k).imaging.isEmpty) } := rfl

theorem State.linksBlanked_linksOnly : LinksOnly { s with video := { s.video with blanked := true } } s.linksBlanked :=
  LinksOnly.foldl _ (fun u l => u.blankLink_linksOnly l) _

theorem State.linksBlanked_link {l : Nat} (hl : l < 32) : s.linksBlanked.link l = (s.link l).blanked := by
  refine (State.foldl_link (R := fun _ => True) (g := fun _ x => x.blanked) _ (fun _ _ _ => trivial)
    (fun u k j _ => u.blankLink_link k j) List.nodup_range trivial l).trans ?_
  rw [if_pos (List.mem_range.2 hl)]
  rfl

/-- A link's blanking is sent from what the link and its clock are before the opening. -/
theorem State.linksBlanked_out {l f k : Nat} (hl : l < 32) (hf : (s.link l).frameAt = some f) (hk : k = ceilDiv (5 * (s.tempo - f)) 16)
    (h20 : k < 20) (hs : s.serialised l = true) : .frame l k (List.replicate (20 - k) (.ctl blkBLANK)) ∈ s.linksBlanked.out := by
  obtain ⟨xs, ys, hxy⟩ := List.append_of_mem (List.mem_range.2 hl)
  have hn : (xs ++ l :: ys).Nodup := hxy ▸ List.nodup_range
  have hx : l ∉ xs := fun h => (List.nodup_append.1 hn).2.2 l h l (List.mem_cons_self ..) rfl
  unfold State.linksBlanked
  rw [hxy, List.foldl_append, List.foldl_cons]
  generalize hs0 : ({ s with video := { s.video with blanked := true } } : State) = s0
  have hlink : (xs.foldl (fun u l => u.blankLink l) s0).link l = s.link l := by
    rw [State.foldl_link (R := fun _ => True) (g := fun _ x => x.blanked) _ (fun _ _ _ => trivial)
      (fun u k j _ => u.blankLink_link k j) (List.nodup_append.1 hn).1 trivial, if_neg hx, ← hs0]
    rfl
  obtain ⟨ls, o, hu⟩ := LinksOnly.foldl s0 (fun u l => u.blankLink_linksOnly l) xs
  refine (LinksOnly.foldl _ (fun u l => u.blankLink_linksOnly l) ys).out (State.blankLink_out _ (f := f) (hlink ▸ hf) ?_ h20 ?_)
  · rw [hu, ← hs0]; exact hk
  · rw [hu, ← hs0]; exact hs

/-- An event that latches nothing leaves the sheets. -/
theorem State.raise_sheets_of_latch_nil {e : Ev} (h : e.latch = []) : (s.raise e).sheets = s.sheets := by
  unfold State.raise
  rw [h]
  split
  · dsimp only
    unfold State.queueEv
    split <;> rfl
  · rfl

/-- From `s` to `t` no ticket has changed its state or its actions, and no spoil is gone. -/
structure SpoilsMore (s t : State) : Prop where
  state : ∀ k, (t.ticket k).state = (s.ticket k).state
  imaging : ∀ k, (t.ticket k).imaging = (s.ticket k).imaging
  spoil : ∀ k n, bit (s.ticket k).spoil n = true → bit (t.ticket k).spoil n = true

theorem SpoilsMore.of_sheets {s t : State} (h : t.sheets = s.sheets) : SpoilsMore s t := by
  have hk (k) : t.ticket k = s.ticket k := by unfold State.ticket; rw [h]
  exact ⟨fun k => by rw [hk], fun k => by rw [hk], fun k n hs => by rwa [hk]⟩

theorem SpoilsMore.trans {s t u : State} (h : SpoilsMore s t) (k : SpoilsMore t u) : SpoilsMore s u :=
  ⟨fun i => (k.state i).trans (h.state i), fun i => (k.imaging i).trans (h.imaging i), fun i n hs => k.spoil i n (h.spoil i n hs)⟩

theorem SpoilsMore.foldl {α : Type} {f : State → α → State} (hf : ∀ u x, SpoilsMore u (f u x)) (xs : List α) (s : State) :
    SpoilsMore s (xs.foldl f s) :=
  foldl_pred (P := SpoilsMore s) (fun u x h => h.trans (hf u x)) (.of_sheets rfl)

theorem bit_lor_of_bit {x i : Nat} (h : bit x i = true) (y : Nat) : bit (Nat.lor x y) i = true := by
  rw [bit_eq_testBit] at h ⊢
  exact (Nat.testBit_or x y i).trans (by rw [h]; rfl)

/-- A ticket with a station spoiled. -/
def Ticket.spoiled (t : Ticket) (n cause : Nat) : Ticket :=
  { t with spoil := Nat.lor t.spoil (2 ^ n), causes := Map.put (fun _ => 0) t.causes n cause }

/-- A spoil of a station marks it in its ticket and is reported; a ticket that is not sealed, or has the mark, stays as it is. -/
theorem State.spoil_cases (k n cause line : Nat) :
    (s.spoil k n cause line = s ∧ ((s.ticket k).state = 3 ∨ (s.ticket k).state = 4 → bit (s.ticket k).spoil n = true))
      ∨ ∃ e : Ev, e.latch = [] ∧ s.spoil k n cause line = (s.setTicket k ((s.ticket k).spoiled n cause)).raise e := by
  unfold State.spoil
  dsimp only
  split
  · next h => exact .inl ⟨rfl, fun hs => absurd hs (by omega)⟩
  · split
    · next h => exact .inl ⟨rfl, fun _ => h⟩
    · exact .inr ⟨_, rfl, rfl⟩

theorem State.setTicket_spoiled (k n cause : Nat) : SpoilsMore s (s.setTicket k ((s.ticket k).spoiled n cause)) := by
  refine ⟨fun j => ?_, fun j => ?_, fun j i hj => ?_⟩ <;> rw [State.setTicket_get] <;> split
  case refine_1.isTrue h => rw [h]; rfl
  case refine_1.isFalse => rfl
  case refine_2.isTrue h => rw [h]; rfl
  case refine_2.isFalse => rfl
  case refine_3.isTrue h => subst h; exact bit_lor_of_bit hj _
  case refine_3.isFalse => exact hj

/-- A spoil of a station adds its mark, where the ticket is sealed, and takes none away. -/
theorem State.spoil_ticket (k n cause line : Nat) : SpoilsMore s (s.spoil k n cause line)
    ∧ ((s.ticket k).state = 3 ∨ (s.ticket k).state = 4 → bit ((s.spoil k n cause line).ticket k).spoil n = true) := by
  obtain ⟨he, h⟩ | ⟨e, hl, he⟩ := s.spoil_cases k n cause line
  · rw [he]; exact ⟨.of_sheets rfl, h⟩
  · have hr := SpoilsMore.of_sheets (State.raise_sheets_of_latch_nil (s.setTicket k ((s.ticket k).spoiled n cause)) hl)
    rw [he]
    refine ⟨(s.setTicket_spoiled k n cause).trans hr, fun _ => hr.spoil k n ?_⟩
    rw [State.setTicket_get, if_pos rfl]
    exact bit_lor_pow _ _

/-- The stations of one ticket are spoiled. -/
def State.imagesOf (s : State) (k : Nat) : State := (s.ticket k).imaging.foldl (fun v n => v.spoil k n 4 (v.ilkLine n k)) s

theorem State.imagesOf_spoilsMore (k : Nat) : SpoilsMore s (s.imagesOf k) := .foldl (fun u n => (u.spoil_ticket k n 4 _).1) _ s

theorem State.imagesOf_spoils {k n : Nat} (hk : (s.ticket k).state = 3 ∨ (s.ticket k).state = 4) (hn : n ∈ (s.ticket k).imaging) :
    bit ((s.imagesOf k).ticket k).spoil n = true := by
  obtain ⟨xs, ys, hxy⟩ := List.append_of_mem hn
  unfold State.imagesOf
  rw [hxy, List.foldl_append, List.foldl_cons]
  have hx := SpoilsMore.foldl (fun u n => (State.spoil_ticket u k n 4 (u.ilkLine n k)).1) xs s
  refine (SpoilsMore.foldl (fun u n => (State.spoil_ticket u k n 4 (u.ilkLine n k)).1) ys _).spoil k n ?_
  exact (State.spoil_ticket _ k n 4 _).2 (by rwa [hx.state])

/-- A ticket that is SEALED or RUNNING is listed among the sealed ones. -/
theorem State.mem_sealedTks {k : Nat} (hk : (s.ticket k).state = 3 ∨ (s.ticket k).state = 4) : k ∈ s.sealedTks := by
  obtain h | h := Map.get_cases (d := fun _ => ({} : Ticket)) s.sheets.tickets k
  · have h0 : (s.ticket k).state = 0 := congrArg Ticket.state h
    omega
  · exact List.mem_map.2 ⟨_, List.mem_filter.2 ⟨h, by simpa [State.ticket] using hk⟩, rfl⟩

theorem State.imagesSpoiled_eq : s.imagesSpoiled = s.sealedTks.foldl State.imagesOf s := rfl

theorem State.imagesSpoiled_spoils {k n : Nat} (hk : (s.ticket k).state = 3 ∨ (s.ticket k).state = 4) (hn : n ∈ (s.ticket k).imaging) :
    bit (s.imagesSpoiled.ticket k).spoil n = true := by
  obtain ⟨xs, ys, hxy⟩ := List.append_of_mem (s.mem_sealedTks hk)
  rw [State.imagesSpoiled_eq, hxy, List.foldl_append, List.foldl_cons]
  have hx := SpoilsMore.foldl (fun u k => State.imagesOf_spoilsMore u k) xs s
  refine (SpoilsMore.foldl (fun u k => State.imagesOf_spoilsMore u k) ys _).spoil k n ?_
  exact State.imagesOf_spoils _ (by rwa [hx.state]) (by rwa [hx.imaging])

/-- Spoiling leaves all but tickets and events. -/
theorem State.imagesSpoiled_keeps {γ : Type} (g : State → γ) (hg : ∀ (u : State) (k n c l : Nat), g (u.spoil k n c l) = g u) :
    g s.imagesSpoiled = g s :=
  foldl_keeps g (fun u k => foldl_keeps g (fun v n => hg v k n 4 _) _ u) _ s

/-! ### What an opening leaves -/

section
variable (mask : Nat)

theorem State.blankAll_keeps {γ : Type} (g : State → γ) (hr : ∀ (u : State) (e : Ev), g (u.raise e) = g u)
    (hs : ∀ (u : State) (k n c l : Nat), g (u.spoil k n c l) = g u) : g (s.blankAll mask) = g s.linksBlanked := by
  rw [State.blankAll_eq, hr, State.imagesSpoiled_keeps _ g hs]

theorem State.blankAll_video_eq : (s.blankAll mask).video = s.linksBlanked.video :=
  s.blankAll_keeps mask (fun u => u.video) State.raise_video State.spoil_video

theorem State.blankAll_video : ∃ ls, (s.blankAll mask).video = { s.video with blanked := true, links := ls } := by
  obtain ⟨ls, out, h⟩ := s.linksBlanked_linksOnly
  exact ⟨ls, by rw [s.blankAll_video_eq, h]⟩

theorem State.blankAll_link {l : Nat} (hl : l < 32) : (s.blankAll mask).link l = (s.link l).blanked := by
  rw [← s.linksBlanked_link hl]
  unfold State.link
  rw [s.blankAll_video_eq]

theorem State.blankAll_out : (s.blankAll mask).out = s.linksBlanked.out :=
  s.blankAll_keeps mask (fun u => u.out) State.raise_out State.spoil_out

theorem State.blankAll_raised (ho : s.objHere objDEV = true) : Raised (s.blankAll mask) 0x0601 objDEV [mask, s.tempo] := by
  obtain ⟨ls, out, h⟩ := s.linksBlanked_linksOnly
  have hd := s.linksBlanked.imagesSpoiled_keeps (fun u : State => u.die) State.spoil_die
  have hr := s.linksBlanked.imagesSpoiled_keeps (fun u : State => u.removed) State.spoil_removed
  rw [s.blankAll_eq]
  refine State.raised_raise (s := s.linksBlanked.imagesSpoiled) (e := { code := 0x0601, fields := [mask, s.tempo], sheet := _ }) ?_
  rw [← ho]
  refine State.objHere_congr (hd.trans ?_) (hr.trans ?_) _
  · rw [h]
  · rw [h]

theorem State.blankAll_spoils {k n : Nat} (hk : (s.ticket k).state = 3 ∨ (s.ticket k).state = 4) (hn : n ∈ (s.ticket k).imaging) :
    bit ((s.blankAll mask).ticket k).spoil n = true := by
  obtain ⟨ls, out, h⟩ := s.linksBlanked_linksOnly
  have ht : s.linksBlanked.ticket k = s.ticket k := by rw [h]; rfl
  rw [s.blankAll_eq]
  refine (SpoilsMore.of_sheets (State.raise_sheets_of_latch_nil _ rfl)).spoil k n (State.imagesSpoiled_spoils _ ?_ ?_)
  · rw [ht]; exact hk
  · rw [ht]; exact hn

end

/-! ### The rows of the interlock -/

/-- The levels of the inputs are taken, with the times and the count that belong to them. -/
def State.ilkTaken (s : State) (a b : Bool) : State :=
  { s with video := { s.video with
    ilkA := a, ilkB := b, openSeen := s.video.openSeen || (a || b) || (s.video.ilkA || s.video.ilkB)
    ilkSince := if a ≠ s.video.ilkA ∨ b ≠ s.video.ilkB then s.tempo else s.video.ilkSince
    openAt := if (a || b) || (s.video.ilkA || s.video.ilkB) then some s.tempo else s.video.openAt
    ilkCount := if (a || b) && !(s.video.ilkA || s.video.ilkB) then satAdd 32 s.video.ilkCount 1 else s.video.ilkCount
    ilkNew := if (a || b) && !(s.video.ilkA || s.video.ilkB) then s.video.ilkNew.add s.tempo else s.video.ilkNew
    ilkLast := if (a || b) && !(s.video.ilkA || s.video.ilkB) then s.tempo else s.video.ilkLast } }

/-- A change of a level is signalled (R68). -/
def State.ilkSignalled (s : State) (a b : Bool) : State :=
  if a ≠ s.video.ilkA ∨ b ≠ s.video.ilkB then (s.ilkTaken a b).signal 49 else s.ilkTaken a b

theorem execIlkOpen_eq {s : State} {a b : Bool} (hat : At s inProtect) : exec (.ilkOpen a b) s
    = .next (if (a || b) && (!(s.video.ilkA || s.video.ilkB) || !s.video.blanked) then (s.ilkSignalled a b).blankAll (b2n a + 2 * b2n b)
      else s.ilkSignalled a b) := by
  show execIlkOpen a b s = _
  unfold execIlkOpen
  rw [hat]
  unfold State.ilkSignalled
  simp only [decide_eq_true_eq]
  rfl

theorem State.ilkSignalled_eq (a b : Bool) : ∃ pba out,
    s.ilkSignalled a b = { s.ilkTaken a b with host := { s.host with pba := pba }, out := out } := by
  unfold State.ilkSignalled
  split
  · exact State.signal_eq _ _
  · exact ⟨_, _, rfl⟩

/-- Nothing blanks the links: the state in which they are lit again, or not while the guard has tripped. -/
def State.released (s : State) : State :=
  { s with video := { s.video with
    blanked := false, relAt := s.tempo
    stations := s.video.stations.filterMap (fun e =>
      let t := { e.2 with missed := 0 }
      if t = {} then none else some (e.1, t)) } }

theorem execIlkRelease_releases {s : State} (hat : At s inTimeouts) (hb : s.video.blanked = true) (hA : s.video.ilkA = false)
    (hB : s.video.ilkB = false) (hd : s.video.ilkSince + 500000 ≤ s.tempo) :
    exec .ilkRelease s = .next (s.released.relight.raise { code := 0x0602, fields := [s.tempo] }) := by
  show execIlkRelease s = _
  unfold execIlkRelease
  rw [hat]
  exact congrArg _ (if_pos (by simp [hb, hA, hB, hd]))

/-- One link starts its PX again, if it is UP. -/
def State.relightLink (s : State) (l : Nat) : State :=
  if (s.link l).state = .up then (s.updLink l (fun x => { x with pxHold := true })).startPx l else s

theorem State.relight_eq : s.relight = if s.dark then s else (List.range 32).foldl State.relightLink s := rfl

theorem State.startPx_linksOnly (l : Nat) : LinksOnly s (s.startPx l) := by
  unfold State.startPx
  split
  · exact s.updLink_linksOnly _ _
  · exact .refl s

theorem State.relightLink_linksOnly (l : Nat) : LinksOnly s (s.relightLink l) := by
  unfold State.relightLink
  split
  · exact (s.updLink_linksOnly _ _).trans (State.startPx_linksOnly _ _)
  · exact .refl s

theorem State.relight_linksOnly : LinksOnly s s.relight := by
  rw [State.relight_eq]
  split
  · exact .refl s
  · exact LinksOnly.foldl s State.relightLink_linksOnly _

/-- An UP link after a release: its output is held until its EDGE_SYNC, which is due where the output is enabled. -/
def State.lit (s : State) (l : Nat) (x : Link) : Link :=
  if x.state = .up then { x with pxHold := true, pxWait := x.pxWait || s.par clsSTN (l / 4) (0x06c + l % 4) == 1 } else x

theorem State.relightLink_link (l j : Nat) : (s.relightLink l).link j = if j = l then s.lit j (s.link j) else s.link j := by
  unfold State.relightLink State.startPx State.lit
  by_cases hj : j = l
  · subst hj
    by_cases hu : (s.link j).state = .up <;> by_cases hp : s.par clsSTN (j / 4) (0x06c + j % 4) = 1 <;> simp [hu, hp]
  · rw [if_neg hj]
    split
    · split <;> simp [hj]
    · rfl

theorem State.lit_state (l : Nat) (x : Link) : (s.lit l x).state = x.state := by
  unfold State.lit
  split <;> rfl

theorem State.relight_link (h : s.dark = false) (j : Nat) : s.relight.link j = if j < 32 then s.lit j (s.link j) else s.link j := by
  rw [State.relight_eq, h, if_neg (by decide)]
  refine (State.foldl_link (R := LinksOnly s) (g := s.lit) _ (fun u l hu => hu.trans (u.relightLink_linksOnly l)) (fun u l k hu => ?_)
    List.nodup_range (.refl s) j).trans (by simp only [List.mem_range])
  obtain ⟨_, _, rfl⟩ := hu
  exact State.relightLink_link _ l k

theorem State.relight_state (j : Nat) : (s.relight.link j).state = (s.link j).state := by
  cases h : s.dark with
  | true => rw [State.relight_eq, if_pos h]
  | false =>
    rw [s.relight_link h]
    split
    · exact s.lit_state _ _
    · rfl

end Sys2Proof.Machine

namespace Sys2Proof.Proofs
open Sys2Proof Sys2Proof.Machine Sys2Proof.Claims

/-- An opening while both inputs were closed. -/
theorem ilkOpen_opens {s : State} {a b : Bool} (ho : s.objHere objDEV = true) (hat : At s inProtect) (hab : (a || b) = true)
    (hA : s.video.ilkA = false) (hB : s.video.ilkB = false) : ∃ t, exec (.ilkOpen a b) s = .next t
      ∧ t.video.blanked = true ∧ t.video.openSeen = true ∧ t.video.ilkA = a ∧ t.video.ilkB = b ∧ t.video.ilkSince = s.tempo
      ∧ t.video.ilkCount = satAdd 32 s.video.ilkCount 1 ∧ t.video.ilkLast = s.tempo
      ∧ (∀ l, l < 32 → (t.link l).pxOn = false ∧ (t.link l).pxWait = false ∧ (t.link l).slot0 = [] ∧ (t.link l).marker = none
        ∧ (t.link l).line = none ∧ (∀ r, (s.link l).train = some r → (t.link l).train = some { r with ilk := true })
        ∧ (∀ f k, (s.link l).frameAt = some f → k = ceilDiv (5 * (s.tempo - f)) 16 → k < 20 → s.serialised l = true →
          .frame l k (List.replicate (20 - k) (.ctl blkBLANK)) ∈ t.out))
      ∧ Raised t 0x0601 objDEV [b2n a + 2 * b2n b, s.tempo]
      ∧ (∀ k n, (s.ticket k).state = 3 ∨ (s.ticket k).state = 4 → n ∈ (s.ticket k).imaging → bit (t.ticket k).spoil n = true) := by
  have hch : a ≠ s.video.ilkA ∨ b ≠ s.video.ilkB := by
    rw [hA, hB]; revert hab; cases a <;> cases b <;> decide
  have hx : exec (.ilkOpen a b) s = .next ((s.ilkSignalled a b).blankAll (b2n a + 2 * b2n b)) := by
    rw [execIlkOpen_eq hat, if_pos (by simp [hab, hA, hB])]
  obtain ⟨pba, out, hu⟩ := s.ilkSignalled_eq a b
  rw [hu] at hx
  obtain ⟨ls, hv⟩ := State.blankAll_video { s.ilkTaken a b with host := { s.host with pba := pba }, out := out } (b2n a + 2 * b2n b)
  refine ⟨_, hx, by rw [hv], ?_, by rw [hv]; rfl, by rw [hv]; rfl, ?_, ?_, ?_, fun l hl => ?_, State.blankAll_raised _ _ ho,
    fun k n hk hn => State.blankAll_spoils _ _ hk hn⟩
  · rw [hv]; simp [State.ilkTaken, hab]
  · rw [hv]; exact if_pos hch
  · rw [hv]; simp [State.ilkTaken, hab, hA, hB]
  · rw [hv]; simp [State.ilkTaken, hab, hA, hB]
  · rw [State.blankAll_link _ _ hl, State.blankAll_out]
    refine ⟨rfl, rfl, rfl, rfl, rfl, fun r hr => ?_, fun f k hf hk h20 hs => State.linksBlanked_out _ hl hf hk h20 hs⟩
    show ((s.link l).train.map _) = _
    rw [hr]
    rfl

/-- Inputs that close leave the blanking. -/
theorem ilkOpen_closes {s : State} (hat : At s inProtect) (hb : s.video.blanked = true) : ∃ t, exec (.ilkOpen false false) s = .next t
    ∧ t.video.blanked = true ∧ t.video.ilkA = false ∧ t.video.ilkB = false ∧ t.video.ilkCount = s.video.ilkCount
    ∧ t.video.links = s.video.links ∧ ((s.video.ilkA = true ∨ s.video.ilkB = true) → t.video.ilkSince = s.tempo) := by
  have hx : exec (.ilkOpen false false) s = .next (s.ilkSignalled false false) := by
    rw [execIlkOpen_eq hat, if_neg (by simp)]
  obtain ⟨pba, out, hu⟩ := s.ilkSignalled_eq false false
  rw [hu] at hx
  refine ⟨_, hx, hb, rfl, rfl, rfl, rfl, fun h => if_pos ?_⟩
  exact h.imp (fun h => by simp [h]) (fun h => by simp [h])

/-- Both inputs have been low long enough. -/
theorem ilkRelease_releases {s : State} (ho : s.objHere objDEV = true) (hat : At s inTimeouts) (hb : s.video.blanked = true)
    (hA : s.video.ilkA = false) (hB : s.video.ilkB = false) (hd : s.video.ilkSince + 500000 ≤ s.tempo) :
    ∃ t, exec .ilkRelease s = .next t ∧ t.video.blanked = false ∧ t.video.relAt = s.tempo ∧ Raised t 0x0602 objDEV [s.tempo]
      ∧ (∀ l, (t.link l).state = (s.link l).state) ∧ (∀ l, l < 32 → (s.link l).state = .up → s.tripped = false →
        (t.link l).pxHold = true ∧ (s.par clsSTN (l / 4) (0x06c + l % 4) = 1 → (t.link l).pxWait = true))
      ∧ t.video.ilkCount = s.video.ilkCount := by
  obtain ⟨ls, out, hu⟩ := s.released.relight_linksOnly
  have hobj : s.released.relight.objHere objDEV = true := by rw [hu]; exact ho
  have hdark : s.released.dark = s.tripped := Bool.false_or _
  refine ⟨_, execIlkRelease_releases hat hb hA hB hd, ?_, ?_, ?_, fun l => ?_, fun l hl hup ht => ?_, ?_⟩
  · rw [State.raise_video, hu]; rfl
  · rw [State.raise_video, hu]; rfl
  · exact State.raised_raise (e := { code := 0x0602, fields := [s.tempo] }) hobj
  · rw [State.raise_link, State.relight_state]; rfl
  · rw [State.raise_link, State.relight_link _ (hdark.trans ht), if_pos hl]
    have hl' : s.released.link l = s.link l := rfl
    rw [hl', State.lit, if_pos hup]
    exact ⟨rfl, fun hp => Bool.or_eq_true_iff.2 (.inr (beq_iff_eq.2 hp))⟩
  · rw [State.raise_video, hu]; rfl

/-- Settles O41, row by row. -/
theorem theLaserInterlockBlanksAndReleases : Obligations.TheLaserInterlockBlanksAndReleases :=
  fun _ ho => ⟨fun _ _ => ilkOpen_opens ho, ilkOpen_closes, ilkRelease_releases ho⟩

end Sys2Proof.Proofs
end

section
namespace Sys2Proof.Machine
open Sys2Proof Sys2Proof.Claims
variable (s : State)

/-! ### What an access of a memory leaves of the channels and the units -/

/-- From `s` to `t` the units that are there are the same, and of each channel at most its descriptor's cause has changed. -/
structure CauseOnly (s t : State) : Prop where
  die : t.die = s.die
  removed : t.removed = s.removed
  dma : ∀ k, ∃ c, t.dma k = { s.dma k with cause := c }

theorem CauseOnly.of_dma {s t : State} (hd : t.die = s.die) (hr : t.removed = s.removed) (h : ∀ k, t.dma k = s.dma k) :
    CauseOnly s t := ⟨hd, hr, fun k => ⟨_, h k⟩⟩

theorem CauseOnly.refl : CauseOnly s s := .of_dma rfl rfl fun _ => rfl

theorem CauseOnly.trans {s t u : State} (h : CauseOnly s t) (k : CauseOnly t u) : CauseOnly s u := by
  refine ⟨k.die.trans h.die, k.removed.trans h.removed, fun j => ?_⟩
  obtain ⟨c, hc⟩ := h.dma j
  obtain ⟨c', hc'⟩ := k.dma j
  exact ⟨c', by rw [hc', hc]⟩

theorem CauseOnly.foldl {α : Type} {f : State → α → State} (hf : ∀ u x, CauseOnly u (f u x)) (xs : List α) : CauseOnly s (xs.foldl f s) :=
  foldl_pred (P := CauseOnly s) (fun u x h => h.trans (hf u x)) (.refl s)

theorem CauseOnly.ite {s t u : State} {c : Prop} [Decidable c] (h : CauseOnly s t) (k : CauseOnly s u) :
    CauseOnly s (if c then t else u) := by
  split
  · exact h
  · exact k

theorem State.updCause_causeOnly (ch : Nat) (g : Dma → Nat) : CauseOnly s (s.updDma ch (fun x => { x with cause := g x })) := by
  refine ⟨rfl, rfl, fun k => ?_⟩
  rw [State.updDma_get]
  split
  · next h => subst h; exact ⟨_, rfl⟩
  · exact ⟨_, rfl⟩

theorem State.updMem_causeOnly (i : Nat) (f : Mem → Mem) : CauseOnly s (s.updMem i f) := .of_dma rfl rfl fun _ => rfl

theorem State.writeWord_causeOnly (i w d : Nat) : CauseOnly s (s.writeWord i w d) := .of_dma rfl rfl fun _ => rfl

theorem State.settle_causeOnly (seqs : List Nat) : CauseOnly s (s.settle seqs) := .of_dma rfl rfl fun _ => rfl

theorem State.wordAt_causeOnly (i w : Nat) : CauseOnly s (s.wordAt i w).2 := by
  refine .of_dma ?_ ?_ fun k => s.wordAt_dma i w k
  all_goals
    unfold State.wordAt
    dsimp only
    (repeat' split) <;> rfl

theorem State.checkedWord_causeOnly (i w : Nat) : CauseOnly s (s.checkedWord i w).2 := by
  have hw := s.wordAt_causeOnly i w
  have hf : CauseOnly s (s.wordAt i w).2.fresh.2.fresh.2 := hw.trans (.of_dma rfl rfl fun _ => rfl)
  unfold State.checkedWord
  dsimp only
  split
  case h_4 =>
    split
    · exact hf
    · split
      · exact hf
      · exact hf
  all_goals exact hw

theorem State.report_causeOnly (i w reader : Nat) (r : Read) (what : Nat) (latch : List Nat) :
    CauseOnly s (s.report i w reader r what latch) := by
  refine .of_dma ?_ ?_ fun k => s.report_dma i w reader r what latch k
  all_goals
    unfold State.report State.reportCe State.reportUe
    dsimp only
    (repeat' split) <;> simp

theorem State.drainEntry_causeOnly (i : Nat) (e : Merge) : CauseOnly s (s.drainEntry i e) := by
  unfold State.drainEntry
  extract_lets s1
  have h1 : CauseOnly s s1 := s.updMem_causeOnly _ _
  refine .ite ((h1.trans (State.writeWord_causeOnly _ _ _ _)).trans (State.settle_causeOnly _ _)) (h1.trans ?_)
  have h2 := s1.checkedWord_causeOnly i e.word
  generalize s1.checkedWord i e.word = p at h2 ⊢
  obtain ⟨r, s2⟩ := p
  have h3 : CauseOnly s1 (s2.report i e.word 6 r) := h2.trans (s2.report_causeOnly _ _ _ _ _ _)
  dsimp only
  refine h3.trans (.ite (CauseOnly.trans ?_ (State.settle_causeOnly _ _))
    ((State.writeWord_causeOnly _ _ _ _).trans (State.settle_causeOnly _ _)))
  exact CauseOnly.trans (t := State.putWord _ i e.word _) (.of_dma (by rfl) (by rfl) fun _ => by rfl)
    (.foldl _ (fun u ch => u.updCause_causeOnly ch _) _)

theorem State.drainWord_causeOnly (i w : Nat) : CauseOnly s (s.drainWord i w) := by
  unfold State.drainWord
  split
  · exact s.drainEntry_causeOnly _ _
  · exact .refl s

theorem State.writeMasked_causeOnly (i w d mask seq : Nat) : CauseOnly s (s.writeMasked i w d mask seq) := by
  unfold State.writeMasked
  refine .ite ((s.updMem_causeOnly _ _).trans (State.writeWord_causeOnly _ _ _ _)) ?_
  split
  · exact (s.updMem_causeOnly _ _).trans (.ite (State.drainEntry_causeOnly _ _ _) (.refl _))
  · extract_lets s1
    have h1 : CauseOnly s s1 := by
      unfold s1
      split
      · exact .ite (s.drainEntry_causeOnly _ _) (.refl s)
      · exact .refl s
    exact h1.trans (State.updMem_causeOnly _ _ _)

theorem State.memWrite_causeOnly (i a : Nat) (d : Bytes) (seq : Nat) : CauseOnly s (s.memWrite i a d seq) :=
  .foldl s (fun u _ => u.writeMasked_causeOnly _ _ _ _ _) _

theorem State.readWord_causeOnly (i w reader what : Nat) (latch : List Nat) : CauseOnly s (s.readWord i w reader what latch).2 :=
  ((s.drainWord_causeOnly i w).trans (State.checkedWord_causeOnly _ i w)).trans (State.report_causeOnly _ _ _ _ _ _ _)

theorem State.readWords_causeOnly (i reader what : Nat) (latch ws : List Nat) :
    CauseOnly s (s.readWords i reader what latch ws).2.2 := by
  induction ws generalizing s with
  | nil => exact .refl s
  | cons w ws ih => exact (s.readWord_causeOnly i w reader what latch).trans (ih _)

theorem State.memRead_causeOnly (i a n reader what : Nat) (latch : List Nat) : CauseOnly s (s.memRead i a n reader what latch).2.2 := by
  unfold State.memRead State.memScan
  dsimp only
  split
  · exact .refl s
  · exact s.readWords_causeOnly _ _ _ _ _

/-! ### A descriptor is read -/

section
variable {s} {s1 : State} {ch : Nat} {d : HostData}

theorem exec_dmaDescriptorStart_unasked (h : (s.dma ch).slot = false) : exec (.dmaDescriptorStart ch d) s = .next s :=
  congrArg _ (if_pos (by simp [h]))

theorem exec_dmaLookAgain_unasked (h : (s.dma ch).slot = false) : exec (.dmaLookAgain ch d) s = .next s :=
  congrArg _ (if_pos (by simp [h]))

theorem exec_dmaDescriptorComplete_unasked (h : (s.dma ch).slot = false) (hat : At s inCapture) :
    exec (.dmaDescriptorComplete ch) s = .next s := by
  show execDmaDescriptorComplete ch s = _
  unfold execDmaDescriptorComplete
  rw [hat]
  exact congrArg _ (if_pos (by simp [h]))

/-- The read of a descriptor has been granted. -/
structure State.Reads (s : State) (ch : Nat) (step : DmaStep) : Prop where
  state : (s.dma ch).state = .running
  step : (s.dma ch).step = step
  slot : (s.dma ch).slot = true

theorem State.Reads.not_refused {step : DmaStep} (h : s.Reads ch step) :
    ¬ ((s.dma ch).state ≠ .running ∨ (s.dma ch).step ≠ step ∨ (!(s.dma ch).slot) = true) := by
  simp [h.state, h.step, h.slot]

theorem exec_dmaDescriptorStart_none (h : s.Reads ch .readDesc) (hr : s.readDesc ch d = (none, s1)) :
    exec (.dmaDescriptorStart ch d) s = .next s := by
  refine congrArg _ ((if_neg h.not_refused).trans ?_)
  rw [hr]

theorem exec_dmaDescriptorStart_error {k : Nat} (h : s.Reads ch .readDesc) (hr : s.readDesc ch d = (some (.error k), s1)) :
    exec (.dmaDescriptorStart ch d) s = .next (s1.dmaFault ch k) := by
  refine congrArg _ ((if_neg h.not_refused).trans ?_)
  rw [hr]

theorem exec_dmaDescriptorStart_ok {b : Bytes} (h : s.Reads ch .readDesc) (hr : s.readDesc ch d = (some (.ok b), s1)) :
    exec (.dmaDescriptorStart ch d) s = .next (s1.beginDesc ch (descOf b)) := by
  refine congrArg _ ((if_neg h.not_refused).trans ?_)
  rw [hr]

theorem exec_dmaLookAgain_ok {b : Bytes} (h : s.Reads ch .lookAgain) (hr : s.readDesc ch d = (some (.ok b), s1)) :
    exec (.dmaLookAgain ch d) s = .next (if (descOf b).isEnd || !(descOf b).linkValid then s1.dmaIdle ch
      else (s1.updDma ch (fun y => { y with cur := (descOf b).link })).descStep ch .readDesc) := by
  refine congrArg _ ((if_neg h.not_refused).trans ?_)
  rw [hr]

/-- Over a link that is up a host-owned channel reads what the host answers. -/
theorem State.readDesc_host (ho : s.hostOwned ch = true) (hl : s.host.linkUp = true) (b : Bytes) :
    s.readDesc ch (.bytes b) = (some (.ok b), s) := by simp [State.readDesc, ho, hl]

theorem State.readDesc_host_none (ho : s.hostOwned ch = true) (hl : s.host.linkUp = true) : s.readDesc ch .none = (none, s) := by
  simp [State.readDesc, ho, hl]

theorem State.readDesc_host_fails (ho : s.hostOwned ch = true) (h : d = .busError ∨ s.host.linkUp = false) :
    ∃ k, s.readDesc ch d = (some (.error k), s) := by
  cases hl : s.host.linkUp with
  | false => exact ⟨2, by simp [State.readDesc, ho, hl]⟩
  | true =>
    obtain rfl | h := h
    · exact ⟨1, by simp [State.readDesc, ho, hl]⟩
    · exact absurd (hl.symm.trans h) (by decide)

/-- Another channel reads descriptor SRAM. -/
theorem State.readDesc_sram (ho : s.hostOwned ch = false) (hr : s.memRange 10 (s.dma ch).cur 32 = true) : s.readDesc ch d
    = (some (if (s.memRead 10 (s.dma ch).cur 32 5 (obj clsDMA ch) [obj clsDMA ch]).2.1 = true then .error 3
        else .ok (s.memRead 10 (s.dma ch).cur 32 5 (obj clsDMA ch) [obj clsDMA ch]).1),
      (s.memRead 10 (s.dma ch).cur 32 5 (obj clsDMA ch) [obj clsDMA ch]).2.2) := by
  simp [State.readDesc, ho, hr]

theorem State.readDesc_outside (ho : s.hostOwned ch = false) (hr : s.memRange 10 (s.dma ch).cur 32 = false) :
    s.readDesc ch d = (some (.error 3), s) := by simp [State.readDesc, ho, hr]

/-- Every failure of a descriptor's read is an error in a state in which the same units are there. -/
theorem State.readDesc_fails (h : (s.hostOwned ch = true ∧ (d = .busError ∨ s.host.linkUp = false))
    ∨ (s.hostOwned ch = false ∧ (s.memRange 10 (s.dma ch).cur 32 = false
      ∨ (s.memRead 10 (s.dma ch).cur 32 5 (obj clsDMA ch) [obj clsDMA ch]).2.1 = true))) :
    ∃ k u, s.readDesc ch d = (some (.error k), u) ∧ CauseOnly s u := by
  obtain ⟨ho, h⟩ | ⟨ho, h⟩ := h
  · obtain ⟨k, hk⟩ := State.readDesc_host_fails ho h
    exact ⟨k, s, hk, .refl s⟩
  · cases hr : s.memRange 10 (s.dma ch).cur 32 with
    | false => exact ⟨3, s, State.readDesc_outside ho hr, .refl s⟩
    | true =>
      obtain h | h := h
      · exact absurd (hr.symm.trans h) (by decide)
      · refine ⟨3, _, ?_, s.memRead_causeOnly 10 (s.dma ch).cur 32 5 (obj clsDMA ch) [obj clsDMA ch]⟩
        rw [State.readDesc_sram ho hr, if_pos h]

/-- A channel that cannot follow its chain is FAULTED, with 0x0402 latched. -/
theorem State.dmaFault_faults {k : Nat} (ho : s.objHere (obj clsDMA ch) = true) :
    ((s.dmaFault ch k).dma ch).state = .faulted ∧ (s.dmaFault ch k).latched 0x0402 (obj clsDMA ch) = true := by
  refine ⟨by simp [State.dmaFault], ?_⟩
  unfold State.dmaFault
  refine State.latched_raise (e := { code := 0x0402, obj := obj clsDMA ch, fields := _, latch := [obj clsDMA ch] }) ?_ ?_
    (List.mem_singleton.2 rfl)
  · exact ho
  · exact ho

end

/-! ### A descriptor begins -/

section
variable {s} {ch : Nat} {e : Desc}

/-- A descriptor has been taken and not begun. -/
def State.began (s : State) (ch : Nat) (e : Desc) : State :=
  s.updDma ch (fun y => { y with desc := e, moved := 0, cause := 0, step := .transfer })

theorem State.beginDesc_of_cause (h : s.descCause ch e ≠ 0) : s.beginDesc ch e = (s.began ch e).descFail ch (s.descCause ch e) :=
  if_pos h

/-- A descriptor that is not one of CL0's output goes on with its transfer. -/
theorem State.beginDesc_of_valid (h : s.descCause ch e = 0) (hk : e.kind ≠ 4) : s.beginDesc ch e = (s.began ch e).nextReq ch := by
  unfold State.beginDesc
  dsimp only
  rw [if_neg (not_not.2 h)]
  split
  · exact if_neg (fun hc => hk hc.1)
  · rfl

/-- A valid descriptor of a host-owned channel is of a kind that the host may ask for, and has a length. -/
theorem State.kind_of_valid (ho : s.hostOwned ch = true) (h : s.descCause ch e = 0) : e.kind ≠ 4 ∧ e.length ≠ 0 := by
  unfold State.descCause at h
  rw [ho] at h
  dsimp only at h
  split at h
  · exact absurd h (by decide)
  · split at h
    · exact absurd h (by decide)
    · next hk =>
      split at h
      · exact absurd h (by decide)
      · next hl => exact ⟨fun h4 => hk (by simp [h4]), hl⟩

theorem State.addReq_of_load {q : Req} (h : q.toStore = false) :
    s.addReq q = { s with store := { s.store with reqs := s.store.reqs ++ [q] } } := if_neg (by simp [h])

/-- The channel's descriptor is marked with a cause, and none of its requests is left. -/
def State.stopped (s : State) (ch c : Nat) : State :=
  let s1 := s.updDma ch (fun d => { d with cause := if d.cause = 0 then c else d.cause })
  { s1 with store := { s1.store with reqs := s1.store.reqs.filter (fun q => q.who != ch) } }

theorem State.descFail_eq (c : Nat) : s.descFail ch c = (s.stopped ch c).descStep ch .finish := rfl

theorem State.stopped_dma (c : Nat) : (s.stopped ch c).dma ch = { s.dma ch with
    cause := if (s.dma ch).cause = 0 then c else (s.dma ch).cause } := by
  show (s.updDma ch (fun d => { d with cause := if d.cause = 0 then c else d.cause })).dma ch = _
  rw [State.updDma_get, if_pos rfl]

/-- A descriptor that fails is to get its STATUS. -/
theorem State.descFail_dma (c : Nat) : (s.descFail ch c).dma ch = { s.dma ch with
    cause := if (s.dma ch).cause = 0 then c else (s.dma ch).cause, step := .finish, slot := false } := by
  rw [State.descFail_eq, State.descStep_dma, if_pos rfl, State.stopped_dma]

theorem State.descStep_finish_reqs (ho : s.hostOwned ch = true) : (s.descStep ch .finish).store.reqs
    = s.store.reqs ++ [{ s.reqOf ch .hostSlots true ((s.dma ch).cur + 4) [] 4 with ctl := true }] := by
  have hr : s.descRes ch = .hostSlots := if_pos ho
  unfold State.descStep
  dsimp only
  rw [hr]
  rfl

/-- It asks for the write of STATUS and for nothing else. -/
theorem State.descFail_reqs (c : Nat) (ho : s.hostOwned ch = true) {q : Req} (hq : q ∈ (s.descFail ch c).store.reqs) (hc : q.who = ch) :
    q = { s.reqOf ch .hostSlots true ((s.dma ch).cur + 4) [] 4 with ctl := true } := by
  rw [State.descFail_eq, State.descStep_finish_reqs (s := s.stopped ch c) ho, State.stopped_dma] at hq
  obtain hq | hq := List.mem_append.1 hq
  · exact absurd hc (by simpa using (List.mem_filter.1 hq).2)
  · exact List.mem_singleton.1 hq

theorem State.descStep_store (x : DmaStep) : ∃ st, s.descStep ch x = { s with store := st } := by
  unfold State.descStep
  dsimp only
  obtain ⟨st, h⟩ := State.addReq_store (s.updDma ch (fun d => { d with step := x, slot := false })) _
  exact ⟨st, h⟩

theorem State.descFail_mems (c : Nat) : (s.descFail ch c).mems = s.mems := by
  obtain ⟨st, h⟩ := State.descStep_store (s := s.stopped ch c) (ch := ch) .finish
  rw [State.descFail_eq, h]
  rfl

/-- The first bytes of a descriptor from host memory are asked for at the host link (R179). -/
theorem State.nextReq_fromHost (hk : (s.dma ch).desc.kind = 0) (hl : (s.dma ch).desc.length ≠ 0) (hm : (s.dma ch).moved = 0) :
    s.nextReq ch = { s with store := { s.store with reqs := s.store.reqs ++ [s.reqOf ch .hostSlots false (s.dma ch).desc.src []
      (min (min 512 (s.dma ch).desc.length) (4096 - (s.dma ch).desc.src % 4096))] } } := by
  unfold State.nextReq
  dsimp only
  rw [hk, hm, if_neg (by decide), if_neg (by simpa using hl)]
  exact State.addReq_of_load rfl

theorem State.began_dma (e : Desc) : (s.began ch e).dma ch
    = { s.dma ch with desc := e, moved := 0, cause := 0, step := .transfer } := (State.updDma_get _ _ _ _).trans (if_pos rfl)

end

/-! ### A descriptor ends -/

/-- A channel's counts and seen bits after a descriptor that ended in a tempo. -/
def Dma.counted (d : Dma) (cause : Nat) (now : Tempo) : Dma :=
  if cause = 0 then { d with doneSeen := true, doneCount := satAdd 32 d.doneCount 1, doneNew := d.doneNew.add now }
  else { d with badSeen := true, badCount := satAdd 32 d.badCount 1, badNew := d.badNew.add now, badAddr := d.cur }

section
variable {s} {ch : Nat}

theorem State.countDesc_dma (c : Nat) : (s.countDesc ch c).dma ch = (s.dma ch).counted c s.tempo := by
  unfold State.countDesc Dma.counted
  split <;> simp

theorem State.countDesc_out (c : Nat) : (s.countDesc ch c).out = s.out := by
  unfold State.countDesc
  split <;> simp

theorem State.writeDescStatus_causeOnly (s : State) (ch v : Nat) : CauseOnly s (s.writeDescStatus ch v) :=
  .ite (s.memWrite_causeOnly _ _ _ _) (.ite (.of_dma rfl rfl fun _ => rfl) (.refl s))

theorem State.writeDescStatus_host (ho : s.hostOwned ch = true) (hl : s.host.linkUp = true) (v : Nat) :
    s.writeDescStatus ch v = s.emit (.hostWrite ((s.dma ch).cur + 4) (toLE 4 v)) := by
  simp [State.writeDescStatus, ho, hl]

theorem State.signal_out_subset (s : State) (v : Nat) : s.out ⊆ (s.signal v).out := by
  unfold State.signal
  split
  · exact List.subset_append_left _ _
  · exact List.Subset.refl _

/-- A descriptor has ended: STATUS is written, it is counted, and its vector is signalled. -/
def State.descEnded (s : State) (ch : Nat) : State :=
  let u := (s.writeDescStatus ch (if s.endCause ch = 0 then 1 else 2 + 256 * s.endCause ch)).countDesc ch (s.endCause ch)
  if (s.dma ch).desc.irq && (s.dma ch).irqEn then u.signal (17 + ch) else u

theorem State.descEnded_dma (s : State) (ch : Nat) :
    ∃ c now, (s.descEnded ch).dma ch = Dma.counted { s.dma ch with cause := c } (s.endCause ch) now := by
  obtain ⟨c, hc⟩ := (s.writeDescStatus_causeOnly ch (if s.endCause ch = 0 then 1 else 2 + 256 * s.endCause ch)).dma ch
  refine ⟨c, (s.writeDescStatus ch (if s.endCause ch = 0 then 1 else 2 + 256 * s.endCause ch)).tempo, ?_⟩
  unfold State.descEnded
  dsimp only
  split
  · rw [State.signal_dma, State.countDesc_dma, hc]
  · rw [State.countDesc_dma, hc]

/-- The STATUS of a host-owned channel's descriptor leaves for host memory. -/
theorem State.descEnded_out (ho : s.hostOwned ch = true) (hl : s.host.linkUp = true) :
    .hostWrite ((s.dma ch).cur + 4) (toLE 4 (if s.endCause ch = 0 then 1 else 2 + 256 * s.endCause ch)) ∈ (s.descEnded ch).out := by
  unfold State.descEnded
  dsimp only
  rw [State.writeDescStatus_host ho hl]
  generalize hu : State.countDesc _ ch _ = u
  have hout : .hostWrite ((s.dma ch).cur + 4) (toLE 4 (if s.endCause ch = 0 then 1 else 2 + 256 * s.endCause ch)) ∈ u.out := by
    rw [← hu, State.countDesc_out]
    exact List.mem_append_right _ (List.mem_singleton.2 rfl)
  split
  · exact u.signal_out_subset _ hout
  · exact hout

/-- The way on from a descriptor that has ended (R167, R169). -/
def State.wayOn (s : State) (ch : Nat) (d : Desc) : State :=
  if d.isEnd then s.descStep ch .lookAgain
  else if d.linkValid then (s.updDma ch (fun y => { y with cur := d.link })).descStep ch .readDesc
  else s.dmaIdle ch

theorem exec_dmaDescriptorComplete_ends (h : s.Reads ch .finish) (hat : At s inCapture) :
    exec (.dmaDescriptorComplete ch) s = .next ((s.descEnded ch).wayOn ch (s.dma ch).desc) := by
  show execDmaDescriptorComplete ch s = _
  unfold execDmaDescriptorComplete
  rw [hat]
  exact congrArg _ (if_neg h.not_refused)

@[simp] theorem State.dmaIdle_dma (s : State) (ch k : Nat) : (s.dmaIdle ch).dma k
    = if k = ch then { s.dma ch with state := .idle, step := .rest, last := (s.dma ch).cur } else s.dma k := by
  simp [State.dmaIdle]

/-- A channel after the descriptor that it has ended. -/
def Dma.wayOn (x : Dma) (d : Desc) : Dma :=
  if d.isEnd then { x with step := .lookAgain, slot := false }
  else if d.linkValid then { x with cur := d.link, step := .readDesc, slot := false }
  else { x with state := .idle, step := .rest, last := x.cur }

theorem State.wayOn_dma (s : State) (ch : Nat) (d : Desc) : (s.wayOn ch d).dma ch = (s.dma ch).wayOn d := by
  unfold State.wayOn Dma.wayOn
  split
  · simp
  · split <;> simp

theorem State.wayOn_out (s : State) (ch : Nat) (d : Desc) : s.out ⊆ (s.wayOn ch d).out := by
  unfold State.wayOn
  split
  · obtain ⟨st, h⟩ := State.descStep_store (s := s) (ch := ch) .lookAgain
    rw [h]
    exact List.Subset.refl _
  · split
    · obtain ⟨st, h⟩ := State.descStep_store (s := s.updDma ch (fun y => { y with cur := d.link })) (ch := ch) .readDesc
      rw [h]
      exact List.Subset.refl _
    · unfold State.dmaIdle State.idleVector
      split
      · exact State.signal_out_subset
          (s.updDma ch (fun y => { y with state := .idle, step := .rest, last := y.cur })) _
      · exact List.Subset.refl _

/-- Going on leaves the counts. -/
theorem Dma.wayOn_counts (x : Dma) (d : Desc) : (x.wayOn d).doneSeen = x.doneSeen ∧ (x.wayOn d).doneCount = x.doneCount
    ∧ (x.wayOn d).badSeen = x.badSeen ∧ (x.wayOn d).badCount = x.badCount ∧ (x.wayOn d).badAddr = x.badAddr := by
  unfold Dma.wayOn
  split
  · exact ⟨rfl, rfl, rfl, rfl, rfl⟩
  · split <;> exact ⟨rfl, rfl, rfl, rfl, rfl⟩

/-- Counting leaves where the channel stands. -/
theorem Dma.counted_place (x : Dma) (c : Nat) (now : Tempo) : (x.counted c now).state = x.state ∧ (x.counted c now).cur = x.cur := by
  unfold Dma.counted
  split <;> exact ⟨rfl, rfl⟩

end

end Sys2Proof.Machine

namespace Sys2Proof.Proofs
open Sys2Proof Sys2Proof.Machine Sys2Proof.Claims
variable {s : State} {ch : Nat}

/-- A descriptor that the host has answered with. -/
theorem hostDescriptor_begins {b : Bytes} {e : Desc} (h : s.Reads ch .readDesc) (ho : s.hostOwned ch = true) (hl : s.host.linkUp = true)
    (he : e = descOf b) :
    (s.descCause ch e ≠ 0 → ∃ t, exec (.dmaDescriptorStart ch (.bytes b)) s = .next t
      ∧ (t.dma ch).step = .finish ∧ (t.dma ch).slot = false ∧ (t.dma ch).cause = s.descCause ch e ∧ (t.dma ch).desc = e
      ∧ (∀ q, q ∈ t.store.reqs → q.who = ch → q = { s.reqOf ch .hostSlots true ((s.dma ch).cur + 4) [] 4 with ctl := true })
      ∧ t.mems = s.mems)
    ∧ (s.descCause ch e = 0 → e.kind = 0 → ∃ t, exec (.dmaDescriptorStart ch (.bytes b)) s = .next t
      ∧ (t.dma ch).step = .transfer ∧ (t.dma ch).desc = e ∧ (t.dma ch).moved = 0
      ∧ t.store.reqs = s.store.reqs ++ [s.reqOf ch .hostSlots false e.src [] (min (min 512 e.length) (4096 - e.src % 4096))])
    ∧ (s.descCause ch e = 0 → exec (.dmaDescriptorStart ch (.bytes b)) s = .next ((s.updDma ch (fun y => { y with
        desc := e, moved := 0, cause := 0, step := .transfer })).nextReq ch))
    ∧ exec (.dmaDescriptorStart ch .none) s = .next s := by
  subst he
  have hx := exec_dmaDescriptorStart_ok h (State.readDesc_host ho hl b)
  have hd := s.began_dma (ch := ch) (descOf b)
  have hvalid (hc : s.descCause ch (descOf b) = 0) :
      exec (.dmaDescriptorStart ch (.bytes b)) s = .next ((s.began ch (descOf b)).nextReq ch) := by
    rw [hx, State.beginDesc_of_valid hc (State.kind_of_valid ho hc).1]
  refine ⟨fun hc => ?_, fun hc hk => ?_, hvalid, exec_dmaDescriptorStart_none h (State.readDesc_host_none ho hl)⟩
  · rw [State.beginDesc_of_cause hc] at hx
    refine ⟨_, hx, ?_, ?_, ?_, ?_, fun q hq hw => ?_, ?_⟩
    · rw [State.descFail_dma]
    · rw [State.descFail_dma]
    · rw [State.descFail_dma, hd]; rfl
    · rw [State.descFail_dma, hd]
    · have := State.descFail_reqs (s := s.began ch (descOf b)) _ ho hq hw
      rw [hd] at this
      exact this
    · rw [State.descFail_mems]; rfl
  · have hn := State.nextReq_fromHost (s := s.began ch (descOf b)) (ch := ch) (by rw [hd]; exact hk)
      (by rw [hd]; exact (State.kind_of_valid ho hc).2) (by rw [hd])
    refine ⟨_, hvalid hc, ?_, ?_, ?_, ?_⟩ <;> rw [hn]
    · exact congrArg Dma.step hd
    · exact congrArg Dma.desc hd
    · exact congrArg Dma.moved hd
    · rw [hd]; rfl

/-- A descriptor that has ended. -/
theorem descriptor_ends {c : Nat} (h : s.Reads ch .finish) (hat : At s inCapture)
    (hc : c = (if (s.dma ch).cause = 0 ∧ s.hostOwned ch = true ∧ s.host.linkUp = false then 6 else (s.dma ch).cause)) :
    ∃ t, exec (.dmaDescriptorComplete ch) s = .next t
      ∧ (s.hostOwned ch = true → s.host.linkUp = true →
        .hostWrite ((s.dma ch).cur + 4) (toLE 4 (if c = 0 then 1 else 2 + 256 * c)) ∈ t.out)
      ∧ (c = 0 → (t.dma ch).doneSeen = true ∧ (t.dma ch).doneCount = satAdd 32 (s.dma ch).doneCount 1
        ∧ (t.dma ch).badCount = (s.dma ch).badCount)
      ∧ (c ≠ 0 → (t.dma ch).badSeen = true ∧ (t.dma ch).badCount = satAdd 32 (s.dma ch).badCount 1
        ∧ (t.dma ch).badAddr = (s.dma ch).cur ∧ (t.dma ch).doneCount = (s.dma ch).doneCount)
      ∧ ((s.dma ch).desc.isEnd = true → (t.dma ch).state = .running ∧ (t.dma ch).step = .lookAgain)
      ∧ ((s.dma ch).desc.isEnd = false → (s.dma ch).desc.linkValid = true →
        (t.dma ch).state = .running ∧ (t.dma ch).step = .readDesc ∧ (t.dma ch).cur = (s.dma ch).desc.link)
      ∧ ((s.dma ch).desc.isEnd = false → (s.dma ch).desc.linkValid = false →
        (t.dma ch).state = .idle ∧ (t.dma ch).last = (s.dma ch).cur) := by
  have he : s.endCause ch = c := by rw [hc, State.endCause]; simp
  obtain ⟨cause, now, hd⟩ := s.descEnded_dma ch
  rw [he] at hd
  obtain ⟨hds, hdc, hbs, hbc, hba⟩ := Dma.wayOn_counts ((s.descEnded ch).dma ch) (s.dma ch).desc
  obtain ⟨hstate, hcur⟩ := Dma.counted_place { s.dma ch with cause := cause } c now
  rw [← hd] at hstate hcur
  refine ⟨_, exec_dmaDescriptorComplete_ends h hat, fun ho hl => ?_, ?_⟩
  · rw [← he]; exact State.wayOn_out _ _ _ (State.descEnded_out ho hl)
  · rw [State.wayOn_dma, hds, hdc, hbs, hbc, hba]
    refine ⟨fun h0 => ?_, fun h0 => ?_, fun hend => ?_, fun hend hlink => ?_, fun hend hlink => ?_⟩
    · rw [hd, Dma.counted, if_pos h0]; exact ⟨rfl, rfl, rfl⟩
    · rw [hd, Dma.counted, if_neg h0]; exact ⟨rfl, rfl, rfl, rfl⟩
    · rw [Dma.wayOn, if_pos hend]; exact ⟨hstate.trans h.state, rfl⟩
    · rw [Dma.wayOn, if_neg (by simp [hend]), if_pos hlink]; exact ⟨hstate.trans h.state, rfl, rfl⟩
    · rw [Dma.wayOn, if_neg (by simp [hend]), if_neg (by simp [hlink])]; exact ⟨rfl, hcur⟩

/-- A tail that has been read once more. -/
theorem tail_looksAgain {b : Bytes} (h : s.Reads ch .lookAgain) (ho : s.hostOwned ch = true) (hl : s.host.linkUp = true) :
    ∃ t, exec (.dmaLookAgain ch (.bytes b)) s = .next t
      ∧ ((descOf b).isEnd = false → (descOf b).linkValid = true →
        t.dma ch = { s.dma ch with step := .readDesc, slot := false, cur := (descOf b).link })
      ∧ (((descOf b).isEnd || !(descOf b).linkValid) = true → (t.dma ch).state = .idle ∧ (t.dma ch).last = (s.dma ch).cur) := by
  refine ⟨_, exec_dmaLookAgain_ok h (State.readDesc_host ho hl b), fun hend hlink => ?_, fun ht => ?_⟩
  · rw [if_neg (by simp [hend, hlink])]; simp
  · rw [if_pos ht]; simp

/-- Settles O28, by the step of the channel. -/
theorem descriptorsStartEndAndChain : Obligations.DescriptorsStartEndAndChain := by
  refine ⟨fun s ch h d => ⟨exec_dmaDescriptorStart_unasked h, exec_dmaLookAgain_unasked h, exec_dmaDescriptorComplete_unasked h⟩,
    fun s ch hrun hstep hslot => ⟨fun b e ho hl he => hostDescriptor_begins ⟨hrun, hstep, hslot⟩ ho hl he,
      fun d b s1 ho hr hm => ?sram, fun d hobj hf => ?fails⟩,
    fun s ch c hrun hslot => ⟨fun hstep hat hc => descriptor_ends ⟨hrun, hstep, hslot⟩ hat hc,
      fun b hstep ho hl => tail_looksAgain ⟨hrun, hstep, hslot⟩ ho hl⟩⟩
  case sram =>
    refine exec_dmaDescriptorStart_ok ⟨hrun, hstep, hslot⟩ ?_
    rw [State.readDesc_sram ho hr, hm]
    rfl
  case fails =>
    obtain ⟨k, u, hk, hu⟩ := State.readDesc_fails hf
    exact ⟨_, exec_dmaDescriptorStart_error ⟨hrun, hstep, hslot⟩ hk,
      State.dmaFault_faults ((State.objHere_congr hu.die hu.removed _).trans hobj)⟩

end Sys2Proof.Proofs
end

section
namespace Sys2Proof.Machine
open Sys2Proof Sys2Proof.Claims

/-! ### A firmware reset meets a PLL that is listed twice -/

/-- A state outside the one form of a map: BLPLL0, PLL 3, is listed twice, first with nothing but the mark of a substituted
reference, then LOCKED. The first entry is what the state reads. -/
def doublyListed : State :=
  { State.reset with
    host := { State.reset.host with linkUp := true }
    clk := { State.reset.clk with plls := [(3, { subst := true }), (3, { state := .locked })] } }

/-- The reset clears the mark, the first entry is then a PLL at its reset value and is unlisted, and the second one comes to light. -/
theorem doublyListed_reset : ∃ t, exec (.firmwareReset 2) doublyListed = .next t ∧ (t.pll 3).state = .locked :=
  ⟨_, rfl, by decide⟩

end Sys2Proof.Machine

namespace Sys2Proof.Proofs
open Sys2Proof Sys2Proof.Machine Sys2Proof.Claims

/-- Refutes O31: a firmware reset does not keep a PLL that is listed twice, and nothing in the statement excludes such a state. -/
theorem not_goIsActedOnOnlyWhileAwaitingOrRejected : ¬ Obligations.GoIsActedOnOnlyWhileAwaitingOrRejected := by
  intro h
  obtain ⟨-, -, -, hreset, -⟩ := h doublyListed 2 (by decide)
  obtain ⟨t, ht, -, -, -, -, -, -, -, -, hpll, -⟩ := hreset (by decide) (by decide) (by decide)
  obtain ⟨u, hu, hlocked⟩ := doublyListed_reset
  obtain rfl : t = u := by injection ht.symm.trans hu
  have hoff : (doublyListed.pll 3).state = .off := rfl
  rw [hpll 3] at hlocked
  exact absurd (hlocked.symm.trans hoff) (by decide)

end Sys2Proof.Proofs
end

section
namespace Sys2Proof.Machine
open Sys2Proof Sys2Proof.Claims
variable {s : State} {op o : Nat} {m : Msg}

/-! ### Refusals of commands -/

/-- A refusal is reported in place of the effect. -/
theorem State.command_refused (h : s.takes op m = true) {refs : List Ref} {x : Ref} (hx : firstRef refs = some x)
    (effect : Reply → State → State) : s.command op m refs effect = s.post (s.replyOf op m) x.code x.index x.data := by
  simp [State.command, h, hx]

theorem refuse_eq_nil {b : Bool} (h : b = false) (code index : Nat) : refuse b code index = [] := by rw [h, refuse_false]

theorem refuseEach_eq_nil {α : Type} {xs : List α} {f : Nat → α → List Nat} (h : ∀ j x, xs[j]? = some x → f j x = []) :
    refuseEach xs f = [] := by
  refine List.flatMap_eq_nil_iff.2 fun e he => ?_
  rw [h e.2 e.1 (List.mk_mem_zipIdx_iff_getElem?.1 he), List.map_nil]

/-- The first refused record in list order, with its position. -/
theorem refuseEach_head? {α : Type} {xs : List α} {f : Nat → α → List Nat} {j c : Nat} {a : α} {cs : List Nat} (hj : xs[j]? = some a)
    (hf : f j a = c :: cs) (hb : ∀ i b, i < j → xs[i]? = some b → f i b = []) :
    (refuseEach xs f).head? = some { code := c, index := j } := by
  unfold refuseEach
  rw [List.head?_flatMap, List.findSome?_eq_some_iff]
  have hlt : j < xs.zipIdx.length := by rw [List.length_zipIdx]; exact (List.getElem?_eq_some_iff.1 hj).1
  have hx : xs.zipIdx[j] = (a, j) := List.getElem_eq_iff hlt |>.2 (by simp [hj])
  refine ⟨xs.zipIdx.take j, (a, j), xs.zipIdx.drop (j + 1), ?_, by simp [hf], fun e he => ?_⟩
  · rw [← hx, List.getElem_cons_drop, List.take_append_drop]
  · obtain ⟨i, hi, he⟩ := List.mem_take_iff_getElem.1 he
    have hi' : xs[i]? = some e.1 ∧ e.2 = i := by simp [← he]
    rw [hi'.2, hb i e.1 (by omega) hi'.1]
    rfl

/-- An object argument that the command takes passes R79 and R81. -/
theorem State.objRefs_nil {cs : List Nat} (h : Names o cs s) : s.objRefs o cs = [] := by
  obtain ⟨hp, hc, hi, hs⟩ := h
  have ha : s.addrStatus o = [] := by
    unfold State.addrStatus
    rw [if_neg (by omega), if_pos hs]
  simp [State.objRefs, ha, hp, hc]

/-! ### PRESS_COMMIT and PRESS_CLEAR -/

/-- PRESS_COMMIT in Configure checks that no description is accepted, and then the description. -/
theorem execPressCommit_eq (h : Takes 0x0100 m 0 noArg s) (hm : s.md.mode = .configure) : exec (.pressCommit m) s
    = .next (s.command 0x0100 m (refuse s.md.pressOk stWRONG_STATE
        ++ (s.pressFault.map (fun a => ({ code := stDESC_INVALID, data := toLE 4 a } : Ref))).toList)
      (fun r u => { u with md := { u.md with pressOk := true } }.ok r)) := by
  obtain ⟨-, hat, hl, hr, -⟩ := h
  show execPressCommit m s = _
  unfold execPressCommit
  dsimp only
  rw [hat, Msg.plen_nil hl, Msg.argRes_nil hr, State.inModes_nil (by simp [hm])]
  rfl

theorem execPressClear_runs (h : Takes 0x0101 m 0 noArg s) (hm : s.md.mode = .configure) :
    exec (.pressClear m) s = .next ({ s with md := { s.md with pressOk := false } }.ok (s.replyOf 0x0101 m)) := by
  obtain ⟨-, hat, hl, hr, -⟩ := id h
  show execPressClear m s = _
  unfold execPressClear
  rw [hat]
  refine congrArg _ (State.command_of_takes h ?_ _)
  rw [Msg.plen_nil hl, Msg.argRes_nil hr, State.inModes_nil (by simp [hm])]
  rfl

end Sys2Proof.Machine

namespace Sys2Proof.Proofs
open Sys2Proof Sys2Proof.Machine Sys2Proof.Claims

/-- Settles O8. An accepted description is refused before its contents are (R75). -/
theorem pressCommitAcceptsAConsistentDescription : Obligations.PressCommitAcceptsAConsistentDescription := by
  intro m s hm
  refine ⟨fun h hp hf => ?accepts, fun a h hp hf => ?inconsistent, fun h hp => ?again, fun h => execPressClear_runs h hm⟩
  all_goals rw [execPressCommit_eq h hm, hp]
  case accepts => exact congrArg _ (State.command_of_takes h (by rw [hf]; rfl) _)
  case inconsistent =>
    rw [hf]
    exact congrArg _ (State.command_refused h.1 (x := { code := stDESC_INVALID, data := toLE 4 a }) rfl _)
  case again =>
    refine congrArg _ (State.command_refused h.1 (x := { code := stWRONG_STATE }) ?_ _)
    cases s.pressFault with
    | none => rfl
    | some a => rfl

end Sys2Proof.Proofs
end

section
namespace Sys2Proof.Machine
open Sys2Proof Sys2Proof.Claims
variable {s : State} {o : Nat} {m : Msg}

/-! ### Group commands -/

/-- A group that is not enabled, and in no enabled group, may change its members. -/
theorem State.groupRefs_nil (h : Names o [clsGRP] s)
    (he : ((o :: s.parents 128 o).any (fun g => (s.group (aIdx g)).enabled)) = false) : s.groupRefs o = [] := by
  unfold State.groupRefs
  rw [State.objRefs_nil h, he]
  rfl

theorem execGroupGet_runs (hn : Names (m.argN 8 4) [clsGRP] s) (h : Takes 0x0121 m 0 0xffffffff00000000 s) :
    exec (.groupGet m) s = .next (s.ok (s.replyOf 0x0121 m)
      (toLE 1 (b2n (s.group (aIdx (m.argN 8 4))).enabled) ++ toLE 1 (b2n (s.group (aIdx (m.argN 8 4))).degraded)
        ++ (s.group (aIdx (m.argN 8 4))).members.flatMap (toLE 4))) := by
  obtain ⟨-, hat, hl, hr, -⟩ := id h
  show execGroupGet m s = _
  unfold execGroupGet
  rw [hat]
  refine congrArg _ (State.command_of_takes h ?_ _)
  rw [Msg.plen_nil hl, Msg.argRes_nil hr, State.objRefs_nil hn]
  rfl

theorem execGroupClear_runs (hn : Names (m.argN 8 4) [clsGRP] s)
    (hm : s.md.mode ∈ [Mode.configure, .standby, .warmUp, .ready, .safeHold])
    (he : ((m.argN 8 4 :: s.parents 128 (m.argN 8 4)).any (fun g => (s.group (aIdx g)).enabled)) = false)
    (h : Takes 0x0122 m 0 0xffffffff00000000 s) :
    exec (.groupClear m) s = .next ((s.setGroup (aIdx (m.argN 8 4)) {}).ok (s.replyOf 0x0122 m)) := by
  obtain ⟨-, hat, hl, hr, -⟩ := id h
  show execGroupClear m s = _
  unfold execGroupClear
  rw [hat]
  refine congrArg _ (State.command_of_takes h ?_ _)
  rw [Msg.plen_nil hl, Msg.argRes_nil hr, State.inModes_nil hm, State.groupRefs_nil hn he]
  rfl

theorem execGroupSet_runs {n : Nat} (hn : Names (m.argN 8 4) [clsGRP] s)
    (hm : s.md.mode ∈ [Mode.configure, .standby, .warmUp, .ready, .safeHold])
    (he : ((m.argN 8 4 :: s.parents 128 (m.argN 8 4)).any (fun g => (s.group (aIdx g)).enabled)) = false)
    (h1 : 1 ≤ n) (h128 : n ≤ 128) (h : Takes 0x0120 m (4 * n) 0xffffffff00000000 s)
    (hr : ∀ j x, ((records 4 m.payload).map ofLE)[j]? = some x →
      s.memberStatus (m.argN 8 4) ((records 4 m.payload).map ofLE) j x = []) :
    exec (.groupSet m) s = .next ((s.setGroup (aIdx (m.argN 8 4)) { members := (records 4 m.payload).map ofLE }).ok
      (s.replyOf 0x0120 m)) := by
  obtain ⟨-, hat, hl, ha, -⟩ := id h
  show execGroupSet m s = _
  unfold execGroupSet
  rw [hat]
  refine congrArg _ (State.command_of_takes h ?_ _)
  have hlen : (m.payload.length == 0 || m.payload.length % 4 != 0 || decide (512 < m.payload.length)) = false := by
    simp [hl]; omega
  rw [refuse_eq_nil hlen, Msg.argRes_nil ha, State.inModes_nil hm, State.groupRefs_nil hn he, refuseEach_eq_nil hr]
  rfl

end Sys2Proof.Machine

namespace Sys2Proof.Proofs
open Sys2Proof Sys2Proof.Machine Sys2Proof.Claims

/-- Settles O10, command by command. -/
theorem groupCommandsReplaceReadAndClearAMembership : Obligations.GroupCommandsReplaceReadAndClearAMembership :=
  fun _ _ hn => ⟨execGroupGet_runs hn, fun hm he => ⟨execGroupClear_runs hn hm he,
    fun _ h1 h128 h hr => execGroupSet_runs hn hm he h1 h128 h hr⟩⟩

end Sys2Proof.Proofs
end

section
namespace Sys2Proof.Machine
open Sys2Proof Sys2Proof.Claims
variable {s : State} {m : Msg}

/-! ### PARAM_READ -/

/-- PARAM_READ reads the addresses that pass, and reports the first that does not. -/
theorem execParamRead_eq {n : Nat} {as : List Nat} (h : Takes 0x0200 m (4 * n) 0xffffffffffff0000 s) (hn : m.argN 8 2 = n) (h1 : 1 ≤ n)
    (h117 : n ≤ 117) (has : (records 4 m.payload).map ofLE = as) : exec (.paramRead m) s = .next (
      let u := (as.filter (fun a => (s.paramStatus a).isEmpty)).foldl (fun v a => v.readEffect a) s
      let data := as.flatMap (fun a => toLE 8 (if (s.paramStatus a).isEmpty then s.readParam a else 0))
      match (refuseEach as (fun _ a => s.paramStatus a)).head? with
      | some x => u.post (s.replyOf 0x0200 m) x.code x.index data
      | none => u.ok (s.replyOf 0x0200 m) data) := by
  obtain ⟨-, hat, hl, hr, hc⟩ := id h
  show execParamRead m s = _
  unfold execParamRead
  rw [hat]
  subst has
  refine congrArg _ (State.command_of_takes h ?_ _)
  have hok : ¬ (n < 1 ∨ 117 < n) := by omega
  rw [hn, Msg.plen_nil hl, Msg.argRes_nil hr, decide_eq_false hok, hc]
  rfl

/-! ### PARAM_DESCRIBE and FAMILY_LIST -/

theorem execParamDescribe_runs {a : Nat} {f : Family} (ha : m.argN 8 4 = a) (h : Takes 0x0202 m 0 0xffffffff00000000 s)
    (hs : s.paramStatus a = []) (hf : findFamily (aCls a) (aPid a) = some f) :
    exec (.paramDescribe m) s = .next (s.ok (s.replyOf 0x0202 m)
      (toLE 1 f.ty.code ++ toLE 1 f.win.code ++ toLE 1 (b2n f.lock) ++ toLE 1 f.unit
        ++ toLE 8 (i64 (s.rangeOf f (aIdx a) (aPid a)).1) ++ toLE 8 (i64 (s.rangeOf f (aIdx a) (aPid a)).2)
        ++ toLE 8 (s.defaultOf f (aPid a)))) := by
  obtain ⟨-, hat, hl, hr, -⟩ := id h
  show execParamDescribe m s = _
  unfold execParamDescribe
  rw [hat]
  subst ha
  refine congrArg _ ((State.command_of_takes h ?_ _).trans ?_)
  · rw [Msg.plen_nil hl, Msg.argRes_nil hr, hs]
    rfl
  · rw [hf]

theorem execFamilyList_runs (h : Takes 0x0203 m 0 0xffffffff0000ff00 s) (hc : 0 < classInstances (m.argN 8 1)) :
    exec (.familyList m) s = .next (s.ok (s.replyOf 0x0203 m)
      ((((families.filter (fun f => f.cls == m.argN 8 1)).drop (m.argN 10 2)).take 117).flatMap (fun f =>
        toLE 2 f.base ++ toLE 2 f.n ++ toLE 1 f.ty.code ++ toLE 1 f.win.code ++ toLE 1 (b2n f.lock) ++ [0]))) := by
  obtain ⟨-, hat, hl, hr, -⟩ := id h
  show execFamilyList m s = _
  unfold execFamilyList
  rw [hat]
  refine congrArg _ (State.command_of_takes h ?_ _)
  rw [Msg.plen_nil hl, Msg.argRes_nil hr, refuse_eq_nil (beq_eq_false_iff_ne.2 hc.ne')]
  rfl

end Sys2Proof.Machine

namespace Sys2Proof.Proofs
open Sys2Proof Sys2Proof.Machine Sys2Proof.Claims

/-- Settles O15: `execParamRead_eq`, with the first refusal that `refuseEach_head?` names. -/
theorem paramReadReturnsEveryValue : Obligations.ParamReadReturnsEveryValue := by
  intro m s n as hn h1 h117 h has
  rw [execParamRead_eq h hn h1 h117 has]
  refine ⟨fun hall => ?_, fun j a c cs hj hs hb => ?_⟩
  · have hpass : ∀ a ∈ as, (s.paramStatus a).isEmpty = true := fun a ha => by rw [hall a ha]; rfl
    have hdata : as.flatMap (fun a => toLE 8 (if (s.paramStatus a).isEmpty then s.readParam a else 0))
        = as.flatMap (fun a => toLE 8 (s.readParam a)) := List.flatMap_congr fun a ha => by rw [if_pos (hpass a ha)]
    have hnone : refuseEach as (fun _ a => s.paramStatus a) = [] :=
      refuseEach_eq_nil fun j a hj => hall a (List.mem_of_getElem? hj)
    rw [hnone, List.filter_eq_self.2 hpass, hdata]
    rfl
  · rw [refuseEach_head? hj hs hb]

/-- Settles O17, command by command. -/
theorem parametersDescribeThemselves : Obligations.ParametersDescribeThemselves :=
  fun _ _ => ⟨fun _ _ ha h hs hf => execParamDescribe_runs ha h hs hf, execFamilyList_runs⟩

end Sys2Proof.Proofs
end

section
namespace Sys2Proof.Machine
open Sys2Proof Sys2Proof.Claims
variable {s : State} {m : Msg}

/-! ### Parameters and rings, which the rule of a written parameter leaves alone -/

/-- What a host sees of a PARAM_WRITE: the stored parameters and the rings. -/
def State.settings (s : State) : Map Nat × Map Ring := (s.params, s.host.rings)

theorem State.settings_param {t : State} (h : t.settings = s.settings) (b : Nat) : t.param b = s.param b :=
  congrArg (fun x : Map Nat × Map Ring => Map.get paramReset x.1 b) h

theorem State.settings_ring {t : State} (h : t.settings = s.settings) (k : Nat) : t.ring k = s.ring k :=
  congrArg (fun x : Map Nat × Map Ring => Map.get (fun k => ({ vec := 1 + k } : Ring)) x.2 k) h

@[simp] theorem State.raise_settings (e : Ev) : (s.raise e).settings = s.settings := by simp [State.settings]

@[simp] theorem State.pllSubst_settings (p : Nat) : (s.pllSubst p).settings = s.settings := by
  unfold State.pllSubst
  dsimp only
  split
  · rw [State.raise_settings]; rfl
  · rfl

@[simp] theorem State.pllSearch_settings (p : Nat) : (s.pllSearch p).settings = s.settings := rfl

@[simp] theorem State.pllAcquire_settings (p : Nat) : (s.pllAcquire p).settings = s.settings := by
  have hb : (s.edgesBegin p).settings = s.settings := by
    unfold State.edgesBegin
    split
    · rfl
    · rfl
  unfold State.pllAcquire
  split
  · rfl
  · exact hb

@[simp] theorem State.storeSlot_settings (n k : Nat) : (s.storeSlot n k).settings = s.settings := s.pllSubst_settings (8 + n)

@[simp] theorem State.recallSlot_settings (n k : Nat) : (s.recallSlot n k).settings = s.settings := by
  unfold State.recallSlot
  dsimp only
  split
  · rw [State.pllAcquire_settings]
    exact State.pllSubst_settings _
  · rw [State.pllSearch_settings, State.raise_settings]

@[simp] theorem State.bandSlot_settings (n k : Nat) : (s.bandSlot n k).settings = s.settings := by
  unfold State.bandSlot
  split
  · rfl
  · split
    · rfl
    · exact s.recallSlot_settings n k

@[simp] theorem State.heatWindow_settings (k : Nat) : (s.heatWindow k).settings = s.settings := by
  unfold State.heatWindow
  dsimp only
  split
  · rw [State.raise_settings]; rfl
  · rfl

@[simp] theorem State.legWindow_settings (k j : Nat) : (s.legWindow k j).settings = s.settings := by
  unfold State.legWindow State.legKeep
  dsimp only
  split
  · rw [State.raise_settings]; rfl
  · rfl

@[simp] theorem State.gpioOut_settings (before : Option Bool) (i : Nat) : (s.gpioOut before i).settings = s.settings := by
  unfold State.gpioOut
  split
  · split
    · rfl
    · rfl
  · rfl

/-- What a parameter's rule adds to its value touches no parameter and no ring. -/
theorem State.applyParam_settings (a v : Nat) : (s.applyParam a v).settings = (s.setParam a v).settings := by
  unfold State.applyParam
  dsimp only
  split
  case isTrue => -- a station: line adjustment, slot store, slot recall
    split
    · rfl
    · split
      · split
        · exact State.storeSlot_settings _ _
        · rfl
      · split
        · exact State.bandSlot_settings _ _
        · rfl
  case isFalse =>
    split
    case isTrue => -- a tile: loop coefficients and endpoint registers
      split
      · split
        · exact State.heatWindow_settings _
        · split
          · exact foldl_keeps State.settings (fun u j => u.legWindow_settings _ j) _ _
          · rfl
      · split
        · rfl
        · rfl
    case isFalse =>
      split
      case isTrue => -- a master encoder
        split
        · rfl
        · split
          · rfl
          · rfl
      case isFalse =>
        split
        · exact State.gpioOut_settings _ _
        · split
          · rfl
          · rfl

/-- The state after a pair has been applied: the value with its rule, noted for the rings that write the parameter too (R66). -/
def State.pairApplied (s : State) (a v : Nat) : State := (s.applyParam a v).noteApplied a

theorem State.pairApplied_settings (a v : Nat) : (s.pairApplied a v).settings = (s.setParam a v).settings := s.applyParam_settings a v

theorem State.pairApplied_param (a v b : Nat) : (s.pairApplied a v).param b = if b = a then v else s.param b :=
  (State.settings_param (s.pairApplied_settings a v) b).trans (Map.get_put _ _ _ _ _)

theorem State.pairApplied_ring (a v k : Nat) : (s.pairApplied a v).ring k = s.ring k :=
  State.settings_ring (s.pairApplied_settings a v) k

@[simp] theorem State.updRing_param (k : Nat) (f : Ring → Ring) (b : Nat) : (s.updRing k f).param b = s.param b := rfl
@[simp] theorem State.ok_param (r : Reply) (data : Bytes) (b : Nat) : (s.ok r data).param b = s.param b := rfl

/-- An answer takes no pair from a ring. -/
theorem State.post_pairs (r : Reply) (code index : Nat) (data : Bytes) (k : Nat) :
    ((s.post r code index data).ring k).pairs = (s.ring k).pairs := by
  unfold State.post
  rw [State.setRing_get]
  split
  · next h => rw [h]
  · rfl

/-! ### PARAM_WRITE -/

/-- PARAM_WRITE of pairs that all pass leaves them to be applied, and holds back its ring. -/
theorem execParamWrite_runs {n : Nat} (hn : m.argN 8 2 = n) (h1 : 1 ≤ n) (h63 : n ≤ 63)
    (h : Takes 0x0201 m (16 * n) 0xffffffffffff0000 s) (hp : (s.ring m.ring).pairs = none)
    (hb : ∀ b, b ∈ records 16 m.payload → leAt b 4 4 = 0 ∧ s.writeRef (leAt b 0 4) (leAt b 8 8) = none) :
    exec (.paramWrite m) s = .next ((s.hold 0x0201 m).updRing m.ring (fun g => { g with
      pairs := some { reply := s.replyOf 0x0201 m, pairs := (records 16 m.payload).map pairOf } })) := by
  obtain ⟨-, hat, hl, hr, -⟩ := id h
  show execParamWrite m s = _
  unfold execParamWrite
  rw [hat]
  dsimp only
  rw [if_neg (by simp [hp])]
  refine congrArg _ (State.command_of_takes h ?_ _)
  have hok : ¬ (n < 1 ∨ 63 < n) := by omega
  have hres : refuseEach (records 16 m.payload) (fun _ b => if leAt b 4 4 != 0 then [stBAD_ARG] else []) = [] :=
    refuseEach_eq_nil fun j b hj => by rw [(hb b (List.mem_of_getElem? hj)).1]; rfl
  have hval : refuseEach ((records 16 m.payload).map pairOf) (fun _ p => (s.writeRef p.1 p.2).toList) = [] :=
    refuseEach_eq_nil fun j p hj => by
      obtain ⟨b, hm, rfl⟩ := List.mem_map.1 (List.mem_of_getElem? hj)
      exact congrArg Option.toList (hb b hm).2
  rw [hn, Msg.plen_nil hl, Msg.argRes_nil hr, decide_eq_false hok, hres, hval]
  rfl

/-! ### PARAM_WRITE_PAIR_APPLY -/

section
variable {r : Idx} {j : PairJob} {a v : Nat} {rest : List (Nat × Nat)}

/-- What becomes of the next pair of a ring, once it is due and no other ring's write goes before it. -/
theorem execParamWritePairApply_eq (hat : At s inDirect) (hb : s.md.boot = .running) (hj : (s.ring r).pairs = some j)
    (hp : j.pairs = (a, v) :: rest) (hd : j.due s.tempo = true) (hf : s.defers r a = false) :
    exec (.paramWritePairApply r) s = .next (
      if s.writeLocked a then (s.updRing r (fun g => { g with pairs := none })).post j.reply stSHEET_LOCKED j.next
      else match (if j.clockAt.isNone then s.gatedClock a else none) with
        | some p => (s.startPll p).updRing r (fun g => { g with pairs := some { j with clockAt := some (s.tempo + s.startLatency p) } })
        | none =>
          if rest.isEmpty then ((s.pairApplied a v).updRing r (fun g => { g with pairs := none })).ok j.reply
          else (s.pairApplied a v).updRing r (fun g => { g with
            pairs := some { j with pairs := rest, next := j.next + 1, lastAt := some s.tempo, clockAt := none } })) := by
  show execParamWritePairApply r s = _
  unfold execParamWritePairApply
  rw [hat]
  dsimp only
  rw [hj]
  dsimp only
  rw [if_neg (by simp [hb, hd]), hp]
  dsimp only
  rw [if_neg (by simp [hf])]
  rfl

/-- A pair that is not due, or that another ring's write goes before, waits. -/
theorem execParamWritePairApply_waits (hat : At s inDirect) (hj : (s.ring r).pairs = some j) (hp : j.pairs = (a, v) :: rest)
    (h : j.due s.tempo = false ∨ s.defers r a = true) : exec (.paramWritePairApply r) s = .next s := by
  show execParamWritePairApply r s = _
  unfold execParamWritePairApply
  rw [hat]
  dsimp only
  rw [hj]
  dsimp only
  split
  · rfl
  · next hn =>
    have hd : j.due s.tempo = true := by simp at hn; exact hn.2
    rw [hp]
    dsimp only
    rw [if_pos (h.resolve_left (by simp [hd]))]

end

end Sys2Proof.Machine

namespace Sys2Proof.Proofs
open Sys2Proof Sys2Proof.Machine Sys2Proof.Claims

/-- The pair that is applied: its parameter alone takes its value, and the pair leaves the list. -/
theorem pairApply_applies {r : Idx} {s : State} {j : PairJob} {a v : Nat} {rest : List (Nat × Nat)} (hat : At s inDirect)
    (hb : s.md.boot = .running) (hj : (s.ring r).pairs = some j) (hp : j.pairs = (a, v) :: rest) (hd : j.due s.tempo = true)
    (hf : s.defers r a = false) (hl : s.writeLocked a = false) (hc : j.clockAt = none → s.gatedClock a = none) :
    ∃ t, exec (.paramWritePairApply r) s = .next t ∧ t.param a = v ∧ (∀ b, b ≠ a → t.param b = s.param b)
      ∧ (rest = [] → (t.ring r).pairs = none)
      ∧ (rest ≠ [] → (t.ring r).pairs =
          some { j with pairs := rest, next := j.next + 1, lastAt := some s.tempo, clockAt := none }) := by
  have hk : (if j.clockAt.isNone then s.gatedClock a else none) = none := by
    split
    · next h => exact hc (Option.isNone_iff_eq_none.1 h)
    · rfl
  have hself : (s.pairApplied a v).param a = v := by rw [State.pairApplied_param, if_pos rfl]
  have helse : ∀ b, b ≠ a → (s.pairApplied a v).param b = s.param b := fun b hne => by rw [State.pairApplied_param, if_neg hne]
  have hx := execParamWritePairApply_eq hat hb hj hp hd hf
  rw [hl, hk] at hx
  cases rest with
  | nil => exact ⟨_, hx, by simpa using hself, by simpa using helse, fun _ => by simp [State.ok_eq, State.post_pairs],
      fun h => absurd rfl h⟩
  | cons p ps => exact ⟨_, hx, by simpa using hself, by simpa using helse, fun h => absurd h (List.cons_ne_nil _ _),
      fun _ => by simp⟩

/-- Settles O16: the cases of the next pair are those of `execParamWritePairApply_eq` and `execParamWritePairApply_waits`. -/
theorem paramWriteAppliesItsPairsOneByOne : Obligations.ParamWriteAppliesItsPairsOneByOne := by
  refine ⟨fun m s n hn h1 h63 h hp hb => execParamWrite_runs hn h1 h63 h hp hb,
    fun r s j a v rest hat hb hj hp => ⟨pairApply_applies hat hb hj hp, fun hd hf hl => ?locked, fun p hd hf hl hc hg => ?gated,
      execParamWritePairApply_waits hat hj hp⟩⟩
  case locked => rw [execParamWritePairApply_eq hat hb hj hp hd hf, if_pos hl]
  case gated => rw [execParamWritePairApply_eq hat hb hj hp hd hf, hl, hc, hg]; rfl

end Sys2Proof.Proofs
end

section
namespace Sys2Proof.Machine
open Sys2Proof Sys2Proof.Claims
variable {s : State} {m : Msg} {tid inst : Nat}

/-! ### Copies of tables -/

theorem State.setTable_get (s : State) (tid inst : Nat) (b : Bytes) : (s.setTable tid inst b).table tid inst = b := Map.get_put_self _ _ _ _

theorem State.setStaging_get (s : State) (tid : Nat) (v : Staging) : (s.setStaging tid v).staging tid = v := Map.get_put_self _ _ _ _

/-- The active and the staging copies of all tables. -/
def State.copies (s : State) : Map Bytes × Map Staging := (s.sheets.active, s.sheets.staging)

theorem State.copies_table {t : State} (h : t.copies = s.copies) (tid inst : Nat) : t.table tid inst = s.table tid inst :=
  congrArg (fun x : Map Bytes × Map Staging => Map.get (fun _ => []) x.1 (tid * 0x10000 + inst)) h

theorem State.copies_staging {t : State} (h : t.copies = s.copies) (tid : Nat) : t.staging tid = s.staging tid :=
  congrArg (fun x : Map Bytes × Map Staging => Map.get (fun _ => ({} : Staging)) x.2 tid) h

theorem State.raise_copies (s : State) (e : Ev) : (s.raise e).copies = s.copies := by
  obtain ⟨_, _, _, _, _, _, _, h⟩ := s.raise_eq e
  rw [h]
  rfl

theorem State.checkTable_copies (s : State) (tid k : Nat) : (s.checkTable tid k).copies = s.copies := by
  unfold State.checkTable
  split
  · exact s.raise_copies _
  · rfl

theorem State.tableMended_copies (s : State) (tid inst : Nat) : (s.tableMended tid inst).copies = s.copies := by
  unfold State.tableMended
  split
  · dsimp only
    split
    · rfl
    · rfl
  · rfl

/-- Of the copies, a commit moves the staging copy to the active one, and no more (R88). -/
theorem State.commitTable_copies (s : State) (tid inst : Nat) : (s.commitTable tid inst).copies
    = ((s.setTable tid inst (if (s.staging tid).data.all (fun b => b == 0) then [] else (s.staging tid).data)).setStaging tid {}).copies := by
  have noted : ∀ (u : State) (k b : Nat), (u.noteRewritten k b).copies = u.copies := fun _ _ _ => rfl
  unfold State.commitTable
  dsimp only
  split
  · rw [noted]
    split
    · rfl
    · exact State.checkTable_copies _ _ _
  · rw [noted]
    split
    · rfl
    · exact State.checkTable_copies _ _ _
  · rfl
  · rfl
  · exact State.tableMended_copies _ _ _

/-! ### Table commands -/

/-- A defined table of a unit in service passes the checks that table commands share. -/
theorem State.tableArgs_nil (ht : tableSize tid ≠ 0) (hi : inst < classInstances (tableClass tid))
    (ha : s.addrStatus (obj (tableClass tid) inst) = []) : s.tableArgs tid inst = [] := by
  unfold State.tableArgs
  rw [if_neg ht, if_neg (Nat.not_le.2 hi), ha]
  rfl

/-- What the staging copy of a table holds once a load may write into it. -/
def State.stagingBase (s : State) (tid inst : Nat) : Bytes :=
  if (s.staging tid).inst.isSome then (s.staging tid).data else bytesAt (s.table tid inst) 0 (tableSize tid)

theorem execTableLoad_runs {n : Nat} (hid : m.argN 8 1 = tid) (hinst : m.argN 10 2 = inst) (hargs : s.tableArgs tid inst = []) (h1 : 1 ≤ n)
    (h : Takes 0x0300 m (8 * n) 0xff00 s) (h8 : m.argN 12 4 % 8 = 0) (hfit : m.argN 12 4 + 8 * n ≤ tableSize tid)
    (hh : s.stagingHeld tid none none = false) (hs : (s.staging tid).inst = none ∨ (s.staging tid).inst = some inst) :
    exec (.tableLoad m) s = .next ((s.setStaging tid
      { inst := some inst, data := pokeBytes (s.stagingBase tid inst) (m.argN 12 4) m.payload }).ok (s.replyOf 0x0300 m)) := by
  obtain ⟨-, hat, hl, hr, -⟩ := id h
  show execTableLoad m s = _
  unfold execTableLoad
  rw [hat]
  subst hid hinst
  refine congrArg _ (State.command_of_takes h ?_ _)
  have hlen : (m.payload.length == 0 || m.payload.length % 8 != 0) = false := by simp [hl]; omega
  have hoff : (m.argN 12 4 % 8 != 0 || decide (tableSize (m.argN 8 1) < m.argN 12 4 + m.payload.length)) = false := by
    simp [hl, h8, hfit]
  have hfree : (s.stagingHeld (m.argN 8 1) none none
      || ((s.staging (m.argN 8 1)).inst.isSome && (s.staging (m.argN 8 1)).inst != some (m.argN 10 2))) = false := by
    rcases hs with hs | hs <;> simp [hh, hs]
  rw [refuse_eq_nil hlen, Msg.argRes_nil hr, refuse_eq_nil hoff, hargs, refuse_eq_nil hfree]
  rfl

theorem execTableCommit_runs (hid : m.argN 8 1 = tid) (hinst : m.argN 10 2 = inst) (hargs : s.tableArgs tid inst = [])
    (h : Takes 0x0301 m 0 0xff00 s) (hw : s.commitWindow tid inst = [])
    (hc : s.commitRef tid inst (m.argN 12 4) none none false = none) :
    exec (.tableCommit m) s = .next ((s.commitTable tid inst).ok (s.replyOf 0x0301 m)) := by
  obtain ⟨-, hat, hl, hr, -⟩ := id h
  show execTableCommit m s = _
  unfold execTableCommit
  rw [hat]
  subst hid hinst
  refine congrArg _ (State.command_of_takes h ?_ _)
  rw [Msg.plen_nil hl, Msg.argRes_nil hr, hargs, hw, hc]
  rfl

/-- TABLE_READ of the active copy (0), or of the staging copy (1), which must be that unit's. -/
theorem execTableRead_runs (hid : m.argN 8 1 = tid) (hinst : m.argN 10 2 = inst) (hargs : s.tableArgs tid inst = [])
    (h : Takes 0x0302 m 0 0 s) (hoff : m.argN 12 4 < tableSize tid)
    (hk : m.argN 9 1 = 0 ∨ m.argN 9 1 = 1 ∧ (s.staging tid).inst = some inst) :
    exec (.tableRead m) s = .next (s.ok (s.replyOf 0x0302 m)
      (bytesAt (if m.argN 9 1 = 1 then (s.staging tid).data else s.table tid inst) (m.argN 12 4) (min 936 (tableSize tid - m.argN 12 4)))) := by
  obtain ⟨-, hat, hl, -⟩ := id h
  show execTableRead m s = _
  unfold execTableRead
  rw [hat]
  subst hid hinst
  refine congrArg _ ((State.command_of_takes h ?_ _).trans ?_)
  · have harg : (decide (1 < m.argN 9 1) || decide (tableSize (m.argN 8 1) ≤ m.argN 12 4)) = false := by simp; omega
    have hheld : (m.argN 9 1 == 1 && (s.staging (m.argN 8 1)).inst != some (m.argN 10 2)) = false := by
      rcases hk with hk | ⟨-, hk⟩ <;> simp [hk]
    rw [Msg.plen_nil hl, refuse_eq_nil harg, hargs, refuse_eq_nil hheld]
    rfl
  · simp only [beq_iff_eq]

theorem execTableDiscard_runs (hid : m.argN 8 1 = tid) (ht : tableSize tid ≠ 0) (h : Takes 0x0303 m 0 0xffffffffffffff00 s)
    (hh : s.stagingHeld tid none none = false) :
    exec (.tableDiscard m) s = .next ((s.setStaging tid {}).ok (s.replyOf 0x0303 m)) := by
  obtain ⟨-, hat, hl, hr, -⟩ := id h
  show execTableDiscard m s = _
  unfold execTableDiscard
  rw [hat]
  subst hid
  refine congrArg _ (State.command_of_takes h ?_ _)
  rw [Msg.plen_nil hl, Msg.argRes_nil hr, refuse_eq_nil (beq_eq_false_iff_ne.2 ht), hh]
  rfl

end Sys2Proof.Machine

namespace Sys2Proof.Proofs
open Sys2Proof Sys2Proof.Machine Sys2Proof.Claims

/-- The commit, seen in the copies. -/
theorem tableCommit_moves {m : Msg} {s : State} {tid inst : Nat} (hid : m.argN 8 1 = tid) (hinst : m.argN 10 2 = inst)
    (hargs : s.tableArgs tid inst = []) (h : Takes 0x0301 m 0 0xff00 s) (hw : s.commitWindow tid inst = [])
    (hc : s.commitRef tid inst (m.argN 12 4) none none false = none) :
    ∃ t, exec (.tableCommit m) s = .next t ∧ (t.staging tid).inst = none
      ∧ t.table tid inst = (if (s.staging tid).data.all (fun b => b == 0) then [] else (s.staging tid).data) := by
  have hcopies := s.commitTable_copies tid inst
  refine ⟨_, execTableCommit_runs hid hinst hargs h hw hc, ?_, ?_⟩
  · exact congrArg Staging.inst ((State.copies_staging hcopies tid).trans (State.setStaging_get _ _ _))
  · exact (State.copies_table hcopies tid inst).trans (State.setTable_get _ _ _ _)

/-- Settles O18, command by command. -/
theorem tablesAreStagedAndCommitted : Obligations.TablesAreStagedAndCommitted := by
  intro m s tid inst hid ht
  refine ⟨fun hinst hi ha => ?_, execTableDiscard_runs hid ht⟩
  have hargs := State.tableArgs_nil ht hi ha
  refine ⟨fun n base h1 h hbase h8 hfit hh hs => ?load, tableCommit_moves hid hinst hargs,
    fun h hoff => ⟨fun hk => ?active, fun hk hs => ?staged⟩⟩
  case load =>
    rw [hbase]
    exact execTableLoad_runs hid hinst hargs h1 h h8 hfit hh hs
  case active => rw [execTableRead_runs hid hinst hargs h hoff (.inl hk), if_neg (by omega)]
  case staged => rw [execTableRead_runs hid hinst hargs h hoff (.inr ⟨hk, hs⟩), if_pos hk]

end Sys2Proof.Proofs
end

section
namespace Sys2Proof.Machine
open Sys2Proof Sys2Proof.Claims
variable {s : State} {m : Msg}

/-! ### Places in the free runs of a channel (R158) -/

theorem fits_foldl (n : Nat) (rs : List (Nat × Nat)) (a : Nat) :
    rs.foldl (fun t r => if r.2 < n then t else t + (r.2 - n + 1)) a = a + fits n rs := by
  induction rs generalizing a with
  | nil => rfl
  | cons r rs ih =>
    unfold fits
    rw [List.foldl_cons, List.foldl_cons, ih, ih]
    split
    · omega
    · omega

theorem fits_cons (n : Nat) (r : Nat × Nat) (rs : List (Nat × Nat)) :
    fits n (r :: rs) = (if r.2 < n then 0 else r.2 - n + 1) + fits n rs := by
  rw [← fits_foldl, ← Nat.zero_add (if r.2 < n then 0 else _)]
  unfold fits
  rw [List.foldl_cons]
  split
  · rfl
  · rfl

/-- Every place that is counted is found, in a run that holds the region. -/
theorem fitAt_of_lt {n : Nat} {rs : List (Nat × Nat)} {k : Nat} (h : k < fits n rs) :
    ∃ p, fitAt n k rs = some p ∧ ∃ r, r ∈ rs ∧ r.1 ≤ p ∧ p + n ≤ r.1 + r.2 := by
  induction rs generalizing k with
  | nil => exact absurd h (Nat.not_lt_zero k)
  | cons r rs ih =>
    obtain ⟨a, w⟩ := r
    rw [fits_cons] at h
    dsimp only at h
    unfold fitAt
    split
    · next hw =>
      rw [if_pos hw] at h
      obtain ⟨p, hp, r, hr, hin⟩ := ih (k := k) (by omega)
      exact ⟨p, hp, r, List.mem_cons_of_mem _ hr, hin⟩
    · next hw =>
      rw [if_neg hw] at h
      split
      · exact ⟨a + k, rfl, (a, w), List.mem_cons_self, by dsimp only; omega, by dsimp only; omega⟩
      · obtain ⟨p, hp, r, hr, hin⟩ := ih (k := k - (w - n + 1)) (by omega)
        exact ⟨p, hp, r, List.mem_cons_of_mem _ hr, hin⟩

/-! ### STORE_ALLOC and STORE_FREE -/

theorem State.dramRefs_nil (h : s.md.dramOk = true) : s.dramRefs = [] := by simp [State.dramRefs, h]

/-- STORE_ALLOC lists a region at one of the places that fit: the free value says which. -/
theorem execStoreAlloc_runs {n c p : Nat} (hd : s.md.dramOk = true) (hn : m.argN 8 4 = n) (hc : m.argN 12 1 = c) (h1 : 1 ≤ n)
    (hch : c = 0 ∨ c = 1 ∨ c = 255) (h : Takes 0x0500 m 0 0xffffff0000000000 s) (hm : s.md.mode ∈ modesStore)
    (hh : c < 2 → s.chHere c = true) (hf : fits n (s.runsOf c) ≠ 0)
    (hp : fitAt n (s.fresh.1 % fits n (s.runsOf c)) (s.runsOf c) = some p) :
    exec (.storeAlloc m) s = .next ({ s.fresh.2 with store := { s.store with
      regions := insertRegion (4096 * p, n) s.store.regions } }.ok (s.replyOf 0x0500 m) (toLE 8 (4096 * p))) := by
  obtain ⟨-, hat, hl, hr, -⟩ := id h
  show execStoreAlloc m s = _
  unfold execStoreAlloc
  rw [hat]
  subst hn hc
  refine congrArg _ ((State.command_of_takes h ?_ _).trans ?_)
  · have harg : (m.argN 8 4 == 0 || !(m.argN 12 1 == 0 || m.argN 12 1 == 1 || m.argN 12 1 == 255)) = false := by
      simp
      omega
    have hhere : (decide (m.argN 12 1 < 2) && !s.chHere (m.argN 12 1)) = false := by
      by_cases h2 : m.argN 12 1 < 2
      · simp [hh h2]
      · simp [h2]
    rw [Msg.plen_nil hl, Msg.argRes_nil hr, refuse_eq_nil harg, State.inModes_nil hm, State.dramRefs_nil hd, refuse_eq_nil hhere,
      refuse_eq_nil (beq_eq_false_iff_ne.2 hf)]
    rfl
  · dsimp only
    rw [hp]
    rfl

/-- A region in which no sealed sheet has an image is unlisted. -/
theorem execStoreFree_runs {r : Nat × Nat} (hd : s.md.dramOk = true) (h : Takes 0x0501 m 8 noArg s)
    (hm : s.md.mode ∈ modesStore ++ [.safeHold]) (hr : s.store.regions.find? (fun x => x.1 == m.pay 0 8) = some r)
    (hu : ∀ k i, k ∈ s.sealedTks → i ∈ (s.ticket k).images → ¬ (r.1 < i.addr + i.size ∧ i.addr < r.1 + 4096 * r.2)) :
    exec (.storeFree m) s = .next ({ s with store := { s.store with
      regions := s.store.regions.filter (fun x => x.1 != m.pay 0 8) } }.ok (s.replyOf 0x0501 m)) := by
  obtain ⟨-, hat, hl, ha, -⟩ := id h
  show execStoreFree m s = _
  unfold execStoreFree
  rw [hat]
  refine congrArg _ (State.command_of_takes h ?_ _)
  have hholds : (s.sealedTks.any (fun k => (s.ticket k).images.any
      (fun i => decide (r.1 < i.addr + i.size) && decide (i.addr < r.1 + 4096 * r.2)))) = false := by
    refine List.any_eq_false.2 fun k hk hany => ?_
    obtain ⟨i, hi, hx⟩ := List.any_eq_true.1 hany
    exact hu k i hk hi (by simpa using hx)
  rw [hr, Msg.plen_nil hl, Msg.argRes_nil ha, State.inModes_nil hm, State.dramRefs_nil hd]
  exact refuse_eq_nil hholds _ _

/-! ### Fences (R170 to R172) -/

/-- The end of a fence makes the pages that it covers FENCED: they leave the list of pages that are not. -/
theorem State.fenceEnd_pages (s : State) (f : Fence) :
    (s.fenceEnd f).store.pages = s.store.pages.filter (fun e => !fenceHits f.ch (s.dma f.ch).opens f.accepted e.2) := rfl

/-- A command that runs on holds back its ring (R76). -/
theorem State.hold_taken (s : State) (op : Nat) (m : Msg) :
    ((s.hold op m).ring m.ring).taken = some ⟨op, m, (s.replyOf op m).epoch, true⟩ := by simp [State.hold]

/-- STORE_FENCE ends at once, or waits with its ring held back. -/
theorem execStoreFence_eq {c n : Nat} {f : Fence} (hd : s.md.dramOk = true) (hc : m.argN 8 1 = c) (hn : m.argN 12 4 = n) (h1 : 1 ≤ n)
    (hch : c ≤ 31 ∧ (s.dma c).state ≠ .closed ∨ c = 255) (h : Takes 0x0502 m 0 0xffffff00 s) (hm : s.md.mode ∈ modesStore ++ [.safeHold])
    (hf : f = { reply := s.replyOf 0x0502 m, ch := c, accepted := s.tempo, deadline := s.tempo + 256 * n, cover := s.covered c }) :
    exec (.storeFence m) s = .next (if s.fenceDone f then s.fenceEnd f
      else { s.hold 0x0502 m with store := { s.store with fences := s.store.fences ++ [f] } }) := by
  obtain ⟨-, hat, hl, ha, -⟩ := id h
  show execStoreFence m s = _
  unfold execStoreFence
  rw [hat]
  subst hc hn hf
  refine congrArg _ (State.command_of_takes h ?_ _)
  have harg : (decide (m.argN 12 4 < 1) || decide (31 < m.argN 8 1 ∧ m.argN 8 1 ≠ 255)) = false := by simp; omega
  have hopen : (decide (m.argN 8 1 < 32) && (s.dma (m.argN 8 1)).state == .closed) = false := by
    rcases hch with ⟨-, hne⟩ | hall
    · simp [hne]
    · simp [hall]
  rw [Msg.plen_nil hl, Msg.argRes_nil ha, refuse_eq_nil harg, State.inModes_nil hm, State.dramRefs_nil hd, refuse_eq_nil hopen]
  rfl

theorem execStoreFenceComplete_ends {r : Idx} {f : Fence} (hf : s.fenceOf r = some f) (hd : s.fenceDone f = true) :
    exec (.storeFenceComplete r) s = .next ((s.dropFence f).fenceEnd f) := by
  show execStoreFenceComplete r s = _
  unfold execStoreFenceComplete
  rw [hf]
  dsimp only
  rw [if_pos hd]

/-- The pages of a fence's channels that a timeout leaves without a fence. -/
def State.unfenced (s : State) (f : Fence) : Nat :=
  (s.store.pages.filter (fun e => e.2.kind == 2 && f.ch == 255 || e.2.kind == 1 && (f.ch == 255 || e.2.ch == f.ch))).length

theorem execStoreFenceTimeout_ends {r : Idx} {f : Fence} (hf : s.fenceOf r = some f) (hat : At s inTimeouts) (hd : s.fenceDone f = false)
    (ht : f.deadline ≤ s.tempo) : exec (.storeFenceTimeout r) s = .next (((s.dropFence f).raise
      { code := 0x0405, obj := if f.ch = 255 then objDEV else obj clsDMA f.ch, fields := [f.ch, s.unfenced f] }).post
        f.reply stTIMEOUT) := by
  show execStoreFenceTimeout r s = _
  unfold execStoreFenceTimeout
  rw [hat]
  dsimp only
  rw [hf]
  dsimp only
  rw [if_neg (by simp [hd, ht])]
  rfl

/-! ### DRAM_TRAINING_DONE (R160) -/

theorem State.nCh_pos (s : State) : 0 < s.nCh := by
  unfold State.nCh
  split <;> omega

theorem State.chHere_zero (s : State) : s.chHere 0 = !s.store.out0 := rfl

theorem State.chHere_one (s : State) : s.chHere 1 = (decide (1 < s.nCh) && !s.store.out1) := rfl

/-- The state in which the training of both channels has ended. -/
def State.bothTrained (s : State) (r0 r1 : TrainDram) : State := (s.trained 0 r0).trained 1 r1

theorem execDramTrainingDone_eq (hb : s.md.boot = .running) (hd : s.md.dramOk = false) (r0 r1 : TrainDram) :
    exec (.dramTrainingDone r0 r1) s = .next { s.bothTrained r0 r1 with md := { (s.bothTrained r0 r1).md with
      dramOk := (s.bothTrained r0 r1).chHere 0 || (s.bothTrained r0 r1).chHere 1 } } := by
  show execDramTrainingDone r0 r1 s = _
  unfold execDramTrainingDone
  rw [if_pos ⟨hb, by rw [hd]; rfl⟩]
  rfl

/-- The training of channel 1 leaves channel 0 as it is. -/
theorem State.trained_one (s : State) (r : TrainDram) :
    (s.trained 1 r).store.gib0 = s.store.gib0 ∧ (s.trained 1 r).store.out0 = s.store.out0 := by
  unfold State.trained
  split
  · exact ⟨rfl, rfl⟩
  · split
    · exact ⟨rfl, rfl⟩
    · simp

theorem State.trained_zero_ok (s : State) (g : Nat) : (s.trained 0 (.ok g)).store = { s.store with gib0 := min g 32 } := by
  unfold State.trained
  rw [if_neg (Nat.not_le.2 s.nCh_pos)]
  rfl

theorem State.trained_zero_fail (s : State) (k : Nat) : s.trained 0 (.fail k)
    = ({ s with store := { s.store with out0 := true } }).raise { code := 0x0420, fields := [0, k % 256] } := by
  unfold State.trained
  rw [if_neg (Nat.not_le.2 s.nCh_pos)]
  rfl

theorem State.trained_one_ok (h : s.nCh = 2) (g : Nat) : s.trained 1 (.ok g) = { s with store := { s.store with gib1 := min g 32 } } := by
  unfold State.trained
  rw [if_neg (by omega)]
  rfl

/-- The state in which channel 0 has failed its training. -/
theorem State.trained_zero_fail_parts (s : State) (k : Nat) : (s.trained 0 (.fail k)).nCh = s.nCh
    ∧ (s.trained 0 (.fail k)).store = { s.store with out0 := true } := by
  rw [State.trained_zero_fail, State.raise_store]
  refine ⟨?_, rfl⟩
  unfold State.nCh
  rw [State.raise_die]

end Sys2Proof.Machine

namespace Sys2Proof.Proofs
open Sys2Proof Sys2Proof.Machine Sys2Proof.Claims

theorem storeAlloc_lists {m : Msg} {s : State} {n c : Nat} (hd : s.md.dramOk = true) (hn : m.argN 8 4 = n) (hc : m.argN 12 1 = c)
    (h1 : 1 ≤ n) (hch : c = 0 ∨ c = 1 ∨ c = 255) (h : Takes 0x0500 m 0 0xffffff0000000000 s) (hm : s.md.mode ∈ modesStore)
    (hh : c < 2 → s.chHere c = true) (hf : fits n (s.runsOf c) ≠ 0) :
    ∃ t p, exec (.storeAlloc m) s = .next t ∧ t.store.regions = insertRegion (4096 * p, n) s.store.regions
      ∧ ∃ r, r ∈ s.runsOf c ∧ r.1 ≤ p ∧ p + n ≤ r.1 + r.2 := by
  obtain ⟨p, hp, hin⟩ := fitAt_of_lt (Nat.mod_lt s.fresh.1 (Nat.pos_of_ne_zero hf))
  exact ⟨_, p, execStoreAlloc_runs hd hn hc h1 hch h hm hh hf hp, rfl, hin⟩

theorem storeFence_endsOrWaits {m : Msg} {s : State} {c n : Nat} {f : Fence} (hd : s.md.dramOk = true) (hc : m.argN 8 1 = c)
    (hn : m.argN 12 4 = n) (h1 : 1 ≤ n) (hch : c ≤ 31 ∧ (s.dma c).state ≠ .closed ∨ c = 255) (h : Takes 0x0502 m 0 0xffffff00 s)
    (hm : s.md.mode ∈ modesStore ++ [.safeHold])
    (hf : f = { reply := s.replyOf 0x0502 m, ch := c, accepted := s.tempo, deadline := s.tempo + 256 * n, cover := s.covered c }) :
    (s.fenceDone f = true → ∃ t, exec (.storeFence m) s = .next t
      ∧ t.store.pages = s.store.pages.filter (fun e => !fenceHits c (s.dma c).opens s.tempo e.2) ∧ t.store.fences = s.store.fences
      ∧ t.mems = s.mems)
    ∧ (s.fenceDone f = false → ∃ t, exec (.storeFence m) s = .next t ∧ t.store.fences = s.store.fences ++ [f]
      ∧ t.store.pages = s.store.pages ∧ (t.ring m.ring).taken = some ⟨0x0502, m, (s.replyOf 0x0502 m).epoch, true⟩) := by
  rw [execStoreFence_eq hd hc hn h1 hch h hm hf]
  refine ⟨fun hdone => ?_, fun hdone => ?_⟩
  · rw [if_pos hdone, hf]
    exact ⟨_, rfl, State.fenceEnd_pages _ _, rfl, rfl⟩
  · rw [if_neg (by simp [hdone])]
    exact ⟨_, rfl, rfl, rfl, s.hold_taken 0x0502 m⟩

theorem waitingFence_ends {s : State} {r : Idx} {f : Fence} (hf : s.fenceOf r = some f) :
    (s.fenceDone f = true → ∃ t, exec (.storeFenceComplete r) s = .next t ∧ t.store.fences = s.store.fences.erase f
      ∧ t.store.pages = s.store.pages.filter (fun e => !fenceHits f.ch (s.dma f.ch).opens f.accepted e.2) ∧ t.mems = s.mems)
    ∧ (At s inTimeouts → s.fenceDone f = false → f.deadline ≤ s.tempo → s.objHere (if f.ch = 255 then objDEV else obj clsDMA f.ch) = true →
      ∃ t n, exec (.storeFenceTimeout r) s = .next t ∧ t.store.fences = s.store.fences.erase f ∧ t.store.pages = s.store.pages
        ∧ t.mems = s.mems ∧ Raised t 0x0405 (if f.ch = 255 then objDEV else obj clsDMA f.ch) [f.ch, n]) := by
  refine ⟨fun hd => ⟨_, execStoreFenceComplete_ends hf hd, rfl, State.fenceEnd_pages _ _, rfl⟩, fun hat hd ht ho => ?_⟩
  refine ⟨_, s.unfenced f, execStoreFenceTimeout_ends hf hat hd ht, ?_, ?_, ?_,
    State.raised_raise (s := s.dropFence f) (e := { code := 0x0405, obj := _, fields := [f.ch, s.unfenced f] }) ho⟩
  · rw [State.post_store, State.raise_store]; rfl
  · rw [State.post_store, State.raise_store]; rfl
  · rw [State.post_mems, State.raise_mems]; rfl

/-- Channel 0 has trained, whatever became of channel 1. -/
theorem training_zero {s : State} (hb : s.md.boot = .running) (hd : s.md.dramOk = false) (ho : s.store.out0 = false) (g : Nat)
    (r : TrainDram) : ∃ t, exec (.dramTrainingDone (.ok g) r) s = .next t ∧ t.md.dramOk = true ∧ t.store.gib0 = min g 32 := by
  obtain ⟨hg, hout⟩ := (s.trained 0 (.ok g)).trained_one r
  rw [State.trained_zero_ok] at hg hout
  have hhere : (s.bothTrained (.ok g) r).chHere 0 = true := by
    rw [State.chHere_zero, State.bothTrained, hout, ho]
    rfl
  exact ⟨_, execDramTrainingDone_eq hb hd _ _, by rw [hhere]; rfl, hg⟩

/-- Channel 1 alone has trained. -/
theorem training_one {s : State} (hb : s.md.boot = .running) (hd : s.md.dramOk = false) (hn : s.nCh = 2) (ho : s.store.out1 = false)
    (hdev : s.objHere objDEV = true) (k g : Nat) : ∃ t, exec (.dramTrainingDone (.fail k) (.ok g)) s = .next t
      ∧ t.md.dramOk = true ∧ t.store.out0 = true ∧ t.store.gib1 = min g 32 ∧ Raised t 0x0420 objDEV [0, k % 256] := by
  obtain ⟨hch, hstore⟩ := s.trained_zero_fail_parts k
  have hboth : s.bothTrained (.fail k) (.ok g)
      = { s.trained 0 (.fail k) with store := { s.store with out0 := true, gib1 := min g 32 } } := by
    rw [State.bothTrained, State.trained_one_ok (hch.trans hn), hstore]
  have hhere : (s.bothTrained (.fail k) (.ok g)).chHere 1 = true := by
    have hnum : (s.bothTrained (.fail k) (.ok g)).nCh = 2 := by rw [hboth]; exact hch.trans hn
    rw [State.chHere_one, hnum, hboth, ho]
    rfl
  have hraised : Raised (s.trained 0 (.fail k)) 0x0420 objDEV [0, k % 256] := by
    rw [State.trained_zero_fail]
    exact State.raised_raise (e := { code := 0x0420, fields := [0, k % 256] }) hdev
  refine ⟨_, execDramTrainingDone_eq hb hd _ _, by rw [hhere, Bool.or_true], ?_, ?_, ?_⟩
  · rw [hboth]
  · rw [hboth]
  · rw [hboth]; exact hraised

/-- Settles O26, command by command. -/
theorem theStoreIsTrainedAllocatedAndFenced : Obligations.TheStoreIsTrainedAllocatedAndFenced :=
  ⟨fun _ _ hd => ⟨fun _ _ hn hc h1 hch h hm hh hf => storeAlloc_lists hd hn hc h1 hch h hm hh hf,
      fun _ h hm hr hu => execStoreFree_runs hd h hm hr hu,
      fun _ _ _ hc hn h1 hch h hm hf => storeFence_endsOrWaits hd hc hn h1 hch h hm hf⟩,
    fun _ _ _ hf => waitingFence_ends hf,
    fun _ hb hd ho => ⟨training_zero hb hd ho, fun k g hn ho1 hdev => training_one hb hd hn ho1 hdev k g⟩⟩

end Sys2Proof.Proofs
end

section
namespace Sys2Proof.Machine
open Sys2Proof Sys2Proof.Claims
variable {s : State} {m : Msg} {c : Nat}

/-! ### Queues of the SPI and I2C controllers (R422) -/

@[simp] theorem State.putSpi_get (s : State) (c : Nat) (q : List SpiJob) : (s.putSpi c q).spiQueue c = q := Map.get_put_self _ _ _ _

@[simp] theorem State.putI2c_get (s : State) (c : Nat) (q : List Xfer) : (s.putI2c c q).i2cQueue c = q := Map.get_put_self _ _ _ _

/-- A transfer that comes to an SPI controller goes behind what is there, and starts where nothing is. -/
theorem State.spiPush_xfer (s : State) (c : Nat) (x : Xfer) : (s.spiPush c (.xfer x)).spiQueue c = s.spiQueue c ++ [.xfer x]
    ∧ (s.spiPush c (.xfer x)).out = s.out ++ (if s.spiQueue c = [] then [.spi c x.target x.mode x.tx] else [])
    ∧ (s.spiPush c (.xfer x)).host = s.host := by
  unfold State.spiPush
  split
  · next hq => rw [hq]; exact ⟨State.putSpi_get _ _ _, rfl, rfl⟩
  · next y q hq => rw [hq, if_neg (List.cons_ne_nil y q), List.append_nil]; exact ⟨State.putSpi_get _ _ _, rfl, rfl⟩

/-- The job that ran leaves the queue, and what waits goes on. -/
theorem State.spiPop_parts {x : SpiJob} {rest : List SpiJob} (h : s.spiQueue c = x :: rest) :
    (s.spiPop c).spiQueue c = rest ∧ (s.spiPop c).host = s.host := by
  have send : ∀ (u : State) (j : SpiJob), (u.spiSend c j).spiQueue c = u.spiQueue c ∧ (u.spiSend c j).host = u.host := by
    intro u j
    cases j with
    | zone k z t => exact ⟨rfl, rfl⟩
    | xfer x => exact ⟨rfl, rfl⟩
  unfold State.spiPop
  rw [h]
  cases rest with
  | nil => exact ⟨State.putSpi_get _ _ _, rfl⟩
  | cons j q => exact ⟨(send _ j).1.trans (State.putSpi_get _ _ _), (send _ j).2⟩

theorem State.spiPop_out_xfer {x : SpiJob} {y : Xfer} {ys : List SpiJob} (h : s.spiQueue c = x :: .xfer y :: ys) :
    (s.spiPop c).out = s.out ++ [.spi c y.target y.mode y.tx] := by
  unfold State.spiPop
  rw [h]
  rfl

/-- The next transfer of a free I2C controller starts, where the sequencer has nothing to read. -/
theorem State.i2cNext_starts {x : Xfer} {q : List Xfer} (h : s.i2cQueue c = x :: q) (hx : x.on = false) (hw : s.seqWaits c = false) :
    s.i2cNext c = (s.putI2c c ({ x with on := true } :: q)).emit (.i2c c x.target x.tx x.rxLen) := by
  unfold State.i2cNext
  rw [h]
  dsimp only
  rw [hx, hw]
  rfl

/-- No transfer starts while one runs, or while the sequencer has a read to make. -/
theorem State.i2cNext_waits (h : s.seqWaits c = true ∨ ∃ y q, s.i2cQueue c = y :: q ∧ y.on = true) : s.i2cNext c = s := by
  unfold State.i2cNext
  split
  · next x q hq =>
    refine if_pos ?_
    rcases h with hw | ⟨y, ys, hy, hon⟩
    · rw [hw, Bool.or_true]
    · obtain ⟨rfl, rfl⟩ := List.cons.inj (hq.symm.trans hy)
      rw [hon, Bool.true_or]
  · rfl

/-! ### SPI_XFER and I2C_XFER -/

theorem execSpiXfer_runs {cs md : Nat} (h : Takes 0x0900 m m.payload.length 0xffffffffff000000 s) (h1 : 1 ≤ m.payload.length)
    (h936 : m.payload.length ≤ 936) (hc : c = m.argN 8 1) (hcs : cs = m.argN 9 1) (hmd : md = m.argN 10 1) (hc3 : c ≤ 3) (hcs3 : cs ≤ 3)
    (hmd3 : md ≤ 3) (ht : s.spiTaken c cs = false) : exec (.spiXfer m) s = .next ((s.hold 0x0900 m).spiPush c
      (.xfer { reply := s.replyOf 0x0900 m, target := cs, mode := md, tx := m.payload, rxLen := m.payload.length })) := by
  obtain ⟨-, hat, -, hr, -⟩ := id h
  show execSpiXfer m s = _
  unfold execSpiXfer
  rw [hat]
  subst hc hcs hmd
  refine congrArg _ (State.command_of_takes h ?_ _)
  have hlen : (m.payload.length == 0 || decide (936 < m.payload.length)) = false := by
    rw [Bool.or_eq_false_iff, beq_eq_false_iff_ne, decide_eq_false_iff_not]
    omega
  have harg : (decide (3 < m.argN 8 1) || decide (3 < m.argN 9 1) || decide (3 < m.argN 10 1)) = false := by simp; omega
  rw [refuse_eq_nil hlen, Msg.argRes_nil hr, refuse_eq_nil harg, refuse_eq_nil ht]
  rfl

theorem execI2cXfer_runs {a n : Nat} (h : Takes 0x0910 m (m.argN 10 2) 0xffff000000000000 s) (hc : c = m.argN 8 1) (ha : a = m.argN 9 1)
    (hn : n = m.argN 12 2) (hc3 : c ≤ 3) (ha127 : a ≤ 127) (hn936 : n ≤ 936) (hb : s.i2cBusy c = false) (ht : s.i2cTaken c a = false) :
    exec (.i2cXfer m) s = .next (((s.hold 0x0910 m).putI2c c (s.i2cQueue c
      ++ [{ reply := s.replyOf 0x0910 m, target := a, mode := 0, tx := m.payload, rxLen := n }])).i2cNext c) := by
  obtain ⟨-, hat, hl, hr, -⟩ := id h
  show execI2cXfer m s = _
  unfold execI2cXfer
  rw [hat]
  subst hc ha hn
  refine congrArg _ (State.command_of_takes h ?_ _)
  have harg : (decide (3 < m.argN 8 1) || decide (127 < m.argN 9 1) || decide (936 < m.argN 12 2)) = false := by simp; omega
  rw [Msg.plen_nil hl, Msg.argRes_nil hr, refuse_eq_nil harg, refuse_eq_nil hb, refuse_eq_nil ht]
  rfl

/-! ### The ends of transfers -/

theorem execSpiTransferDone_xfer {x : Xfer} {rest : List SpiJob} (h : s.spiQueue c = .xfer x :: rest) (rx : Bytes) :
    exec (.spiTransferDone c rx) s = .next ((s.spiPop c).ok x.reply (bytesAt rx 0 x.rxLen)) := by
  show execSpiTransferDone c rx s = _
  unfold execSpiTransferDone
  rw [h]

/-- The answer of an I2C transfer that has ended. -/
def State.i2cAnswer (s : State) (x : Xfer) (r : I2cEnd) : State := match r with
  | .ok rx => s.ok x.reply (bytesAt rx 0 x.rxLen)
  | .nack b => s.post x.reply stBUS_NACK (b % 65536)
  | .timeout => s.post x.reply stTIMEOUT

theorem execI2cTransferDone_on {x : Xfer} {rest : List Xfer} (h : s.i2cQueue c = x :: rest) (hx : x.on = true) (r : I2cEnd) :
    exec (.i2cTransferDone c r) s = .next (((s.putI2c c rest).i2cAnswer x r).i2cGo c) := by
  show execI2cTransferDone c r s = _
  unfold execI2cTransferDone
  rw [h]
  dsimp only
  rw [if_pos hx]
  cases r <;> rfl

end Sys2Proof.Machine

namespace Sys2Proof.Proofs
open Sys2Proof Sys2Proof.Machine Sys2Proof.Claims

/-- An I2C transfer joins its controller's queue; it starts alone, and waits for the sequencer or the transfer that runs. -/
theorem i2cXfer_joins {m : Msg} {s : State} {c a n : Nat} {x : Xfer}
    (hx : x = { reply := s.replyOf 0x0910 m, target := a, mode := 0, tx := m.payload, rxLen := n })
    (hr : exec (.i2cXfer m) s = .next (((s.hold 0x0910 m).putI2c c (s.i2cQueue c ++ [x])).i2cNext c)) :
    (s.i2cQueue c = [] → s.seqWaits c = false → ∃ t, exec (.i2cXfer m) s = .next t
      ∧ t.i2cQueue c = [{ x with on := true }] ∧ t.out = s.out ++ [.i2c c a m.payload n] ∧ t.host = (s.hold 0x0910 m).host)
    ∧ (s.seqWaits c = true ∨ (∃ y q, s.i2cQueue c = y :: q ∧ y.on = true) → ∃ t, exec (.i2cXfer m) s = .next t
      ∧ t.i2cQueue c = s.i2cQueue c ++ [x] ∧ t.out = s.out ∧ t.host = (s.hold 0x0910 m).host) := by
  refine ⟨fun hq hw => ?starts, fun h => ?waits⟩
  case starts =>
    have hnext := State.i2cNext_starts (s := (s.hold 0x0910 m).putI2c c [x]) (State.putI2c_get _ _ _) (by rw [hx]) hw
    rw [hq, List.nil_append, hnext] at hr
    exact ⟨_, hr, State.putI2c_get _ _ _, by rw [hx]; rfl, rfl⟩
  case waits =>
    have hnext := State.i2cNext_waits (s := (s.hold 0x0910 m).putI2c c (s.i2cQueue c ++ [x])) (c := c)
      (h.imp id fun ⟨y, q, hq, hy⟩ => ⟨y, q ++ [x], by rw [State.putI2c_get, hq]; rfl, hy⟩)
    rw [hnext] at hr
    exact ⟨_, hr, State.putI2c_get _ _ _, rfl, rfl⟩

/-- Settles O47, command by command. -/
theorem spiAndI2cTransfersQueueRunAndAnswer : Obligations.SpiAndI2cTransfersQueueRunAndAnswer := by
  refine ⟨fun m s c cs md h h1 h936 hc hcs hmd hc3 hcs3 hmd3 ht => ?spi, fun m s c a n x h hc ha hn hc3 ha127 hn936 hb ht hx => ?i2c,
    fun s c x => ⟨fun rx rest hq => ?spiDone, fun rest hq hon => ⟨fun rx => execI2cTransferDone_on hq hon (.ok rx), fun b hlt => ?nack,
      execI2cTransferDone_on hq hon .timeout⟩⟩⟩
  case spi => exact ⟨_, execSpiXfer_runs h h1 h936 hc hcs hmd hc3 hcs3 hmd3 ht, (s.hold 0x0900 m).spiPush_xfer c _⟩
  case i2c => exact i2cXfer_joins hx (hx ▸ execI2cXfer_runs h hc ha hn hc3 ha127 hn936 hb ht)
  case spiDone =>
    obtain ⟨hrest, hhost⟩ := State.spiPop_parts hq
    exact ⟨_, execSpiTransferDone_xfer hq rx, hrest, hhost, fun y ys hy => State.spiPop_out_xfer (hy ▸ hq)⟩
  case nack => rw [execI2cTransferDone_on hq hon (.nack b), State.i2cAnswer, Nat.mod_eq_of_lt hlt]

end Sys2Proof.Proofs
end

section
namespace Sys2Proof.Machine
open Sys2Proof Sys2Proof.Claims
variable {s : State} {m : Msg} {slot n : Nat}

/-! ### Castle commands -/

@[simp] theorem State.ok_castle (r : Reply) (data : Bytes) (k : Nat) : (s.ok r data).castle k = s.castle k := rfl

theorem slotArg_nil (hr : Nat.land m.arg.toNat 0xffffffffffffff00 = 0) (h : m.argN 8 1 = slot) (h63 : slot ≤ 63) :
    slotArg m = [] := by
  unfold slotArg
  rw [Msg.argRes_nil hr, h, decide_eq_false (Nat.not_lt.2 h63), refuse_false]
  rfl

/-- The length of a list of `n` records after a head of fixed length, as a command checks it. -/
theorem refuse_length_nil {l h w k hi : Nat} (hl : l = h + w * k) (hh : h % w = 0) (hhi : h + w * k ≤ hi) (code : Nat) :
    refuse (decide (l < h) || l % w != 0 || decide (hi < l)) code = [] := by
  refine refuse_eq_nil ?_ _ _
  have hmod : l % w = 0 := by rw [hl, Nat.add_mul_mod_self_left, hh]
  have hlo : ¬ l < h := by omega
  have hup : ¬ hi < l := by omega
  simp [hmod, hlo, hup]

theorem refuse_records_nil {l w k hi : Nat} (hl : l = w * k) (hw : 0 < w) (h1 : 1 ≤ k) (hhi : w * k ≤ hi) (code : Nat) :
    refuse (l == 0 || l % w != 0 || decide (hi < l)) code = [] := by
  refine refuse_eq_nil ?_ _ _
  have hmod : l % w = 0 := by rw [hl, Nat.mul_mod_right]
  have hpos : l ≠ 0 := by rw [hl]; exact Nat.mul_ne_zero (by omega) (by omega)
  have hup : ¬ hi < l := by omega
  simp [hmod, hpos, hup]

/-- The records of a message are appended to a slot, which is STAGED (R102). -/
def State.stageSlot (s : State) (slot : Nat) (rs : List Bytes) : State :=
  s.updCastle slot (fun c => { c with state := 1, actions := c.actions ++ rs.map actionOf })

/-- CASTLE_STAGE of records that pass. -/
theorem execCastleStage_runs (hs : m.argN 8 1 = slot) (h63 : slot ≤ 63) (h1 : 1 ≤ n) (hn : n ≤ 63)
    (h : Takes 0x0400 m (16 * n) 0xffffffffffffff00 s) (hst : (s.castle slot).state ≠ 2)
    (hrec : s.stageRefs slot (records 16 m.payload) = []) :
    exec (.castleStage m) s = .next ((s.stageSlot slot (records 16 m.payload)).ok (s.replyOf 0x0400 m)
      (toLE 2 ((s.stageSlot slot (records 16 m.payload)).castle slot).actions.length)) := by
  obtain ⟨-, hat, hl, hr, -⟩ := id h
  show execCastleStage m s = _
  unfold execCastleStage
  rw [hat]
  subst hs
  refine congrArg _ (State.command_of_takes h ?_ _)
  rw [refuse_records_nil hl (by decide) h1 (by omega), slotArg_nil hr rfl h63, hrec, refuse_eq_nil (beq_eq_false_iff_ne.2 hst)]
  rfl

/-- CASTLE_ARM of a slot without IMAGE_START that nothing refuses. -/
theorem execCastleArm_runs (hs : m.argN 8 1 = slot) (h63 : slot ≤ 63) (hn : n ≤ 16)
    (h : Takes 0x0401 m (16 + 8 * n) 0xffffffffffffff00 s) (hb : m.pay 0 1 ≤ 8) (hz : m.pay 1 7 = 0)
    (hm : s.md.mode ∈ [Mode.standby, .warmUp, .ready, .print, .runOut])
    (hp : ∀ b, b ∈ records 8 (m.payload.drop 16) → s.preStatus b = []) (hst : (s.castle slot).state = 1)
    (hi : ∀ a, a ∈ (s.castle slot).actions → a.kind ≠ 5) (ha : s.armRefs (some slot) none (s.castle slot).actions = [])
    (hc : s.conflicts (m.pay 0 1) (triggerOf (m.pay 0 1) (m.pay 8 8)) (s.castle slot).actions = false)
    (hx : s.reached (m.pay 0 1) (triggerOf (m.pay 0 1) (m.pay 8 8)) = false) :
    exec (.castleArm m) s = .next ((s.updCastle slot (fun c => { c with
      state := 2, basis := m.pay 0 1, trigger := triggerOf (m.pay 0 1) (m.pay 8 8)
      pres := (records 8 (m.payload.drop 16)).map preOf, reachedAt := none })).ok (s.replyOf 0x0401 m)) := by
  obtain ⟨-, hat, hl, hr, -⟩ := id h
  show execCastleArm m s = _
  unfold execCastleArm
  rw [hat]
  subst hs
  refine congrArg _ (State.command_of_takes h ?_ _)
  have harg : (decide (8 < m.pay 0 1) || m.pay 1 7 != 0) = false := by simp [hz, hb]
  have hpres : refuseEach (records 8 (m.payload.drop 16)) (fun _ b => s.preStatus b) = [] :=
    refuseEach_eq_nil fun j b hj => hp b (List.mem_of_getElem? hj)
  have himg : refuseEach (s.castle (m.argN 8 1)).actions (fun _ a => if a.kind = 5 then [stWRONG_STATE] else []) = [] :=
    refuseEach_eq_nil fun j a hj => if_neg (hi a (List.mem_of_getElem? hj))
  rw [slotArg_nil hr rfl h63, refuse_length_nil hl (by decide) (by omega), refuse_eq_nil harg, State.inModes_nil hm,
    hpres, hst, himg, ha, hc, hx]
  rfl

/-- CASTLE_DISARM of an ARMED slot whose trigger is ahead. -/
theorem execCastleDisarm_runs (hs : m.argN 8 1 = slot) (h63 : slot ≤ 63) (h : Takes 0x0402 m 0 0xffffffffffffff00 s)
    (hst : (s.castle slot).state = 2) (hr0 : (s.castle slot).reachedAt = none)
    (hx : s.reached (s.castle slot).basis (s.castle slot).trigger = false) :
    exec (.castleDisarm m) s = .next ((s.disarmSlot slot 3).ok (s.replyOf 0x0402 m)) := by
  obtain ⟨-, hat, hl, hr, -⟩ := id h
  show execCastleDisarm m s = _
  unfold execCastleDisarm
  rw [hat]
  subst hs
  refine congrArg _ (State.command_of_takes h ?_ _)
  rw [Msg.plen_nil hl, slotArg_nil hr rfl h63, hst, hr0, hx]
  rfl

theorem execCastleClear_runs (hs : m.argN 8 1 = slot) (h63 : slot ≤ 63) (h : Takes 0x0403 m 0 0xffffffffffffff00 s)
    (hst : (s.castle slot).state = 1) :
    exec (.castleClear m) s = .next ((s.setCastle slot {}).ok (s.replyOf 0x0403 m)) := by
  obtain ⟨-, hat, hl, hr, -⟩ := id h
  show execCastleClear m s = _
  unfold execCastleClear
  rw [hat]
  subst hs
  refine congrArg _ (State.command_of_takes h ?_ _)
  rw [Msg.plen_nil hl, slotArg_nil hr rfl h63, hst]
  rfl

/-- What CASTLE_STATUS answers (Table 5-15). -/
def Castle.statusData (c : Castle) : Bytes :=
  toLE 1 c.state ++ toLE 1 c.outcome ++ toLE 2 c.actions.length ++ toLE 1 c.basis ++ toLE 1 c.pres.length ++ [0, 0]
    ++ toLE 8 (wrapBits 64 c.trigger)

theorem execCastleStatus_runs (hs : m.argN 8 1 = slot) (h63 : slot ≤ 63) (h : Takes 0x0404 m 0 0xffffffffffffff00 s) :
    exec (.castleStatus m) s = .next (s.ok (s.replyOf 0x0404 m) (s.castle slot).statusData) := by
  obtain ⟨-, hat, hl, hr, -⟩ := id h
  show execCastleStatus m s = _
  unfold execCastleStatus
  rw [hat]
  subst hs
  refine congrArg _ (State.command_of_takes h ?_ _)
  rw [Msg.plen_nil hl, slotArg_nil hr rfl h63]
  rfl

/-- A disarmed slot keeps its actions. -/
theorem State.disarmSlot_castle (slot outcome k : Nat) : (s.disarmSlot slot outcome).castle k = if k = slot then
    { s.castle slot with state := 1, outcome := outcome, basis := 0, trigger := 0, pres := [], reachedAt := none }
    else s.castle k := State.updCastle_get _ _ _ _

end Sys2Proof.Machine

namespace Sys2Proof.Proofs
open Sys2Proof Sys2Proof.Machine Sys2Proof.Claims

/-- Settles O19, command by command. -/
theorem castleCommandsStageArmAndDisarmSlots : Obligations.CastleCommandsStageArmAndDisarmSlots := by
  intro m s slot hs h63
  refine ⟨fun n h1 hn h hst hrec => ?stage,
    fun n hn h hb hz hm hp hst hi ha hc hx => execCastleArm_runs hs h63 hn h hb hz hm hp hst hi ha hc hx,
    fun h hst hr hx => ?disarm, execCastleClear_runs hs h63, execCastleStatus_runs hs h63⟩
  case stage =>
    exact ⟨_, execCastleStage_runs hs h63 h1 hn h hst hrec, by simp [State.stageSlot], fun k hk => by simp [State.stageSlot, hk]⟩
  case disarm =>
    refine ⟨_, execCastleDisarm_runs hs h63 h hst hr hx, ?_, fun k hk => ?_⟩
    · rw [State.ok_castle, State.disarmSlot_castle, if_pos rfl, ← hr]
    · rw [State.ok_castle, State.disarmSlot_castle, if_neg hk]

end Sys2Proof.Proofs
end
section
namespace Sys2Proof.Machine
open Sys2Proof Sys2Proof.Claims
variable {s : State} {slot : Nat}

/-! ### CASTLE_TRIGGER -/

/-- What keeps a castle from being applied: its preconditions that are false, and what a sealed sheet has locked (R106, R107). -/
def State.castleMask (s : State) (c : Castle) : Nat := s.preMask c.pres + if c.actions.any s.judged.meetsLock then 2 ^ 16 else 0

theorem execCastleTrigger_fires (hlt : slot < 64) (hat : At s (inSlot slot)) (hst : (s.castle slot).state = 2)
    (hf : s.firesNow (s.castle slot) = true) : exec (.castleTrigger slot) s = .next (
      if s.castleMask (s.castle slot) = 0 then (s.applyActions none (s.castle slot).actions).disarmSlot slot 1
      else (s.disarmSlot slot 2).raise { code := 0x0201, fields := [slot, s.castleMask (s.castle slot)] }) := by
  show execCastleTrigger slot s = _
  unfold execCastleTrigger
  rw [hat]
  exact congrArg _ (if_pos (by simp [hlt, hst, hf]))

theorem execCastleTrigger_rests (hat : At s (inSlot slot))
    (h : (s.castle slot).state ≠ 2 ∨ s.firesNow (s.castle slot) = false) : exec (.castleTrigger slot) s = .next s := by
  show execCastleTrigger slot s = _
  unfold execCastleTrigger
  rw [hat]
  refine congrArg _ (if_neg ?_)
  obtain h | h := h <;> simp [h]

end Sys2Proof.Machine

namespace Sys2Proof.Proofs
open Sys2Proof Sys2Proof.Machine Sys2Proof.Claims

/-- Settles O20: a slot that fires applies its actions or raises 0x0201, by its mask. -/
theorem aCastleTriggerFiresAllOrNothing : Obligations.ACastleTriggerFiresAllOrNothing := by
  intro s slot mask hlt hat
  refine ⟨execCastleTrigger_rests hat, fun hst hf hmask => ?_⟩
  have hx := execCastleTrigger_fires hlt hat hst hf
  rw [show s.castleMask (s.castle slot) = mask from hmask.symm] at hx
  refine ⟨fun h0 => ?applied, fun h0 ho => ?refused⟩
  case applied =>
    rw [if_pos h0] at hx
    exact ⟨_, hx, rfl, by rw [State.disarmSlot_castle, if_pos rfl], by rw [State.disarmSlot_castle, if_pos rfl]⟩
  case refused =>
    rw [if_neg h0] at hx
    refine ⟨_, hx, ?_, ?_, State.raise_params _ _, State.raise_video _ _, State.raise_drive _ _, ?_, State.raised_raise ho⟩
    · rw [State.raise_castle, State.disarmSlot_castle, if_pos rfl]
    · rw [State.raise_castle, State.disarmSlot_castle, if_pos rfl]
    · rw [State.raise_sheets_of_latch_nil _ rfl]; rfl

end Sys2Proof.Proofs
end

section
namespace Sys2Proof.Machine
open Sys2Proof Sys2Proof.Claims
variable {s : State} {m : Msg} {tk n : Nat}

/-! ### Ticket commands -/

@[simp] theorem State.ok_ticket (r : Reply) (data : Bytes) (k : Nat) : (s.ok r data).ticket k = s.ticket k := rfl

theorem ticketArg_nil (hr : Nat.land m.arg.toNat 0xffffffffffff0000 = 0) (h : m.argN 8 2 = tk) (h255 : tk ≤ 255) :
    ticketArg m = [] := by
  unfold ticketArg
  rw [Msg.argRes_nil hr, h, decide_eq_false (Nat.not_lt.2 h255), refuse_false]
  rfl

/-- The ticket that the records of a message leave, BUILT. -/
def State.builtTicket (s : State) (tk : Nat) (rs : List Bytes) : Ticket := { (s.buildEntries tk 0 (s.ticket tk) rs).1 with state := 1 }

/-- What TICKET_BUILD answers: the entries, preconditions, images and actions of the ticket. -/
def Ticket.counts (t : Ticket) : Bytes :=
  toLE 2 t.entries.length ++ toLE 2 t.nPres ++ toLE 2 t.images.length ++ toLE 2 0 ++ toLE 4 t.nActions

/-- TICKET_BUILD of records that pass. -/
theorem execTicketBuild_runs (htk : m.argN 8 2 = tk) (h255 : tk ≤ 255) (h1 : 1 ≤ n) (hn : n ≤ 63)
    (h : Takes 0x0410 m (16 * n) 0xffffffffffff0000 s) (hst : (s.ticket tk).state < 2)
    (hb : (s.buildEntries tk 0 (s.ticket tk) (records 16 m.payload)).2 = []) :
    exec (.ticketBuild m) s = .next ((s.setTicket tk (s.builtTicket tk (records 16 m.payload))).ok (s.replyOf 0x0410 m)
      (s.builtTicket tk (records 16 m.payload)).counts) := by
  obtain ⟨-, hat, hl, hr, -⟩ := id h
  show execTicketBuild m s = _
  unfold execTicketBuild
  rw [hat]
  subst htk
  refine congrArg _ (State.command_of_takes h ?_ _)
  have hseal : decide (3 ≤ (s.ticket (m.argN 8 2)).state) = false := decide_eq_false (by omega)
  have harm : ((s.ticket (m.argN 8 2)).state == 2) = false := beq_eq_false_iff_ne.2 (by omega)
  rw [refuse_records_nil hl (by decide) h1 (by omega), ticketArg_nil hr rfl h255, hseal, harm, hb]
  rfl

/-- A ticket that TICKET_SEAL_ARM arms, with its feed trigger and the offset of its seal point. -/
def Ticket.armedBy (t : Ticket) (m : Msg) (feed off : Int) : Ticket :=
  { t with
    state := 2, sealOutcome := 0, basis := m.pay 0 1, feed := feed, sealOff := off
    window := m.pay 24 4, maxSpan := m.pay 28 4, extra := (records 8 (m.payload.drop 32)).map preOf, resident := false, slips := 0
    fallMask := 0, opened := none, evalAt := none, lastMask := 0 }

/-- A ticket waits for timeline memory. -/
def State.queueTicket (s : State) (tk : Nat) : State := { s with sheets := { s.sheets with queue := s.sheets.queue ++ [tk] } }

/-- TICKET_SEAL_ARM of a BUILT ticket that nothing refuses (R114, R115). -/
theorem execTicketSealArm_runs (htk : m.argN 8 2 = tk) (h255 : tk ≤ 255) {feed off : Int} (hn : n ≤ 16)
    (h : Takes 0x0411 m (32 + 8 * n) 0xffffffffffff0000 s) (hbasis : m.pay 0 1 ≤ 8) (hz : m.pay 1 7 = 0)
    (hfeed : feed = triggerOf (m.pay 0 1) (m.pay 8 8)) (hoff : off = sext 64 (m.pay 16 8)) (hneg : off < 0)
    (hshape : (s.ticket tk).shapeOk = true) (hm : s.md.mode ∈ [Mode.warmUp, .ready, .print, .runOut])
    (hwin : m.pay 24 4 ≤ 500000) (hspan : 16 ≤ m.pay 28 4) (hp : ∀ b, b ∈ records 8 (m.payload.drop 32) → s.preStatus b = [])
    (hst : (s.ticket tk).state = 1) (ha : s.armRefs none (some tk) (s.ticket tk).actions = [])
    (hc : (((s.ticket tk).entries.filter (fun e => !e.afterFeed)).any (fun e => s.conflicts (m.pay 0 1) (feed + e.offset) e.actions))
      = false) (hx : s.reached (m.pay 0 1) (feed + off) = false)
    (hlead : m.pay 0 1 = 0 → 1000000 ≤ (s.ticket tk).minBase - (off + m.pay 24 4)) :
    exec (.ticketSealArm m) s = .next (((s.updTicket tk (fun t => t.armedBy m feed off)).queueTicket tk).ok (s.replyOf 0x0411 m)) := by
  obtain ⟨-, hat, hl, hr, -⟩ := id h
  show execTicketSealArm m s = _
  unfold execTicketSealArm
  rw [hat]
  subst htk
  dsimp only
  rw [← hfeed, ← hoff]
  refine congrArg _ (State.command_of_takes h ?_ _)
  have harg : (decide (8 < m.pay 0 1) || m.pay 1 7 != 0 || !(s.ticket (m.argN 8 2)).shapeOk) = false := by simp [hz, hbasis, hshape]
  have hval : (decide (0 ≤ off) || decide (500000 < m.pay 24 4) || decide (m.pay 28 4 < 16)) = false := by
    simp [hneg, hwin, hspan]
  have hpres : refuseEach (records 8 (m.payload.drop 32)) (fun _ b => s.preStatus b) = [] :=
    refuseEach_eq_nil fun j b hj => hp b (List.mem_of_getElem? hj)
  have hearly : (m.pay 0 1 == 0 && decide ((s.ticket (m.argN 8 2)).minBase - (off + m.pay 24 4) < 1000000)) = false := by
    simpa using hlead
  rw [refuse_length_nil hl (by decide) (by omega), ticketArg_nil hr rfl h255, refuse_eq_nil harg, State.inModes_nil hm,
    refuse_eq_nil hval, hpres, hst, ha, hc, hx, hearly]
  rfl

/-- TICKET_DISARM of an ARMED ticket before its seal point. -/
theorem execTicketDisarm_runs (htk : m.argN 8 2 = tk) (h255 : tk ≤ 255) (h : Takes 0x0412 m 0 0xffffffffffff0000 s)
    (hst : (s.ticket tk).state = 2) (hx : s.sealReached tk = false) :
    exec (.ticketDisarm m) s = .next (((s.releaseTicket tk).updTicket tk (fun t => { t with sealOutcome := 3 })).ok
      (s.replyOf 0x0412 m)) := by
  obtain ⟨-, hat, hl, hr, -⟩ := id h
  show execTicketDisarm m s = _
  unfold execTicketDisarm
  rw [hat]
  subst htk
  refine congrArg _ (State.command_of_takes h ?_ _)
  rw [Msg.plen_nil hl, ticketArg_nil hr rfl h255, hst, hx]
  rfl

/-- TICKET_FREE of an EMPTY or BUILT ticket. -/
theorem execTicketFree_runs (htk : m.argN 8 2 = tk) (h255 : tk ≤ 255) (h : Takes 0x0413 m 0 0xffffffffffff0000 s)
    (hst : (s.ticket tk).state < 2) :
    exec (.ticketFree m) s = .next ((s.setTicket tk {}).ok (s.replyOf 0x0413 m)) := by
  obtain ⟨-, hat, hl, hr, -⟩ := id h
  show execTicketFree m s = _
  unfold execTicketFree
  rw [hat]
  subst htk
  refine congrArg _ (State.command_of_takes h ?_ _)
  have hseal : decide (3 ≤ (s.ticket (m.argN 8 2)).state) = false := decide_eq_false (by omega)
  have harm : ((s.ticket (m.argN 8 2)).state == 2) = false := beq_eq_false_iff_ne.2 (by omega)
  rw [Msg.plen_nil hl, ticketArg_nil hr rfl h255, hseal, harm]
  rfl

/-- What TICKET_STATUS answers (Table 5-16). -/
def Ticket.statusData (t : Ticket) : Bytes :=
  toLE 1 t.state ++ toLE 1 t.sealOutcome ++ toLE 2 t.entries.length ++ toLE 2 t.nPres ++ toLE 2 t.images.length
    ++ toLE 4 t.nActions ++ toLE 1 (b2n t.resident) ++ toLE 1 t.slips ++ toLE 2 t.fallMask
    ++ toLE 8 (if t.state < 2 then 0 else wrapBits 64 t.feed)

theorem execTicketStatus_runs (htk : m.argN 8 2 = tk) (h255 : tk ≤ 255) (h : Takes 0x0414 m 0 0xffffffffffff0000 s) :
    exec (.ticketStatus m) s = .next (s.ok (s.replyOf 0x0414 m) (s.ticket tk).statusData) := by
  obtain ⟨-, hat, hl, hr, -⟩ := id h
  show execTicketStatus m s = _
  unfold execTicketStatus
  rw [hat]
  subst htk
  refine congrArg _ (State.command_of_takes h ?_ _)
  rw [Msg.plen_nil hl, ticketArg_nil hr rfl h255]
  rfl

/-! ### A ticket that is released -/

/-- From `s` to `t` only the video path has changed. -/
def VideoOnly (s t : State) : Prop := ∃ v, t = { s with video := v }

theorem VideoOnly.refl (s : State) : VideoOnly s s := ⟨s.video, rfl⟩

theorem VideoOnly.trans {s t u : State} (h : VideoOnly s t) (k : VideoOnly t u) : VideoOnly s u := by
  obtain ⟨v, rfl⟩ := h
  obtain ⟨w, rfl⟩ := k
  exact ⟨w, rfl⟩

theorem VideoOnly.foldl {α : Type} {f : State → α → State} (hf : ∀ u x, VideoOnly u (f u x)) (xs : List α) (s : State) :
    VideoOnly s (xs.foldl f s) :=
  foldl_pred (P := VideoOnly s) (fun u x h => h.trans (hf u x)) (.refl s)

theorem VideoOnly.sheets {t : State} (h : VideoOnly s t) : t.sheets = s.sheets := by
  obtain ⟨v, rfl⟩ := h
  rfl

/-- The tickets are those of the sheets. -/
theorem State.ticket_congr {t : State} (h : t.sheets = s.sheets) (k : Nat) : t.ticket k = s.ticket k := by
  unfold State.ticket
  rw [h]

theorem State.setQueue_videoOnly (s : State) (n : Nat) (new : List QStrip) : VideoOnly s (s.setQueue n new) := by
  have lanes (u : State) (f : Lane → Lane) : VideoOnly u (u.updLanes n f) := VideoOnly.foldl (fun _ _ => by exact ⟨_, rfl⟩) _ u
  unfold State.setQueue
  exact VideoOnly.trans ⟨_, rfl⟩ (lanes _ _)

theorem State.unqueue_videoOnly (s : State) (n tk : Nat) : VideoOnly s (s.unqueue n tk) := by
  unfold State.unqueue
  dsimp only
  split
  · exact State.setQueue_videoOnly _ _ _
  · exact .refl s

/-- A ticket that returns to BUILT: its entries wait to be evaluated anew, and its headers are forgotten. -/
def Ticket.released (t : Ticket) : Ticket :=
  { t with
    state := 1, resident := false, held := [], opened := none, fell := none, evalAt := none
    entries := t.entries.map (fun e => { e with done := false, reachedAt := none })
    images := t.images.map (fun i => { i with hdr := [], raw := [] }) }

/-- Of the sheets, a release changes the ticket, and the queue that it leaves. -/
theorem State.releaseTicket_sheets (s : State) (tk : Nat) : (s.releaseTicket tk).sheets
    = { (s.updTicket tk Ticket.released).sheets with queue := s.sheets.queue.filter (fun q => q != tk) } := by
  unfold State.releaseTicket
  dsimp only
  have hs : VideoOnly s ((s.ticket tk).stations.foldl (fun u n => if (u.ticket tk).state = 2 then u.unqueue n tk else u) s) :=
    .foldl (fun u n => by split; exacts [u.unqueue_videoOnly n tk, .refl u]) _ s
  obtain ⟨v, hv⟩ := hs
  rw [hv]
  rfl

theorem State.releaseTicket_ticket (s : State) (tk k : Nat) :
    (s.releaseTicket tk).ticket k = if k = tk then (s.ticket tk).released else s.ticket k := by
  rw [← State.updTicket_get s tk Ticket.released k]
  unfold State.ticket
  rw [State.releaseTicket_sheets]

theorem State.releaseTicket_queue (s : State) (tk : Nat) :
    (s.releaseTicket tk).sheets.queue = s.sheets.queue.filter (fun q => q != tk) := by
  rw [State.releaseTicket_sheets]

end Sys2Proof.Machine

namespace Sys2Proof.Proofs
open Sys2Proof Sys2Proof.Machine Sys2Proof.Claims

/-- Settles O21, command by command. -/
theorem ticketCommandsBuildArmAndRelease : Obligations.TicketCommandsBuildArmAndRelease := by
  intro m s tk htk h255
  refine ⟨fun n h1 hn h hst hb => ?build,
    fun n feed off hn h hbasis hz hfeed hoff hneg hshape hm hwin hspan hp hst ha hc hx hlead => ?arm,
    fun h hst hx => ?disarm, execTicketFree_runs htk h255, execTicketStatus_runs htk h255⟩
  case build => exact ⟨_, execTicketBuild_runs htk h255 h1 hn h hst hb, by simp; rfl, fun k hk => by simp [hk]⟩
  case arm =>
    have ht : (((s.updTicket tk (fun t => t.armedBy m feed off)).queueTicket tk).ok (s.replyOf 0x0411 m)).ticket tk
        = (s.ticket tk).armedBy m feed off :=
      (State.updTicket_get s tk (fun t => t.armedBy m feed off) tk).trans (if_pos rfl)
    refine ⟨_, execTicketSealArm_runs htk h255 hn h hbasis hz hfeed hoff hneg hshape hm hwin hspan hp hst ha hc hx hlead, ?_⟩
    rw [ht]
    exact ⟨rfl, rfl, rfl, rfl, rfl, rfl, rfl, rfl, rfl, rfl, rfl⟩
  case disarm =>
    have ht : ((s.releaseTicket tk).updTicket tk (fun t => { t with sealOutcome := 3 })).ticket tk
        = { (s.ticket tk).released with sealOutcome := 3 } := by
      rw [State.updTicket_get, if_pos rfl, State.releaseTicket_ticket, if_pos rfl]
    refine ⟨_, execTicketDisarm_runs htk h255 h hst hx, ?_, ?_, ?_⟩
    · rw [State.ok_ticket, ht]; rfl
    · rw [State.ok_ticket, ht]
    · show tk ∉ (s.releaseTicket tk).sheets.queue
      rw [State.releaseTicket_queue]
      simp

end Sys2Proof.Proofs
end

section
namespace Sys2Proof.Machine
open Sys2Proof Sys2Proof.Claims
variable {s t : State} {tk : Nat}

/-! ### Residency -/

/-- A ticket has its place in timeline memory, and waits no more. -/
def State.makeResident (s : State) (tk : Nat) : State :=
  let s1 := s.updTicket tk (fun t => { t with resident := true })
  { s1 with sheets := { s1.sheets with queue := s1.sheets.queue.filter (fun q => q != tk) } }

theorem execTicketResident_runs (hb : s.md.boot = .running) (hq : (s.sheets.queue.filter s.fits).head? = some tk)
    (hst : (s.ticket tk).state = 2) : exec (.ticketResident tk) s = .next (s.makeResident tk) :=
  congrArg _ (if_pos ⟨hb, hq, hst⟩)

theorem State.makeResident_ticket (s : State) (tk k : Nat) :
    (s.makeResident tk).ticket k = if k = tk then { s.ticket tk with resident := true } else s.ticket k :=
  State.updTicket_get s tk (fun t => { t with resident := true }) k

theorem State.mem_makeResident_queue {k : Nat} : k ∈ (s.makeResident tk).sheets.queue ↔ k ∈ s.sheets.queue ∧ k ≠ tk := by
  show k ∈ s.sheets.queue.filter (fun q => q != tk) ↔ _
  simp

/-! ### The objects of a ticket (R119) -/

/-- What stands below an object depends on the groups alone. -/
theorem State.below_congr (h : t.drive = s.drive) (n o : Nat) : t.below n o = s.below n o := by
  induction n generalizing o with
  | zero => rfl
  | succ n ih =>
    unfold State.below State.group
    rw [h, funext ih]

theorem State.holds_congr (h : t.drive = s.drive) (x : Ticket) : t.holds x = s.holds x := by
  have hs : t.span = s.span := funext (State.below_congr h 128)
  unfold State.holds
  rw [hs]

/-! ### The seal (R117 to R119) -/

/-- A SEALED ticket: its serial number, what it holds, and the tempo of the seal. -/
def Ticket.sealedBy (x : Ticket) (serial : Nat) (held : List Nat) (now : Tempo) : Ticket :=
  { x with
    state := 3, sealOutcome := 1, serial := serial, held := held, sealTempo := now, feedTempo := 0, spoil := 0, causes := []
    blank := [], missed := 0, firstMissed := 0xffff, firstFault := 0, faultCount := 0, opened := none, fell := none }

/-- The serial number of the next seal. -/
def State.nextSerial (s : State) : Nat := (s.sheets.serial + 1) % 2 ^ 32

/-- The ticket takes the next serial number. -/
def State.markSealed (s : State) (tk : Nat) : State :=
  ({ s with sheets := { s.sheets with serial := s.nextSerial } } : State).setTicket tk
    ((s.ticket tk).sealedBy s.nextSerial (s.holds (s.ticket tk)) s.tempo)

/-- The ticket's strips move up on its stations (R202). -/
def State.sealQueues (s : State) (tk : Nat) : State :=
  (s.ticket tk).stations.foldl (fun u k => u.sealQueue k tk) (s.markSealed tk)

/-- The event of a seal. -/
def State.sealEv (s : State) (tk evals : Nat) : Ev :=
  { code := 0x0210, obj := obj clsTK tk, fields := [obj clsTK tk, s.nextSerial, evals] }

theorem State.sealTicket_eq (s : State) (tk evals : Nat) : s.sealTicket tk evals
    = if ((s.sealQueues tk).raise (s.sealEv tk evals)).md.mode = .ready then
        ((s.sealQueues tk).raise (s.sealEv tk evals)).toMode .print false
      else (s.sealQueues tk).raise (s.sealEv tk evals) := rfl

theorem State.sealQueues_videoOnly (s : State) (tk : Nat) : VideoOnly (s.markSealed tk) (s.sealQueues tk) :=
  .foldl (fun _ _ => State.setQueue_videoOnly _ _ _) _ _

theorem State.sealQueues_mode (s : State) (tk : Nat) : (s.sealQueues tk).md.mode = s.md.mode := by
  obtain ⟨v, h⟩ := s.sealQueues_videoOnly tk
  rw [h]
  rfl

@[simp] theorem State.toMode_sheets (s : State) (m : Mode) (hw : Bool) : (s.toMode m hw).sheets = s.sheets := by
  unfold State.toMode
  split
  · rfl
  · exact State.raise_sheets_of_latch_nil _ rfl

/-- Of the sheets, a seal changes its ticket and the serial number. -/
theorem State.sealTicket_sheets (s : State) (tk evals : Nat) : (s.sealTicket tk evals).sheets = (s.markSealed tk).sheets := by
  have hr : ((s.sealQueues tk).raise (s.sealEv tk evals)).sheets = (s.markSealed tk).sheets :=
    (State.raise_sheets_of_latch_nil _ rfl).trans (s.sealQueues_videoOnly tk).sheets
  rw [State.sealTicket_eq]
  split
  · rw [State.toMode_sheets, hr]
  · exact hr

theorem State.sealTicket_ticket (s : State) (tk evals : Nat) : (s.sealTicket tk evals).ticket tk
    = (s.ticket tk).sealedBy s.nextSerial (s.holds (s.ticket tk)) s.tempo := by
  rw [State.ticket_congr (s.sealTicket_sheets tk evals)]
  exact (State.setTicket_get _ _ _ _).trans (if_pos rfl)

/-- A seal makes Ready Print, and leaves any other mode. -/
theorem State.sealTicket_mode (s : State) (tk evals : Nat) :
    (s.sealTicket tk evals).md.mode = if s.md.mode = .ready then .print else s.md.mode := by
  rw [State.sealTicket_eq, State.raise_md, State.sealQueues_mode]
  split
  · exact State.toMode_mode _ _ _
  · rw [State.raise_md, State.sealQueues_mode]

theorem State.sealTicket_raised (evals : Nat) (ho : s.objHere (obj clsTK tk) = true) :
    Raised (s.sealTicket tk evals) 0x0210 (obj clsTK tk) [obj clsTK tk, s.nextSerial, evals] := by
  have hq : (s.sealQueues tk).objHere (obj clsTK tk) = true := by
    obtain ⟨v, h⟩ := s.sealQueues_videoOnly tk
    rw [h]
    exact ho
  have hr := State.raised_raise (e := s.sealEv tk evals) hq
  rw [State.sealTicket_eq]
  split
  · exact (State.toMode_onward _ _ _).raised (by decide) hr
  · exact hr

/-! ### SEAL_EVALUATION -/

/-- An evaluation has found a mask. -/
def State.noteMask (s : State) (tk : Nat) (now : Tempo) (mask : Nat) : State :=
  s.updTicket tk (fun t => { t with evalAt := some now, lastMask := mask })

/-- The mask of an evaluation: with an uncorrectable error RESOURCE is false. -/
def State.evalMask (s : State) (tk : Nat) (ue : Option Nat) : Nat :=
  if ue.isSome then Nat.lor ((s.loseResidency tk ue).sealMask tk) 8 else (s.loseResidency tk ue).sealMask tk

theorem execSealEvaluation_runs (hlt : tk < 256) (hat : At s (inSeal tk)) (hst : (s.ticket tk).state = 2)
    (hw : (s.ticket tk).inSealWindow s.tempo = true) (he : (s.ticket tk).evalAt ≠ some s.tempo) (ue : Option Nat) :
    exec (.sealEvaluation tk ue) s = .next (
      if s.evalMask tk ue = 0 then ((s.loseResidency tk ue).noteMask tk s.tempo (s.evalMask tk ue)).sealTicket tk
        (s.tempo + 1 - (s.ticket tk).sealAt.getD s.tempo)
      else (s.loseResidency tk ue).noteMask tk s.tempo (s.evalMask tk ue)) := by
  show execSealEvaluation tk ue s = _
  unfold execSealEvaluation
  rw [hat]
  exact congrArg _ (if_pos (by simp [hlt, hst, hw, he]))

theorem execSealEvaluation_rests (hat : At s (inSeal tk)) (h : (s.ticket tk).state ≠ 2
    ∨ (s.ticket tk).inSealWindow s.tempo = false ∨ (s.ticket tk).evalAt = some s.tempo) (ue : Option Nat) :
    exec (.sealEvaluation tk ue) s = .next s := by
  show execSealEvaluation tk ue s = _
  unfold execSealEvaluation
  rw [hat]
  refine congrArg _ (if_neg ?_)
  obtain h | h | h := h <;> simp [h]

theorem State.noteMask_ticket (s : State) (tk : Nat) (now : Tempo) (mask : Nat) :
    (s.noteMask tk now mask).ticket tk = { s.ticket tk with evalAt := some now, lastMask := mask } :=
  (State.updTicket_get _ _ _ _).trans (if_pos rfl)

/-- What a ticket holds does not change with its evaluations. -/
theorem State.holds_noteMask (s : State) (tk : Nat) (now : Tempo) (mask : Nat) :
    (s.noteMask tk now mask).holds ((s.noteMask tk now mask).ticket tk) = s.holds (s.ticket tk) := by
  rw [State.noteMask_ticket, State.holds_congr (t := s.noteMask tk now mask) (s := s) rfl]
  rfl

theorem State.reportUe_sheets (s : State) (i a reader what : Nat) : (s.reportUe i a reader what).sheets = s.sheets := by
  unfold State.reportUe
  dsimp only
  rw [State.raise_sheets_of_latch_nil _ rfl]
  split
  · rfl
  · rw [State.signal_sheets]
    rfl

/-- An error before the seal takes a ticket out of timeline memory, and leaves it in its state. -/
theorem State.loseResidency_ticket (s : State) (tk a : Nat) : ((s.loseResidency tk (some a)).ticket tk).state = (s.ticket tk).state
    ∧ ((s.loseResidency tk (some a)).ticket tk).resident = false := by
  have hu (i b r w : Nat) : (s.reportUe i b r w).ticket tk = s.ticket tk := State.ticket_congr (s.reportUe_sheets i b r w) tk
  unfold State.loseResidency
  dsimp only
  split
  · have hv : ∀ (v : State) (f : Ticket → Ticket) (q : List Nat),
        ({ v.updTicket tk f with sheets := { (v.updTicket tk f).sheets with queue := q } } : State).ticket tk = f (v.ticket tk) :=
      fun v f q => (State.updTicket_get v tk f tk).trans (if_pos rfl)
    rw [hv, hu]
    exact ⟨rfl, rfl⟩
  · next h => rw [hu]; exact ⟨rfl, by simpa using h⟩

/-- RESOURCE counts as false in an evaluation that met an error. -/
theorem State.evalMask_resource (s : State) (tk a : Nat) : bit (s.evalMask tk (some a)) 3 = true := bit_lor_pow _ 3

end Sys2Proof.Machine

namespace Sys2Proof.Proofs
open Sys2Proof Sys2Proof.Machine Sys2Proof.Claims

/-- Settles O22: residency, and the three outcomes of an evaluation. -/
theorem aSealHappensExactlyWhenEveryPreconditionHolds : Obligations.ASealHappensExactlyWhenEveryPreconditionHolds := by
  refine ⟨fun s tk hb hq hst => ?resident, fun s tk hlt hat => ⟨execSealEvaluation_rests hat, fun hst hw he => ?_⟩⟩
  case resident =>
    refine ⟨_, execTicketResident_runs hb hq hst, ?_, ?_, ?_, fun k hk => ⟨?_, ?_⟩⟩
    · rw [State.makeResident_ticket, if_pos rfl]
    · rw [State.makeResident_ticket, if_pos rfl]; exact hst
    · rw [State.mem_makeResident_queue]; exact fun h => h.2 rfl
    · rw [State.makeResident_ticket, if_neg hk]
    · rw [State.mem_makeResident_queue, and_iff_left hk]
  have hx := execSealEvaluation_runs hlt hat hst hw he
  refine ⟨fun h0 => ?seals, fun h0 => ?stays, fun a => ?error⟩
  case seals =>
    have hx := hx none
    rw [show s.evalMask tk none = 0 from h0, if_pos rfl] at hx
    refine ⟨_, hx, ?_⟩
    rw [State.sealTicket_ticket, State.sealTicket_sheets, State.sealTicket_mode, State.holds_noteMask]
    refine ⟨rfl, rfl, rfl, rfl, rfl, rfl, rfl, fun h => if_pos h, fun h => if_neg h, fun ho => ?_⟩
    exact State.sealTicket_raised _ ho
  case stays =>
    have hx := hx none
    rw [show s.evalMask tk none = s.sealMask tk from rfl, if_neg h0] at hx
    refine ⟨_, hx, ?_⟩
    rw [State.noteMask_ticket]
    exact ⟨hst, rfl, rfl, rfl⟩
  case error =>
    have hx := hx (some a)
    have hbit := s.evalMask_resource tk a
    obtain ⟨hstate, hres⟩ := s.loseResidency_ticket tk a
    rw [if_neg (fun h => by rw [h] at hbit; exact absurd hbit (by decide))] at hx
    refine ⟨_, hx, ?_⟩
    rw [State.noteMask_ticket]
    exact ⟨hstate.trans hst, hres, hbit⟩

end Sys2Proof.Proofs
end

section
namespace Sys2Proof.Machine
open Sys2Proof Sys2Proof.Claims
variable {s : State} {tk entry : Nat} {e : TEntry}

/-! ### An entry that is missed (R124) -/

/-- A spoil counts no entry as missed. -/
theorem State.spoil_missed (s : State) (k n cause line j : Nat) : ((s.spoil k n cause line).ticket j).missed = (s.ticket j).missed := by
  obtain ⟨he, -⟩ | ⟨e, hl, he⟩ := s.spoil_cases k n cause line
  · rw [he]
  · rw [he, State.ticket_congr (State.raise_sheets_of_latch_nil _ hl), State.setTicket_get]
    split
    · next h => rw [h]; rfl
    · rfl

/-- The event of a missed entry. -/
def missEv (tk i mask : Nat) : Ev := { code := 0x0221, obj := obj clsTK tk, sheet := true, fields := [obj clsTK tk, i, mask] }

/-- The stations of an entry's mask are spoiled. -/
def State.spoilStations (s : State) (tk : Nat) (e : TEntry) : State :=
  (List.range 8).foldl (fun u n => if bit e.spoil n then u.spoil tk n 5 noLine else u) s

theorem State.entryMissed_eq (s : State) (tk i : Nat) (e : TEntry) (mask : Nat) : s.entryMissed tk i e mask
    = ((s.updTicket tk (fun t => t.miss i)).raise (missEv tk i mask)).spoilStations tk e := rfl

theorem State.spoilStations_keeps {γ : Type} (g : State → γ) (hg : ∀ (u : State) (k n c l : Nat), g (u.spoil k n c l) = g u) :
    g (s.spoilStations tk e) = g s :=
  foldl_keeps g (fun u n => by split; exacts [hg u tk n 5 noLine, rfl]) _ s

theorem State.spoilStations_steady (s : State) (tk : Nat) (e : TEntry) : Steady s (s.spoilStations tk e) :=
  .foldl (fun u n => .ite (u.spoil_steady tk n 5 noLine) (.refl u)) _ s

theorem State.entryMissed_missed (s : State) (tk i : Nat) (e : TEntry) (mask : Nat) :
    ((s.entryMissed tk i e mask).ticket tk).missed = satAdd 16 (s.ticket tk).missed 1 := by
  rw [State.entryMissed_eq, State.spoilStations_keeps (fun u => (u.ticket tk).missed) (fun u k n c l => u.spoil_missed k n c l tk)]
  rw [State.ticket_congr (State.raise_sheets_of_latch_nil _ rfl), State.updTicket_get, if_pos rfl]
  rfl

theorem State.entryMissed_params (s : State) (tk i : Nat) (e : TEntry) (mask : Nat) : (s.entryMissed tk i e mask).params = s.params := by
  rw [State.entryMissed_eq, State.spoilStations_keeps (fun u => u.params) State.spoil_params, State.raise_params, State.updTicket_params]

theorem State.entryMissed_drive (s : State) (tk i : Nat) (e : TEntry) (mask : Nat) : (s.entryMissed tk i e mask).drive = s.drive := by
  rw [State.entryMissed_eq, State.spoilStations_keeps (fun u => u.drive) State.spoil_drive, State.raise_drive, State.updTicket_drive]

theorem State.entryMissed_raised (i : Nat) (e : TEntry) (mask : Nat) (ho : s.objHere (obj clsTK tk) = true) :
    Raised (s.entryMissed tk i e mask) 0x0221 (obj clsTK tk) [obj clsTK tk, i, mask] := by
  rw [State.entryMissed_eq]
  exact (State.spoilStations_steady _ _ _).toOnward.raised (by decide)
    (State.raised_raise (s := s.updTicket tk (fun t => t.miss i)) (e := missEv tk i mask) ho)

/-! ### An uncorrectable error of the timeline -/

/-- Where a sheet is sealed, the error ends in Safe-hold (Table 17-3, reader 3). -/
theorem State.timelineUe_mode (tk a : Nat) (h : s.md.mode ∈ [Mode.warmUp, .ready, .print, .runOut]) :
    (s.timelineUe tk a).md.mode = .safeHold :=
  State.enterSafeHold_mode _ _ (by rw [(s.reportUe_steady _ _ _ _ _ _).md]; exact h)

/-! ### TIMELINE_ENTRY_TRIGGER -/

/-- An entry is evaluated; the FEED entry makes the ticket RUNNING. -/
def Ticket.evaluated (t : Ticket) (e : TEntry) (i : Nat) (now : Tempo) : Ticket :=
  if e.feed then (t.entryDone i).fed now else t.entryDone i

theorem Ticket.evaluated_missed (t : Ticket) (e : TEntry) (i : Nat) (now : Tempo) : (t.evaluated e i now).missed = t.missed := by
  unfold Ticket.evaluated
  split <;> rfl

section
variable (hat : At s ((s.ticket tk).entryPlace tk entry)) (he : (s.ticket tk).entries[entry]? = some e)
include hat he

theorem execTimelineEntryTrigger_rests
    (h : e.done = true ∨ e.exit = true ∨ (s.ticket tk).state < 3 ∨ s.entryReached (s.ticket tk) e = false) (ue : Option Nat) :
    exec (.timelineEntryTrigger tk entry ue) s = .next s := by
  show execTimelineEntryTrigger tk entry ue s = _
  unfold execTimelineEntryTrigger
  rw [hat]
  dsimp only
  rw [he]
  refine congrArg _ (if_neg ?_)
  obtain h | h | h | h := h
  · simp [h]
  · simp [h]
  · simp [Nat.not_le.2 h]
  · simp [h]

variable (hlt : tk < 256) (hst : 3 ≤ (s.ticket tk).state) (hd : e.done = false) (hx : e.exit = false)
  (hr : s.entryReached (s.ticket tk) e = true)
include hlt hst hd hx hr

theorem execTimelineEntryTrigger_evaluates : exec (.timelineEntryTrigger tk entry none) s = .next (
    if s.preMask e.pres = 0 then (s.updTicket tk (fun t => t.evaluated e entry s.tempo)).applyActions (some tk) e.actions
    else (s.updTicket tk (fun t => t.evaluated e entry s.tempo)).entryMissed tk entry e (s.preMask e.pres)) := by
  show execTimelineEntryTrigger tk entry none s = _
  unfold execTimelineEntryTrigger
  rw [hat]
  dsimp only
  rw [he]
  exact congrArg _ (if_pos (by simp [hlt, hst, hd, hx, hr]))

theorem execTimelineEntryTrigger_error (a : Nat) :
    exec (.timelineEntryTrigger tk entry (some a)) s = .next (s.timelineUe tk a) := by
  show execTimelineEntryTrigger tk entry (some a) s = _
  unfold execTimelineEntryTrigger
  rw [hat]
  dsimp only
  rw [he]
  exact congrArg _ (if_pos (by simp [hlt, hst, hd, hx, hr]))

end

end Sys2Proof.Machine

namespace Sys2Proof.Proofs
open Sys2Proof Sys2Proof.Machine Sys2Proof.Claims

/-- Settles O24: an entry that is reached applies its actions or is missed, by its mask. -/
theorem aTimelineEntryFiresAllOrNothing : Obligations.ATimelineEntryFiresAllOrNothing := by
  intro s u tk entry e hlt hat he
  refine ⟨execTimelineEntryTrigger_rests hat he, fun hst hd hx hr hu => ?_⟩
  have hrun := execTimelineEntryTrigger_evaluates hat he hlt hst hd hx hr
  rw [show s.updTicket tk (fun t => t.evaluated e entry s.tempo) = u from hu.symm] at hrun
  refine ⟨fun h0 => ?applied, fun h0 ho => ?missed,
    fun a => ⟨_, execTimelineEntryTrigger_error hat he hlt hst hd hx hr a, State.timelineUe_mode tk a⟩⟩
  case applied => rw [hrun, if_pos h0]
  case missed =>
    rw [if_neg h0] at hrun
    have hm : (u.ticket tk).missed = (s.ticket tk).missed := by
      rw [hu, State.updTicket_get, if_pos rfl]
      exact Ticket.evaluated_missed _ _ _ _
    refine ⟨_, hrun, ?_, ?_, ?_, ?_⟩
    · rw [State.entryMissed_missed, hm]
    · rw [State.entryMissed_params, hu, State.updTicket_params]
    · rw [State.entryMissed_drive, hu, State.updTicket_drive]
    · exact State.entryMissed_raised _ _ _ (by rw [hu]; exact ho)

end Sys2Proof.Proofs
end

section
namespace Sys2Proof.Machine
open Sys2Proof Sys2Proof.Claims
variable (s : State)

/-! ### The actions of an entry take no tempo -/

theorem State.pllSubst_tempo (p : Nat) : (s.pllSubst p).tempo = s.tempo := by
  unfold State.pllSubst
  dsimp only
  split
  · rw [State.raise_tempo]; rfl
  · rfl

theorem State.recallSlot_tempo (n k : Nat) : (s.recallSlot n k).tempo = s.tempo := by
  have acquire (u : State) (p : Nat) : (u.pllAcquire p).tempo = u.tempo := by
    have hb : (u.edgesBegin p).tempo = u.tempo := by
      unfold State.edgesBegin
      split <;> rfl
    unfold State.pllAcquire
    split
    · rfl
    · exact hb
  unfold State.recallSlot
  dsimp only
  split
  · rw [acquire]
    exact s.pllSubst_tempo _
  · exact State.raise_tempo _ _

theorem State.bandSlot_tempo (n k : Nat) : (s.bandSlot n k).tempo = s.tempo := by
  unfold State.bandSlot
  split
  · rfl
  · split
    · rfl
    · exact s.recallSlot_tempo n k

theorem State.legWindow_tempo (k j : Nat) : (s.legWindow k j).tempo = s.tempo := by
  unfold State.legWindow State.legKeep
  dsimp only
  split
  · rw [State.raise_tempo]; rfl
  · rfl

theorem State.gpioOut_tempo (before : Option Bool) (i : Nat) : (s.gpioOut before i).tempo = s.tempo := by
  unfold State.gpioOut
  split
  · split <;> rfl
  · rfl

theorem State.applyParam_tempo (a v : Nat) : (s.applyParam a v).tempo = s.tempo := by
  unfold State.applyParam
  dsimp only
  split
  case isTrue => -- a station: line adjustment, slot store, slot recall
    split
    · rfl
    · split
      · split
        · exact State.pllSubst_tempo _ _
        · rfl
      · split
        · exact State.bandSlot_tempo _ _ _
        · rfl
  case isFalse =>
    split
    case isTrue => -- a tile: loop coefficients and endpoint registers
      split
      · split
        · exact (State.heatWindow_steady _ _).tempo
        · split
          · exact foldl_keeps (fun u : State => u.tempo) (fun u j => u.legWindow_tempo _ j) _ _
          · rfl
      · split <;> rfl
    case isFalse =>
      split
      case isTrue => -- a master encoder
        split
        · rfl
        · split <;> rfl
      case isFalse =>
        split
        · exact State.gpioOut_tempo _ _ _
        · split <;> rfl

theorem State.commitTable_tempo (tid inst : Nat) : (s.commitTable tid inst).tempo = s.tempo := by
  have checked (u : State) : (u.checkTable tid inst).tempo = u.tempo := by
    unfold State.checkTable
    split
    · exact u.raise_tempo _
    · rfl
  have mended (u : State) : (u.tableMended tid inst).tempo = u.tempo := by
    unfold State.tableMended
    dsimp only
    split
    · split <;> rfl
    · rfl
  have noted (u : State) (b : Nat) : (u.noteRewritten inst b).tempo = u.tempo := rfl
  have gains (u : State) (b : Nat) : ((if (s.tile inst).prot = .disabled then u else u.checkTable tid inst).noteRewritten inst b).tempo
      = u.tempo := by
    rw [noted]
    split
    · rfl
    · exact checked u
  unfold State.commitTable
  dsimp only
  split
  · exact gains _ _
  · exact gains _ _
  · rfl
  · rfl
  · exact mended _

theorem State.profileStart_tempo (o : Nat) : (s.profileStart o).tempo = s.tempo := by
  unfold State.profileStart
  dsimp only
  split
  · rw [State.raise_tempo]; rfl
  · split
    · rfl
    · exact s.raise_tempo _
  · exact s.raise_tempo _

theorem State.applyAction_tempo (tk : Option Idx) (a : Action) : (s.applyAction tk a).tempo = s.tempo := by
  unfold State.applyAction
  dsimp only
  split
  case isTrue => -- a parameter
    split
    · exact s.applyParam_tempo _ _
    · rfl
  case isFalse =>
    split
    case isTrue => rfl -- passed over
    case isFalse =>
      split
      case isTrue => -- a table
        split
        · exact s.commitTable_tempo _ _
        · rfl
      case isFalse =>
        split
        case isTrue => -- outputs
          split
          · rfl
          · exact foldl_keeps (fun u : State => u.tempo) (fun u k => (u.outputEnable_steady k a.value).tempo) _ s
        case isFalse => -- a profile, an image
          split
          · exact s.profileStart_tempo _
          · split <;> rfl

theorem State.applyActions_tempo (tk : Option Idx) (as : List Action) : (s.applyActions tk as).tempo = s.tempo :=
  foldl_keeps (fun u : State => u.tempo) (fun u a => u.applyAction_tempo tk a) as s

/-! ### What the tiles do at the entry into Safe-hold leaves the sheets -/

theorem State.polyTo_sheets (k : Nat) (st : Poly) : (s.polyTo k st).sheets = s.sheets := by
  unfold State.polyTo
  dsimp only
  split
  · rfl
  · exact State.raise_sheets_of_latch_nil _ rfl

theorem State.endRunout_sheets (o cause : Nat) : (s.endRunout o cause).sheets = s.sheets := by
  unfold State.endRunout
  dsimp only
  split
  · exact State.raise_sheets_of_latch_nil _ rfl
  · rfl

theorem State.endHold_sheets (o : Nat) : (s.endHold o).sheets = s.sheets := by
  unfold State.endHold
  extract_lets a poly sensor vm a1 s0 s1
  have h0 : s0.sheets = s.sheets := foldl_keeps (fun u : State => u.sheets) (fun u k => by
    dsimp only
    split
    · exact State.polyTo_sheets _ _ _
    · rfl) _ s
  have h1 : s1.sheets = s.sheets := by
    refine Eq.trans ?_ h0
    unfold s1
    split
    · rfl
    · exact State.raise_sheets_of_latch_nil _ rfl
  split
  case h_4 =>
    split
    · exact (State.raise_sheets_of_latch_nil _ rfl).trans h1
    · exact h1
  all_goals exact h1

theorem State.refreshAxis_sheets (o : Nat) : (s.refreshAxis o).sheets = s.sheets := by
  unfold State.refreshAxis
  dsimp only
  split
  · split
    · rfl
    · exact State.endRunout_sheets _ _ _
  · split
    · exact s.endHold_sheets o
    · rfl

theorem State.refresh_sheets (ks : List Nat) : (s.refresh ks).sheets = s.sheets := by
  have axes : ((s.axesOf ks).foldl (fun u o => u.refreshAxis o) s).sheets = s.sheets :=
    foldl_keeps (fun u : State => u.sheets) (fun u o => u.refreshAxis_sheets o) _ s
  refine (foldl_keeps (fun u : State => u.sheets) (fun u k => ?_) ks _).trans axes
  split
  · exact u.endRunout_sheets _ _
  · rfl

theorem State.startRunout_sheets (o : Nat) : (s.startRunout o).sheets = s.sheets := by
  unfold State.startRunout
  dsimp only
  split <;> rfl

theorem State.holdTiles_sheets : s.holdTiles.sheets = s.sheets := by
  unfold State.holdTiles
  refine (State.refresh_sheets _ _).trans (foldl_keeps (fun u : State => u.sheets) (fun u o => ?_) _ s)
  split
  · split
    · rfl
    · exact u.startRunout_sheets o
  · exact foldl_keeps (fun v : State => v.sheets) (fun v k => by split <;> rfl) _ u

/-- Of the sheets, the entry into Safe-hold changes what it aborts and disarms (R36, R110, R121). -/
theorem State.enterSafeHold_sheets (code : Nat) (hw : Bool) : (s.enterSafeHold code hw).sheets = s.sheets
    ∨ (s.enterSafeHold code hw).sheets = s.abortSheets.disarmTickets.disarmSlots.sheets := by
  by_cases h : s.md.mode ∈ [Mode.warmUp, .ready, .print, .runOut]
  · have held : s.enterSafeHold code hw = (({ s.abortSheets.disarmTickets.disarmSlots with
        md := { s.abortSheets.disarmTickets.disarmSlots.md with pend := none } }.toMode .safeHold hw).raise
        { code := 0x0c12, fields := [code], sheet := s.anySealed }).holdTiles := by
      unfold State.enterSafeHold
      simp only [List.mem_cons, List.not_mem_nil, or_false] at h
      obtain h | h | h | h := h <;> rw [h]
    right
    rw [held, State.holdTiles_sheets, State.raise_sheets_of_latch_nil _ rfl, State.toMode_sheets]
  · obtain he | he := State.enterSafeHold_of_rest code hw h
    · exact .inl (by rw [he])
    · exact .inl (by rw [he]; rfl)

end Sys2Proof.Machine
end

section
namespace Sys2Proof.Machine
open Sys2Proof Sys2Proof.Claims
variable {s t : State} {tk : Nat} {r : Report} {e : TEntry}

/-! ### A sheet that has ended -/

/-- The ticket is BUILT, and the report waits. -/
structure Ended (tk : Nat) (r : Report) (s : State) : Prop where
  built : (s.ticket tk).state = 1
  report : r ∈ s.sheets.reports

theorem Ended.of_sheets (h : Ended tk r s) (hs : t.sheets = s.sheets) : Ended tk r t := by
  refine ⟨?_, hs ▸ h.report⟩
  rw [State.ticket_congr hs]
  exact h.built

theorem State.releaseTicket_reports (s : State) (tk : Nat) : (s.releaseTicket tk).sheets.reports = s.sheets.reports := by
  rw [State.releaseTicket_sheets]
  rfl

theorem Ended.releaseTicket (h : Ended tk r s) (k : Nat) : Ended tk r (s.releaseTicket k) := by
  refine ⟨?_, by rw [State.releaseTicket_reports]; exact h.report⟩
  rw [State.releaseTicket_ticket]
  split
  · rfl
  · exact h.built

theorem Ended.fall (h : Ended tk r s) (k mask outcome : Nat) : Ended tk r (s.fall k mask outcome) := by
  have hr := h.releaseTicket k
  refine Ended.of_sheets (s := (s.releaseTicket k).updTicket k _) ⟨?_, hr.report⟩ (State.raise_sheets_of_latch_nil _ rfl)
  rw [State.updTicket_get]
  split
  · next hk => subst hk; exact hr.built
  · exact hr.built

theorem Ended.disarmTickets (h : Ended tk r s) : Ended tk r s.disarmTickets :=
  foldl_pred (P := Ended tk r) (fun _ k hu => hu.fall k 1 3) h

theorem Ended.disarmSlots (h : Ended tk r s) : Ended tk r s.disarmSlots :=
  foldl_pred (P := Ended tk r) (fun _ _ hu => ⟨hu.built, hu.report⟩) h

theorem State.endImages_videoOnly (s : State) (tk : Nat) : VideoOnly s (s.endImages tk) := .foldl (fun _ _ => ⟨_, rfl⟩) _ s

/-- The report of a sheet that ends (Table 5-12). -/
def State.sheetReport (s : State) (tk outcome : Nat) : Report :=
  { ticket := tk, tempo := s.tempo, payload := ((s.endImages tk).ticket tk).report outcome }

/-- The images of a sheet have ended, and its report is queued (R123). -/
def State.reported (s : State) (tk outcome : Nat) : State :=
  { s.endImages tk with sheets := { (s.endImages tk).sheets with
    reports := (s.endImages tk).sheets.reports ++ [s.sheetReport tk outcome] } }

theorem State.endSheet_eq (s : State) (tk outcome : Nat) : s.endSheet tk outcome = (s.reported tk outcome).releaseTicket tk := rfl

theorem State.endSheet_ended (s : State) (tk outcome : Nat) : Ended tk (s.sheetReport tk outcome) (s.endSheet tk outcome) := by
  rw [State.endSheet_eq]
  refine ⟨?_, ?_⟩
  · rw [State.releaseTicket_ticket, if_pos rfl]; rfl
  · rw [State.releaseTicket_reports]
    exact List.mem_append_right _ (List.mem_singleton.2 rfl)

theorem Ended.endSheet (h : Ended tk r s) (k outcome : Nat) : Ended tk r (s.endSheet k outcome) := by
  have hi := h.of_sheets (s.endImages_videoOnly k).sheets
  have hr : Ended tk r (s.reported k outcome) := ⟨hi.built, List.mem_append_left _ hi.report⟩
  rw [State.endSheet_eq]
  exact hr.releaseTicket k

theorem Ended.spoil (h : Ended tk r s) (k n cause line : Nat) : Ended tk r (s.spoil k n cause line) := by
  refine ⟨((s.spoil_ticket k n cause line).1.state tk).trans h.built, ?_⟩
  obtain ⟨_, _, _, _, _, _, _, hs⟩ := s.spoil_eq k n cause line
  rw [hs]
  exact h.report

theorem Ended.abortSheets (h : Ended tk r s) : Ended tk r s.abortSheets :=
  foldl_pred (P := Ended tk r) (fun _ k hu =>
    Ended.endSheet (foldl_pred (P := Ended tk r) (fun _ n hv => hv.spoil k n 6 noLine) hu) k 2) h

theorem Ended.enterSafeHold (h : Ended tk r s) (code : Nat) (hw : Bool) : Ended tk r (s.enterSafeHold code hw) := by
  obtain hs | hs := s.enterSafeHold_sheets code hw
  · exact h.of_sheets hs
  · exact h.abortSheets.disarmTickets.disarmSlots.of_sheets hs

/-- What follows the last exit leaves the sheets that have ended. -/
theorem Ended.afterExit (h : Ended tk r s) : Ended tk r s.afterExit := by
  unfold State.afterExit State.watchdogHold
  split
  · exact h
  · split
    · split
      · exact h.enterSafeHold _ _
      · exact h
    · split
      · exact h.of_sheets (State.toMode_sheets _ _ _)
      · split
        · exact foldl_pred (P := Ended tk r) (fun u o hu => hu.of_sheets (u.startRunout_sheets o)) h
        · exact h

/-! ### EXIT_CASTLE -/

/-- The exit castle fires: what was not evaluated before it counts as missed, and its actions are applied (R123). -/
def State.exitFired (s : State) (tk : Nat) (e : TEntry) : State :=
  let left := ((s.ticket tk).entries.zipIdx.filter (fun x => !x.1.done && !x.1.exit)).map (fun x => x.2)
  (s.updTicket tk (fun t => left.foldl (fun u i => u.miss i) (if e.feed then t.fed s.tempo else t))).applyActions (some tk) e.actions

theorem State.exitFired_tempo (s : State) (tk : Nat) (e : TEntry) : (s.exitFired tk e).tempo = s.tempo := State.applyActions_tempo _ _ _

section
variable (hlt : tk < 256) (hat : At s ((s.ticket tk).entryPlace tk (((s.ticket tk).entries.findIdx? (fun e => e.exit)).getD 0)))
  (he : (s.ticket tk).entries.find? (fun e => e.exit) = some e)
  (hst : 3 ≤ (s.ticket tk).state) (hr : s.entryReached (s.ticket tk) e = true)
include hlt hat he hst hr

theorem execExitCastle_ends : exec (.exitCastle ⟨tk, none⟩) s = .next (((s.exitFired tk e).endSheet tk
    (if ((s.exitFired tk e).ticket tk).spoil = 0 then 0 else 1)).afterExit) := by
  show execExitCastle ⟨tk, none⟩ s = _
  unfold execExitCastle
  dsimp only
  rw [hat, he]
  exact congrArg _ (if_pos (by simp [hlt, hst, hr]))

theorem execExitCastle_error (a : Nat) : exec (.exitCastle ⟨tk, some a⟩) s = .next (s.timelineUe tk a) := by
  show execExitCastle ⟨tk, some a⟩ s = _
  unfold execExitCastle
  dsimp only
  rw [hat, he]
  exact congrArg _ (if_pos (by simp [hlt, hst, hr]))

end

/-! ### SHEET_OVERRUN -/

/-- The event of a sheet whose exit has not fired in time. -/
def State.overrunEv (s : State) (tk : Nat) : Ev :=
  { code := 0x0222, obj := obj clsTK tk, fields := [obj clsTK tk, (s.ticket tk).sealTempo], latch := [obj clsTK tk], sheet := true }

theorem execSheetOverrun_overruns (hlt : tk < 256) (hat : At s inTimeouts) (hst : 3 ≤ (s.ticket tk).state)
    (hd : (s.ticket tk).sealTempo + (s.ticket tk).maxSpan * 65536 ≤ s.tempo) :
    exec (.sheetOverrun tk) s = .next ((s.raise (s.overrunEv tk)).enterSafeHold 0x0222) := by
  show execSheetOverrun tk s = _
  unfold execSheetOverrun
  rw [hat]
  exact congrArg _ (if_pos (by simp [hlt, hst, hd]))

end Sys2Proof.Machine

namespace Sys2Proof.Proofs
open Sys2Proof Sys2Proof.Machine Sys2Proof.Claims

/-- Settles O25: the exit ends the sheet, and the overrun latches its fault before Safe-hold. -/
theorem aSealedSheetEndsAtItsExitOrItsOverrun : Obligations.ASealedSheetEndsAtItsExitOrItsOverrun := by
  refine ⟨fun s tk e hlt hat he hst hr => ⟨?exit, fun a => ?error⟩, fun s tk hlt hat hst ho hd => ?overrun⟩
  case exit =>
    have hend := (State.endSheet_ended (s.exitFired tk e) tk (if ((s.exitFired tk e).ticket tk).spoil = 0 then 0 else 1)).afterExit
    exact ⟨_, execExitCastle_ends hlt hat he hst hr, hend.built, _, hend.report, rfl, s.exitFired_tempo tk e⟩
  case error => exact ⟨_, execExitCastle_error hlt hat he hst hr a, State.timelineUe_mode tk a⟩
  case overrun =>
    have hl : (s.raise (s.overrunEv tk)).latched 0x0222 (obj clsTK tk) = true :=
      State.latched_raise (e := s.overrunEv tk) ho ho (List.mem_singleton.2 rfl)
    exact ⟨_, execSheetOverrun_overruns hlt hat hst hd, (State.enterSafeHold_onward _ _).latched hl,
      fun hm => State.enterSafeHold_mode _ _ (by rw [State.raise_md]; exact hm)⟩

end Sys2Proof.Proofs
end

section
namespace Sys2Proof.Machine
open Sys2Proof Sys2Proof.Claims
variable {s t u : State} {me o : Nat} {delta pos : Int}

/-! ### Lists without repeats -/

theorem uniq_nodup (xs : List Nat) : (uniq xs).Nodup := by
  refine foldl_pred (P := List.Nodup) (fun a x h => ?_) List.nodup_nil
  split
  · exact h
  · next hx =>
    refine List.nodup_append.2 ⟨h, List.nodup_singleton x, fun y hy z hz he => hx ?_⟩
    rw [← List.mem_singleton.1 hz, ← he]
    exact List.contains_iff_mem.2 hy

theorem mem_uniq_of_mem {xs : List Nat} {y : Nat} (h : y ∈ xs) : y ∈ uniq xs := by
  obtain ⟨os, ps, rfl⟩ := List.append_of_mem h
  unfold uniq
  rw [List.foldl_append, List.foldl_cons]
  refine foldl_pred (P := (y ∈ ·)) (fun a x ha => ?_) ?_
  · split
    · exact ha
    · exact List.mem_append_left _ ha
  · split
    · next hc => exact List.contains_iff_mem.1 hc
    · exact List.mem_append_right _ (List.mem_singleton.2 rfl)

/-! ### What a count of a gearing unit leaves -/

/-- From `s` to `t` records only grow, the units that are there and the encoders stay, and of the gearing units only those of a list
may have moved. -/
structure GearsMove (os : List Nat) (s t : State) : Prop extends Steady s t where
  die : t.die = s.die
  removed : t.removed = s.removed
  encs : t.clk.encs = s.clk.encs
  gear : ∀ k, k ∉ os → t.gear k = s.gear k

theorem GearsMove.refl (s : State) : GearsMove [] s s := ⟨.refl s, rfl, rfl, rfl, fun _ _ => rfl⟩

theorem GearsMove.trans {os ps : List Nat} (h : GearsMove os s t) (k : GearsMove ps t u) : GearsMove (os ++ ps) s u := by
  refine ⟨h.toSteady.trans k.toSteady, k.die.trans h.die, k.removed.trans h.removed, k.encs.trans h.encs, fun j hj => ?_⟩
  rw [List.mem_append, not_or] at hj
  exact (k.gear j hj.2).trans (h.gear j hj.1)

theorem GearsMove.after {os : List Nat} (h : GearsMove os s t) (k : GearsMove [] t u) : GearsMove os s u :=
  List.append_nil os ▸ h.trans k

theorem GearsMove.ite {os : List Nat} {c : Prop} [Decidable c] (h : GearsMove os s t) (k : GearsMove os s u) :
    GearsMove os s (if c then t else u) := by
  split
  · exact h
  · exact k

theorem GearsMove.foldl {f : State → Nat → State} (hf : ∀ u o, GearsMove [o] u (f u o)) (os : List Nat) (s : State) :
    GearsMove os s (os.foldl f s) := by
  induction os generalizing s with
  | nil => exact .refl s
  | cons o os ih => exact (hf s o).trans (ih (f s o))

theorem GearsMove.objHere {os : List Nat} (h : GearsMove os s t) (o : Nat) : t.objHere o = s.objHere o :=
  State.objHere_congr h.die h.removed o

theorem GearsMove.enc {os : List Nat} (h : GearsMove os s t) (k : Nat) : t.enc k = s.enc k := by
  unfold State.enc; rw [h.encs]

theorem State.raise_gearsMove (s : State) (e : Ev) : GearsMove [] s (s.raise e) :=
  ⟨s.raise_steady e, s.raise_die e, s.raise_removed e, by rw [State.raise_clk], fun k _ => s.raise_gear e k⟩

theorem State.setGear_gearsMove (s : State) (o : Nat) (g : Gear) : GearsMove [o] s (s.setGear o g) := by
  refine ⟨.of_eq rfl, rfl, rfl, rfl, fun k hk => ?_⟩
  rw [State.setGear_get, if_neg (by simpa using hk)]

theorem State.int64_gearsMove (s : State) (x : Int) : GearsMove [] s (s.int64 x).2 := by
  unfold State.int64
  split
  · exact .refl s
  · exact ⟨.of_eq rfl, rfl, rfl, rfl, fun _ _ => rfl⟩

theorem State.axisGear_gearsMove (s : State) (o : Nat) (engage : Bool) : GearsMove [] s (s.axisGear o engage) := by
  unfold State.axisGear
  exact .ite (.refl s) ⟨.of_eq rfl, rfl, rfl, rfl, fun _ _ => rfl⟩

theorem State.regChange_gearsMove (s : State) (n : Nat) (was : Bool) : GearsMove [] s (s.regChange n was) := by
  unfold State.regChange
  exact .ite (s.raise_gearsMove _) (.ite (s.raise_gearsMove _) (.refl s))

theorem State.stationGear_gearsMove (s : State) (o : Nat) (was : Bool) : GearsMove [] s (s.stationGear o was) := by
  unfold State.stationGear
  refine .ite (GearsMove.after ?_ (State.regChange_gearsMove _ _ _)) (.refl s)
  exact ⟨.of_eq rfl, rfl, rfl, rfl, fun _ _ => rfl⟩

/-! ### A count at one gearing unit (R155, R156) -/

/-- The gearing unit after the ratio in force has taken the count, and the state that this leaves. -/
def State.counts (s : State) (me : Nat) (delta : Int) (o : Nat) : Gear × State :=
  if (s.gear o).master = me + 1 ∧ (s.gear o).d ≠ 0 then s.geared (s.gear o) delta else (s.gear o, s)

/-- What a switch to the pending ratio does beyond the gearing unit itself. -/
def State.switched (s : State) (o : Nat) (g : Gear) (p : GearPend) : State :=
  let s1 := s.setGear o ((s.gearStart o g).switchTo p)
  let was := s.regVal (aIdx o)
  let s2 := if p.master = 0 then (s1.axisGear o false).stationGear o was
    else if g.master = 0 then (s1.axisGear o true).stationGear o was else s1
  s2.raise { code := 0x0320, obj := o, fields := [o, i64 p.p, i64 (s.gearStart o g).s] }

theorem State.counts_pend (s : State) (me : Nat) (delta : Int) (o : Nat) : (s.counts me delta o).1.pend = (s.gear o).pend := by
  unfold State.counts; split <;> rfl

theorem State.counts_master (s : State) (me : Nat) (delta : Int) (o : Nat) : (s.counts me delta o).1.master = (s.gear o).master := by
  unfold State.counts; split <;> rfl

theorem State.counts_gearsMove (s : State) (me : Nat) (delta : Int) (o : Nat) : GearsMove [] s (s.counts me delta o).2 := by
  unfold State.counts
  split
  · exact s.int64_gearsMove _
  · exact .refl s

/-- The pair of `State.counts`, part by part, as a count of an encoder computes it. -/
theorem State.counts_parts (s : State) (me : Nat) (delta : Int) (o : Nat) :
    (s.counts me delta o).1 =
        (if decide ((s.gear o).master = me + 1 ∧ (s.gear o).d ≠ 0) = true then (s.geared (s.gear o) delta).1 else s.gear o)
      ∧ (s.counts me delta o).2 =
        (if decide ((s.gear o).master = me + 1 ∧ (s.gear o).d ≠ 0) = true then (s.geared (s.gear o) delta).2 else s) := by
  unfold State.counts
  simp only [decide_eq_true_eq]
  split
  · exact ⟨rfl, rfl⟩
  · exact ⟨rfl, rfl⟩

/-- Without a pending switch the count is all. -/
theorem State.gearCount_of_none (h : (s.gear o).pend = none) :
    s.gearCount me delta pos o = (s.counts me delta o).2.setGear o (s.counts me delta o).1 := by
  obtain ⟨h1, h2⟩ := s.counts_parts me delta o
  have hp := (s.counts_pend me delta o).trans h
  unfold State.gearCount
  dsimp only
  simp only [← h1, ← h2, hp]

/-- A pending ratio is put in force when the count reaches its position. -/
theorem State.gearCount_of_some {p : GearPend} (h : (s.gear o).pend = some p) : s.gearCount me delta pos o =
    if (s.counts me delta o).1.waitsFor = me + 1 ∧ p.p ≤ pos then (s.counts me delta o).2.switched o (s.counts me delta o).1 p
    else (s.counts me delta o).2.setGear o (s.counts me delta o).1 := by
  obtain ⟨h1, h2⟩ := s.counts_parts me delta o
  have hp := (s.counts_pend me delta o).trans h
  have hm := s.counts_master me delta o
  unfold State.gearCount State.switched
  dsimp only
  simp only [← h1, ← h2, hp, hm]

theorem State.switched_gearsMove (s : State) (o : Nat) (g : Gear) (p : GearPend) : GearsMove [o] s (s.switched o g p) := by
  unfold State.switched
  dsimp only
  refine GearsMove.after ?_ (State.raise_gearsMove _ _)
  have h1 := s.setGear_gearsMove o ((s.gearStart o g).switchTo p)
  refine .ite ?_ (.ite ?_ h1)
  · exact (h1.after (State.axisGear_gearsMove _ _ _)).after (State.stationGear_gearsMove _ _ _)
  · exact (h1.after (State.axisGear_gearsMove _ _ _)).after (State.stationGear_gearsMove _ _ _)

theorem State.gearCount_gearsMove (s : State) (me : Nat) (delta pos : Int) (o : Nat) : GearsMove [o] s (s.gearCount me delta pos o) := by
  have hc := s.counts_gearsMove me delta o
  have hs := hc.trans ((s.counts me delta o).2.setGear_gearsMove o (s.counts me delta o).1)
  cases hp : (s.gear o).pend with
  | none =>
    rw [State.gearCount_of_none hp]
    exact hs
  | some p =>
    rw [State.gearCount_of_some hp]
    exact .ite (hc.trans (State.switched_gearsMove _ _ _ _)) hs

/-- A unit without a pending switch takes the count alone. -/
theorem State.gearCount_gear (h : (s.gear o).pend = none) : (s.gearCount me delta pos o).gear o = (s.counts me delta o).1 := by
  rw [State.gearCount_of_none h, State.setGear_get, if_pos rfl]

/-- A count of another master is none for a unit. -/
theorem State.counts_of_ne (h : (s.gear o).master ≠ me + 1) : (s.counts me delta o).1 = s.gear o := by
  unfold State.counts
  rw [if_neg (fun hc => h hc.1)]

theorem State.counts_of_eq (h : (s.gear o).master = me + 1) (hd : (s.gear o).d ≠ 0) :
    (s.counts me delta o).1 = (s.geared (s.gear o) delta).1 := by
  unfold State.counts
  rw [if_pos ⟨h, hd⟩]

/-- A slave of the master in count that reaches the switch to another ratio of the same master: it takes the count first. -/
theorem State.gearCount_switches {p : GearPend} (hm : (s.gear o).master = me + 1) (hp : (s.gear o).pend = some p)
    (hw : p.master = me + 1) (hr : p.p ≤ pos) (ho : s.objHere o = true) :
    (∃ g : Gear, (s.gearCount me delta pos o).gear o = g.switchTo p)
      ∧ ∃ x, Raised (s.gearCount me delta pos o) 0x0320 o [o, i64 p.p, x] := by
  have hcm := (s.counts_master me delta o).trans hm
  have hwait : (s.counts me delta o).1.waitsFor = me + 1 := by
    simp only [Gear.waitsFor, (s.counts_pend me delta o).trans hp, hw, if_neg (Nat.succ_ne_zero me)]
  have hc := s.counts_gearsMove me delta o
  generalize hg : (s.counts me delta o).1 = g at hcm hwait
  generalize hu : (s.counts me delta o).2 = u at hc
  have heq : s.gearCount me delta pos o = u.switched o g p := by
    rw [State.gearCount_of_some hp, hg, hu, if_pos ⟨hwait, hr⟩]
  rw [heq]
  unfold State.switched
  dsimp only
  rw [if_neg (by omega), if_neg (by omega)]
  refine ⟨⟨u.gearStart o g, by rw [State.raise_gear, State.setGear_get, if_pos rfl]⟩, i64 (u.gearStart o g).s, ?_⟩
  exact State.raised_raise (e := { code := 0x0320, obj := o, fields := [o, i64 p.p, i64 (u.gearStart o g).s] })
    ((hc.objHere o).trans ho)

/-! ### A count at every gearing unit -/

theorem State.gearCounts_gearsMove (s : State) (me : Nat) (delta pos : Int) :
    GearsMove (uniq (s.clk.gears.map (fun e => e.1))) s (s.gearCounts me delta pos) :=
  GearsMove.foldl (fun u o => u.gearCount_gearsMove me delta pos o) _ s

/-- Each gearing unit takes its count once: of the other units' counts before and after, it sees nothing. -/
theorem State.gearCounts_at (s : State) (me : Nat) (delta pos : Int) (o : Nat) :
    (s.gear o = {} ∧ (s.gearCounts me delta pos).gear o = {})
      ∨ ∃ u os ps, GearsMove os s u ∧ o ∉ os ∧ GearsMove ps (u.gearCount me delta pos o) (s.gearCounts me delta pos) ∧ o ∉ ps := by
  by_cases hmem : o ∈ uniq (s.clk.gears.map (fun e => e.1))
  · obtain ⟨os, ps, hsplit⟩ := List.append_of_mem hmem
    have hn : (os ++ o :: ps).Nodup := hsplit ▸ uniq_nodup _
    obtain ⟨-, hps, hdis⟩ := List.nodup_append.1 hn
    refine .inr ⟨os.foldl (fun u o => u.gearCount me delta pos o) s, os, ps,
      .foldl (fun u o => u.gearCount_gearsMove me delta pos o) _ s, fun h => hdis o h o (List.mem_cons_self ..) rfl, ?_,
      (List.nodup_cons.1 hps).1⟩
    unfold State.gearCounts
    rw [hsplit, List.foldl_append, List.foldl_cons]
    exact .foldl (fun u o => u.gearCount_gearsMove me delta pos o) _ _
  · have hd : s.gear o = {} := by
      obtain hd | hl := Map.get_cases (d := fun _ => ({} : Gear)) s.clk.gears o
      · exact hd
      · exact absurd (mem_uniq_of_mem (List.mem_map.2 ⟨_, hl, rfl⟩)) hmem
    exact .inl ⟨hd, ((s.gearCounts_gearsMove me delta pos).gear o hmem).trans hd⟩

/-- A unit without a pending switch: what it is after a count of a master. -/
theorem State.gearCounts_gear (h : (s.gear o).pend = none) : ∃ u : State, (s.gearCounts me delta pos).gear o = (u.counts me delta o).1
    ∧ u.gear o = s.gear o := by
  obtain ⟨hd, ht⟩ | ⟨u, os, ps, hu, hos, ht, hps⟩ := s.gearCounts_at me delta pos o
  · exact ⟨s, by rw [ht, State.counts_of_ne (by rw [hd]; exact (Nat.succ_ne_zero me).symm), hd], rfl⟩
  · have hg := hu.gear o hos
    exact ⟨u, (ht.gear o hps).trans (State.gearCount_gear (by rw [hg, h])), hg⟩

theorem State.int64_of_range {x : Int} (h : -(2 ^ 63) ≤ x) (h' : x < 2 ^ 63) : s.int64 x = (x, s) := if_pos ⟨h, h'⟩

/-- R155, count by count: `q` is the quotient rounded towards minus infinity, and what is left lies from 0 to D - 1. -/
theorem State.geared_exact {g : Gear} {acc q : Int} (hd : 0 < g.d) (ha : acc = g.r + g.n * delta) (hq : q = Int.fdiv acc g.d) :
    (-(2 ^ 63) ≤ g.s + q → g.s + q < 2 ^ 63 → (s.geared g delta).1.s = g.s + q)
      ∧ ((s.geared g delta).1.r : Int) = acc - q * g.d ∧ (s.geared g delta).1.r < g.d := by
  have hd0 : (0 : Int) < g.d := by exact_mod_cast hd
  have hq' : q = acc / (g.d : Int) := by rw [hq, Int.fdiv_eq_ediv_of_nonneg _ hd0.le]
  have hs : (g.count delta).s = g.s + q := by rw [hq', ha]; rfl
  have hr : (s.geared g delta).1.r = (acc % (g.d : Int)).toNat := by rw [ha]; rfl
  have hr0 := Int.emod_nonneg acc hd0.ne'
  have hlt := Int.emod_lt_of_pos acc hd0
  refine ⟨fun h1 h2 => ?_, ?_, ?_⟩
  · show (s.int64 (g.count delta).s).1 = _
    rw [hs, State.int64_of_range h1 h2]
  · rw [hr, Int.toNat_of_nonneg hr0, hq', Int.emod_def, Int.mul_comm]
  · rw [hr]; omega

/-! ### ME_COUNT_CAPTURE -/

theorem countStep_eq (dir : Nat) (x a b : Bool) : countStep dir x a b = 1 ∨ countStep dir x a b = -1 := ite_eq_or_eq _ _ _

/-- The encoder has taken a count, and no gearing unit yet. -/
def State.posCounted (s : State) (me : Nat) (delta : Int) : State :=
  let e := s.enc me
  let x := s.int64 (e.pos + delta)
  x.2.setEnc me { e with pos := x.1, idxRun := e.idxRun + delta
                         hist := (s.tempo, x.1) :: e.hist.filter (fun h => decide (s.tempo < h.1 + 65536)) }

theorem State.meCount_eq (s : State) (me : Nat) (delta : Int) :
    s.meCount me delta = (s.posCounted me delta).gearCounts me delta (s.int64 ((s.enc me).pos + delta)).1 := rfl

theorem State.posCounted_gear (k : Nat) : (s.posCounted me delta).gear k = s.gear k :=
  (s.int64_gearsMove _).gear k (List.not_mem_nil)

theorem State.posCounted_objHere (k : Nat) : (s.posCounted me delta).objHere k = s.objHere k :=
  (s.int64_gearsMove _).objHere k

theorem State.meCount_pos (h : -(2 ^ 63) ≤ (s.enc me).pos + delta) (h' : (s.enc me).pos + delta < 2 ^ 63) :
    ((s.meCount me delta).enc me).pos = (s.enc me).pos + delta := by
  rw [State.meCount_eq, (State.gearCounts_gearsMove _ _ _ _).enc]
  unfold State.posCounted
  dsimp only
  rw [State.setEnc_get, if_pos rfl, State.int64_of_range h h']

/-- The levels that an encoder has accepted. -/
def State.levelled (s : State) (me : Nat) (a b : Bool) : State := s.setEnc me { s.enc me with a := a, b := b }

section
variable {edge : Tempo} {a b : Bool} (hat : At s inCapture) (hme : me < 8) (hon : s.par clsME me 0x000 = 1)
  (hed : edge + 3 + s.par clsME me 0x002 = s.tempo)
include hat hme hon hed

theorem execMeCountCapture_starts (hs : (s.enc me).started = false) :
    exec (.meCountCapture me ⟨a, b⟩ edge) s = .next (s.setEnc me { s.enc me with started := true, a := a, b := b }) := by
  show execMeCountCapture me ⟨a, b⟩ edge s = _
  unfold execMeCountCapture
  rw [hat]
  simp [hme, State.meOn, hon, State.meAccepts, hed, hs]

theorem execMeCountCapture_counts (hs : (s.enc me).started = true)
    (h : (s.enc me).a ≠ a ∧ (s.enc me).b = b ∨ (s.enc me).a = a ∧ (s.enc me).b ≠ b) :
    ∃ delta, (delta = 1 ∨ delta = -1) ∧ exec (.meCountCapture me ⟨a, b⟩ edge) s = .next ((s.levelled me a b).meCount me delta) := by
  refine ⟨_, countStep_eq (s.par clsME me 0x001) ((s.enc me).a != a) a b, ?_⟩
  show execMeCountCapture me ⟨a, b⟩ edge s = _
  unfold execMeCountCapture
  rw [hat]
  obtain ⟨ha, hb⟩ | ⟨ha, hb⟩ := h
  · simp [hme, State.meOn, hon, State.meAccepts, hed, hs, ha, hb, State.levelled]
  · simp [hme, State.meOn, hon, State.meAccepts, hed, hs, ha, hb, State.levelled]

theorem execMeCountCapture_illegal (hs : (s.enc me).started = true) (ha : (s.enc me).a ≠ a) (hb : (s.enc me).b ≠ b) :
    exec (.meCountCapture me ⟨a, b⟩ edge) s = .next ((s.levelled me a b).meIllegal me) := by
  show execMeCountCapture me ⟨a, b⟩ edge s = _
  unfold execMeCountCapture
  rw [hat]
  simp [hme, State.meOn, hon, State.meAccepts, hed, hs, ha, hb, State.levelled]

end

end Sys2Proof.Machine

namespace Sys2Proof.Proofs
open Sys2Proof Sys2Proof.Machine Sys2Proof.Claims

/-- Settles O43: each gearing unit takes its count once, in `State.geared`. -/
theorem gearedSlavesFollowTheirMasterExactly : Obligations.GearedSlavesFollowTheirMasterExactly := by
  intro s me a b edge hat hme hon hed hs hab
  obtain ⟨delta, hdelta, hx⟩ := execMeCountCapture_counts hat hme hon hed hs hab
  have hpos : ((s.levelled me a b).enc me).pos = (s.enc me).pos := by rw [State.levelled, State.setEnc_get, if_pos rfl]
  have hgear (o : Nat) : ((s.levelled me a b).posCounted me delta).gear o = s.gear o := State.posCounted_gear o
  have hcount (o : Nat) (hp : (s.gear o).pend = none) : ∃ u : State,
      ((s.levelled me a b).meCount me delta).gear o = (u.counts me delta o).1 ∧ u.gear o = s.gear o := by
    rw [State.meCount_eq]
    obtain ⟨u, ht, hu⟩ := State.gearCounts_gear (me := me) (delta := delta) ((hgear o).symm ▸ hp)
    exact ⟨u, ht, hu.trans (hgear o)⟩
  refine ⟨_, delta, hx, hdelta, fun h1 h2 => ?pos, fun o acc q hm hd hp ha hq => ?slave, fun o hm hp => ?other⟩
  case pos => rw [State.meCount_pos (by rw [hpos]; exact h1) (by rw [hpos]; exact h2), hpos]
  case slave =>
    obtain ⟨u, ht, hu⟩ := hcount o hp
    rw [ht, State.counts_of_eq (by rw [hu, hm]) (by rw [hu]; omega), hu]
    obtain ⟨hs, hr, hlt⟩ := State.geared_exact (s := u) hd ha hq
    exact ⟨hs, hr, hlt, hm, rfl, rfl⟩
  case other =>
    obtain ⟨u, ht, hu⟩ := hcount o hp
    rw [ht, State.counts_of_ne (by rw [hu]; exact hm), hu]

end Sys2Proof.Proofs
end

section
namespace Sys2Proof.Machine
open Sys2Proof Sys2Proof.Claims
variable {s : State} {me o : Nat} {edge : Tempo} {a b : Bool}

/-! ### ME_INDEX_EDGE -/

/-- An index edge has completed: position and tempo are stored, and the counts begin afresh (R153). -/
def State.indexed (s : State) (me : Nat) : State :=
  s.setEnc me { s.enc me with idxPos := (s.enc me).pos, idxTempo := s.tempo, idxSeen := true, idxRun := 0 }

/-- By how much the counts since the last index edge differ from the period. -/
def State.idxOff (s : State) (me : Nat) : Nat := (((s.enc me).idxRun.natAbs : Int) - (s.par clsME me 0x005 : Int)).natAbs

/-- The event of a period that is out of tolerance. -/
def State.idxEv (s : State) (me : Nat) : Ev :=
  { code := 0x0312, obj := obj clsME me, fields := [obj clsME me, (s.enc me).idxRun.natAbs] }

/-- The period that an index edge ends is out of tolerance, and is checked. -/
abbrev State.idxBad (s : State) (me : Nat) : Prop :=
  s.par clsME me 0x004 = 2 ∧ (s.enc me).idxSeen = true ∧ s.par clsME me 0x006 < s.idxOff me

/-- The state after an index edge. -/
def State.afterIndex (s : State) (me : Nat) : State := if s.idxBad me then (s.indexed me).raise (s.idxEv me) else s.indexed me

theorem State.indexed_enc (k : Nat) : (s.indexed me).enc k = if k = me then
    { s.enc me with idxPos := (s.enc me).pos, idxTempo := s.tempo, idxSeen := true, idxRun := 0 } else s.enc k := s.setEnc_get _ _ _

theorem State.afterIndex_enc (k : Nat) : (s.afterIndex me).enc k = (s.indexed me).enc k := by
  unfold State.afterIndex
  split
  · exact State.raise_enc _ _ _
  · rfl

theorem State.afterIndex_gears : (s.afterIndex me).clk.gears = s.clk.gears := by
  unfold State.afterIndex
  split
  · rw [State.raise_clk]; rfl
  · rfl

theorem State.afterIndex_faults : (s.afterIndex me).faults = s.faults := by
  unfold State.afterIndex
  split
  · exact State.raise_faults_of_latch_nil _ rfl
  · rfl

theorem State.afterIndex_host (h : ¬ s.idxBad me) : (s.afterIndex me).host = s.host := by
  rw [State.afterIndex, if_neg h]; rfl

theorem State.afterIndex_raised (h : s.idxBad me) (ho : s.objHere (obj clsME me) = true) :
    Raised (s.afterIndex me) 0x0312 (obj clsME me) [obj clsME me, (s.enc me).idxRun.natAbs] := by
  rw [State.afterIndex, if_pos h]
  exact State.raised_raise (e := s.idxEv me) ho

theorem execMeIndexEdge_runs (hat : At s inCapture) (hme : me < 8) (hon : s.par clsME me 0x000 = 1) (hm : s.par clsME me 0x004 ≠ 0)
    (hed : edge + 3 + s.par clsME me 0x002 = s.tempo) : exec (.meIndexEdge ⟨me, edge⟩) s = .next (s.afterIndex me) := by
  show execMeIndexEdge ⟨me, edge⟩ s = _
  unfold execMeIndexEdge
  rw [hat]
  exact congrArg _ (if_pos (by simp [hme, State.meOn, hon, hm, State.meAccepts, hed]))

theorem execMeIndexEdge_idle (hat : At s inCapture)
    (h : s.par clsME me 0x000 ≠ 1 ∨ s.par clsME me 0x004 = 0 ∨ edge + 3 + s.par clsME me 0x002 ≠ s.tempo) :
    exec (.meIndexEdge ⟨me, edge⟩) s = .next s := by
  show execMeIndexEdge ⟨me, edge⟩ s = _
  unfold execMeIndexEdge
  rw [hat]
  refine congrArg _ (if_neg ?_)
  simp only [State.meOn, State.meAccepts, Bool.and_eq_true, decide_eq_true_eq, beq_iff_eq, bne_iff_ne]
  tauto

/-! ### Levels that are no count -/

theorem execMeCountCapture_idle (hat : At s inCapture) (h : s.par clsME me 0x000 ≠ 1 ∨ edge + 3 + s.par clsME me 0x002 ≠ s.tempo) :
    exec (.meCountCapture me ⟨a, b⟩ edge) s = .next s := by
  show execMeCountCapture me ⟨a, b⟩ edge s = _
  unfold execMeCountCapture
  rw [hat]
  refine congrArg _ (if_neg ?_)
  simp only [State.meOn, State.meAccepts, Bool.and_eq_true, decide_eq_true_eq, beq_iff_eq]
  tauto

/-- The illegal transitions of the last 1,000,000 tempo, with one that comes now. -/
def State.errsNow (s : State) (me : Nat) : List Tempo :=
  s.tempo :: (s.enc me).errs.filter (fun t => decide (s.tempo < t + 1000000))

/-- An illegal transition has been counted, and no event raised yet (R152). -/
def State.errCounted (s : State) (me : Nat) : State :=
  s.setEnc me { s.enc me with errCount := satAdd 32 (s.enc me).errCount 1, errs := s.errsNow me, lastErr := s.tempo }

/-- The event of too many illegal transitions. -/
def State.errsEv (s : State) (me : Nat) : Ev :=
  { code := 0x0311, obj := obj clsME me, fields := [obj clsME me, (s.errsNow me).length], latch := [obj clsME me] }

theorem State.meIllegal_eq (s : State) (me : Nat) : ∃ e p sub cf, s.meIllegal me =
    if s.par clsME me 0x003 < (s.errsNow me).length then ((s.errCounted me).raiseLimited e p sub cf).raise (s.errsEv me)
    else (s.errCounted me).raiseLimited e p sub cf :=
  ⟨_, _, _, _, rfl⟩

theorem State.meIllegal_clk : (s.meIllegal me).clk = (s.errCounted me).clk := by
  obtain ⟨e, p, sub, cf, h⟩ := s.meIllegal_eq me
  rw [h]
  split
  · rw [State.raise_clk, State.raiseLimited_clk]
  · rw [State.raiseLimited_clk]

theorem State.meIllegal_enc : (s.meIllegal me).enc me =
    { s.enc me with errCount := satAdd 32 (s.enc me).errCount 1, errs := s.errsNow me, lastErr := s.tempo } := by
  unfold State.enc
  rw [State.meIllegal_clk]
  exact Map.get_put_self _ _ _ _

theorem State.meIllegal_latched (h : s.par clsME me 0x003 < (s.errsNow me).length) (ho : s.objHere (obj clsME me) = true) :
    (s.meIllegal me).latched 0x0311 (obj clsME me) = true := by
  obtain ⟨e, p, sub, cf, he⟩ := s.meIllegal_eq me
  have hu : ((s.errCounted me).raiseLimited e p sub cf).objHere (obj clsME me) = true :=
    (State.raiseLimited_inService _ _ _ _ _ _ _).trans ho
  rw [he, if_pos h]
  exact State.latched_raise (e := s.errsEv me) hu hu (List.mem_singleton.2 rfl)

/-! ### A count that reaches a switch (R156) -/

theorem State.meCount_switches {p : GearPend} {delta : Int} (hm : (s.gear o).master = me + 1) (hp : (s.gear o).pend = some p)
    (hw : p.master = me + 1) (hr : p.p ≤ (s.int64 ((s.enc me).pos + delta)).1) (ho : s.objHere o = true) :
    (∃ g : Gear, (s.meCount me delta).gear o = g.switchTo p) ∧ ∃ x, Raised (s.meCount me delta) 0x0320 o [o, i64 p.p, x] := by
  have hg := State.posCounted_gear (s := s) (me := me) (delta := delta) o
  rw [State.meCount_eq]
  obtain ⟨hd, -⟩ | ⟨u, os, ps, hu, hos, ht, hps⟩ :=
    (s.posCounted me delta).gearCounts_at me delta (s.int64 ((s.enc me).pos + delta)).1 o
  · rw [← hg, hd] at hm
    exact absurd hm (Nat.succ_ne_zero me).symm
  · have hug := (hu.gear o hos).trans hg
    obtain ⟨⟨g, hsw⟩, x, hx⟩ := State.gearCount_switches (delta := delta) (by rw [hug, hm]) (by rw [hug, hp]) hw hr
      ((hu.objHere o).trans ((State.posCounted_objHere o).trans ho))
    exact ⟨⟨g, (ht.gear o hps).trans hsw⟩, x, ht.toOnward.raised (by decide) hx⟩

theorem Gear.switchTo_engages {p : GearPend} (g : Gear) (h : p.master ≠ 0) :
    (g.switchTo p).master = p.master ∧ (g.switchTo p).n = p.n ∧ (g.switchTo p).d = p.d ∧ (g.switchTo p).pend = none := by
  unfold Gear.switchTo
  rw [if_neg h]
  exact ⟨rfl, rfl, rfl, rfl⟩

end Sys2Proof.Machine

namespace Sys2Proof.Proofs
open Sys2Proof Sys2Proof.Machine Sys2Proof.Claims

/-- Settles O44, row by row: `State.afterIndex`, `State.meIllegal`, and a count that reaches a switch. -/
theorem masterEncodersCountAndKeepTheirIndex : Obligations.MasterEncodersCountAndKeepTheirIndex := by
  refine ⟨fun s me edge hat hme hon hm hed => ?index,
    fun s me edge hat => ⟨execMeIndexEdge_idle hat, fun a b => execMeCountCapture_idle hat⟩,
    fun s me edge a b hat hme hon hed => ⟨execMeCountCapture_starts hat hme hon hed, fun hs ha hb ho => ?illegal,
      fun o p hs hab hgm hgd hgp hpm hpos hhi hlo ho => ?switch⟩⟩
  case index =>
    refine ⟨_, execMeIndexEdge_runs hat hme hon hm hed, ?_, State.afterIndex_gears, State.afterIndex_faults, fun k hk => ?_,
      fun h => State.afterIndex_host ?_, fun h2 hseen ho hoff => State.afterIndex_raised ⟨h2, hseen, hoff⟩ ho⟩
    · rw [State.afterIndex_enc, State.indexed_enc, if_pos rfl]
    · rw [State.afterIndex_enc, State.indexed_enc, if_neg hk]
    · rintro ⟨h2, hseen, hoff⟩
      obtain h | h | h := h
      · exact h h2
      · exact Bool.false_ne_true (h.symm.trans hseen)
      · exact Nat.not_lt.2 h hoff
  case illegal =>
    have henc : (s.levelled me a b).enc me = { s.enc me with a := a, b := b } := by rw [State.levelled, State.setEnc_get, if_pos rfl]
    refine ⟨_, execMeCountCapture_illegal hat hme hon hed hs ha hb, ?_, ?_, by rw [State.meIllegal_clk]; rfl,
      fun hlim => State.meIllegal_latched ?_ ho⟩
    · rw [State.meIllegal_enc, henc]
    · rw [State.meIllegal_enc, henc]
    · unfold State.errsNow
      rw [henc]
      exact hlim
  case switch =>
    obtain ⟨delta, hdelta, hx⟩ := execMeCountCapture_counts hat hme hon hed hs hab
    have henc : ((s.levelled me a b).enc me).pos = (s.enc me).pos := by rw [State.levelled, State.setEnc_get, if_pos rfl]
    have hreach : p.p ≤ ((s.levelled me a b).int64 (((s.levelled me a b).enc me).pos + delta)).1 := by
      rw [henc, State.int64_of_range (by omega) (by omega)]
      dsimp only
      omega
    obtain ⟨⟨g, hg⟩, x, hr⟩ := State.meCount_switches (s := s.levelled me a b) (delta := delta) hgm hgp hpm hreach ho
    obtain ⟨hsm, hsn, hsd, hsp⟩ := g.switchTo_engages (p := p) (by omega)
    exact ⟨_, x, hx, hg ▸ hsm.trans hpm, hg ▸ hsn, hg ▸ hsd, hg ▸ hsp, hr⟩

end Sys2Proof.Proofs
end

section
namespace Sys2Proof.Machine
open Sys2Proof Sys2Proof.Claims
variable {s : State} {e mk want : Nat} {c : Byte}

/-! ### TSYNC frames (R133 to R136) -/

theorem execTsyncFrameSend_sends (hr : s.running = true) (hrole : s.par clsDEV 0 0x010 = 1) (hp : s.md.pressOk = true)
    (ht : s.tempo % 2 ^ 20 = 0) : exec .tsyncFrameSend s = .next (s.emit (.tsync (tsyncCells s.tempo))) := by
  show execTsyncFrameSend s = _
  unfold execTsyncFrameSend
  refine congrArg _ (if_pos ?_)
  rw [hr, State.tsRole, hrole, hp, ht]
  rfl

/-- The counter is loaded: the frame's marker edge, captured in tempo `e`, stands for the leader's tempo `want` (R136). -/
def State.tsLoad (s : State) (e want : Nat) : State :=
  let new := (want + (s.tempo - e)) % 2 ^ 64
  { s with tempo := new, follower := true, clk := { s.clk with tsLoaded := true, tsLast := new, tsAgrees := true, tsLost := false } }

/-- The counter goes on, and whether the frame agrees is noted. -/
def State.tsNote (s : State) (agrees : Bool) : State :=
  { s with clk := { s.clk with tsLast := s.tempo, tsAgrees := agrees, tsLost := false } }

/-- The event of a loaded counter. -/
def State.tsLoadEv (s : State) (e want : Nat) : Ev := { code := 0x0307, fields := [s.tempo, (want + (s.tempo - e)) % 2 ^ 64] }

/-- The event of a counter that differs. -/
def tsDiffEv (diff : Int) : Ev := { code := 0x0306, fields := [i64 diff], latch := [objDEV] }

theorem execTsyncFrameReceive_wrongCrc (hat : At s inCapture) (hc : crc8Bits (bitsMSB 44 mk) ≠ c.toNat) :
    exec (.tsyncFrameReceive e mk c) s = .next s := by
  show execTsyncFrameReceive e mk c s = _
  unfold execTsyncFrameReceive
  rw [hat]
  refine congrArg _ (if_neg ?_)
  simp [hc]

section
variable (hr : s.running = true) (hat : At s inCapture) (hrole : s.par clsDEV 0 0x010 = 2) (he : e ≤ s.tempo)
  (hw : want = mk % 2 ^ 44 * 2 ^ 20 + s.par clsDEV 0 0x011) (hc : crc8Bits (bitsMSB 44 mk) = c.toNat)
include hr hat hrole he hw hc

/-- A valid frame loads the counter, or is compared with it. -/
theorem execTsyncFrameReceive_valid : exec (.tsyncFrameReceive e mk c) s = .next (
    if (s.mayLoad && e != want) = true then (s.tsLoad e want).raise (s.tsLoadEv e want)
    else if (s.clk.tsLoaded && decide (1 < ((e : Int) - want).natAbs)) = true then
      (s.tsNote (decide (((e : Int) - want).natAbs ≤ 1))).raise (tsDiffEv ((e : Int) - want))
    else s.tsNote (decide (((e : Int) - want).natAbs ≤ 1))) := by
  subst hw
  show execTsyncFrameReceive e mk c s = _
  unfold execTsyncFrameReceive
  rw [hat]
  exact congrArg _ (if_pos (by simp [hr, State.tsRole, hrole, hc, he]))

theorem execTsyncFrameReceive_loads (hl : s.mayLoad = true) (hne : e ≠ want) :
    exec (.tsyncFrameReceive e mk c) s = .next ((s.tsLoad e want).raise (s.tsLoadEv e want)) := by
  rw [execTsyncFrameReceive_valid hr hat hrole he hw hc, if_pos (by simp [hl, hne])]

theorem execTsyncFrameReceive_differs (hl : s.mayLoad = false) (hld : s.clk.tsLoaded = true) (hd : 1 < ((e : Int) - want).natAbs) :
    exec (.tsyncFrameReceive e mk c) s = .next ((s.tsNote false).raise (tsDiffEv ((e : Int) - want))) := by
  rw [execTsyncFrameReceive_valid hr hat hrole he hw hc, if_neg (by simp [hl]), if_pos (by simp [hld, hd]),
    decide_eq_false (Nat.not_le.2 hd)]

theorem execTsyncFrameReceive_agrees (hl : s.mayLoad = false ∨ e = want) (hd : ((e : Int) - want).natAbs ≤ 1) :
    exec (.tsyncFrameReceive e mk c) s = .next (s.tsNote true) := by
  have hno : ¬ (s.mayLoad && e != want) = true := by
    obtain h | h := hl <;> simp [h]
  rw [execTsyncFrameReceive_valid hr hat hrole he hw hc, if_neg hno, if_neg (by simp [Nat.not_lt.2 hd]), decide_eq_true hd]

end

/-! ### TSYNC_LOST (R137) -/

/-- The loss of the frames has been noted, and is raised and latched next. -/
def State.tsLose (s : State) : State := { s with clk := { s.clk with tsLost := true, tsAgrees := false } }

/-- The event of three frame periods without a valid frame. -/
def State.tsLostEv (s : State) : Ev := { code := 0x0305, fields := [s.clk.tsLast], latch := [objDEV] }

theorem execTsyncLost_loses (hr : s.running = true) (hat : At s inTimeouts) (hrole : s.par clsDEV 0 0x010 = 2)
    (hld : s.clk.tsLoaded = true) (hl : s.clk.tsLost = false) (hd : s.clk.tsLast + 3 * 2 ^ 20 ≤ s.tempo) :
    exec .tsyncLost s = .next (s.tsLose.raise s.tsLostEv) := by
  show execTsyncLost s = _
  unfold execTsyncLost
  rw [hat]
  exact congrArg _ (if_pos (by rw [hr, State.tsRole, hrole, hld, hl, decide_eq_true hd]; rfl))

end Sys2Proof.Machine

namespace Sys2Proof.Proofs
open Sys2Proof Sys2Proof.Machine Sys2Proof.Claims

/-- Settles O45, row by row: a valid frame loads the counter, differs, or agrees. -/
theorem tsyncKeepsACascadeTogether : Obligations.TsyncKeepsACascadeTogether := by
  refine fun s hr => ⟨execTsyncFrameSend_sends hr, fun e mk c want hat hrole he hw =>
    ⟨execTsyncFrameReceive_wrongCrc hat, fun hc ho => ⟨fun hl hne => ?loads, fun hl hld hd => ?differs,
      execTsyncFrameReceive_agrees hr hat hrole he hw hc⟩⟩, fun hat hrole hld hl hd ho => ?lost⟩
  case loads =>
    refine ⟨_, execTsyncFrameReceive_loads hr hat hrole he hw hc hl hne, State.raise_tempo _ _, State.raise_follower _ _, ?_, ?_⟩
    · rw [State.raise_clk]; rfl
    · rw [State.raise_tempo]
      exact State.raised_raise (s := s.tsLoad e want) (e := s.tsLoadEv e want) ho
  case differs =>
    refine ⟨_, execTsyncFrameReceive_differs hr hat hrole he hw hc hl hld hd, State.raise_tempo _ _,
      State.latched_raise (s := s.tsNote false) (e := tsDiffEv ((e : Int) - want)) ho ho (List.mem_singleton.2 rfl), ?_⟩
    rw [State.raise_clk]; rfl
  case lost =>
    refine ⟨_, execTsyncLost_loses hr hat hrole hld hl hd, ?_, State.raise_tempo _ _,
      State.latched_raise (s := s.tsLose) (e := s.tsLostEv) ho ho (List.mem_singleton.2 rfl)⟩
    rw [State.raise_clk]; rfl

end Sys2Proof.Proofs
end

section
namespace Sys2Proof.Machine
open Sys2Proof Sys2Proof.Claims
variable {s t : State} {o k : Nat} {m : Msg} {mv : Move} {now : Tempo}

/-! ### Refusals of the commands to tiles, groups and gearing units -/

/-- A command's object: it is there, in no group, and no sealed sheet has a part of it (R24, R79, R97). -/
structure FreeObj (o : Nat) (classes : List Nat) (s : State) : Prop where
  names : Names o classes s
  parent : s.parent o = none
  sheets : (s.span o).any s.participates = false

theorem State.tileRefs_nil {lock fault : Bool} (h : FreeObj o [clsDT, clsGRP] s) (hf : fault = true → s.anyFault o = false) :
    s.tileRefs o lock fault = [] := by
  have hfault : (fault && s.anyFault o) = false := by
    cases hc : fault
    · rfl
    · exact hf hc
  unfold State.tileRefs
  rw [State.objRefs_nil h.names, h.parent, h.sheets, hfault, Bool.and_false]
  rfl

/-! ### Object addresses -/

theorem aCls_obj {c i : Nat} (hc : c < 256) (hi : i < 4096) : aCls (obj c i) = c := by
  simp only [aCls, obj, addr, field]; omega

theorem aIdx_obj {c i : Nat} (hi : i < 4096) : aIdx (obj c i) = i := by
  simp only [aIdx, obj, addr, field]; omega

/-- A tile that a command names is there. -/
theorem State.tileHere_of_names (h : Names o [clsDT] s) : s.objHere (obj clsDT (aIdx o)) = true := by
  obtain ⟨-, hc, hi, hs⟩ := h
  have hcls : aCls o = clsDT := List.mem_singleton.1 hc
  rw [hcls] at hi hs
  have hlt : aIdx o < 4096 := Nat.lt_trans hi (by decide)
  unfold State.objHere
  rw [aCls_obj (by decide) hlt, aIdx_obj hlt, hs]

/-! ### MOVE (R290 to R293) -/

/-- A profile that obeys R290. -/
structure Move.Obeys (mv : Move) (limit : Nat) : Prop where
  start : mv.vStart ≤ mv.vKnee
  knee : mv.vKnee ≤ mv.vMax
  max : mv.vMax ≤ limit
  stop : mv.vStop ≤ mv.vKnee
  a1 : 1 ≤ mv.a1
  a2 : 1 ≤ mv.a2
  d2 : 1 ≤ mv.d2
  d1 : 1 ≤ mv.d1

theorem Move.Obeys.ok {limit : Nat} (h : mv.Obeys limit) : mv.ok limit = true := by
  simp [Move.ok, h.start, h.knee, h.max, h.stop, h.a1, h.a2, h.d2, h.d1]

/-- The payload of a MOVE of profile `mv` has no reserved bit set and no field out of its range (Table 12-3). -/
structure MoveArgs (m : Msg) (mv : Move) : Prop where
  flags : m.pay 1 1 ≤ 1
  reserved3 : m.pay 3 1 = 0
  reserved36 : m.pay 36 4 = 0
  kind : m.pay 0 1 ≤ 2
  dir : m.pay 2 1 ≤ 1
  noTarget : mv.vel = true → m.pay 40 8 = 0

theorem MoveArgs.reserved (h : MoveArgs m mv) : (decide (1 < m.pay 1 1) || m.pay 3 1 != 0 || m.pay 36 4 != 0) = false := by
  simp [h.flags, h.reserved3, h.reserved36]

theorem MoveArgs.values (h : MoveArgs m mv) {limit : Nat} (hok : mv.Obeys limit) :
    (decide (2 < m.pay 0 1) || decide (1 < m.pay 2 1) || (mv.vel && m.pay 40 8 != 0) || !mv.ok limit) = false := by
  simp only [hok.ok, Bool.or_eq_false_iff, decide_eq_false_iff_not, Bool.and_eq_false_imp, bne_eq_false_iff_eq]
  exact ⟨⟨⟨Nat.not_lt.2 h.kind, Nat.not_lt.2 h.dir⟩, h.noTarget⟩, rfl⟩

/-- A motor axis that is enabled, and neither geared nor held. -/
structure TakesMove (o : Nat) (s : State) : Prop where
  on : s.axisOn o = true
  motor : s.tMode (s.leadOf o) ≠ 3
  state : (s.axis o).state ∉ [Prof.geared, .held]

theorem TakesMove.ready (h : TakesMove o s) : (!s.axisOn o || s.tMode (s.leadOf o) == 3 || (s.axis o).state == .geared
    || ((s.axis o).state == .held && (s.axis o).heldFrom == .geared)) = false := by
  have hst := h.state
  simp only [List.mem_cons, List.not_mem_nil, or_false, not_or] at hst
  simp [h.on, h.motor, hst]

theorem execMove_runs (ho : m.argN 8 4 = o) (ht : Takes 0x0610 m 48 0xffffffff00000000 s) (hn : FreeObj o [clsDT, clsGRP] s)
    (hmode : s.md.mode ∈ [Mode.warmUp, .ready, .print, .runOut, .safeHold]) (hf : s.anyFault o = false)
    (hmv : mv = profileOf m (s.axis o).x) (ha : MoveArgs m mv) (hok : mv.Obeys (s.vLimit (s.leadOf o))) (hax : TakesMove o s) :
    exec (.move m) s = .next ((s.setAxis o (if m.pay 1 1 = 1 then (s.axis o).defer mv else (s.axis o).begin mv s.tempo)).accepted
      (s.replyOf 0x0610 m)) := by
  obtain ⟨-, hat, hlen, hres, -⟩ := id ht
  have hbit : bit (m.pay 1 1) 0 = true ↔ m.pay 1 1 = 1 := by
    have hflags := ha.flags
    simp [bit]
    omega
  subst ho
  show execMove m s = _
  unfold execMove
  rw [hat]
  dsimp only
  rw [← hmv]
  refine congrArg _ ((State.command_of_takes ht ?_ _).trans ?_)
  · rw [Msg.plen_nil hlen, Msg.argRes_nil hres, refuse_eq_nil ha.reserved, State.inModes_nil hmode,
      State.tileRefs_nil hn (fun _ => hf), refuse_eq_nil (ha.values hok), refuse_eq_nil hax.ready]
    rfl
  · simp only [State.updAxis_eq, hbit]

/-- A loaded profile leaves the running one; only an axis in IDLE changes its state. -/
theorem AxisSt.defer_eq {a : AxisSt} (h : a.state ∉ [Prof.geared, .held]) :
    a.defer mv = { a with loaded := some mv, state := if a.state = .idle then .deferred else a.state } := by
  unfold AxisSt.defer
  split
  · next hi => rw [hi]; rfl
  · next hh => simp [hh] at h
  · next hi _ => rw [if_neg hi]

theorem AxisSt.begin_eq {a : AxisSt} (h : a.state ∉ [Prof.geared, .held]) : a.begin mv now = { a.resume mv now with loaded := none } := by
  unfold AxisSt.begin
  split
  · next hh => simp [hh] at h
  · rfl

/-- A profile that starts or replaces another goes on from where the axis is. -/
theorem AxisSt.resume_moving (a : AxisSt) (mv : Move) (now : Tempo) :
    (a.resume mv now).x = a.x ∧ (a.resume mv now).mv = mv ∧ (a.resume mv now).state = .moving := by
  unfold AxisSt.resume AxisSt.replace
  dsimp only
  split
  · exact ⟨rfl, rfl, rfl⟩
  · split
    · exact ⟨rfl, rfl, rfl⟩
    · exact ⟨rfl, rfl, rfl⟩

theorem AxisSt.resume_of_rest {a : AxisSt} (h : a.v = 0) : a.resume mv now = { a.startFresh mv with nextTick := now + 1 } := if_pos h

/-- A replacement that turns back or cannot brake in time (R293). -/
abbrev AxisSt.mustSlow (a : AxisSt) (mv : Move) : Prop :=
  mv.dirFrom a.x ≠ a.dir ∨ (mv.vel = false ∧ mv.dirFrom a.x * (mv.target - a.x) < brakeDist mv a.v)

/-- A replacement in the direction of travel that is a VELOCITY move or can brake in time. -/
theorem AxisSt.not_mustSlow {a : AxisSt} (hd : mv.dirFrom a.x = a.dir)
    (hf : mv.vel = true ∨ brakeDist mv a.v ≤ mv.dirFrom a.x * (mv.target - a.x)) : ¬ a.mustSlow mv := by
  rintro (hback | ⟨hpos, hnear⟩)
  · exact hback hd
  · obtain hvel | hfar := hf
    · exact Bool.false_ne_true (hpos.symm.trans hvel)
    · exact Int.not_lt.2 hfar hnear

/-- A replacement keeps the speed and the tick grid, and turns to the new direction at once or slows first. -/
theorem AxisSt.resume_of_moving {a : AxisSt} (h : a.v ≠ 0) :
    (a.resume mv now).v = a.v ∧ (a.resume mv now).nextTick = a.nextTick ∧ (a.resume mv now).fresh = false
      ∧ (a.mustSlow mv → (a.resume mv now).turn = .slow ∧ (a.resume mv now).dir = a.dir)
      ∧ (¬ a.mustSlow mv → (a.resume mv now).turn = .none ∧ (a.resume mv now).dir = mv.dirFrom a.x) := by
  have heq : a.resume mv now = if a.mustSlow mv then
        { a with state := .moving, mv := mv, turn := .slow, fresh := false, regear := false }
      else { a with state := .moving, mv := mv, dir := mv.dirFrom a.x, turn := .none, fresh := false, regear := false } := by
    unfold AxisSt.resume AxisSt.replace
    rw [if_neg h, if_neg h]
    simp only [AxisSt.mustSlow, Bool.not_eq_true']
  rw [heq]
  split
  · next hs => exact ⟨rfl, rfl, rfl, fun _ => ⟨rfl, rfl⟩, fun hn => absurd hs hn⟩
  · next hn => exact ⟨rfl, rfl, rfl, fun hs => absurd hs hn, fun _ => ⟨rfl, rfl⟩⟩

/-! ### STOP (R294, R317) -/

theorem execStop_runs (ho : m.argN 8 4 = o) (ht : Takes 0x0611 m 0 0xffffffff00000000 s) (hn : FreeObj o [clsDT, clsGRP] s)
    (hmode : s.md.mode ∈ [Mode.warmUp, .ready, .print, .runOut, .safeHold]) :
    ∃ code, exec (.stop m) s = .next ((s.stopObj o).post (s.replyOf 0x0611 m) code) := by
  obtain ⟨-, hat, hlen, hres, -⟩ := id ht
  subst ho
  have hrefs : m.plen 0 ++ m.argRes 0xffffffff00000000 ++ s.inModes [.warmUp, .ready, .print, .runOut, .safeHold]
      ++ s.tileRefs (m.argN 8 4) true false = [] := by
    rw [Msg.plen_nil hlen, Msg.argRes_nil hres, State.inModes_nil hmode, State.tileRefs_nil hn (fun h => by cases h)]
    rfl
  have hx : exec (.stop m) s = .next (if (s.stopObj (m.argN 8 4)).stillMoves (m.argN 8 4)
      then (s.stopObj (m.argN 8 4)).accepted (s.replyOf 0x0611 m) else (s.stopObj (m.argN 8 4)).ok (s.replyOf 0x0611 m)) := by
    show execStop m s = _
    unfold execStop
    rw [hat]
    exact congrArg _ (State.command_of_takes ht hrefs _)
  split at hx
  · exact ⟨_, hx⟩
  · exact ⟨_, hx⟩

/-- What STOP does to the state of an axis that is not held (Table 12-5). -/
theorem State.stopAxis_moving (h : (s.axis o).state ∈ [Prof.moving, .atSpeed]) :
    s.stopAxis o = s.setAxis o { s.axis o with state := .stopping, turn := .none, loaded := none, regear := false } := by
  unfold State.stopAxis
  simp only [List.mem_cons, List.not_mem_nil, or_false] at h
  obtain h | h := h <;> simp only [h]

theorem State.stopAxis_deferred (h : (s.axis o).state = .deferred) :
    s.stopAxis o = s.setAxis o { s.axis o with state := .idle, loaded := none } := by
  unfold State.stopAxis; simp only [h]

theorem State.stopAxis_geared (h : (s.axis o).state = .geared) : s.stopAxis o =
    (s.setAxis o { s.axis o with state := .stopping, loaded := none, sHist := [] }).setGear o { s := (s.gear o).s } := by
  unfold State.stopAxis; simp only [h]; rfl

theorem State.stopAxis_still (h : (s.axis o).state ∈ [Prof.idle, .stopping, .faulted]) : s.stopAxis o = s := by
  unfold State.stopAxis
  simp only [List.mem_cons, List.not_mem_nil, or_false] at h
  obtain h | h | h := h <;> simp only [h]

/-- A command at one axis: no fault, no other axis and no other gearing unit has changed, and the axis is where it was at its speed. -/
structure AxisCut (o : Nat) (s t : State) : Prop where
  faults : t.faults = s.faults
  x : (t.axis o).x = (s.axis o).x
  v : (t.axis o).v = (s.axis o).v
  others : ∀ p, p ≠ o → t.axis p = s.axis p ∧ t.gear p = s.gear p

theorem AxisCut.refl (o : Nat) (s : State) : AxisCut o s s := ⟨rfl, rfl, rfl, fun _ _ => ⟨rfl, rfl⟩⟩

theorem State.setAxis_cut {a : AxisSt} (hx : a.x = (s.axis o).x) (hv : a.v = (s.axis o).v) : AxisCut o s (s.setAxis o a) := by
  refine ⟨rfl, ?_, ?_, fun p hp => ⟨?_, rfl⟩⟩
  · rw [State.setAxis_get, if_pos rfl, hx]
  · rw [State.setAxis_get, if_pos rfl, hv]
  · rw [State.setAxis_get, if_neg hp]

theorem AxisCut.updGear (h : AxisCut o s t) (f : Gear → Gear) : AxisCut o s (t.updGear o f) := by
  obtain ⟨hf, hx, hv, ho⟩ := h
  refine ⟨hf, hx, hv, fun p hp => ⟨(ho p hp).1, ?_⟩⟩
  rw [State.updGear_get, if_neg hp, (ho p hp).2]

theorem State.stopAxis_cut (s : State) (o : Nat) : AxisCut o s (s.stopAxis o) := by
  unfold State.stopAxis
  dsimp only
  split
  case h_4 => exact .updGear (State.setAxis_cut (by rfl) (by rfl)) _
  case h_5 =>
    split
    · exact .updGear (State.setAxis_cut (by rfl) (by rfl)) _
    · exact State.setAxis_cut rfl rfl
  case h_6 => exact .refl o s
  all_goals exact State.setAxis_cut rfl rfl

theorem State.polyTo_faults (st : Poly) : (s.polyTo k st).faults = s.faults := by
  unfold State.polyTo
  dsimp only
  split
  · rfl
  · exact State.raise_faults_of_latch_nil _ rfl

/-- A stage that a POLY tile enters from another. -/
theorem State.polyTo_poly {st : Poly} (h : (s.poly k).stage ≠ st) (j : Nat) : (s.polyTo k st).poly j = if j = k then
    { s.poly k with stage := st, entered := s.tempo
                    vMeas := if st == .observer || st == .sync || st == .coast then (s.poly k).vMeas else 0 } else s.poly j := by
  unfold State.polyTo
  rw [if_neg h, State.raise_poly, State.setPoly_get]

theorem State.stopPoly_faults : (s.stopPoly k).faults = s.faults := by
  unfold State.stopPoly
  split
  case h_1 | h_2 | h_3 => rfl
  case h_4 | h_5 | h_6 => exact State.polyTo_faults _
  case h_7 => rfl

theorem State.stopPoly_ramps (h : (s.poly k).stage ∈ [Poly.observer, .sync, .coast]) :
    (s.stopPoly k).poly k = { s.poly k with stopping := true } := by
  have he : s.stopPoly k = s.updPoly k (fun p => { p with stopping := true }) := by
    unfold State.stopPoly
    simp only [List.mem_cons, List.not_mem_nil, or_false] at h
    obtain h | h | h := h <;> simp only [h]
  rw [he, State.updPoly_get, if_pos rfl]

theorem State.stopPoly_off (h : (s.poly k).stage ∈ [Poly.align, .blind, .catch]) : ((s.stopPoly k).poly k).stage = .off := by
  have he : s.stopPoly k = s.polyTo k .off := by
    unfold State.stopPoly
    simp only [List.mem_cons, List.not_mem_nil, or_false] at h
    obtain h | h | h := h <;> simp only [h]
  have hne : (s.poly k).stage ≠ .off := fun hoff => by simp [hoff] at h
  rw [he, State.polyTo_poly hne, if_pos rfl]

theorem State.stopPoly_still (h : (s.poly k).stage ∈ [Poly.off, .faulted]) : s.stopPoly k = s := by
  unfold State.stopPoly
  simp only [List.mem_cons, List.not_mem_nil, or_false] at h
  obtain h | h := h <;> simp only [h]

/-! ### GEAR_SET (R156, R296) -/

/-- A ratio waits at a gearing unit for its switch position. -/
def State.pended (s : State) (o : Nat) (w : GearPend) : State := s.updGear o (fun g => { g with pend := some w })

theorem State.pended_gear (s : State) {w : GearPend} {j : Nat} :
    (s.pended o w).gear j = if j = o then { s.gear o with pend := some w } else s.gear j := s.updGear_get _ _ _

/-- The ratio that a GEAR_SET asks for, with no reserved bit set and no field out of its range (Table 6-7). -/
structure GearArgs (m : Msg) (w : GearPend) : Prop where
  master : w.master = m.pay 0 1
  n : w.n = sext 32 (m.pay 4 4)
  d : w.d = m.pay 8 4
  p : w.p = sext 64 (m.pay 16 8)
  reserved1 : m.pay 1 3 = 0
  reserved12 : m.pay 12 4 = 0
  master_le : w.master ≤ 8
  d_ne : w.d ≠ 0

/-- The position of a switch lies ahead of its master; a disengagement is one of a unit that is geared, and its ratio is 0 (R156, R296). -/
structure SwitchAhead (o : Nat) (w : GearPend) (s : State) : Prop where
  off : w.master = 0 → w.n = 0 ∧ w.d = 1 ∧ (s.gear o).master ≠ 0 ∧ (s.enc ((s.gear o).master - 1)).pos < w.p
  on : w.master ≠ 0 → (s.enc (w.master - 1)).pos < w.p

section
variable {w : GearPend} (hs : SwitchAhead o w s)
include hs

theorem SwitchAhead.values (ha : GearArgs m w) :
    (decide (8 < w.master) || w.d == 0 || (w.master == 0 && (w.n != 0 || w.d != 1))) = false := by
  simp only [Bool.or_eq_false_iff, decide_eq_false_iff_not, beq_eq_false_iff_ne, Bool.and_eq_false_imp, beq_iff_eq,
    bne_eq_false_iff_eq]
  refine ⟨⟨Nat.not_lt.2 ha.master_le, ha.d_ne⟩, fun h0 => ?_⟩
  obtain ⟨hn, hd, -, -⟩ := hs.off h0
  exact ⟨hn, hd⟩

theorem SwitchAhead.geared : (w.master == 0 && (s.gear o).master == 0) = false := by
  simp only [Bool.and_eq_false_imp, beq_iff_eq, beq_eq_false_iff_ne]
  intro h0
  obtain ⟨-, -, hg, -⟩ := hs.off h0
  exact hg

theorem SwitchAhead.inTime : decide ((if w.master = 0 then (s.gear o).master else w.master) ≠ 0
    ∧ w.p ≤ (s.enc ((if w.master = 0 then (s.gear o).master else w.master) - 1)).pos) = false := by
  rw [decide_eq_false_iff_not, not_and, Int.not_le]
  intro _
  split
  · next h0 =>
    obtain ⟨-, -, -, hp⟩ := hs.off h0
    exact hp
  · next h0 => exact hs.on h0

end

theorem execGearSet_runs {w : GearPend} (ho : m.argN 8 4 = o) (ht : Takes 0x0620 m 24 0xffffffff00000000 s)
    (hn : FreeObj o [clsDT, clsGRP, clsSTN] s) (hmode : s.md.mode ∈ [Mode.standby, .warmUp, .ready, .print, .runOut])
    (hf : s.anyFault o = false) (ha : GearArgs m w) (hs : SwitchAhead o w s) :
    exec (.gearSet m) s = .next ((s.pended o w).accepted (s.replyOf 0x0620 m)) := by
  obtain ⟨-, hat, hlen, hres, -⟩ := id ht
  have harg : (m.pay 1 3 != 0 || m.pay 12 4 != 0) = false := by simp [ha.reserved1, ha.reserved12]
  subst ho
  show execGearSet m s = _
  unfold execGearSet
  rw [hat]
  dsimp only
  rw [← ha.master, ← ha.n, ← ha.d, ← ha.p]
  refine congrArg _ (State.command_of_takes ht ?_ _)
  rw [Msg.plen_nil hlen, Msg.argRes_nil hres, refuse_eq_nil harg, State.inModes_nil hmode, State.objRefs_nil hn.names,
    refuse_eq_nil (hs.values ha), refuse_eq_nil hs.geared, hn.parent, hn.sheets, hf, refuse_eq_nil hs.inTime]
  rfl

/-! ### POLY_START (R313) -/

/-- The fields of a start profile that must not be 0: offset and width. -/
abbrev polyStartFields : List (Nat × Nat) :=
  [(0, 4), (4, 2), (6, 2), (8, 4), (12, 4), (16, 4), (20, 4), (28, 4), (32, 4), (40, 2), (42, 2)]

/-- The tile with its start profile, before it enters ALIGN. -/
def State.polyLoaded (s : State) (k : Nat) (m : Msg) : State := s.setPoly k { (({} : PolySt)) with start := m.payload }

/-- The payload of a POLY_START has no reserved bit set and no field 0 that must not be. -/
structure PolyArgs (m : Msg) : Prop where
  reserved : m.pay 44 4 = 0
  fields : ∀ e, e ∈ polyStartFields → m.pay e.1 e.2 ≠ 0

/-- A POLY tile in RUN and OFF with a station, for which the profile's speeds are in order (R313). -/
structure PolyReady (k : Nat) (m : Msg) (s : State) : Prop where
  run : (s.tile k).prot = .run
  poly : s.tMode k = 3
  off : (s.poly k).stage = .off
  station : (s.polyStation k).isSome = true
  limit : m.pay 24 4 ≤ s.vLimit k
  knee : ∀ n, s.polyStation k = some n → up32 (m.pay 36 4) ≤ if m.pay 24 4 = 0 then s.vNom n else up32 (m.pay 24 4)

theorem execPolyStart_runs (ho : m.argN 8 4 = o) (hk : k = aIdx o) (ht : Takes 0x0630 m 48 0xffffffff00000000 s)
    (hn : Names o [clsDT] s) (hmode : s.md.mode ∈ [Mode.warmUp, .ready]) (hp : s.parent o = none) (hl : s.participates o = false)
    (hf : s.faultOn o = false) (ha : PolyArgs m) (hr : PolyReady k m s) :
    exec (.polyStart m) s = .next (((s.polyLoaded k m).polyTo k .align).accepted (s.replyOf 0x0630 m)) := by
  obtain ⟨-, hat, hlen, hres, -⟩ := id ht
  obtain ⟨n, hstn⟩ := Option.isSome_iff_exists.1 hr.station
  have hzero : polyStartFields.any (fun e => m.pay e.1 e.2 == 0) = false := by
    rw [List.any_eq_false]
    exact fun e he h => ha.fields e he (beq_iff_eq.1 h)
  have hval : (polyStartFields.any (fun e => m.pay e.1 e.2 == 0)
      || decide ((if m.pay 24 4 = 0 then s.vNom n else up32 (m.pay 24 4)) < up32 (m.pay 36 4))
      || decide (s.vLimit k < m.pay 24 4)) = false := by
    rw [hzero, decide_eq_false (Int.not_lt.2 (hr.knee n hstn)), decide_eq_false (Nat.not_lt.2 hr.limit)]
    rfl
  have hstate : ((s.tile k).prot != .run || s.tMode k != 3 || (s.poly k).stage != .off || (s.polyStation k).isNone) = false := by
    rw [hr.run, hr.poly, hr.off, hstn]
    rfl
  subst ho
  show execPolyStart m s = _
  unfold execPolyStart
  rw [hat]
  dsimp only
  rw [← hk]
  refine congrArg _ (State.command_of_takes ht ?_ _)
  rw [hstn] at hstate ⊢
  dsimp only
  rw [Msg.plen_nil hlen, Msg.argRes_nil hres, ha.reserved, State.inModes_nil hmode, State.objRefs_nil hn, refuse_eq_nil hval,
    refuse_eq_nil hstate, hp, hl, hf]
  rfl

/-- A POLY tile that has loaded its start profile goes from OFF to ALIGN with 0x0920. -/
theorem State.polyLoaded_aligns (ho : s.objHere (obj clsDT k) = true) :
    (∀ j, ((s.polyLoaded k m).polyTo k .align).poly j =
        if j = k then { start := m.payload, stage := .align, entered := s.tempo } else s.poly j)
      ∧ Raised ((s.polyLoaded k m).polyTo k .align) 0x0920 (obj clsDT k) [obj clsDT k, 0, 1, 0] := by
  have hk : (s.polyLoaded k m).poly k = { (({} : PolySt)) with start := m.payload } := by
    rw [State.polyLoaded, State.setPoly_get, if_pos rfl]
  have hne : ((s.polyLoaded k m).poly k).stage ≠ .align := by rw [hk]; exact Poly.noConfusion
  refine ⟨fun j => ?_, ?_⟩
  · rw [State.polyTo_poly hne, hk]
    by_cases hj : j = k
    · rw [if_pos hj, if_pos hj]; rfl
    · rw [if_neg hj, if_neg hj, State.polyLoaded, State.setPoly_get, if_neg hj]
  · unfold State.polyTo
    rw [if_neg hne]
    dsimp only
    rw [hk]
    exact State.raised_raise (e := { code := 0x0920, obj := obj clsDT k, fields := [obj clsDT k, 0, 1, 0] }) ho

end Sys2Proof.Machine

namespace Sys2Proof.Proofs
open Sys2Proof Sys2Proof.Machine Sys2Proof.Claims

/-- Settles O55, command by command. -/
theorem motionCommandsStartStopAndGearAnAxis : Obligations.MotionCommandsStartStopAndGearAnAxis := by
  intro m s o ho
  refine ⟨fun hn hp hl hmode => ⟨?move, fun ht => ⟨fun hpoly => ?stop, fun k hk hpoly => ?stopPoly⟩⟩, ?gear, ?poly⟩
  case move =>
    intro mv ht hf hmv hdef h3 h36 h0 h2 hvel hsk hkm hml hpk ha1 ha2 hd2 hd1 hon hpoly hst
    have hx := execMove_runs ho.symm ht ⟨hn, hp, hl⟩ hmode hf hmv ⟨hdef, h3, h36, h0, h2, hvel⟩
      ⟨hsk, hkm, hml, hpk, ha1, ha2, hd2, hd1⟩ ⟨hon, hpoly, hst⟩
    obtain h1 | h1 : m.pay 1 1 = 1 ∨ m.pay 1 1 = 0 := by omega
    · have hno : m.pay 1 1 ≠ 0 := by omega
      rw [if_pos h1, AxisSt.defer_eq hst] at hx
      refine ⟨_, hx, fun p hp => (s.setAxis_get _ _ p).trans (if_neg hp), rfl, rfl, ?_, fun _ => ?_, fun h => absurd h hno,
        fun h => absurd h hno, fun h => absurd h hno⟩
      all_goals rw [State.accepted_eq, State.post_axis, State.setAxis_get, if_pos rfl]
      exact ⟨rfl, rfl, rfl, rfl⟩
    · rw [if_neg (by omega), AxisSt.begin_eq hst] at hx
      obtain ⟨hrx, hrm, hrs⟩ := (s.axis o).resume_moving mv s.tempo
      refine ⟨_, hx, fun p hp => (s.setAxis_get _ _ p).trans (if_neg hp), rfl, rfl, ?_, fun h => by omega, fun _ => ?_,
        fun _ hv => ?_, fun _ hv => ?_⟩
      all_goals rw [State.accepted_eq, State.post_axis, State.setAxis_get, if_pos rfl]
      · exact hrx
      · exact ⟨hrm, rfl, hrs⟩
      · rw [AxisSt.resume_of_rest hv]
        exact ⟨rfl, rfl, rfl, rfl, rfl⟩
      · obtain ⟨hrv, hrn, hrf, hslow, hgo⟩ := AxisSt.resume_of_moving (mv := mv) (now := s.tempo) hv
        refine ⟨hrv, hrn, hrf, hslow, fun hdir hfar => ?_⟩
        rw [← hdir]
        exact hgo (AxisSt.not_mustSlow hdir hfar)
  case stop =>
    obtain ⟨code, hx⟩ := execStop_runs ho.symm ht ⟨hn, hp, hl⟩ hmode
    rw [State.stopObj, if_neg hpoly] at hx
    obtain ⟨hfaults, hxx, hv, hothers⟩ := s.stopAxis_cut o
    refine ⟨_, hx, hfaults, hxx, hv, hothers, fun h => ?_, fun h => ?_, fun h => ?_, fun h => ?_⟩
    · rw [State.stopAxis_moving h]; simp
    · rw [State.stopAxis_deferred h]; simp
    · rw [State.stopAxis_geared h]; simp
    · rw [State.stopAxis_still h]; exact ⟨rfl, rfl⟩
  case stopPoly =>
    obtain ⟨code, hx⟩ := execStop_runs ho.symm ht ⟨hn, hp, hl⟩ hmode
    subst hk
    rw [State.stopObj, if_pos hpoly] at hx
    exact ⟨_, hx, State.stopPoly_faults, State.stopPoly_ramps, State.stopPoly_off, fun h => by rw [State.stopPoly_still h]; rfl⟩
  case gear =>
    intro mst n d p ht h1 h12 hn hmode hp hl hf hmst hN hD hP hm8 hd hoff hon
    exact ⟨_, execGearSet_runs (w := ⟨mst, n, d, p⟩) ho.symm ht ⟨hn, hp, hl⟩ hmode hf ⟨hmst, hN, hD, hP, h1, h12, hm8, hd⟩ ⟨hoff, hon⟩,
      s.pended_gear.trans (if_pos rfl), fun q hq => s.pended_gear.trans (if_neg hq), rfl, rfl⟩
  case poly =>
    intro k hk ht h44 hn hmode hp hl hf hfields hlim hrun hpoly hst hknee hstn
    obtain ⟨hal, hraised⟩ := State.polyLoaded_aligns (m := m) (hk ▸ State.tileHere_of_names hn)
    have hx := execPolyStart_runs ho.symm hk ht hn hmode hp hl hf ⟨h44, hfields⟩ ⟨hrun, hpoly, hst, hstn, hlim, hknee⟩
    have hfaults := State.polyTo_faults (s := s.polyLoaded k m) (k := k) .align
    generalize (s.polyLoaded k m).polyTo k .align = t at hx hal hraised hfaults
    exact ⟨_, hx, (hal k).trans (if_pos rfl), fun j hj => (hal j).trans (if_neg hj), hfaults, hraised⟩

end Sys2Proof.Proofs
end

section
namespace Sys2Proof.Machine
open Sys2Proof Sys2Proof.Claims
variable (s : State)

/-! ### What an access of a memory leaves of the sheets, the video path and the store -/

/-- The sheets, the video path, and of the store its pages and jobs: no access of a memory and no queued request changes them. -/
def State.aside (s : State) : Seal × Video × Map Page × Option Job × List Job :=
  (s.sheets, s.video, s.store.pages, s.store.job, s.store.jobs)

theorem State.aside_sheets {s t : State} (h : t.aside = s.aside) : t.sheets = s.sheets := congrArg (·.1) h

theorem State.aside_video {s t : State} (h : t.aside = s.aside) : t.video = s.video := congrArg (·.2.1) h

theorem State.aside_pages {s t : State} (h : t.aside = s.aside) : t.store.pages = s.store.pages := congrArg (·.2.2.1) h

theorem State.aside_job {s t : State} (h : t.aside = s.aside) : t.store.job = s.store.job := congrArg (·.2.2.2.1) h

theorem State.aside_jobs {s t : State} (h : t.aside = s.aside) : t.store.jobs = s.store.jobs := congrArg (·.2.2.2.2) h

/-- A rate-limited event that latches nothing leaves the sheets. -/
theorem State.raiseLimited_sheets_of_latch_nil {e : Ev} (h : e.latch = []) (period sub : Nat) (cf : Bool) :
    (s.raiseLimited e period sub cf).sheets = s.sheets := by
  unfold State.raiseLimited
  extract_lets k r due set fs
  split
  · split
    · exact State.raise_sheets_of_latch_nil _ h
    · rfl
  · rfl

theorem State.raise_aside {e : Ev} (h : e.latch = []) : (s.raise e).aside = s.aside := by
  simp [State.aside, State.raise_sheets_of_latch_nil s h]

theorem State.raiseLimited_aside {e : Ev} (h : e.latch = []) (period sub : Nat) (cf : Bool) :
    (s.raiseLimited e period sub cf).aside = s.aside := by
  simp [State.aside, State.raiseLimited_sheets_of_latch_nil s h]

theorem State.wordAt_aside (i w : Nat) : (s.wordAt i w).2.aside = s.aside := by
  unfold State.wordAt
  dsimp only
  (repeat' split) <;> rfl

theorem State.checkedWord_aside (i w : Nat) : (s.checkedWord i w).2.aside = s.aside := by
  have hw := s.wordAt_aside i w
  unfold State.checkedWord
  dsimp only
  (repeat' split) <;> exact hw

theorem State.reportUe_aside (i a reader what : Nat) (sheet : Bool) : (s.reportUe i a reader what [] sheet).aside = s.aside := by
  unfold State.reportUe
  extract_lets m s1 s2
  have h2 : s2.aside = s.aside := by
    unfold s2
    split
    · rfl
    · simp [State.aside, s1]
  exact (s2.raise_aside rfl).trans h2

theorem State.reportCe_aside (i a bitNo reader : Nat) : (s.reportCe i a bitNo reader).aside = s.aside := by
  unfold State.reportCe
  extract_lets m recent ue s1 s2
  have h2 : s2.aside = s.aside := s1.raiseLimited_aside rfl _ _ _
  split
  · exact (s2.raiseLimited_aside rfl _ _ _).trans h2
  · exact h2

theorem State.report_aside (i w reader : Nat) (r : Read) (what : Nat) : (s.report i w reader r what []).aside = s.aside := by
  unfold State.report
  split
  · exact s.reportCe_aside _ _ _ _
  · split
    · exact s.reportUe_aside _ _ _ _ _
    · rfl

theorem State.putWord_aside (i w : Nat) (v : Nat × Nat) : (s.putWord i w v).aside = s.aside := rfl

theorem State.settle_aside (seqs : List Nat) : (s.settle seqs).aside = s.aside := rfl

theorem State.drainEntry_aside (i : Nat) (e : Merge) : (s.drainEntry i e).aside = s.aside := by
  unfold State.drainEntry
  extract_lets s1
  split
  · rfl
  · have h2 := s1.checkedWord_aside i e.word
    generalize s1.checkedWord i e.word = p at h2 ⊢
    obtain ⟨r, s2⟩ := p
    have h3 : (s2.report i e.word 6 r).aside = s.aside := (s2.report_aside i e.word 6 r objDEV).trans h2
    dsimp only
    split
    · rw [State.settle_aside, foldl_keeps State.aside (fun _ _ => by rfl), State.putWord_aside]
      exact h3
    · rw [State.settle_aside, State.writeWord, State.putWord_aside, h3]

theorem State.drainWord_aside (i w : Nat) : (s.drainWord i w).aside = s.aside := by
  unfold State.drainWord
  split
  · exact s.drainEntry_aside _ _
  · rfl

theorem State.writeMasked_aside (i w d mask seq : Nat) : (s.writeMasked i w d mask seq).aside = s.aside := by
  unfold State.writeMasked
  split
  · rfl
  · split
    · dsimp only
      split
      · exact State.drainEntry_aside _ _ _
      · rfl
    · extract_lets s1
      have h1 : s1.aside = s.aside := by
        unfold s1
        split
        · split
          · exact s.drainEntry_aside _ _
          · rfl
        · rfl
      exact h1

theorem State.memWrite_aside (i a : Nat) (d : Bytes) (seq : Nat) : (s.memWrite i a d seq).aside = s.aside :=
  foldl_keeps State.aside (fun u _ => u.writeMasked_aside _ _ _ _ _) _ s

theorem State.readWord_aside (i w reader what : Nat) : (s.readWord i w reader what []).2.aside = s.aside :=
  ((State.report_aside _ _ _ _ _ _).trans (State.checkedWord_aside _ _ _)).trans (s.drainWord_aside i w)

theorem State.readWords_aside (i reader what : Nat) (ws : List Nat) : (s.readWords i reader what [] ws).2.2.aside = s.aside := by
  induction ws generalizing s with
  | nil => rfl
  | cons w ws ih => exact (ih _).trans (s.readWord_aside i w reader what)

/-- A read that latches no fault. -/
theorem State.memScan_aside (i a n reader what : Nat) : (s.memScan i a n reader what).2.2.aside = s.aside := by
  unfold State.memScan
  dsimp only
  split
  · rfl
  · exact s.readWords_aside _ _ _ _

theorem State.addReq_aside (q : Req) : (s.addReq q).aside = s.aside := by
  unfold State.addReq
  split <;> rfl

theorem State.descStep_aside (ch : Nat) (x : DmaStep) : (s.descStep ch x).aside = s.aside := State.addReq_aside _ _

theorem State.descFail_aside (ch c : Nat) : (s.descFail ch c).aside = s.aside := State.descStep_aside (s.stopped ch c) ch .finish

/-- From `s` to `t` only the sheets and the video path have changed. -/
def SheetsVideo (s t : State) : Prop := ∃ sh v, t = { s with sheets := sh, video := v }

theorem VideoOnly.sheetsVideo {s t : State} (h : VideoOnly s t) : SheetsVideo s t := by
  obtain ⟨v, rfl⟩ := h
  exact ⟨s.sheets, v, rfl⟩

theorem SheetsVideo.trans {s t u : State} (h : SheetsVideo s t) (k : SheetsVideo t u) : SheetsVideo s u := by
  obtain ⟨_, _, rfl⟩ := h
  obtain ⟨sh, v, rfl⟩ := k
  exact ⟨sh, v, rfl⟩

theorem SheetsVideo.foldl {α : Type} {f : State → α → State} (hf : ∀ u x, SheetsVideo u (f u x)) (xs : List α) (s : State) :
    SheetsVideo s (xs.foldl f s) :=
  foldl_pred (P := SheetsVideo s) (fun u x h => h.trans (hf u x)) ⟨s.sheets, s.video, rfl⟩

theorem State.withdraw_sheetsVideo (p : Nat) : SheetsVideo s (s.withdraw p) := by
  refine .foldl (fun u k => ?_) _ s
  have hu (f : Ticket → Ticket) : SheetsVideo u (u.updTicket k f) := ⟨_, u.video, rfl⟩
  dsimp only
  split
  · split
    · exact hu _
    · exact (hu _).trans (VideoOnly.foldl (fun v n => v.unqueue_videoOnly n k) _ _).sheetsVideo
  · exact ⟨u.sheets, u.video, rfl⟩

/-! ### Pages that a granted write makes dirty (R170, R171) -/

/-- A page has been made dirty in this tempo. -/
def State.DirtyNow (s : State) (p : Nat) : Prop := (s.page p).kind ≠ 0 ∧ (s.page p).last = s.tempo

/-- Making a page dirty changes that page, and sheets and video path by the header checks that it withdraws. -/
theorem State.dirty_eq (c p : Nat) : ∃ g, g.kind ≠ 0 ∧ g.last = s.tempo ∧ SheetsVideo (s.setPage p g) (s.dirty c p) := by
  unfold State.dirty
  extract_lets old new
  refine ⟨new, ?_, rfl, State.withdraw_sheetsVideo _ _⟩
  unfold new
  dsimp only
  split <;> decide

theorem State.dirty_tempo (c p : Nat) : (s.dirty c p).tempo = s.tempo := by
  obtain ⟨g, -, -, sh, v, h⟩ := s.dirty_eq c p
  rw [h]
  rfl

theorem State.dirty_page (c p : Nat) : ∃ g : Page, g.kind ≠ 0 ∧ g.last = s.tempo
    ∧ ∀ k, (s.dirty c p).page k = if k = p then g else s.page k := by
  obtain ⟨g, hk, hl, sh, v, h⟩ := s.dirty_eq c p
  exact ⟨g, hk, hl, fun k => by rw [h]; exact State.setPage_get s p g k⟩

theorem State.dirty_causeOnly (c p : Nat) : CauseOnly s (s.dirty c p) := by
  obtain ⟨g, -, -, sh, v, h⟩ := s.dirty_eq c p
  rw [h]
  exact .of_dma rfl rfl fun _ => rfl

theorem State.dirty_dirtyNow (c p : Nat) : (s.dirty c p).DirtyNow p := by
  obtain ⟨g, hk, hl, h⟩ := s.dirty_page c p
  unfold State.DirtyNow
  rw [h, if_pos rfl, s.dirty_tempo]
  exact ⟨hk, hl⟩

theorem State.DirtyNow.dirty {s : State} {p : Nat} (h : s.DirtyNow p) (c k : Nat) : (s.dirty c k).DirtyNow p := by
  obtain ⟨g, hk, hl, hg⟩ := s.dirty_page c k
  unfold State.DirtyNow
  rw [hg, s.dirty_tempo]
  split
  · exact ⟨hk, hl⟩
  · exact h

/-- Every page of a list is dirty after the list. -/
theorem State.dirties_dirtyNow (c : Nat) {p : Nat} {ps : List Nat} (h : p ∈ ps) : (ps.foldl (fun u k => u.dirty c k) s).DirtyNow p := by
  obtain ⟨xs, ys, rfl⟩ := List.append_of_mem h
  rw [List.foldl_append, List.foldl_cons]
  exact foldl_pred (P := fun u => State.DirtyNow u p) (fun u k hu => hu.dirty c k) (State.dirty_dirtyNow _ c p)

end Sys2Proof.Machine
end

section
namespace Sys2Proof.Machine
open Sys2Proof Sys2Proof.Claims
variable {s : State}

/-! ### A grant (R179, R180) -/

section
variable {res : Resource} {d : HostData} {q : Req}

theorem execSharedResourceGrant_lane {l : Nat} (hat : At s inCapture) (h : s.laneWinner res = some l) :
    exec (.sharedResourceGrant res d) s
      = .next (s.updLane l (fun x => { x with since := some (x.since.getD s.tempo), granted := true })) := by
  show execSharedResourceGrant res d s = _
  unfold execSharedResourceGrant
  rw [hat]
  dsimp only
  rw [h]

theorem execSharedResourceGrant_dma (hat : At s inCapture) (h : s.laneWinner res = none) (hw : s.winner res = some q) :
    exec (.sharedResourceGrant res d) s = .next (s.grantDma q d) := by
  show execSharedResourceGrant res d s = _
  unfold execSharedResourceGrant
  rw [hat]
  dsimp only
  rw [h, hw]

theorem execSharedResourceGrant_none (hat : At s inCapture) (h : s.laneWinner res = none) (hw : s.winner res = none) :
    exec (.sharedResourceGrant res d) s = .next s := by
  show execSharedResourceGrant res d s = _
  unfold execSharedResourceGrant
  rw [hat]
  dsimp only
  rw [h, hw]

/-- In a tempo that the throttle step takes from the DMA engine no request goes first (R181). -/
theorem State.winner_of_throttled (h : s.tempo * s.therm.step / 100 = (s.tempo + 1) * s.therm.step / 100) : s.winner res = none := by
  have hd : s.dmaTempo = false := by simp [State.dmaTempo, h]
  unfold State.winner
  rw [hd]
  rfl

/-- The request has left the queue. -/
def State.taken (s : State) (q : Req) : State := { s with store := { s.store with reqs := s.store.reqs.erase q } }

theorem State.grantDma_ctl (h : q.ctl = true) : s.grantDma q d = (s.taken q).grantCtl q := by
  unfold State.grantDma
  rw [if_neg (by simp [h])]
  exact if_pos h

theorem State.grantDma_hostWrite (hr : q.res = .hostSlots) (hc : q.ctl = false) (hw : q.write = true) :
    s.grantDma q d = (s.taken q).grantHost q d := by
  unfold State.grantDma
  rw [if_neg (by simp [hw])]
  exact (if_neg (by simp [hc])).trans (if_pos hr)

theorem State.grantDma_storeWrite {c : Nat} (hr : q.res = .dram c) (hc : q.ctl = false) (hw : q.write = true) :
    s.grantDma q d = (s.taken q).grantWrite q := by
  unfold State.grantDma
  rw [if_neg (by simp [hw])]
  exact (if_neg (by simp [hc])).trans ((if_neg (by simp [hr])).trans (if_pos hw))

theorem State.grantHost_write (hl : s.host.linkUp = true) (hw : q.write = true) :
    s.grantHost q d = (s.emit (.hostWrite q.addr q.data (s.noSnoop q.who))).moved q.who q.len := by
  unfold State.grantHost
  rw [if_neg (by simp [hl]), if_pos hw]

theorem State.grantCtl_parts : ((s.grantCtl q).dma q.who).slot = true ∧ (s.grantCtl q).store.reqs = s.store.reqs := by
  have hd : ((s.updDma q.who (fun d => { d with slot := true })).dma q.who).slot = true := by simp
  unfold State.grantCtl
  dsimp only
  split
  · exact ⟨hd, rfl⟩
  · exact ⟨hd, rfl⟩

end

/-! ### A store write that is granted (R170, R173) -/

theorem State.jobFails_cases (s : State) (ch code : Nat) (data : Bytes) :
    ∃ j, s.jobFails ch code data = { s with store := { s.store with job := j } } := by
  unfold State.jobFails
  split
  · exact ⟨_, rfl⟩
  · exact ⟨s.store.job, rfl⟩

theorem State.descStep_pages (s : State) (ch : Nat) (x : DmaStep) : (s.descStep ch x).store.pages = s.store.pages :=
  State.aside_pages (s.descStep_aside ch x)

theorem State.descFail_pages (s : State) (ch c : Nat) : (s.descFail ch c).store.pages = s.store.pages :=
  State.aside_pages (s.descFail_aside ch c)

theorem State.addReq_pages (s : State) (q : Req) : (s.addReq q).store.pages = s.store.pages := State.aside_pages (s.addReq_aside q)

theorem State.drain_pages (s : State) (ch : Nat) : (s.drain ch).store.pages = s.store.pages := by
  unfold State.drain
  dsimp only
  split
  · exact s.descFail_pages _ _
  · split
    · split
      · exact s.descStep_pages _ _
      · split
        · split
          · obtain ⟨j, hj⟩ := s.jobFails_cases ch stBAD_VALUE []
            rw [State.descFail_pages, hj]
          · exact s.descStep_pages _ _
        · exact s.addReq_pages _
    · exact s.descFail_pages _ _

/-- A channel that goes on with its transfer leaves the pages. -/
theorem State.nextReq_pages (s : State) (ch : Nat) : (s.nextReq ch).store.pages = s.store.pages := by
  unfold State.nextReq
  dsimp only
  split
  · exact s.drain_pages ch
  · split
    · exact s.descStep_pages _ _
    · split
      case h_7 =>
        have hread := State.aside_pages (s.memScan_aside 12 ((s.dma ch).desc.src + (s.dma ch).moved)
          (min 512 ((s.dma ch).desc.length - (s.dma ch).moved)) 6 objDEV)
        split
        · exact (State.descFail_pages _ _ _).trans hread
        · exact (State.addReq_pages _ _).trans hread
      case h_8 => exact s.descStep_pages _ _
      all_goals exact s.addReq_pages _

theorem State.moved_pages (s : State) (ch n : Nat) : (s.moved ch n).store.pages = s.store.pages := State.nextReq_pages _ ch

theorem State.drained_pages (s : State) (ch n : Nat) : (s.drained ch n).store.pages = s.store.pages := by
  unfold State.drained
  split <;> rfl

/-- A granted store write makes its pages dirty where none of them is locked. -/
theorem State.grantWrite_page {q : Req} {p : Nat} (hp : p ∈ pagesOf q.addr q.len) (hl : (pagesOf q.addr q.len).any s.lockedPage = false) :
    ((s.grantWrite q).page p).kind ≠ 0 ∧ ((s.grantWrite q).page p).last = s.tempo := by
  have htempo : ((pagesOf q.addr q.len).foldl (fun u k => u.dirty q.who k) s).tempo = s.tempo :=
    foldl_keeps (fun u : State => u.tempo) (fun u k => u.dirty_tempo q.who k) _ s
  have hpage : (s.grantWrite q).page p = ((pagesOf q.addr q.len).foldl (fun u k => u.dirty q.who k) s).page p := by
    unfold State.grantWrite State.page
    dsimp only
    rw [if_neg (by simp [hl]), State.moved_pages, State.drained_pages]
  rw [hpage, ← htempo]
  exact s.dirties_dirtyNow q.who hp

/-- A store write that meets a locked page ends its descriptor, and writes nothing (R173). -/
theorem State.grantWrite_locked {q : Req} (hl : (pagesOf q.addr q.len).any s.lockedPage = true) (hc : (s.dma q.who).cause = 0) :
    ((s.grantWrite q).dma q.who).cause = 5 ∧ ((s.grantWrite q).dma q.who).step = .finish
      ∧ (s.grantWrite q).store.pages = s.store.pages ∧ (s.grantWrite q).mems = s.mems := by
  obtain ⟨j, hj⟩ : ∃ j, s.grantWrite q = State.descFail { s with store := { s.store with job := j } } q.who 5 := by
    unfold State.grantWrite
    dsimp only
    rw [if_pos hl]
    split
    · obtain ⟨j, hj⟩ := s.jobFails_cases q.who stSHEET_LOCKED []
      exact ⟨j, by rw [hj]⟩
    · exact ⟨s.store.job, rfl⟩
  rw [hj, State.descFail_dma, State.descFail_pages, State.descFail_mems]
  exact ⟨if_pos hc, rfl, rfl, rfl⟩

/-! ### Arrivals and drains (R172, R396) -/

theorem execDramWriteArrival_lands {n : Nat} {f : Flight} (hat : At s inCapture)
    (hf : s.store.flights.find? (fun f => f.seq == n && !f.merging) = some f) (hl : f.live = true) :
    exec (.dramWriteArrival n) s = .next (s.land f) := by
  show execDramWriteArrival n s = _
  unfold execDramWriteArrival
  rw [hat]
  dsimp only
  rw [hf]
  exact congrArg _ (if_pos hl)

theorem execMergeBufferDrain_drains {i w : Nat} {e : Merge} (hf : (s.mem i).merge.find? (fun e => e.word == w) = some e)
    (ht : e.since + 64 ≤ s.tempo) : exec (.mergeBufferDrain i w) s = .next (s.drainEntry i e) := by
  show execMergeBufferDrain i w s = _
  unfold execMergeBufferDrain
  rw [hf]
  exact congrArg _ (if_pos ht)

theorem State.putWord_merge (s : State) (i w : Nat) (v : Nat × Nat) (j : Nat) : ((s.putWord i w v).mem j).merge = (s.mem j).merge := by
  unfold State.putWord
  rw [State.updMem_get]
  split
  · next h => rw [h]
  · rfl

theorem State.checkedWord_mems (s : State) (i w : Nat) : (s.checkedWord i w).2.mems = s.mems := by
  have hw : (s.wordAt i w).2.mems = s.mems := by
    unfold State.wordAt
    dsimp only
    (repeat' split) <;> rfl
  unfold State.checkedWord
  dsimp only
  (repeat' split) <;> exact hw

theorem State.report_merge (s : State) (i w reader : Nat) (r : Read) (what : Nat) (latch : List Nat) (j : Nat) :
    ((s.report i w reader r what latch).mem j).merge = (s.mem j).merge := by
  have hset (m : Mem) (h : m.merge = (s.mem i).merge) : ((s.setMem i m).mem j).merge = (s.mem j).merge := by
    rw [State.setMem_get]
    split
    · next hj => rw [h, hj]
    · rfl
  unfold State.report State.reportCe State.reportUe
  dsimp only
  split
  · split <;> simp only [State.raiseLimited_mem] <;> exact hset _ rfl
  · split
    · rw [State.raise_mem]
      split
      · exact hset _ rfl
      · rw [State.signal_mem]; exact hset _ rfl
    · rfl

/-- Draining an entry takes it, and no other, out of the merge buffer. -/
theorem State.drainEntry_merge (s : State) (i : Nat) (e : Merge) :
    ((s.drainEntry i e).mem i).merge = (s.mem i).merge.filter (fun x => x.word != e.word) := by
  unfold State.drainEntry
  extract_lets s1
  have h1 : (s1.mem i).merge = (s.mem i).merge.filter (fun x => x.word != e.word) := by simp [s1]
  split
  · exact (State.putWord_merge s1 i e.word _ i).trans h1
  · have h2 := s1.checkedWord_mems i e.word
    generalize s1.checkedWord i e.word = p at h2 ⊢
    obtain ⟨r, s2⟩ := p
    have hmem : s2.mem i = s1.mem i := by unfold State.mem; rw [show s2.mems = s1.mems from h2]
    have h3 : ((s2.report i e.word 6 r).mem i).merge = (s.mem i).merge.filter (fun x => x.word != e.word) := by
      rw [State.report_merge, hmem, h1]
    dsimp only
    split
    · exact (congrArg Mem.merge (foldl_keeps (fun u => State.mem u i) (fun _ _ => by rfl) _ _)).trans
        ((State.putWord_merge _ i e.word _ i).trans h3)
    · exact (State.putWord_merge _ i e.word _ i).trans h3

end Sys2Proof.Machine

namespace Sys2Proof.Proofs
open Sys2Proof Sys2Proof.Machine Sys2Proof.Claims

/-- A granted store write, with its pages open or one of them locked. -/
theorem storeWrite_granted {s : State} {d : HostData} {q : Req} {c p : Nat} (hat : At s inCapture) (hn : s.laneWinner (.dram c) = none)
    (hw : s.winner (.dram c) = some q) (hr : q.res = .dram c) (hc : q.ctl = false) (hwr : q.write = true) (hp : p ∈ pagesOf q.addr q.len) :
    ((pagesOf q.addr q.len).any s.lockedPage = false → ∃ t, exec (.sharedResourceGrant (.dram c) d) s = .next t
      ∧ (t.page p).kind ≠ 0 ∧ (t.page p).last = s.tempo)
    ∧ ((pagesOf q.addr q.len).any s.lockedPage = true → (s.dma q.who).cause = 0 →
      ∃ t, exec (.sharedResourceGrant (.dram c) d) s = .next t
      ∧ (t.dma q.who).cause = 5 ∧ (t.dma q.who).step = .finish ∧ t.store.pages = s.store.pages ∧ t.mems = s.mems) := by
  rw [execSharedResourceGrant_dma hat hn hw, State.grantDma_storeWrite hr hc hwr]
  exact ⟨fun hl => ⟨_, rfl, State.grantWrite_page (s := s.taken q) hp hl⟩,
    fun hl hcause => ⟨_, rfl, State.grantWrite_locked (s := s.taken q) hl hcause⟩⟩

/-- Settles O29: each grant goes to the lane or the request that the scheduler picks. -/
theorem resourcesAreGrantedVideoFirst : Obligations.ResourcesAreGrantedVideoFirst := by
  refine ⟨fun s hat => ⟨fun res d l hl => ?lane, fun res d hn ht => ?throttled, fun d q hn hw hwr hr hc hl => ?hostWrite,
    fun res d q hn hw hc => ?descriptor, fun d q c p hn hw hr hc hwr hp => storeWrite_granted hat hn hw hr hc hwr hp,
    fun n f hf hl => execDramWriteArrival_lands hat hf hl⟩, fun s i w e hf ht => ?drain⟩
  case lane => exact ⟨_, execSharedResourceGrant_lane hat hl, by rw [State.updLane_get, if_pos rfl], rfl⟩
  case throttled => exact execSharedResourceGrant_none hat hn (State.winner_of_throttled ht)
  case hostWrite =>
    rw [execSharedResourceGrant_dma hat hn hw, State.grantDma_hostWrite hr hc hwr, State.grantHost_write (s := s.taken q) hl hwr]
    rfl
  case descriptor =>
    obtain ⟨hslot, hreqs⟩ := State.grantCtl_parts (s := s.taken q) (q := q)
    exact ⟨_, (execSharedResourceGrant_dma hat hn hw).trans (by rw [State.grantDma_ctl hc]), hslot, hreqs⟩
  case drain =>
    refine ⟨_, execMergeBufferDrain_drains hf ht, fun x hx => ?_⟩
    have hword : e.word = w := by simpa using List.find?_some hf
    rw [State.drainEntry_merge, hword] at hx
    simpa using (List.mem_filter.1 hx).2

end Sys2Proof.Proofs
end

section
namespace Sys2Proof.Machine
open Sys2Proof Sys2Proof.Claims
variable {s : State}

/-! ### COMPRESS_JOB (R195, R196) -/

/-- The job that a COMPRESS_JOB of a RAW source asks for. -/
def State.rawJob (s : State) (m : Msg) : Job :=
  { reply := s.replyOf 0x0520 m, level := m.argN 8 1, dyn := m.argN 9 1 == 1, src := m.pay 0 8, dst := m.pay 8 8, len := m.pay 16 8
    limit := m.pay 24 8, container := false, pred := s.par clsCL 0 0x001, station := s.par clsCL 0 0x002
    width16 := s.par clsCL 0 0x003, bound := boxBound (s.subBytes (m.pay 0 8) (m.pay 16 8)) }

/-- The groups of 32 lines that a RAW source must hold (R196). -/
structure State.RawGroups (s : State) (len : Nat) : Prop where
  raw : s.par clsCL 0 0x000 = 0
  whole : len % (32 * (8 * s.par clsCL 0 0x003)) = 0
  one : 1 ≤ len / (32 * (8 * s.par clsCL 0 0x003))
  most : len / (32 * (8 * s.par clsCL 0 0x003)) ≤ 32

/-- The ranges that a job may use (R195). -/
structure State.JobRanges (s : State) (src dst len limit : Nat) : Prop where
  aligned : dst % 4096 = 0
  source : s.badRange src len = false
  destination : s.badRange dst limit = false
  apart : overlap src len dst limit = false
  holds : boxBound (s.subBytes src len) ≤ limit
  unlocked : (pagesOf dst limit).any s.lockedPage = false

/-- A COMPRESS_JOB that nothing refuses joins the queue and holds back its ring. -/
theorem execCompressJob_queues {m : Msg} (h : Takes 0x0520 m 32 0xffffffffffff0000 s) (hlevel : m.argN 8 1 ≤ 9) (hdyn : m.argN 9 1 ≤ 1)
    (hm : s.md.mode ∈ modesStore) (hd : s.md.dramOk = true) (hv : m.argN 9 1 = 1 → s.die.variant = 1) (hg : s.RawGroups (m.pay 16 8))
    (hr : s.JobRanges (m.pay 0 8) (m.pay 8 8) (m.pay 16 8) (m.pay 24 8)) (hc : s.jobChannels ≠ []) :
    exec (.compressJob m) s = .next { s.hold 0x0520 m with store := { s.store with jobs := s.store.jobs ++ [s.rawJob m] } } := by
  obtain ⟨-, hat, hl, ha, -⟩ := id h
  obtain ⟨hraw, hwhole, hone, hmost⟩ := hg
  obtain ⟨haligned, hsource, hdestination, hapart, hholds, hunlocked⟩ := hr
  show execCompressJob m s = _
  unfold execCompressJob
  rw [hat]
  refine congrArg _ ((State.command_of_takes h ?_ _).trans ?_)
  · have harg : (decide (9 < m.argN 8 1) || decide (1 < m.argN 9 1)) = false := by simp; omega
    have htables : (m.argN 9 1 == 1 && s.die.variant != 1) = false := by
      by_cases h1 : m.argN 9 1 = 1
      · simp [hv h1]
      · simp [h1]
    have hlen : (s.par clsCL 0 0x000 == 0 && !(m.pay 16 8 % (32 * (8 * s.par clsCL 0 0x003)) == 0
        && decide (1 ≤ m.pay 16 8 / (32 * (8 * s.par clsCL 0 0x003)))
        && decide (m.pay 16 8 / (32 * (8 * s.par clsCL 0 0x003)) ≤ 32))) = false := by simp [hwhole, hone, hmost]
    have hranges : (m.pay 8 8 % 4096 != 0 || s.badRange (m.pay 0 8) (m.pay 16 8) || s.badRange (m.pay 8 8) (m.pay 24 8)
        || overlap (m.pay 0 8) (m.pay 16 8) (m.pay 8 8) (m.pay 24 8)
        || decide (m.pay 24 8 < boxBound (s.subBytes (m.pay 0 8) (m.pay 16 8)))) = false := by
      simp [haligned, hsource, hdestination, hapart, hholds]
    have hchannel : s.jobChannels.isEmpty = false := by simpa using hc
    rw [Msg.plen_nil hl, Msg.argRes_nil ha, refuse_eq_nil harg, State.inModes_nil hm, State.dramRefs_nil hd, refuse_eq_nil htables,
      refuse_eq_nil hlen, refuse_eq_nil hranges, refuse_eq_nil hunlocked, refuse_eq_nil hchannel]
    rfl
  · dsimp only
    rw [hraw]
    rfl

/-! ### COMPRESS_JOB_START -/

/-- CL0 has taken a job over a channel. -/
def State.jobTaken (s : State) (j : Job) (rest : List Job) (c : Nat) : State :=
  { s with store := { s.store with job := some { j with ch := c }, jobs := rest } }

/-- Firmware has written the chain of a job to descriptor SRAM. -/
def State.chainWritten (s : State) (j : Job) : State :=
  j.chain.zipIdx.foldl (fun u e => u.memWrite 10 (32 * e.2) (chainDesc j.chain.length e.2 e.1) 0) s

theorem execCompressJobStart_starts {j : Job} {rest : List Job} {c : Nat} {cs : List Nat} (hj : s.store.job = none)
    (hjs : s.store.jobs = j :: rest) (hc : s.jobChannels = c :: cs) (ht : s.tripped = false) :
    exec .compressJobStart s = .next (((s.jobTaken j rest c).chainWritten j).startChain c 0) := by
  show execCompressJobStart s = _
  unfold execCompressJobStart
  rw [hj, hjs, hc]
  exact congrArg _ (if_neg (by simp [ht]))

theorem State.chainWritten_aside (j : Job) : (s.chainWritten j).aside = s.aside :=
  foldl_keeps State.aside (fun u _ => u.memWrite_aside _ _ _ _) _ s

theorem State.chainWritten_causeOnly (j : Job) : CauseOnly s (s.chainWritten j) :=
  .foldl s (fun u _ => u.memWrite_causeOnly _ _ _ _) _

theorem State.startChain_aside (s : State) (ch a : Nat) : (s.startChain ch a).aside = s.aside := by
  unfold State.startChain
  split
  · exact State.descStep_aside _ _ _
  · rfl

/-- A channel that a job may take is IDLE. -/
theorem State.idle_of_mem_jobChannels {c : Nat} (h : c ∈ s.jobChannels) : (s.dma c).state = .idle := by
  obtain ⟨-, hc⟩ := List.mem_filter.1 h
  simp only [Bool.and_eq_true, beq_iff_eq] at hc
  exact hc.1.1

/-! ### COMPRESS_JOB_END (R200) -/

/-- A job whose channel runs no more comes to its end. -/
theorem execCompressJobEnd_done {j : Job} (hj : s.store.job = some j) (ht : s.tripped = false) (hr : (s.dma j.ch).state ≠ .running) :
    exec (.compressJobEnd none) s = .next (s.jobDone j) := by
  show execCompressJobEnd none s = _
  unfold execCompressJobEnd
  rw [hj]
  dsimp only
  rw [if_neg (by simp [ht]), if_neg hr, hj]

theorem execCompressJobEnd_runs {j : Job} (hj : s.store.job = some j) (ht : s.tripped = false) (hr : (s.dma j.ch).state = .running) :
    exec (.compressJobEnd none) s = .next s := by
  show execCompressJobEnd none s = _
  unfold execCompressJobEnd
  rw [hj]
  dsimp only
  rw [if_neg (by simp [ht]), if_pos hr]

/-- A job that ends leaves CL0 idle and the pages as they are, and 0x0520 reports it. -/
theorem State.jobEnd_reports (s : State) (j : Job) (code : Nat) (data : Bytes) (ho : s.objHere (obj clsCL 0) = true) :
    (s.jobEnd j code data).store = { s.store with job := none }
      ∧ Raised (s.jobEnd j code data) 0x0520 (obj clsCL 0) [code, j.input.length, j.outAt, j.level, b2n j.dyn] := by
  unfold State.jobEnd
  refine ⟨by rw [State.post_store, State.raise_store], ?_⟩
  exact (State.post_steady _ _ _ _ _).toOnward.raised (by decide)
    (State.raised_raise (s := { s with store := { s.store with job := none } })
      (e := { code := 0x0520, obj := obj clsCL 0, fields := [code, j.input.length, j.outAt, j.level, b2n j.dyn] }) ho)

/-- A page that is hit whatever its state is FENCED. -/
theorem State.fenceAll_page (s : State) {hit : Nat → Page → Bool} {p : Nat} (h : ∀ g, hit p g = true) : ((s.fenceAll hit).page p).kind = 0 := by
  show (Map.get (fun _ => ({} : Page)) (s.store.pages.filter (fun e => !hit e.1 e.2)) p).kind = 0
  obtain hd | hm := Map.get_cases (d := fun _ => ({} : Page)) (s.store.pages.filter (fun e => !hit e.1 e.2)) p
  · rw [hd]
  · exact absurd (List.mem_filter.1 hm).2 (by simp [h])

/-- A job that has failed ends with its status, after its destination has been left undefined. -/
theorem State.jobFail_eq (s : State) (j : Job) (code : Nat) (data : Bytes) :
    ∃ u, CauseOnly s u ∧ s.jobFail j code data = u.jobEnd j code data := by
  unfold State.jobFail
  dsimp only
  refine ⟨_, CauseOnly.trans (t := (s.freshBytes j.limit).2) (.of_dma rfl rfl fun _ => rfl) (.foldl _ (fun u p => ?_) _), rfl⟩
  exact (u.dirty_causeOnly _ _).trans (State.memWrite_causeOnly _ _ _ _ _)

theorem State.jobDone_ok {j : Job} {b : Bytes} (hf : j.fail = none) (hb : j.box = some b) (hl : b.length ≤ j.outAt)
    (ha : s.allLanded j.dst b.length = true) : s.jobDone j
      = (s.fenceAll (fun p _ => (pagesOf j.dst b.length).contains p)).jobEnd j stOK (toLE 8 b.length) := by
  unfold State.jobDone
  rw [hf, hb]
  exact (if_pos hl).trans (if_pos ha)

theorem State.jobDone_failed {j : Job} {code : Nat} {data : Bytes} (hf : j.fail = some (code, data)) :
    s.jobDone j = s.jobFail j code data := by
  unfold State.jobDone
  rw [hf]

end Sys2Proof.Machine

namespace Sys2Proof.Proofs
open Sys2Proof Sys2Proof.Machine Sys2Proof.Claims

/-- CL0 takes its oldest job, over the lowest channel that is idle. -/
theorem compressJob_starts {s : State} {j : Job} {rest : List Job} {c : Nat} {cs : List Nat} (hj : s.store.job = none)
    (hjs : s.store.jobs = j :: rest) (hc : s.jobChannels = c :: cs) (ht : s.tripped = false) :
    ∃ t, exec .compressJobStart s = .next t ∧ t.store.job = some { j with ch := c } ∧ t.store.jobs = rest
      ∧ (t.dma c).state = .running ∧ (t.dma c).cur = 0 ∧ (t.dma c).step = .readDesc := by
  have haside := (((s.jobTaken j rest c).chainWritten j).startChain_aside c 0).trans ((s.jobTaken j rest c).chainWritten_aside j)
  obtain ⟨cause, hcause⟩ := ((s.jobTaken j rest c).chainWritten_causeOnly j).dma c
  have hidle : (((s.jobTaken j rest c).chainWritten j).dma c).state = .idle := by
    rw [hcause]
    exact State.idle_of_mem_jobChannels (hc ▸ List.mem_cons_self)
  refine ⟨_, execCompressJobStart_starts hj hjs hc ht, State.aside_job haside, State.aside_jobs haside, ?_⟩
  rw [State.startChain_dma hidle]
  exact ⟨rfl, rfl, rfl⟩

/-- The container of a job has been drained and has arrived. -/
theorem compressJob_endsOk {s : State} {j : Job} {b : Bytes} (hj : s.store.job = some j) (ht : s.tripped = false)
    (hr : (s.dma j.ch).state ≠ .running) (hf : j.fail = none) (hb : j.box = some b) (hl : b.length ≤ j.outAt)
    (ha : s.allLanded j.dst b.length = true) (ho : s.objHere (obj clsCL 0) = true) :
    ∃ t, exec (.compressJobEnd none) s = .next t ∧ t.store.job = none
      ∧ (∀ p, p ∈ pagesOf j.dst b.length → (t.page p).kind = 0)
      ∧ Raised t 0x0520 (obj clsCL 0) [stOK, j.input.length, j.outAt, j.level, b2n j.dyn] := by
  obtain ⟨hstore, hraised⟩ := State.jobEnd_reports (s.fenceAll (fun p _ => (pagesOf j.dst b.length).contains p)) j stOK (toLE 8 b.length) ho
  refine ⟨_, (execCompressJobEnd_done hj ht hr).trans (by rw [State.jobDone_ok hf hb hl ha]), by rw [hstore], fun p hp => ?_, hraised⟩
  unfold State.page
  rw [hstore]
  exact s.fenceAll_page (hit := fun p _ => (pagesOf j.dst b.length).contains p) (fun _ => List.contains_iff_mem.2 hp)

/-- A job has failed. -/
theorem compressJob_endsFailed {s : State} {j : Job} {code : Nat} {data : Bytes} (hj : s.store.job = some j) (ht : s.tripped = false)
    (hr : (s.dma j.ch).state ≠ .running) (hf : j.fail = some (code, data)) (ho : s.objHere (obj clsCL 0) = true) :
    ∃ t, exec (.compressJobEnd none) s = .next t ∧ t.store.job = none
      ∧ Raised t 0x0520 (obj clsCL 0) [code, j.input.length, j.outAt, j.level, b2n j.dyn] := by
  obtain ⟨u, hu, he⟩ := s.jobFail_eq j code data
  obtain ⟨hstore, hraised⟩ := u.jobEnd_reports j code data ((State.objHere_congr hu.die hu.removed _).trans ho)
  exact ⟨_, (execCompressJobEnd_done hj ht hr).trans (by rw [State.jobDone_failed hf, he]), by rw [hstore], hraised⟩

/-- Settles O30, row by row. -/
theorem compressionJobsQueueRunAndEnd : Obligations.CompressionJobsQueueRunAndEnd := by
  refine ⟨fun m s src dst len limit h hsrc hdst hlen hlimit hlevel hdyn hm hd hv hraw hwhole hone hmost haligned hsource hdestination
      hapart hholds hunlocked hc => ?job, fun s j rest c cs hj hjs hc ht => compressJob_starts hj hjs hc ht,
    fun s j hj ht => ⟨execCompressJobEnd_runs hj ht, fun b hr hf hb hl ha ho => compressJob_endsOk hj ht hr hf hb hl ha ho,
      fun code data hr hf ho => compressJob_endsFailed hj ht hr hf ho⟩⟩
  case job =>
    rw [eq_comm] at hsrc hdst hlen hlimit
    subst hsrc hdst hlen hlimit
    exact ⟨_, s.rawJob m, execCompressJob_queues h hlevel hdyn hm hd hv ⟨hraw, hwhole, hone, hmost⟩
      ⟨haligned, hsource, hdestination, hapart, hholds, hunlocked⟩ hc, rfl, rfl, rfl, rfl, rfl, rfl, rfl, s.hold_taken 0x0520 m⟩

end Sys2Proof.Proofs
end

section
namespace Sys2Proof.Machine
open Sys2Proof Sys2Proof.Claims
variable {s : State}

/-! ### Reads of a lane -/

/-- A read leaves the units that are there. -/
theorem State.memScan_objHere (s : State) (i a n reader what o : Nat) : (s.memScan i a n reader what).2.2.objHere o = s.objHere o :=
  have h : CauseOnly s (s.memScan i a n reader what).2.2 := s.memRead_causeOnly i a n reader what []
  State.objHere_congr h.die h.removed o

theorem State.storeRead_objHere (s : State) (a n reader what o : Nat) : (s.storeRead a n reader what).2.2.objHere o = s.objHere o :=
  s.memScan_objHere (storeInst a) a n reader what o

theorem State.storeRead_aside (s : State) (a n reader what : Nat) : (s.storeRead a n reader what).2.2.aside = s.aside :=
  s.memScan_aside (storeInst a) a n reader what

/-! ### The lane queue of a station (R202) -/

theorem VideoOnly.steady {s t : State} (h : VideoOnly s t) : Steady s t := by
  obtain ⟨v, rfl⟩ := h
  exact .of_eq rfl

theorem State.updLanes_station (s : State) (n : Nat) (f : Lane → Lane) (k : Nat) : (s.updLanes n f).station k = s.station k :=
  foldl_keeps (fun u => State.station u k) (fun _ _ => by rfl) _ s

theorem take_agree (xs ys : List QStrip) : xs.take (agree xs ys) = ys.take (agree xs ys) := by
  induction xs generalizing ys with
  | nil => simp [agree]
  | cons x xs ih =>
    cases ys with
    | nil => simp [agree]
    | cons y ys =>
      unfold agree
      split
      · next h => rw [Nat.add_comm, List.take_succ_cons, List.take_succ_cons, h, ih ys]
      · rfl

theorem renumber_tk (q : Nat) (es : List QStrip) : (renumber q es).map QStrip.tk = es.map QStrip.tk := by
  induction es generalizing q with
  | nil => rfl
  | cons e es ih => simp [renumber, ih]

/-- The strips of a queue with new contents are of the tickets given. -/
theorem State.setQueue_tk (s : State) (n : Nat) (new : List QStrip) :
    ((s.setQueue n new).station n).queue.map QStrip.tk = new.map QStrip.tk := by
  unfold State.setQueue
  dsimp only
  rw [State.updLanes_station, State.setStation_get, if_pos rfl]
  dsimp only
  rw [List.map_append, renumber_tk, take_agree, ← List.map_append, List.take_append_drop]

/-- A station has strips of every ticket that its queue has been given strips of. -/
theorem State.enqueue_stripsOf (s : State) (n tk : Nat) {es : List QStrip} {e : QStrip} (he : e ∈ es) (htk : e.tk = tk) :
    ((s.enqueue n tk es).station n).stripsOf tk ≠ [] := by
  have hmem : tk ∈ ((s.enqueue n tk es).station n).queue.map QStrip.tk := by
    unfold State.enqueue
    dsimp only
    rw [State.setQueue_tk, ← htk]
    exact List.mem_map_of_mem (List.mem_append_left _ (List.mem_append_right _ he))
  obtain ⟨x, hx, hk⟩ := List.mem_map.1 hmem
  exact List.ne_nil_of_mem (List.mem_filter.2 ⟨hx, by simpa using hk⟩)

theorem le_foldl_max {xs : List Nat} {x : Nat} (h : x ∈ xs) (a : Nat) : x ≤ xs.foldl max a := by
  have base (ys : List Nat) (b : Nat) : b ≤ ys.foldl max b := foldl_pred (P := (b ≤ ·)) (fun _ _ hu => le_max_of_le_left hu) (le_refl b)
  obtain ⟨ys, zs, rfl⟩ := List.append_of_mem h
  rw [List.foldl_append, List.foldl_cons]
  exact (le_max_right _ _).trans (base zs _)

/-- A ticket with an image entry on a station has a strip there. -/
theorem Ticket.exists_mem_strips {t : Ticket} {i : Image} (tk : Nat) (hi : i ∈ t.images) : ∃ e, e ∈ t.strips tk i.station ∧ e.tk = tk := by
  have hmine : i ∈ t.images.filter (fun x => x.station == i.station) := List.mem_filter.2 ⟨hi, by simp⟩
  have hks : i.strip ∈ (t.images.filter (fun x => x.station == i.station)).map (fun x => x.strip) := List.mem_map_of_mem hmine
  unfold Ticket.strips
  refine ⟨_, List.mem_flatMap.2 ⟨i.strip, List.mem_filter.2 ⟨?_, ?_⟩, List.mem_map_of_mem (List.mem_filter.2 ⟨hmine, by simp⟩)⟩, rfl⟩
  · exact List.mem_range.2 (Nat.lt_succ_of_le (le_foldl_max hks 0))
  · exact List.contains_iff_mem.2 hks

/-! ### HEADER_CHECK (R184, R185, R202) -/

/-- An image entry whose header one lane has judged. -/
def Image.judged (i : Image) (rank cause : Nat) (h : Bytes) (bad : Bool) : Image :=
  { i with hdr := Map.put (fun _ => none) i.hdr rank (some cause), raw := if bad then i.raw else h }

/-- The judgement of a header is reported where it is bad, and noted in the entry. -/
def State.headerJudged (s : State) (tk entry : Nat) (i : Image) (rank cause : Nat) (h : Bytes) (bad : Bool) : State :=
  (s.hdrInvalid tk i cause).updTicket tk (fun x => { x with images := x.images.set entry (i.judged rank cause h bad) })

/-- Every lane of a station has found every header of the ticket on it valid. -/
def Ticket.headersValid (t : Ticket) (n : Nat) : Bool :=
  (t.images.filter (fun x => x.station == n)).all (fun x => (List.range 4).all (fun r => Map.get (fun _ => none) x.hdr r == some 0))

/-- The strips of a ticket with valid headers are queued, unless they are queued already. -/
def State.queueStrips (s : State) (tk n : Nat) : State :=
  if (s.ticket tk).headersValid n && ((s.station n).stripsOf tk).isEmpty then s.enqueue n tk ((s.ticket tk).strips tk n) else s

/-- A lane may check the header of an image entry. -/
structure State.ChecksHeader (s : State) (tk entry rank : Nat) (i : Image) : Prop where
  live : s.tripped = false
  resident : (s.ticket tk).resident = true
  armed : (s.ticket tk).state = 2
  entry : (s.ticket tk).images[entry]? = some i
  isRank : rank < 4
  service : s.inService clsDL (4 * i.station + rank) = true
  fenced : (s.page (i.addr / 4096)).kind = 0
  unchecked : Map.get (fun _ => none) i.hdr rank = none

theorem execHeaderCheck_judges {s1 : State} {tk entry rank : Nat} {i : Image} {h : Bytes} {bad : Bool} (hc : s.ChecksHeader tk entry rank i)
    (hread : s.storeRead i.addr 32 7 (obj clsTK tk) = (h, bad, s1)) : exec (.headerCheck tk entry rank) s
      = .next ((s1.headerJudged tk entry i rank (s.headerCause i (!(s.ticket tk).images.any (fun x =>
        x.station == i.station && decide (i.strip < x.strip))) h bad) h bad).queueStrips tk i.station) := by
  obtain ⟨hlive, hres, harm, hentry, hrank, hserv, hfenced, hun⟩ := hc
  have hpage : (Map.get (fun _ => ({} : Page)) s.store.pages (i.addr / 4096)).kind = 0 := hfenced
  show execHeaderCheck tk entry rank s = _
  unfold execHeaderCheck
  dsimp only
  rw [hentry]
  dsimp only
  rw [if_neg (by simp [hlive, hres, harm, hserv, hpage, hun, hrank]), hread]
  rfl

theorem State.hdrInvalid_aside (s : State) (tk : Nat) (i : Image) (cause : Nat) : (s.hdrInvalid tk i cause).aside = s.aside := by
  unfold State.hdrInvalid
  split
  · rfl
  · exact s.raise_aside rfl

theorem State.hdrInvalid_raised {tk : Nat} {i : Image} {cause : Nat} (h0 : cause ≠ 0) (hnew : ∀ e, e ∈ i.hdr → e.2 ≠ some cause)
    (ho : s.objHere (obj clsSTN i.station) = true) :
    Raised (s.hdrInvalid tk i cause) 0x0501 (obj clsSTN i.station) [obj clsTK tk, obj clsSTN i.station, i.strip, i.addr, cause] := by
  have hany : i.hdr.any (fun e => e.2 == some cause) = false := List.any_eq_false.2 fun e he => by simpa using hnew e he
  unfold State.hdrInvalid
  rw [if_neg (by simp [h0, hany])]
  exact State.raised_raise (e := { code := 0x0501, obj := obj clsSTN i.station
                                   fields := [obj clsTK tk, obj clsSTN i.station, i.strip, i.addr, cause] }) ho

theorem State.headerJudged_images (s : State) (tk entry : Nat) (i : Image) (rank cause : Nat) (h : Bytes) (bad : Bool) :
    ((s.headerJudged tk entry i rank cause h bad).ticket tk).images = (s.ticket tk).images.set entry (i.judged rank cause h bad) := by
  unfold State.headerJudged
  rw [State.updTicket_get, if_pos rfl, State.ticket_congr (State.aside_sheets (s.hdrInvalid_aside tk i cause))]

theorem State.queueStrips_videoOnly (s : State) (tk n : Nat) : VideoOnly s (s.queueStrips tk n) := by
  unfold State.queueStrips
  split
  · exact State.setQueue_videoOnly _ _ _
  · exact .refl s

/-- While a header is not valid, no strip is queued. -/
theorem State.queueStrips_of_invalid {tk n r : Nat} {i : Image} (hi : i ∈ (s.ticket tk).images) (hn : i.station = n) (hr : r < 4)
    (hv : Map.get (fun _ => none) i.hdr r ≠ some 0) : s.queueStrips tk n = s := by
  have hvalid : (s.ticket tk).headersValid n = false := by
    rw [Ticket.headersValid, List.all_eq_false]
    refine ⟨i, List.mem_filter.2 ⟨hi, by simpa using hn⟩, fun hall => hv ?_⟩
    simpa using List.all_eq_true.1 hall r (List.mem_range.2 hr)
  unfold State.queueStrips
  rw [hvalid]
  rfl

/-- With every header valid the station has strips of the ticket. -/
theorem State.queueStrips_of_valid {tk : Nat} {i : Image} (hi : i ∈ (s.ticket tk).images)
    (hv : (s.ticket tk).headersValid i.station = true) : ((s.queueStrips tk i.station).station i.station).stripsOf tk ≠ [] := by
  unfold State.queueStrips
  rw [hv]
  split
  · obtain ⟨e, he, htk⟩ := Ticket.exists_mem_strips tk hi
    exact s.enqueue_stripsOf i.station tk he htk
  · next h => simpa using h

theorem Image.judged_hdr (i : Image) (rank cause : Nat) (h : Bytes) (bad : Bool) (r : Nat) :
    Map.get (fun _ => none) (i.judged rank cause h bad).hdr r = if r = rank then some cause else Map.get (fun _ => none) i.hdr r := by
  rw [Image.judged, Map.get_put]

/-- The last header of a ticket on a station has been found valid. -/
theorem Ticket.headersValid_of_set {t u : Ticket} {i : Image} {entry rank : Nat} {h : Bytes} {bad : Bool}
    (hu : u.images = t.images.set entry (i.judged rank 0 h bad)) (hentry : t.images[entry]? = some i)
    (hv : ∀ k x r, t.images[k]? = some x → x.station = i.station → r < 4 →
      (k = entry ∧ r = rank) ∨ Map.get (fun _ => none) x.hdr r = some 0) : u.headersValid i.station = true := by
  refine List.all_eq_true.2 fun x hx => List.all_eq_true.2 fun r hr => ?_
  obtain ⟨hmem, hst⟩ := List.mem_filter.1 hx
  have hst : x.station = i.station := by simpa using hst
  have hr : r < 4 := List.mem_range.1 hr
  rw [hu] at hmem
  obtain ⟨k, hk⟩ := List.mem_iff_getElem?.1 hmem
  rw [List.getElem?_set] at hk
  rw [beq_iff_eq]
  split at hk
  · split at hk
    · obtain rfl := Option.some.inj hk
      rw [Image.judged_hdr]
      split
      · rfl
      · next hne => exact (hv entry i r hentry rfl hr).resolve_left fun hboth => hne hboth.2
    · exact absurd hk (by simp)
  · next hne => exact (hv k x r hk hst hr).resolve_left fun hboth => hne hboth.1.symm

/-! ### FETCH_RETURN (R180) -/

/-- A lane in service works on a strip, at the place of its rows. -/
structure State.LaneOn (s : State) (l : Nat) (e : QStrip) : Prop where
  now : At s inCapture
  strip : s.laneStrip l = some e
  live : s.tripped = false
  service : s.inService clsDL l = true

/-- How long a lane has waited for its sub-stream. -/
def State.laneWait (s : State) (l : Nat) : Nat := s.tempo - (s.lane l).since.getD s.tempo

/-- The event of a fetch that took over 1,000 tempo. -/
def State.lateEv (s : State) (l : Nat) (e : QStrip) : Ev :=
  { code := 0x0410, fields := [storeInst e.addr - 22, obj clsDL l, s.laneWait l] }

theorem execFetchReturn_returns {s1 : State} {l : Nat} {e : QStrip} {b : Bytes} {ue : Option Nat} (h : s.LaneOn l e)
    (hg : (s.lane l).granted = true) (hf : (s.lane l).fetched = false)
    (hread : s.memScan (storeInst (e.sub (l % 4)).1) (e.sub (l % 4)).1 (e.sub (l % 4)).2 7 (obj clsTK e.tk) = (b, ue, s1)) :
    exec (.fetchReturn l) s = .next ((if 1000 < s.laneWait l then s1.raise (s.lateEv l e) else s1).updLane l
      (fun y => { y with granted := false, fetched := true, fetchUe := ue, input := b })) := by
  obtain ⟨hat, hstrip, hlive, hserv⟩ := h
  show execFetchReturn l s = _
  unfold execFetchReturn
  rw [hat]
  dsimp only
  rw [hstrip]
  dsimp only
  rw [if_neg (by simp [hlive, hserv, hg, hf]), hread]
  rfl

end Sys2Proof.Machine
end

section
namespace Sys2Proof.Machine
open Sys2Proof Sys2Proof.Claims
variable {s t u : State} {l : Nat} {e : QStrip}

/-! ### What follows a decode error leaves a lane's error count and the store -/

/-- From `s` to `t` events have only been added, and lane `l`'s count of errors and the store are as they were. -/
structure LaneKept (l : Nat) (s t : State) : Prop extends Steady s t where
  errors : (t.lane l).errors = (s.lane l).errors
  store : t.store = s.store

theorem LaneKept.refl (s : State) : LaneKept l s s := ⟨.refl s, rfl, rfl⟩

theorem LaneKept.trans (h : LaneKept l s t) (k : LaneKept l t u) : LaneKept l s u :=
  ⟨h.toSteady.trans k.toSteady, k.errors.trans h.errors, k.store.trans h.store⟩

theorem LaneKept.foldl {α : Type} {f : State → α → State} (hf : ∀ u x, LaneKept l u (f u x)) (xs : List α) (s : State) :
    LaneKept l s (xs.foldl f s) :=
  foldl_pred (P := LaneKept l s) (fun u x h => h.trans (hf u x)) (.refl s)

theorem LaneKept.ite {c : Prop} [Decidable c] (h : LaneKept l s t) (k : LaneKept l s u) : LaneKept l s (if c then t else u) := by
  split
  · exact h
  · exact k

theorem State.raise_laneKept (s : State) (ev : Ev) : LaneKept l s (s.raise ev) :=
  ⟨s.raise_steady ev, by rw [State.raise_lane], s.raise_store ev⟩

theorem State.spoil_laneKept (s : State) (tk n cause line : Nat) : LaneKept l s (s.spoil tk n cause line) :=
  ⟨s.spoil_steady tk n cause line, by rw [State.spoil_lane], s.spoil_store tk n cause line⟩

theorem State.updTicket_laneKept (s : State) (k : Nat) (f : Ticket → Ticket) : LaneKept l s (s.updTicket k f) := ⟨.of_eq rfl, rfl, rfl⟩

theorem State.setStation_laneKept (s : State) (n : Nat) (g : Station) : LaneKept l s (s.setStation n g) := ⟨.of_eq rfl, rfl, rfl⟩

/-- A lane that begins a strip again, or goes on to another, keeps its count of errors. -/
theorem State.updLane_laneKept (s : State) (k : Nat) {f : Lane → Lane} (hf : ∀ x, (f x).errors = x.errors) : LaneKept l s (s.updLane k f) := by
  refine ⟨.of_eq rfl, ?_, rfl⟩
  rw [State.updLane_get]
  split
  · next h => rw [hf, h]
  · rfl

theorem State.setQueue_laneKept (s : State) (n : Nat) (new : List QStrip) : LaneKept l s (s.setQueue n new) := by
  refine (s.setStation_laneKept n _).trans (.foldl (fun u r => ?_) _ _)
  exact u.updLane_laneKept _ fun x => by split <;> rfl

theorem State.unqueue_laneKept (s : State) (n tk : Nat) : LaneKept l s (s.unqueue n tk) :=
  .ite (s.setQueue_laneKept n _) (.refl s)

theorem State.laneNext_laneKept (s : State) (k : Nat) : LaneKept l s (s.laneNext k) :=
  LaneKept.trans (t := s.updLane k (fun x => x.restart (x.strip + 1))) (s.updLane_laneKept k fun _ => rfl) (State.setStation_laneKept _ _ _)

theorem State.hdrInvalid_laneKept (s : State) (tk : Nat) (i : Image) (cause : Nat) : LaneKept l s (s.hdrInvalid tk i cause) :=
  .ite (.refl s) (s.raise_laneKept _)

/-! ### An error that is recorded against its container (R191) -/

/-- The container of a strip: its address and its length. -/
def QStrip.box (e : QStrip) : Nat × Nat := (e.addr, 32 + e.lens.foldl (· + ·) 0)

/-- A container is among those with a decode error. -/
def State.boxMarked (s : State) (e : QStrip) : State :=
  { s with store := { s.store with
    badBoxes := if s.store.badBoxes.contains e.box then s.store.badBoxes else s.store.badBoxes ++ [e.box] } }

theorem State.boxMarked_badBoxes (s : State) (e : QStrip) : e.box ∈ (s.boxMarked e).store.badBoxes := by
  show e.box ∈ if s.store.badBoxes.contains e.box then s.store.badBoxes else s.store.badBoxes ++ [e.box]
  split
  · next h => exact List.contains_iff_mem.1 h
  · exact List.mem_append_right _ (List.mem_singleton.2 rfl)

/-- The tickets that are ARMED learn of a marked container, which changes no lane's count and leaves the store. -/
theorem State.recordBox_laneKept (s : State) (e : QStrip) : LaneKept l (s.boxMarked e) (s.recordBox e) := by
  refine .foldl (fun u k => ?_) _ (s.boxMarked e)
  extract_lets hits u1 u2
  have h1 : LaneKept l u u1 := .foldl (fun v i => v.hdrInvalid_laneKept k i 0x0b) hits u
  exact .ite (.refl u) ((h1.trans (u1.updTicket_laneKept k _)).trans (.foldl (fun v n => v.unqueue_laneKept n k) _ u2))

theorem State.recordBox_badBoxes (s : State) (e : QStrip) : e.box ∈ (s.recordBox e).store.badBoxes := by
  rw [(s.recordBox_laneKept (l := 0) e).store]
  exact s.boxMarked_badBoxes e

theorem State.recordBox_errors (s : State) (e : QStrip) : ((s.recordBox e).lane l).errors = (s.lane l).errors :=
  (s.recordBox_laneKept e).errors

theorem State.recordBox_steady (s : State) (e : QStrip) : Steady s (s.recordBox e) :=
  Steady.trans (t := s.boxMarked e) (.of_eq rfl) (s.recordBox_laneKept (l := 0) e).toSteady

/-! ### Decode errors (R190 to R192) -/

/-- The event of a decode error: in a sealed sheet it names the line that it blanks. -/
def State.decodeEv (s : State) (l : Nat) (e : QStrip) (code at_ : Nat) : Ev :=
  { code := 0x0510, obj := obj clsDL l, sheet := s.stripSealed e && s.laneMore l e
    fields := [obj clsDL l, obj clsTK e.tk, e.strip, b2n (s.stripSealed e), code, at_,
      if s.stripSealed e ∧ s.laneMore l e then stripLine (l % 4) (s.lane l).line else 0xffff] }

/-- A decode error has been counted and reported. -/
def State.errorCounted (s : State) (l : Nat) (e : QStrip) (code at_ : Nat) : State :=
  (s.updLane l (fun x => { x with errors := satAdd 32 x.errors 1 })).raise (s.decodeEv l e code at_)

theorem State.errorCounted_errors (s : State) (l : Nat) (e : QStrip) (code at_ : Nat) :
    ((s.errorCounted l e code at_).lane l).errors = satAdd 32 (s.lane l).errors 1 := by
  rw [State.errorCounted, State.raise_lane, State.updLane_get, if_pos rfl]

theorem State.errorCounted_raised (code at_ : Nat) (ho : s.objHere (obj clsDL l) = true) :
    Raised (s.errorCounted l e code at_) 0x0510 (obj clsDL l) (s.decodeEv l e code at_).fields :=
  State.raised_raise (s := s.updLane l (fun x => { x with errors := satAdd 32 x.errors 1 })) (e := s.decodeEv l e code at_) ho

/-- In a sealed sheet the lines not yet written are blanked, the station is spoiled, and the lane goes on. -/
def State.linesLost (s : State) (l : Nat) (e : QStrip) (code at_ : Nat) : State :=
  if s.stripSealed e ∧ s.laneMore l e then
    (((s.errorCounted l e code at_).updStrip (l / 4) e.first (fun q => { q with
      blanked := q.blanked ++ [(l % 4, (s.lane l).line)], done := q.done ++ [(l % 4, none)] })).spoil e.tk (l / 4) 2
        (1024 * e.strip + stripLine (l % 4) (s.lane l).line)).laneNext l
  else s.errorCounted l e code at_

theorem State.linesLost_laneKept (s : State) (l : Nat) (e : QStrip) (code at_ : Nat) :
    LaneKept l (s.errorCounted l e code at_) (s.linesLost l e code at_) :=
  .ite (((State.setStation_laneKept _ _ _).trans (State.spoil_laneKept _ _ _ _ _)).trans (State.laneNext_laneKept _ _)) (.refl _)

/-- What a lane has decoded of a strip is discarded, and it begins the strip again. -/
def State.attemptAgain (s : State) (l : Nat) (e : QStrip) : State :=
  (s.updStation (l / 4) (fun t => { t with swath := t.swath.filter (fun x =>
    !(decide (e.first ≤ x.2.q) && decide (x.2.q < e.first + e.lines) && rankOf (x.2.q - e.first) == l % 4)) })).updLane l
      (fun x => x.restart x.strip)

theorem State.attemptAgain_laneKept (s : State) (l : Nat) (e : QStrip) : LaneKept l s (s.attemptAgain l e) :=
  (State.setStation_laneKept _ _ _).trans (State.updLane_laneKept _ _ fun _ => rfl)

/-- A decode error is recorded, or, where it is not the container's, ends in another attempt outside a sealed sheet. -/
theorem State.decodeError_eq (s : State) (l : Nat) (e : QStrip) (code at_ : Nat) (record : Bool) :
    s.decodeError l e code at_ record = if record then (s.linesLost l e code at_).recordBox e
      else if s.stripSealed e then s.linesLost l e code at_ else (s.linesLost l e code at_).attemptAgain l e := by
  unfold State.decodeError
  extract_lets n r sealed more line s1 s2 s3 mine
  have h3 : s3 = s.linesLost l e code at_ := by
    by_cases hm : sealed ∧ more
    · exact (if_pos hm).trans ((congrArg (fun u => State.laneNext u l) (if_pos hm)).trans (if_pos hm).symm)
    · exact (if_neg hm).trans ((if_neg hm).trans (if_neg hm).symm)
  rw [h3]
  rfl

/-- A decode error of a container is counted, reported, and recorded. -/
theorem State.decodeError_recorded_parts (code at_ : Nat) (ho : s.objHere (obj clsDL l) = true) :
    ((s.decodeError l e code at_ true).lane l).errors = satAdd 32 (s.lane l).errors 1
      ∧ Raised (s.decodeError l e code at_ true) 0x0510 (obj clsDL l) (s.decodeEv l e code at_).fields
      ∧ e.box ∈ (s.decodeError l e code at_ true).store.badBoxes := by
  have h := s.linesLost_laneKept l e code at_
  rw [State.decodeError_eq, if_pos rfl, State.recordBox_errors, h.errors, State.errorCounted_errors]
  exact ⟨rfl, (h.toSteady.trans (State.recordBox_steady _ e)).toOnward.raised (by decide) (State.errorCounted_raised code at_ ho),
    State.recordBox_badBoxes _ e⟩

/-- An error that is not the container's changes the store in nothing. -/
theorem State.decodeError_unrecorded (s : State) (l : Nat) (e : QStrip) (code at_ : Nat) :
    LaneKept l (s.errorCounted l e code at_) (s.decodeError l e code at_ false) := by
  have h := s.linesLost_laneKept l e code at_
  rw [State.decodeError_eq, if_neg (by decide)]
  exact .ite h (h.trans (State.attemptAgain_laneKept _ l e))

/-! ### LANE_LINE_WRITE (R187, R203) -/

/-- What a lane with a line to write, and room for it, does. -/
def State.lineStep (s : State) (l : Nat) (e : QStrip) : Option Nat → State
  | some a => (s.reportUe 17 a 0x8 (obj clsDL l) [] (s.stripSealed e)).decodeError l e 0x0a 0 false
  | none =>
    if s.lineBytes (l / 4) * ((s.lane l).line + 1) ≤ (s.laneDecode l e).out.length then
      (s.fresh.2.putLine (l / 4) (s.laneQ l e) ((rasterLines e.pred (s.lineBytes (l / 4)) ((s.lane l).line + 1)
        (s.laneDecode l e).out).getLast?.getD [])).updLane l (fun y => { y with
          line := y.line + 1, work := (y.work + s.fresh.1) % 2 ^ 64 })
    else match (s.laneDecode l e).err with
      | some (c, at_) => s.decodeError l e c at_ true
      | none => s.decodeError l e 7 0 true

theorem execLaneLineWrite_steps (h : s.LaneOn l e) (hf : (s.lane l).fetched = true) (hm : s.laneMore l e = true)
    (hr : s.hasRoom (l / 4) (s.laneQ l e) = true) (ue : Option Nat) : exec (.laneLineWrite l ue) s = .next (s.lineStep l e ue) := by
  obtain ⟨hat, hstrip, hlive, hserv⟩ := h
  show execLaneLineWrite l ue s = _
  unfold execLaneLineWrite
  rw [hat]
  dsimp only
  rw [hstrip]
  dsimp only
  rw [if_neg (by simp [hlive, hserv, hf, hm, hr])]
  cases ue <;> rfl

theorem State.lineStep_line (h : s.lineBytes (l / 4) * ((s.lane l).line + 1) ≤ (s.laneDecode l e).out.length) : s.lineStep l e none
    = (s.fresh.2.putLine (l / 4) (s.laneQ l e) ((rasterLines e.pred (s.lineBytes (l / 4)) ((s.lane l).line + 1)
      (s.laneDecode l e).out).getLast?.getD [])).updLane l (fun y => { y with
        line := y.line + 1, work := (y.work + s.fresh.1) % 2 ^ 64 }) := if_pos h

theorem State.lineStep_error {c a : Nat} (h : (s.laneDecode l e).out.length < s.lineBytes (l / 4) * ((s.lane l).line + 1))
    (he : (s.laneDecode l e).err = some (c, a)) : s.lineStep l e none = s.decodeError l e c a true := by
  refine (if_neg (Nat.not_le.2 h)).trans ?_
  rw [he]

/-- A line is put into its slot of the swath, and changes nothing else of the station. -/
theorem State.putLine_station (s : State) (n q : Nat) (d : Bytes) :
    Map.get (fun _ => {}) ((s.putLine n q d).station n).swath (q % s.swathC n) = { q := q, data := d }
      ∧ ((s.putLine n q d).station n).queue = (s.station n).queue := by
  unfold State.putLine
  rw [State.updStation_get, if_pos rfl]
  exact ⟨Map.get_put_self _ _ _ _, rfl⟩

/-! ### LANE_SUBSTREAM_COMPLETE (R188, R193) -/

/-- The CRC of what a lane has decoded of its sub-stream. -/
def State.laneCrc (s : State) (l : Nat) (e : QStrip) : Nat :=
  crc32 ((rasterLines e.pred (s.lineBytes (l / 4)) (e.lines / 4) (s.laneDecode l e).out).flatten)

/-- A lane's CRC stands in the strip. -/
def State.laneDone (s : State) (l : Nat) (e : QStrip) (crc : Nat) : State :=
  s.updStrip (l / 4) e.first (fun q => { q with done := e.done ++ [(l % 4, some crc)] })

/-- The CRCs of a strip's ranks, once a lane has completed its own. -/
def QStrip.crcs (e : QStrip) (l crc : Nat) : List (Option Nat) :=
  (List.range 4).map (fun r => ((e.done ++ [(l % 4, some crc)]).lookup r).getD none)

/-- With the fourth lane the strip's CRC is compared. -/
def State.crcJudged (s : State) (l : Nat) (e : QStrip) (crc : Nat) : State :=
  if 4 ≤ (e.done ++ [(l % 4, some crc)]).length ∧ (e.crcs l crc).all (fun c => c.isSome) then
    if joinCrcs (e.lines / 4 * s.lineBytes (l / 4)) ((e.crcs l crc).map (fun c => c.getD 0)) = e.crc then s.laneDone l e crc
    else (s.laneDone l e crc).crcMismatch l e (joinCrcs (e.lines / 4 * s.lineBytes (l / 4)) ((e.crcs l crc).map (fun c => c.getD 0)))
  else s.laneDone l e crc

/-- A strip stands in its station's queue. -/
def State.stripQueued (s : State) (n : Nat) (e : QStrip) : Bool := (s.station n).queue.any (fun q => q.first == e.first && q.tk == e.tk)

/-- The lane goes on, unless its strip has left the queue. -/
def State.goesOn (s : State) (l : Nat) (e : QStrip) : State := if s.stripQueued (l / 4) e then s.laneNext l else s

/-- A lane works on a strip of its station's queue. -/
theorem State.mem_queue_of_laneStrip (h : s.laneStrip l = some e) : e ∈ (s.station (l / 4)).queue := by
  unfold State.laneStrip at h
  dsimp only at h
  split at h
  · exact absurd h (by simp)
  · exact List.mem_of_getElem? h

theorem State.stripQueued_of_mem {n : Nat} {q : QStrip} (h : q ∈ (s.station n).queue) (hf : q.first = e.first) (ht : q.tk = e.tk) :
    s.stripQueued n e = true := List.any_eq_true.2 ⟨q, h, by simp [hf, ht]⟩

theorem execLaneSubstreamComplete_completes (h : s.LaneOn l e) (hf : (s.lane l).fetched = true) (hm : s.laneMore l e = false)
    (he : (s.laneDecode l e).err = none) :
    exec (.laneSubstreamComplete l) s = .next ((s.crcJudged l e (s.laneCrc l e)).goesOn l e) := by
  obtain ⟨hat, hstrip, hlive, hserv⟩ := h
  have hqueued : (s.station (l / 4)).queue.any (fun q => q.first == e.first && q.tk == e.tk) = true :=
    State.stripQueued_of_mem (State.mem_queue_of_laneStrip hstrip) rfl rfl
  show execLaneSubstreamComplete l s = _
  unfold execLaneSubstreamComplete
  rw [hat]
  dsimp only
  rw [hstrip]
  dsimp only
  rw [if_neg (by simp [hlive, hserv, hf, hm]), he]
  dsimp only
  rw [if_pos hqueued]
  rfl

/-- A lane that has completed its sub-stream goes on to the next strip. -/
theorem State.laneDone_goesOn (h : s.laneStrip l = some e) (crc : Nat) : (s.laneDone l e crc).goesOn l e = (s.laneDone l e crc).laneNext l := by
  refine if_pos (State.stripQueued_of_mem (q := { e with done := e.done ++ [(l % 4, some crc)] }) ?_ rfl rfl)
  unfold State.laneDone State.updStrip
  rw [State.updStation_get, if_pos rfl]
  exact List.mem_map.2 ⟨e, State.mem_queue_of_laneStrip h, if_pos rfl⟩

theorem State.laneNext_strip (s : State) (l : Nat) : ((s.laneNext l).lane l).strip = (s.lane l).strip + 1 := by
  show ((s.updLane l (fun x => x.restart (x.strip + 1))).lane l).strip = _
  rw [State.updLane_get, if_pos rfl]
  rfl

theorem State.laneNext_sheets (s : State) (l : Nat) : (s.laneNext l).sheets = s.sheets :=
  State.setStation_sheets (s.updLane l (fun x => x.restart (x.strip + 1))) _ _

theorem State.laneDone_laneKept (s : State) (l : Nat) (e : QStrip) (crc : Nat) : LaneKept l s (s.laneDone l e crc) :=
  State.setStation_laneKept _ _ _

theorem State.crcJudged_early {crc : Nat} (h : e.done.length < 3) : s.crcJudged l e crc = s.laneDone l e crc :=
  if_neg fun hc => absurd hc.1 (by rw [List.length_append, List.length_singleton]; omega)

theorem State.crcJudged_last {crc sum : Nat} (h : e.done.length = 3) (hall : (e.crcs l crc).all (fun c => c.isSome) = true)
    (hsum : sum = joinCrcs (e.lines / 4 * s.lineBytes (l / 4)) ((e.crcs l crc).map (fun c => c.getD 0))) :
    s.crcJudged l e crc = if sum = e.crc then s.laneDone l e crc else (s.laneDone l e crc).crcMismatch l e sum := by
  subst hsum
  exact if_pos ⟨by rw [List.length_append, List.length_singleton, h], hall⟩

/-- A CRC that does not match is reported. -/
theorem State.crcMismatch_raised (crc : Nat) (ho : s.objHere (obj clsSTN (l / 4)) = true) :
    ∃ b, Raised (s.crcMismatch l e crc) 0x0511 (obj clsSTN (l / 4)) [obj clsSTN (l / 4), obj clsTK e.tk, e.strip, e.crc, crc, b] := by
  unfold State.crcMismatch
  extract_lets n sealed from_ blank s1 s2
  have h1 : Raised s1 0x0511 (obj clsSTN n) [obj clsSTN n, obj clsTK e.tk, e.strip, e.crc, crc, blank] :=
    State.raised_raise (s := s.updLane l (fun x => { x with errors := satAdd 32 x.errors 1 }))
      (e := { code := 0x0511, obj := obj clsSTN n, sheet := sealed
              fields := [obj clsSTN n, obj clsTK e.tk, e.strip, e.crc, crc, blank] }) ho
  have h2 : Steady s1 s2 := .ite (Steady.trans (t := s1.updStrip n e.first (fun q => { q with crcFrom := some from_ })) (.of_eq rfl)
    (State.spoil_steady _ _ _ _ _)) (.refl s1)
  exact ⟨blank, (h2.trans (s2.recordBox_steady e)).toOnward.raised (by decide) h1⟩

theorem State.goesOn_steady (s : State) (l : Nat) (e : QStrip) : Steady s (s.goesOn l e) :=
  .ite (s.laneNext_laneKept (l := l) l).toSteady (.refl s)

end Sys2Proof.Machine

namespace Sys2Proof.Proofs
open Sys2Proof Sys2Proof.Machine Sys2Proof.Claims

/-- The header of an image entry has been judged; the strips of the ticket are queued with the last valid one. -/
theorem header_judged {s s1 : State} {tk rank : Idx} {entry : Nat} {i : Image} {h : Bytes} {bad : Bool} {c : Nat}
    (hc : s.ChecksHeader tk entry rank i) (hread : s.storeRead i.addr 32 7 (obj clsTK tk) = (h, bad, s1))
    (ho : s.objHere (obj clsSTN i.station) = true)
    (hcause : c = s.headerCause i (!(s.ticket tk).images.any (fun x => x.station == i.station && decide (i.strip < x.strip))) h bad) :
    ∃ t j, exec (.headerCheck tk entry rank) s = .next t ∧ (t.ticket tk).images[entry]? = some j
      ∧ Map.get (fun _ => none) j.hdr rank = some c ∧ j.addr = i.addr
      ∧ (c ≠ 0 → t.video = s.video)
      ∧ (c ≠ 0 → (∀ e, e ∈ i.hdr → e.2 ≠ some c) →
        Raised t 0x0501 (obj clsSTN i.station) [obj clsTK tk, obj clsSTN i.station, i.strip, i.addr, c])
      ∧ (c = 0 → (∀ k x r, (s.ticket tk).images[k]? = some x → x.station = i.station → r < 4 → (k = entry ∧ r = rank) ∨
          Map.get (fun _ => none) x.hdr r = some 0) → (t.station i.station).stripsOf tk ≠ []) := by
  have hx := execHeaderCheck_judges hc hread
  rw [← hcause] at hx
  have haside := s.storeRead_aside i.addr 32 7 (obj clsTK tk)
  have hobj := s.storeRead_objHere i.addr 32 7 (obj clsTK tk) (obj clsSTN i.station)
  rw [hread] at haside hobj
  have himages : ((s1.headerJudged tk entry i rank c h bad).ticket tk).images = (s.ticket tk).images.set entry (i.judged rank c h bad) := by
    rw [State.headerJudged_images, State.ticket_congr (State.aside_sheets haside)]
  have hlt : entry < (s.ticket tk).images.length := (List.getElem?_eq_some_iff.1 hc.entry).1
  have hj : ((s1.headerJudged tk entry i rank c h bad).ticket tk).images[entry]? = some (i.judged rank c h bad) := by
    rw [himages, List.getElem?_set_self hlt]
  have hmem := List.mem_of_getElem? hj
  have hqueue := (s1.headerJudged tk entry i rank c h bad).queueStrips_videoOnly tk i.station
  have hhdr : Map.get (fun _ => none) (i.judged rank c h bad).hdr rank = some c := by rw [Image.judged_hdr, if_pos rfl]
  refine ⟨_, i.judged rank c h bad, hx, ?_, hhdr, rfl, fun h0 => ?_, fun h0 hnew => ?_, fun h0 hv => ?_⟩
  · rw [State.ticket_congr hqueue.sheets, hj]
  · rw [State.queueStrips_of_invalid (n := i.station) hmem rfl hc.isRank (by rw [hhdr]; simpa using h0)]
    exact (State.aside_video (s1.hdrInvalid_aside tk i c)).trans (State.aside_video haside)
  · exact hqueue.steady.toOnward.raised (by decide) (Onward.raised (.of_eq rfl) (by decide) (State.hdrInvalid_raised h0 hnew (hobj.trans ho)))
  · subst h0
    exact State.queueStrips_of_valid (i := i.judged rank 0 h bad) hmem (Ticket.headersValid_of_set (i := i) himages hc.entry hv)

/-- A sub-stream has come to its lane. -/
theorem fetch_returns {s s1 : State} {l : Idx} {e : QStrip} {b : Bytes} {ue : Option Nat} (h : s.LaneOn l e)
    (hg : (s.lane l).granted = true) (hf : (s.lane l).fetched = false) (ho : s.objHere objDEV = true)
    (hread : s.memScan (storeInst (e.sub (l % 4)).1) (e.sub (l % 4)).1 (e.sub (l % 4)).2 7 (obj clsTK e.tk) = (b, ue, s1)) :
    ∃ t, exec (.fetchReturn l) s = .next t
      ∧ t.lane l = { s.lane l with granted := false, fetched := true, fetchUe := ue, input := b }
      ∧ (∀ w, (s.lane l).since = some w → 1000 < s.tempo - w →
        Raised t 0x0410 objDEV [storeInst e.addr - 22, obj clsDL l, s.tempo - w]) := by
  have haside := s.memScan_aside (storeInst (e.sub (l % 4)).1) (e.sub (l % 4)).1 (e.sub (l % 4)).2 7 (obj clsTK e.tk)
  have hobj := s.memScan_objHere (storeInst (e.sub (l % 4)).1) (e.sub (l % 4)).1 (e.sub (l % 4)).2 7 (obj clsTK e.tk) objDEV
  rw [hread] at haside hobj
  have hlane : s1.lane l = s.lane l := by unfold State.lane; rw [show s1.video = s.video from State.aside_video haside]
  refine ⟨_, execFetchReturn_returns h hg hf hread, ?_, fun w hw hlate => ?_⟩
  · have hraise : (if 1000 < s.laneWait l then s1.raise (s.lateEv l e) else s1).lane l = s.lane l := by
      split
      · rw [State.raise_lane, hlane]
      · exact hlane
    rw [State.updLane_get, if_pos rfl, hraise]
  · have hwait : s.laneWait l = s.tempo - w := by rw [State.laneWait, hw]; rfl
    rw [if_pos (by rw [hwait]; exact hlate), ← hwait]
    exact Onward.raised (.of_eq rfl) (by decide) (State.raised_raise (s := s1) (e := s.lateEv l e) (hobj.trans ho))

/-- A line has been decoded, or could not be. -/
theorem laneLine_written {s : State} {l : Idx} {e : QStrip} (h : s.LaneOn l e) (hf : (s.lane l).fetched = true)
    (hm : s.laneMore l e = true) (hr : s.hasRoom (l / 4) (s.laneQ l e) = true) :
    (s.lineBytes (l / 4) * ((s.lane l).line + 1) ≤ (s.laneDecode l e).out.length →
      ∃ t d, exec (.laneLineWrite l none) s = .next t ∧ (t.lane l).line = (s.lane l).line + 1
        ∧ (rasterLines e.pred (s.lineBytes (l / 4)) ((s.lane l).line + 1) (s.laneDecode l e).out).getLast?.getD [] = d
        ∧ Map.get (fun _ => {}) (t.station (l / 4)).swath (s.laneQ l e % s.swathC (l / 4)) = { q := s.laneQ l e, data := d }
        ∧ (t.station (l / 4)).queue = (s.station (l / 4)).queue)
    ∧ (∀ c a, (s.laneDecode l e).out.length < s.lineBytes (l / 4) * ((s.lane l).line + 1) →
      (s.laneDecode l e).err = some (c, a) → s.objHere (obj clsDL l) = true →
      ∃ t, exec (.laneLineWrite l none) s = .next t ∧ (t.lane l).errors = satAdd 32 (s.lane l).errors 1
        ∧ Raised t 0x0510 (obj clsDL l) [obj clsDL l, obj clsTK e.tk, e.strip, b2n (s.stripSealed e), c, a,
          if s.stripSealed e then stripLine (l % 4) (s.lane l).line else 0xffff]
        ∧ (e.addr, 32 + e.lens.foldl (· + ·) 0) ∈ t.store.badBoxes) := by
  have hx := execLaneLineWrite_steps h hf hm hr none
  refine ⟨fun hline => ?_, fun c a hshort herr ho => ?_⟩
  · rw [State.lineStep_line hline] at hx
    obtain ⟨hslot, hqueue⟩ := s.fresh.2.putLine_station (l / 4) (s.laneQ l e)
      ((rasterLines e.pred (s.lineBytes (l / 4)) ((s.lane l).line + 1) (s.laneDecode l e).out).getLast?.getD [])
    refine ⟨_, _, hx, ?_, rfl, hslot, hqueue⟩
    rw [State.updLane_get, if_pos rfl]
    rfl
  · rw [State.lineStep_error hshort herr] at hx
    obtain ⟨herrors, hraised, hbox⟩ := State.decodeError_recorded_parts (e := e) c a ho
    refine ⟨_, hx, herrors, ?_, hbox⟩
    simpa [State.decodeEv, hm] using hraised

/-- An uncorrectable error in a lane's history counts, and is not recorded against the container. -/
theorem laneHistory_fails {s : State} {l : Idx} {e : QStrip} (h : s.LaneOn l e) (hf : (s.lane l).fetched = true)
    (hm : s.laneMore l e = true) (hr : s.hasRoom (l / 4) (s.laneQ l e) = true) (a : Nat) :
    ∃ t, exec (.laneLineWrite l (some a)) s = .next t ∧ (t.lane l).errors = satAdd 32 (s.lane l).errors 1
      ∧ t.store.badBoxes = s.store.badBoxes := by
  have hue : (s.reportUe 17 a 0x8 (obj clsDL l) [] (s.stripSealed e)).video = s.video
      ∧ (s.reportUe 17 a 0x8 (obj clsDL l) [] (s.stripSealed e)).store = s.store := by
    unfold State.reportUe
    dsimp only
    rw [State.raise_video, State.raise_store]
    split
    · exact ⟨rfl, rfl⟩
    · rw [State.signal_video, State.signal_store]
      exact ⟨rfl, rfl⟩
  obtain ⟨hvideo, hstore⟩ := hue
  have hx := execLaneLineWrite_steps h hf hm hr (some a)
  have hkept := (s.reportUe 17 a 0x8 (obj clsDL l) [] (s.stripSealed e)).decodeError_unrecorded l e 0x0a 0
  refine ⟨_, hx, hkept.errors.trans ?_, congrArg Store.badBoxes (hkept.store.trans ?_)⟩
  · rw [State.errorCounted_errors]
    unfold State.lane
    rw [hvideo]
  · rw [State.errorCounted, State.raise_store]
    exact hstore

/-- A lane has completed its sub-stream, before the fourth or as the fourth. -/
theorem laneSubstream_completes {s : State} {l : Idx} {e : QStrip} {crc : Nat} (h : s.LaneOn l e) (hf : (s.lane l).fetched = true)
    (hm : s.laneMore l e = false) (he : (s.laneDecode l e).err = none) (hcrc : crc = s.laneCrc l e) :
    (e.done.length < 3 → ∃ t, exec (.laneSubstreamComplete l) s = .next t ∧ (t.lane l).strip = (s.lane l).strip + 1
      ∧ (t.lane l).errors = (s.lane l).errors ∧ t.store = s.store ∧ t.sheets = s.sheets)
    ∧ (∀ cs sum, e.done.length = 3 → cs = e.crcs l crc → cs.all (fun c => c.isSome) = true →
      sum = joinCrcs (e.lines / 4 * s.lineBytes (l / 4)) (cs.map (fun c => c.getD 0)) → s.objHere (obj clsSTN (l / 4)) = true →
      ∃ t, exec (.laneSubstreamComplete l) s = .next t ∧ (sum = e.crc → t.store = s.store ∧ (t.lane l).errors = (s.lane l).errors)
        ∧ (sum ≠ e.crc → ∃ b, Raised t 0x0511 (obj clsSTN (l / 4)) [obj clsSTN (l / 4), obj clsTK e.tk, e.strip, e.crc, sum, b])) := by
  have hx := execLaneSubstreamComplete_completes h hf hm he
  rw [← hcrc] at hx
  have hkept := (s.laneDone_laneKept l e crc).trans ((s.laneDone l e crc).laneNext_laneKept l)
  refine ⟨fun hlen => ?_, fun cs sum hlen hcs hall hsum ho => ?_⟩
  · rw [State.crcJudged_early hlen, State.laneDone_goesOn h.strip] at hx
    exact ⟨_, hx, State.laneNext_strip _ _, hkept.errors, hkept.store, State.laneNext_sheets _ _⟩
  · subst hcs
    rw [State.crcJudged_last hlen hall hsum] at hx
    refine ⟨_, hx, fun hok => ?_, fun hbad => ?_⟩
    · rw [if_pos hok, State.laneDone_goesOn h.strip]
      exact ⟨hkept.store, hkept.errors⟩
    · rw [if_neg hbad]
      obtain ⟨b, hb⟩ := State.crcMismatch_raised (s := s.laneDone l e crc) (e := e) sum ho
      exact ⟨b, (State.goesOn_steady _ l e).toOnward.raised (by decide) hb⟩

/-- Settles O37, row by row. -/
theorem stripsAreCheckedFetchedAndDecoded : Obligations.StripsAreCheckedFetchedAndDecoded :=
  ⟨fun _ _ _ _ _ _ _ _ _ hlive hres harm hentry hrank hserv hfenced hun hread ho hc =>
      header_judged ⟨hlive, hres, harm, hentry, hrank, hserv, hfenced, hun⟩ hread ho hc,
    fun _ _ _ _ _ _ hat hstrip hlive _ hserv hg hf ho hread => fetch_returns ⟨hat, hstrip, hlive, hserv⟩ hg hf ho hread,
    fun _ _ _ hat hstrip hlive _ hserv hf => ⟨fun hm hr => laneLine_written ⟨hat, hstrip, hlive, hserv⟩ hf hm hr,
      fun a hm hr => laneHistory_fails ⟨hat, hstrip, hlive, hserv⟩ hf hm hr a,
      fun _ hm he hcrc => laneSubstream_completes ⟨hat, hstrip, hlive, hserv⟩ hf hm he hcrc⟩⟩

end Sys2Proof.Proofs
end

section
namespace Sys2Proof.Machine
open Sys2Proof Sys2Proof.Claims
variable {s t : State} {n l : Nat} {d : Drawing}

/-! ### What a mapper reads, and what its events leave of it (R205, R210, R246) -/

/-- What a mapper reads, and what it writes of the links: no event, spoil or count of blank lines changes it. -/
def State.mapperView (s : State) := (s.video, s.tempo, s.params, s.die, s.removed, s.promotions, s.sheets.active)

theorem State.raise_mapperView (s : State) (e : Ev) : (s.raise e).mapperView = s.mapperView := by
  obtain ⟨_, _, _, _, _, _, _, h⟩ := s.raise_eq e
  rw [h]
  rfl

theorem State.raiseLimited_mapperView (s : State) (e : Ev) (period sub : Nat) (cf : Bool) :
    (s.raiseLimited e period sub cf).mapperView = s.mapperView := by
  obtain ⟨_, _, _, _, _, _, _, _, h⟩ := s.raiseLimited_eq e period sub cf
  rw [h]
  rfl

theorem State.spoil_mapperView (s : State) (tk st cause line : Nat) : (s.spoil tk st cause line).mapperView = s.mapperView := by
  obtain ⟨_, _, _, _, _, _, _, h⟩ := s.spoil_eq tk st cause line
  rw [h]
  rfl

theorem State.addBlank_mapperView (s : State) (tk st k : Nat) : (s.addBlank tk st k).mapperView = s.mapperView := rfl

theorem State.blankLines_mapperView (s : State) (l : Nat) (d : Drawing) (fs : List (Nat × Int)) (cause : Nat) :
    (s.blankLines l d fs cause).mapperView = s.mapperView := by
  unfold State.blankLines
  split
  · rfl
  · dsimp only
    rw [State.spoil_mapperView]
    split
    · rfl
    · rfl

theorem State.reportUe_mapperView (s : State) (i a reader what : Nat) (latch : List Nat) (sheet : Bool) :
    (s.reportUe i a reader what latch sheet).mapperView = s.mapperView := by
  unfold State.reportUe
  extract_lets m s1 s2
  rw [State.raise_mapperView]
  unfold s2
  split
  · rfl
  · obtain ⟨_, _, h⟩ := s1.signal_eq 0
    rw [h]
    rfl

theorem State.tableUe_mapperView (s : State) (n a : Nat) : (s.tableUe n a).mapperView = s.mapperView :=
  State.reportUe_mapperView _ _ _ _ _ _ _

theorem State.link_of_mapperView (h : t.mapperView = s.mapperView) (j : Nat) : t.link j = s.link j := by
  unfold State.link
  rw [(Prod.mk.inj h).1]

/-! ### A line that begins (R215, R217) -/

/-- The line that LINE_HEAD and the data blocks of `ws` begin. -/
def State.lineOut (s : State) (l seq blank : Nat) (noData : Bool) (ws : List Nat) : LineOut :=
  { head := some (ctlBlock 0x4b (toLE 2 seq ++ toLE 2 (s.par clsSTN (l / 4) 0x003) ++ toLE 1 blank ++ toLE 1 (b2n noData)))
    blocks := if noData then [] else dataBlocks ws, start := s.tempo }

theorem State.sendLine_eq (s : State) (l seq blank : Nat) (noData : Bool) (ws : List Nat) :
    s.sendLine l seq blank noData ws = s.updLink l (fun x => { x with line := some (s.lineOut l seq blank noData ws) }) := rfl

theorem dataBlocks_length (ws : List Nat) : (dataBlocks ws).length = ceilDiv (40 * ws.length) 64 := by simp [dataBlocks]

/-! ### The pixel words of a line (R206, R210, R215) -/

/-- The files of link `l` that draw a line in the present scan, each with its image line. -/
def State.owns (s : State) (l : Nat) (d : Drawing) : List (Nat × Int) :=
  (List.range 8).filterMap (fun f => (s.ownLine (l / 4) (8 * (l % 4) + f) d.scan).map (fun i => (f, i)))

/-- Those of which a line that they read does not stand in the swath. -/
def State.lateFiles (s : State) (l : Nat) (d : Drawing) : List (Nat × Int) :=
  (s.owns l d).filter (fun e => (s.linesRead (l / 4) (8 * (l % 4) + e.1) e.2 d.lines).any (fun i => (s.swLine (l / 4) (d.q0 + i)).isNone))

/-- Those whose own line has been blanked. -/
def State.deadFiles (s : State) (l : Nat) (d : Drawing) : List (Nat × Int) :=
  (s.owns l d).filter (fun e => !(s.lateFiles l d).contains e && (decide (0 ≤ e.2) && decide (e.2 < d.lines))
    && s.swLine (l / 4) (d.q0 + e.2.toNat) == some [])

/-- Those that draw. -/
def State.liveFiles (s : State) (l : Nat) (d : Drawing) : List (Nat × Int) :=
  (s.owns l d).filter (fun e => !(s.lateFiles l d).contains e && !(s.deadFiles l d).contains e)

/-- The word of pixel `x`: the pulse value of each file in its five bits. -/
def State.pixelWord (s : State) (l : Nat) (d : Drawing) (x : Nat) : Nat :=
  (s.liveFiles l d).foldl (fun a e => a + s.pixValue (l / 4) (8 * (l % 4) + e.1) e.2 d.lines d.q0 x * 2 ^ (5 * e.1)) 0

/-- The words of a line, all zero while the output of the station is off. -/
def State.pixelWords (s : State) (l : Nat) (d : Drawing) : List Nat :=
  (List.range (s.par clsSTN (l / 4) 0x003)).map (fun x => if (s.station (l / 4)).outOn then s.pixelWord l d x else 0)

/-- A link that has begun a line, with the lines that it has sent. -/
def Link.begins (x : Link) (sent : List (Nat × Idx × Nat)) (y : LineOut) : Link := { x with sent := sent, line := some y }

/-- Drawing a line begins it, and notes its number; of what the mapper reads it leaves the rest. -/
theorem State.drawLine_link (s : State) (l seq : Nat) (d : Drawing) (ue : MapperUe) : ∃ blank ws sent,
    (s.drawLine l seq d ue).link l = (s.link l).begins sent (s.lineOut l seq blank false ws)
      ∧ ws.length = s.par clsSTN (l / 4) 0x003 ∧ (ue = .none → ws = s.pixelWords l d) := by
  unfold State.drawLine
  extract_lets n r s0 owns past s1 inside reads late bad dead torn mask s2 s3 s4 s5 cut live val ws
  have h1 : s1.mapperView = s0.mapperView := by
    unfold s1
    clear_value past
    cases past
    · rfl
    · exact State.raiseLimited_mapperView _ _ _ _ _
  have h3 : s3.mapperView = s0.mapperView := by
    unfold s3 s2
    rw [State.blankLines_mapperView, ← h1]
    split
    · rfl
    · rfl
  have h4 : s4.mapperView = s0.mapperView := by
    unfold s4
    split
    · exact h3
    · exact (State.raiseLimited_mapperView _ _ _ _ _).trans h3
  have h5 : s5.mapperView = s0.mapperView := by
    unfold s5
    split
    · exact (State.blankLines_mapperView _ _ _ _ _).trans ((State.tableUe_mapperView _ _ _).trans h4)
    · exact (State.blankLines_mapperView _ _ _ _ _).trans ((State.reportUe_mapperView _ _ _ _ _ _ _).trans h4)
    · exact h4
  simp only [State.mapperView, Prod.mk.injEq] at h5
  obtain ⟨hv, ht, hp, -⟩ := h5
  have hlink : s5.link l = s0.link l := by unfold State.link; rw [hv]
  have hline : s5.lineOut l seq (mask (bad ++ late ++ dead)) false ws = s.lineOut l seq (mask (bad ++ late ++ dead)) false ws := by
    unfold State.lineOut State.par State.param
    rw [ht, hp]
    rfl
  refine ⟨mask (bad ++ late ++ dead), ws, ((seq, d.tk, d.scan) :: (s.link l).sent).take 256, ?_, by simp [ws, n], ?_⟩
  · rw [State.sendLine_eq, State.updLink_get, if_pos rfl, hlink, hline, State.updLink_get, if_pos rfl]
    rfl
  · rintro rfl
    rfl

/-! ### Five bits for each file (R210, R215) -/

/-- Values of five bits, each at the place of its number, that all lie below a place. -/
theorem sum_fives_lt {α : Type} (g : Nat × α → Nat) (hg : ∀ e, g e < 32) (es : List (Nat × α)) (k : Nat)
    (hp : es.Pairwise (fun a b => a.1 < b.1)) (hk : ∀ e ∈ es, e.1 < k) : (es.map (fun e => g e * 2 ^ (5 * e.1))).sum < 2 ^ (5 * k) := by
  induction es using List.reverseRecOn generalizing k with
  | nil => simp
  | append_singleton es e ih =>
    have hlow := ih e.1 (List.pairwise_append.1 hp).1 fun a ha => (List.pairwise_append.1 hp).2.2 a ha e (by simp)
    have he : e.1 + 1 ≤ k := hk e (by simp)
    rw [List.map_append, List.sum_append, List.map_singleton, List.sum_singleton]
    calc (es.map (fun e => g e * 2 ^ (5 * e.1))).sum + g e * 2 ^ (5 * e.1)
        < 2 ^ (5 * e.1) + g e * 2 ^ (5 * e.1) := Nat.add_lt_add_right hlow _
      _ = (g e + 1) * 2 ^ (5 * e.1) := by ring
      _ ≤ 2 ^ 5 * 2 ^ (5 * e.1) := Nat.mul_le_mul_right _ (hg e)
      _ = 2 ^ (5 * (e.1 + 1)) := by ring
      _ ≤ 2 ^ (5 * k) := Nat.pow_le_pow_right (by decide) (by omega)

/-- The five bits at the place of a listed number hold its value. -/
theorem field_sum_fives {α : Type} (g : Nat × α → Nat) (hg : ∀ e, g e < 32) {es : List (Nat × α)} {e : Nat × α}
    (hp : es.Pairwise (fun a b => a.1 < b.1)) (he : e ∈ es) :
    field (es.foldl (fun a e => a + g e * 2 ^ (5 * e.1)) 0) (5 * e.1) 5 = g e := by
  obtain ⟨xs, ys, rfl⟩ := List.append_of_mem he
  obtain ⟨hxs, hys, hcross⟩ := List.pairwise_append.1 hp
  have hlow : (xs.map (fun e => g e * 2 ^ (5 * e.1))).sum < 2 ^ (5 * e.1) :=
    sum_fives_lt g hg xs e.1 hxs fun a ha => hcross a ha e (by simp)
  have hhigh : 2 ^ (5 * e.1) * 2 ^ 5 ∣ (ys.map (fun e => g e * 2 ^ (5 * e.1))).sum := by
    rw [← pow_add]
    refine List.dvd_sum fun x hx => ?_
    obtain ⟨b, hb, rfl⟩ := List.mem_map.1 hx
    have hlt := (List.pairwise_cons.1 hys).1 b hb
    exact Dvd.dvd.mul_left (pow_dvd_pow 2 (by omega)) _
  obtain ⟨c, hc⟩ := hhigh
  have hsum : (xs ++ e :: ys).foldl (fun a e => a + g e * 2 ^ (5 * e.1)) 0
      = (xs.map (fun e => g e * 2 ^ (5 * e.1))).sum + 2 ^ (5 * e.1) * (g e + 2 ^ 5 * c) := by
    rw [← List.foldl_map (f := fun e : Nat × α => g e * 2 ^ (5 * e.1)) (g := fun a b => a + b), ← List.sum_eq_foldl, List.map_append,
      List.sum_append, List.map_cons, List.sum_cons, hc]
    ring
  rw [hsum, field, Nat.add_mul_div_left _ _ (Nat.two_pow_pos _), Nat.div_eq_of_lt hlow, Nat.zero_add, Nat.add_mul_mod_self_left]
  exact Nat.mod_eq_of_lt (hg e)

theorem State.pulseOf_lt (s : State) (n b code : Nat) : s.pulseOf n b code < 32 := by
  unfold State.pulseOf
  dsimp only
  split
  · decide
  · omega

theorem State.pixValue_lt (s : State) (n b : Nat) (own : Int) (lines q0 x : Nat) : s.pixValue n b own lines q0 x < 32 := by
  unfold State.pixValue
  dsimp only
  split
  · decide
  · split
    · split
      · decide
      · exact s.pulseOf_lt _ _ _
    · decide

theorem State.owns_pairwise (s : State) (l : Nat) (d : Drawing) : (s.owns l d).Pairwise (fun a b => a.1 < b.1) := by
  refine List.pairwise_filterMap.2 (List.pairwise_lt_range.imp fun hab x hx y hy => ?_)
  obtain ⟨_, -, rfl⟩ := Option.map_eq_some_iff.1 hx
  obtain ⟨_, -, rfl⟩ := Option.map_eq_some_iff.1 hy
  exact hab

/-- A file draws when its beam has a line, every line that it reads stands in the swath, and its own is not blank. -/
theorem State.mem_liveFiles {f : Nat} {i : Int} (hf : f < 8) (ho : s.ownLine (l / 4) (8 * (l % 4) + f) d.scan = some i)
    (hr : ∀ j, j ∈ s.linesRead (l / 4) (8 * (l % 4) + f) i d.lines → s.swLine (l / 4) (d.q0 + j) ≠ none)
    (hb : s.swLine (l / 4) (d.q0 + i.toNat) ≠ some []) : (f, i) ∈ s.liveFiles l d := by
  have hown : (f, i) ∈ s.owns l d := List.mem_filterMap.2 ⟨f, List.mem_range.2 hf, by rw [ho]; rfl⟩
  have hlate : (f, i) ∉ s.lateFiles l d := by
    simp only [State.lateFiles, List.mem_filter, List.any_eq_true, not_and, not_exists]
    exact fun _ j hj => by simpa using hr j hj
  have hdead : (f, i) ∉ s.deadFiles l d := by
    simp only [State.deadFiles, List.mem_filter, not_and]
    exact fun _ => by simp [hb]
  exact List.mem_filter.2 ⟨hown, by simp [hlate, hdead]⟩

/-- In the word of a pixel the five bits of a file that draws are the pulse value of its beam. -/
theorem State.field_pixelWord {f : Nat} {i : Int} (h : (f, i) ∈ s.liveFiles l d) (x : Nat) :
    field (s.pixelWord l d x) (5 * f) 5 = s.pixValue (l / 4) (8 * (l % 4) + f) i d.lines d.q0 x :=
  field_sum_fives (fun e => s.pixValue (l / 4) (8 * (l % 4) + e.1) e.2 d.lines d.q0 x) (fun _ => s.pixValue_lt _ _ _ _ _ _)
    ((s.owns_pairwise l d).filter _) h

theorem State.pixelWords_getD (ho : (s.station (l / 4)).outOn = true) {x : Nat} (hx : x < (s.pixelWords l d).length) :
    (s.pixelWords l d).getD x 0 = s.pixelWord l d x := by
  simp [State.pixelWords, ho] at hx ⊢
  simp [hx]

/-! ### What a station draws from (R205, R206, R246) -/

/-- Two states from which a station draws the same. -/
structure DrawsAlike (n : Nat) (s t : State) : Prop where
  tempo : t.tempo = s.tempo
  params : t.params = s.params
  die : t.die = s.die
  removed : t.removed = s.removed
  promotions : t.promotions = s.promotions
  tables : t.sheets.active = s.sheets.active
  queue : (t.station n).queue = (s.station n).queue
  swath : (t.station n).swath = (s.station n).swath
  outOn : (t.station n).outOn = (s.station n).outOn

theorem DrawsAlike.of_mapperView (h : t.mapperView = s.mapperView) : DrawsAlike n s t := by
  simp only [State.mapperView, Prod.mk.injEq] at h
  obtain ⟨hv, ht, hp, hd, hr, hq, ha⟩ := h
  have hs : t.station n = s.station n := by unfold State.station; rw [hv]
  exact ⟨ht, hp, hd, hr, hq, ha, by rw [hs], by rw [hs], by rw [hs]⟩

theorem DrawsAlike.trans {u : State} (h : DrawsAlike n s t) (k : DrawsAlike n t u) : DrawsAlike n s u :=
  ⟨k.tempo.trans h.tempo, k.params.trans h.params, k.die.trans h.die, k.removed.trans h.removed, k.promotions.trans h.promotions,
    k.tables.trans h.tables, k.queue.trans h.queue, k.swath.trans h.swath, k.outOn.trans h.outOn⟩

theorem State.updLink_drawsAlike (s : State) (n l : Nat) (f : Link → Link) : DrawsAlike n s (s.updLink l f) :=
  ⟨rfl, rfl, rfl, rfl, rfl, rfl, rfl, rfl, rfl⟩

theorem par_congr (h : t.params = s.params) (c i p : Nat) : t.par c i p = s.par c i p := by unfold State.par State.param; rw [h]

theorem DrawsAlike.ownLine (h : DrawsAlike n s t) (b k : Nat) : t.ownLine n b k = s.ownLine n b k := by
  have hrole : t.role n b = s.role n b := by
    unfold State.role State.scanL State.spares
    rw [State.inService_congr h.die h.removed, par_congr h.params, h.promotions]
  unfold State.ownLine State.scanL State.spares
  rw [hrole, par_congr h.params]

theorem DrawsAlike.swLine (h : DrawsAlike n s t) (q : Nat) : t.swLine n q = s.swLine n q := by
  unfold State.swLine Station.stripOf State.swathC State.lineBytes
  simp only [h.queue, h.swath, par_congr h.params]

theorem DrawsAlike.offOf (h : DrawsAlike n s t) (b x : Nat) : t.offOf n b x = s.offOf n b x := by
  unfold State.offOf State.offRaw State.parI State.par State.param State.table
  rw [h.params, h.tables]

theorem DrawsAlike.linesRead (h : DrawsAlike n s t) (b : Nat) (own : Int) (lines : Nat) :
    t.linesRead n b own lines = s.linesRead n b own lines := by
  unfold State.linesRead State.steps16
  simp only [h.offOf, par_congr h.params]

theorem DrawsAlike.pixValue (h : DrawsAlike n s t) (b : Nat) (own : Int) (lines q0 x : Nat) :
    t.pixValue n b own lines q0 x = s.pixValue n b own lines q0 x := by
  have hpulse (code : Nat) : t.pulseOf n b code = s.pulseOf n b code := by
    unfold State.pulseOf State.table
    rw [par_congr h.params, h.tables]
  unfold State.pixValue
  simp only [h.offOf, h.swLine, hpulse]

theorem DrawsAlike.pixelWords (h : DrawsAlike (l / 4) s t) (d : Drawing) : t.pixelWords l d = s.pixelWords l d := by
  have howns : t.owns l d = s.owns l d := by unfold State.owns; simp only [h.ownLine]
  have hlate : t.lateFiles l d = s.lateFiles l d := by unfold State.lateFiles; simp only [howns, h.linesRead, h.swLine]
  have hdead : t.deadFiles l d = s.deadFiles l d := by unfold State.deadFiles; simp only [howns, hlate, h.swLine]
  have hlive : t.liveFiles l d = s.liveFiles l d := by unfold State.liveFiles; rw [howns, hlate, hdead]
  unfold State.pixelWords State.pixelWord
  simp only [hlive, h.pixValue, h.outOn, par_congr h.params]

theorem DrawsAlike.lineOut (h : DrawsAlike n s t) (l seq blank : Nat) (noData : Bool) (ws : List Nat) :
    t.lineOut l seq blank noData ws = s.lineOut l seq blank noData ws := by
  unfold State.lineOut
  rw [par_congr h.params, h.tempo]

/-! ### MAPPER_START (R205, R217, R228) -/

/-- The line of link `l` starts in this tempo. -/
structure State.LineStarts (s : State) (l : Nat) (q : Int) : Prop where
  at_ : At s inEvents
  lineQ : (s.station (l / 4)).lineQ = some q
  lt : l < 32
  served : s.inService clsVL l = true
  scan : s.scanOn (l / 4) = true
  due : (s.link l).lineDue = true
  now : s.tempo = (s.lineAt l q).start

/-- A station whose image a link has begun to draw. -/
def Station.imageBegun (x : Station) : Station := { x with draw := x.draw.map (fun d => { d with begun := true }) }

/-- A link whose line is not due any more. -/
def Link.lineTaken (x : Link) (coast : Bool) : Link := { x with coast := coast, lineDue := false }

/-- What the station draws, once a link has begun it. -/
def State.begunDrawing (s : State) (n : Nat) : Option Drawing := (s.drawing n).map (fun d => { d with begun := true })

theorem State.imageBegun_drawing (s : State) (n : Nat) : (s.updStation n Station.imageBegun).drawing n = s.begunDrawing n := by
  unfold State.begunDrawing State.drawing
  rw [State.updStation_get, if_pos rfl]
  cases h : (s.station n).draw with
  | none => simp [Station.imageBegun, h]
  | some d =>
    by_cases hs : (s.ticket d.tk).state = 3 ∨ (s.ticket d.tk).state = 4
    · simp [Station.imageBegun, h, hs]
    · simp [Station.imageBegun, h, hs]

theorem State.coastLink_cases (s : State) (l : Nat) (d : Drawing) : s.coastLink l d = s ∨ ∃ u : State, u.mapperView = s.mapperView
    ∧ u.out = s.out ∧ s.coastLink l d = u.updLink l (fun x => { x with coast := true }) := by
  unfold State.coastLink
  dsimp only
  split
  · split
    · exact .inl rfl
    · exact .inr ⟨State.spoil _ _ _ _ _, (State.spoil_mapperView _ _ _ _ _).trans (s.addBlank_mapperView _ _ _),
        State.spoil_out _ _ _ _ _, rfl⟩
  · exact .inl rfl

/-- The link's line is begun: a line of a sealed sheet that is clocked from the coasting model counts. -/
def State.takeLine (s : State) (l : Nat) (d : Option Drawing) : State :=
  (match d with
    | some d => s.coastLink l d
    | none => s).updLink l (fun x => { x with lineDue := false })

theorem State.takeLine_parts (s : State) (n l : Nat) (d : Option Drawing) : DrawsAlike n s (s.takeLine l d)
    ∧ (s.takeLine l d).out = s.out ∧ ∃ coast, (s.takeLine l d).link l = (s.link l).lineTaken coast := by
  have quiet (h : s.takeLine l d = s.updLink l (fun x => { x with lineDue := false })) : DrawsAlike n s (s.takeLine l d)
      ∧ (s.takeLine l d).out = s.out ∧ ∃ coast, (s.takeLine l d).link l = (s.link l).lineTaken coast := by
    rw [h]
    exact ⟨s.updLink_drawsAlike n l _, rfl, (s.link l).coast, (State.updLink_get _ _ _ _).trans (if_pos rfl)⟩
  cases d with
  | none => exact quiet rfl
  | some d =>
    obtain h | ⟨u, hu, ho, h⟩ := s.coastLink_cases l d
    · exact quiet (congrArg (fun v => State.updLink v l _) h)
    · have hl : u.link l = s.link l := State.link_of_mapperView hu l
      unfold State.takeLine
      dsimp only
      rw [h]
      exact ⟨.trans (.of_mapperView hu) (.trans (State.updLink_drawsAlike _ _ _ _) (State.updLink_drawsAlike _ _ _ _)), ho, true,
        by simp [hl, Link.lineTaken]⟩

/-- The lines of a link that is not to send them are blank. -/
def State.linesBlank (s : State) (l : Nat) (d : Option Drawing) (cause : Nat) : State :=
  match d with
  | some d => s.blankLines l d (s.filesIn (l / 4) (l % 4) d) cause
  | none => s

/-- A link of which a line's number is used, and the marker of line `seq` set. -/
def Link.marked (x : Link) (seq : Nat) (a : LineAt) : Link :=
  { x with
    seq := (x.seq + 1) % 65536, pxHold := false
    marker := some (a.frame, ctlBlock 0x33 (toLE 2 seq ++ toLE 2 a.edge ++ toLE 1 a.fine)) }

/-- A line that is begun is sent, with data where there is something to draw. -/
def State.sendsLine (s : State) (l seq : Nat) (d : Option Drawing) (ue : MapperUe) : State :=
  match d with
  | some d => s.drawLine l seq d ue
  | none => s.sendLine l seq 0 true []

/-- What becomes of a line that is begun. -/
def State.runLine (s : State) (l : Nat) (d : Option Drawing) (a : LineAt) (ue : MapperUe) : State :=
  if s.video.blanked || (s.link l).heldAt a.frame then s.linesBlank l d 4
  else if (s.link l).state ≠ .up then s.linesBlank l d 1
  else (s.updLink l (fun x => x.marked (s.link l).seq a)).sendsLine l (s.link l).seq d ue

theorem State.takeLine_blanked (s : State) (l : Nat) (d : Option Drawing) : (s.takeLine l d).video.blanked = s.video.blanked := by
  cases d with
  | none => rfl
  | some d =>
    show (s.coastLink l d).video.blanked = s.video.blanked
    obtain h | ⟨u, hu, ho, h⟩ := s.coastLink_cases l d
    · rw [h]
    · rw [h]
      exact (congrArg Video.blanked (Prod.mk.inj hu).1 : u.video.blanked = s.video.blanked)

/-- The link's line is begun, and with it the image of its station. -/
def State.lineBegun (s : State) (l : Nat) : State := (s.updStation (l / 4) Station.imageBegun).takeLine l (s.begunDrawing (l / 4))

theorem State.lineBegun_parts (s : State) (l : Nat) : DrawsAlike (l / 4) s (s.lineBegun l) ∧ (s.lineBegun l).out = s.out
    ∧ (s.lineBegun l).video.blanked = s.video.blanked ∧ ∃ coast, (s.lineBegun l).link l = (s.link l).lineTaken coast := by
  have hbegun : DrawsAlike (l / 4) s (s.updStation (l / 4) Station.imageBegun) := by
    refine ⟨rfl, rfl, rfl, rfl, rfl, rfl, ?_, ?_, ?_⟩ <;> rw [State.updStation_get, if_pos rfl] <;> rfl
  obtain ⟨halike, hout, hlink⟩ := (s.updStation (l / 4) Station.imageBegun).takeLine_parts (l / 4) l (s.begunDrawing (l / 4))
  exact ⟨hbegun.trans halike, hout, State.takeLine_blanked _ _ _, hlink⟩

theorem execMapperStart_eq {q : Int} (h : s.LineStarts l q) (ue : MapperUe) :
    exec (.mapperStart l ue) s = .next ((s.lineBegun l).runLine l (s.begunDrawing (l / 4)) (s.lineAt l q) ue) := by
  obtain ⟨hat, hq, hlt, hserv, hscan, hdue, hnow⟩ := h
  have hd := s.imageBegun_drawing (l / 4)
  show execMapperStart l ue s = _
  unfold execMapperStart
  rw [hat]
  dsimp only
  rw [hq]
  dsimp only
  rw [if_pos (by simp [hlt, hserv, hscan, hdue, ← hnow])]
  unfold Station.imageBegun at hd
  rw [hd]
  unfold State.runLine
  rw [(s.lineBegun_parts l).2.2.1]
  unfold State.lineBegun
  cases s.begunDrawing (l / 4) with
  | none => rfl
  | some d => rfl

theorem State.linesBlank_mapperView (s : State) (l : Nat) (d : Option Drawing) (cause : Nat) :
    (s.linesBlank l d cause).mapperView = s.mapperView := by
  unfold State.linesBlank
  split
  · exact s.blankLines_mapperView _ _ _ _
  · rfl

theorem State.linesBlank_out (s : State) (l : Nat) (d : Option Drawing) (cause : Nat) : (s.linesBlank l d cause).out = s.out := by
  unfold State.linesBlank State.blankLines
  split
  · split
    · rfl
    · dsimp only
      rw [State.spoil_out]
      split
      · rfl
      · rfl
  · rfl

/-- A line on a link that is blanked, held or not UP is begun and not sent. -/
theorem State.runLine_dark {d : Option Drawing} {a : LineAt}
    (h : s.video.blanked = true ∨ (s.link l).heldAt a.frame = true ∨ (s.link l).state ≠ .up) (ue : MapperUe) :
    ∃ cause, s.runLine l d a ue = s.linesBlank l d cause := by
  unfold State.runLine
  by_cases hd : s.video.blanked = true ∨ (s.link l).heldAt a.frame = true
  · exact ⟨4, if_pos (Bool.or_eq_true_iff.2 hd)⟩
  · obtain ⟨hb, hh⟩ := not_or.1 hd
    exact ⟨1, by rw [if_neg (by simp [hb, hh]), if_pos ((h.resolve_left hb).resolve_left hh)]⟩

theorem mapperStart_dark {q : Int} (h : s.LineStarts l q)
    (hx : s.video.blanked = true ∨ (s.link l).heldAt (s.lineAt l q).frame = true ∨ (s.link l).state ≠ .up) (ue : MapperUe) :
    ∃ t coast, exec (.mapperStart l ue) s = .next t ∧ t.link l = (s.link l).lineTaken coast ∧ t.out = s.out := by
  obtain ⟨-, hout, hb, coast, hlink⟩ := s.lineBegun_parts l
  obtain ⟨cause, hr⟩ := State.runLine_dark (s := s.lineBegun l) (d := s.begunDrawing (l / 4)) (a := s.lineAt l q) (l := l)
    (by rw [hb, hlink]; exact hx) ue
  exact ⟨_, coast, (execMapperStart_eq h ue).trans (congrArg _ hr),
    (State.link_of_mapperView (State.linesBlank_mapperView _ _ _ _) l).trans hlink, (State.linesBlank_out _ _ _ _).trans hout⟩

/-- A line is sent without data where there is nothing to draw, and else with a word for each pixel. -/
theorem State.sendsLine_link (s : State) (l seq : Nat) (d : Option Drawing) (ue : MapperUe) : ∃ sent y,
    (s.sendsLine l seq d ue).link l = (s.link l).begins sent y ∧ (d = none → y = s.lineOut l seq 0 true [])
      ∧ (∀ e, d = some e → ∃ blank ws, y = s.lineOut l seq blank false ws ∧ ws.length = s.par clsSTN (l / 4) 0x003
        ∧ (ue = .none → ws = s.pixelWords l e)) := by
  cases d with
  | none =>
    refine ⟨(s.link l).sent, _, ?_, fun _ => rfl, nofun⟩
    exact (State.updLink_get _ _ _ _).trans (if_pos rfl)
  | some e =>
    obtain ⟨blank, ws, sent, hl, hw⟩ := s.drawLine_link l seq e ue
    refine ⟨sent, _, hl, nofun, ?_⟩
    rintro _ ⟨⟩
    exact ⟨blank, ws, rfl, hw⟩

theorem mapperStart_sends {q : Int} (h : s.LineStarts l q) (hb : s.video.blanked = false)
    (hh : (s.link l).heldAt (s.lineAt l q).frame = false) (hu : (s.link l).state = .up) (ue : MapperUe) :
    ∃ t coast sent y, exec (.mapperStart l ue) s = .next t
      ∧ t.link l = (((s.link l).lineTaken coast).marked (s.link l).seq (s.lineAt l q)).begins sent y
      ∧ (s.drawing (l / 4) = none → y = s.lineOut l (s.link l).seq 0 true [])
      ∧ (∀ d, s.drawing (l / 4) = some d → ∃ blank ws, y = s.lineOut l (s.link l).seq blank false ws
        ∧ ws.length = s.par clsSTN (l / 4) 0x003 ∧ (ue = .none → ws = s.pixelWords l d)) := by
  obtain ⟨halike, -, hblank, coast, hlink⟩ := s.lineBegun_parts l
  have hx := execMapperStart_eq h ue
  generalize s.lineBegun l = u at halike hblank hlink hx
  have hmark : DrawsAlike (l / 4) s (u.updLink l (fun x => x.marked (s.link l).seq (s.lineAt l q))) := halike.trans (State.updLink_drawsAlike _ _ _ _)
  have hrun : u.runLine l (s.begunDrawing (l / 4)) (s.lineAt l q) ue
      = (u.updLink l (fun x => x.marked (s.link l).seq (s.lineAt l q))).sendsLine l (s.link l).seq (s.begunDrawing (l / 4)) ue := by
    have hheld : (u.link l).heldAt (s.lineAt l q).frame = false := by rw [hlink]; exact hh
    have hup : (u.link l).state = .up := by rw [hlink]; exact hu
    have hseq : (u.link l).seq = (s.link l).seq := by rw [hlink]; rfl
    unfold State.runLine
    rw [hblank, hb, hheld, hup, hseq]
    rfl
  obtain ⟨sent, y, hl, hnone, hsome⟩ :=
    (u.updLink l (fun x => x.marked (s.link l).seq (s.lineAt l q))).sendsLine_link l (s.link l).seq (s.begunDrawing (l / 4)) ue
  refine ⟨_, coast, sent, y, hx.trans (congrArg _ hrun), ?_, fun hd => ?_, fun d hd => ?_⟩
  · rw [hl, State.updLink_get, if_pos rfl, hlink]
  · rw [hnone (by rw [State.begunDrawing, hd]; rfl), hmark.lineOut]
  · obtain ⟨blank, ws, hy, hlen, hw⟩ := hsome _ (by rw [State.begunDrawing, hd]; rfl)
    refine ⟨blank, ws, by rw [hy, hmark.lineOut], hlen.trans (par_congr hmark.params _ _ _), fun hue => ?_⟩
    rw [hw hue, hmark.pixelWords]
    rfl

end Sys2Proof.Machine

namespace Sys2Proof.Proofs
open Sys2Proof Sys2Proof.Machine Sys2Proof.Claims

/-- Settles O39. The words are the sums of their files' pulse values, each in its own five bits. -/
theorem aLineCarriesThePulseValuesOfItsBeams : Obligations.ALineCarriesThePulseValuesOfItsBeams := by
  intro s l q d hat hq hlt hserv hscan hdue hnow hb hh hu hd ho
  obtain ⟨t, coast, sent, y, hx, hlink, -, hdraw⟩ := mapperStart_sends ⟨hat, hq, hlt, hserv, hscan, hdue, hnow⟩ hb hh hu .none
  obtain ⟨blank, ws, rfl, hlen, hws⟩ := hdraw d hd
  obtain rfl := hws rfl
  refine ⟨t, _, _, hx, by rw [hlink]; rfl, rfl, hlen, fun x f i hxlt hf hown _ _ hread hdead => ?_⟩
  rw [State.pixelWords_getD ho hxlt]
  exact State.field_pixelWord (State.mem_liveFiles hf hown hread hdead) x

end Sys2Proof.Proofs
end

section
namespace Sys2Proof.Machine
open Sys2Proof Sys2Proof.Claims
variable {s t : State} {l n : Nat} {m : Msg} {r : Training} {eq : Bool}

/-! ### LINK_TRAIN and LINK_TRAIN_DONE (R219, R220) -/

/-- A link that begins a training run. -/
def Link.trains (x : Link) (level : Nat) (r : Training) : Link :=
  { x with state := .training, slot0 := [], marker := none, line := none, txLevel := level, train := some r }

/-- What steps 1 and 2 of a training run find: the code of the first of the link's PLLs that is not LOCKED. -/
def State.pllsFail (s : State) (l : Nat) : Nat :=
  if (s.pll (3 + l / 16)).state ≠ .locked then 1 else if (s.pll (8 + l / 4)).state ≠ .locked then 7 else 0

theorem execLinkTrain_runs (h : Takes 0x0710 m 0 0xffffffff00000000 s) (hm : s.md.mode ∈ [Mode.standby, .warmUp, .ready])
    (hn : Names (m.argN 8 4) [clsVL] s) (hl : l = aIdx (m.argN 8 4)) (hd : (s.link l).state = .down) (hA : s.video.ilkA = false)
    (hB : s.video.ilkB = false) (hp : s.participates (m.argN 8 4) = false) : exec (.linkTrain m) s
    = .next ((s.updLink l (fun x => x.trains (s.par clsVL l 0x007)
        { reply := s.replyOf 0x0710 m, start := s.tempo, since := s.tempo, fail := s.pllsFail l })).hold 0x0710 m) := by
  obtain ⟨-, hat, hlen, hr, -⟩ := id h
  subst hl
  show execLinkTrain m s = _
  unfold execLinkTrain
  rw [hat]
  refine congrArg _ (State.command_of_takes h ?_ _)
  rw [Msg.plen_nil hlen, Msg.argRes_nil hr, State.inModes_nil hm, State.objRefs_nil hn, hd, hA, hB, hp]
  rfl

/-- An event raised before an answer is still reported after it. -/
theorem State.raised_raise_ok {e : Ev} (h : s.objHere e.obj = true) (hc : e.code ≠ 0x0c12) (r : Reply) (data : Bytes) :
    Raised ((s.raise e).ok r data) e.code e.obj e.fields :=
  ((s.raise e).post_steady _ _ _ _).toOnward.raised hc (State.raised_raise h)

theorem State.link_raise_ok (s : State) (e : Ev) (r : Reply) (data : Bytes) (j : Nat) : ((s.raise e).ok r data).link j = s.link j := by
  rw [State.ok_eq, State.post_link, State.raise_link]

theorem LinksOnly.objHere (h : LinksOnly s t) (o : Nat) : t.objHere o = s.objHere o := by
  obtain ⟨ls, out, rfl⟩ := h
  rfl

/-- A link whose training run has ended. -/
def Link.trained (x : Link) (up : Bool) (rtt : Nat) : Link :=
  { x.quiet with state := if up then .up else .down, train := none, rtt := rtt }

theorem execLinkTrainDone_waits (ht : (s.link l).train = some r) (h : s.trainResult l r eq = none) :
    exec (.linkTrainDone l eq) s = .next s := by
  show execLinkTrainDone l eq s = _
  unfold execLinkTrainDone
  simp only [ht, h]

theorem execLinkTrainDone_passes (ht : (s.link l).train = some r) (ho : s.objHere (obj clsVL l) = true)
    (h : s.trainResult l r eq = some 0) : ∃ t, exec (.linkTrainDone l eq) s = .next t
      ∧ t.link l = (s.link l).trained true (r.rtt % 2 ^ 32) ∧ Raised t 0x0610 (obj clsVL l) [obj clsVL l, r.rtt % 2 ^ 32] := by
  have hexec : exec (.linkTrainDone l eq) s = .next (((s.updLink l (fun x => x.trained true (r.rtt % 2 ^ 32))).raise
        { code := 0x0610, obj := obj clsVL l, fields := [obj clsVL l, r.rtt % 2 ^ 32] }).ok r.reply
          (toLE 1 0 ++ toLE 3 0 ++ toLE 4 (r.rtt % 2 ^ 32))) := by
    show execLinkTrainDone l eq s = _
    unfold execLinkTrainDone
    simp only [ht, h]
    rfl
  refine ⟨_, hexec, ?_, State.raised_raise_ok (((s.updLink_linksOnly _ _).objHere _).trans ho) (Nat.ne_of_beq_eq_false rfl) _ _⟩
  rw [State.link_raise_ok, State.updLink_get, if_pos rfl]

theorem execLinkTrainDone_fails {c : Nat} (ht : (s.link l).train = some r) (ho : s.objHere (obj clsVL l) = true)
    (h : s.trainResult l r eq = some c) (hc : c ≠ 0) : ∃ t rtt, exec (.linkTrainDone l eq) s = .next t
      ∧ t.link l = (s.link l).pxOff.trained false rtt ∧ Raised t 0x0611 (obj clsVL l) [obj clsVL l, c] := by
  have hexec : ∃ (rtt : Link → Nat) (data : Bytes), exec (.linkTrainDone l eq) s
      = .next ((((s.stopPx l).updLink l (fun x => x.trained false (rtt x))).raise
        { code := 0x0611, obj := obj clsVL l, fields := [obj clsVL l, c] }).ok r.reply data) := by
    refine ⟨fun x => if c = 0 ∨ c = 5 ∨ c = 6 then r.rtt % 2 ^ 32 else x.rtt,
      toLE 1 c ++ toLE 3 0 ++ toLE 4 (if c = 0 ∨ c = 5 ∨ c = 6 then r.rtt % 2 ^ 32 else 0), ?_⟩
    show execLinkTrainDone l eq s = _
    unfold execLinkTrainDone
    simp only [ht, h, if_neg hc]
    rfl
  obtain ⟨rtt, data, hexec⟩ := hexec
  have hlinks := (s.stopPx_linksOnly l).trans (State.updLink_linksOnly _ l (fun x => x.trained false (rtt x)))
  refine ⟨_, rtt (s.link l).pxOff, hexec, ?_, State.raised_raise_ok ((hlinks.objHere _).trans ho) (Nat.ne_of_beq_eq_false rfl) _ _⟩
  rw [State.link_raise_ok, State.updLink_get, if_pos rfl, State.stopPx_link, if_pos rfl]

theorem State.trainResult_interlock (h : r.ilk = true) : s.trainResult l r eq = some 8 := if_pos h

theorem State.trainResult_fail (h : r.ilk = false) (hf : r.fail ≠ 0) : s.trainResult l r eq = some r.fail := by
  simp [State.trainResult, h, hf]

theorem State.trainResult_counted (h : r.ilk = false) (hf : r.fail = 0) (h7 : r.step = 7) (hp : s.pxCounted l = true) :
    s.trainResult l r eq = some (if eq then 0 else 6) := by simp [State.trainResult, h, hf, h7, hp]

theorem State.trainResult_uncounted (h : r.ilk = false) (hf : r.fail = 0) (h7 : r.step = 7) (hp : s.pxCounted l = false)
    (hs : r.start + 1000000 ≤ s.tempo) : s.trainResult l r eq = some 6 := by simp [State.trainResult, h, hf, h7, hp, hs]

/-! ### Edges of OUT4 (R143, R216, R234) -/

theorem le_mul_ceilDiv (a : Nat) {b : Nat} (hb : 0 < b) : a ≤ b * ceilDiv a b := by
  have h := Nat.div_add_mod (a + b - 1) b
  have hlt := Nat.mod_lt (a + b - 1) hb
  rw [ceilDiv, if_neg (by omega)]
  omega

/-- The edge that is counted to lies at or after the time. -/
theorem State.le_edgeTime_edgesTo (hd : 0 < s.outDiv n) (time : Int) : time ≤ s.edgeTime n (s.edgesTo n time) := by
  have hunit : 0 < s.edgeUnit n := by unfold State.edgeUnit; positivity
  unfold State.edgeTime State.edgesTo
  dsimp only
  generalize s.edgeUnit n = u at hunit
  generalize s.par clsSTN n 0x06a = delay
  generalize hr : max 1 (s.pll (8 + n)).ratio = ratio
  generalize (s.pll (8 + n)).edgeT = base
  rw [max_eq_right hunit]
  have hcount := le_mul_ceilDiv ((time - base) * 64 * ratio - (delay * u : Nat)).toNat (b := 64 * u) (by omega)
  generalize ceilDiv ((time - base) * 64 * ratio - (delay * u : Nat)).toNat (64 * u) = k at hcount ⊢
  have hle : (time - base) * (64 * ratio : Nat) ≤ (64 * k + delay) * u := by
    have := (Int.self_le_toNat _).trans (Int.ofNat_le.2 hcount)
    push_cast at this ⊢
    linarith
  have := Int.le_ediv_of_mul_le (by omega) hle
  omega

/-! ### Slot 0 of a frame (R216, R217) -/

/-- Half a period after an edge that lies no more than that before a tempo, that tempo has come. -/
theorem le_ceil_of {now : Nat} {edge half : Int} (h : (((now + 512) * 2 ^ 38 : Nat) : Int) - half ≤ edge) :
    now + 512 ≤ (-(-(edge + half) / 2 ^ 38)).toNat := by omega

/-- A link of which EDGE_SYNC has left: PX starts at a tempo, with V the number of an edge. -/
def Link.edgeSynced (x : Link) (start v : Nat) : Link := { x with pxWait := false, pxAt := some start, edgeV := v }

/-- EDGE_SYNC announces an edge, with PX no earlier than 512 tempo from now. -/
theorem State.edgeSync_eq (s : State) (l : Nat) : ∃ start v,
    s.edgeSync l = (ctlBlock 0x55 (toLE 2 v), s.updLink l (fun x => x.edgeSynced start v))
      ∧ (0 < s.outDiv (l / 4) → s.tempo + 512 ≤ start) := by
  unfold State.edgeSync
  dsimp only
  refine ⟨_, _, rfl, fun hd => ?_⟩
  exact le_ceil_of (State.le_edgeTime_edgesTo hd _)

theorem State.slotZero_marker {k : Bytes} (h : (s.link l).marker = some (s.tempo, k)) :
    s.slotZero l = (k, s.setLink l { s.link l with marker := none }) := by
  have hf : (s.link l).marker.filter (fun m => m.1 == s.tempo) = some (s.tempo, k) := by rw [h]; simp
  unfold State.slotZero
  simp only [hf]

theorem State.slotZero_unmarked (h : ∀ k, (s.link l).marker ≠ some (s.tempo, k)) :
    (s.link l).marker.filter (fun m => m.1 == s.tempo) = none := by
  refine Option.filter_eq_none_iff.2 fun m hm => ?_
  intro heq
  exact h m.2 (by rw [hm, ← beq_iff_eq.1 heq])

theorem State.slotZero_edgeSync (h : ∀ k, (s.link l).marker ≠ some (s.tempo, k)) (hw : (s.link l).pxWait = true) :
    s.slotZero l = s.edgeSync l := by
  unfold State.slotZero
  simp only [State.slotZero_unmarked h, hw, if_true]

theorem State.slotZero_block {b : Bytes} {bs : List Bytes} (h : ∀ k, (s.link l).marker ≠ some (s.tempo, k))
    (hw : (s.link l).pxWait = false) (hs : (s.link l).slot0 = b :: bs) :
    ∃ tr, s.slotZero l = (b, s.setLink l { s.link l with slot0 := bs, train := tr }) := by
  unfold State.slotZero
  simp only [State.slotZero_unmarked h, hw, hs]
  exact ⟨_, rfl⟩

theorem State.slotZero_idle (h : ∀ k, (s.link l).marker ≠ some (s.tempo, k)) (hw : (s.link l).pxWait = false)
    (hs : (s.link l).slot0 = []) : s.slotZero l = (blkIDLE, s) := by
  unfold State.slotZero
  simp only [State.slotZero_unmarked h, hw, hs]
  rfl

/-- What the control block of slot 0 leaves of its link. -/
structure SlotKept (l : Nat) (s t : State) : Prop where
  links : LinksOnly s t
  state : (t.link l).state = (s.link l).state
  line : (t.link l).line = (s.link l).line
  frameAt : (t.link l).frameAt = (s.link l).frameAt

theorem State.setLink_slotKept (s : State) (l : Nat) {x : Link} (hs : x.state = (s.link l).state) (hl : x.line = (s.link l).line)
    (hf : x.frameAt = (s.link l).frameAt) : SlotKept l s (s.setLink l x) := by
  have hx : (s.setLink l x).link l = x := (State.setLink_get _ _ _ _).trans (if_pos rfl)
  exact ⟨s.updLink_linksOnly l (fun _ => x), by rw [hx, hs], by rw [hx, hl], by rw [hx, hf]⟩

theorem State.slotZero_slotKept (s : State) (l : Nat) : SlotKept l s (s.slotZero l).2 := by
  by_cases hm : ∃ k, (s.link l).marker = some (s.tempo, k)
  · obtain ⟨k, hk⟩ := hm
    rw [State.slotZero_marker hk]
    exact s.setLink_slotKept l rfl rfl rfl
  · have hm := not_exists.1 hm
    cases hw : (s.link l).pxWait with
    | true =>
      obtain ⟨start, v, he, -⟩ := s.edgeSync_eq l
      rw [State.slotZero_edgeSync hm hw, he]
      exact s.setLink_slotKept l rfl rfl rfl
    | false =>
      cases hs : (s.link l).slot0 with
      | nil =>
        rw [State.slotZero_idle hm hw hs]
        exact ⟨.refl s, rfl, rfl, rfl⟩
      | cons b bs =>
        obtain ⟨tr, he⟩ := State.slotZero_block hm hw hs
        rw [he]
        exact s.setLink_slotKept l rfl rfl rfl

/-! ### BEAM_LINK_FRAME (R213, R217, R227) -/

theorem LineOut.fill_length (num den frame n slot : Nat) (x : LineOut) : (LineOut.fill num den frame n slot x).1.length = n := by
  induction n generalizing slot x with
  | zero => rfl
  | succ n ih => exact congrArg (· + 1) (ih _ _)

/-- The link's frame is due, and its BLPLL clocks it or not. -/
structure State.FrameDue (s : State) (l : Nat) : Prop where
  at_ : At s inLinks
  lt : l < 32
  served : s.inService clsVL l = true
  running : s.running = true
  now : s.tempo % 64 = 0
  fresh : (s.link l).frameAt ≠ some s.tempo

/-- PX has started where its start has come, and the frame is noted. -/
def State.frameBegun (s : State) (l : Nat) : State := (s.pxRun l).updLink l (fun x => { x with frameAt := some s.tempo })

/-- The frame that follows the block of slot 0: IDLE, or the link's line as far as it is ready. -/
def State.frameSent (s u : State) (l : Nat) (b : Bytes) : State :=
  (u.link l).line.elim (u.emit (.frame l 0 (.ctl b :: List.replicate 19 (.ctl blkIDLE)))) (fun x =>
    let q := x.fill (8 * s.outDiv (l / 4) * 2 ^ 32) (s.pll (8 + l / 4)).ratio s.tempo 19 1
    (u.updLink l (fun z => { z with line := if q.2.head.isNone && q.2.blocks.isEmpty then none else some q.2 })).emit
      (.frame l 0 (.ctl b :: q.1)))

theorem execBeamLinkFrame_unclocked (h : s.FrameDue l) (hs : s.serialised l = false) : exec (.beamLinkFrame l) s = .next s := by
  show execBeamLinkFrame l s = _
  unfold execBeamLinkFrame
  rw [h.at_]
  exact congrArg _ (if_neg (by simp [hs]))

theorem execBeamLinkFrame_clocked (h : s.FrameDue l) (hs : s.serialised l = true) : exec (.beamLinkFrame l) s = .next (
    if s.dark then (s.frameBegun l).emit (.frame l 0 (List.replicate 20 (.ctl blkBLANK)))
    else if (s.link l).state = .down ∨ (s.link l).state = .faulted then
      (s.frameBegun l).emit (.frame l 0 (List.replicate 20 (.ctl blkIDLE)))
    else s.frameSent ((s.frameBegun l).slotZero l).2 l ((s.frameBegun l).slotZero l).1) := by
  obtain ⟨hat, hlt, hserv, hrun, hnow, hfresh⟩ := h
  show execBeamLinkFrame l s = _
  unfold execBeamLinkFrame
  rw [hat]
  dsimp only
  rw [if_pos (by simp [hlt, hserv, hrun, hnow, hfresh, hs])]
  unfold State.frameBegun
  generalize (s.pxRun l).updLink l (fun x => { x with frameAt := some s.tempo }) = s0
  refine congrArg _ (if_congr Iff.rfl rfl ?_)
  cases (s.link l).state with
  | down | faulted => rfl
  | training | up =>
    rw [if_neg (by decide)]
    unfold State.frameSent
    generalize s0.slotZero l = p
    cases (p.2.link l).line with
    | none => rfl
    | some x => dsimp only [Option.elim_some]

/-- When PX runs, its link keeps all but that. -/
theorem State.pxRun_link (s : State) (l : Nat) : ∃ on, (s.pxRun l).link l = { s.link l with pxOn := on } := by
  unfold State.pxRun
  dsimp only
  split
  · exact ⟨true, by simp⟩
  · exact ⟨_, rfl⟩

theorem State.pxRun_linksOnly (s : State) (l : Nat) : LinksOnly s (s.pxRun l) := by
  unfold State.pxRun
  dsimp only
  split
  · exact (s.updLink_linksOnly l (fun x => { x with pxOn := true })).trans (State.emit_linksOnly _ _)
  · exact .refl s

theorem State.frameBegun_link (s : State) (l : Nat) :
    ∃ on, (s.frameBegun l).link l = { s.link l with pxOn := on, frameAt := some s.tempo } := by
  obtain ⟨on, h⟩ := s.pxRun_link l
  exact ⟨on, by rw [State.frameBegun, State.updLink_get, if_pos rfl, h]⟩

theorem State.frameBegun_linksOnly (s : State) (l : Nat) : LinksOnly s (s.frameBegun l) :=
  (s.pxRun_linksOnly l).trans (State.updLink_linksOnly _ _ _)

/-- The frame's first slot has its block and the other 19 the line; of its link only the line changes. -/
theorem State.frameSent_parts (s u : State) (l : Nat) (b : Bytes) : ∃ bs y, .frame l 0 (.ctl b :: bs) ∈ (s.frameSent u l b).out
    ∧ bs.length = 19 ∧ (s.frameSent u l b).link l = { u.link l with line := y }
    ∧ ((u.link l).line = none → bs = List.replicate 19 (.ctl blkIDLE))
    ∧ (∀ x, (u.link l).line = some x → bs = (x.fill (8 * s.outDiv (l / 4) * 2 ^ 32) (s.pll (8 + l / 4)).ratio s.tempo 19 1).1) := by
  unfold State.frameSent
  cases h : (u.link l).line with
  | none =>
    exact ⟨_, (u.link l).line, List.mem_append_right _ (List.mem_singleton.2 rfl), List.length_replicate, rfl, fun _ => rfl, nofun⟩
  | some x =>
    refine ⟨_, _, List.mem_append_right _ (List.mem_singleton.2 rfl), LineOut.fill_length _ _ _ _ _ _,
      (State.emit_link _ _ _).trans ((State.updLink_get _ _ _ _).trans (if_pos rfl)), nofun, ?_⟩
    rintro _ ⟨⟩
    rfl

/-- The control block `b` of slot 0 of link `l`, chosen in `s`, and what its link has left of it in `t` (R216, R217). -/
structure SlotZero (l : Nat) (s t : State) (b : Bytes) : Prop where
  marker : ∀ k, (s.link l).marker = some (s.tempo, k) → b = k ∧ (t.link l).marker = none
  other : (∀ k, (s.link l).marker ≠ some (s.tempo, k)) → (t.link l).marker = (s.link l).marker
    ∧ ((s.link l).pxWait = true → b = ctlBlock 0x55 (toLE 2 (t.link l).edgeV) ∧ (t.link l).pxWait = false
      ∧ ∃ a, (t.link l).pxAt = some a ∧ (0 < s.outDiv (l / 4) → s.tempo + 512 ≤ a))
    ∧ ((s.link l).pxWait = false → (∀ k ks, (s.link l).slot0 = k :: ks → b = k ∧ (t.link l).slot0 = ks)
      ∧ ((s.link l).slot0 = [] → b = blkIDLE))

theorem State.slotZero_says (s : State) (l : Nat) : SlotZero l s (s.slotZero l).2 (s.slotZero l).1 := by
  refine ⟨fun k hk => ?_, fun hm => ?_⟩
  · rw [State.slotZero_marker hk]
    exact ⟨rfl, by simp⟩
  · cases hw : (s.link l).pxWait with
    | true =>
      obtain ⟨start, v, he, ha⟩ := s.edgeSync_eq l
      have hx : (s.updLink l (fun x => x.edgeSynced start v)).link l = (s.link l).edgeSynced start v := (State.updLink_get _ _ _ _).trans (if_pos rfl)
      rw [State.slotZero_edgeSync hm hw, he, hx]
      exact ⟨rfl, fun _ => ⟨rfl, rfl, start, rfl, ha⟩, nofun⟩
    | false =>
      cases hs : (s.link l).slot0 with
      | nil =>
        rw [State.slotZero_idle hm hw hs]
        exact ⟨rfl, nofun, fun _ => ⟨nofun, fun _ => rfl⟩⟩
      | cons k ks =>
        obtain ⟨tr, he⟩ := State.slotZero_block hm hw hs
        rw [he, State.setLink_get, if_pos rfl]
        refine ⟨rfl, nofun, fun _ => ⟨?_, nofun⟩⟩
        rintro _ _ ⟨⟩
        exact ⟨rfl, rfl⟩

/-- A frame of a link in training or UP: slot 0, and the line in the others. -/
theorem execBeamLinkFrame_sends (h : s.FrameDue l) (hs : s.serialised l = true) (hd : s.dark = false)
    (hx : (s.link l).state = .training ∨ (s.link l).state = .up) :
    ∃ t b bs, exec (.beamLinkFrame l) s = .next t ∧ .frame l 0 (.ctl b :: bs) ∈ t.out ∧ bs.length = 19
      ∧ (t.link l).state = (s.link l).state ∧ (t.link l).frameAt = some s.tempo ∧ SlotZero l s t b
      ∧ ((s.link l).line = none → bs = List.replicate 19 (.ctl blkIDLE))
      ∧ (∀ x, (s.link l).line = some x →
        bs = (x.fill (8 * s.outDiv (l / 4) * 2 ^ 32) (s.pll (8 + l / 4)).ratio s.tempo 19 1).1) := by
  have hnot : ¬((s.link l).state = .down ∨ (s.link l).state = .faulted) := by
    rcases hx with hx | hx <;> rw [hx] <;> decide
  have hexec := execBeamLinkFrame_clocked h hs
  rw [hd, if_neg (by decide), if_neg hnot] at hexec
  obtain ⟨on, hbegun⟩ := s.frameBegun_link l
  obtain ⟨ls, out, hlinks⟩ := s.frameBegun_linksOnly l
  have htempo : (s.frameBegun l).tempo = s.tempo := by rw [hlinks]
  have hdiv : (s.frameBegun l).outDiv (l / 4) = s.outDiv (l / 4) := by rw [hlinks]; rfl
  have hkept := (s.frameBegun l).slotZero_slotKept l
  have hsays := (s.frameBegun l).slotZero_says l
  generalize (s.frameBegun l).slotZero l = p at hexec hkept hsays
  obtain ⟨-, hstate, hline, hframe⟩ := hkept
  obtain ⟨hmarker, hother⟩ := hsays
  obtain ⟨bs, y, hout, hlen, hlink, hnone, hsome⟩ := s.frameSent_parts p.2 l p.1
  rw [hbegun] at hstate hline hframe hmarker hother
  rw [htempo] at hmarker hother
  rw [hdiv] at hother
  refine ⟨_, p.1, bs, hexec, hout, hlen, by rw [hlink, hstate], by rw [hlink, hframe], ⟨?_, ?_⟩, ?_, ?_⟩
  · rw [hlink]; exact hmarker
  · rw [hlink]; exact hother
  · rw [hline] at hnone; exact hnone
  · rw [hline] at hsome; exact hsome

end Sys2Proof.Machine

namespace Sys2Proof.Proofs
open Sys2Proof Sys2Proof.Machine Sys2Proof.Claims

/-- Settles O38. -/
theorem beamLinksTrainAndSendFramesAndLines : Obligations.BeamLinksTrainAndSendFramesAndLines := by
  refine ⟨fun m s l h hm hn hl hd hA hB hp => execLinkTrain_runs h hm hn hl hd hA hB hp, fun s l r eq ht ho => ?_,
    fun s s0 l hat hlt hserv hrun hnow hfresh hs0 => ?_, fun s l q ue hat hq hlt hserv hscan hdue hnow => ?_⟩
  · refine ⟨execLinkTrainDone_waits ht, fun h => ?_, fun c h hc => ?_, State.trainResult_interlock, State.trainResult_fail,
      State.trainResult_counted, State.trainResult_uncounted⟩
    · obtain ⟨t, hexec, hlink, hraised⟩ := execLinkTrainDone_passes ht ho h
      exact ⟨t, hexec, by rw [hlink]; rfl, by rw [hlink]; rfl, by rw [hlink]; rfl, by rw [hlink]; rfl, hraised⟩
    · obtain ⟨t, rtt, hexec, hlink, hraised⟩ := execLinkTrainDone_fails ht ho h hc
      exact ⟨t, hexec, by rw [hlink]; rfl, by rw [hlink]; rfl, by rw [hlink]; rfl, hraised⟩
  · have hdue : s.FrameDue l := ⟨hat, hlt, hserv, hrun, hnow, hfresh⟩
    obtain rfl : s0 = s.frameBegun l := hs0
    refine ⟨execBeamLinkFrame_unclocked hdue, fun hs => ⟨fun hd => ?_, fun hd hx => ?_, fun hd hx => ?_⟩⟩
    · rw [execBeamLinkFrame_clocked hdue hs, if_pos hd]
    · rw [execBeamLinkFrame_clocked hdue hs, hd, if_neg (by decide), if_pos hx]
    · obtain ⟨t, b, bs, hexec, hout, hlen, hstate, hframe, hzero, hline⟩ := execBeamLinkFrame_sends hdue hs hd hx
      exact ⟨t, b, bs, hexec, hout, hlen, hstate, hframe, hzero.marker, hzero.other, hline⟩
  · have hstarts : s.LineStarts l q := ⟨hat, hq, hlt, hserv, hscan, hdue, hnow⟩
    refine ⟨fun hdark => ?_, fun hb hh hu => ?_⟩
    · obtain ⟨t, coast, hexec, hlink, hout⟩ := mapperStart_dark hstarts hdark ue
      exact ⟨t, hexec, by rw [hlink]; rfl, hout, by rw [hlink]; rfl, by rw [hlink]; rfl⟩
    · obtain ⟨t, coast, sent, y, hexec, hlink, hnone, hsome⟩ := mapperStart_sends hstarts hb hh hu ue
      have hstart : y.start = s.tempo := by
        cases hd : s.drawing (l / 4) with
        | none => rw [hnone hd]; rfl
        | some d => obtain ⟨blank, ws, rfl, -⟩ := hsome d hd; rfl
      refine ⟨t, y, hexec, by rw [hlink]; rfl, by rw [hlink]; rfl, by rw [hlink]; rfl, hstart, by rw [hlink]; rfl,
        fun hd => ?_, fun d hd => ?_⟩
      · rw [hnone hd]
        exact ⟨rfl, rfl⟩
      · obtain ⟨blank, ws, rfl, hlen, -⟩ := hsome d hd
        exact ⟨by rw [← hlen]; exact dataBlocks_length ws, blank, rfl⟩

end Sys2Proof.Proofs
end

section
namespace Sys2Proof.Machine
open Sys2Proof Sys2Proof.Claims
variable {s t : State} {l k : Nat} {p : Bytes} {r : Training} {lock : Bool}

/-! ### Training runs (R219, R220) -/

theorem State.trainNext_link (s : State) (l k : Nat) : (s.trainNext l k).link l
    = { s.link l with train := (s.link l).train.map (fun t => { t with step := k + 1, since := s.tempo }) } :=
  (State.updLink_get _ _ _ _).trans (if_pos rfl)

theorem State.updTrain_link (s : State) (l : Nat) (f : Training → Training) :
    (s.updTrain l f).link l = { s.link l with train := (s.link l).train.map f } := (State.updLink_get _ _ _ _).trans (if_pos rfl)

theorem State.sendBlock_link (s : State) (l : Nat) (b : Bytes) :
    (s.sendBlock l b).link l = { s.link l with slot0 := (s.link l).slot0 ++ [b] } := (State.updLink_get _ _ _ _).trans (if_pos rfl)

theorem State.trainAt_iff : s.trainAt l k = true ↔ ∃ r, (s.link l).train = some r ∧ r.step = k ∧ r.fail = 0 ∧ r.ilk = false
    ∧ (5 ≤ k ∨ s.tempo ≤ r.since + 50000) := by
  unfold State.trainAt
  cases (s.link l).train <;> simp [and_assoc]

/-- Which step a run has come to depends on the run and the tempo. -/
theorem State.trainAt_congr (h : (t.link l).train = (s.link l).train) (hn : t.tempo = s.tempo) : t.trainAt l k = s.trainAt l k := by
  unfold State.trainAt
  rw [h, hn]

theorem State.trainAt_of_ne {j : Nat} (h : s.trainAt l k = true) (hj : j ≠ k) : s.trainAt l j = false := by
  obtain ⟨r, hr, hk, -⟩ := State.trainAt_iff.1 h
  refine Bool.eq_false_iff.2 fun hx => ?_
  obtain ⟨r', hr', hj', -⟩ := State.trainAt_iff.1 hx
  obtain rfl : r = r' := Option.some.inj (hr.symm.trans hr')
  exact hj (hj'.symm.trans hk)

/-- Only links change, and of link `l` neither its state nor its driver. -/
structure LinkStays (l : Nat) (s t : State) : Prop where
  links : LinksOnly s t
  state : (t.link l).state = (s.link l).state
  drv : (t.link l).drv = (s.link l).drv

theorem LinkStays.trans {u : State} (h : LinkStays l s t) (k : LinkStays l t u) : LinkStays l s u :=
  ⟨h.links.trans k.links, k.state.trans h.state, k.drv.trans h.drv⟩

theorem LinksOnly.faults (h : LinksOnly s t) : t.faults = s.faults := by
  obtain ⟨ls, out, rfl⟩ := h
  rfl

theorem LinksOnly.tempo (h : LinksOnly s t) : t.tempo = s.tempo := by
  obtain ⟨ls, out, rfl⟩ := h
  rfl

theorem State.trainNext_stays (s : State) (l k : Nat) : LinkStays l s (s.trainNext l k) :=
  ⟨s.updLink_linksOnly _ _, by rw [State.trainNext_link], by rw [State.trainNext_link]⟩

theorem State.updTrain_stays (s : State) (l : Nat) (f : Training → Training) : LinkStays l s (s.updTrain l f) :=
  ⟨s.updLink_linksOnly _ _, by rw [State.updTrain_link], by rw [State.updTrain_link]⟩

theorem State.mgmtRead_stays (s : State) (l a : Nat) : LinkStays l s (s.mgmtRead l a) :=
  ⟨s.updLink_linksOnly l (fun x => { x with slot0 := x.slot0 ++ [ctlBlock 0x87 (toLE 1 1 ++ toLE 2 a)] }),
    by rw [State.mgmtRead, State.sendBlock_link], by rw [State.mgmtRead, State.sendBlock_link]⟩

theorem State.startPx_link (s : State) (l : Nat) : ∃ w, (s.startPx l).link l = { s.link l with pxWait := w }
    ∧ (s.par clsSTN (l / 4) (0x06c + l % 4) = 1 → w = true) := by
  unfold State.startPx
  split
  · exact ⟨true, (State.updLink_get _ _ _ _).trans (if_pos rfl), fun _ => rfl⟩
  · next h => exact ⟨_, rfl, fun h1 => absurd h1 h⟩

theorem State.startPx_stays (s : State) (l : Nat) : LinkStays l s (s.startPx l) := by
  obtain ⟨w, hw, -⟩ := s.startPx_link l
  exact ⟨s.startPx_linksOnly l, by rw [hw], by rw [hw]⟩

theorem State.trainRead_stays (s : State) (l : Nat) (r : Training) : LinkStays l s (s.trainRead l r) := by
  unfold State.trainRead
  dsimp only
  split
  · exact (s.updTrain_stays _ _).trans (State.mgmtRead_stays _ _ _)
  · split
    · exact ((s.updTrain_stays _ _).trans (State.trainNext_stays _ _ _)).trans (State.startPx_stays _ _)
    · exact (s.updTrain_stays _ _).trans (State.updTrain_stays _ _ _)

/-- The run after a round trip of step 6. -/
def Training.read (r : Training) (n : Nat) : Training := { r with rtt := n, reads := r.reads + 1 }

section
variable {n : Nat} (hr : (s.link l).train = some r) (hn : n = max r.rtt (s.tempo - r.sentAt.getD s.tempo))
include hr hn

theorem State.trainRead_more (h : r.reads < 15) : (s.trainRead l r).link l
    = { s.link l with train := some (r.read n), slot0 := (s.link l).slot0 ++ [ctlBlock 0x87 [1, 1, 0]] } := by
  unfold State.trainRead
  dsimp only
  rw [if_pos (by omega), State.mgmtRead, State.sendBlock_link, State.updTrain_link, hr, hn]
  rfl

theorem State.trainRead_last (h : 15 ≤ r.reads) (h4 : n ≤ 400) :
    ((s.trainRead l r).link l).train = some { r.read n with step := 7, since := s.tempo }
      ∧ (s.par clsSTN (l / 4) (0x06c + l % 4) = 1 → ((s.trainRead l r).link l).pxWait = true) := by
  unfold State.trainRead
  dsimp only
  rw [if_neg (by omega), if_pos (by omega)]
  obtain ⟨w, hw, hp⟩ := ((s.updTrain l (fun t => { t with
    rtt := max r.rtt (s.tempo - r.sentAt.getD s.tempo), reads := t.reads + 1 })).trainNext l 6).startPx_link l
  rw [hw, State.trainNext_link, State.updTrain_link, hr, hn]
  exact ⟨rfl, hp⟩

theorem State.trainRead_slow (h : 15 ≤ r.reads) (h4 : 400 < n) :
    ((s.trainRead l r).link l).train = some { r.read n with fail := 5 } := by
  unfold State.trainRead
  dsimp only
  rw [if_neg (by omega), if_neg (by omega), State.updTrain_link, State.updTrain_link, hr, hn]
  rfl

end

/-! ### Packets (R222, R223) -/

/-- The backchannel of link `l` brings a packet. -/
structure State.BcHere (s : State) (l : Nat) : Prop where
  at_ : At s inCapture
  lt : l < 32
  served : s.inService clsVL l = true

/-- The five commands that bring a packet. -/
def bcCommands (l : Nat) (p : Bytes) : List Instr := [.bcStatus l p, .bcMon l p, .bcLineLost l p, .bcMgmtRsp l p, .bcEmitterFault l p]

/-- A valid packet has come: it refreshes the link and ends step 3 of its training run. -/
def State.bcSeen (s : State) (l : Nat) : State :=
  let s0 := s.updLink l (fun x => { x with lastPkt := s.tempo })
  if s0.trainAt l 3 then s0.trainNext l 3 else s0

theorem State.bcPacket_damaged (h : s.BcHere l) (hbad : p.length ≠ 8 ∨ crc8 (p.take 7) ≠ leAt p 7 1) (type : Nat) (act : State → State) :
    s.bcPacket l p type act = s.updLink l (fun x => { x with bcErr := satAdd 32 x.bcErr 1 }) := by
  unfold State.bcPacket
  rw [if_pos (by simp [h.lt, h.served]), if_pos hbad]

theorem exec_bcCommands_damaged (h : s.BcHere l) (hbad : p.length ≠ 8 ∨ crc8 (p.take 7) ≠ leAt p 7 1) :
    ∀ c ∈ bcCommands l p, exec c s = .next (s.updLink l (fun x => { x with bcErr := satAdd 32 x.bcErr 1 })) := by
  have hx := fun type act => State.bcPacket_damaged h hbad type act
  have hat := h.at_
  simp only [bcCommands, List.mem_cons, List.not_mem_nil, or_false, forall_eq_or_imp, forall_eq]
  refine ⟨?_, ?_, ?_, ?_, ?_⟩
  · show execBcStatus l p s = _
    unfold execBcStatus
    rw [hat]
    exact congrArg _ (hx _ _)
  · show execBcMon l p s = _
    unfold execBcMon
    rw [hat]
    exact congrArg _ (hx _ _)
  · show execBcLineLost l p s = _
    unfold execBcLineLost
    rw [hat]
    exact congrArg _ (hx _ _)
  · show execBcMgmtRsp l p s = _
    unfold execBcMgmtRsp
    rw [hat]
    exact congrArg _ (hx _ _)
  · show execBcEmitterFault l p s = _
    unfold execBcEmitterFault
    rw [hat]
    exact congrArg _ (hx _ _)

theorem State.bcPacket_valid (h : s.BcHere l) (hlen : p.length = 8) (hcrc : crc8 (p.take 7) = leAt p 7 1) {type : Nat}
    (ht : leAt p 0 1 = type) (act : State → State) : s.bcPacket l p type act = act (s.bcSeen l) := by
  unfold State.bcPacket
  rw [if_pos (by simp [h.lt, h.served]), if_neg (by simp [hlen, hcrc])]
  exact if_pos ht

theorem State.bcSeen_linksOnly (s : State) (l : Nat) : LinksOnly s (s.bcSeen l) := by
  unfold State.bcSeen
  dsimp only
  split
  · exact (s.updLink_linksOnly _ _).trans (State.updLink_linksOnly _ _ _)
  · exact s.updLink_linksOnly _ _

/-- The training run of a link after a valid packet. -/
def State.bcTrain (s : State) (l : Nat) : Option Training :=
  if s.trainAt l 3 then (s.link l).train.map (fun t => { t with step := 4, since := s.tempo }) else (s.link l).train

theorem State.bcSeen_link (s : State) (l : Nat) : (s.bcSeen l).link l = { s.link l with lastPkt := s.tempo, train := s.bcTrain l } := by
  have h0 : (s.updLink l (fun x => { x with lastPkt := s.tempo })).link l = { s.link l with lastPkt := s.tempo } :=
    (State.updLink_get _ _ _ _).trans (if_pos rfl)
  unfold State.bcSeen State.bcTrain
  dsimp only
  have hat : (s.updLink l (fun x => { x with lastPkt := s.tempo })).trainAt l 3 = s.trainAt l 3 :=
    State.trainAt_congr ((congrArg Link.train h0).trans rfl) rfl
  rw [hat]
  split
  · rw [State.trainNext_link, h0]; rfl
  · rw [h0]

theorem State.bcTrain_of_not (h : s.trainAt l 3 = false) : s.bcTrain l = (s.link l).train := by
  unfold State.bcTrain
  rw [h]
  rfl

theorem State.bcSeen_stays (s : State) (l : Nat) : LinkStays l s (s.bcSeen l) :=
  ⟨s.bcSeen_linksOnly l, by rw [State.bcSeen_link], by rw [State.bcSeen_link]⟩

theorem objHere_obj {c i : Nat} (hc : c < 256) (hi : i < 4096) (h : s.inService c i = true) : s.objHere (obj c i) = true := by
  unfold State.objHere
  rw [aCls_obj hc hi, aIdx_obj hi, h]

/-! ### Links that fail (R222, R224) -/

/-- A link that fails is FAULTED without PX and what it was sending, with the event's code latched; the others stay. -/
theorem State.linkDown_parts (ho : s.objHere (obj clsVL l) = true) (code f : Nat) :
    (s.linkDown l code f).link l = { (s.link l).pxOff.quiet with state := .faulted }
      ∧ (s.linkDown l code f).latched code (obj clsVL l) = true ∧ (∀ k, k ≠ l → (s.linkDown l code f).link k = s.link k) := by
  have hlinks := (s.stopPx_linksOnly l).trans (State.updLink_linksOnly _ l (fun x => { x.quiet with state := .faulted }))
  have ho := (hlinks.objHere _).trans ho
  unfold State.linkDown
  refine ⟨?_, State.latched_raise ho ho (List.mem_singleton.2 rfl), fun k hk => ?_⟩
  · rw [State.raise_link, State.updLink_get, if_pos rfl, State.stopPx_link, if_pos rfl]
  · rw [State.raise_link, State.updLink_get, if_neg hk, State.stopPx_link, if_neg hk]

theorem execBackchannelLost_down (hat : At s inTimeouts) (hl : l < 32) (hu : (s.link l).state = .up)
    (hn : (s.link l).lastPkt + 32000 ≤ s.tempo) :
    exec (.backchannelLost l) s = .next (s.linkDown l 0x0613 (s.link l).lastPkt) := by
  show execBackchannelLost l s = _
  unfold execBackchannelLost
  rw [hat]
  exact congrArg _ (if_pos (by simp [hl, hu, hn]))

theorem execBeamMonitor_answers {m : Msg} (h : Takes 0x0720 m 0 0xffffffff00000000 s)
    (hm : s.md.mode ∈ [Mode.standby, .warmUp, .ready, .print, .runOut]) (hn : Names (m.argN 8 4) [clsBEAM] s) :
    exec (.beamMonitor m) s = .next (s.ok (s.replyOf 0x0720 m) ((List.range 4).flatMap (fun i =>
      match (s.beam (aIdx (m.argN 8 4))).samples[i]? with
      | some e => toLE 8 e.tempo ++ toLE 2 e.code ++ toLE 2 e.power ++ toLE 4 0
      | none => toLE 16 0))) := by
  obtain ⟨-, hat, hlen, hr, -⟩ := id h
  show execBeamMonitor m s = _
  unfold execBeamMonitor
  rw [hat]
  refine (congrArg _ (State.command_of_takes h ?_ _)).trans ?_
  · rw [Msg.plen_nil hlen, Msg.argRes_nil hr, State.inModes_nil hm, State.objRefs_nil hn]
    rfl
  · rfl

/-! ### BC_STATUS (R222) -/

/-- A link with the fields of its newest STATUS. -/
def Link.reports (x : Link) (p : Bytes) : Link := { x with status := bytesAt p 1 6, ctlErr := leAt p 4 1 }

/-- STATUS is kept, with 0x0632 when its over-temperature bit comes. -/
def State.statusKept (s : State) (l : Nat) (p : Bytes) : State :=
  let x := s.link l
  let u := s.setLink l (x.reports p)
  if bit (leAt p 6 1) 0 && !bit (leAt x.status 5 1) 0 then
    u.raise { code := 0x0632, obj := obj clsVL l, fields := [obj clsVL l, i64 (sext 8 (leAt p 5 1))] } else u

/-- The run of a link whose STATUS has been kept goes on where it waits for block lock. -/
def State.lockSeen (s : State) (l : Nat) (lock : Bool) : State :=
  if s.trainAt l 4 && lock then (s.trainNext l 4).mgmtRead l 0 else s

theorem execBcStatus_eq (h : s.BcHere l) (hlen : p.length = 8) (hcrc : crc8 (p.take 7) = leAt p 7 1) (ht : leAt p 0 1 = 1) :
    exec (.bcStatus l p) s = .next (if ((s.bcSeen l).link l).state = .up ∧ !bit (leAt p 1 1) 0 then
      ((s.bcSeen l).statusKept l p).linkDown l 0x0612 (leAt p 1 1)
      else ((s.bcSeen l).statusKept l p).lockSeen l (bit (leAt p 1 1) 0)) := by
  show execBcStatus l p s = _
  unfold execBcStatus
  rw [h.at_]
  exact congrArg _ (State.bcPacket_valid h hlen hcrc ht _)

theorem State.statusKept_link (s : State) (l : Nat) (p : Bytes) : (s.statusKept l p).link l = (s.link l).reports p := by
  have h : (s.setLink l ((s.link l).reports p)).link l = (s.link l).reports p := (State.setLink_get _ _ _ _).trans (if_pos rfl)
  unfold State.statusKept
  dsimp only
  split
  · rw [State.raise_link, h]
  · exact h

theorem State.statusKept_objHere (s : State) (l : Nat) (p : Bytes) (o : Nat) : (s.statusKept l p).objHere o = s.objHere o := by
  unfold State.statusKept
  dsimp only
  split
  · exact State.objHere_congr (State.raise_die _ _) (State.raise_removed _ _) o
  · rfl

theorem State.statusKept_tempo (s : State) (l : Nat) (p : Bytes) : (s.statusKept l p).tempo = s.tempo := by
  unfold State.statusKept
  dsimp only
  split
  · exact State.raise_tempo _ _
  · rfl

theorem State.lockSeen_waits (h : s.trainAt l 4 = false ∨ lock = false) : s.lockSeen l lock = s := by
  unfold State.lockSeen
  rcases h with h | h <;> simp [h]

theorem State.lockSeen_link (h : s.trainAt l 4 = true) : (s.lockSeen l true).link l
    = { s.link l with train := (s.link l).train.map (fun r => { r with step := 5, since := s.tempo })
                      slot0 := (s.link l).slot0 ++ [ctlBlock 0x87 [1, 0, 0]] } := by
  unfold State.lockSeen
  rw [h, if_pos (by decide), State.mgmtRead, State.sendBlock_link, State.trainNext_link]
  rfl

/-- A run that has come to step 3 or 4 is at step 4 after a valid packet. -/
theorem State.bcTrain_waits (hr : (s.link l).train = some r) (h : s.trainAt l 3 = true ∨ s.trainAt l 4 = true) :
    ∃ r', s.bcTrain l = some r' ∧ r'.step = 4 ∧ r'.fail = 0 ∧ r'.ilk = false ∧ s.tempo ≤ r'.since + 50000
      ∧ { r' with step := 5, since := s.tempo } = { r with step := 5, since := s.tempo } := by
  rcases h with h | h
  · obtain ⟨r0, hr0, -, hf, hi, -⟩ := State.trainAt_iff.1 h
    obtain rfl : r = r0 := Option.some.inj (hr.symm.trans hr0)
    refine ⟨{ r with step := 4, since := s.tempo }, ?_, rfl, hf, hi, Nat.le_add_right _ _, rfl⟩
    rw [State.bcTrain, if_pos h, hr]
    rfl
  · obtain ⟨r0, hr0, hk, hf, hi, hs⟩ := State.trainAt_iff.1 h
    obtain rfl : r = r0 := Option.some.inj (hr.symm.trans hr0)
    exact ⟨r, (State.bcTrain_of_not (State.trainAt_of_ne h (by decide))).trans hr, hk, hf, hi, hs.resolve_left (by decide), rfl⟩

/-- What BC_STATUS does with a link and its training run. -/
structure StatusTaken (l : Nat) (p : Bytes) (s t : State) : Prop where
  status : (t.link l).status = bytesAt p 1 6
  ctlErr : (t.link l).ctlErr = leAt p 4 1
  lastPkt : (t.link l).lastPkt = s.tempo
  unlocked : (s.link l).state = .up → bit (leAt p 1 1) 0 = false → (t.link l).state = .faulted ∧ t.latched 0x0612 (obj clsVL l) = true
  locked : (s.link l).state = .up → bit (leAt p 1 1) 0 = true → (t.link l).state = .up
  goesOn : ∀ r, (s.link l).state = .training → (s.link l).train = some r → s.trainAt l 3 = true ∨ s.trainAt l 4 = true →
    (bit (leAt p 1 1) 0 = true → (t.link l).train = some { r with step := 5, since := s.tempo }
      ∧ (t.link l).slot0 = (s.link l).slot0 ++ [ctlBlock 0x87 [1, 0, 0]])
    ∧ (bit (leAt p 1 1) 0 = false → ∃ r', (t.link l).train = some r' ∧ r'.step = 4 ∧ (t.link l).slot0 = (s.link l).slot0)

/-- The link as a valid STATUS leaves it before its lock bit is looked at. -/
theorem State.statusSeen_link (s : State) (l : Nat) (p : Bytes) : ((s.bcSeen l).statusKept l p).link l
    = ({ s.link l with lastPkt := s.tempo, train := s.bcTrain l } : Link).reports p := by
  rw [State.statusKept_link, State.bcSeen_link]

theorem State.linkDown_statusTaken (h : s.BcHere l) (hu : (s.link l).state = .up) (hb : bit (leAt p 1 1) 0 = false) (f : Nat) :
    StatusTaken l p s (((s.bcSeen l).statusKept l p).linkDown l 0x0612 f) := by
  have ho : ((s.bcSeen l).statusKept l p).objHere (obj clsVL l) = true :=
    ((State.statusKept_objHere _ _ _ _).trans ((s.bcSeen_linksOnly l).objHere _)).trans (objHere_obj (by decide) (by have := h.lt; omega) h.served)
  obtain ⟨hlink, hlatched, -⟩ := State.linkDown_parts ho 0x0612 f
  rw [State.statusSeen_link] at hlink
  refine ⟨by rw [hlink]; rfl, by rw [hlink]; rfl, by rw [hlink]; rfl, fun _ _ => ⟨by rw [hlink], hlatched⟩,
    fun _ hb' => absurd (hb.symm.trans hb') (by decide), fun r ht => absurd (hu.symm.trans ht) (by decide)⟩

theorem State.lockSeen_statusTaken (hx : ¬((s.link l).state = .up ∧ bit (leAt p 1 1) 0 = false)) :
    StatusTaken l p s (((s.bcSeen l).statusKept l p).lockSeen l (bit (leAt p 1 1) 0)) := by
  have hu := s.statusSeen_link l p
  have htempo : ((s.bcSeen l).statusKept l p).tempo = s.tempo := (State.statusKept_tempo _ _ _).trans (s.bcSeen_linksOnly l).tempo
  generalize (s.bcSeen l).statusKept l p = u at hu htempo
  have hat : ∀ r', s.bcTrain l = some r' → r'.step = 4 → r'.fail = 0 → r'.ilk = false → s.tempo ≤ r'.since + 50000 → u.trainAt l 4 = true :=
    fun r' hr' hk hf hi hs => State.trainAt_iff.2 ⟨r', by rw [hu]; exact hr', hk, hf, hi, .inr (by rw [htempo]; exact hs)⟩
  cases hb : bit (leAt p 1 1) 0 with
  | false =>
    rw [State.lockSeen_waits (.inr rfl)]
    refine ⟨by rw [hu]; rfl, by rw [hu]; rfl, by rw [hu]; rfl, fun h _ => absurd ⟨h, hb⟩ hx, fun _ h => absurd (hb.symm.trans h) (by decide),
      fun r _ hr h34 => ⟨fun h => absurd (hb.symm.trans h) (by decide), fun _ => ?_⟩⟩
    obtain ⟨r', hr', hk, -⟩ := State.bcTrain_waits hr h34
    exact ⟨r', by rw [hu]; exact hr', hk, by rw [hu]; rfl⟩
  | true =>
    by_cases h4 : u.trainAt l 4 = true
    · have hlink := State.lockSeen_link h4
      rw [hu, htempo] at hlink
      refine ⟨by rw [hlink]; rfl, by rw [hlink]; rfl, by rw [hlink]; rfl, fun _ h => absurd (hb.symm.trans h) (by decide),
        fun h _ => by rw [hlink]; exact h, fun r _ hr h34 => ⟨fun _ => ?_, fun h => absurd (hb.symm.trans h) (by decide)⟩⟩
      obtain ⟨r', hr', -, -, -, -, he⟩ := State.bcTrain_waits hr h34
      rw [hlink, ← he]
      exact ⟨congrArg (Option.map _) hr', rfl⟩
    · rw [State.lockSeen_waits (.inl (Bool.eq_false_iff.2 h4))]
      refine ⟨by rw [hu]; rfl, by rw [hu]; rfl, by rw [hu]; rfl, fun _ h => absurd (hb.symm.trans h) (by decide),
        fun h _ => by rw [hu]; exact h, fun r _ hr h34 => ?_⟩
      obtain ⟨r', hr', hk, hf, hi, hs, -⟩ := State.bcTrain_waits hr h34
      exact absurd (hat r' hr' hk hf hi hs) h4

theorem execBcStatus_takes (h : s.BcHere l) (hlen : p.length = 8) (hcrc : crc8 (p.take 7) = leAt p 7 1) (ht : leAt p 0 1 = 1) :
    ∃ t, exec (.bcStatus l p) s = .next t ∧ StatusTaken l p s t := by
  refine ⟨_, execBcStatus_eq h hlen hcrc ht, ?_⟩
  rw [(s.bcSeen_stays l).state]
  split
  · next hx => exact State.linkDown_statusTaken h hx.1 (by simpa using hx.2) _
  · next hx => exact State.lockSeen_statusTaken (by simpa using hx)

end Sys2Proof.Machine

end

section
namespace Sys2Proof.Machine
open Sys2Proof Sys2Proof.Claims
variable {s t : State} {l k b : Nat} {p : Bytes} {r : Training} {lock : Bool}

/-! ### BC_MON (R225) -/

/-- A table that is written changes the sheet store alone. -/
theorem State.setTable_parts (s : State) (id i : Nat) (d : Bytes) : ∃ sheets, s.setTable id i d = { s with sheets := sheets } := ⟨_, rfl⟩

/-- A measured value changes the ageing table alone. -/
theorem State.age_parts (s : State) (off v : Nat) : ∃ sheets, s.age off v = { s with sheets := sheets } := by
  obtain ⟨sh, h⟩ := s.setTable_parts 0x09 0 (pokeBytes s.ageing off (toLE 4 v))
  unfold State.age State.setAgeField
  rw [h]
  dsimp only
  split <;> exact State.setTable_parts _ _ _ _

theorem State.beam_ite_age (s : State) (c : Prop) [Decidable c] (off v j : Nat) : (if c then s.age off v else s).beam j = s.beam j := by
  obtain ⟨sheets, he⟩ := s.age_parts off v
  rw [he]
  split <;> rfl

theorem State.objHere_ite_age (s : State) (c : Prop) [Decidable c] (off v o : Nat) :
    (if c then s.age off v else s).objHere o = s.objHere o := by
  obtain ⟨sheets, he⟩ := s.age_parts off v
  rw [he]
  split <;> rfl

/-- The sample that a MON packet brings. -/
def State.sampleOf (s : State) (l : Nat) (p : Bytes) : Sample :=
  { tempo := s.edgeTempo (l / 4) (leAt p 5 2), code := leAt p 2 1 % 32, power := leAt p 3 2 % 4096 }

/-- A sample at the upper code lies outside its beam's window. -/
def State.outsideWindow (s : State) (n b : Nat) (e : Sample) : Prop := e.code = s.par clsSTN n 0x095
  ∧ (e.power < field (s.par clsBEAM b 0x003) 0 12 ∨ field (s.par clsBEAM b 0x003) 16 12 < e.power)

theorem LinksOnly.beam (h : LinksOnly s t) (k : Nat) : t.beam k = s.beam k := by
  obtain ⟨ls, out, rfl⟩ := h
  rfl

theorem LinksOnly.inService (h : LinksOnly s t) (c i : Nat) : t.inService c i = s.inService c i := by
  obtain ⟨ls, out, rfl⟩ := h
  rfl

theorem LinksOnly.sampleOf (h : LinksOnly s t) (l : Nat) (p : Bytes) : t.sampleOf l p = s.sampleOf l p := by
  obtain ⟨ls, out, rfl⟩ := h
  rfl

theorem LinksOnly.outsideWindow (h : LinksOnly s t) (n b : Nat) (e : Sample) : t.outsideWindow n b e ↔ s.outsideWindow n b e := by
  obtain ⟨ls, out, rfl⟩ := h
  rfl

theorem LinksOnly.params (h : LinksOnly s t) : t.params = s.params := by
  obtain ⟨ls, out, rfl⟩ := h
  rfl

/-- What a MON packet does with its sample: the beam keeps it, and 0x0631 reports it where it lies outside the window. -/
theorem execBcMon_eq (h : s.BcHere l) (hlen : p.length = 8) (hcrc : crc8 (p.take 7) = leAt p 7 1) (ht : leAt p 0 1 = 2)
    (hb : b = 8 * l + leAt p 1 1 % 8) (hs : (s.bcSeen l).inService clsBEAM b = true) : ∃ u : State,
      (u.beam b).samples = ((s.bcSeen l).sampleOf l p :: ((s.bcSeen l).beam b).samples).take 4 ∧ (∀ o, u.objHere o = (s.bcSeen l).objHere o)
      ∧ (¬(s.bcSeen l).outsideWindow (l / 4) b ((s.bcSeen l).sampleOf l p) → exec (.bcMon l p) s = .next u)
      ∧ ((s.bcSeen l).outsideWindow (l / 4) b ((s.bcSeen l).sampleOf l p) → exec (.bcMon l p) s
        = .next (u.raise { code := 0x0631, obj := obj clsBEAM b, fields := [obj clsBEAM b, leAt p 2 1 % 32, leAt p 3 2 % 4096] })) := by
  have hx := State.bcPacket_valid h hlen hcrc ht
  generalize s.bcSeen l = v at hs hx
  subst hb
  show ∃ u : State, _ ∧ _ ∧ (_ → execBcMon l p s = _) ∧ (_ → execBcMon l p s = _)
  unfold execBcMon
  rw [h.at_]
  dsimp only
  rw [hx, hs, if_neg (by decide)]
  refine ⟨_, ?_, fun o => ?_, fun hw => congrArg _ (if_neg hw), fun hw => congrArg _ (if_pos hw)⟩
  · exact congrArg Beam.samples ((State.beam_ite_age _ _ _ _ _).trans ((State.setBeam_get _ _ _ _).trans (if_pos rfl)))
  · exact State.objHere_ite_age _ _ _ _ _

theorem execBcMon_samples (h : s.BcHere l) (hlen : p.length = 8) (hcrc : crc8 (p.take 7) = leAt p 7 1) (ht : leAt p 0 1 = 2)
    (hb : b = 8 * l + leAt p 1 1 % 8) (hs : s.inService clsBEAM b = true) : ∃ t, exec (.bcMon l p) s = .next t
      ∧ (t.beam b).samples = (s.sampleOf l p :: (s.beam b).samples).take 4
      ∧ (s.outsideWindow (l / 4) b (s.sampleOf l p) →
        Raised t 0x0631 (obj clsBEAM b) [obj clsBEAM b, (s.sampleOf l p).code, (s.sampleOf l p).power]) := by
  have hlinks := s.bcSeen_linksOnly l
  obtain ⟨u, hsamples, hobj, hin, hout⟩ := execBcMon_eq h hlen hcrc ht hb ((hlinks.inService _ _).trans hs)
  rw [hlinks.sampleOf, hlinks.beam] at hsamples
  rw [hlinks.outsideWindow, hlinks.sampleOf] at hin hout
  have hhere : u.objHere (obj clsBEAM b) = true := by
    rw [hobj, hlinks.objHere]
    exact objHere_obj (by decide) (by have := h.lt; omega) hs
  by_cases hw : s.outsideWindow (l / 4) b (s.sampleOf l p)
  · exact ⟨_, hout hw, by rw [State.raise_beam]; exact hsamples, fun _ => State.raised_raise hhere⟩
  · exact ⟨u, hin hw, hsamples, fun h => absurd h hw⟩

/-! ### BC_LINE_LOST (R218) -/

theorem State.raiseLimited_faults_of_latch_nil (s : State) {e : Ev} (h : e.latch = []) (period sub : Nat) (cf : Bool) :
    (s.raiseLimited e period sub cf).faults = s.faults := by
  unfold State.raiseLimited
  split
  · extract_lets k r due set fs
    split
    · exact State.raise_faults_of_latch_nil _ h
    · rfl
  · rfl

theorem State.spoil_faults (s : State) (k n cause line : Nat) : (s.spoil k n cause line).faults = s.faults := by
  obtain ⟨h, -⟩ | ⟨e, he, h⟩ := s.spoil_cases k n cause line
  · rw [h]
  · rw [h]
    exact State.raise_faults_of_latch_nil _ he

theorem execBcLineLost_counts (h : s.BcHere l) (hlen : p.length = 8) (hcrc : crc8 (p.take 7) = leAt p 7 1) (ht : leAt p 0 1 = 3) :
    ∃ t, exec (.bcLineLost l p) s = .next t ∧ t.faults = s.faults ∧ t.link l = { (s.bcSeen l).link l with
      linesLost := satAdd 32 (s.link l).linesLost ((List.range 8).filter (fun f => bit (leAt p 3 1) f)).length } := by
  have hx := State.bcPacket_valid h hlen hcrc ht
  have hfaults := (s.bcSeen_linksOnly l).faults
  have hlost : ((s.bcSeen l).link l).linesLost = (s.link l).linesLost := by rw [State.bcSeen_link]
  generalize s.bcSeen l = u at hx hfaults hlost
  show ∃ t, execBcLineLost l p s = _ ∧ _
  unfold execBcLineLost
  rw [h.at_]
  dsimp only
  rw [hx, ← hfaults, ← hlost]
  refine ⟨_, rfl, ?_, ?_⟩
  · split
    · rw [State.spoil_faults]
      exact State.raiseLimited_faults_of_latch_nil _ (by rfl) _ _ _
    · exact State.raiseLimited_faults_of_latch_nil _ (by rfl) _ _ _
  · split
    · rw [State.spoil_link]
      exact (State.raiseLimited_link _ _ _ _ _ _).trans ((State.setLink_get _ _ _ _).trans (if_pos rfl))
    · exact (State.raiseLimited_link _ _ _ _ _ _).trans ((State.setLink_get _ _ _ _).trans (if_pos rfl))

/-! ### BC_MGMT_RSP (Table 9-4) -/

/-- The answer to a management read of address 0 is the driver's version. -/
def State.versioned (s : State) (l : Nat) (p : Bytes) : State :=
  if leAt p 1 2 = 0 then s.updLink l (fun x => { x with drv := leAt p 3 3 }) else s

/-- The training run of a link goes on with the answer to a management read. -/
def State.mgmtTaken (s : State) (l : Nat) (p : Bytes) : State :=
  if s.trainAt l 5 && leAt p 1 2 == 0 then
    if Config.drvMajor (leAt p 3 3) = 1 then (s.trainNext l 5).mgmtRead l 1 else s.updTrain l (fun t => { t with fail := 4 })
  else if s.trainAt l 6 && leAt p 1 2 == 1 then (s.link l).train.elim s (s.trainRead l)
  else s

theorem execBcMgmtRsp_eq (h : s.BcHere l) (hlen : p.length = 8) (hcrc : crc8 (p.take 7) = leAt p 7 1) (ht : leAt p 0 1 = 4) :
    exec (.bcMgmtRsp l p) s = .next (((s.bcSeen l).versioned l p).mgmtTaken l p) := by
  have hx := State.bcPacket_valid h hlen hcrc ht
  generalize s.bcSeen l = u at hx
  show execBcMgmtRsp l p s = _
  unfold execBcMgmtRsp
  rw [h.at_]
  refine congrArg _ ((hx _).trans ?_)
  unfold State.mgmtTaken State.versioned
  dsimp only
  generalize (if leAt p 1 2 = 0 then u.updLink l (fun x => { x with drv := leAt p 3 3 }) else u) = v
  cases (v.link l).train <;> rfl

theorem State.versioned_link (s : State) (l : Nat) (p : Bytes) : (s.versioned l p).link l
    = { s.link l with drv := if leAt p 1 2 = 0 then leAt p 3 3 else (s.link l).drv } := by
  unfold State.versioned
  split
  · exact (State.updLink_get _ _ _ _).trans (if_pos rfl)
  · rfl

theorem State.versioned_linksOnly (s : State) (l : Nat) (p : Bytes) : LinksOnly s (s.versioned l p) := by
  unfold State.versioned
  split
  · exact s.updLink_linksOnly _ _
  · exact .refl s

theorem State.mgmtTaken_stays (s : State) (l : Nat) (p : Bytes) : LinkStays l s (s.mgmtTaken l p) := by
  unfold State.mgmtTaken
  split
  · split
    · exact (s.trainNext_stays _ _).trans (State.mgmtRead_stays _ _ _)
    · exact s.updTrain_stays _ _
  · split
    · cases (s.link l).train with
      | none => exact ⟨.refl s, rfl, rfl⟩
      | some r => exact s.trainRead_stays _ _
    · exact ⟨.refl s, rfl, rfl⟩

theorem State.mgmtTaken_version (h5 : s.trainAt l 5 = true) (ha : leAt p 1 2 = 0) : s.mgmtTaken l p
    = if Config.drvMajor (leAt p 3 3) = 1 then (s.trainNext l 5).mgmtRead l 1 else s.updTrain l (fun t => { t with fail := 4 }) := by
  unfold State.mgmtTaken
  rw [if_pos (by simp [h5, ha])]

theorem State.mgmtTaken_read (h6 : s.trainAt l 6 = true) (ha : leAt p 1 2 = 1) (hr : (s.link l).train = some r) :
    s.mgmtTaken l p = s.trainRead l r := by
  unfold State.mgmtTaken
  rw [if_neg (by simp [ha]), if_pos (by simp [h6, ha]), hr]
  rfl

/-- What MGMT_RSP works on: the link refreshed and its driver's version taken. -/
theorem State.versionSeen_parts (s : State) (l : Nat) (p : Bytes) : LinksOnly s ((s.bcSeen l).versioned l p)
    ∧ ((s.bcSeen l).versioned l p).link l = { s.link l with
        lastPkt := s.tempo, train := s.bcTrain l, drv := if leAt p 1 2 = 0 then leAt p 3 3 else (s.link l).drv } := by
  refine ⟨(s.bcSeen_linksOnly l).trans (State.versioned_linksOnly _ _ _), ?_⟩
  rw [State.versioned_link, State.bcSeen_link]

/-- What the answer of a version does with the training run of its link. -/
theorem State.train_of_versionRead (hr : (s.link l).train = some r) (h5 : s.trainAt l 5 = true) (ha : leAt p 1 2 = 0) :
    (Config.drvMajor (leAt p 3 3) = 1 → ((((s.bcSeen l).versioned l p).mgmtTaken l p).link l).train = some { r with step := 6, since := s.tempo }
      ∧ ((((s.bcSeen l).versioned l p).mgmtTaken l p).link l).slot0 = (s.link l).slot0 ++ [ctlBlock 0x87 [1, 1, 0]])
    ∧ (Config.drvMajor (leAt p 3 3) ≠ 1 → ((((s.bcSeen l).versioned l p).mgmtTaken l p).link l).train = some { r with fail := 4 }
      ∧ ((((s.bcSeen l).versioned l p).mgmtTaken l p).link l).slot0 = (s.link l).slot0) := by
  obtain ⟨hlinks, hlink⟩ := s.versionSeen_parts l p
  rw [State.bcTrain_of_not (State.trainAt_of_ne h5 (by decide))] at hlink
  generalize (s.bcSeen l).versioned l p = u at hlinks hlink
  have h5 : u.trainAt l 5 = true := (State.trainAt_congr (by rw [hlink]) hlinks.tempo).trans h5
  rw [State.mgmtTaken_version h5 ha]
  refine ⟨fun hm => ?_, fun hm => ?_⟩
  · rw [if_pos hm, State.mgmtRead, State.sendBlock_link, State.trainNext_link, hlink, hlinks.tempo]
    exact ⟨congrArg (Option.map _) hr, rfl⟩
  · rw [if_neg hm, State.updTrain_link, hlink]
    exact ⟨congrArg (Option.map _) hr, rfl⟩

/-- What an answered round trip does with the training run of its link. -/
theorem State.train_of_roundTripRead {n : Nat} (hr : (s.link l).train = some r) (h6 : s.trainAt l 6 = true) (ha : leAt p 1 2 = 1)
    (hn : n = max r.rtt (s.tempo - r.sentAt.getD s.tempo)) :
    let t := ((s.bcSeen l).versioned l p).mgmtTaken l p
    (r.reads < 15 → (t.link l).train = some (r.read n) ∧ (t.link l).slot0 = (s.link l).slot0 ++ [ctlBlock 0x87 [1, 1, 0]])
    ∧ (15 ≤ r.reads → n ≤ 400 → (t.link l).train = some { r.read n with step := 7, since := s.tempo }
      ∧ (s.par clsSTN (l / 4) (0x06c + l % 4) = 1 → (t.link l).pxWait = true))
    ∧ (15 ≤ r.reads → 400 < n → (t.link l).train = some { r.read n with fail := 5 }) := by
  obtain ⟨hlinks, hlink⟩ := s.versionSeen_parts l p
  rw [State.bcTrain_of_not (State.trainAt_of_ne h6 (by decide))] at hlink
  generalize (s.bcSeen l).versioned l p = u at hlinks hlink
  have h6 : u.trainAt l 6 = true := (State.trainAt_congr (by rw [hlink]) hlinks.tempo).trans h6
  have hr : (u.link l).train = some r := by rw [hlink]; exact hr
  have hslot : (u.link l).slot0 = (s.link l).slot0 := by rw [hlink]
  rw [← hlinks.tempo] at hn
  rw [State.mgmtTaken_read h6 ha hr, ← hlinks.tempo, ← hslot, ← par_congr hlinks.params]
  refine ⟨fun h => ?_, State.trainRead_last hr hn, State.trainRead_slow hr hn⟩
  rw [State.trainRead_more hr hn h]
  exact ⟨rfl, rfl⟩

/-! ### BC_EMITTER_FAULT (R226) -/

/-- Each of several raised events latches its code on the objects that it names. -/
theorem State.latched_foldl_raise {α : Type} (f : α → Ev) {x : α} {xs : List α} (hx : x ∈ xs) (ho : s.objHere (f x).obj = true)
    {o : Nat} (hm : o ∈ (f x).latch) (hh : s.objHere o = true) : (xs.foldl (fun v y => v.raise (f y)) s).latched (f x).code o = true := by
  obtain ⟨ys, zs, rfl⟩ := List.append_of_mem hx
  rw [List.foldl_append, List.foldl_cons]
  have hhere := foldl_keeps (fun v => (v.die, v.removed)) (f := fun v y => v.raise (f y))
    (fun v y => Prod.ext (State.raise_die v (f y)) (State.raise_removed v (f y))) ys s
  obtain ⟨hd, hr⟩ := Prod.mk.inj hhere
  exact (Steady.foldl (fun v y => v.raise_steady (f y)) zs _).toOnward.latched
    (State.latched_raise ((State.objHere_congr hd hr _).trans ho) ((State.objHere_congr hd hr _).trans hh) hm)

theorem execBcEmitterFault_latches (h : s.BcHere l) (hlen : p.length = 8) (hcrc : crc8 (p.take 7) = leAt p 7 1) (ht : leAt p 0 1 = 5) :
    ∃ t, exec (.bcEmitterFault l p) s = .next t ∧ t.link l = (s.bcSeen l).link l
      ∧ (∀ f, f < 8 → bit (leAt p 1 1) f = true → s.objHere (obj clsBEAM (8 * l + f)) = true →
        t.latched 0x0630 (obj clsBEAM (8 * l + f)) = true) := by
  have hx := State.bcPacket_valid h hlen hcrc ht
  have hlinks := s.bcSeen_linksOnly l
  generalize s.bcSeen l = u at hx hlinks
  show ∃ t, execBcEmitterFault l p s = _ ∧ _
  unfold execBcEmitterFault
  rw [h.at_]
  dsimp only
  rw [hx]
  refine ⟨_, rfl, foldl_keeps (fun (v : State) => v.link l) (fun _ _ => State.raise_link _ _ _) _ _, fun f hf hb ho => ?_⟩
  have ho : u.objHere (obj clsBEAM (8 * l + f)) = true := (hlinks.objHere _).trans ho
  exact State.latched_foldl_raise
    (fun f => { code := 0x0630, obj := obj clsBEAM (8 * l + f), fields := [obj clsBEAM (8 * l + f), leAt p 2 1]
                latch := [obj clsBEAM (8 * l + f)] }) (x := f) (List.mem_filter.2 ⟨List.mem_range.2 hf, hb⟩) ho (List.mem_singleton.2 rfl) ho

end Sys2Proof.Machine

namespace Sys2Proof.Proofs
open Sys2Proof Sys2Proof.Machine Sys2Proof.Claims

/-- Settles O40, a lemma for each kind of packet. -/
theorem theBackchannelReportsItsDriver : Obligations.TheBackchannelReportsItsDriver := by
  refine ⟨fun s l p hat hlt hserv => ?_, fun s l hat hlt ho hu hn => ?_, fun m s h hm hn => execBeamMonitor_answers h hm hn⟩
  · have h : s.BcHere l := ⟨hat, hlt, hserv⟩
    refine ⟨exec_bcCommands_damaged h, fun hlen hcrc => ⟨fun ht => ?_, fun b ht hb hs => ?_, fun ht => ?_, fun ht => ?_, fun ht => ?_⟩⟩
    case refine_1 =>
      obtain ⟨t, hexec, htaken⟩ := execBcStatus_takes h hlen hcrc ht
      exact ⟨t, hexec, htaken.status, htaken.ctlErr, htaken.lastPkt, htaken.unlocked, htaken.locked, htaken.goesOn⟩
    case refine_2 =>
      obtain ⟨t, hexec, hsamples, hraised⟩ := execBcMon_samples h hlen hcrc ht hb hs
      exact ⟨t, s.sampleOf l p, hexec, hsamples, rfl, rfl, rfl, fun hc hp => hraised ⟨hc, hp⟩⟩
    case refine_3 =>
      obtain ⟨t, hexec, hfaults, hlink⟩ := execBcLineLost_counts h hlen hcrc ht
      exact ⟨t, hexec, by rw [hlink], by rw [hlink]; exact (s.bcSeen_stays l).state, hfaults⟩
    case refine_4 =>
      obtain ⟨hlinks, hlink⟩ := s.versionSeen_parts l p
      have hstays := ((s.bcSeen l).versioned l p).mgmtTaken_stays l p
      refine ⟨_, execBcMgmtRsp_eq h hlen hcrc ht, by rw [hstays.state, hlink], (hlinks.trans hstays.links).faults,
        fun ha => ⟨by rw [hstays.drv, hlink]; exact if_pos ha, fun r hr h5 => State.train_of_versionRead hr h5 ha⟩,
        fun r n ha hr h6 hn => ⟨?_, State.train_of_roundTripRead hr h6 ha hn⟩⟩
      rw [hstays.drv, hlink]
      exact if_neg (by omega)
    case refine_5 =>
      obtain ⟨t, hexec, hlink, hlatched⟩ := execBcEmitterFault_latches h hlen hcrc ht
      exact ⟨t, hexec, by rw [hlink, State.bcSeen_link], hlatched⟩
  · obtain ⟨hlink, hlatched, hother⟩ := State.linkDown_parts ho 0x0613 (s.link l).lastPkt
    exact ⟨_, execBackchannelLost_down hat hlt hu hn, by rw [hlink], hlatched, hother⟩

end Sys2Proof.Proofs
end

section
namespace Sys2Proof.Machine
open Sys2Proof Sys2Proof.Claims
variable {s t : State} {n k j half : Nat} {m : Msg}

/-! ### STATION_ENABLE (R235) -/

/-- A station whose facet timing starts, without memory of an earlier run. -/
def Station.seeks (x : Station) : Station := { (({} : Station)) with
  enabled := true, sync := .seeking, seek := true, outOn := x.outOn
  stray := x.stray, queue := x.queue, qBase := x.qBase, qEnd := x.qEnd, qFloor := x.qFloor, swath := x.swath }

/-- Facet timing starts, with the VPLL at the held nominal ratio and 0x0d22 where the chip's grade does not carry it. -/
def State.seekBegun (s : State) (o n : Nat) : State :=
  let r0 := s.holdRatio n (s.rNom n)
  let u1 := (s.setStation n (s.station n).seeks).updPll (8 + n) (fun p => { p with ratio := r0 })
  if (250 - 25 * s.therm.grade) * 1000000 < s.out4Hz n r0 then
    u1.raise { code := 0x0d22, obj := o, fields := [o, s.out4Hz n r0, s.therm.grade] } else u1

/-- What STATION_ENABLE asks of its message and of the station that it names (R235). -/
structure State.MayEnable (s : State) (m : Msg) : Prop where
  takes : Takes 0x0700 m 0 0xffffffff00000000 s
  mode : s.md.mode ∈ [Mode.standby, .warmUp, .ready]
  names : Names (m.argN 8 4) [clsSTN] s
  beam : s.inService clsBEAM (32 * aIdx (m.argN 8 4) + s.par clsSTN (aIdx (m.argN 8 4)) 0x008) = true
  fits : s.enableBad (aIdx (m.argN 8 4)) = false
  ilkA : s.video.ilkA = false
  ilkB : s.video.ilkB = false
  unsealed : s.participates (m.argN 8 4) = false

theorem execStationEnable_eq (h : s.MayEnable m) : exec (.stationEnable m) s = .next (
    if (s.station (aIdx (m.argN 8 4))).enabled then s.ok (s.replyOf 0x0700 m)
    else ((s.seekBegun (m.argN 8 4) (aIdx (m.argN 8 4))).regChange (aIdx (m.argN 8 4)) (s.regVal (aIdx (m.argN 8 4)))).ok
      (s.replyOf 0x0700 m)) := by
  obtain ⟨ht, hm, hn, hb, hf, hA, hB, hp⟩ := h
  obtain ⟨-, hat, hlen, hr, -⟩ := id ht
  show execStationEnable m s = _
  unfold execStationEnable
  rw [hat]
  refine congrArg _ ((State.command_of_takes ht ?_ _).trans rfl)
  rw [Msg.plen_nil hlen, Msg.argRes_nil hr, State.inModes_nil hm, State.objRefs_nil hn, hb, hf, hA, hB, hp]
  rfl

/-- A change of st.reg.ok is reported by one event, or there is none. -/
theorem State.regChange_cases (s : State) (n : Nat) (was : Bool) : s.regChange n was = s ∨ ∃ e, s.regChange n was = s.raise e := by
  unfold State.regChange
  dsimp only
  split
  · exact .inr ⟨_, rfl⟩
  · split
    · exact .inr ⟨_, rfl⟩
    · exact .inl rfl

theorem State.regChange_video (s : State) (n : Nat) (was : Bool) : (s.regChange n was).video = s.video := by
  obtain h | ⟨e, h⟩ := s.regChange_cases n was
  · rw [h]
  · rw [h, State.raise_video]

theorem State.regChange_clk (s : State) (n : Nat) (was : Bool) : (s.regChange n was).clk = s.clk := by
  obtain h | ⟨e, h⟩ := s.regChange_cases n was
  · rw [h]
  · rw [h, State.raise_clk]

theorem State.regChange_rises (h : s.regVal n = true) : s.regChange n false
    = s.raise { code := 0x0711, obj := obj clsSTN n, fields := [obj clsSTN n] } := by
  unfold State.regChange
  rw [h]
  rfl

/-- Stations and links lie in the video path, PLLs and gearing units in the clocks. -/
theorem State.station_of_video (h : t.video = s.video) (j : Nat) : t.station j = s.station j := by
  unfold State.station
  rw [h]

theorem State.link_of_video (h : t.video = s.video) (j : Nat) : t.link j = s.link j := by
  unfold State.link
  rw [h]

theorem State.pll_of_clk (h : t.clk = s.clk) (j : Nat) : t.pll j = s.pll j := by
  unfold State.pll
  rw [h]

theorem State.gear_of_clk (h : t.clk = s.clk) (o : Nat) : t.gear o = s.gear o := by
  unfold State.gear
  rw [h]

theorem State.seekBegun_cases (s : State) (o n : Nat) : ∃ u, u = (s.setStation n (s.station n).seeks).updPll (8 + n)
    (fun p => { p with ratio := s.holdRatio n (s.rNom n) }) ∧ (s.seekBegun o n = u ∨ ∃ e, s.seekBegun o n = u.raise e) := by
  refine ⟨_, rfl, ?_⟩
  unfold State.seekBegun
  dsimp only
  split
  · exact .inr ⟨_, rfl⟩
  · exact .inl rfl

/-- What is there of the station, the others, its VPLL and the gearing units when facet timing has started. -/
theorem State.seekBegun_parts (s : State) (o n : Nat) : (∀ k, (s.seekBegun o n).station k = if k = n then (s.station n).seeks else s.station k)
    ∧ ((s.seekBegun o n).pll (8 + n)).ratio = s.holdRatio n (s.rNom n) ∧ (∀ k, (s.seekBegun o n).gear k = s.gear k)
    ∧ (∀ k, (s.seekBegun o n).objHere k = s.objHere k) := by
  obtain ⟨u, hu, hx⟩ := s.seekBegun_cases o n
  have hparts : (s.seekBegun o n).video = u.video ∧ (s.seekBegun o n).clk = u.clk ∧ (s.seekBegun o n).die = u.die
      ∧ (s.seekBegun o n).removed = u.removed := by
    rcases hx with hx | ⟨e, hx⟩ <;> rw [hx]
    · exact ⟨rfl, rfl, rfl, rfl⟩
    · exact ⟨State.raise_video _ _, State.raise_clk _ _, State.raise_die _ _, State.raise_removed _ _⟩
  obtain ⟨hv, hc, hd, hr⟩ := hparts
  refine ⟨fun k => ?_, ?_, fun k => ?_, fun k => ?_⟩
  · rw [State.station_of_video hv, hu]
    exact State.setStation_get _ _ _ _
  · rw [State.pll_of_clk hc, hu, State.updPll_get, if_pos rfl]
  · rw [State.gear_of_clk hc, hu]
    rfl
  · rw [State.objHere_congr hd hr, hu]
    rfl

theorem execStationEnable_starts (h : s.MayEnable m) {o : Nat} (ho : o = m.argN 8 4) (hn : n = aIdx o)
    (he : (s.station n).enabled = false) : ∃ t, exec (.stationEnable m) s = .next t
      ∧ (∀ k, t.station k = if k = n then (s.station n).seeks else s.station k) ∧ (t.pll (8 + n)).ratio = s.holdRatio n (s.rNom n)
      ∧ ((s.station n).sync = .off → (s.gear o).master = 0 → o = obj clsSTN n → Raised t 0x0711 o [o]) := by
  have hexec := execStationEnable_eq h
  rw [← ho, ← hn, he, if_neg (by decide)] at hexec
  obtain ⟨hstation, hpll, hgear, hhere⟩ := s.seekBegun_parts o n
  generalize s.seekBegun o n = u at hexec hstation hpll hgear hhere
  refine ⟨_, hexec, fun k => ?_, ?_, fun hs hg ho' => ?_⟩
  · rw [State.ok_eq, State.post_station, State.station_of_video (State.regChange_video _ _ _), hstation]
  · rw [State.ok_eq, State.post_pll, State.pll_of_clk (State.regChange_clk _ _ _), hpll]
  · have hwas : s.regVal n = false := by simp [State.regVal, hs]
    have hnow : u.regVal n = true := by
      unfold State.regVal
      rw [hstation, if_pos rfl, hgear, ← ho', hg]
      rfl
    have hobj : u.objHere (obj clsSTN n) = true := by
      obtain ⟨-, -, -, hin⟩ := h.names
      rw [hhere, ← ho', ho]
      exact hin
    rw [hwas, State.regChange_rises hnow, ho']
    exact State.raised_raise_ok hobj (Nat.ne_of_beq_eq_false rfl) _ _

/-! ### Links that go DOWN (R221) -/

/-- A link that is no longer UP, with its PX low and nothing to send. -/
def Link.idled (x : Link) : Link :=
  { x.pxOff.quiet with state := if x.state = .up then .down else x.state, lineDue := false }

/-- A link has its PX low and, where it was UP, is DOWN. -/
structure IdleFrom (x y : Link) : Prop where
  pxOn : y.pxOn = false
  state : y.state = if x.state = .up then .down else x.state

theorem Link.idled_idleFrom (x : Link) : IdleFrom x x.idled := ⟨rfl, rfl⟩

theorem IdleFrom.idled {x y : Link} (h : IdleFrom x y) : IdleFrom x y.idled := by
  refine ⟨rfl, ?_⟩
  show (if y.state = .up then .down else y.state) = _
  rw [h.state]
  split <;> simp_all

theorem State.linkIdle_link (s : State) (l j : Nat) : (s.linkIdle l).link j = if j = l then (s.link j).idled else s.link j := by
  unfold State.linkIdle
  rw [State.updLink_get]
  split
  · next h => rw [h, State.stopPx_link, if_pos rfl]; rfl
  · next h => rw [State.stopPx_link, if_neg h]

theorem State.linkIdle_linksOnly (s : State) (l : Nat) : LinksOnly s (s.linkIdle l) :=
  (s.stopPx_linksOnly l).trans (State.updLink_linksOnly _ _ _)

/-- Links that lie one behind the other go DOWN. -/
theorem State.foldl_linkIdle_link (s : State) (b c j : Nat) : ((List.range c).foldl (fun u k => u.linkIdle (b + k)) s).link j
    = if b ≤ j ∧ j < b + c then (s.link j).idled else s.link j := by
  rw [← List.foldl_map (f := (b + ·)) (g := State.linkIdle),
    State.foldl_link s (R := fun _ => True) (g := fun _ x => x.idled) (fun _ _ _ => trivial) (fun u l j _ => u.linkIdle_link l j)
      (List.nodup_range.map (fun _ _ h => by omega)) trivial]
  refine if_congr ?_ rfl rfl
  simp only [List.mem_map, List.mem_range]
  exact ⟨fun ⟨k, hk, hj⟩ => by omega, fun h => ⟨j - b, by omega, by omega⟩⟩

theorem State.foldl_linkIdle_linksOnly (s : State) (b c : Nat) :
    LinksOnly s ((List.range c).foldl (fun u k => u.linkIdle (b + k)) s) := .foldl s (fun u k => u.linkIdle_linksOnly (b + k)) _

/-! ### Clocks that no station uses (R42) -/

theorem LinksOnly.station (h : LinksOnly s t) (k : Nat) : t.station k = s.station k := by
  obtain ⟨ls, out, rfl⟩ := h
  rfl

theorem LinksOnly.pll (h : LinksOnly s t) (k : Nat) : t.pll k = s.pll k := by
  obtain ⟨ls, out, rfl⟩ := h
  rfl

theorem State.gateBlpll_busy (hk : k / 4 = half) (h : (s.station k).enabled = true) : s.gateBlpll half = s := by
  refine if_pos (Bool.or_eq_true_iff.2 (.inl (List.any_eq_true.2 ⟨k % 4, List.mem_range.2 (by omega), ?_⟩)))
  rwa [← hk, Nat.div_add_mod]

/-- A BLPLL that is gated is off, and the links of its half go DOWN. -/
theorem State.gateBlpll_gates (h : ∀ k, k / 4 = half → (s.station k).enabled = false) (hp : (s.pll (3 + half)).state ≠ .off) :
    ((s.gateBlpll half).pll (3 + half)).state = .off ∧ ∀ j, j / 16 = half → (s.gateBlpll half).link j = (s.link j).idled := by
  have hany : ((List.range 4).any (fun k => (s.station (4 * half + k)).enabled) || (s.pll (3 + half)).state == .off) = false := by
    simp only [Bool.or_eq_false_iff, List.any_eq_false, List.mem_range, beq_eq_false_iff_ne]
    exact ⟨fun k hk => Bool.eq_false_iff.1 (h _ (by omega)), hp⟩
  unfold State.gateBlpll
  rw [hany, if_neg (by decide)]
  refine ⟨by rw [State.updPll_get, if_pos rfl], fun j hj => ?_⟩
  rw [State.updPll_link, State.foldl_linkIdle_link, if_pos (by omega)]

/-- What a gated BLPLL leaves. -/
theorem State.gateBlpll_leaves (s : State) (half : Nat) : (∀ k, (s.gateBlpll half).station k = s.station k)
    ∧ (∀ k, k ≠ 3 + half → (s.gateBlpll half).pll k = s.pll k) ∧ (∀ j, j / 16 ≠ half → (s.gateBlpll half).link j = s.link j)
    ∧ (∀ x j, IdleFrom x (s.link j) → IdleFrom x ((s.gateBlpll half).link j)) := by
  have hlinks := s.foldl_linkIdle_linksOnly (16 * half) 16
  unfold State.gateBlpll
  split
  · exact ⟨fun _ => rfl, fun _ _ => rfl, fun _ _ => rfl, fun _ _ h => h⟩
  · refine ⟨fun k => ?_, fun k hk => ?_, fun j hj => ?_, fun x j hx => ?_⟩
    · rw [State.updPll_station, hlinks.station]
    · rw [State.updPll_get, if_neg hk, hlinks.pll]
    · rw [State.updPll_link, State.foldl_linkIdle_link, if_neg (by omega)]
    · rw [State.updPll_link, State.foldl_linkIdle_link]
      split
      · exact hx.idled
      · exact hx

/-! ### STATION_DISABLE (R236) -/

/-- A station that is switched off. -/
def Station.switchedOff (x : Station) : Station := { (({} : Station)) with
  outOn := x.outOn, err := x.err
  stray := x.stray, queue := x.queue, qBase := x.qBase, qEnd := x.qEnd, qFloor := x.qFloor, swath := x.swath }

/-- A station is switched off, with its links and its VPLL. -/
def State.stationOff (s : State) (n : Nat) : State :=
  let s1 := (List.range 4).foldl (fun u r => u.linkIdle (4 * n + r)) s
  ((s1.setStation n (s1.station n).switchedOff).regChange n (s.regVal n)).updPll (8 + n)
    (fun l => { (({} : Pll)) with subst := l.subst })

/-- What becomes of the stations, the links and the PLLs when a station is switched off. -/
theorem State.stationOff_parts (s : State) (n : Nat) :
    (∀ k, (s.stationOff n).station k = if k = n then (s.station n).switchedOff else s.station k)
    ∧ ((s.stationOff n).pll (8 + n)).state = .off ∧ (∀ k, k ≠ 8 + n → (s.stationOff n).pll k = s.pll k)
    ∧ (∀ j, (s.stationOff n).link j = if j / 4 = n then (s.link j).idled else s.link j) := by
  have hlinks := s.foldl_linkIdle_linksOnly (4 * n) 4
  have hlink := s.foldl_linkIdle_link (4 * n) 4
  unfold State.stationOff
  dsimp only
  generalize (List.range 4).foldl (fun u r => u.linkIdle (4 * n + r)) s = u at hlinks hlink
  refine ⟨fun k => ?_, ?_, fun k hk => ?_, fun j => ?_⟩
  · rw [State.updPll_station, State.station_of_video (State.regChange_video _ _ _), State.setStation_get, hlinks.station, hlinks.station]
  · rw [State.updPll_get, if_pos rfl]
  · rw [State.updPll_get, if_neg hk, State.pll_of_clk (State.regChange_clk _ _ _), State.setStation_pll, hlinks.pll]
  · rw [State.updPll_link, State.link_of_video (State.regChange_video _ _ _), State.setStation_link, hlink]
    exact if_congr (by omega) rfl rfl

/-- A POLY tile that goes to OBSERVER leaves the video path and the clocks. -/
theorem State.polyToObserver_keeps (s : State) (k : Nat) :
    (s.polyToObserver k).video = s.video ∧ (s.polyToObserver k).clk = s.clk := by
  have hto : ∀ u : State, ∀ st, (u.polyTo k st).video = u.video ∧ (u.polyTo k st).clk = u.clk := by
    intro u st
    unfold State.polyTo
    dsimp only
    split
    · exact ⟨rfl, rfl⟩
    · exact ⟨State.raise_video _ _, State.raise_clk _ _⟩
  unfold State.polyToObserver
  split
  · exact hto _ _
  · exact hto _ _
  · exact ⟨rfl, rfl⟩

/-- The POLY tile of a station that is switched off goes to OBSERVER. -/
def State.polyFreed (s : State) (n : Nat) : State := match s.polyTile n with
  | some k => s.polyToObserver k
  | none => s

theorem State.polyFreed_keeps (s : State) (n : Nat) : (s.polyFreed n).video = s.video ∧ (s.polyFreed n).clk = s.clk := by
  unfold State.polyFreed
  split
  · exact s.polyToObserver_keeps _
  · exact ⟨rfl, rfl⟩

theorem State.disableStation_eq (s : State) (n : Nat) :
    s.disableStation n = ((s.stationOff n).gateBlpll (n / 4)).polyFreed n := rfl

/-- What STATION_DISABLE leaves of a state: facet timing OFF, the station's links idle, its VPLL off, and the BLPLL of its half as
the half's other stations need it. -/
structure StationDisabled (n : Nat) (s t : State) : Prop where
  station : ∀ k, t.station k = if k = n then (s.station n).switchedOff else s.station k
  vpll : (t.pll (8 + n)).state = .off
  own : ∀ j, j / 4 = n → IdleFrom (s.link j) (t.link j)
  busy : (∃ k, k ≠ n ∧ k / 4 = n / 4 ∧ (s.station k).enabled = true) →
    t.pll (3 + n / 4) = s.pll (3 + n / 4) ∧ ∀ j, j / 4 ≠ n → t.link j = s.link j
  unused : (∀ k, k ≠ n → k / 4 = n / 4 → (s.station k).enabled = false) → (s.pll (3 + n / 4)).state ≠ .off →
    (t.pll (3 + n / 4)).state = .off ∧ ∀ j, j / 16 = n / 4 → IdleFrom (s.link j) (t.link j)
  far : ∀ j, j / 16 ≠ n / 4 → t.link j = s.link j

/-- The BLPLL of a half is none of the VPLLs. -/
theorem blpll_ne_vpll (hn : n < 8) : 3 + n / 4 ≠ 8 + n := by omega

theorem State.gateBlpll_disabled (hn : n < 8) : StationDisabled n s ((s.stationOff n).gateBlpll (n / 4)) := by
  obtain ⟨hstation, hvpll, hpll, hlink⟩ := s.stationOff_parts n
  generalize s.stationOff n = u at hstation hvpll hpll hlink
  obtain ⟨hgstation, hgpll, hgfar, hgidle⟩ := u.gateBlpll_leaves (n / 4)
  have hblpll : u.pll (3 + n / 4) = s.pll (3 + n / 4) := hpll _ (blpll_ne_vpll hn)
  have hidle : ∀ j, j / 4 = n → IdleFrom (s.link j) (u.link j) := fun j hj => by
    rw [hlink, if_pos hj]; exact (s.link j).idled_idleFrom
  refine ⟨fun k => (hgstation k).trans (hstation k), ?_, fun j hj => hgidle _ _ (hidle j hj), ?_, fun hoff hp => ?_, fun j hj => ?_⟩
  · rw [hgpll _ (blpll_ne_vpll hn).symm, hvpll]
  · rintro ⟨k, hk, hhalf, hon⟩
    rw [State.gateBlpll_busy hhalf (by rw [hstation, if_neg hk]; exact hon)]
    exact ⟨hblpll, fun j hj => by rw [hlink, if_neg hj]⟩
  · have hall : ∀ k, k / 4 = n / 4 → (u.station k).enabled = false := fun k hk => by
      rw [hstation]
      split
      · rfl
      · next hne => exact hoff k hne hk
    obtain ⟨hstate, hidled⟩ := State.gateBlpll_gates hall (by rw [hblpll]; exact hp)
    refine ⟨hstate, fun j hj => ?_⟩
    rw [hidled j hj, hlink]
    split
    · exact (s.link j).idled_idleFrom.idled
    · exact (s.link j).idled_idleFrom
  · rw [hgfar j hj, hlink, if_neg (by omega)]

theorem StationDisabled.of_eq {u : State} (h : StationDisabled n s t) (hv : u.video = t.video) (hc : u.clk = t.clk) :
    StationDisabled n s u := by
  have hs := State.station_of_video hv
  have hl := State.link_of_video hv
  have hp := State.pll_of_clk hc
  obtain ⟨h1, h2, h3, h4, h5, h6⟩ := h
  exact ⟨fun k => (hs k).trans (h1 k), hp _ ▸ h2, fun j hj => hl j ▸ h3 j hj,
    fun hx => ⟨(hp _).trans (h4 hx).1, fun j hj => (hl j).trans ((h4 hx).2 j hj)⟩,
    fun hx hy => ⟨hp _ ▸ (h5 hx hy).1, fun j hj => hl j ▸ (h5 hx hy).2 j hj⟩, fun j hj => (hl j).trans (h6 j hj)⟩

theorem execStationDisable_disables (h : Takes 0x0701 m 0 0xffffffff00000000 s) {o : Nat} (ho : o = m.argN 8 4) (hi : n = aIdx o)
    (hn : Names o [clsSTN] s) (hp : s.participates o = false) : ∃ t, exec (.stationDisable m) s = .next t ∧ StationDisabled n s t := by
  subst ho hi
  have hexec : exec (.stationDisable m) s = .next ((s.disableStation (aIdx (m.argN 8 4))).ok (s.replyOf 0x0701 m)) := by
    obtain ⟨-, hat, hlen, hr, -⟩ := id h
    show execStationDisable m s = _
    unfold execStationDisable
    rw [hat]
    refine congrArg _ (State.command_of_takes h ?_ _)
    rw [Msg.plen_nil hlen, Msg.argRes_nil hr, State.objRefs_nil hn, hp]
    rfl
  have hlt : aIdx (m.argN 8 4) < 8 := by
    obtain ⟨-, hc, hi, -⟩ := hn
    rw [List.mem_singleton.1 hc] at hi
    exact hi
  obtain ⟨hv, hc⟩ := ((s.stationOff (aIdx (m.argN 8 4))).gateBlpll (aIdx (m.argN 8 4) / 4)).polyFreed_keeps (aIdx (m.argN 8 4))
  exact ⟨_, hexec, ((State.gateBlpll_disabled hlt).of_eq hv hc).of_eq (by rw [State.ok_eq, State.post_video, State.disableStation_eq])
    (by rw [State.ok_eq, State.post_clk, State.disableStation_eq])⟩

/-! ### PROMOTE (R208) -/

/-- Only a spare is promoted. -/
theorem State.lt_spares_of_promoted {b : Nat} (h : s.role n b = .promoted) : b < s.spares n := by
  unfold State.role at h
  split at h
  · cases h
  · split at h
    · assumption
    · split at h <;> cases h

/-- The promotions that PROMOTE leaves: a spare's own address takes it off the list. -/
def State.promoted (s : State) (p q : Nat) (back : Bool) : State :=
  { s with promotions := if back then s.promotions.filter (fun e => e.1 != p) else s.promotions ++ [(p, q)] }

/-- What PROMOTE asks of its message and of the two beams that it names (R208). -/
structure State.MayPromote (s : State) (m : Msg) : Prop where
  takes : Takes 0x0111 m 0 0 s
  mode : s.md.mode ∈ modesCfSb
  spare : Names (m.argN 8 4) [clsBEAM] s
  partner : Names (m.argN 12 4) [clsBEAM] s
  disabled : (s.station (aIdx (m.argN 8 4) / 32)).enabled = false

theorem execPromote_eq (h : s.MayPromote m) {a p q : Nat} {back : Bool} (ha : a = m.argN 8 4) (hp : p = aIdx a)
    (hq : q = p + s.scanL (p / 32)) (hb : back = decide (a = m.argN 12 4)) (hs : p % 32 < s.spares (p / 32))
    (hpartner : back = false → aIdx (m.argN 12 4) = q)
    (hrole : if back then s.role (p / 32) (p % 32) = .promoted
      else s.role (p / 32) (p % 32) = .spare ∧ s.role (p / 32) (q % 32) = .imaging) :
    exec (.promote m) s = .next (((s.promoted p q back).raise
      { code := 0x0640, obj := a, fields := [a, obj clsBEAM q, b2n (!back)] }).ok (s.replyOf 0x0111 m)) := by
  obtain ⟨ht, hm, hn1, hn2, hd⟩ := h
  obtain ⟨-, hat, hlen, -, -⟩ := id ht
  show execPromote m s = _
  unfold execPromote
  rw [hat]
  subst hp hq hb
  rw [← ha] at hn1 hd
  dsimp only
  rw [← ha]
  refine congrArg _ (State.command_of_takes ht ?_ _)
  rw [Msg.plen_nil hlen, State.inModes_nil hm, State.objRefs_nil hn1, State.objRefs_nil hn2, hd]
  cases hback : decide (a = m.argN 12 4) with
  | true =>
    rw [hback, if_pos rfl] at hrole
    simp [refuse, hrole, Nat.not_le.2 hs]
  | false =>
    rw [hback, if_neg (by decide)] at hrole
    have hq := hpartner hback
    simp [refuse, hrole.1, hq, hrole.2, Nat.not_le.2 hs]

end Sys2Proof.Machine

namespace Sys2Proof.Proofs
open Sys2Proof Sys2Proof.Machine Sys2Proof.Claims

/-- Settles O48. -/
theorem stationsAreEnabledDisabledAndPromoted : Obligations.StationsAreEnabledDisabledAndPromoted := by
  intro m s o n ho hn
  refine ⟨fun hnames hp => ⟨fun ht hm hb hf hA hB => ?_, fun ht => ?_⟩, fun b st ht hm hnames hb hnamesb hst hd => ?_⟩
  case refine_1 =>
    have h : s.MayEnable m := by subst ho hn; exact ⟨ht, hm, hnames, hb, hf, hA, hB, hp⟩
    refine ⟨fun he => ?_, fun he => ?_⟩
    · rw [execStationEnable_eq h, ← ho, ← hn, if_pos he]
    · obtain ⟨t, hexec, hstation, hratio, hraised⟩ := execStationEnable_starts h ho hn he
      have hself : t.station n = (s.station n).seeks := (hstation n).trans (if_pos rfl)
      exact ⟨t, hexec, by rw [hself]; rfl, by rw [hself]; rfl, by rw [hself]; rfl, by rw [hself]; rfl, by rw [hself]; rfl,
        by rw [hself]; rfl, hratio, hraised, fun k hk => (hstation k).trans (if_neg hk)⟩
  case refine_2 =>
    obtain ⟨t, hexec, hoff⟩ := execStationDisable_disables ht ho hn hnames hp
    have hself : t.station n = (s.station n).switchedOff := (hoff.station n).trans (if_pos rfl)
    refine ⟨t, hexec, by rw [hself]; rfl, by rw [hself]; rfl, hoff.vpll, fun k hk => (hoff.station k).trans (if_neg hk), fun r hr => ?_,
      hoff.busy, fun hx hy => ⟨(hoff.unused hx hy).1, fun j hj => ?_⟩, hoff.far⟩
    · exact ⟨(hoff.own _ (by omega)).pxOn, (hoff.own _ (by omega)).state⟩
    · exact ⟨((hoff.unused hx hy).2 j hj).pxOn, ((hoff.unused hx hy).2 j hj).state⟩
  case refine_3 =>
    subst hst hb
    have h : s.MayPromote m := by subst ho hn; exact ⟨ht, hm, hnames, hnamesb, hd⟩
    have hhere : ∀ q back, (s.promoted n q back).objHere o = true := fun q back => by
      obtain ⟨-, -, -, hin⟩ := hnames
      exact hin
    refine ⟨fun hne hq hs hspare hpartner => ?_, fun heq hrole => ?_⟩
    · refine ⟨_, execPromote_eq h (back := false) ho hn hq (by simp [hne]) hs (fun _ => rfl) ⟨hspare, hpartner⟩, ?_,
        State.raised_raise_ok (hhere _ _) (Nat.ne_of_beq_eq_false rfl) _ _⟩
      rw [State.ok_eq, State.post_promotions, State.raise_promotions]
      rfl
    · refine ⟨_, execPromote_eq h (back := true) ho hn rfl (by simp [heq]) (State.lt_spares_of_promoted hrole) nofun hrole, ?_,
        State.raised_raise_ok (hhere _ _) (Nat.ne_of_beq_eq_false rfl) _ _⟩
      rw [State.ok_eq, State.post_promotions, State.raise_promotions]
      rfl

end Sys2Proof.Proofs
end

section
namespace Sys2Proof.Machine
open Sys2Proof Sys2Proof.Claims
variable {s t u : State} {n : Nat}

/-! ### What a change of state leaves of a station (Table 10-3) -/

theorem State.regChange_steady (s : State) (n : Nat) (was : Bool) : Steady s (s.regChange n was) := by
  obtain h | ⟨e, h⟩ := s.regChange_cases n was
  · rw [h]; exact .refl s
  · rw [h]; exact s.raise_steady e

theorem State.dropReg_steady (s : State) (n : Nat) : Steady s (s.dropReg n) :=
  Steady.trans (t := s.updStation n (fun t => { t with regOk := false, oks := [] })) (.of_eq rfl) (State.regChange_steady _ _ _)

theorem State.polyToObserver_steady (s : State) (k : Nat) : Steady s (s.polyToObserver k) := by
  have hto (u : State) (f : PolySt → PolySt) (hu : Steady s u) : Steady s ((u.updPoly k f).polyTo k .observer) :=
    hu.trans (Steady.trans (t := u.updPoly k f) (.of_eq rfl) (State.polyTo_steady _ _ _))
  unfold State.polyToObserver
  split
  · exact hto s.fresh.2 _ (.of_eq rfl)
  · exact hto s.fresh.2 _ (.of_eq rfl)
  · exact .refl s

theorem State.polyFreed_steady (s : State) (n : Nat) : Steady s (s.polyFreed n) := by
  unfold State.polyFreed
  split
  · exact s.polyToObserver_steady _
  · exact .refl s

/-- A station that leaves LOCKED loses its registration. -/
def State.unlocked (s : State) (n : Nat) (st : Sync) : State :=
  if (s.station n).sync = .locked ∧ st ≠ .locked then s.dropReg n else s

/-- A station in another state of facet timing, before its event. -/
def State.syncSet (s : State) (n : Nat) (st : Sync) : State :=
  (s.unlocked n st).updStation n (fun t => { t with sync := st, lockRun := if st = .seeking then 0 else t.lockRun })

/-- The event of a new state of facet timing, or none for code 0. -/
def State.syncRaised (s : State) (n code : Nat) (fields : List Nat) (sheet : Bool) : State :=
  if code = 0 then s
  else s.raise { code := code, obj := obj clsSTN n, fields := obj clsSTN n :: fields, sheet := sheet }

/-- A change of state: with its event, and from LOCKED to SEEKING the POLY tile goes to OBSERVER. -/
theorem State.syncTo_eq (s : State) (n : Nat) (st : Sync) (code : Nat) (fields : List Nat) : ∃ u sheet,
    u = (s.syncSet n st).syncRaised n code fields sheet ∧ (s.syncTo n st code fields = u ∨ s.syncTo n st code fields = u.polyFreed n) := by
  refine ⟨_, code ≠ 0x0701 && s.scanSheet n, rfl, ?_⟩
  unfold State.syncTo State.syncSet State.unlocked State.syncRaised
  simp only [decide_eq_true_eq]
  split
  · exact .inr rfl
  · exact .inl rfl

theorem State.unlocked_steady (s : State) (n : Nat) (st : Sync) : Steady s (s.unlocked n st) := .ite (s.dropReg_steady n) (.refl s)

theorem State.syncSet_steady (s : State) (n : Nat) (st : Sync) : Steady s (s.syncSet n st) :=
  (s.unlocked_steady n st).trans (.of_eq rfl)

theorem State.syncRaised_steady (s : State) (n code : Nat) (fields : List Nat) (sheet : Bool) :
    Steady s (s.syncRaised n code fields sheet) :=
  .ite (.refl s) (s.raise_steady _)

theorem State.syncTo_steady (s : State) (n : Nat) (st : Sync) (code : Nat) (fields : List Nat) : Steady s (s.syncTo n st code fields) := by
  obtain ⟨u, sheet, rfl, h | h⟩ := s.syncTo_eq n st code fields <;> rw [h]
  · exact (s.syncSet_steady n st).trans (State.syncRaised_steady _ _ _ _ _)
  · exact ((s.syncSet_steady n st).trans (State.syncRaised_steady _ _ _ _ _)).trans (State.polyFreed_steady _ _)

theorem State.unlocked_station (s : State) (n : Nat) (st : Sync) :
    ∃ ok oks, (s.unlocked n st).station n = { s.station n with regOk := ok, oks := oks } := by
  unfold State.unlocked
  split
  · refine ⟨false, [], ?_⟩
    unfold State.dropReg
    rw [State.station_of_video (State.regChange_video _ _ _), State.updStation_get, if_pos rfl]
  · exact ⟨_, _, rfl⟩

theorem State.syncRaised_video (s : State) (n code : Nat) (fields : List Nat) (sheet : Bool) :
    (s.syncRaised n code fields sheet).video = s.video := by
  unfold State.syncRaised
  split
  · rfl
  · rw [State.raise_video]

/-- A change of state changes of the station its state, its run of good periods and its registration. -/
theorem State.syncTo_station (s : State) (n : Nat) (st : Sync) (code : Nat) (fields : List Nat) : ∃ run ok oks,
    (s.syncTo n st code fields).station n = { s.station n with sync := st, lockRun := run, regOk := ok, oks := oks } := by
  obtain ⟨ok, oks, h⟩ := s.unlocked_station n st
  have hset : ∃ run, (s.syncSet n st).station n = { s.station n with sync := st, lockRun := run, regOk := ok, oks := oks } := by
    unfold State.syncSet
    rw [State.updStation_get, if_pos rfl, h]
    exact ⟨_, rfl⟩
  obtain ⟨run, hset⟩ := hset
  refine ⟨run, ok, oks, ?_⟩
  obtain ⟨u, sheet, rfl, h | h⟩ := s.syncTo_eq n st code fields <;> rw [h]
  · rw [State.station_of_video (State.syncRaised_video _ _ _ _ _), hset]
  · rw [State.station_of_video (State.polyFreed_keeps _ _).1, State.station_of_video (State.syncRaised_video _ _ _ _ _), hset]

theorem State.regChange_objHere (s : State) (n : Nat) (was : Bool) (o : Nat) : (s.regChange n was).objHere o = s.objHere o := by
  obtain h | ⟨e, h⟩ := s.regChange_cases n was
  · rw [h]
  · rw [h]; exact State.raise_inService _ _ _ _

theorem State.syncSet_objHere (s : State) (n : Nat) (st : Sync) (o : Nat) : (s.syncSet n st).objHere o = s.objHere o := by
  unfold State.syncSet State.unlocked
  split
  · exact (State.regChange_objHere _ _ _ _).trans rfl
  · rfl

/-- A change of state with a code is reported. -/
theorem State.raised_syncTo {code : Nat} (h : s.objHere (obj clsSTN n) = true) (h0 : code ≠ 0) (hc : code ≠ 0x0c12) (st : Sync)
    (fields : List Nat) : Raised (s.syncTo n st code fields) code (obj clsSTN n) (obj clsSTN n :: fields) := by
  obtain ⟨u, sheet, rfl, hto⟩ := s.syncTo_eq n st code fields
  have hraised : Raised ((s.syncSet n st).syncRaised n code fields sheet) code (obj clsSTN n) (obj clsSTN n :: fields) := by
    unfold State.syncRaised
    rw [if_neg h0]
    exact State.raised_raise ((State.syncSet_objHere _ _ _ _).trans h)
  rcases hto with hto | hto <;> rw [hto]
  · exact hraised
  · exact (State.polyFreed_steady _ _).toOnward.raised hc hraised

/-! ### What follows from a decision leaves the decision (R240) -/

/-- What a station holds of the facet that was decided last: all of the rest is empty. -/
def Station.decision (x : Station) : Station := { (({} : Station)) with
  facet := x.facet, raw := x.raw, since := x.since, missed := x.missed, bModel := x.bModel
  decTempo := x.decTempo, boundary := x.boundary, bdAt := x.bdAt }

theorem Station.decision_fields {x y : Station} (h : x.decision = y.decision) : x.bModel = y.bModel ∧ x.raw = y.raw ∧ x.since = y.since
    ∧ x.missed = y.missed ∧ x.facet = y.facet ∧ x.decTempo = y.decTempo ∧ x.boundary = y.boundary ∧ x.bdAt = y.bdAt := by
  simpa [Station.decision] using h

/-- From `s` to `t` events have been added, and station `n` holds the facet decided last as it did. -/
structure DecisionKept (n : Nat) (s t : State) : Prop extends Steady s t where
  decision : (t.station n).decision = (s.station n).decision

/-- The same, and the station has not become LOCKED. -/
structure FacetKept (n : Nat) (s t : State) : Prop extends DecisionKept n s t where
  unlocked : (s.station n).sync ≠ .locked → (t.station n).sync ≠ .locked

theorem DecisionKept.trans (h : DecisionKept n s t) (k : DecisionKept n t u) : DecisionKept n s u :=
  ⟨h.toSteady.trans k.toSteady, k.decision.trans h.decision⟩

theorem FacetKept.trans (h : FacetKept n s t) (k : FacetKept n t u) : FacetKept n s u :=
  ⟨h.toDecisionKept.trans k.toDecisionKept, fun hs => k.unlocked (h.unlocked hs)⟩

theorem FacetKept.of_station (h : Steady s t) (hs : t.station n = s.station n) : FacetKept n s t :=
  ⟨⟨h, by rw [hs]⟩, fun hl => by rwa [hs]⟩

theorem FacetKept.refl (s : State) : FacetKept n s s := .of_station (.refl s) rfl

theorem FacetKept.foldl {α : Type} {f : State → α → State} (hf : ∀ u x, FacetKept n u (f u x)) (xs : List α) (s : State) :
    FacetKept n s (xs.foldl f s) :=
  foldl_pred (P := FacetKept n s) (fun u x h => h.trans (hf u x)) (.refl s)

theorem FacetKept.ite {c : Prop} [Decidable c] (h : FacetKept n s t) (k : FacetKept n s u) : FacetKept n s (if c then t else u) := by
  split
  · exact h
  · exact k

/-- A station written with the same decision and state. -/
theorem State.setStation_facetKept {x : Station} (h : x.decision = (s.station n).decision) (hl : x.sync = (s.station n).sync) :
    FacetKept n s (s.setStation n x) := by
  have hx : (s.setStation n x).station n = x := (State.setStation_get _ _ _ _).trans (if_pos rfl)
  exact ⟨⟨.of_eq rfl, by rw [hx, h]⟩, fun hs => by rwa [hx, hl]⟩

theorem State.updStation_facetKept (s : State) {f : Station → Station} (hf : ∀ x, (f x).decision = x.decision)
    (hl : ∀ x, (f x).sync = x.sync) : FacetKept n s (s.updStation n f) := State.setStation_facetKept (hf _) (hl _)

theorem State.raise_facetKept (s : State) (e : Ev) : FacetKept n s (s.raise e) := .of_station (s.raise_steady e) (s.raise_station e n)

theorem State.raiseLimited_facetKept (s : State) (e : Ev) (period sub : Nat) (cf : Bool) :
    FacetKept n s (s.raiseLimited e period sub cf) :=
  .of_station (s.raiseLimited_steady e period sub cf) (s.raiseLimited_station e period sub cf n)

theorem State.regChange_facetKept (s : State) (k : Nat) (was : Bool) : FacetKept n s (s.regChange k was) :=
  .of_station (s.regChange_steady k was) (State.station_of_video (s.regChange_video k was) n)

theorem State.syncTo_decisionKept (s : State) (n : Nat) (st : Sync) (code : Nat) (fields : List Nat) :
    DecisionKept n s (s.syncTo n st code fields) := by
  obtain ⟨run, ok, oks, h⟩ := s.syncTo_station n st code fields
  exact ⟨s.syncTo_steady n st code fields, by rw [h]; rfl⟩

theorem State.syncTo_facetKept {st : Sync} (hst : st ≠ .locked) (s : State) (n : Nat) (code : Nat) (fields : List Nat) :
    FacetKept n s (s.syncTo n st code fields) := by
  obtain ⟨run, ok, oks, h⟩ := s.syncTo_station n st code fields
  exact ⟨s.syncTo_decisionKept n st code fields, fun _ => by rw [h]; exact hst⟩

theorem State.addBlank_facetKept (s : State) (tk st k : Nat) : FacetKept n s (s.addBlank tk st k) := .of_station (.of_eq rfl) rfl

theorem State.spoil_facetKept (s : State) (tk st cause line : Nat) : FacetKept n s (s.spoil tk st cause line) :=
  .of_station (s.spoil_steady tk st cause line) (s.spoil_station tk st cause line n)

/-! ### Images at a decision (R251, R238) -/

theorem State.endImage_facetKept (s : State) (n tk : Nat) : FacetKept n s (s.endImage n tk) :=
  (State.setStation_facetKept (by rfl) (by rfl)).trans (State.setStation_facetKept (by rfl) (by rfl))

theorem State.cutImage_facetKept (s : State) (n new : Nat) : FacetKept n s (s.cutImage n new) := by
  unfold State.cutImage
  split
  · exact .refl s
  · exact (((s.addBlank_facetKept _ _ _).trans (State.spoil_facetKept _ _ _ _ _)).trans (State.endImage_facetKept _ _ _)).trans
      (State.raise_facetKept _ _)

theorem State.beginImage_facetKept (s : State) (n tk : Nat) : FacetKept n s (s.beginImage n tk) := by
  have hraised (e : Ev) : FacetKept n s ((s.cutImage n tk).raise e) := (s.cutImage_facetKept n tk).trans (State.raise_facetKept _ _)
  unfold State.beginImage
  refine .ite (hraised _) ((hraised _).trans (State.setStation_facetKept ?_ ?_))
  · rw [State.raise_station]; rfl
  · rw [State.raise_station]

theorem State.nextScan_facetKept (s : State) (n : Nat) : FacetKept n s (s.nextScan n) := by
  unfold State.nextScan
  extract_lets x s1 due s2
  have h1 : FacetKept n s s1 := by
    unfold s1
    split
    · exact .refl s
    · exact .ite (s.endImage_facetKept n _) (State.setStation_facetKept (by rfl) (by rfl))
  have h2 : FacetKept n s1 s2 := s1.updStation_facetKept (fun _ => rfl) (fun _ => rfl)
  have hbegin (u : State) (e : Idx × Tempo) : FacetKept n u (u.beginImage n e.1) := u.beginImage_facetKept n e.1
  exact (h1.trans h2).trans (FacetKept.foldl hbegin due s2)

theorem State.coastCheck_facetKept (s : State) (n : Nat) : FacetKept n s (s.coastCheck n) := by
  unfold State.coastCheck
  extract_lets coast s1
  have h1 : FacetKept n s s1 := s.updStation_facetKept (fun _ => rfl) (fun _ => rfl)
  split
  · exact h1
  · exact .ite (h1.trans ((s1.addBlank_facetKept _ _ _).trans (State.spoil_facetKept _ _ _ _ _))) h1

/-! ### The POLY tile of a station (R249) -/

theorem State.updPoly_facetKept (s : State) (k : Nat) (f : PolySt → PolySt) : FacetKept n s (s.updPoly k f) := .of_station (.of_eq rfl) rfl

theorem State.polyTo_station (s : State) (k : Nat) (st : Poly) (j : Nat) : (s.polyTo k st).station j = s.station j := by
  unfold State.polyTo
  dsimp only
  split
  · rfl
  · rw [State.raise_station]; rfl

theorem State.polyTo_facetKept (s : State) (k : Nat) (st : Poly) : FacetKept n s (s.polyTo k st) :=
  .of_station (s.polyTo_steady k st) (s.polyTo_station k st n)

theorem State.polyToObserver_facetKept (s : State) (k : Nat) : FacetKept n s (s.polyToObserver k) :=
  .of_station (s.polyToObserver_steady k) (State.station_of_video (s.polyToObserver_keeps k).1 n)

theorem State.polyEdge_facetKept (s : State) (n : Nat) (ok : Bool) : FacetKept n s (s.polyEdge n ok) := by
  have hupd (u : State) (k : Nat) (f : PolySt → PolySt) (h : FacetKept n s u) : FacetKept n s (u.updPoly k f) := h.trans (u.updPoly_facetKept k f)
  have hto (u : State) (k : Nat) (st : Poly) (h : FacetKept n s u) : FacetKept n s (u.polyTo k st) := h.trans (u.polyTo_facetKept k st)
  unfold State.polyEdge
  split
  · exact .refl s
  · next k _ =>
    dsimp only
    split
    · exact .ite (hto _ _ _ (hupd _ _ _ (hupd _ _ _ (.refl s)))) (.refl s)
    · exact .ite (hto _ _ _ (hupd _ _ _ (hupd _ _ _ (.refl s)))) (hupd _ _ _ (.refl s))
    · have hfresh (u : State) (h : FacetKept n s u) : FacetKept n s u.fresh.2 := h.trans (.of_station (.of_eq rfl) rfl)
      have hinteg (f g : PolySt → PolySt) := hupd _ k g (hfresh _ (hupd s k f (.refl s)))
      exact .ite ((hinteg _ _).trans (State.raiseLimited_facetKept _ _ _ _ _)) (hinteg _ _)
    · exact .refl s

theorem State.polyMiss_facetKept (s : State) (n : Nat) (blanked lost : Bool) : FacetKept n s (s.polyMiss n blanked lost) := by
  unfold State.polyMiss
  split
  · exact .refl s
  · next k _ =>
    dsimp only
    generalize hu : s.updPoly k _ = u
    have h : FacetKept n s u := hu ▸ s.updPoly_facetKept k _
    split
    · exact .ite (h.trans (u.polyToObserver_facetKept k)) (.ite (h.trans (u.polyTo_facetKept k _)) (h.trans (u.polyTo_facetKept k _)))
    · exact .ite (h.trans (u.polyToObserver_facetKept k)) (.ite (h.trans (u.polyTo_facetKept k _)) h)
    · exact .refl s

end Sys2Proof.Machine
end

section
namespace Sys2Proof.Machine
open Sys2Proof Sys2Proof.Claims
variable {s t u : State} {n raw : Nat} {p : Int} {e : Bool}

/-! ### Decisions (R240, R242) -/

/-- A station that decides its facet now, with the model timestamp `b`. -/
def Station.decides (x : Station) (b : Int) (now : Tempo) : Station := { x with bModel := some b, decTempo := now, boundary := true }

/-- From `s` to `t` events have been added, and station `n` has decided its facet with the model timestamp `b`. -/
structure FacetDecided (n : Nat) (b : Int) (s t : State) : Prop extends Steady s t where
  decision : (t.station n).decision = ((s.station n).decides b s.tempo).decision
  unlocked : (s.station n).sync ≠ .locked → (t.station n).sync ≠ .locked

theorem FacetDecided.trans {b : Int} (h : FacetDecided n b s t) (k : FacetKept n t u) : FacetDecided n b s u :=
  ⟨h.toSteady.trans k.toSteady, k.decision.trans h.decision, fun hs => k.unlocked (h.unlocked hs)⟩

theorem FacetDecided.setStation {b : Int} {x : Station} (hx : x.decision = ((s.station n).decides b s.tempo).decision)
    (hl : x.sync = (s.station n).sync) : FacetDecided n b s (s.setStation n x) := by
  have hself : (s.setStation n x).station n = x := (State.setStation_get _ _ _ _).trans (if_pos rfl)
  exact ⟨.of_eq rfl, by rw [hself, hx], fun hs => by rwa [hself, hl]⟩

theorem State.decideFacet_decides (s : State) (n : Nat) (b : Int) (i : Nat) : FacetDecided n b s (s.decideFacet n b i) := by
  unfold State.decideFacet
  extract_lets period sp ratio r s1 s2 s4 s3
  have h1 : FacetDecided n b s s1 := .setStation (by rfl) (by rfl)
  have h2 : FacetDecided n b s s2 := h1.trans (s1.updStation_facetKept (fun _ => rfl) (fun _ => rfl))
  have h4 : FacetDecided n b s s4 := h2.trans (State.raiseLimited_facetKept _ _ _ _ _)
  have h3 : FacetDecided n b s s3 := by
    unfold s3
    split
    · exact h2
    · exact h4.trans (.ite (State.syncTo_facetKept (st := .seeking) (by decide) _ _ _ _) (.refl s4))
  exact (h3.trans (State.nextScan_facetKept _ _)).trans (State.coastCheck_facetKept _ _)

/-! ### BD_EDGE_CAPTURE (R232, R233, R240) -/

theorem State.updStation_decisionKept (s : State) {f : Station → Station} (hf : ∀ x, (f x).decision = x.decision) :
    DecisionKept n s (s.updStation n f) := ⟨.of_eq rfl, by rw [State.updStation_get, if_pos rfl, hf]⟩

theorem State.edgeState_decisionKept (s : State) (n i : Nat) (p : Option Nat) : DecisionKept n s (s.edgeState n i p) := by
  have hkept {v : State} (h : FacetKept n s v) (st : Sync) (code : Nat) (fields : List Nat) : DecisionKept n s (v.syncTo n st code fields) :=
    h.toDecisionKept.trans (State.syncTo_decisionKept _ _ _ _ _)
  unfold State.edgeState
  extract_lets x ok run s1
  split
  · have h : FacetKept n s s1 := State.setStation_facetKept (by rfl) (by rfl)
    split
    · exact hkept h _ _ _
    · exact h.toDecisionKept
  · exact (hkept (.refl s) _ _ _).trans (State.updStation_decisionKept _ fun _ => rfl)
  · split
    · exact hkept (.refl s) _ _ _
    · exact hkept (.refl s) _ _ _
  · split
    · exact (FacetKept.refl s).toDecisionKept
    · exact hkept (.refl s) _ _ _
  · exact (FacetKept.refl s).toDecisionKept

theorem State.register_facetKept (s : State) (n : Nat) : FacetKept n s (s.register n) := by
  unfold State.register
  extract_lets g x
  split
  · exact .refl s
  · exact FacetKept.trans (State.setStation_facetKept (by rfl) (by rfl)) (State.regChange_facetKept _ _ _)

/-- The facet of an accepted edge inside its window: the next one, or facet 0 after an index edge or before the first facet of a
station without an index (R239, R240). -/
def State.edgeFacet (s : State) (n : Nat) : Nat :=
  if (s.station n).idxPend || (s.par clsSTN n 0x00f == 0 && !(s.station n).idxOk) then 0 else ((s.station n).facet + 1) % s.facets n

/-- A station whose window has its edge, of model timestamp `b`. -/
def Station.edged (x : Station) (facet raw : Nat) (b : Int) : Station :=
  { x with facet := facet, raw := raw, since := 0, missed := 0, bModel := some b }

theorem Station.decides_decision {x y : Station} (h : x.decision = y.decision) (b : Int) (now : Tempo) :
    (x.decides b now).decision = (y.decides b now).decision := congrArg (fun z : Station => z.decides b now) h

/-- An edge accepted inside its window: the station takes it, changes its state and registers, decides the facet, and passes it on to
its POLY tile. -/
theorem State.acceptEdge_eq (hs : (s.station n).seek = false) (raw : Nat) : ∃ (v : State) (p : Option Nat) (ok : Bool), v.tempo = s.tempo
    ∧ (v.station n).decision = ((s.station n).edged (s.edgeFacet n) raw (raw + s.bdCorr n (s.edgeFacet n))).decision
    ∧ s.acceptEdge n raw = (((v.edgeState n (s.edgeFacet n) p).register n).decideFacet n (raw + s.bdCorr n (s.edgeFacet n))
      (s.edgeFacet n)).polyEdge n ok := by
  unfold State.acceptEdge
  dsimp only
  rw [hs]
  refine ⟨_, _, _, ?_, ?_, rfl⟩
  · rfl
  · rw [State.setStation_get, if_pos rfl]
    rfl

/-- An edge accepted inside its window decides its facet with its corrected timestamp. -/
theorem State.acceptEdge_decides (hs : (s.station n).seek = false) (raw : Nat) : ∃ b, ((s.acceptEdge n raw).station n).decision
    = (((s.station n).edged (s.edgeFacet n) raw b).decides b s.tempo).decision := by
  obtain ⟨v, p, ok, hnow, hv, heq⟩ := State.acceptEdge_eq hs raw
  generalize hb : (raw + s.bdCorr n (s.edgeFacet n) : Int) = b at hv heq
  generalize s.edgeFacet n = i at hv heq ⊢
  have hkept := (v.edgeState_decisionKept n i p).trans (State.register_facetKept _ n).toDecisionKept
  generalize (v.edgeState n i p).register n = w at heq hkept
  have hdecided := (w.decideFacet_decides n b i).trans (State.polyEdge_facetKept _ n ok)
  rw [← heq] at hdecided
  refine ⟨b, ?_⟩
  rw [hdecided.decision, hkept.tempo, hnow]
  exact Station.decides_decision (hkept.decision.trans hv) _ _

/-- An edge of BD of the station's polarity is captured now, as the first of its tempo. -/
structure State.EdgeDue (s : State) (n : Nat) (e : Bool) (raw : Nat) : Prop where
  at_ : At s inCapture
  lt : n < 8
  on : s.scanOn n = true
  polarity : e = (s.par clsSTN n 0x005 == 0)
  now : ceilDiv raw 64 + 3 + s.par clsSTN n 0x006 = s.tempo
  first : (s.station n).bdAt ≠ some s.tempo

/-- The tempo of the capture is noted. -/
def State.captured (s : State) (n : Nat) : State := s.updStation n (fun t => { t with bdAt := some s.tempo })

theorem execBdEdgeCapture_of_no_edge (hat : At s inCapture)
    (h : e ≠ (s.par clsSTN n 0x005 == 0) ∨ ceilDiv raw 64 + 3 + s.par clsSTN n 0x006 ≠ s.tempo ∨ (s.station n).bdAt = some s.tempo) :
    exec (.bdEdgeCapture n ⟨e, raw⟩) s = .next s := by
  show execBdEdgeCapture n ⟨e, raw⟩ s = _
  unfold execBdEdgeCapture
  rw [hat]
  refine congrArg _ (if_neg ?_)
  simp only [Bool.and_eq_true, beq_iff_eq, bne_iff_ne]
  rintro ⟨⟨⟨-, hpol⟩, hnow⟩, hfirst⟩
  exact h.elim (· hpol) (·.elim (· (of_decide_eq_true hnow)) hfirst)

theorem execBdEdgeCapture_eq (h : s.EdgeDue n e raw) (hp : (s.station n).pred = some p) (hs : (s.station n).seek = false) :
    exec (.bdEdgeCapture n ⟨e, raw⟩) s = .next (if ((raw : Int) - p).natAbs ≤ s.halfWin n then (s.captured n).acceptEdge n raw
      else (s.captured n).strayEdge n) := by
  obtain ⟨hat, hlt, hon, hpol, hnow, hfirst⟩ := h
  show execBdEdgeCapture n ⟨e, raw⟩ s = _
  unfold execBdEdgeCapture
  rw [hat]
  dsimp only
  rw [if_pos (by simp [State.captureTempo, hlt, hon, hpol, hnow, hfirst])]
  refine congrArg _ (if_congr ?_ rfl rfl)
  simp only [State.updStation_get, if_pos, hp, hs, Option.isNone_some, Bool.or_false, Bool.false_eq_true, if_false]
  exact decide_eq_true_iff

/-- A stray edge is counted and changes nothing else of its station, the clocks and the drives. -/
theorem State.strayEdge_leaves (s : State) (n : Nat) : (s.strayEdge n).station n = { s.station n with stray := satAdd 32 (s.station n).stray 1 }
    ∧ (s.strayEdge n).drive = s.drive ∧ (s.strayEdge n).clk = s.clk := by
  unfold State.strayEdge
  refine ⟨?_, ?_, ?_⟩
  · rw [State.raiseLimited_station, State.updStation_get, if_pos rfl]
  · rw [State.raiseLimited_drive, State.updStation_drive]
  · rw [State.raiseLimited_clk, State.updStation_clk]

/-! ### BD_WINDOW_MISS (R236, R240, R241) -/

/-- A window that is not blanked, and that blanking had left in time, counts as a miss. -/
def State.missCounts (s : State) (n : Nat) (p : Int) : Bool := !s.video.blanked && decide ((64 * s.video.relAt : Nat) + (s.halfWin n : Int) ≤ p)

/-- The facet after the present one, and its model timestamp by whole periods from the last accepted edge. -/
def State.missFacet (s : State) (n : Nat) : Nat := ((s.station n).facet + 1) % s.facets n
def State.missModel (s : State) (n : Nat) (p : Int) : Int := (s.station n).bAcc.getD p + (((s.station n).since + 1) * s.facetPeriod n : Nat)

/-- Station `n` when its window has closed without an edge. -/
def State.missStation (s : State) (n : Nat) (p : Int) : Station :=
  let x := s.station n
  { x with
    facet := s.missFacet n, since := x.since + 1, idxCount := x.idxCount + 1, bModel := some (s.missModel n p)
    missed := if s.missCounts n p then x.missed + 1 else x.missed
    seek := x.seek || x.sync == .seeking, lockRun := 0 }

/-- A station that was LOCKED coasts after a miss, with its event. -/
def State.coasts (s : State) (n i : Nat) (p : Int) : State :=
  if (s.station n).sync = .locked then s.syncTo n .coasting 0x0702 [i, i64 p] else s

theorem State.coasts_facetKept (s : State) (n i : Nat) (p : Int) : FacetKept n s (s.coasts n i p) :=
  .ite (State.syncTo_facetKept (by decide) _ _ _ _) (.refl s)

theorem State.coasts_unlocked (s : State) (n i : Nat) (p : Int) : ((s.coasts n i p).station n).sync ≠ .locked := by
  unfold State.coasts
  split
  · obtain ⟨run, ok, oks, h⟩ := s.syncTo_station n .coasting 0x0702 [i, i64 p]
    rw [h]
    exact nofun
  · assumption

theorem State.coasts_raised (hl : (s.station n).sync = .locked) (h : s.objHere (obj clsSTN n) = true) (i : Nat) (p : Int) :
    Raised (s.coasts n i p) 0x0702 (obj clsSTN n) [obj clsSTN n, i, i64 p] := by
  unfold State.coasts
  rw [if_pos hl]
  exact State.raised_syncTo h (by decide) (by decide) _ _

/-- A coasting station with eight misses is LOST, and seeks. -/
def State.lostNow (s : State) (n : Nat) : Bool := decide ((s.station n).sync = .coasting ∧ 8 ≤ (s.station n).missed)
def State.loses (s : State) (n raw : Nat) : State :=
  if s.lostNow n then (s.syncTo n .lost 0x0704 [raw / 64]).updStation n (fun t => { t with seek := true }) else s

theorem State.loses_facetKept (s : State) (n raw : Nat) : FacetKept n s (s.loses n raw) :=
  .ite ((State.syncTo_facetKept (by decide) _ _ _ _).trans (State.updStation_facetKept _ (fun _ => rfl) (fun _ => rfl))) (.refl s)

/-- Station `n` has missed its window: the miss, the fall from LOCKED, and whether it is LOST. -/
def State.windowMissed (s : State) (n : Nat) (p : Int) : State := (s.setStation n (s.missStation n p)).coasts n (s.missFacet n) p

theorem execBdWindowMiss_eq (hat : At s inTimeouts) (hlt : n < 8) (hon : s.scanOn n = true) (hp : (s.station n).pred = some p)
    (hm : s.missTempo n p ≤ s.tempo) : exec (.bdWindowMiss n) s = .next
      ((((s.windowMissed n p).loses n (s.station n).raw).decideFacet n (s.missModel n p) (s.missFacet n)).polyMiss n s.video.blanked
        ((s.windowMissed n p).lostNow n)) := by
  show execBdWindowMiss n s = _
  have hself : (s.setStation n (s.missStation n p)).station n = s.missStation n p := (State.setStation_get _ _ _ _).trans (if_pos rfl)
  unfold execBdWindowMiss State.windowMissed State.coasts
  rw [hat, hself]
  unfold State.missStation
  dsimp only
  rw [hp]
  dsimp only
  rw [if_pos (by simp [hlt, hon, hm])]
  unfold State.loses State.lostNow State.missFacet State.missModel State.missCounts
  rfl

/-- A miss decides the next facet, by whole periods from the last accepted edge; the station is not LOCKED then, and if it was, 0x0702
says so. -/
theorem execBdWindowMiss_decides (hat : At s inTimeouts) (hlt : n < 8) (hon : s.scanOn n = true) (hp : (s.station n).pred = some p)
    (hm : s.missTempo n p ≤ s.tempo) (hhere : s.objHere (obj clsSTN n) = true) : ∃ t, exec (.bdWindowMiss n) s = .next t
      ∧ (t.station n).decision = ((s.missStation n p).decides (s.missModel n p) s.tempo).decision ∧ (t.station n).sync ≠ .locked
      ∧ ((s.station n).sync = .locked → Raised t 0x0702 (obj clsSTN n) [obj clsSTN n, s.missFacet n, i64 p]) := by
  have hkept : FacetKept n (s.setStation n (s.missStation n p)) (s.windowMissed n p) := State.coasts_facetKept _ _ _ _
  have hself : (s.setStation n (s.missStation n p)).station n = s.missStation n p := (State.setStation_get _ _ _ _).trans (if_pos rfl)
  have hunlocked : ((s.windowMissed n p).station n).sync ≠ .locked := State.coasts_unlocked _ _ _ _
  have hraised : (s.station n).sync = .locked → Raised (s.windowMissed n p) 0x0702 (obj clsSTN n) [obj clsSTN n, s.missFacet n, i64 p] :=
    fun hl => State.coasts_raised (s := s.setStation n _) (by rw [hself]; exact hl) hhere _ _
  have hexec := execBdWindowMiss_eq hat hlt hon hp hm
  generalize s.windowMissed n p = w at hexec hkept hunlocked hraised
  have hloses := w.loses_facetKept n (s.station n).raw
  have hdecided := ((w.loses n (s.station n).raw).decideFacet_decides n (s.missModel n p) (s.missFacet n)).trans
    (State.polyMiss_facetKept _ n s.video.blanked (w.lostNow n))
  refine ⟨_, hexec, ?_, hdecided.unlocked (hloses.unlocked hunlocked), fun hl => ?_⟩
  · rw [hdecided.decision, hloses.tempo, hkept.tempo]
    exact Station.decides_decision (by rw [hloses.decision, hkept.decision, hself]) _ _
  · exact (hloses.toSteady.trans hdecided.toSteady).toOnward.raised (by decide) (hraised hl)

end Sys2Proof.Machine
end

section
namespace Sys2Proof.Machine
open Sys2Proof Sys2Proof.Claims
variable {s t u : State} {n : Nat} {p b : Int}

/-! ### FACET_BOUNDARY (R234, R242, R243) -/

/-- From `s` to `t` only links change, and of those what waits for slot 0, which grows, and the counts of the monitor. -/
structure LinksFed (s t : State) : Prop where
  links : LinksOnly s t
  lineDue : ∀ l, (t.link l).lineDue = (s.link l).lineDue
  marker : ∀ l, (t.link l).marker = (s.link l).marker
  slot0 : ∀ l, (s.link l).slot0 <+: (t.link l).slot0

theorem LinksFed.refl (s : State) : LinksFed s s := ⟨.refl s, fun _ => rfl, fun _ => rfl, fun _ => List.prefix_rfl⟩

theorem LinksFed.trans (h : LinksFed s t) (k : LinksFed t u) : LinksFed s u :=
  ⟨h.links.trans k.links, fun l => (k.lineDue l).trans (h.lineDue l), fun l => (k.marker l).trans (h.marker l),
    fun l => (h.slot0 l).trans (k.slot0 l)⟩

theorem LinksFed.foldl {f : State → Nat → State} (hf : ∀ u r, LinksFed u (f u r)) (xs : List Nat) (s : State) : LinksFed s (xs.foldl f s) :=
  foldl_pred (P := LinksFed s) (fun u r h => h.trans (hf u r)) (.refl s)

theorem State.setLink_linksFed {l : Nat} {x : Link} (hd : x.lineDue = (s.link l).lineDue)
    (hm : x.marker = (s.link l).marker) (h0 : (s.link l).slot0 <+: x.slot0) : LinksFed s (s.setLink l x) := by
  have hget (j : Nat) : (s.setLink l x).link j = if j = l then x else s.link j := State.setLink_get _ _ _ _
  refine ⟨s.updLink_linksOnly l (fun _ => x), ?_, ?_, ?_⟩
  all_goals
    intro j
    rw [hget]
    split
    · next h => subst h; assumption
    · rfl

theorem State.sendBlock_linksFed (s : State) (l : Nat) (k : Bytes) : LinksFed s (s.sendBlock l k) :=
  State.setLink_linksFed rfl rfl (List.prefix_append _ _)

theorem State.monRequest_linksFed (s : State) (n r : Nat) (p : Int) : LinksFed s (s.monRequest n r p) := by
  have hset (k c : Nat) : LinksFed s (s.setLink (4 * n + r) { s.link (4 * n + r) with monScans := k, monCount := c }) :=
    State.setLink_linksFed rfl rfl List.prefix_rfl
  unfold State.monRequest
  extract_lets l x emits
  split
  · exact .refl s
  · split
    · exact hset _ _
    · split
      · exact hset _ _
      · exact (hset _ _).trans (State.sendBlock_linksFed _ _ _)

/-- The block of the BD pulse for the coming window, at a VPLL ratio of `r` / 2^32 (R234). -/
def State.bdBlock (s : State) (n : Nat) (p : Int) (r : Nat) : Bytes :=
  pulseBlock 0x2d (s.par clsSTN n 0x008 % 8) (s.par clsSTN n 0x009) (s.edgeAt n (p - s.halfWin n))
    (ceilDiv (2 * s.par clsSTN n 0x007 * r) (16 * (8 * max 1 (s.outDiv n) * 2 ^ 32)))

theorem State.bdPulse_of_up (h : (s.link (s.bdLink n)).state = .up) (p : Int) :
    s.bdPulse n p = s.sendBlock (s.bdLink n) (s.bdBlock n p (s.pll (8 + n)).ratio) := if_pos h

theorem State.bdPulse_linksFed (s : State) (n : Nat) (p : Int) : LinksFed s (s.bdPulse n p) := by
  unfold State.bdPulse
  dsimp only
  split
  · exact s.sendBlock_linksFed _ _
  · exact .refl s

theorem LinksOnly.bdBlock (h : LinksOnly s t) (n : Nat) (p : Int) (r : Nat) : t.bdBlock n p r = s.bdBlock n p r := by
  obtain ⟨ls, out, rfl⟩ := h
  rfl

/-- Of the block only the number of its edge depends on more than parameters. -/
theorem State.bdBlock_of_params (h : t.params = s.params) (n : Nat) (p : Int) (r : Nat) : t.bdBlock n p r
    = pulseBlock 0x2d (s.par clsSTN n 0x008 % 8) (s.par clsSTN n 0x009) (t.edgeAt n (p - s.halfWin n))
      (ceilDiv (2 * s.par clsSTN n 0x007 * r) (16 * (8 * max 1 (s.outDiv n) * 2 ^ 32))) := by
  simp only [State.bdBlock, State.halfWin, State.outDiv, par_congr h]

/-- The decided ratio is in force in a VPLL that does not coast, and edges are counted from edge `k` on. -/
def State.ratioTaken (s : State) (n k : Nat) : State :=
  (s.setRatio (8 + n) (s.station n).decRatio).updPll (8 + n) (fun p => { p with
    edgeN := (s.pll (8 + n)).edgeN + k, edgeT := (s.edgeBase n k).toNat })

theorem State.ratioTaken_pll (s : State) (n k : Nat) : ((s.ratioTaken n k).pll (8 + n)).edgeN = (s.pll (8 + n)).edgeN + k
    ∧ ((s.ratioTaken n k).pll (8 + n)).ratio
      = if (s.pll (8 + n)).state = .coasting then (s.pll (8 + n)).ratio else (s.station n).decRatio := by
  unfold State.ratioTaken
  rw [State.updPll_get, if_pos rfl]
  refine ⟨rfl, ?_⟩
  unfold State.setRatio
  split
  · rfl
  · rw [State.updPll_get, if_pos rfl]

theorem State.ratioTaken_eq (s : State) (n k : Nat) : ∃ c, s.ratioTaken n k = { s with clk := c } := by
  unfold State.ratioTaken State.setRatio
  split
  · exact ⟨_, rfl⟩
  · exact ⟨_, rfl⟩

/-- A line of every link of the station is due. -/
def State.linesDue (s : State) (n : Nat) (coast : Bool) : State :=
  (List.range 4).foldl (fun u r => u.updLink (4 * n + r) (fun l => { l with lineDue := true, marker := none, coast := coast })) s

theorem State.linesDue_linksOnly (s : State) (n : Nat) (coast : Bool) : LinksOnly s (s.linesDue n coast) :=
  .foldl s (fun u _ => u.updLink_linksOnly _ _) _

theorem State.linesDue_link (s : State) (n : Nat) (coast : Bool) (j : Nat) : (s.linesDue n coast).link j
    = if 4 * n ≤ j ∧ j < 4 * n + 4 then { s.link j with lineDue := true, marker := none, coast := coast } else s.link j := by
  have hone (u : State) (l j : Nat) : (u.updLink l (fun x => { x with lineDue := true, marker := none, coast := coast })).link j
      = if j = l then { u.link j with lineDue := true, marker := none, coast := coast } else u.link j := by
    rw [State.updLink_get]
    split
    · next h => rw [h]
    · rfl
  unfold State.linesDue
  rw [← List.foldl_map (f := (4 * n + ·))
    (g := fun (u : State) l => u.updLink l (fun x => { x with lineDue := true, marker := none, coast := coast })),
    State.foldl_link s (R := fun _ => True) (g := fun _ x => { x with lineDue := true, marker := none, coast := coast })
      (fun _ _ _ => trivial) (fun u l j _ => hone u l j) (List.nodup_range.map (fun _ _ h => by omega)) trivial]
  refine if_congr ?_ rfl rfl
  simp only [List.mem_map, List.mem_range]
  exact ⟨fun ⟨k, hk, hj⟩ => by omega, fun h => ⟨j - 4 * n, by omega, by omega⟩⟩

/-- The BD pulse and the monitor requests of station `n` in `s` for its coming window, sent in `u`. -/
def State.windowPulsed (s u : State) (n : Nat) : State := match (s.station n).pred with
  | some p =>
    if s.mayPulse n && !(s.station n).seek then
      if s.stnLocked n then (List.range 4).foldl (fun v r => v.monRequest n r p) (u.bdPulse n p) else u.bdPulse n p
    else u
  | none => u

theorem State.windowPulsed_of_seek (hp : (s.station n).pred = some p) (hm : s.mayPulse n = true) (hs : (s.station n).seek = false)
    (u : State) : LinksFed (u.bdPulse n p) (s.windowPulsed u n) := by
  unfold State.windowPulsed
  rw [hp]
  dsimp only
  rw [hm, hs, if_pos (by rfl)]
  split
  · exact .foldl (fun v r => v.monRequest_linksFed n r p) _ _
  · exact .refl _

theorem State.windowPulsed_linksFed (s u : State) (n : Nat) : LinksFed u (s.windowPulsed u n) := by
  unfold State.windowPulsed
  split
  · next p _ =>
    have hpulse := u.bdPulse_linksFed n p
    split
    · split
      · exact hpulse.trans (.foldl (fun v r => v.monRequest_linksFed n r p) _ _)
      · exact hpulse
    · exact .refl u
  · exact .refl u

/-- The line start that an edge of OUT4, `k` after the one that edges are counted from, gives at a ratio of `r` / 2^32 (R243). -/
def State.lineStart (s : State) (n k r : Nat) (b : Int) : Int :=
  (64 * ((s.pll (8 + n)).edgeN + k) : Nat) - roundDivI ((s.edgeTime n k - b * 2 ^ 32) * r) (8 * 2 ^ 64 * max 1 (s.outDiv n))
    + (s.station n).lineAdj

/-- When the line of the link with the latest start has ended, at that ratio. -/
def State.lineStop (s : State) (n r : Nat) (b : Int) : Tempo :=
  let far := (List.range 4).foldl (fun (m : Int) i => max m (s.parI clsVL (4 * n + i) 0x001)) 0
  (-((-(b + s.pixTime n ((s.station n).lineAdj + far + (64 * s.par clsSTN n 0x003 : Nat)) r)) / 64)).toNat

/-- The state in which the boundary's edge has set the line start of every link. -/
def State.boundaryPassed (s : State) (n k r : Nat) (b : Int) : State :=
  ((s.ratioTaken n k).setStation n { s.station n with
    boundary := false, lineQ := some (s.lineStart n k r b), lineEnd := s.lineStop n r b }).linesDue n (s.station n).coastLine

/-- A facet boundary of station `n` is to come, and it has edges of OUT4. -/
structure State.BoundaryDue (s : State) (n : Nat) (b : Int) : Prop where
  at_ : At s inEvents
  lt : n < 8
  on : s.scanOn n = true
  boundary : (s.station n).boundary = true
  edges : s.out4On n = true
  model : (s.station n).bModel = some b

theorem execFacetBoundary_waits (hat : At s inEvents) (hlater : ((s.tempo + 1 : Nat) * 2 ^ 38 : Int) ≤ s.edgeTime n (s.boundaryEdge n))
    (j : Nat) (x : Tempo) : exec (.facetBoundary n j x) s = .next s := by
  show execFacetBoundary n j x s = _
  unfold execFacetBoundary
  rw [hat]
  refine congrArg _ (if_neg ?_)
  push_cast at hlater
  simp [Int.not_lt.2 hlater]

theorem execFacetBoundary_eq (h : s.BoundaryDue n b) {k j r : Nat} {x : Tempo} (hk : k = s.boundaryEdge n)
    (hj : j = (s.pll (8 + n)).edgeN + k) (hx : (x : Int) = s.edgeTime n k / 2 ^ 38)
    (hr : r = ((s.ratioTaken n k).pll (8 + n)).ratio) (hnow : s.edgeTime n k < ((s.tempo + 1 : Nat) * 2 ^ 38 : Int)) :
    exec (.facetBoundary n j x) s = .next (s.windowPulsed (s.boundaryPassed n k r b) n) := by
  obtain ⟨hat, hlt, hon, hbound, hedges, hb⟩ := h
  subst hj hr
  show execFacetBoundary n _ x s = _
  unfold execFacetBoundary
  rw [hat]
  dsimp only
  push_cast at hnow
  rw [← hk, if_pos (by simp [hlt, hon, hbound, hedges, hnow, hx])]
  generalize hu : List.foldl _ (State.setStation _ _ _) (List.range 4) = u
  have hpassed : s.boundaryPassed n k ((s.ratioTaken n k).pll (8 + n)).ratio b = u := by
    rw [← hu]
    unfold State.boundaryPassed State.lineStart State.lineStop State.linesDue State.ratioTaken
    dsimp only
    rw [hb]
    rfl
  rw [hpassed]
  rfl

theorem State.boundaryPassed_station (s : State) (n k r : Nat) (b : Int) : (s.boundaryPassed n k r b).station n = { s.station n with
    boundary := false, lineQ := some (s.lineStart n k r b), lineEnd := s.lineStop n r b } := by
  unfold State.boundaryPassed
  rw [(State.linesDue_linksOnly _ _ _).station, State.setStation_get, if_pos rfl]

theorem State.boundaryPassed_pll (s : State) (n k r : Nat) (b : Int) (j : Nat) :
    (s.boundaryPassed n k r b).pll j = (s.ratioTaken n k).pll j := by
  unfold State.boundaryPassed
  rw [(State.linesDue_linksOnly _ _ _).pll, State.setStation_pll]

theorem State.boundaryPassed_link (s : State) (n k r : Nat) (b : Int) (j : Nat) : (s.boundaryPassed n k r b).link j
    = if 4 * n ≤ j ∧ j < 4 * n + 4 then { s.link j with lineDue := true, marker := none, coast := (s.station n).coastLine }
      else s.link j := by
  obtain ⟨c, hc⟩ := s.ratioTaken_eq n k
  unfold State.boundaryPassed
  rw [State.linesDue_link, State.setStation_link, hc]
  rfl

theorem State.boundaryPassed_params (s : State) (n k r : Nat) (b : Int) : (s.boundaryPassed n k r b).params = s.params := by
  obtain ⟨c, hc⟩ := s.ratioTaken_eq n k
  unfold State.boundaryPassed
  rw [(State.linesDue_linksOnly _ _ _).params, State.setStation_params, hc]

/-- Which link carries a station's BD pulses is a parameter. -/
theorem State.bdLink_of_params (h : t.params = s.params) (n : Nat) : t.bdLink n = s.bdLink n := by
  unfold State.bdLink
  rw [par_congr h]

/-- The link that carries BD pulses is one of the station's. -/
theorem State.bdLink_range (h : s.par clsSTN n 0x008 < 32) : 4 * n ≤ s.bdLink n ∧ s.bdLink n < 4 * n + 4 := by
  unfold State.bdLink
  omega

/-- The BD pulse of the coming window stands behind what waited for slot 0. -/
theorem State.windowPulsed_slot0 (hp : (s.station n).pred = some p) (hm : s.mayPulse n = true) (hs : (s.station n).seek = false)
    (hu : (u.link (u.bdLink n)).state = .up) : ∃ rest, ((s.windowPulsed u n).link (u.bdLink n)).slot0
      = (u.link (u.bdLink n)).slot0 ++ (s.windowPulsed u n).bdBlock n p (u.pll (8 + n)).ratio :: rest := by
  obtain ⟨rest, hrest⟩ := (State.windowPulsed_of_seek hp hm hs u).slot0 (u.bdLink n)
  rw [State.bdPulse_of_up hu, State.sendBlock_link] at hrest
  refine ⟨rest, ?_⟩
  rw [(s.windowPulsed_linksFed u n).links.bdBlock, ← hrest, List.append_assoc]
  rfl

end Sys2Proof.Machine

namespace Sys2Proof.Proofs
open Sys2Proof Sys2Proof.Machine Sys2Proof.Claims

/-- Settles O49: an edge or a miss decides the facet, and all that follows from a decision keeps it; at the boundary's edge the links
are given their line and then only fed. -/
theorem beamDetectDecidesEachFacet : Obligations.BeamDetectDecidesEachFacet := by
  intro s n hlt hon
  refine ⟨fun raw p e hat hp hs => ⟨execBdEdgeCapture_of_no_edge hat, fun hpol hnow hfirst => ?_⟩, fun p hat hp hm hhere => ?_,
    fun k r j time b x hat hbound hedges hk htime hj hx hb hr => ⟨fun hlater => ?_, fun hnow => ?_⟩⟩
  case refine_1 =>
    have hexec := execBdEdgeCapture_eq ⟨hat, hlt, hon, hpol, hnow, hfirst⟩ hp hs
    have hself : (s.captured n).station n = { s.station n with bdAt := some s.tempo } := (State.updStation_get _ _ _ _).trans (if_pos rfl)
    refine ⟨fun hin => ?_, fun hout => ?_⟩
    · obtain ⟨b, hdec⟩ := State.acceptEdge_decides (s := s.captured n) (by rw [hself]; exact hs) raw
      rw [if_pos hin] at hexec
      have hfacet : (s.captured n).edgeFacet n = s.edgeFacet n := by unfold State.edgeFacet; rw [hself]; rfl
      rw [hself, hfacet] at hdec
      obtain ⟨-, hraw, hsince, hmissed, hfac, hdec, hbound, hbd⟩ := Station.decision_fields hdec
      exact ⟨_, hexec, hraw, hbd, hmissed, hsince, hdec, hbound, hfac⟩
    · obtain ⟨hstation, hdrive, hclk⟩ := (s.captured n).strayEdge_leaves n
      rw [if_neg (Nat.not_le.2 hout)] at hexec
      exact ⟨_, hexec, by rw [hstation, hself], hdrive, hclk⟩
  case refine_2 =>
    obtain ⟨t, hexec, hdec, hunlocked, hraised⟩ := execBdWindowMiss_decides hat hlt hon hp hm hhere
    obtain ⟨hmodel, -, hsince, -, hfac, hdec, hbound, -⟩ := Station.decision_fields hdec
    exact ⟨t, hexec, hfac, hsince, hdec, hbound, hunlocked, hmodel, hraised⟩
  case refine_3 =>
    subst hk htime
    exact execFacetBoundary_waits hat hlater j x
  case refine_4 =>
    subst htime
    obtain ⟨hedgeN, hratio⟩ := s.ratioTaken_pll n k
    rw [← hr] at hratio
    have hexec := execFacetBoundary_eq ⟨hat, hlt, hon, hbound, hedges, hb⟩ hk hj hx hratio.symm hnow
    have hfed := s.windowPulsed_linksFed (s.boundaryPassed n k r b) n
    have hparams := s.boundaryPassed_params n k r b
    have hlink := s.boundaryPassed_link n k r b
    have hpll := s.boundaryPassed_pll n k r b (8 + n)
    have hstation := s.boundaryPassed_station n k r b
    have hpulsed := fun p hp hm hs => State.windowPulsed_slot0 (s := s) (u := s.boundaryPassed n k r b) (n := n) (p := p) hp hm hs
    generalize s.boundaryPassed n k r b = u at hexec hfed hparams hlink hpll hstation hpulsed
    generalize s.windowPulsed u n = t at hexec hfed hpulsed
    rw [← hpll] at hedgeN hratio
    refine ⟨t, hexec, ?_, ?_, ?_, ?_, fun i hi => ⟨?_, ?_⟩, fun p hp hm hs hup hbeam => ?_⟩
    · rw [hfed.links.station, hstation]
    · rw [hfed.links.pll, hratio]
    · rw [hfed.links.pll, hedgeN]
    · rw [hfed.links.station, hstation]
      rfl
    · rw [hfed.lineDue, hlink, if_pos (by omega)]
    · rw [hfed.marker, hlink, if_pos (by omega)]
    · have hcarries := State.bdLink_range hbeam
      have hsame := State.bdLink_of_params hparams n
      obtain ⟨rest, hrest⟩ := hpulsed p hp hm hs (by rw [hsame, hlink, if_pos hcarries]; exact hup)
      rw [hsame, hlink, if_pos hcarries, hratio, State.bdBlock_of_params (hfed.links.params.trans hparams)] at hrest
      exact ⟨rest, hrest⟩

end Sys2Proof.Proofs
end

section
namespace Sys2Proof.Machine
open Sys2Proof Sys2Proof.Claims
variable {s : State} {n k pin : Nat} {ns : List Nat} {level : Bool}

/-! ### SEEK_PULSE (R234, R237) -/

/-- The soonest time of a pulse's edge: 1,024 tempo after the frame that its block leaves in. -/
def State.seekSoonest (s : State) (n : Nat) : Nat := 64 * (s.nextSlot0 (s.bdLink n) + 1024)

/-- How long a seek pulse lights. -/
def State.seekWidth (s : State) (n : Nat) : Nat := (s.pixTime n (64 * 16 * s.par clsSTN n 0x00c : Nat) (s.pll (8 + n)).ratio).toNat

/-- The time of the edge that lights the next seek pulse, at a time or the first after it. -/
def State.seekEdge (s : State) (n : Nat) (time : Nat) : Nat := (s.edgeTime n (s.edgesTo n (time * 2 ^ 32)) / 2 ^ 32).toNat

theorem State.le_seekEdge (h : 0 < s.outDiv n) (time : Nat) : time ≤ s.seekEdge n time := by
  have hle := Int.le_ediv_of_mul_le (by norm_num) (State.le_edgeTime_edgesTo h (time * 2 ^ 32))
  unfold State.seekEdge
  omega

/-- When the next seek pulse is to light: a period and half a width after the last one, or at once. -/
def State.seekNext (s : State) (n : Nat) : Nat := match (s.station n).seekLit with
  | none => s.seekSoonest n
  | some (a, _) => a + s.seekPeriod n + s.seekWidth n / 2

theorem execSeekPulse_waits (h : (s.link (s.bdLink n)).state ≠ .up ∨ s.seekSoonest n + 64 * 64 < s.seekNext n) :
    exec (.seekPulse n) s = .next s := by
  show execSeekPulse n s = _
  refine congrArg _ (if_neg ?_)
  simp only [Bool.and_eq_true, beq_iff_eq]
  rintro ⟨⟨⟨-, hup⟩, -⟩, hnear⟩
  exact h.elim (· hup) (Nat.not_lt.2 (of_decide_eq_true hnear))

theorem execSeekPulse_sends (hlt : n < 8) (hm : s.mayPulse n = true) (hs : (s.station n).seek = true ∨ (s.station n).pred = none)
    (hup : (s.link (s.bdLink n)).state = .up) (hnear : s.seekNext n ≤ s.seekSoonest n + 64 * 64) {time : Nat}
    (htime : time = max (s.seekNext n) (s.seekSoonest n)) : exec (.seekPulse n) s = .next ((s.setStation n { s.station n with
      seekLit := some (s.seekEdge n time, s.seekEdge n time + s.seekWidth n) }).sendBlock (s.bdLink n)
        (pulseBlock 0x2d (s.par clsSTN n 0x008 % 8) (s.par clsSTN n 0x009) (s.edgeAt n time) (s.par clsSTN n 0x00c))) := by
  have hseek : ((s.station n).seek || (s.station n).pred.isNone) = true := by
    rcases hs with hs | hs <;> simp [hs]
  have hedge : ((s.edgeAt n time : Int) - (s.pll (8 + n)).edgeN) = s.edgesTo n (time * 2 ^ 32) := by
    unfold State.edgeAt
    push_cast
    omega
  subst htime
  show execSeekPulse n s = _
  unfold execSeekPulse
  refine congrArg _ ((if_pos ?_).trans ?_)
  · rw [hm, hseek, hup, decide_eq_true hlt]
    exact decide_eq_true hnear
  · unfold State.seekEdge
    rw [← hedge]
    rfl

/-! ### FACET_INDEX_EDGE (R239) -/

/-- A station whose index edge has come, with its facet numbers kept or not. -/
def Station.indexed (x : Station) (keep : Bool) : Station := { x with idxArm := false, idxSeen := true, idxOk := keep, idxPend := !keep, idxCount := 0 }

/-- The number of facets since the last index edge is wrong. -/
def State.indexBad (s : State) (n : Nat) : Bool := (s.station n).idxSeen && (s.station n).idxOk && decide ((s.station n).idxCount ≠ s.facets n)

theorem execFacetIndexEdge_eq (hat : At s inCapture) (hlt : n < 8) (hon : s.scanOn n = true) (ha : (s.station n).idxArm = true)
    (hi : s.par clsSTN n 0x00f ≠ 0) : exec (.facetIndexEdge n) s = .next (
      let u := s.setStation n ((s.station n).indexed ((s.station n).idxOk && !s.indexBad n))
      if s.indexBad n then
        if (s.station n).sync = .locked then u.syncTo n .seeking 0x0705 [(s.station n).idxCount]
        else u.raise { code := 0x0705, obj := obj clsSTN n, fields := [obj clsSTN n, (s.station n).idxCount], sheet := s.scanSheet n }
      else u) := by
  show execFacetIndexEdge n s = _
  unfold execFacetIndexEdge
  rw [hat]
  exact congrArg _ (if_pos (by simp [hlt, hon, ha, hi]))

/-- A wrong number of facets is reported, and takes a station out of LOCKED. -/
theorem execFacetIndexEdge_bad (hat : At s inCapture) (hlt : n < 8) (hon : s.scanOn n = true) (ha : (s.station n).idxArm = true)
    (hi : s.par clsSTN n 0x00f ≠ 0) (hbad : s.indexBad n = true) (hhere : s.objHere (obj clsSTN n) = true) :
    ∃ t, exec (.facetIndexEdge n) s = .next t ∧ (t.station n).idxOk = false ∧ (t.station n).idxPend = true
      ∧ Raised t 0x0705 (obj clsSTN n) [obj clsSTN n, (s.station n).idxCount] ∧ (t.station n).sync ≠ .locked := by
  have hexec := execFacetIndexEdge_eq hat hlt hon ha hi
  dsimp only at hexec
  rw [hbad, if_pos rfl, Bool.not_true, Bool.and_false] at hexec
  have hself : (s.setStation n ((s.station n).indexed false)).station n = (s.station n).indexed false :=
    (State.setStation_get _ _ _ _).trans (if_pos rfl)
  have hobj : (s.setStation n ((s.station n).indexed false)).objHere (obj clsSTN n) = true := hhere
  refine ⟨_, hexec, ?_⟩
  generalize s.setStation n ((s.station n).indexed false) = u at hself hobj
  split
  · obtain ⟨run, ok, oks, h⟩ := u.syncTo_station n .seeking 0x0705 [(s.station n).idxCount]
    rw [h, hself]
    exact ⟨rfl, rfl, State.raised_syncTo hobj (by decide) (by decide) _ _, nofun⟩
  · next hl =>
    rw [State.raise_station, hself]
    exact ⟨rfl, rfl, State.raised_raise hobj, hl⟩

/-! ### GPIO_EDGE_CAPTURE (R418, R419) -/

/-- A rising edge is passed to stations. -/
def State.armIndex (s : State) (ns : List Nat) : State := ns.foldl (fun u n => u.updStation n (fun t => { t with idxArm := true })) s

theorem State.armIndex_gpio (s : State) (ns : List Nat) (j : Nat) : (s.armIndex ns).gpio j = s.gpio j :=
  foldl_keeps (f := fun u n => u.updStation n (fun t => { t with idxArm := true })) (fun u : State => u.gpio j) (fun _ _ => rfl) ns s

/-- An edge that has been passed to a station stays with it. -/
theorem State.armIndex_armed (h : n ∈ ns ∨ (s.station n).idxArm = true) : ((s.armIndex ns).station n).idxArm = true := by
  induction ns generalizing s with
  | nil => exact h.resolve_left List.not_mem_nil
  | cons m ns ih =>
    refine ih (s := s.updStation m (fun t => { t with idxArm := true })) ?_
    rw [State.updStation_get]
    rcases h with h | h
    · rcases List.mem_cons.1 h with rfl | h
      · exact .inr (by rw [if_pos rfl])
      · exact .inl h
    · refine .inr ?_
      split
      · rfl
      · exact h

/-- What a GPIO holds of an edge accepted now. -/
def State.gpioTaken (s : State) (pin : Nat) (level : Bool) : Gpio :=
  { capTempo := s.tempo - 3 - field (s.par clsGPIO pin 0x000) 8 8, level := level, unread := true
    overrun := (s.gpio pin).overrun || (s.gpio pin).unread, captures := ((s.gpio pin).captures + 1) % 65536 }

/-- The stations whose index a GPIO is. -/
def State.indexStations (s : State) (pin : Nat) : List Nat :=
  (s.units clsSTN).filter (fun n => s.par clsSTN n 0x00f == 2 && s.par clsSTN n 0x010 == pin)

theorem State.mem_indexStations (hlt : n < 8) (hserv : s.inService clsSTN n = true) (hi : s.par clsSTN n 0x00f = 2)
    (hp : s.par clsSTN n 0x010 = pin) : n ∈ s.indexStations pin :=
  List.mem_filter.2 ⟨List.mem_filter.2 ⟨List.mem_range.2 hlt, hserv⟩, by simp [hi, hp]⟩

theorem execGpioEdgeCapture_eq (hat : At s inCapture) (hlt : pin < 32)
    (hk : bit (s.par clsGPIO pin 0x000) (if level then 4 else 5) = true) : exec (.gpioEdgeCapture pin level) s = .next
      ((s.setGpio pin (s.gpioTaken pin level)).armIndex (if level then s.indexStations pin else [])) := by
  show execGpioEdgeCapture pin level s = _
  unfold execGpioEdgeCapture
  rw [hat]
  refine congrArg _ ((if_pos (by simp [hlt, hk])).trans ?_)
  cases level <;> rfl

/-! ### SLOW_INDEX (R298) -/

/-- Tile `k` without the slow word that it has taken. -/
def State.wordTaken (s : State) (k type : Nat) : State :=
  s.updTile k (fun t => { t with slowWord := none, resAge := if type = 5 then t.resAge else t.resAge - 32 })

theorem State.onWord_some {type d : Nat} (hlt : k < 64) (hserv : s.inService clsDT k = true) (hw : (s.tile k).word type = some d)
    (act : State → Nat → State) : s.onWord k type act = act (s.wordTaken k type) d := by
  unfold State.onWord
  rw [if_pos (by simp [hlt, hserv]), hw]
  rfl

/-- The index of tile `k` is known, and the first one is reported. -/
def State.indexSeen (s : State) (k : Nat) (x : Int) : State :=
  if (s.tile k).indexSeen then s.setTile k { s.tile k with indexSeen := true }
  else (s.setTile k { s.tile k with indexSeen := true }).raise { code := 0x0905, obj := obj clsDT k, fields := [obj clsDT k, i64 x] }

theorem State.indexSeen_tile (s : State) (k : Nat) (x : Int) : (s.indexSeen k x).tile k = { s.tile k with indexSeen := true } := by
  unfold State.indexSeen
  split
  · rw [State.setTile_get, if_pos rfl]
  · rw [State.raise_tile, State.setTile_get, if_pos rfl]

/-- An index edge goes to the station of the POLY tile, or to none. -/
theorem execSlowIndex_eq {d : Nat} (hlt : k < 64) (hserv : s.inService clsDT k = true) (hw : (s.tile k).word 4 = some d)
    (hd : bit d 5 = true) : ∃ x ns, exec (.slowIndex k) s = .next (((s.wordTaken k 4).indexSeen k x).armIndex ns) := by
  show ∃ x ns, execSlowIndex k s = _
  unfold execSlowIndex
  rw [State.onWord_some hlt hserv hw]
  generalize s.wordTaken k 4 = u
  rw [hd]
  refine ⟨(u.tile k).xmFrames.getD (63 - field d 0 5) (u.tile k).xm, ?_⟩
  dsimp only
  rw [Bool.not_true, if_neg Bool.false_ne_true]
  cases u.polyStation k with
  | none => exact ⟨[], rfl⟩
  | some n =>
    dsimp only
    split
    · exact ⟨[n], rfl⟩
    · exact ⟨[], rfl⟩

theorem State.armIndex_only (s : State) (ns : List Nat) : VideoOnly s (s.armIndex ns) := .foldl (fun _ _ => by exact ⟨_, rfl⟩) ns s

/-- An index that was seen before raises nothing. -/
theorem State.indexSeen_again (h : (s.tile k).indexSeen = true) (x : Int) :
    (s.indexSeen k x).faults = s.faults ∧ (s.indexSeen k x).host = s.host := by
  unfold State.indexSeen
  rw [if_pos h]
  exact ⟨rfl, rfl⟩

theorem State.indexSeen_first (h : (s.tile k).indexSeen = false) (hhere : s.objHere (obj clsDT k) = true) (x : Int) :
    Raised (s.indexSeen k x) 0x0905 (obj clsDT k) [obj clsDT k, i64 x] := by
  unfold State.indexSeen
  rw [h, if_neg Bool.false_ne_true]
  exact State.raised_raise hhere

end Sys2Proof.Machine

namespace Sys2Proof.Proofs
open Sys2Proof Sys2Proof.Machine Sys2Proof.Claims

/-- Settles O50, by what each of the four rows answers. -/
theorem seekPulsesAndIndexEdgesServeTheStation : Obligations.SeekPulsesAndIndexEdgesServeTheStation := by
  refine ⟨fun s n l soonest next w hlt hm hs hl hw hsoonest hnext => ?_, fun s n hat hlt hon ha hi => ⟨fun h => ?_, fun hseen hok hcount hhere => ?_⟩,
    fun s pin level hat hlt hk => ?_, fun s k d hlt hserv hw hd => ?_⟩
  case refine_1 =>
    subst hl hw hsoonest
    obtain rfl : next = s.seekNext n := by
      rw [hnext]
      unfold State.seekNext
      cases (s.station n).seekLit <;> rfl
    refine ⟨fun hup hnear => ?_, execSeekPulse_waits⟩
    refine ⟨_, s.seekEdge n (max (s.seekNext n) (s.seekSoonest n)), execSeekPulse_sends hlt hm hs hup hnear rfl, ?_, fun hd => ?_, ?_⟩
    · show ((State.updLink _ _ _).station n).seekLit = _
      rw [State.updLink_station, State.setStation_get, if_pos rfl]
      rfl
    · exact max_le_iff.1 (State.le_seekEdge hd _)
    · rw [State.sendBlock_link, State.setStation_link]
      rfl
  case refine_2 =>
    have hbad : s.indexBad n = false := by
      unfold State.indexBad
      rcases h with h | h | h <;> simp [h]
    have hexec := execFacetIndexEdge_eq hat hlt hon ha hi
    rw [hbad, Bool.not_false, Bool.and_true] at hexec
    exact hexec
  case refine_3 =>
    have hbad : s.indexBad n = true := by simp [State.indexBad, hseen, hok, hcount]
    exact execFacetIndexEdge_bad hat hlt hon ha hi hbad hhere
  case refine_4 =>
    refine ⟨_, execGpioEdgeCapture_eq hat hlt hk, ?_, fun k hne => ?_, fun n hl hn hserv hi hp => ?_⟩
    · rw [State.armIndex_gpio, State.setGpio_get, if_pos rfl]
      rfl
    · rw [State.armIndex_gpio, State.setGpio_get, if_neg hne]
    · rw [hl, if_pos rfl]
      exact State.armIndex_armed (.inl (State.mem_indexStations hn hserv hi hp))
  case refine_5 =>
    obtain ⟨x, ns, hexec⟩ := execSlowIndex_eq hlt hserv hw hd
    have hword : (s.wordTaken k 4).tile k = { s.tile k with slowWord := none, resAge := (s.tile k).resAge - 32 } :=
      (State.updTile_get _ _ _ _).trans (if_pos rfl)
    have htile := (s.wordTaken k 4).indexSeen_tile k x
    obtain ⟨v, harm⟩ := ((s.wordTaken k 4).indexSeen k x).armIndex_only ns
    rw [harm] at hexec
    refine ⟨_, i64 x, hexec, ?_, ?_, fun hnew hhere => ?_, fun hseen => ?_⟩
    · exact (congrArg Tile.slowWord htile).trans (congrArg Tile.slowWord hword)
    · exact congrArg Tile.indexSeen htile
    · exact State.indexSeen_first (s := s.wordTaken k 4) ((congrArg Tile.indexSeen hword).trans hnew) hhere x
    · exact State.indexSeen_again (s := s.wordTaken k 4) ((congrArg Tile.indexSeen hword).trans hseen) x

end Sys2Proof.Proofs
end

section
namespace Sys2Proof.Machine
open Sys2Proof Sys2Proof.Claims
variable {s t : State} {k o : Nat}

/-! ### What the axes leave standing when they react to protection and buses -/

/-- A tile but for its run-out program. -/
def Tile.still (x : Tile) : Tile := { x with runout := none, runoutDone := false }

/-- What stands while axes, polygon stages, loops and outputs react: the tempo, the mode, faults, units, parameters, rails, buses and
groups, and every tile but for its run-out program. -/
structure Standing where
  tempo : Tempo
  md : ModeSt
  faults : List FaultRec
  die : Die
  removed : Map Bool
  params : Map Nat
  rails : Rails
  buses : Map Bus
  groups : Map Group
  tile : Nat → Tile

def State.standing (s : State) : Standing where
  tempo := s.tempo
  md := s.md
  faults := s.faults
  die := s.die
  removed := s.removed
  params := s.params
  rails := s.rails
  buses := s.drive.buses
  groups := s.drive.groups
  tile j := (s.tile j).still

theorem State.objHere_of_standing (h : t.standing = s.standing) (o : Nat) : t.objHere o = s.objHere o :=
  State.objHere_congr (congrArg Standing.die h) (congrArg Standing.removed h) o

theorem State.bus_of_standing (h : t.standing = s.standing) (b : Nat) : t.bus b = s.bus b :=
  congrArg (fun x : Standing => Map.get (fun _ => ({} : Bus)) x.buses b) h

theorem State.prot_of_standing (h : t.standing = s.standing) (j : Nat) : (t.tile j).prot = (s.tile j).prot :=
  congrArg (fun x : Standing => (x.tile j).prot) h

theorem State.raise_standing_faults (s : State) (e : Ev) : (s.raise e).standing = { s.standing with faults := (s.raise e).faults } := by
  simp [State.standing]

theorem State.raise_standing (s : State) {e : Ev} (h : e.latch = []) : (s.raise e).standing = s.standing := by
  rw [s.raise_standing_faults e, State.raise_faults_of_latch_nil s h]
  rfl

theorem State.updTile_standing {f : Tile → Tile} (hf : (f (s.tile k)).still = (s.tile k).still) : (s.updTile k f).standing = s.standing := by
  have htile : (fun j => ((s.updTile k f).tile j).still) = fun j => (s.tile j).still := by
    funext j
    rw [State.updTile_get]
    split
    · next hj => rw [hf, hj]
    · rfl
  unfold State.standing
  rw [htile]
  rfl

theorem State.polyTo_standing (s : State) (k : Nat) (st : Poly) : (s.polyTo k st).standing = s.standing := by
  unfold State.polyTo
  dsimp only
  split
  · rfl
  · exact State.raise_standing _ rfl

theorem State.endRunout_standing (s : State) (o cause : Nat) : (s.endRunout o cause).standing = s.standing := by
  unfold State.endRunout
  dsimp only
  split
  · exact (State.raise_standing _ rfl).trans (State.updTile_standing (by rfl))
  · rfl

theorem State.endHold_standing (s : State) (o : Nat) : (s.endHold o).standing = s.standing := by
  unfold State.endHold
  extract_lets a poly sensor vm a1 s0 s1
  have h0 : s0.standing = s.standing := foldl_keeps State.standing (fun u k => by
    dsimp only
    split
    · exact State.polyTo_standing _ _ _
    · rfl) _ s
  have h1 : s1.standing = s.standing := by
    refine Eq.trans ?_ h0
    unfold s1
    split
    · rfl
    · exact State.raise_standing _ rfl
  split
  case h_4 =>
    split
    · exact (State.raise_standing _ rfl).trans h1
    · exact h1
  all_goals exact h1

theorem State.refreshAxis_standing (s : State) (o : Nat) : (s.refreshAxis o).standing = s.standing := by
  unfold State.refreshAxis
  dsimp only
  split
  · split
    · rfl
    · exact State.endRunout_standing _ _ _
  · split
    · exact s.endHold_standing o
    · rfl

/-- Bringing holds up to date leaves all that stands. -/
theorem State.refresh_standing (s : State) (ks : List Nat) : (s.refresh ks).standing = s.standing := by
  have axes : ((s.axesOf ks).foldl (fun u o => u.refreshAxis o) s).standing = s.standing :=
    foldl_keeps State.standing (fun u o => u.refreshAxis_standing o) _ s
  refine (foldl_keeps State.standing (fun u k => ?_) ks _).trans axes
  split
  · exact u.endRunout_standing _ _
  · rfl

/-- An axis that coasts leaves all that stands, and is FAULTED. -/
theorem State.coastAxis_standing (s : State) (o : Nat) : (s.coastAxis o).standing = s.standing := by
  unfold State.coastAxis
  extract_lets s1
  refine (State.endRunout_standing _ _ _).trans ?_
  refine (foldl_keeps State.standing (fun u k => ?_) _ s1).trans rfl
  split
  · exact u.polyTo_standing _ _
  · rfl

end Sys2Proof.Machine
end

section
namespace Sys2Proof.Machine
open Sys2Proof Sys2Proof.Claims
variable {s t : State} {k j o cause : Nat} {retry : Bool} {β : Type} {g : Tile → β}

/-! ### What the reactions of protection leave as it was -/

/-- What stands beside the faults, with a view of every tile. -/
structure Shown (β : Type) where
  tempo : Tempo
  md : ModeSt
  die : Die
  removed : Map Bool
  params : Map Nat
  rails : Rails
  buses : Map Bus
  groups : Map Group
  tile : Nat → β

def State.shown (g : Tile → β) (s : State) : Shown β where
  tempo := s.tempo
  md := s.md
  die := s.die
  removed := s.removed
  params := s.params
  rails := s.rails
  buses := s.drive.buses
  groups := s.drive.groups
  tile j := g (s.tile j)

theorem State.view_of_shown (h : t.shown g = s.shown g) (j : Nat) : g (t.tile j) = g (s.tile j) :=
  congrArg (fun x : Shown β => x.tile j) h

theorem State.objHere_of_shown (h : t.shown g = s.shown g) (o : Nat) : t.objHere o = s.objHere o :=
  State.objHere_congr (congrArg Shown.die h) (congrArg Shown.removed h) o

theorem State.shown_updTile {f : Tile → Tile} (hf : g (f (s.tile k)) = g (s.tile k)) : (s.updTile k f).shown g = s.shown g := by
  have htile : (fun j => g ((s.updTile k f).tile j)) = fun j => g (s.tile j) := by
    funext j
    rw [State.updTile_get]
    split
    · next hj => rw [hf, hj]
    · rfl
  unfold State.shown
  rw [htile]
  rfl

theorem State.shown_setTile {v : Tile} (hv : g v = g (s.tile k)) : (s.setTile k v).shown g = s.shown g :=
  State.shown_updTile (f := fun _ => v) hv

theorem State.shown_raise (s : State) (e : Ev) : (s.raise e).shown g = s.shown g := by simp [State.shown]

theorem State.shown_queueEv (s : State) (e : EvMsg) : (s.queueEv e).shown g = s.shown g := by
  unfold State.queueEv
  split <;> rfl

theorem State.shown_latchNew (s : State) (code o : Nat) : (s.latchNew code o).shown g = s.shown g := by
  obtain ⟨_, _, _, _, h⟩ := s.latchNew_eq code o
  rw [h]
  rfl

theorem State.shown_raiseDt (hg : ∀ x : Tile, ∀ c, g { x with lastEvent := c } = g x) (s : State) (k : Nat) (e : Ev) :
    (s.raiseDt k e).shown g = s.shown g :=
  (State.shown_raise _ _).trans (State.shown_updTile (hg _ _))

theorem State.shown_of_standing (hg : ∀ x : Tile, g x.still = g x) (h : t.standing = s.standing) : t.shown g = s.shown g := by
  have htile : (fun j => g (t.tile j)) = fun j => g (s.tile j) := by
    funext j
    rw [← hg, ← hg (s.tile j)]
    exact congrArg (fun x : Standing => g (x.tile j)) h
  have hrest := congrArg (fun x : Standing => (⟨x.tempo, x.md, x.die, x.removed, x.params, x.rails, x.buses, x.groups, fun j => g (s.tile j)⟩ :
    Shown β)) h
  exact (congrArg (fun v => { t.shown g with tile := v }) htile).trans hrest

/-! ### A tile and its group -/

theorem mem_of_mem_uniq {xs : List Nat} {y : Nat} (h : y ∈ uniq xs) : y ∈ xs := by
  refine List.foldlRecOn (motive := fun a => ∀ z ∈ a, z ∈ xs) xs _ (fun z hz => absurd hz List.not_mem_nil) (fun a ha x hx z hz => ?_) y h
  split at hz
  · exact ha z hz
  · rcases List.mem_append.1 hz with hz | hz
    · exact ha z hz
    · rwa [List.mem_singleton.1 hz]

theorem State.not_mem_mates (s : State) (k : Nat) : k ∉ s.mates k := by
  unfold State.mates
  split
  · exact List.not_mem_nil
  · intro h
    simpa using mem_of_mem_uniq h

theorem State.mates_nodup (s : State) (k : Nat) : (s.mates k).Nodup := by
  unfold State.mates
  split
  · exact List.nodup_nil
  · exact uniq_nodup _

/-- A fold over other tiles leaves the view of a tile. -/
theorem State.foldl_view_of_not_mem {f : State → Nat → State} (hf : ∀ u i, i ≠ k → g ((f u i).tile k) = g (u.tile k)) {xs : List Nat}
    (hk : k ∉ xs) (s : State) : g ((xs.foldl f s).tile k) = g (s.tile k) :=
  List.foldlRecOn (motive := fun u => g (u.tile k) = g (s.tile k)) xs f rfl (fun u hu i hi => (hf u i (fun h => hk (h ▸ hi))).trans hu)

/-! ### Turning a tile off (R271, R272) -/

/-- A tile that enters TWO_STEP. -/
def Tile.turnedOff (x : Tile) (now : Tempo) (retry : Bool) (cause : Nat) : Tile :=
  { x with
    prot := .twoStep, since := now, twoStepAt := periodOf now + 1, retry := retry, faultAt := now
    lastCause := cause, released := false
    tries := if retry then now :: x.recent now else x.recent now }

theorem State.twoStep_eq (s : State) (k : Nat) (retry : Bool) (cause : Nat) :
    s.twoStep k retry cause = s.updTile k (fun x => x.turnedOff s.tempo retry cause) := rfl

theorem State.canTurnOff_of_on (h : (s.tile k).prot ∈ [Prot.enabling, .run]) : s.canTurnOff k = true := by
  simp only [List.mem_cons, List.not_mem_nil, or_false] at h
  obtain h | h := h <;> simp [State.canTurnOff, h]

theorem State.canTurnOff_eq_false (h : (s.tile k).prot ∉ [Prot.enabling, .run, .twoStep]) : s.canTurnOff k = false := by
  simp only [List.mem_cons, List.not_mem_nil, or_false, not_or] at h
  obtain ⟨he, hr, ht⟩ := h
  simp [State.canTurnOff, he, hr, ht]

theorem State.follow_steady (s : State) (k : Nat) : Steady s (s.follow k) := by
  unfold State.follow
  split
  · exact .refl s
  · refine Steady.trans (.foldl (fun u j => ?_) _ s) (State.raise_steady _ _)
    exact .ite (.of_eq (by rfl)) (.of_eq (by rfl))

/-- What a tile's group does leaves the tile itself. -/
theorem State.follow_tile_self (s : State) (k : Nat) : (s.follow k).tile k = s.tile k := by
  unfold State.follow
  split
  · rfl
  · rw [State.raise_tile]
    refine State.foldl_view_of_not_mem (g := id) (fun u i hi => ?_) (fun h => s.not_mem_mates k (List.mem_filter.1 h).1) s
    split
    · rw [State.twoStep_eq, State.updTile_get, if_neg (Ne.symm hi)]
    · rw [State.updTile_get, if_neg (Ne.symm hi)]

theorem State.follow_shown (hg : ∀ x : Tile, ∀ now, g (x.turnedOff now false 0) = g x) (hh : ∀ x : Tile, g { x with holdGates := true } = g x)
    (s : State) (k : Nat) : (s.follow k).shown g = s.shown g := by
  unfold State.follow
  split
  · rfl
  · refine (State.shown_raise _ _).trans (foldl_keeps (State.shown g) (fun u j => ?_) _ s)
    split
    · exact State.shown_updTile (hg _ _)
    · exact State.shown_updTile (hh _)

theorem State.turnOff_of_off (h : s.canTurnOff k = false) : s.turnOff k retry cause = s := by
  unfold State.turnOff
  rw [h]
  exact if_neg Bool.false_ne_true

theorem State.turnOff_cases (s : State) (k : Nat) (retry : Bool) (cause : Nat) : s.turnOff k retry cause = s
    ∨ s.turnOff k retry cause = s.twoStep k retry cause ∨ s.turnOff k retry cause = (s.twoStep k retry cause).follow k := by
  unfold State.turnOff
  split
  · dsimp only
    split
    · exact .inr (.inl rfl)
    · exact .inr (.inr rfl)
  · exact .inl rfl

theorem State.turnOff_tile (h : s.canTurnOff k = true) (retry : Bool) (cause : Nat) :
    (s.turnOff k retry cause).tile k = (s.tile k).turnedOff s.tempo retry cause := by
  have hself : (s.twoStep k retry cause).tile k = (s.tile k).turnedOff s.tempo retry cause := by
    rw [State.twoStep_eq, State.updTile_get, if_pos rfl]
  unfold State.turnOff
  rw [if_pos h]
  dsimp only
  split
  · exact hself
  · rw [State.follow_tile_self, hself]

theorem State.turnOff_steady (s : State) (k : Nat) (retry : Bool) (cause : Nat) : Steady s (s.turnOff k retry cause) := by
  have htwo : Steady s (s.twoStep k retry cause) := .of_eq rfl
  obtain h | h | h := s.turnOff_cases k retry cause <;> rw [h]
  · exact .refl s
  · exact htwo
  · exact htwo.trans (State.follow_steady _ _)

theorem State.turnOff_shown (hg : ∀ x : Tile, ∀ now r c, g (x.turnedOff now r c) = g x) (hh : ∀ x : Tile, g { x with holdGates := true } = g x)
    (s : State) (k : Nat) (retry : Bool) (cause : Nat) : (s.turnOff k retry cause).shown g = s.shown g := by
  have htwo : (s.twoStep k retry cause).shown g = s.shown g := State.shown_updTile (hg _ _ _ _)
  obtain h | h | h := s.turnOff_cases k retry cause <;> rw [h]
  · exact htwo
  · exact (State.follow_shown (fun x now => hg x now false 0) hh _ _).trans htwo

/-! ### Events of a tile -/

theorem State.raiseDt_tile (s : State) (k : Nat) (e : Ev) (j : Nat) :
    (s.raiseDt k e).tile j = if j = k then { s.tile k with lastEvent := e.code } else s.tile j := by
  unfold State.raiseDt
  rw [State.raise_tile, State.updTile_get]

theorem State.raiseDt_steady (s : State) (k : Nat) (e : Ev) : Steady s (s.raiseDt k e) :=
  Steady.trans (.of_eq (by rfl)) (State.raise_steady _ _)

theorem State.raised_raiseDt {e : Ev} (h : s.objHere (obj clsDT k) = true) : Raised (s.raiseDt k e) e.code (obj clsDT k) e.fields :=
  State.raised_raise (e := { e with obj := obj clsDT k }) (by exact h)

theorem State.latched_raiseDt {e : Ev} (h : s.objHere (obj clsDT k) = true) (hm : obj clsDT k ∈ e.latch) :
    (s.raiseDt k e).latched e.code (obj clsDT k) = true :=
  State.latched_raise (e := { e with obj := obj clsDT k }) (by exact h) (by exact h) hm

end Sys2Proof.Machine
end

section
namespace Sys2Proof.Machine
open Sys2Proof Sys2Proof.Claims
variable {s t u : State} {k n i j : Nat}

/-! ### Sending a down frame (R256, R258, R261) -/

/-- From `s` to `u` tile `k` may have been made ready for its frame: nothing has left the device, and no other tile, no fault, neither
the SEQ nor the protection state of the tile has changed. -/
structure FrameReady (k : Nat) (s u : State) : Prop where
  out : u.out = s.out
  faults : u.faults = s.faults
  seq : (u.tile k).seq = (s.tile k).seq
  prot : (u.tile k).prot = (s.tile k).prot
  others : ∀ j, j ≠ k → u.tile j = s.tile j

theorem FrameReady.refl (k : Nat) (s : State) : FrameReady k s s := ⟨rfl, rfl, rfl, rfl, fun _ _ => rfl⟩

theorem FrameReady.trans (h : FrameReady k s t) (r : FrameReady k t u) : FrameReady k s u :=
  ⟨r.out.trans h.out, r.faults.trans h.faults, r.seq.trans h.seq, r.prot.trans h.prot,
    fun j hj => (r.others j hj).trans (h.others j hj)⟩

theorem FrameReady.foldl {α : Type} {f : State → α → State} (hf : ∀ u x, FrameReady k u (f u x)) (xs : List α) (s : State) :
    FrameReady k s (xs.foldl f s) :=
  foldl_pred (P := FrameReady k s) (fun u x h => h.trans (hf u x)) (.refl k s)

theorem State.updTile_frameReady {f : Tile → Tile} (hseq : (f (s.tile k)).seq = (s.tile k).seq)
    (hprot : (f (s.tile k)).prot = (s.tile k).prot) : FrameReady k s (s.updTile k f) := by
  refine ⟨rfl, rfl, ?_, ?_, fun j hj => ?_⟩
  · rw [State.updTile_get, if_pos rfl, hseq]
  · rw [State.updTile_get, if_pos rfl, hprot]
  · rw [State.updTile_get, if_neg hj]

theorem State.switchOff_frameReady (s : State) (k i n edge : Nat) : FrameReady k s (s.switchOff k i n edge) :=
  State.updTile_frameReady (by rfl) (by rfl)

theorem State.allOff_frameReady (s : State) (k n edge : Nat) : FrameReady k s (s.allOff k n edge) := by
  refine .foldl (fun u i => ?_) _ s
  split
  · exact u.switchOff_frameReady k i n edge
  · exact .refl k u

/-- Tile `k` has been sent one frame of period `n` with the next SEQ, and of the rest that `FrameReady` names nothing has changed. -/
structure FrameSent (k n : Nat) (s t : State) : Prop where
  out : ∃ top, t.out = s.out ++ [.psl k (downFrame top (s.tile k).seq)]
  faults : t.faults = s.faults
  period : (t.tile k).lastPeriod = some n
  seq : (t.tile k).seq = ((s.tile k).seq + 1) % 16
  prot : (t.tile k).prot = (s.tile k).prot
  others : ∀ j, j ≠ k → t.tile j = s.tile j

theorem FrameReady.sent (h : FrameReady k s u) (r : FrameSent k n u t) : FrameSent k n s t := by
  obtain ⟨hout, hfaults, hseq, hprot, hothers⟩ := h
  obtain ⟨⟨top, ht⟩, hf, hp, hs, hpr, ho⟩ := r
  rw [hseq] at ht hs
  rw [hout] at ht
  exact ⟨⟨top, ht⟩, hf.trans hfaults, hp, hs, hpr.trans hprot, fun j hj => (ho j hj).trans (hothers j hj)⟩

/-- The tile after a frame: only SEQ and the period have changed. -/
theorem State.sendFrame_tile (s : State) (k n top : Nat) :
    (s.sendFrame k n top).tile k = { s.tile k with seq := ((s.tile k).seq + 1) % 16, lastPeriod := some n } := by
  show (s.updTile k (fun x => { x with seq := (x.seq + 1) % 16, lastPeriod := some n })).tile k = _
  rw [State.updTile_get, if_pos rfl]

theorem State.sendFrame_sent (s : State) (k n top : Nat) : FrameSent k n s (s.sendFrame k n top) := by
  refine ⟨⟨top, rfl⟩, rfl, ?_, ?_, ?_, fun j hj => ?_⟩
  · rw [State.sendFrame_tile]
  · rw [State.sendFrame_tile]
  · rw [State.sendFrame_tile]
  · show (s.updTile k (fun x => { x with seq := (x.seq + 1) % 16, lastPeriod := some n })).tile j = _
    rw [State.updTile_get, if_neg hj]

/-- The frame that a tile is sent keeps its switches; the last gate bits sent are `gates`. -/
structure GateSent (k n gates : Nat) (s t : State) : Prop extends FrameSent k n s t where
  switches : (t.tile k).switches = (s.tile k).switches
  gates : (t.tile k).gates = gates

theorem State.sendFrame_gateSent {gates : Nat} (hr : FrameReady k s u) (hsw : (u.tile k).switches = (s.tile k).switches)
    (hg : (u.tile k).gates = gates) (top : Nat) : GateSent k n gates s (u.sendFrame k n top) := by
  refine ⟨hr.sent (u.sendFrame_sent k n top), ?_, ?_⟩
  · rw [State.sendFrame_tile, hsw]
  · rw [State.sendFrame_tile, hg]

theorem State.sendGate_gateSent (s : State) (k n gates edge offmode : Nat) (pump : Bool) :
    GateSent k n gates s (s.sendGate k n gates edge offmode pump) := by
  refine State.sendFrame_gateSent (State.updTile_frameReady ?_ ?_) ?_ ?_ _
  case refine_3 | refine_4 => rw [State.updTile_get, if_pos rfl]
  all_goals rfl

/-- A waiting frame leaves the gate bits as they were last sent. -/
theorem State.sendWaiting_gateSent (h : GateSent k n (s.tile k).gates s t) : GateSent k n (s.tile k).gates s (s.sendWaiting k n t) := by
  unfold State.sendWaiting
  dsimp only
  split
  · next op arg rest _ =>
    have hr : FrameReady k s (s.updTile k (fun t => { t with cmdQueue := rest })) := State.updTile_frameReady rfl rfl
    refine State.sendFrame_gateSent (hr.trans (State.updTile_frameReady ?_ ?_)) ?_ ?_ _
    case refine_3 | refine_4 => rw [State.updTile_get, if_pos rfl, State.updTile_get, if_pos rfl]
    all_goals rfl
  · refine State.sendFrame_gateSent (State.updTile_frameReady ?_ ?_) ?_ ?_ _
    case refine_3 | refine_4 => rw [State.updTile_get, if_pos rfl]
    all_goals rfl
  · exact h

theorem State.gateOrWaiting_gateSent (s : State) (k n gates edge offmode : Nat) (pump : Bool) :
    GateSent k n gates s (s.gateOrWaiting k n gates edge offmode pump) := by
  have hgate := s.sendGate_gateSent k n gates edge offmode pump
  unfold State.gateOrWaiting
  dsimp only
  split
  · next h =>
    obtain ⟨hg, -⟩ := h
    rw [hg] at hgate ⊢
    exact State.sendWaiting_gateSent hgate
  · exact hgate

end Sys2Proof.Machine
end

section
namespace Sys2Proof.Machine
open Sys2Proof Sys2Proof.Claims
variable {s t u : State} {k n i j edge : Nat} {is : List Nat}

/-! ### Switches (R264, R267) -/

@[simp] theorem Tile.setSw_sw (x : Tile) (i : Nat) (v : Switch) (j : Nat) : (x.setSw i v).sw j = if j = i then v else x.sw j :=
  Map.get_put _ _ _ _ _

/-- Switch `i` of tile `k` is on. -/
abbrev State.swOn (s : State) (k i : Nat) : Prop := ((s.tile k).sw i).on = true

theorem State.switchOff_swOn : (s.switchOff k i n edge).swOn k j ↔ j ≠ i ∧ s.swOn k j := by
  unfold State.swOn State.switchOff
  rw [State.updTile_get, if_pos rfl, Tile.setSw_sw]
  split <;> simp [*]

/-- The switches in a list are turned off. -/
def State.switchesOff (s : State) (k n edge : Nat) (is : List Nat) : State := is.foldl (fun u i => u.switchOff k i n edge) s

theorem State.switchesOff_swOn : (s.switchesOff k n edge is).swOn k j ↔ j ∉ is ∧ s.swOn k j := by
  induction is generalizing s with
  | nil => simp [State.switchesOff]
  | cons i is ih =>
    have step : s.switchesOff k n edge (i :: is) = (s.switchOff k i n edge).switchesOff k n edge is := rfl
    rw [step, ih, State.switchOff_swOn, List.mem_cons]
    tauto

/-- The switches in a list are turned on. -/
def State.switchesOn (s : State) (k : Nat) (is : List Nat) : State :=
  is.foldl (fun u i => u.updTile k (fun t => t.setSw i { (t.sw i) with on := true })) s

theorem State.switchesOn_swOn : (s.switchesOn k is).swOn k j ↔ j ∈ is ∨ s.swOn k j := by
  induction is generalizing s with
  | nil => simp [State.switchesOn]
  | cons i is ih =>
    have step : s.switchesOn k (i :: is) = (s.updTile k (fun t => t.setSw i { (t.sw i) with on := true })).switchesOn k is := rfl
    have one : (s.updTile k (fun t => t.setSw i { (t.sw i) with on := true })).swOn k j ↔ j = i ∨ s.swOn k j := by
      unfold State.swOn
      rw [State.updTile_get, if_pos rfl, Tile.setSw_sw]
      split <;> simp [*]
    rw [step, ih, one, List.mem_cons]
    tauto

/-- Turning off a switch that is on, and no other, leaves the others as they were. -/
theorem State.switchOff_if_swOn : (if ((s.tile k).sw i).on then s.switchOff k i n edge else s).swOn k j ↔ j ≠ i ∧ s.swOn k j := by
  split
  · exact State.switchOff_swOn
  · next hi =>
    refine ⟨fun hj => ⟨fun he => hi (he ▸ hj), hj⟩, fun h => h.2⟩

/-- After `allOff` no switch of the tile is on. -/
theorem State.allOff_swOn (hj : j < 6) : ¬ (s.allOff k n edge).swOn k j := by
  have each : ∀ (xs : List Nat) (u : State),
      (xs.foldl (fun u i => if ((u.tile k).sw i).on then u.switchOff k i n edge else u) u).swOn k j ↔ j ∉ xs ∧ u.swOn k j := by
    intro xs
    induction xs with
    | nil => simp
    | cons i xs ih =>
      intro u
      rw [List.foldl_cons, ih, State.switchOff_if_swOn, List.mem_cons]
      tauto
  exact fun h => ((each _ s).1 h).1 (List.mem_range.2 hj)

/-! ### What a RUN tile's frame turns on (R264, R265) -/

theorem opposite_opposite (i : Nat) : opposite (opposite i) = i := by
  unfold opposite
  split <;> split <;> omega

/-- A switch turns on only while its opposite is off, and at an edge of the frame. -/
theorem State.onEdge_some {w e : Nat} (h : s.onEdge k i w = some e) : ¬ s.swOn k (opposite i) ∧ e < 20 := by
  unfold State.onEdge at h
  dsimp only at h
  split at h
  · simp only [Option.ite_none_right_eq_some, Bool.and_eq_true, Bool.not_eq_true', decide_eq_true_eq, Option.some.injEq] at h
    obtain ⟨⟨⟨hoff, hlt⟩, -⟩, rfl⟩ := h
    refine ⟨fun hon => ?_, by omega⟩
    rw [hon] at hoff
    cases hoff
  · cases h

theorem foldl_max_lt {xs : List Nat} {b c : Nat} (hb : b < c) (h : ∀ x ∈ xs, x < c) : xs.foldl max b < c :=
  List.foldlRecOn (motive := (· < c)) xs max hb (fun _ ha x hx => max_lt ha (h x hx))

theorem minOf_le (xs : List Nat) (d : Nat) : minOf xs d ≤ d :=
  List.foldlRecOn (motive := (· ≤ d)) xs min (Nat.le_refl d) (fun _ ha _ _ => (min_le_left _ _).trans ha)

/-- The switches that may turn on in a frame, each with its edge. -/
def State.onEdges (s : State) (k n : Nat) : List (Nat × Nat) :=
  (List.range 6).filterMap (fun i => if ((s.tile k).sw i).on then none else (s.onEdge k i (20 * (n + 3))).map (fun e => (i, e)))

theorem State.mem_onEdges {x : Nat × Nat} (h : x ∈ s.onEdges k n) : x.1 < 6 ∧ s.onEdge k x.1 (20 * (n + 3)) = some x.2 := by
  obtain ⟨i, hi, hx⟩ := List.mem_filterMap.1 h
  rw [Option.ite_none_left_eq_some, Option.map_eq_some_iff] at hx
  obtain ⟨-, e, he, rfl⟩ := hx
  exact ⟨List.mem_range.1 hi, he⟩

theorem State.planGate_edge_lt (s : State) (k n : Nat) : (s.planGate k n).2.2 < 20 := by
  show (if _ then ((s.onEdges k n).map (fun x : Nat × Nat => x.2)).foldl max 0 else minOf _ 19) < 20
  split
  · refine foldl_max_lt (by decide) (fun e he => ?_)
    obtain ⟨x, hx, rfl⟩ := List.mem_map.1 he
    exact (State.onEdge_some (State.mem_onEdges hx).2).2
  · exact Nat.lt_succ_of_le (minOf_le _ 19)

/-- What a frame turns on has its opposite off, and is requested on at the frame's edge. -/
theorem State.mem_planGate_ons (h : i ∈ (s.planGate k n).2.1) : i < 6 ∧ ¬ s.swOn k (opposite i)
    ∧ s.wants k i (20 * (n + 3) + (s.planGate k n).2.2) = true := by
  obtain ⟨x, hx, rfl⟩ := List.mem_map.1 h
  obtain ⟨hmem, hwant⟩ := List.mem_filter.1 hx
  obtain ⟨hlt, hedge⟩ := State.mem_onEdges hmem
  exact ⟨hlt, (State.onEdge_some hedge).1, (Bool.and_eq_true _ _ ▸ hwant).2⟩

/-- The switches that a RUN tile's frame turns on: those of legs without a cross-command. -/
def State.gateOns (s : State) (k n : Nat) : List Nat := (s.planGate k n).2.1.filter (fun i => !(s.crossLegs k n).contains (i / 2))

/-- Both switches of a leg are never turned on together (R265). -/
theorem State.gateOns_opposite (h : i ∈ s.gateOns k n) : opposite i ∉ s.gateOns k n := by
  intro ho
  obtain ⟨hi, hfree⟩ := List.mem_filter.1 h
  obtain ⟨hlt, -, hwant⟩ := State.mem_planGate_ons hi
  obtain ⟨-, -, hwant'⟩ := State.mem_planGate_ons (List.mem_filter.1 ho).1
  have hboth : s.wants k (2 * (i / 2)) (20 * (n + 3) + (s.planGate k n).2.2) = true
      ∧ s.wants k (2 * (i / 2) + 1) (20 * (n + 3) + (s.planGate k n).2.2) = true := by
    unfold opposite at hwant'
    split at hwant'
    · rw [show 2 * (i / 2) = i by omega]
      exact ⟨hwant, hwant'⟩
    · rw [show 2 * (i / 2) = i - 1 by omega, show i - 1 + 1 = i by omega]
      exact ⟨hwant', hwant⟩
  have hcross : i / 2 ∈ s.crossLegs k n := by
    refine List.mem_filter.2 ⟨List.mem_range.2 (by omega), List.any_eq_true.2 ⟨_, List.mem_range.2 (s.planGate_edge_lt k n), ?_⟩⟩
    rw [hboth.1, hboth.2]
    rfl
  simp [hcross] at hfree

/-! ### The frame of a RUN tile -/

/-- Cross-commands are reported. -/
def State.crossTold (s : State) (k n : Nat) : State :=
  let u := (s.crossLegs k n).foldl (fun u j => u.raiseLimited
    { code := 0x0805, obj := obj clsDT k, fields := [obj clsDT k, j + 1, 0] } 1000000 0 true) s
  if (s.crossLegs k n).isEmpty then u else u.updTile k (fun t => { t with lastEvent := 0x0805 })

/-- The switches of a RUN tile's frame have changed. -/
def State.gatesSet (s : State) (k n : Nat) : State :=
  ((s.crossTold k n).switchesOff k n (s.planGate k n).2.2 (s.planGate k n).1).switchesOn k (s.gateOns k n)

theorem State.runFrame_eq (s : State) (k n : Nat) : ∃ edge, s.runFrame k n
    = (s.gatesSet k n).gateOrWaiting k n ((s.gatesSet k n).tile k).onBits edge 0 (s.pumpAt k n) := ⟨_, rfl⟩

theorem State.crossTold_frameReady (s : State) (k n : Nat) : FrameReady k s (s.crossTold k n)
    ∧ ((s.crossTold k n).tile k).switches = (s.tile k).switches := by
  have hraise : ∀ xs : List Nat, ∀ u : State, FrameReady k u (xs.foldl (fun u j => u.raiseLimited
      { code := 0x0805, obj := obj clsDT k, fields := [obj clsDT k, j + 1, 0] } 1000000 0 true) u) := fun xs u =>
    .foldl (fun v j => ⟨State.raiseLimited_out _ _ _ _ _, State.raiseLimited_faults_of_latch_nil v rfl _ _ _,
      by rw [State.raiseLimited_tile], by rw [State.raiseLimited_tile], fun i _ => State.raiseLimited_tile _ _ _ _ _ i⟩) xs u
  have htile : ∀ xs : List Nat, ∀ u : State, (xs.foldl (fun u j => u.raiseLimited
      { code := 0x0805, obj := obj clsDT k, fields := [obj clsDT k, j + 1, 0] } 1000000 0 true) u).tile k = u.tile k := fun xs u =>
    foldl_keeps (fun v : State => v.tile k) (fun v j => State.raiseLimited_tile _ _ _ _ _ k) xs u
  unfold State.crossTold
  dsimp only
  split
  · exact ⟨hraise _ s, by rw [htile]⟩
  · refine ⟨(hraise _ s).trans (State.updTile_frameReady (by rfl) (by rfl)), ?_⟩
    rw [State.updTile_get, if_pos rfl, htile]

theorem State.gatesSet_frameReady (s : State) (k n : Nat) : FrameReady k s (s.gatesSet k n) :=
  ((s.crossTold_frameReady k n).1.trans (.foldl (fun u i => u.switchOff_frameReady k i n _) _ _)).trans
    (.foldl (fun u i => by exact State.updTile_frameReady rfl rfl) _ _)

/-- What is on after the frame was turned on by it, or was on before. -/
theorem State.gatesSet_swOn (h : (s.gatesSet k n).swOn k i) : i ∈ s.gateOns k n ∨ s.swOn k i := by
  refine (State.switchesOn_swOn.1 h).imp id (fun h => ?_)
  have hon := (State.switchesOff_swOn.1 h).2
  unfold State.swOn Tile.sw at hon ⊢
  rwa [(s.crossTold_frameReady k n).2] at hon

/-- No leg of a tile has both switches on. -/
def State.legsApart (s : State) (k : Nat) : Prop := ∀ i, i < 6 → s.swOn k i → ((s.tile k).sw (opposite i)).on = false

theorem State.gatesSet_legsApart (h : s.legsApart k) : (s.gatesSet k n).legsApart k := by
  intro i hi hon
  by_contra hopp
  have hopp : (s.gatesSet k n).swOn k (opposite i) := by simpa [State.swOn] using hopp
  obtain hnew | hold := State.gatesSet_swOn hon
  · obtain ⟨-, hoff, -⟩ := State.mem_planGate_ons (List.mem_filter.1 hnew).1
    exact (State.gatesSet_swOn hopp).elim (State.gateOns_opposite hnew) hoff
  · obtain hnew | hold' := State.gatesSet_swOn hopp
    · obtain ⟨-, hoff, -⟩ := State.mem_planGate_ons (List.mem_filter.1 hnew).1
      exact hoff (by rwa [opposite_opposite])
    · exact Bool.false_ne_true ((h i hi hold).symm.trans hold')

end Sys2Proof.Machine
end

section
namespace Sys2Proof.Machine
open Sys2Proof Sys2Proof.Claims
variable {s t u : State} {k n gates : Nat}

/-! ### The down frame of every protection state (Table 11-8) -/

/-- No switch of tile `k` is on. -/
def State.noneOn (s : State) (k : Nat) : Prop := ∀ i, i < 6 → ((s.tile k).sw i).on = false

theorem State.noneOn.legsApart (h : s.noneOn k) : s.legsApart k := fun i hi hon => absurd hon (by simp [h i hi])

theorem State.allOff_noneOn (s : State) (k n edge : Nat) : (s.allOff k n edge).noneOn k := fun _ hi =>
  Bool.eq_false_iff.2 (State.allOff_swOn hi)

theorem State.noneOn_of_switches (h : (t.tile k).switches = (u.tile k).switches) (hu : u.noneOn k) : t.noneOn k := by
  unfold State.noneOn Tile.sw at hu ⊢
  rwa [h]

theorem State.legsApart_of_switches (h : (t.tile k).switches = (u.tile k).switches) (hu : u.legsApart k) : t.legsApart k := by
  unfold State.legsApart State.swOn Tile.sw at hu ⊢
  rwa [h]

/-- Tile `k` has been sent its frame, with no switch on after it. -/
structure FrameDark (k n : Nat) (s t : State) : Prop extends FrameSent k n s t where
  dark : t.noneOn k

theorem FrameReady.dark (h : FrameReady k s u) (hu : u.noneOn k) (r : GateSent k n gates u t) : FrameDark k n s t :=
  ⟨h.sent r.toFrameSent, State.noneOn_of_switches r.switches hu⟩

theorem State.sendIdle_gateSent (s : State) (k n : Nat) :
    GateSent k n (s.tile k).gates s (s.sendWaiting k n (s.sendFrame k n idleTop)) :=
  State.sendWaiting_gateSent (State.sendFrame_gateSent (.refl k s) rfl rfl _)

theorem State.offFrame_dark (s : State) (k n : Nat) (waiting : Bool) : FrameDark k n s (s.offFrame k n waiting) := by
  have hall := s.allOff_noneOn k n 0
  have hready := s.allOff_frameReady k n 0
  unfold State.offFrame
  split
  · exact hready.dark hall (State.gateOrWaiting_gateSent _ _ _ _ _ _ _)
  · generalize s.allOff k n 0 = u at hall hready
    have hdone : FrameReady k u (u.updTile k (fun t => { t with disabling := false, latchedOff := true, gates := 0, pump := false })) :=
      State.updTile_frameReady rfl rfl
    refine (hready.trans hdone).dark (State.noneOn_of_switches ?_ hall) (State.sendIdle_gateSent _ k n)
    rw [State.updTile_get, if_pos rfl]

theorem State.heldFrame_dark (s : State) (k n : Nat) (pump : Bool) :
    FrameDark k n s ((s.allOff k n 0).gateOrWaiting k n 0 0 0 pump) :=
  (s.allOff_frameReady k n 0).dark (s.allOff_noneOn k n 0) (State.gateOrWaiting_gateSent _ _ _ _ _ _ _)

/-- A RUN tile's frame carries the gate bits of the switches that are on, and never turns on both of a leg. -/
theorem State.runFrame_sent (s : State) (k n : Nat) : FrameSent k n s (s.runFrame k n)
    ∧ ((s.runFrame k n).tile k).gates = ((s.runFrame k n).tile k).onBits ∧ (s.legsApart k → (s.runFrame k n).legsApart k) := by
  obtain ⟨edge, hrun⟩ := s.runFrame_eq k n
  have hsent := (s.gatesSet k n).gateOrWaiting_gateSent k n ((s.gatesSet k n).tile k).onBits edge 0 (s.pumpAt k n)
  rw [← hrun] at hsent
  refine ⟨(s.gatesSet_frameReady k n).sent hsent.toFrameSent, ?_, fun h =>
    State.legsApart_of_switches hsent.switches (State.gatesSet_legsApart h)⟩
  rw [hsent.gates]
  unfold Tile.onBits Tile.sw
  rw [hsent.switches]

/-- The frames of a turn-off leave the switches until its first step ends, and then turn all off (R271). -/
theorem State.twoStepFrame_sent (s : State) (k n : Nat) : FrameSent k n s (s.twoStepFrame k n)
    ∧ (s.legsApart k → (s.twoStepFrame k n).legsApart k)
    ∧ (n = (s.tile k).twoStepAt + s.softT k / 20 → (s.twoStepFrame k n).noneOn k) := by
  have held : ∀ {t gates}, GateSent k n gates s t → n ≠ (s.tile k).twoStepAt + s.softT k / 20 → FrameSent k n s t
      ∧ (s.legsApart k → t.legsApart k) ∧ (n = (s.tile k).twoStepAt + s.softT k / 20 → t.noneOn k) := fun h hn =>
    ⟨h.toFrameSent, State.legsApart_of_switches h.switches, fun hn' => absurd hn' hn⟩
  unfold State.twoStepFrame
  dsimp only
  split
  · exact held (State.sendGate_gateSent _ _ _ _ _ _ _) (by omega)
  · split
    · exact held (State.sendGate_gateSent _ _ _ _ _ _ _) (by omega)
    · split
      · have hdark : FrameDark k n s _ := (s.allOff_frameReady k n (s.softT k % 20)).dark (s.allOff_noneOn k n _)
          (State.sendGate_gateSent _ k n 0 (s.softT k % 20) 2 (s.tile k).pump)
        exact ⟨hdark.toFrameSent, fun _ => hdark.dark.legsApart, fun _ => hdark.dark⟩
      · exact held (State.gateOrWaiting_gateSent _ _ _ _ _ _ _) (by omega)

/-- The frame of period `n` by the tile's protection state. -/
def State.tileFrame (s : State) (k n : Nat) : State :=
  match (s.tile k).prot with
  | .disabled => s.offFrame k n (s.tile k).disabling
  | .enabling | .retryWait => (s.allOff k n 0).gateOrWaiting k n 0 0 0 (s.pumpAt k n)
  | .run => s.runFrame k n
  | .twoStep => s.twoStepFrame k n
  | .latched => s.offFrame k n (!(s.tile k).latchedOff)

/-- What every down frame does. -/
structure FrameDown (k n : Nat) (s t : State) : Prop extends FrameSent k n s t where
  apart : s.legsApart k → t.legsApart k
  run : (s.tile k).prot = .run → (t.tile k).gates = (t.tile k).onBits
  off : (s.tile k).prot ∉ [Prot.run, .twoStep] → t.noneOn k
  twoStep : (s.tile k).prot = .twoStep → n = (s.tile k).twoStepAt + s.softT k / 20 → t.noneOn k

theorem FrameDark.down (h : FrameDark k n s t) (hp : (s.tile k).prot ≠ .run) : FrameDown k n s t :=
  ⟨h.toFrameSent, fun _ => h.dark.legsApart, fun hr => absurd hr hp, fun _ => h.dark, fun _ _ => h.dark⟩

theorem State.tileFrame_down (s : State) (k n : Nat) : FrameDown k n s (s.tileFrame k n) := by
  unfold State.tileFrame
  split
  next hp => exact (s.offFrame_dark k n _).down (by simp [hp])
  next hp => exact (s.heldFrame_dark k n _).down (by simp [hp])
  next hp => exact (s.heldFrame_dark k n _).down (by simp [hp])
  next hp =>
    obtain ⟨hsent, hgates, hapart⟩ := s.runFrame_sent k n
    exact ⟨hsent, hapart, fun _ => hgates, fun hn => absurd hp (by simp_all), fun ht => absurd hp (by simp [ht])⟩
  next hp =>
    obtain ⟨hsent, hapart, hdark⟩ := s.twoStepFrame_sent k n
    exact ⟨hsent, hapart, fun hr => absurd hp (by simp [hr]), fun hn => absurd hp (by simp_all), fun _ => hdark⟩
  next hp => exact (s.offFrame_dark k n _).down (by simp [hp])

/-- A period that begins now, for a tile in service. -/
structure PeriodBegins (k : Nat) (s : State) : Prop where
  lt : k < 64
  service : s.inService clsDT k = true
  running : s.running = true
  start : s.tempo % 20 = 0

theorem execPslDownFrame_eq (hat : At s inFrames) (h : PeriodBegins k s) : exec (.pslDownFrame k) s
    = .next (if (s.tile k).lastPeriod = some (periodOf s.tempo) then s else s.tileFrame k (periodOf s.tempo)) := by
  obtain ⟨hlt, hserv, hrun, hstart⟩ := h
  show execPslDownFrame k s = _
  unfold execPslDownFrame
  rw [hat]
  dsimp only
  rw [hserv, hrun, hstart, decide_eq_true hlt]
  by_cases hp : (s.tile k).lastPeriod = some (periodOf s.tempo)
  · rw [if_pos hp, if_neg (by simp [hp])]
  · rw [if_neg hp, if_pos (by simpa using hp)]
    rfl

end Sys2Proof.Machine
end

section
namespace Sys2Proof.Machine
open Sys2Proof Sys2Proof.Claims
variable {s t u : State} {k o : Nat} {β : Type} {g : Tile → β}

/-! ### Reactions after which records have only grown -/

/-- From `s` to `t` records only grow, and what a view shows of the tiles stays, with the rest of `Shown`. -/
structure Keeps (g : Tile → β) (s t : State) : Prop extends Steady s t where
  shown : t.shown g = s.shown g

theorem Keeps.refl (g : Tile → β) (s : State) : Keeps g s s := ⟨.refl s, rfl⟩

theorem Keeps.trans (h : Keeps g s t) (r : Keeps g t u) : Keeps g s u := ⟨h.toSteady.trans r.toSteady, r.shown.trans h.shown⟩

theorem Keeps.ite {c : Prop} [Decidable c] (h : Keeps g s t) (r : Keeps g s u) : Keeps g s (if c then t else u) := by
  split
  · exact h
  · exact r

theorem Keeps.view (h : Keeps g s t) (j : Nat) : g (t.tile j) = g (s.tile j) := State.view_of_shown h.shown j

theorem State.updTile_keeps {f : Tile → Tile} (hf : g (f (s.tile k)) = g (s.tile k)) : Keeps g s (s.updTile k f) :=
  ⟨.of_eq rfl, State.shown_updTile hf⟩

theorem State.setTile_keeps {v : Tile} (hv : g v = g (s.tile k)) : Keeps g s (s.setTile k v) := ⟨.of_eq rfl, State.shown_setTile hv⟩

theorem State.raise_keeps (s : State) (e : Ev) : Keeps g s (s.raise e) := ⟨s.raise_steady e, s.shown_raise e⟩

/-! ### Axes that react -/

theorem State.coastAxis_steady (s : State) (o : Nat) : Steady s (s.coastAxis o) := by
  unfold State.coastAxis
  extract_lets s1
  have h1 : Steady s s1 := .of_eq rfl
  exact (h1.trans (.foldl (fun u k => by exact .ite (u.polyTo_steady k .off) (.refl u)) _ s1)).trans (State.endRunout_steady _ _ _)

theorem State.endRunout_axis (s : State) (o cause p : Nat) : (s.endRunout o cause).axis p = s.axis p := by
  unfold State.endRunout
  dsimp only
  split
  · rw [State.raise_axis, State.updTile_axis]
  · rfl

theorem State.polyTo_axis (s : State) (k : Nat) (st : Poly) (p : Nat) : (s.polyTo k st).axis p = s.axis p := by
  unfold State.polyTo
  dsimp only
  split
  · rfl
  · rw [State.raise_axis, State.setPoly_axis]

/-- An axis that coasts is FAULTED. -/
theorem State.coastAxis_faulted (s : State) (o : Nat) : ((s.coastAxis o).axis o).state = .faulted := by
  unfold State.coastAxis
  extract_lets s1
  rw [State.endRunout_axis, foldl_keeps (fun u : State => u.axis o) (fun u k => by
    split
    · exact u.polyTo_axis k .off o
    · rfl), State.updAxis_get, if_pos rfl]

section
variable (hg : ∀ x : Tile, g x.still = g x)
include hg

theorem State.refresh_keeps (s : State) (ks : List Nat) : Keeps g s (s.refresh ks) :=
  ⟨s.refresh_steady ks, State.shown_of_standing hg (s.refresh_standing ks)⟩

theorem State.tileCoast_keeps (s : State) (k code : Nat) (fields : List Nat) : Keeps g s (s.tileCoast k code fields) :=
  (s.raise_keeps _).trans ⟨State.coastAxis_steady _ _, State.shown_of_standing hg (State.coastAxis_standing _ _)⟩

theorem State.sensorFault_keeps (hs : ∀ x : Tile, ∀ now, g { x with sensorSince := now } = g x) (s : State) (k cause count : Nat) :
    Keeps g s (s.sensorFault k cause count) :=
  (State.updTile_keeps (hs _ _)).trans (State.tileCoast_keeps hg _ _ _ _)

end

/-! ### What a frame of a tile shows is acted on: measurements, encoder, resolver and history -/

/-- What the Power Stage Link knows of a tile. -/
structure TileLink where
  upAt : Option Nat
  badRun : Nat
  up : Receiver
  down : Receiver
  errors : Nat
  slow : Option (List Bool)
  slowWord : Option (List Bool)
  flags : Nat
  offok : Nat
  switches : Map Switch

def Tile.link (x : Tile) : TileLink where
  upAt := x.upAt
  badRun := x.badRun
  up := x.up
  down := x.down
  errors := x.errors
  slow := x.slow
  slowWord := x.slowWord
  flags := x.flags
  offok := x.offok
  switches := x.switches

/-- The link of a tile with its protection state and the cause of its last short. -/
def Tile.guard (x : Tile) : TileLink × Prot × Nat := (x.link, x.prot, x.shortCause)

theorem State.sincFrame_keeps (s : State) (k m w : Nat) : Keeps Tile.guard s (s.sincFrame k m w) := by
  unfold State.sincFrame
  dsimp only
  exact State.updTile_keeps rfl

theorem State.encFrame_keeps (s : State) (k w : Nat) (ok : Bool) : Keeps Tile.guard s (s.encFrame k w ok) := by
  have fault : ∀ v : Tile, v.guard = (s.tile k).guard → ∀ c : Nat, Keeps Tile.guard s ((s.setTile k v).sensorFault k 1 c) := fun v hv c =>
    (State.setTile_keeps hv).trans (State.sensorFault_keeps (fun _ => rfl) (fun _ _ => rfl) _ _ _ _)
  unfold State.encFrame
  extract_lets t a b need ra rb ca cb t1 errs s1
  refine .ite (.refl _ s) (.ite (State.setTile_keeps (by rfl)) ?_)
  refine .ite (.ite (fault _ (by rfl) _) (State.setTile_keeps (by rfl))) (.ite (State.setTile_keeps (by rfl)) (State.setTile_keeps (by rfl)))

theorem State.resFrame_keeps (s : State) (k : Nat) : Keeps Tile.guard s (s.resFrame k) := by
  unfold State.resFrame
  extract_lets t s1
  have h1 : Keeps Tile.guard s s1 := State.setTile_keeps rfl
  exact .ite (.refl _ s) (.ite (h1.trans (State.sensorFault_keeps (fun _ => rfl) (fun _ _ => rfl) _ _ _ _)) h1)

theorem State.historyFrame_keeps (s : State) (k : Nat) : Keeps Tile.guard s (s.historyFrame k) := State.updTile_keeps rfl

theorem State.postShort_keeps (s : State) (k cause first later sw blank : Nat) :
    Keeps Tile.guard s (s.postShort k cause first later sw blank) :=
  (State.updTile_keeps (f := fun t => { t with shortAt := none, lastEvent := 0x0801 }) rfl).trans
    ⟨State.queueEv_steady _ _, State.shown_queueEv _ _⟩

theorem State.lateShort_keeps (s : State) (k : Nat) : Keeps Tile.guard s (s.lateShort k) := by
  unfold State.lateShort
  split
  · exact .ite (s.postShort_keeps _ _ _ _ _ _) (.refl _ s)
  · exact .refl _ s

/-- What is left to do once the link and the protection have taken a frame. -/
def State.frameEnd (s : State) (k c : Nat) (ok : Bool) (ks : List Nat) : State :=
  let word := (s.tile k).lastWord.getD 0
  let s2 := (((s.sincFrame k (c - 3) word).encFrame k word ok).resFrame k).historyFrame k
  (s2.lateShort k).refresh ks

theorem State.frameEnd_keeps (s : State) (k c : Nat) (ok : Bool) (ks : List Nat) : Keeps Tile.guard s (s.frameEnd k c ok ks) := by
  unfold State.frameEnd
  extract_lets word s2
  have h2 : Keeps Tile.guard s s2 := (((s.sincFrame_keeps k _ _).trans (State.encFrame_keeps _ _ _ _)).trans (State.resFrame_keeps _ _)).trans
    (State.historyFrame_keeps _ _)
  exact (h2.trans (s2.lateShort_keeps k)).trans (State.refresh_keeps (fun _ => rfl) _ _)

end Sys2Proof.Machine
end

section
namespace Sys2Proof.Machine
open Sys2Proof Sys2Proof.Claims
variable {s t u : State} {k c w cause flags : Nat}

/-! ### Reactions to a frame: what they leave of the link -/

theorem State.turnOff_link (s : State) (k : Nat) (retry : Bool) (cause : Nat) : (s.turnOff k retry cause).shown Tile.link = s.shown Tile.link :=
  State.turnOff_shown (fun _ _ _ _ => rfl) (fun _ => rfl) s k retry cause

theorem State.raiseDt_link (s : State) (k : Nat) (e : Ev) : (s.raiseDt k e).shown Tile.link = s.shown Tile.link :=
  State.shown_raiseDt (fun _ _ => rfl) s k e

theorem State.outputsRun_standing (s : State) (k : Nat) : (s.outputsRun k).standing = s.standing := by
  unfold State.outputsRun
  split
  · split
    · rfl
    · split <;> rfl
  · split
    · exact foldl_keeps State.standing (fun _ _ => by rfl) _ s
    · rfl

/-- A tile that reaches RUN. -/
def Tile.runs (x : Tile) (now : Tempo) (align : Bool) : Tile :=
  { x with prot := .run, since := now, released := false, aligning := if align then some now else x.aligning }

theorem State.reachRun_standing (s : State) (k : Nat) : ∃ align,
    (s.reachRun k).standing = (s.updTile k (fun x => x.runs s.tempo align)).standing := by
  refine ⟨(s.tile k).prot == .enabling && s.tMode k == 2 && bit (s.fb k 6 1) 0, ?_⟩
  unfold State.reachRun
  extract_lets first s1 s2
  have h2 : s2.standing = s1.standing := State.outputsRun_standing _ _
  refine Eq.trans ?_ h2
  split
  · rfl
  · rfl

theorem State.reachRun_link (s : State) (k : Nat) : (s.reachRun k).shown Tile.link = s.shown Tile.link := by
  obtain ⟨align, h⟩ := s.reachRun_standing k
  exact (State.shown_of_standing (fun _ => rfl) h).trans (State.shown_updTile rfl)

theorem State.reachRun_tile (s : State) (k : Nat) : ((s.reachRun k).tile k).prot = .run ∧ ((s.reachRun k).tile k).released = false := by
  obtain ⟨align, h⟩ := s.reachRun_standing k
  have htile : ((s.reachRun k).tile k).still = ((s.tile k).runs s.tempo align).still := by
    refine (congrArg (fun x : Standing => x.tile k) h).trans ?_
    show ((s.updTile k (fun x => x.runs s.tempo align)).tile k).still = _
    rw [State.updTile_get, if_pos rfl]
  exact ⟨congrArg Tile.prot htile, congrArg Tile.released htile⟩

theorem State.shortSeen_link (s : State) (k cause : Nat) : (s.shortSeen k cause).shown Tile.link = s.shown Tile.link := by
  unfold State.shortSeen
  split
  · refine (State.turnOff_link _ _ _ _).trans ((State.shown_updTile (by rfl)).trans ?_)
    split
    · rfl
    · exact State.shown_latchNew _ _ _
  · rfl

theorem State.linkFault_link (s : State) (k cause : Nat) : (s.linkFault k cause).shown Tile.link = s.shown Tile.link := by
  unfold State.linkFault
  dsimp only
  split
  · exact State.raiseDt_link _ _ _
  · split
    · exact (State.turnOff_link _ _ _ _).trans (State.raiseDt_link _ _ _)
    · rfl

theorem State.uvSeen_link (s : State) (k : Nat) : (s.uvSeen k).shown Tile.link = s.shown Tile.link := by
  unfold State.uvSeen
  split
  · exact (State.turnOff_link _ _ _ _).trans (State.raiseDt_link _ _ _)
  · rfl

theorem State.flagsFrame_link (s : State) (k flags : Nat) : (s.flagsFrame k flags).shown Tile.link = s.shown Tile.link := by
  unfold State.flagsFrame
  extract_lets t short cause good s1
  split
  · split
    · exact State.shortSeen_link _ _ _
    · have h1 : s1.shown Tile.link = s.shown Tile.link := State.shown_setTile rfl
      split
      · exact (State.reachRun_link _ _).trans h1
      · exact h1
  · split
    · exact State.shortSeen_link _ _ _
    · split
      · exact State.uvSeen_link _ _
      · rfl
  · rfl

theorem State.typeFrame_link (s : State) (k old new flags : Nat) : (s.typeFrame k old new flags).shown Tile.link = s.shown Tile.link := by
  unfold State.typeFrame
  extract_lets t s1 s2
  have h1 : s1.shown Tile.link = s.shown Tile.link := State.shown_updTile rfl
  have h2 : s2.shown Tile.link = s.shown Tile.link :=
    (foldl_keeps (State.shown Tile.link) (fun u c => by rfl) _ s1).trans h1
  have hcfg : ∀ v : State, (v.startCfg k 0).shown Tile.link = v.shown Tile.link := fun v => State.shown_updTile rfl
  split
  · split
    · exact (hcfg _).trans ((State.raiseDt_link _ _ _).trans h1)
    · split
      · exact (hcfg _).trans h1
      · exact h1
  · split
    · split
      · exact h1
      · exact (State.turnOff_link _ _ _ _).trans ((State.raiseDt_link _ _ _).trans h1)
    · split
      · exact (State.linkFault_link _ _ _).trans h1
      · split
        · exact (State.raiseDt_link _ _ _).trans ((State.reachRun_link _ _).trans h2)
        · exact h1

/-! ### Reactions to a frame: what they do to the tile -/

/-- A tile that is turned off now. -/
theorem State.turnOff_self (h : (s.tile k).prot ∈ [Prot.enabling, .run]) (retry : Bool) (cause : Nat) :
    ((s.turnOff k retry cause).tile k).prot = .twoStep ∧ ((s.turnOff k retry cause).tile k).released = false
      ∧ ((s.turnOff k retry cause).tile k).shortCause = (s.tile k).shortCause := by
  rw [State.turnOff_tile (State.canTurnOff_of_on h)]
  exact ⟨rfl, rfl, rfl⟩

/-- An event that latches its fault on the tile and turns it off, on a tile that is on. -/
theorem State.raiseDt_turnOff {e : Ev} (hhere : s.objHere (obj clsDT k) = true) (hp : (s.tile k).prot ∈ [Prot.enabling, .run])
    (hm : obj clsDT k ∈ e.latch) (hc : e.code ≠ 0x0c12) (retry : Bool) (cause : Nat) :
    (((s.raiseDt k e).turnOff k retry cause).tile k).prot = .twoStep
      ∧ (((s.raiseDt k e).turnOff k retry cause).tile k).released = false
      ∧ ((s.raiseDt k e).turnOff k retry cause).latched e.code (obj clsDT k) = true
      ∧ Raised ((s.raiseDt k e).turnOff k retry cause) e.code (obj clsDT k) e.fields := by
  have hon : ((s.raiseDt k e).tile k).prot ∈ [Prot.enabling, .run] := by
    rw [State.raiseDt_tile, if_pos rfl]
    exact hp
  have hsteady := (s.raiseDt k e).turnOff_steady k retry cause
  obtain ⟨hprot, hrel, -⟩ := State.turnOff_self hon retry cause
  exact ⟨hprot, hrel, hsteady.toOnward.latched (State.latched_raiseDt hhere hm), hsteady.toOnward.raised hc (State.raised_raiseDt hhere)⟩

theorem State.linkFault_on (hhere : s.objHere (obj clsDT k) = true) (hp : (s.tile k).prot ∈ [Prot.enabling, .run]) :
    ((s.linkFault k cause).tile k).prot = .twoStep ∧ (s.linkFault k cause).latched 0x0802 (obj clsDT k) = true
      ∧ Raised (s.linkFault k cause) 0x0802 (obj clsDT k) [obj clsDT k, cause] := by
  have hne : (s.tile k).prot ≠ .disabled := fun hd => by simp [hd] at hp
  have heq : s.linkFault k cause
      = (s.raiseDt k { code := 0x0802, fields := [obj clsDT k, cause], latch := [obj clsDT k] }).turnOff k true 4 := by
    unfold State.linkFault
    dsimp only
    rw [if_neg hne, if_pos (State.canTurnOff_of_on hp)]
  rw [heq]
  obtain ⟨hprot, -, hlat, hr⟩ := State.raiseDt_turnOff (e := { code := 0x0802, fields := [obj clsDT k, cause], latch := [obj clsDT k] })
    hhere hp List.mem_cons_self (Nat.ne_of_beq_eq_false rfl) true 4
  exact ⟨hprot, hlat, hr⟩

theorem State.linkFault_disabled (hhere : s.objHere (obj clsDT k) = true) (hp : (s.tile k).prot = .disabled) :
    ((s.linkFault k cause).tile k).prot = .disabled ∧ Raised (s.linkFault k cause) 0x0802 (obj clsDT k) [obj clsDT k, cause] := by
  have heq : s.linkFault k cause = s.raiseDt k { code := 0x0802, fields := [obj clsDT k, cause] } := if_pos hp
  rw [heq]
  refine ⟨?_, State.raised_raiseDt hhere⟩
  rw [State.raiseDt_tile, if_pos rfl]
  exact hp

/-- A short is latched at once, and turns off a tile that is on. -/
theorem State.shortSeen_on (hp : (s.tile k).prot ∈ [Prot.enabling, .run]) (cause : Nat) :
    ((s.shortSeen k cause).tile k).prot = .twoStep ∧ ((s.shortSeen k cause).tile k).released = false
      ∧ ((s.shortSeen k cause).tile k).shortCause = cause ∧ ((s.shortSeen k cause).tile k).shortAt = some s.tempo
      ∧ (s.shortSeen k cause).latched 0x0801 (obj clsDT k) = true := by
  have hlat : ∃ v : State, v.latched 0x0801 (obj clsDT k) = true ∧ v.tile k = s.tile k ∧ v.tempo = s.tempo
      ∧ s.shortSeen k cause = (v.updTile k (fun t => { t with shortCause := cause, shortAt := some s.tempo })).turnOff k true cause := by
    unfold State.shortSeen
    rw [if_pos (State.canTurnOff_of_on hp)]
    dsimp only
    split
    · next hl => exact ⟨s, hl, rfl, rfl, rfl⟩
    · refine ⟨_, s.latched_latchNew _ _, ?_, (s.latchNew_steady _ _).tempo, rfl⟩
      obtain ⟨_, _, _, _, h⟩ := s.latchNew_eq 0x0801 (obj clsDT k)
      rw [h]
      rfl
  obtain ⟨v, hv, htile, htempo, heq⟩ := hlat
  have hself : (v.updTile k (fun t => { t with shortCause := cause, shortAt := some s.tempo })).tile k
      = { s.tile k with shortCause := cause, shortAt := some s.tempo } := by
    rw [State.updTile_get, if_pos rfl, htile]
  have hon : State.canTurnOff (v.updTile k (fun t => { t with shortCause := cause, shortAt := some s.tempo })) k = true :=
    State.canTurnOff_of_on (by rw [hself]; exact hp)
  rw [heq, State.turnOff_tile hon, hself]
  exact ⟨rfl, rfl, rfl, rfl, (State.turnOff_steady _ _ _ _).toOnward.latched (by exact hv)⟩

/-- UV latches its fault and turns off a tile in RUN. -/
theorem State.uvSeen_run (hhere : s.objHere (obj clsDT k) = true) (hp : (s.tile k).prot = .run) :
    ((s.uvSeen k).tile k).prot = .twoStep ∧ ((s.uvSeen k).tile k).released = false
      ∧ (s.uvSeen k).latched 0x0803 (obj clsDT k) = true ∧ Raised (s.uvSeen k) 0x0803 (obj clsDT k) [obj clsDT k, 2] := by
  have heq : s.uvSeen k = (s.raiseDt k { code := 0x0803, fields := [obj clsDT k, 2], latch := [obj clsDT k] }).turnOff k true 3 := if_pos hp
  rw [heq]
  exact State.raiseDt_turnOff (e := { code := 0x0803, fields := [obj clsDT k, 2], latch := [obj clsDT k] }) hhere
    (by simp [hp]) List.mem_cons_self (Nat.ne_of_beq_eq_false rfl) true 3

end Sys2Proof.Machine
end

section
namespace Sys2Proof.Machine
open Sys2Proof Sys2Proof.Claims
variable {s t u : State} {k c w flags : Nat} {ok crc echo : Bool}

/-! ### The fields of an up frame (R262, R263, R268) -/

theorem Tile.offokFrame_eq (x : Tile) (m c offok : Nat) : ∃ sw, x.offokFrame m c offok = { x with offok := offok, switches := sw } := by
  unfold Tile.offokFrame
  refine foldl_pred (P := fun y : Tile => ∃ sw, y = { x with offok := offok, switches := sw }) (fun y i h => ?_) ⟨_, rfl⟩
  obtain ⟨sw, rfl⟩ := h
  exact ⟨_, rfl⟩

theorem Tile.wordFrame_eq (x : Tile) (c now w : Nat) : ∃ run sp dg sw, x.wordFrame c now w = { x with
    lastWord := some w, flags := field w 13 3, cleanRun := run, spoilt := sp, diag := dg, offok := field w 16 6, switches := sw } := by
  unfold Tile.wordFrame
  dsimp only
  obtain ⟨sw, h⟩ := Tile.offokFrame_eq { x with
    lastWord := some w, flags := field w 13 3, cleanRun := if field w 13 3 = 0 then x.cleanRun + 1 else 0
    spoilt := if field w 13 3 ≠ 0 ∧ 16 ≤ x.cleanRun then some now else x.spoilt
    diag := x.diag.map (fun d => d.watch c (field w 13 3)) } (c - 3) c (field w 16 6)
  exact ⟨_, _, _, sw, h⟩

theorem Tile.slowFrame_eq (x : Tile) (c : Nat) (b : Bool) : ∃ sl word err bad, x.slowFrame c b = { x with
    slow := sl, slowWord := word, errors := err, badWord := bad } := by
  unfold Tile.slowFrame
  extract_lets seqOf
  split
  · split
    · exact ⟨_, _, _, _, rfl⟩
    · exact ⟨_, _, _, _, rfl⟩
  · dsimp only
    split
    · exact ⟨_, _, _, _, rfl⟩
    · split
      · exact ⟨_, _, _, _, rfl⟩
      · exact ⟨_, _, _, _, rfl⟩

/-- A tile that has taken the fields of a frame, with its slow bit when the frame was good. -/
def Tile.fieldsTaken (x : Tile) (c now w : Nat) (ok : Bool) : Tile :=
  let y := x.wordFrame c now w
  if ok then y.slowFrame c (bit w 6) else y

theorem Tile.fieldsTaken_eq (x : Tile) (c now w : Nat) (ok : Bool) : ∃ run sp dg sw sl word err bad, x.fieldsTaken c now w ok = { x with
      lastWord := some w, flags := field w 13 3, cleanRun := run, spoilt := sp, diag := dg, offok := field w 16 6, switches := sw
      slow := sl, slowWord := word, errors := err, badWord := bad } ∧ (ok = false → err = x.errors ∧ sl = x.slow) := by
  obtain ⟨run, sp, dg, sw, hw⟩ := x.wordFrame_eq c now w
  unfold Tile.fieldsTaken
  dsimp only
  rw [hw]
  cases ok
  · exact ⟨run, sp, dg, sw, _, _, _, _, rfl, fun _ => ⟨rfl, rfl⟩⟩
  · obtain ⟨sl, word, err, bad, hs⟩ := Tile.slowFrame_eq { x with
      lastWord := some w, flags := field w 13 3, cleanRun := run, spoilt := sp, diag := dg, offok := field w 16 6, switches := sw } c (bit w 6)
    exact ⟨run, sp, dg, sw, sl, word, err, bad, hs, fun h => absurd h (by decide)⟩

/-- The flags of a frame that act, with the one that a self-test forces masked (R279). -/
def Tile.actingFlags (x : Tile) (c w : Nat) : Nat := match x.diag with
  | some d => d.mask c (field w 13 3)
  | none => field w 13 3

theorem Tile.actingFlags_zero {x : Tile} (h : field w 13 3 = 0) : x.actingFlags c w = 0 := by
  unfold Tile.actingFlags Diag.mask
  rw [h]
  split
  · dsimp only
    split
    · simp
    · rfl
  · rfl

theorem State.fieldsFrame_eq (s : State) (k c w : Nat) (ok : Bool) : s.fieldsFrame k c w ok
    = ((s.updTile k (fun x => x.fieldsTaken c s.tempo w ok)).flagsFrame k ((s.tile k).actingFlags c w)).typeFrame k (s.tile k).epType
      (field w 22 2) ((s.tile k).actingFlags c w) := rfl

/-- What the link of a tile shows after the fields of a frame is what the tile took from them. -/
theorem State.fieldsFrame_link (s : State) (k c w : Nat) (ok : Bool) :
    ((s.fieldsFrame k c w ok).tile k).link = ((s.tile k).fieldsTaken c s.tempo w ok).link := by
  rw [s.fieldsFrame_eq]
  refine (State.view_of_shown ((State.typeFrame_link _ _ _ _ _).trans (State.flagsFrame_link _ _ _)) k).trans ?_
  rw [State.updTile_get, if_pos rfl]

theorem State.fieldsFrame_objHere (s : State) (k c w : Nat) (ok : Bool) (o : Nat) : (s.fieldsFrame k c w ok).objHere o = s.objHere o := by
  rw [s.fieldsFrame_eq]
  exact State.objHere_of_shown ((State.typeFrame_link _ _ _ _ _).trans (State.flagsFrame_link _ _ _)) o

/-- What is known of the frames of a link. -/
def TileLink.heard (l : TileLink) : Option Nat × Nat × Receiver × Receiver := (l.upAt, l.badRun, l.up, l.down)

theorem State.frameIn_heard (s : State) (k c w : Nat) (ok : Bool) : ((s.frameIn k c w ok).tile k).link.heard = (s.tile k).link.heard := by
  have fields : ∀ w ok, ((s.fieldsFrame k c w ok).tile k).link.heard = (s.tile k).link.heard := fun w ok => by
    obtain ⟨run, sp, dg, sw, sl, word, err, bad, h, -⟩ := (s.tile k).fieldsTaken_eq c s.tempo w ok
    rw [State.fieldsFrame_link, h]
    rfl
  unfold State.frameIn
  split
  · exact fields w true
  · split
    · exact fields _ false
    · rfl

/-- An errored frame leaves the error count and the slow word that `linkFrame` has set. -/
theorem State.frameIn_errored (s : State) (k c w : Nat) : ((s.frameIn k c w false).tile k).errors = (s.tile k).errors
    ∧ ((s.frameIn k c w false).tile k).slow = (s.tile k).slow := by
  unfold State.frameIn
  rw [if_neg Bool.false_ne_true]
  split
  · next x _ =>
    have hlink := s.fieldsFrame_link k c x false
    obtain ⟨run, sp, dg, sw, sl, word, err, bad, h, hold⟩ := (s.tile k).fieldsTaken_eq c s.tempo x false
    obtain ⟨herr, hslow⟩ := hold rfl
    rw [h, herr, hslow] at hlink
    exact ⟨congrArg TileLink.errors hlink, congrArg TileLink.slow hlink⟩
  · exact ⟨rfl, rfl⟩

theorem State.frameIn_objHere (s : State) (k c w : Nat) (ok : Bool) (o : Nat) : (s.frameIn k c w ok).objHere o = s.objHere o := by
  unfold State.frameIn
  split
  · exact s.fieldsFrame_objHere k c w true o
  · split
    · exact s.fieldsFrame_objHere k c _ false o
    · rfl

/-! ### Flags and TYPE of a frame (R268, R270, Table 11-4) -/

/-- TYPE 0 on a tile that has not been released changes nothing but the type. -/
theorem State.typeFrame_data (h : (s.tile k).released = false) (old flags : Nat) :
    s.typeFrame k old 0 flags = s.updTile k (fun x => { x with epType := 0 }) := by
  unfold State.typeFrame
  simp [h]

/-- The protection state after a frame without a flag: the sixteenth takes an ENABLING tile to RUN. -/
def Tile.cleanProt (x : Tile) : Prot := if x.prot = .enabling ∧ 15 ≤ x.goodUv then .run else x.prot

theorem State.flagsFrame_clean (h : (s.tile k).released = false) :
    ((s.flagsFrame k 0).tile k).prot = (s.tile k).cleanProt ∧ ((s.flagsFrame k 0).tile k).released = false := by
  by_cases hen : (s.tile k).prot = .enabling
  · have hgood : ((s.setTile k { s.tile k with goodUv := (s.tile k).goodUv + 1 }).tile k) = { s.tile k with goodUv := (s.tile k).goodUv + 1 } := by
      rw [State.setTile_get, if_pos rfl]
    have heq : s.flagsFrame k 0 = if 16 ≤ (s.tile k).goodUv + 1
        then (s.setTile k { s.tile k with goodUv := (s.tile k).goodUv + 1 }).reachRun k
        else s.setTile k { s.tile k with goodUv := (s.tile k).goodUv + 1 } := by
      unfold State.flagsFrame
      dsimp only
      rw [hen]
      rfl
    rw [heq]
    split
    · next h16 =>
      obtain ⟨hprot, hrel⟩ := State.reachRun_tile (s.setTile k { s.tile k with goodUv := (s.tile k).goodUv + 1 }) k
      exact ⟨hprot.trans (if_pos ⟨hen, by omega⟩).symm, hrel⟩
    · next h16 =>
      rw [hgood]
      exact ⟨(if_neg (fun hc => h16 (by omega))).symm, h⟩
  · have heq : s.flagsFrame k 0 = s := by
      unfold State.flagsFrame
      dsimp only
      split
      · next hc => exact absurd hc hen
      · rfl
      · rfl
    rw [heq]
    exact ⟨(if_neg (fun hc => hen hc.1)).symm, h⟩

/-- A tile that has taken the fields of a frame keeps what protection decides by. -/
theorem State.taken_tile (s : State) (k c w : Nat) (ok : Bool) :
    ((s.updTile k (fun x => x.fieldsTaken c s.tempo w ok)).tile k).prot = (s.tile k).prot
      ∧ ((s.updTile k (fun x => x.fieldsTaken c s.tempo w ok)).tile k).goodUv = (s.tile k).goodUv
      ∧ ((s.updTile k (fun x => x.fieldsTaken c s.tempo w ok)).tile k).released = (s.tile k).released := by
  obtain ⟨run, sp, dg, sw, sl, word, err, bad, h, -⟩ := (s.tile k).fieldsTaken_eq c s.tempo w ok
  rw [State.updTile_get, if_pos rfl, h]
  exact ⟨rfl, rfl, rfl⟩

/-- After a frame of TYPE 0 whose flags leave the tile unreleased, what the flags have brought about stands. -/
theorem State.fieldsFrame_data (htype : field w 22 2 = 0) (hrel : (((s.updTile k (fun x => x.fieldsTaken c s.tempo w ok)).flagsFrame k
      ((s.tile k).actingFlags c w)).tile k).released = false) : ∃ v, s.fieldsFrame k c w ok = v.updTile k (fun x => { x with epType := 0 })
    ∧ v = (s.updTile k (fun x => x.fieldsTaken c s.tempo w ok)).flagsFrame k ((s.tile k).actingFlags c w) := by
  refine ⟨_, ?_, rfl⟩
  rw [s.fieldsFrame_eq, htype, State.typeFrame_data hrel]

theorem State.fieldsFrame_clean (hflags : field w 13 3 = 0) (htype : field w 22 2 = 0) (hrel : (s.tile k).released = false) :
    ((s.fieldsFrame k c w ok).tile k).prot = (s.tile k).cleanProt := by
  obtain ⟨hprot, hgood, hrel'⟩ := s.taken_tile k c w ok
  obtain ⟨hclean, hafter⟩ := State.flagsFrame_clean (hrel'.trans hrel)
  rw [← Tile.actingFlags_zero (c := c) (x := s.tile k) hflags] at hclean hafter
  obtain ⟨v, hv, rfl⟩ := State.fieldsFrame_data htype hafter
  rw [hv, State.updTile_get, if_pos rfl]
  refine hclean.trans ?_
  unfold Tile.cleanProt
  rw [hprot, hgood]

section
variable (htype : field w 22 2 = 0) (hdiag : (s.tile k).diag = none)
include htype hdiag

theorem State.fieldsFrame_short (hp : (s.tile k).prot ∈ [Prot.enabling, .run]) (hshort : 2 ≤ field w 13 3) :
    ((s.fieldsFrame k c w ok).tile k).prot = .twoStep ∧ (s.fieldsFrame k c w ok).latched 0x0801 (obj clsDT k) = true
      ∧ ((s.fieldsFrame k c w ok).tile k).shortCause = if bit (field w 13 3) 1 then 2 else 1 := by
  have hacting : (s.tile k).actingFlags c w = field w 13 3 := by unfold Tile.actingFlags; rw [hdiag]
  obtain ⟨hprot, -, -⟩ := s.taken_tile k c w ok
  have hp' : ((s.updTile k (fun x => x.fieldsTaken c s.tempo w ok)).tile k).prot ∈ [Prot.enabling, .run] := hprot ▸ hp
  have hflags : (s.updTile k (fun x => x.fieldsTaken c s.tempo w ok)).flagsFrame k ((s.tile k).actingFlags c w)
      = (s.updTile k (fun x => x.fieldsTaken c s.tempo w ok)).shortSeen k (if bit (field w 13 3) 1 then 2 else 1) := by
    rw [hacting]
    unfold State.flagsFrame
    dsimp only
    rw [decide_eq_true hshort]
    simp only [List.mem_cons, List.not_mem_nil, or_false] at hp'
    obtain hp' | hp' := hp' <;> rw [hp'] <;> rfl
  obtain ⟨htwo, hrel, hcause, -, hlat⟩ := State.shortSeen_on hp' (if bit (field w 13 3) 1 then 2 else 1)
  rw [← hflags] at htwo hrel hcause hlat
  obtain ⟨v, hv, he⟩ := State.fieldsFrame_data htype hrel
  rw [← he] at htwo hcause hlat
  rw [hv, State.updTile_get, if_pos rfl]
  exact ⟨htwo, hlat, hcause⟩

theorem State.fieldsFrame_uv (hhere : s.objHere (obj clsDT k) = true) (hp : (s.tile k).prot = .run) (huv : field w 13 3 = 1) :
    ((s.fieldsFrame k c w ok).tile k).prot = .twoStep ∧ (s.fieldsFrame k c w ok).latched 0x0803 (obj clsDT k) = true
      ∧ Raised (s.fieldsFrame k c w ok) 0x0803 (obj clsDT k) [obj clsDT k, 2] := by
  have hacting : (s.tile k).actingFlags c w = 1 := by unfold Tile.actingFlags; rw [hdiag]; exact huv
  obtain ⟨hprot, -, -⟩ := s.taken_tile k c w ok
  have hflags : (s.updTile k (fun x => x.fieldsTaken c s.tempo w ok)).flagsFrame k ((s.tile k).actingFlags c w)
      = (s.updTile k (fun x => x.fieldsTaken c s.tempo w ok)).uvSeen k := by
    rw [hacting]
    unfold State.flagsFrame
    dsimp only
    rw [hprot, hp]
    rfl
  obtain ⟨htwo, hrel, hlat, hr⟩ := State.uvSeen_run (s := s.updTile k (fun x => x.fieldsTaken c s.tempo w ok)) hhere (hprot.trans hp)
  rw [← hflags] at htwo hrel hlat hr
  obtain ⟨v, hv, he⟩ := State.fieldsFrame_data htype hrel
  rw [← he] at htwo hlat hr
  rw [hv, State.updTile_get, if_pos rfl]
  exact ⟨htwo, hlat, hr⟩

end

end Sys2Proof.Machine
end

section
namespace Sys2Proof.Machine
open Sys2Proof Sys2Proof.Claims
variable {s t u : State} {k c w : Nat} {crc echo : Bool} {x : Tile}

/-! ### PSL_UP_FRAME (R257, R262, R268, R270) -/

/-- Protection has taken the frame of period `c`: the link's state, the fields while the receiver is in step, and the fault of a second
bad frame in a row. -/
def State.frameJudged (s : State) (k c w : Nat) (crc echo : Bool) : State :=
  let s0 := s.updTile k (fun x => x.linkFrame c crc echo)
  let sF := if (s.tile k).up.inStep then s0.frameIn k c w (crc && echo) else s0
  if !(crc && echo) && (s.tile k).badRun == 1 then sF.linkFault k (if crc then 2 else 1) else sF

/-- The SEQ that the tile is to echo in period `c` is the one of the frame. -/
def Tile.echoes (x : Tile) (c w : Nat) : Bool := match x.lastPeriod with
  | some n => decide (field w 4 2 = (x.seq + 15 + 16 * (n + 16) - (n + 6 - c)) % 4)
  | none => true

theorem execPslUpFrame_eq (hat : At s inCapture) (h : PeriodBegins k s) (hc : c = periodOf s.tempo) (h3 : 3 ≤ c)
    (hnew : (s.tile k).upAt ≠ some c) (w : BitVec 24) : exec (.pslUpFrame k w) s = .next
      ((s.frameJudged k c w.toNat (upCrcOk w.toNat) ((s.tile k).echoes c w.toNat)).frameEnd k c
        (upCrcOk w.toNat && (s.tile k).echoes c w.toNat) (s.circle k)) := by
  obtain ⟨hlt, hserv, hrun, hstart⟩ := h
  subst hc
  show execPslUpFrame k w s = _
  unfold execPslUpFrame
  rw [hat]
  refine congrArg _ ((if_pos ?_).trans rfl)
  rw [hserv, hrun, hstart, decide_eq_true hlt, decide_eq_true h3]
  simpa using hnew

section
variable (s) (k c w) (crc echo)

/-- The tile when the link has taken the frame. -/
theorem State.linkFrame_tile : (s.updTile k (fun x => x.linkFrame c crc echo)).tile k = (s.tile k).linkFrame c crc echo := by
  rw [State.updTile_get, if_pos rfl]

/-- The last step leaves what the link knows. -/
theorem State.frameJudged_link : ((s.frameJudged k c w crc echo).tile k).link =
    ((if (s.tile k).up.inStep then (s.updTile k (fun x => x.linkFrame c crc echo)).frameIn k c w (crc && echo)
      else s.updTile k (fun x => x.linkFrame c crc echo)).tile k).link := by
  unfold State.frameJudged
  dsimp only
  split
  · exact State.view_of_shown (State.linkFault_link _ _ _) k
  · rfl

theorem State.frameJudged_heard : ((s.frameJudged k c w crc echo).tile k).link.heard = ((s.tile k).linkFrame c crc echo).link.heard := by
  rw [State.frameJudged_link, ← s.linkFrame_tile k c crc echo]
  split
  · exact State.frameIn_heard _ _ _ _ _
  · rfl

end

/-- A frame that fails is counted, and ends the slow word in progress. -/
theorem State.frameJudged_errored (h : (crc && echo) = false) : ((s.frameJudged k c w crc echo).tile k).errors = satAdd 16 (s.tile k).errors 1
    ∧ ((s.frameJudged k c w crc echo).tile k).slow = none := by
  have hlink := s.frameJudged_link k c w crc echo
  have hself := s.linkFrame_tile k c crc echo
  have hcount : ((s.tile k).linkFrame c crc echo).errors = satAdd 16 (s.tile k).errors 1 ∧ ((s.tile k).linkFrame c crc echo).slow = none := by
    unfold Tile.linkFrame
    simp [h]
  rw [h] at hlink
  split at hlink
  · obtain ⟨herr, hslow⟩ := (s.updTile k (fun x => x.linkFrame c crc echo)).frameIn_errored k c w
    rw [hself] at herr hslow
    exact ⟨(congrArg TileLink.errors hlink).trans (herr.trans hcount.1), (congrArg TileLink.slow hlink).trans (hslow.trans hcount.2)⟩
  · rw [hself] at hlink
    exact ⟨(congrArg TileLink.errors hlink).trans hcount.1, (congrArg TileLink.slow hlink).trans hcount.2⟩

/-- While the receiver is in step the tile has taken the fields of a good frame. -/
theorem State.frameJudged_fields (h : (crc && echo) = true) (hin : (s.tile k).up.inStep = true) : ∃ s0 : State,
    s0.tile k = (s.tile k).linkFrame c crc echo ∧ (∀ o, s0.objHere o = s.objHere o)
      ∧ s.frameJudged k c w crc echo = s0.fieldsFrame k c w true := by
  refine ⟨_, s.linkFrame_tile k c crc echo, fun _ => rfl, ?_⟩
  unfold State.frameJudged State.frameIn
  rw [h, hin]
  rfl

/-- A receiver out of step takes no fields. -/
theorem State.frameJudged_deaf (h : (crc && echo) = true) (hin : (s.tile k).up.inStep = false) :
    ((s.frameJudged k c w crc echo).tile k).prot = (s.tile k).prot := by
  have heq : s.frameJudged k c w crc echo = s.updTile k (fun x => x.linkFrame c crc echo) := by
    unfold State.frameJudged
    rw [h, hin]
    rfl
  rw [heq, s.linkFrame_tile]
  rfl

theorem State.frameIn_bad_none (h : (s.tile k).lastWord = none) : s.frameIn k c w false = s := by
  unfold State.frameIn
  rw [h]
  rfl

theorem State.frameIn_bad_some {y : Nat} (h : (s.tile k).lastWord = some y) : s.frameIn k c w false = s.fieldsFrame k c y false := by
  unfold State.frameIn
  rw [h]
  rfl

/-- A bad frame shows nothing to act on: the receiver is out of step, or the frame before had no flag and was of TYPE 0. -/
def Tile.quiet (x : Tile) : Prop :=
  x.up.inStep = false ∨ ∀ w, x.lastWord = some w → field w 13 3 = 0 ∧ field w 22 2 = 0 ∧ x.released = false

/-- A tile that is on, and one that is disabled, stay so in a bad frame until the link is judged. -/
theorem State.badFrame_prot (hq : (s.tile k).quiet) (h : (crc && echo) = false) :
    ∃ sF : State, (∀ o, sF.objHere o = s.objHere o)
      ∧ ((sF.tile k).prot = (s.tile k).prot ∨ (sF.tile k).prot = (s.tile k).cleanProt)
      ∧ ((s.tile k).badRun = 1 → s.frameJudged k c w crc echo = sF.linkFault k (if crc then 2 else 1)) := by
  have hself := s.linkFrame_tile k c crc echo
  refine ⟨if (s.tile k).up.inStep then (s.updTile k (fun x => x.linkFrame c crc echo)).frameIn k c w (crc && echo)
    else s.updTile k (fun x => x.linkFrame c crc echo), fun o => ?_, ?_, fun hbad => ?_⟩
  · split
    · exact State.frameIn_objHere _ _ _ _ _ o
    · rfl
  · by_cases hin : (s.tile k).up.inStep = true
    · rw [if_pos hin, h]
      have hclean := hq.resolve_left (by simp [hin])
      cases hw : (s.tile k).lastWord with
      | none =>
        rw [State.frameIn_bad_none (by rw [hself]; exact hw), hself]
        exact .inl rfl
      | some y =>
        obtain ⟨hflags, htype, hrel⟩ := hclean y hw
        rw [State.frameIn_bad_some (by rw [hself]; exact hw), State.fieldsFrame_clean hflags htype (by rw [hself]; exact hrel), hself]
        exact .inr rfl
    · rw [if_neg hin, hself]
      exact .inl rfl
  · unfold State.frameJudged
    rw [h, hbad]
    rfl

/-- The second bad frame in a row on a tile that shows nothing to act on (R262). -/
theorem State.frameJudged_second (hq : (s.tile k).quiet) (h : (crc && echo) = false) (hbad : (s.tile k).badRun = 1)
    (hhere : s.objHere (obj clsDT k) = true) :
    ((s.tile k).prot ∈ [Prot.enabling, .run] → ((s.frameJudged k c w crc echo).tile k).prot = .twoStep
      ∧ (s.frameJudged k c w crc echo).latched 0x0802 (obj clsDT k) = true
      ∧ Raised (s.frameJudged k c w crc echo) 0x0802 (obj clsDT k) [obj clsDT k, if crc then 2 else 1])
    ∧ ((s.tile k).prot = .disabled → ((s.frameJudged k c w crc echo).tile k).prot = .disabled
      ∧ Raised (s.frameJudged k c w crc echo) 0x0802 (obj clsDT k) [obj clsDT k, if crc then 2 else 1]) := by
  obtain ⟨sF, hsame, hprot, hfault⟩ := State.badFrame_prot (c := c) (w := w) hq h
  have hhere' := (hsame _).trans hhere
  rw [hfault hbad]
  refine ⟨fun hp => State.linkFault_on hhere' ?_, fun hp => State.linkFault_disabled hhere' ?_⟩
  · obtain h' | h' := hprot <;> rw [h']
    · exact hp
    · unfold Tile.cleanProt
      split
      · simp
      · exact hp
  · obtain h' | h' := hprot <;> rw [h']
    · exact hp
    · exact (if_neg (by simp [hp])).trans hp

theorem bit_flags (w : Nat) : bit (field w 13 3) 1 = bit w 14 := by
  simp only [bit, field]
  exact congrArg (fun v => v == 1) (by omega)

/-- A good frame on a receiver in step: the link takes its flags and switches. -/
theorem State.frameJudged_taken (h : (crc && echo) = true) (hin : (s.tile k).up.inStep = true) :
    ((s.frameJudged k c w crc echo).tile k).flags = field w 13 3 ∧ ((s.frameJudged k c w crc echo).tile k).offok = field w 16 6 := by
  obtain ⟨s0, -, -, heq⟩ := State.frameJudged_fields (c := c) (w := w) h hin
  have hlink := s0.fieldsFrame_link k c w true
  obtain ⟨run, sp, dg, sw, sl, word, err, bad, htaken, -⟩ := (s0.tile k).fieldsTaken_eq c s0.tempo w true
  rw [htaken] at hlink
  rw [heq]
  exact ⟨congrArg TileLink.flags hlink, congrArg TileLink.offok hlink⟩

/-- A good data frame on a receiver in step and a tile that is neither released nor in a diagnostic run (R268, R270). -/
theorem State.frameJudged_shown (h : (crc && echo) = true) (hin : (s.tile k).up.inStep = true) (hhere : s.objHere (obj clsDT k) = true)
    (htype : field w 22 2 = 0) (hrel : (s.tile k).released = false) (hdiag : (s.tile k).diag = none) :
    ((s.tile k).prot ∈ [Prot.enabling, .run] → 2 ≤ field w 13 3 → ((s.frameJudged k c w crc echo).tile k).prot = .twoStep
      ∧ (s.frameJudged k c w crc echo).latched 0x0801 (obj clsDT k) = true
      ∧ ((s.frameJudged k c w crc echo).tile k).shortCause = if bit w 14 then 2 else 1)
    ∧ ((s.tile k).prot = .run → field w 13 3 = 1 → ((s.frameJudged k c w crc echo).tile k).prot = .twoStep
      ∧ (s.frameJudged k c w crc echo).latched 0x0803 (obj clsDT k) = true
      ∧ Raised (s.frameJudged k c w crc echo) 0x0803 (obj clsDT k) [obj clsDT k, 2])
    ∧ ((s.tile k).prot = .enabling → field w 13 3 = 0 →
      ((s.frameJudged k c w crc echo).tile k).prot = if 15 ≤ (s.tile k).goodUv then .run else .enabling) := by
  obtain ⟨s0, htile, hsame, heq⟩ := State.frameJudged_fields (c := c) (w := w) h hin
  have hprot : (s0.tile k).prot = (s.tile k).prot := by rw [htile]; rfl
  have hgood : (s0.tile k).goodUv = (s.tile k).goodUv := by rw [htile]; rfl
  have hrel0 : (s0.tile k).released = false := by rw [htile]; exact hrel
  have hdiag0 : (s0.tile k).diag = none := by rw [htile]; exact hdiag
  rw [heq, ← bit_flags, ← hprot, ← hgood]
  refine ⟨fun hp hshort => State.fieldsFrame_short htype hdiag0 hp hshort,
    fun hp huv => State.fieldsFrame_uv htype hdiag0 ((hsame _).trans hhere) hp huv, fun hp hnone => ?_⟩
  rw [State.fieldsFrame_clean hnone htype hrel0]
  simp [Tile.cleanProt, hp]

theorem Keeps.linkKept (h : Keeps Tile.guard s t) (k : Nat) : (t.tile k).link = (s.tile k).link := congrArg Prod.fst (h.view k)

theorem Keeps.protKept (h : Keeps Tile.guard s t) (k : Nat) : (t.tile k).prot = (s.tile k).prot := congrArg (fun x => x.2.1) (h.view k)

theorem Keeps.causeKept (h : Keeps Tile.guard s t) (k : Nat) : (t.tile k).shortCause = (s.tile k).shortCause :=
  congrArg (fun x => x.2.2) (h.view k)

end Sys2Proof.Machine

namespace Sys2Proof.Proofs
open Sys2Proof Sys2Proof.Machine Sys2Proof.Claims

/-- Settles O53: a down frame by what each protection state sends (`State.tileFrame_down`), an up frame by what protection makes of it
(`State.frameJudged`), which the measurements that follow keep (`State.frameEnd_keeps`). -/
theorem framesDriveTheTilesAndNeverCloseBothSwitches : Obligations.FramesDriveTheTilesAndNeverCloseBothSwitches := by
  refine ⟨fun s k n hat hlt hserv hrun hstart hn => ?_, fun s k w c crc echo ok hat hlt hserv hrun hstart hc h3 hnew hcrc hecho hok => ?_,
    fun r => ?_⟩
  case refine_1 =>
    have hexec := execPslDownFrame_eq hat ⟨hlt, hserv, hrun, hstart⟩
    rw [← hn] at hexec
    refine ⟨fun hlast => by rw [hexec, if_pos hlast], fun hlast => ?_⟩
    rw [if_neg hlast] at hexec
    obtain ⟨⟨⟨top, hout⟩, hfaults, hperiod, hseq, hprot, hothers⟩, hapart, hgates, hoff, htwo⟩ := s.tileFrame_down k n
    exact ⟨_, top, hexec, hout, hperiod, hseq, hprot, hfaults, hothers, hapart, hgates, hoff, htwo⟩
  case refine_2 =>
    have hexec := execPslUpFrame_eq hat ⟨hlt, hserv, hrun, hstart⟩ hc h3 hnew w
    have hecho' : (s.tile k).echoes c w.toNat = echo := hecho.symm
    rw [← hcrc, hecho', ← hok] at hexec
    have hkeeps := (s.frameJudged k c w.toNat crc echo).frameEnd_keeps k c ok (s.circle k)
    have hheard := s.frameJudged_heard k c w.toNat crc echo
    have herrored := State.frameJudged_errored (s := s) (k := k) (c := c) (w := w.toNat) (crc := crc) (echo := echo)
    have hsecond := State.frameJudged_second (s := s) (k := k) (c := c) (w := w.toNat) (crc := crc) (echo := echo)
    have hdeaf := State.frameJudged_deaf (s := s) (k := k) (c := c) (w := w.toNat) (crc := crc) (echo := echo)
    have htaken := State.frameJudged_taken (s := s) (k := k) (c := c) (w := w.toNat) (crc := crc) (echo := echo)
    have hshown := State.frameJudged_shown (s := s) (k := k) (c := c) (w := w.toNat) (crc := crc) (echo := echo)
    generalize s.frameJudged k c w.toNat crc echo = u at hexec hkeeps hheard herrored hsecond hdeaf htaken hshown
    generalize u.frameEnd k c ok (s.circle k) = t at hexec hkeeps
    have hlink := hkeeps.linkKept k
    have hprot := hkeeps.protKept k
    rw [← hlink] at hheard
    rw [← hok] at herrored hsecond hdeaf htaken hshown
    refine ⟨t, hexec, congrArg (fun x => x.1) hheard, (congrArg (fun x => x.2.1) hheard).trans (hok ▸ rfl), congrArg (fun x => x.2.2.1) hheard,
      congrArg (fun x => x.2.2.2) hheard, fun hbad => ?_, fun hgood hin => hprot.trans (hdeaf hgood hin), fun hgood hin => ?_⟩
    · obtain ⟨herr, hslow⟩ := herrored hbad
      refine ⟨(congrArg TileLink.errors hlink).trans herr, (congrArg TileLink.slow hlink).trans hslow, fun hhere hrow hq => ?_⟩
      obtain ⟨hon, hdis⟩ := hsecond hq hbad hrow hhere
      refine ⟨fun hp => ?_, fun hp => ?_⟩
      · obtain ⟨htwo, hlat, hr⟩ := hon hp
        exact ⟨hprot.trans htwo, hkeeps.toOnward.latched hlat, hkeeps.toOnward.raised (Nat.ne_of_beq_eq_false rfl) hr⟩
      · obtain ⟨hd, hr⟩ := hdis hp
        exact ⟨hprot.trans hd, hkeeps.toOnward.raised (Nat.ne_of_beq_eq_false rfl) hr⟩
    · obtain ⟨hflags, hoffok⟩ := htaken hgood hin
      refine ⟨(congrArg TileLink.flags hlink).trans hflags, (congrArg TileLink.offok hlink).trans hoffok, fun hhere htype hrel hdiag => ?_⟩
      obtain ⟨hshort, huv, hclean⟩ := hshown hgood hin hhere htype hrel hdiag
      refine ⟨fun hp hflag => ?_, fun hp hflag => ?_, fun hp hflag => hprot.trans (hclean hp hflag)⟩
      · obtain ⟨htwo, hlat, hcause⟩ := hshort hp hflag
        exact ⟨hprot.trans htwo, hkeeps.toOnward.latched hlat, (hkeeps.causeKept k).trans hcause⟩
      · obtain ⟨htwo, hlat, hr⟩ := huv hp hflag
        exact ⟨hprot.trans htwo, hkeeps.toOnward.latched hlat, hkeeps.toOnward.raised (Nat.ne_of_beq_eq_false rfl) hr⟩
  case refine_3 =>
    refine ⟨?_, rfl⟩
    have h8 : (8 ≤ r.good + 1) = (7 ≤ r.good) := propext (by omega)
    simp [Receiver.note, h8]

end Sys2Proof.Proofs
end

section
namespace Sys2Proof.Machine
open Sys2Proof Sys2Proof.Claims
variable {s t : State} {k j w n e : Nat} {p : Prot} {x : Tile}

/-! ### Steps that change nothing but tiles -/

/-- From `s` to `t` nothing but tiles has changed. -/
def TilesOnly (s t : State) : Prop := ∃ ts, t = { s with drive := { s.drive with tiles := ts } }

theorem State.updTile_only (s : State) (k : Nat) (f : Tile → Tile) : TilesOnly s (s.updTile k f) := ⟨_, rfl⟩

theorem TilesOnly.trans {u : State} (h : TilesOnly s t) (r : TilesOnly t u) : TilesOnly s u := by
  obtain ⟨_, rfl⟩ := h
  obtain ⟨_, rfl⟩ := r
  exact ⟨_, rfl⟩

theorem TilesOnly.foldl {f : State → Nat → State} (hf : ∀ u i, TilesOnly u (f u i)) (xs : List Nat) (s : State) : TilesOnly s (xs.foldl f s) :=
  foldl_pred (P := TilesOnly s) (fun u i h => h.trans (hf u i)) ⟨_, rfl⟩

theorem TilesOnly.faults (h : TilesOnly s t) : t.faults = s.faults := by obtain ⟨_, rfl⟩ := h; rfl

theorem TilesOnly.host (h : TilesOnly s t) : t.host = s.host := by obtain ⟨_, rfl⟩ := h; rfl

theorem TilesOnly.objHere (h : TilesOnly s t) (o : Nat) : t.objHere o = s.objHere o := by obtain ⟨_, rfl⟩ := h; rfl

/-- A fold that changes tiles alike. -/
theorem State.foldl_updTile {f : Tile → Tile} {ks : List Nat} (h : ks.Nodup) (s : State) (j : Nat) :
    (ks.foldl (fun u i => u.updTile i f) s).tile j = if j ∈ ks then f (s.tile j) else s.tile j := by
  induction ks generalizing s with
  | nil => rfl
  | cons i ks ih =>
    obtain ⟨hi, hks⟩ := List.nodup_cons.1 h
    rw [List.foldl_cons, ih hks, State.updTile_get]
    by_cases hj : j = i
    · subst hj
      simp [hi]
    · simp [hj]

/-! ### LATCHED (R274) -/

/-- A tile that enters LATCHED. -/
def Tile.latchedAt (x : Tile) (now : Tempo) : Tile := { x with prot := .latched, since := now, released := false }

theorem State.latchTile_eq (s : State) (k : Nat) : s.latchTile k = ((s.mates k).filter (fun j => (s.tile j).prot == .retryWait)).foldl
    (fun u j => u.updTile j (fun x => x.latchedAt s.tempo)) (s.updTile k (fun x => x.latchedAt s.tempo)) := rfl

theorem State.latchTile_only (s : State) (k : Nat) : TilesOnly s (s.latchTile k) := by
  rw [s.latchTile_eq]
  exact (s.updTile_only k _).trans (.foldl (fun u i => u.updTile_only i _) _ _)

theorem State.latchTile_tile (s : State) (k j : Nat) : (s.latchTile k).tile j
    = if j = k ∨ (j ∈ s.mates k ∧ (s.tile j).prot = .retryWait) then (s.tile j).latchedAt s.tempo else s.tile j := by
  rw [s.latchTile_eq, State.foldl_updTile ((s.mates_nodup k).filter _), State.updTile_get]
  by_cases hj : j = k
  · subst hj
    simp [s.not_mem_mates j]
  · simp [hj]

theorem State.latchTile_self (s : State) (k : Nat) : (s.latchTile k).tile k = (s.tile k).latchedAt s.tempo :=
  (s.latchTile_tile k k).trans (if_pos (.inl rfl))

/-- A tile that LATCHES with a fault of its own. -/
theorem State.latchTile_raiseDt {c : Nat} {fs : List Nat} (hhere : s.objHere (obj clsDT k) = true) :
    (((s.latchTile k).raiseDt k { code := c, fields := fs, latch := [obj clsDT k] }).tile k).prot = .latched
      ∧ (((s.latchTile k).raiseDt k { code := c, fields := fs, latch := [obj clsDT k] }).tile k).since = s.tempo
      ∧ (((s.latchTile k).raiseDt k { code := c, fields := fs, latch := [obj clsDT k] }).tile k).faultAt = (s.tile k).faultAt
      ∧ ((s.latchTile k).raiseDt k { code := c, fields := fs, latch := [obj clsDT k] }).latched c (obj clsDT k) = true
      ∧ Raised ((s.latchTile k).raiseDt k { code := c, fields := fs, latch := [obj clsDT k] }) c (obj clsDT k) fs := by
  have hhere' := ((s.latchTile_only k).objHere _).trans hhere
  rw [State.raiseDt_tile, if_pos rfl, s.latchTile_self]
  exact ⟨rfl, rfl, rfl, State.latched_raiseDt hhere' List.mem_cons_self, State.raised_raiseDt hhere'⟩

/-! ### OFFOK_TIMEOUT (R267, R271) -/

/-- The off-confirm window of switch `w` closed. -/
def State.windowClosed (s : State) (k w : Nat) : State := s.updTile k (fun x => x.setSw w { (x.sw w) with window := none })

/-- The reaction to an off-confirm window that has ended open. -/
def State.windowFault (s : State) (k w : Nat) : State :=
  (s.raiseDt k { code := 0x0804, fields := [obj clsDT k, w], latch := [obj clsDT k] }).turnOff k false 5

theorem execOffokTimeout_eq (hat : At s inTimeouts) (hlt : k < 64) (hw : w < 6) (hserv : s.inService clsDT k = true)
    (hwin : ((s.tile k).sw w).window = some (n, e)) (he : e ≤ s.tempo) : exec (.offokTimeout k w) s = .next
      (if (s.tile k).prot = .twoStep ∨ (s.tile k).prot = .retryWait ∨ (s.tile k).prot = .latched then s.windowClosed k w
      else ((s.windowClosed k w).windowFault k w).refresh (s.circle k)) := by
  show execOffokTimeout k w s = _
  unfold execOffokTimeout
  rw [hat]
  dsimp only
  rw [hwin]
  exact congrArg _ (if_pos (by simp [hlt, hw, hserv, he]))

theorem State.windowClosed_tile (s : State) (k w : Nat) :
    (s.windowClosed k w).tile k = (s.tile k).setSw w { ((s.tile k).sw w) with window := none } := by
  unfold State.windowClosed
  rw [State.updTile_get, if_pos rfl]

theorem State.windowClosed_window (s : State) (k w : Nat) : (((s.windowClosed k w).tile k).sw w).window = none := by
  rw [State.windowClosed_tile, Tile.setSw_sw, if_pos rfl]

/-- An event that latches its fault and turns its tile off leaves the link of the tile. -/
theorem State.windowFault_keeps (s : State) (k w : Nat) : Keeps Tile.link s (s.windowFault k w) :=
  ⟨(State.raiseDt_steady _ _ _).trans (State.turnOff_steady _ _ _ _), (State.turnOff_link _ _ _ _).trans (State.raiseDt_link _ _ _)⟩

theorem State.windowFault_prot (hhere : s.objHere (obj clsDT k) = true) (hp : (s.tile k).prot ∈ [Prot.disabled, .enabling, .run]) :
    ((s.windowFault k w).tile k).prot = (if (s.tile k).prot = .disabled then .disabled else .twoStep)
      ∧ (s.windowFault k w).latched 0x0804 (obj clsDT k) = true ∧ Raised (s.windowFault k w) 0x0804 (obj clsDT k) [obj clsDT k, w] := by
  unfold State.windowFault
  obtain hd | hon := List.mem_cons.1 hp
  · have hself : ((s.raiseDt k { code := 0x0804, fields := [obj clsDT k, w], latch := [obj clsDT k] }).tile k).prot = .disabled := by
      rw [State.raiseDt_tile, if_pos rfl]
      exact hd
    rw [State.turnOff_of_off (State.canTurnOff_eq_false (by simp [hself])), if_pos hd]
    exact ⟨hself, State.latched_raiseDt hhere List.mem_cons_self, State.raised_raiseDt hhere⟩
  · rw [if_neg (fun hd => by simp [hd] at hon)]
    obtain ⟨hprot, -, hlat, hr⟩ := State.raiseDt_turnOff (e := { code := 0x0804, fields := [obj clsDT k, w], latch := [obj clsDT k] })
      hhere hon List.mem_cons_self (Nat.ne_of_beq_eq_false rfl) false 5
    exact ⟨hprot, hlat, hr⟩

/-! ### TWO_STEP_DONE (R271, R273) -/

theorem execTwoStepDone_eq (hat : At s inTimeouts) (hlt : k < 64) (hp : (s.tile k).prot = .twoStep)
    (hdue : (s.tile k).twoStepAt + s.softT k / 20 + 1 ≤ periodOf s.tempo) :
    exec (.twoStepDone k) s = .next ((s.afterTwoStep k).refresh (s.circle k)) := by
  show execTwoStepDone k s = _
  unfold execTwoStepDone
  rw [hat]
  exact congrArg _ (if_pos (by simp [hlt, hp, hdue]))

theorem State.afterTwoStep_waits (h : (s.tile k).lastCause = 0
    ∨ ((s.tile k).retry = true ∧ ((s.tile k).recent s.tempo).length ≤ s.dt k 0x021)) :
    s.afterTwoStep k = s.updTile k (fun x => { x with prot := .retryWait, since := s.tempo }) := by
  unfold State.afterTwoStep
  dsimp only
  split
  · rfl
  · next hc =>
    obtain ⟨hr, hn⟩ := h.resolve_left hc
    rw [hr, decide_eq_true hn]
    rfl

theorem State.afterTwoStep_latches (hc : (s.tile k).lastCause ≠ 0) (hr : (s.tile k).retry = false) : s.afterTwoStep k = s.latchTile k := by
  unfold State.afterTwoStep
  dsimp only
  rw [if_neg hc, hr]
  rfl

theorem State.afterTwoStep_spent (hc : (s.tile k).lastCause ≠ 0) (hr : (s.tile k).retry = true)
    (hn : s.dt k 0x021 < ((s.tile k).recent s.tempo).length) : s.afterTwoStep k = (s.latchTile k).raiseDt k
      { code := 0x0811, fields := [obj clsDT k, ((s.tile k).recent s.tempo).length, (s.tile k).lastCause], latch := [obj clsDT k] } := by
  unfold State.afterTwoStep
  dsimp only
  rw [if_neg hc, hr, decide_eq_false (Nat.not_le.2 hn)]
  rfl

theorem State.afterTwoStep_since (s : State) (k : Nat) : ((s.afterTwoStep k).tile k).since = s.tempo := by
  unfold State.afterTwoStep
  extract_lets x s1
  have hself := s.latchTile_self k
  split
  · rw [State.updTile_get, if_pos rfl]
  · split
    · rw [State.updTile_get, if_pos rfl]
    · split
      · rw [State.raiseDt_tile, if_pos rfl, hself]
        rfl
      · rw [hself]
        rfl

/-! ### RETRY_WAIT_EXPIRE and RETRY_FURTHER_WAIT_EXPIRE (R274) -/

section
variable (hat : At s inTimeouts) (hlt : k < 64) (hp : (s.tile k).prot = .retryWait) (hrel : (s.tile k).released = false)
include hat hlt hp hrel

theorem execRetryWaitExpire_eq (hwait : s.waitPassed k = true) : exec (.retryWaitExpire k) s = .next
    (if s.nearRelease k && (s.tile k).spoilt == some s.tempo then (s.newFault k).refresh (s.circle k)
    else if (s.mates k).any (fun j => (s.tile j).prot == .latched) then (s.latchTile k).refresh (s.circle k)
    else if s.mayRelease k then ((s.mates k).filter s.mayRelease).foldl (fun u j => u.release j) (s.release k) else s) := by
  show execRetryWaitExpire k s = _
  unfold execRetryWaitExpire
  rw [hat]
  exact congrArg _ (if_pos (by simp [hlt, hp, hrel, hwait]))

theorem execRetryFurtherWaitExpire_eq (hdue : (s.tile k).faultAt + 2 * (s.dt k 0x020 * 500000) ≤ s.tempo) :
    exec (.retryFurtherWaitExpire k) s = .next ((s.latchTile k).refresh (s.circle k)) := by
  show execRetryFurtherWaitExpire k s = _
  unfold execRetryFurtherWaitExpire
  rw [hat]
  exact congrArg _ (if_pos (by simp [hlt, hp, hrel, hdue]))

end

/-- A new fault of a waiting tile that still has retries. -/
theorem State.newFault_waits (h : ((s.tile k).recent s.tempo).length < s.dt k 0x021) : s.newFault k = s.setTile k
    { s.tile k with tries := s.tempo :: (s.tile k).recent s.tempo, faultAt := s.tempo } :=
  if_pos (by exact h)

/-- One that has used them up. -/
theorem State.newFault_spent (h : s.dt k 0x021 ≤ ((s.tile k).recent s.tempo).length) : s.newFault k =
    ((s.setTile k { s.tile k with tries := s.tempo :: (s.tile k).recent s.tempo, faultAt := s.tempo }).latchTile k).raiseDt k
      { code := 0x0811, fields := [obj clsDT k, ((s.tile k).recent s.tempo).length + 1, (s.tile k).lastCause], latch := [obj clsDT k] } :=
  if_neg (Nat.not_le.2 (Nat.lt_succ_of_le h))

theorem State.newFault_faultAt (s : State) (k : Nat) : ((s.newFault k).tile k).faultAt = s.tempo := by
  have hself := State.setTile_get s k { s.tile k with tries := s.tempo :: (s.tile k).recent s.tempo, faultAt := s.tempo } k
  by_cases h : ((s.tile k).recent s.tempo).length < s.dt k 0x021
  · rw [State.newFault_waits h, hself, if_pos rfl]
  · rw [State.newFault_spent (Nat.le_of_not_lt h), State.raiseDt_tile, if_pos rfl, State.latchTile_self, hself, if_pos rfl]
    rfl

/-- A tile that is released. -/
def Tile.releasedNow (x : Tile) : Tile := { x with released := true, cmdQueue := x.cmdQueue ++ [(1, 0)] }

/-- A tile and those of its group that may be released are. -/
def State.releaseAll (s : State) (k : Nat) : State := ((s.mates k).filter s.mayRelease).foldl (fun u j => u.release j) (s.release k)

theorem State.releaseAll_only (s : State) (k : Nat) : TilesOnly s (s.releaseAll k) :=
  (s.updTile_only k _).trans (.foldl (fun u i => u.updTile_only i _) _ _)

theorem State.releaseAll_tile (s : State) (k j : Nat) : (s.releaseAll k).tile j
    = if j = k ∨ (j ∈ s.mates k ∧ s.mayRelease j = true) then (s.tile j).releasedNow else s.tile j := by
  have hfold := State.foldl_updTile (f := Tile.releasedNow) ((s.mates_nodup k).filter s.mayRelease) (s.updTile k Tile.releasedNow) j
  refine hfold.trans ?_
  rw [State.updTile_get]
  by_cases hj : j = k
  · subst hj
    simp [s.not_mem_mates j]
  · simp [hj]

end Sys2Proof.Machine
end

section
namespace Sys2Proof.Machine
open Sys2Proof Sys2Proof.Claims
variable {s t u : State} {k d : Nat}

/-! ### SLOW_FAULT (R266, R270) -/

/-- An endpoint that has gated its own cross-command. -/
def State.crossWord (s : State) (k d : Nat) : State :=
  (s.updTile k (fun x => { x with lastEvent := 0x0805 })).raiseLimited
    { code := 0x0805, obj := obj clsDT k, fields := [obj clsDT k, legOf (field d 0 3), 1] } 1000000 0 true

/-- The FAULT word of an endpoint fault. -/
def State.endpointWord (s : State) (k : Nat) : State := (s.updTile k (fun x => { x with down := {}, sync := false })).linkFault k 3

/-- The event of a short with the fields of its FAULT word. -/
def State.shortWord (s : State) (k d : Nat) : State :=
  if (s.tile k).shortAt.isSome then
    s.postShort k (if field d 0 3 ≠ 0 ∧ field d 0 3 ≠ 1 ∧ field d 0 3 ≠ 2 ∧ field d 0 3 ≠ 4 then 3 else (s.tile k).shortCause)
      (field d 0 3) (field d 3 3) (field d 6 6) (field d 16 1)
  else s

/-- A short that the flags have not shown yet is seen with its FAULT word. -/
def State.shortKnown (s : State) (k d : Nat) : State :=
  if (s.tile k).shortAt = none ∧ field d 12 2 ≠ 0 then s.shortSeen k (if bit d 13 then 2 else 1) else s

/-- What a FAULT word does. -/
def State.faultWord (s : State) (k d : Nat) : State :=
  if bit d 17 then s.crossWord k d else if bit d 15 then s.endpointWord k else (s.shortKnown k d).shortWord k d

theorem field_shortKinds (d : Nat) : field d 12 3 % 4 = field d 12 2 := by simp only [field]; omega

theorem bit_shortKinds (d : Nat) : bit (field d 12 3) 1 = bit d 13 := by
  simp only [bit, field]
  exact congrArg (fun v => v == 1) (by omega)

theorem execSlowFault_eq (hat : At s inProtect) (hlt : k < 64) (hserv : s.inService clsDT k = true) (hw : (s.tile k).word 1 = some d) :
    exec (.slowFault k) s = .next (((s.wordTaken k 1).faultWord k d).refresh (s.circle k)) := by
  show execSlowFault k s = _
  unfold execSlowFault
  rw [hat]
  dsimp only
  rw [State.onWord_some hlt hserv hw]
  generalize s.wordTaken k 1 = u
  refine congrArg (fun v : State => Host.Outcome.next (v.refresh (s.circle k))) ?_
  rw [field_shortKinds, bit_shortKinds]
  unfold State.faultWord State.crossWord State.endpointWord State.shortWord State.shortKnown
  simp only [Bool.and_eq_true, Option.isNone_iff_eq_none, decide_eq_true_eq]

theorem State.crossWord_tile (s : State) (k d : Nat) : (s.crossWord k d).tile k = { s.tile k with lastEvent := 0x0805 } := by
  unfold State.crossWord
  rw [State.raiseLimited_tile, State.updTile_get, if_pos rfl]

theorem State.crossWord_faults (s : State) (k d : Nat) : (s.crossWord k d).faults = s.faults :=
  State.raiseLimited_faults_of_latch_nil (s.updTile k (fun x => { x with lastEvent := 0x0805 })) rfl _ _ _

theorem State.shortWord_keeps (s : State) (k d : Nat) : Keeps Tile.guard s (s.shortWord k d) := by
  unfold State.shortWord
  split
  · exact s.postShort_keeps _ _ _ _ _ _
  · exact .refl _ s

theorem State.shortKnown_link (s : State) (k d : Nat) : (s.shortKnown k d).shown Tile.link = s.shown Tile.link := by
  unfold State.shortKnown
  split
  · exact State.shortSeen_link _ _ _
  · rfl

/-- A FAULT word that is acted on leaves no other slow word behind. -/
theorem State.faultWord_slowWord (s : State) (k d : Nat) : ((s.faultWord k d).tile k).slowWord = (s.tile k).slowWord := by
  unfold State.faultWord
  split
  · rw [State.crossWord_tile]
  · split
    · have hsame : ((s.updTile k (fun x => { x with down := {}, sync := false })).tile k).slowWord = (s.tile k).slowWord := by
        rw [State.updTile_get, if_pos rfl]
      unfold State.endpointWord
      generalize s.updTile k (fun x => { x with down := {}, sync := false }) = u at hsame
      exact (congrArg TileLink.slowWord (State.view_of_shown (State.linkFault_link u k 3) k)).trans hsame
    · exact (congrArg TileLink.slowWord ((State.shortWord_keeps _ _ _).linkKept k)).trans
        (congrArg TileLink.slowWord (State.view_of_shown (s.shortKnown_link k d) k))

theorem State.endpointWord_on (hhere : s.objHere (obj clsDT k) = true) (hp : (s.tile k).prot ∈ [Prot.enabling, .run]) :
    ((s.endpointWord k).tile k).prot = .twoStep ∧ (s.endpointWord k).latched 0x0802 (obj clsDT k) = true
      ∧ Raised (s.endpointWord k) 0x0802 (obj clsDT k) [obj clsDT k, 3] := by
  have hhere' : (s.updTile k (fun x => { x with down := {}, sync := false })).objHere (obj clsDT k) = true := hhere
  have hp' : ((s.updTile k (fun x => { x with down := {}, sync := false })).tile k).prot ∈ [Prot.enabling, .run] := by
    rw [State.updTile_get, if_pos rfl]
    exact hp
  unfold State.endpointWord
  generalize s.updTile k (fun x => { x with down := {}, sync := false }) = u at hhere' hp'
  exact State.linkFault_on hhere' hp'

/-- The event of a short in the backlog, unless that is full. -/
def State.shortPosted (s : State) (k d : Nat) : Prop :=
  512 ≤ s.host.backlog.length ∨ ∃ e, e ∈ s.host.backlog ∧ e.code = 0x0801 ∧ e.obj = obj clsDT k ∧ e.tempo = s.tempo
    ∧ e.fields = [obj clsDT k, if field d 0 3 ∈ [0, 1, 2, 4] then (if bit d 13 then 2 else 1) else 3, field d 0 3, field d 3 3,
      field d 6 6, field d 16 1, s.tempo]

theorem Onward.shortPosted (h : Onward s t) (hs : s.shortPosted k d) : t.shortPosted k d := by
  obtain hfull | ⟨e, he, hcode, hrest⟩ := hs
  · exact .inl (hfull.trans h.room)
  · refine .inr ⟨e, h.backlog e he (by rw [hcode]; exact Nat.ne_of_beq_eq_false rfl), hcode, ?_⟩
    rwa [h.tempo]

/-- An event that is queued is in the backlog, unless that is full. -/
theorem State.mem_queueEv (s : State) (e : EvMsg) : 512 ≤ (s.queueEv e).host.backlog.length ∨ e ∈ (s.queueEv e).host.backlog := by
  unfold State.queueEv
  split
  · exact .inr (mem_insertEv.2 (.inl rfl))
  · next h => exact .inl (Nat.not_lt.1 h)

theorem State.shortWord_posted (hat : (s.tile k).shortAt = some s.tempo) (hcause : (s.tile k).shortCause = if bit d 13 then 2 else 1) :
    (s.shortWord k d).shortPosted k d := by
  have hfirst : (if field d 0 3 ≠ 0 ∧ field d 0 3 ≠ 1 ∧ field d 0 3 ≠ 2 ∧ field d 0 3 ≠ 4 then 3 else (s.tile k).shortCause)
      = if field d 0 3 ∈ [0, 1, 2, 4] then (if bit d 13 then 2 else 1) else 3 := by
    rw [hcause]
    by_cases h : field d 0 3 ∈ [0, 1, 2, 4]
    · rw [if_pos h, if_neg]
      rintro ⟨h0, h1, h2, h4⟩
      simp [h0, h1, h2, h4] at h
    · rw [if_neg h, if_pos]
      simpa using h
  unfold State.shortWord
  rw [hat, Option.isSome_some, if_pos rfl, hfirst]
  unfold State.postShort
  dsimp only
  rw [hat]
  refine Or.imp_right (fun hmem => ⟨_, hmem, rfl, rfl, ?_, ?_⟩) (State.mem_queueEv _ _)
  · rw [(State.queueEv_steady _ _).tempo]
    rfl
  · rw [(State.queueEv_steady _ _).tempo]
    rfl

/-- The FAULT word of a short on a tile that is on. -/
theorem State.shortWord_on (hp : (s.tile k).prot ∈ [Prot.enabling, .run]) (hnone : (s.tile k).shortAt = none) (hkind : field d 12 2 ≠ 0) :
    (((s.shortKnown k d).shortWord k d).tile k).prot = .twoStep ∧ ((s.shortKnown k d).shortWord k d).latched 0x0801 (obj clsDT k) = true
      ∧ ((s.shortKnown k d).shortWord k d).shortPosted k d ∧ ((s.shortKnown k d).shortWord k d).tempo = s.tempo := by
  have heq : s.shortKnown k d = s.shortSeen k (if bit d 13 then 2 else 1) := if_pos ⟨hnone, hkind⟩
  obtain ⟨htwo, -, hcause, hwhen, hlat⟩ := State.shortSeen_on hp (if bit d 13 then 2 else 1)
  have htempo : (s.shortSeen k (if bit d 13 then 2 else 1)).tempo = s.tempo := congrArg Shown.tempo (State.shortSeen_link _ _ _)
  rw [heq]
  have hkeeps := (s.shortSeen k (if bit d 13 then 2 else 1)).shortWord_keeps k d
  exact ⟨(hkeeps.protKept k).trans htwo, hkeeps.toOnward.latched hlat,
    State.shortWord_posted (hwhen.trans (congrArg some htempo.symm)) hcause, hkeeps.tempo.trans htempo⟩

end Sys2Proof.Machine

namespace Sys2Proof.Proofs
open Sys2Proof Sys2Proof.Machine Sys2Proof.Claims

/-- Settles O52, a row at a time: what each does to the tile and the faults stands when the axes react (`State.refresh_standing`). -/
theorem tilesTurnOffInTwoStepsRetryAndLatch : Obligations.TilesTurnOffInTwoStepsRetryAndLatch := by
  intro s k hlt hserv hhere
  refine ⟨fun w n e hat hw hwin he => ?_, fun hat hp hdue => ?_, fun hat hp hrel hwait => ⟨fun hnear hsp => ?_, fun hclean => ⟨?_, ?_⟩⟩,
    fun hat hp hrel hdue => ?_, fun d hat hw hp => ?_⟩
  case refine_1 =>
    have hclosed := s.windowClosed_window k w
    have hprot : ((s.windowClosed k w).tile k).prot = (s.tile k).prot := by rw [State.windowClosed_tile]; rfl
    have hexec := execOffokTimeout_eq hat hlt hw hserv hwin he
    split at hexec
    · next hoff =>
      refine ⟨_, hexec, hclosed, rfl, fun _ => ⟨rfl, hprot⟩, fun hp => ?_⟩
      obtain h | h | h := hoff <;> simp [h] at hp
    · next hoff =>
      have hon : (s.tile k).prot ∈ [Prot.disabled, .enabling, .run] := by
        cases h : (s.tile k).prot <;> simp [h] at hoff ⊢
      have hkeeps := ((s.windowClosed k w).windowFault_keeps k w).trans (State.refresh_keeps (fun _ => rfl) _ (s.circle k))
      have hstand := ((s.windowClosed k w).windowFault k w).refresh_standing (s.circle k)
      have hsteady := ((s.windowClosed k w).windowFault k w).refresh_steady (s.circle k)
      obtain ⟨hp, hlat, hr⟩ := State.windowFault_prot (s := s.windowClosed k w) (w := w) hhere (hprot ▸ hon)
      rw [hprot] at hp
      generalize (s.windowClosed k w).windowFault k w = u at hexec hkeeps hstand hsteady hp hlat hr
      refine ⟨_, hexec, ?_, congrArg Shown.rails hkeeps.shown, fun hoff' => ?_, fun _ => ⟨hsteady.toOnward.latched hlat,
        hsteady.toOnward.raised (Nat.ne_of_beq_eq_false rfl) hr, (State.prot_of_standing hstand k).trans hp⟩⟩
      · have hsw : (((u.refresh (s.circle k)).tile k).sw w) = ((s.windowClosed k w).tile k).sw w :=
          congrArg (fun x : TileLink => Map.get (fun _ => ({} : Switch)) x.switches w) (hkeeps.view k)
        rw [hsw]
        exact hclosed
      · exact absurd (by simpa using hoff') hoff
  case refine_2 =>
    have hstand := (s.afterTwoStep k).refresh_standing (s.circle k)
    have hsteady := (s.afterTwoStep k).refresh_steady (s.circle k)
    have hprot := State.prot_of_standing hstand k
    have hfaults : ((s.afterTwoStep k).refresh (s.circle k)).faults = (s.afterTwoStep k).faults := congrArg Standing.faults hstand
    refine ⟨_, execTwoStepDone_eq hat hlt hp hdue, ?_, fun hw => ?_, fun hc hr hn => ?_, fun hc hr => ?_⟩
    · exact (congrArg (fun x : Standing => (x.tile k).since) hstand).trans (s.afterTwoStep_since k)
    · rw [hprot, hfaults, State.afterTwoStep_waits hw, State.updTile_get, if_pos rfl]
      exact ⟨rfl, rfl⟩
    · have heq := State.afterTwoStep_spent hc hr hn
      obtain ⟨hl, -, -, hlat, hraised⟩ := State.latchTile_raiseDt (c := 0x0811)
        (fs := [obj clsDT k, ((s.tile k).recent s.tempo).length, (s.tile k).lastCause]) hhere
      rw [← heq] at hl hlat hraised
      exact ⟨hprot.trans hl, hsteady.toOnward.latched hlat, hsteady.toOnward.raised (Nat.ne_of_beq_eq_false rfl) hraised⟩
    · rw [hprot, hfaults, State.afterTwoStep_latches hc hr, s.latchTile_self]
      exact ⟨rfl, (s.latchTile_only k).faults⟩
  case refine_3 =>
    have hexec := execRetryWaitExpire_eq hat hlt hp hrel hwait
    rw [if_pos (by simp [hnear, hsp])] at hexec
    have hstand := (s.newFault k).refresh_standing (s.circle k)
    have hsteady := (s.newFault k).refresh_steady (s.circle k)
    have hprot := State.prot_of_standing hstand k
    refine ⟨_, hexec, (congrArg (fun x : Standing => (x.tile k).faultAt) hstand).trans (s.newFault_faultAt k), fun hleft => ?_, fun hspent => ?_⟩
    · have hfaults : ((s.newFault k).refresh (s.circle k)).faults = (s.newFault k).faults := congrArg Standing.faults hstand
      rw [hprot, hfaults, State.newFault_waits hleft, State.setTile_get, if_pos rfl]
      exact ⟨hp, rfl⟩
    · have heq := State.newFault_spent hspent
      obtain ⟨hl, -, -, hlat, -⟩ := State.latchTile_raiseDt (c := 0x0811) (k := k)
        (s := s.setTile k { s.tile k with tries := s.tempo :: (s.tile k).recent s.tempo, faultAt := s.tempo })
        (fs := [obj clsDT k, ((s.tile k).recent s.tempo).length + 1, (s.tile k).lastCause]) hhere
      rw [← heq] at hl hlat
      exact ⟨hprot.trans hl, hsteady.toOnward.latched hlat⟩
  case refine_4 =>
    rintro ⟨j, hj, hl⟩
    have hexec := execRetryWaitExpire_eq hat hlt hp hrel hwait
    rw [if_neg (by obtain h | h := hclean <;> simp [h]), if_pos (List.any_eq_true.2 ⟨j, hj, by simp [hl]⟩)] at hexec
    refine ⟨_, hexec, ?_⟩
    rw [State.prot_of_standing ((s.latchTile k).refresh_standing (s.circle k)), s.latchTile_self]
    rfl
  case refine_5 =>
    intro hmates
    have hexec := execRetryWaitExpire_eq hat hlt hp hrel hwait
    rw [if_neg (by obtain h | h := hclean <;> simp [h]), if_neg (by simpa using hmates)] at hexec
    refine ⟨fun hmay => ?_, fun hmay => by rw [hexec, hmay]; rfl⟩
    rw [if_pos hmay] at hexec
    exact ⟨s.releaseAll k, hexec, (s.releaseAll_only k).faults, (s.releaseAll_only k).host, s.releaseAll_tile k⟩
  case refine_6 =>
    have hstand := (s.latchTile k).refresh_standing (s.circle k)
    refine ⟨_, execRetryFurtherWaitExpire_eq hat hlt hp hrel hdue, ?_, ?_, fun j hj hw => ?_⟩
    · rw [State.prot_of_standing hstand, s.latchTile_self]
      rfl
    · exact (congrArg Standing.faults hstand).trans (s.latchTile_only k).faults
    · rw [State.prot_of_standing hstand, s.latchTile_tile, if_pos (.inr ⟨hj, hw⟩)]
      rfl
  case refine_7 =>
    have hword : (s.wordTaken k 1).tile k = { s.tile k with slowWord := none, resAge := (s.tile k).resAge - 32 } :=
      (State.updTile_get _ _ _ _).trans (if_pos rfl)
    have hp' : ((s.wordTaken k 1).tile k).prot ∈ [Prot.enabling, .run] := by rw [hword]; exact hp
    have hhere' : (s.wordTaken k 1).objHere (obj clsDT k) = true := hhere
    have hexec := execSlowFault_eq hat hlt hserv hw
    have hstand := ((s.wordTaken k 1).faultWord k d).refresh_standing (s.circle k)
    have hsteady := ((s.wordTaken k 1).faultWord k d).refresh_steady (s.circle k)
    have hprot := State.prot_of_standing hstand k
    refine ⟨_, hexec, ?_, fun hcross => ?_, fun hcross hend => ?_, fun hcross hend hkind hnone => ?_⟩
    · refine (congrArg (fun x : Standing => (x.tile k).slowWord) hstand).trans ((State.faultWord_slowWord _ _ _).trans ?_)
      rw [hword]
    · have heq : (s.wordTaken k 1).faultWord k d = (s.wordTaken k 1).crossWord k d := if_pos hcross
      have hevent : ((((s.wordTaken k 1).faultWord k d).refresh (s.circle k)).tile k).lastEvent
          = (((s.wordTaken k 1).faultWord k d).tile k).lastEvent := congrArg (fun x : Standing => (x.tile k).lastEvent) hstand
      have hfaults : (((s.wordTaken k 1).faultWord k d).refresh (s.circle k)).faults = ((s.wordTaken k 1).faultWord k d).faults :=
        congrArg Standing.faults hstand
      rw [hevent, hfaults, hprot, heq, State.crossWord_tile, State.crossWord_faults, hword]
      exact ⟨rfl, rfl, rfl⟩
    · have heq : (s.wordTaken k 1).faultWord k d = (s.wordTaken k 1).endpointWord k :=
        (if_neg (Bool.not_eq_true _ ▸ hcross)).trans (if_pos hend)
      obtain ⟨htwo, hlat, hr⟩ := State.endpointWord_on hhere' hp'
      rw [← heq] at htwo hlat hr
      exact ⟨hprot.trans htwo, hsteady.toOnward.latched hlat, hsteady.toOnward.raised (Nat.ne_of_beq_eq_false rfl) hr⟩
    · have heq : (s.wordTaken k 1).faultWord k d = ((s.wordTaken k 1).shortKnown k d).shortWord k d :=
        (if_neg (Bool.not_eq_true _ ▸ hcross)).trans (if_neg (Bool.not_eq_true _ ▸ hend))
      obtain ⟨htwo, hlat, hposted, htempo⟩ := State.shortWord_on (d := d) hp' (by rw [hword]; exact hnone) hkind
      rw [← heq] at htwo hlat hposted htempo
      have hafter := hsteady.toOnward.shortPosted hposted
      unfold State.shortPosted at hafter
      rw [hsteady.tempo, htempo] at hafter
      exact ⟨hprot.trans htwo, hsteady.toOnward.latched hlat, hafter⟩

end Sys2Proof.Proofs
end

section
namespace Sys2Proof.Machine
open Sys2Proof Sys2Proof.Claims
variable {s t u : State} {k j o : Nat} {m : Msg} {β γ : Type} {g : Tile → β}

/-! ### Steps of many tiles, one after another -/

/-- In a fold over different tiles, each of which changes its own, tile `k` is changed by its own step, taken where its context is as at
the beginning. -/
theorem State.foldl_each {f : State → Nat → State} (ctx : State → γ) (hctx : ∀ u i, ctx (f u i) = ctx u)
    (hother : ∀ u i, i ≠ k → g ((f u i).tile k) = g (u.tile k)) {ks : List Nat} (hnd : ks.Nodup) (hk : k ∈ ks) (s : State) :
    ∃ u, ctx u = ctx s ∧ g (u.tile k) = g (s.tile k) ∧ g ((ks.foldl f s).tile k) = g ((f u k).tile k) := by
  induction ks generalizing s with
  | nil => exact absurd hk List.not_mem_nil
  | cons i ks ih =>
    obtain ⟨hi, hks⟩ := List.nodup_cons.1 hnd
    by_cases h : i = k
    · subst h
      exact ⟨s, rfl, rfl, State.foldl_view_of_not_mem (hother · ·) hi _⟩
    · obtain ⟨u, hu, hview, hstep⟩ := ih hks ((List.mem_cons.1 hk).resolve_left (Ne.symm h)) (f s i)
      exact ⟨u, hu.trans (hctx s i), hview.trans (hother s i h), hstep⟩

/-! ### What enabling and disabling leave -/

/-- What a tile's enable and disable leave as it was: tempo, mode, faults, parameters, axes and groups. -/
structure Unmoved where
  tempo : Tempo
  md : ModeSt
  faults : List FaultRec
  params : Map Nat
  axes : Map AxisSt
  groups : Map Group

def State.unmoved (s : State) : Unmoved where
  tempo := s.tempo
  md := s.md
  faults := s.faults
  params := s.params
  axes := s.drive.axes
  groups := s.drive.groups

theorem State.axis_of_unmoved (h : t.unmoved = s.unmoved) (p : Nat) : t.axis p = s.axis p :=
  congrArg (fun x : Unmoved => Map.get (fun _ => ({} : AxisSt)) x.axes p) h

theorem State.group_of_unmoved (h : t.unmoved = s.unmoved) (i : Nat) : t.group i = s.group i :=
  congrArg (fun x : Unmoved => Map.get (fun _ => ({} : Group)) x.groups i) h

theorem State.raise_unmoved (s : State) {e : Ev} (h : e.latch = []) : (s.raise e).unmoved = s.unmoved := by
  simp [State.unmoved, State.raise_faults_of_latch_nil s h]

/-! ### TILE_ENABLE (R275) -/

theorem State.checkTable_unmoved (s : State) (id k : Nat) : (s.checkTable id k).unmoved = s.unmoved := by
  unfold State.checkTable
  split
  · exact State.raise_unmoved _ rfl
  · rfl

theorem State.checkTable_tile (s : State) (id k j : Nat) : (s.checkTable id k).tile j = s.tile j := by
  unfold State.checkTable
  split
  · exact State.raise_tile _ _ _
  · rfl

/-- Tile `x` when it is enabled in state `s`. -/
structure TileEnabled (s : State) (k : Nat) (x y : Tile) : Prop where
  prot : y.prot = .enabling
  since : y.since = s.tempo
  goodUv : y.goodUv = 0
  outOn : y.outOn = (s.tMode k != 5 || x.outOn)

theorem State.enableTile_off (h : (s.tile k).prot ≠ .disabled) : s.enableTile k = s := if_pos h

theorem State.enableTile_unmoved (s : State) (k : Nat) : (s.enableTile k).unmoved = s.unmoved := by
  unfold State.enableTile
  split
  · rfl
  · exact (State.checkTable_unmoved _ _ _).trans (State.checkTable_unmoved _ _ _)

theorem State.enableTile_other (s : State) {i : Nat} (h : i ≠ k) : (s.enableTile i).tile k = s.tile k := by
  unfold State.enableTile
  split
  · rfl
  · dsimp only
    rw [State.checkTable_tile, State.checkTable_tile, State.updTile_get, if_neg (Ne.symm h)]
    rfl

theorem State.enableTile_self (h : (s.tile k).prot = .disabled) : TileEnabled s k (s.tile k) ((s.enableTile k).tile k) := by
  unfold State.enableTile
  rw [if_neg (not_not.2 h)]
  dsimp only
  rw [State.checkTable_tile, State.checkTable_tile, State.updTile_get, if_pos rfl]
  exact ⟨rfl, rfl, rfl, rfl⟩

/-- An object and every tile at its bottom are enabled. -/
def State.enableObj (s : State) (o : Nat) : State :=
  (s.axisTiles o).foldl (fun u k => u.enableTile k)
    (if aCls o = clsGRP then s.updGroup (aIdx o) (fun x => { x with enabled := true }) else s)

theorem execTileEnable_runs (ho : m.argN 8 4 = o) (ht : Takes 0x0600 m 0 0xffffffff00000000 s) (hn : FreeObj o [clsDT, clsGRP] s)
    (hmode : s.md.mode ∈ [Mode.warmUp, .ready, .print, .runOut]) (hf : s.anyFault o = false) (hgroup : s.groupFit o = true)
    (hks : ∀ k, k ∈ s.axisTiles o → (s.tile k).prot ≠ .latched ∧ s.tileFit k = true) :
    exec (.tileEnable m) s = .next ((s.enableObj o).ok (s.replyOf 0x0600 m)) := by
  obtain ⟨-, hat, hlen, hres, -⟩ := id ht
  subst ho
  have hlatched : (s.axisTiles (m.argN 8 4)).any (fun k => (s.tile k).prot == .latched) = false := by
    rw [List.any_eq_false]
    exact fun k hk => by simpa using (hks k hk).1
  have hfit : (s.axisTiles (m.argN 8 4)).all (fun k => (s.tile k).prot == .latched || s.tileFit k) = true :=
    List.all_eq_true.2 fun k hk => by simp [(hks k hk).2]
  have hrefs : m.plen 0 ++ m.argRes 0xffffffff00000000 ++ s.inModes [.warmUp, .ready, .print, .runOut] ++ s.tileRefs (m.argN 8 4) true true
      ++ refuse ((s.axisTiles (m.argN 8 4)).any (fun k => (s.tile k).prot == .latched)) stFAULT_LATCHED
      ++ refuse (!(s.axisTiles (m.argN 8 4)).all (fun k => (s.tile k).prot == .latched || s.tileFit k) || !s.groupFit (m.argN 8 4))
        stWRONG_STATE = [] := by
    rw [Msg.plen_nil hlen, Msg.argRes_nil hres, State.inModes_nil hmode, State.tileRefs_nil hn (fun _ => hf), hlatched, hfit, hgroup]
    rfl
  show execTileEnable m s = _
  unfold execTileEnable
  rw [hat]
  exact congrArg _ (State.command_of_takes ht hrefs _)

theorem State.axisTiles_nodup (s : State) (o : Nat) : (s.axisTiles o).Nodup := uniq_nodup _

/-- What enabling an object begins with: the group is marked. -/
theorem State.enableObj_from (s : State) (o : Nat) : ∃ s0, s.enableObj o = (s.axisTiles o).foldl (fun u k => u.enableTile k) s0
    ∧ (∀ j, s0.tile j = s.tile j) ∧ (s0.tempo, s0.md, s0.faults, s0.params) = (s.tempo, s.md, s.faults, s.params)
    ∧ (aCls o = clsGRP → (s0.group (aIdx o)).enabled = true) := by
  refine ⟨_, rfl, fun j => ?_, ?_, fun h => ?_⟩
  · split <;> rfl
  · split <;> rfl
  · rw [if_pos h, State.updGroup_get, if_pos rfl]

/-- Enabling an object (Table 11-8). -/
theorem State.enableObj_spec (s : State) (o : Nat) : (s.enableObj o).faults = s.faults ∧ (s.enableObj o).md = s.md
    ∧ (s.enableObj o).params = s.params ∧ (aCls o = clsGRP → ((s.enableObj o).group (aIdx o)).enabled = true)
    ∧ ∀ k, (k ∉ s.axisTiles o ∨ (s.tile k).prot ≠ .disabled → (s.enableObj o).tile k = s.tile k)
      ∧ (k ∈ s.axisTiles o → (s.tile k).prot = .disabled → TileEnabled s k (s.tile k) ((s.enableObj o).tile k)) := by
  obtain ⟨s0, heq, htile, hrest, hgroup⟩ := s.enableObj_from o
  simp only [Prod.mk.injEq] at hrest
  obtain ⟨htempo, hmd, hfaults, hparams⟩ := hrest
  have hun : (s.enableObj o).unmoved = s0.unmoved := by
    rw [heq]
    exact foldl_keeps State.unmoved (fun u k => u.enableTile_unmoved k) _ s0
  have hself : ∀ k ∈ s.axisTiles o, ∃ u : State, u.unmoved = s0.unmoved ∧ u.tile k = s.tile k
      ∧ (s.enableObj o).tile k = (u.enableTile k).tile k := fun k hk => by
    obtain ⟨u, hu, hview, hstep⟩ := State.foldl_each (g := id) State.unmoved (fun u i => u.enableTile_unmoved i)
      (fun u i hi => u.enableTile_other hi) (s.axisTiles_nodup o) hk s0
    exact ⟨u, hu, hview.trans (htile k), by rw [heq]; exact hstep⟩
  refine ⟨(congrArg Unmoved.faults hun).trans hfaults, (congrArg Unmoved.md hun).trans hmd, (congrArg Unmoved.params hun).trans hparams,
    fun h => by rw [State.group_of_unmoved hun]; exact hgroup h, fun k => ⟨fun h => ?_, fun hk hd => ?_⟩⟩
  · by_cases hk : k ∈ s.axisTiles o
    · obtain ⟨u, -, hu, hstep⟩ := hself k hk
      rw [hstep, State.enableTile_off (by rw [hu]; exact h.resolve_left (not_not.2 hk)), hu]
    · rw [heq, ← htile k]
      exact State.foldl_view_of_not_mem (g := id) (fun u i hi => u.enableTile_other hi) hk s0
  · obtain ⟨u, hun', hu, hstep⟩ := hself k hk
    obtain ⟨hprot, hsince, hgood, hout⟩ := State.enableTile_self (s := u) (k := k) (by rw [hu]; exact hd)
    have hmode : u.tMode k = s.tMode k :=
      congrArg (fun ps => Map.get paramReset ps (addr clsDT k 0x000)) ((congrArg Unmoved.params hun').trans hparams)
    rw [hstep]
    exact ⟨hprot, hsince.trans ((congrArg Unmoved.tempo hun').trans htempo), hgood, by rw [hout, hmode, hu]⟩

end Sys2Proof.Machine
end

section
namespace Sys2Proof.Machine
open Sys2Proof Sys2Proof.Claims
variable {s t u : State} {k j o : Nat} {m : Msg}

/-! ### TILE_DISABLE (R322) -/

theorem State.polyTo_unmoved (s : State) (k : Nat) (st : Poly) : (s.polyTo k st).unmoved = s.unmoved := by
  unfold State.polyTo
  dsimp only
  split
  · rfl
  · exact State.raise_unmoved _ rfl

theorem State.endRunout_unmoved (s : State) (o cause : Nat) : (s.endRunout o cause).unmoved = s.unmoved := by
  unfold State.endRunout
  dsimp only
  split
  · exact State.raise_unmoved _ rfl
  · rfl

/-- From `s` to `t` nothing of `unmoved` has changed, and no tile. -/
def TilesStay (s t : State) : Prop := t.unmoved = s.unmoved ∧ ∀ j, t.tile j = s.tile j

theorem TilesStay.trans (h : TilesStay s t) (r : TilesStay t u) : TilesStay s u := ⟨r.1.trans h.1, fun j => (r.2 j).trans (h.2 j)⟩

theorem State.raise_tilesStay (s : State) {e : Ev} (h : e.latch = []) : TilesStay s (s.raise e) :=
  ⟨s.raise_unmoved h, s.raise_tile e⟩

theorem State.heatWindow_tilesStay (s : State) (k : Nat) : TilesStay s (s.heatWindow k) := by
  unfold State.heatWindow
  extract_lets h ok s1
  have h1 : TilesStay s s1 := ⟨rfl, fun _ => rfl⟩
  split
  · exact h1.trans (s1.raise_tilesStay rfl)
  · exact h1

theorem State.legLeave_tilesStay (s : State) (k j : Nat) : TilesStay s (s.legLeave k j) := by
  unfold State.legLeave State.legKeep
  extract_lets l s1
  have h1 : TilesStay s s1 := ⟨rfl, fun _ => rfl⟩
  split
  · exact h1.trans (s1.raise_tilesStay rfl)
  · exact h1

/-- Switching the outputs of a tile off leaves what is `unmoved`, and every tile but for the output switch of its own. -/
theorem State.outputEnable_off_tiles (s : State) (k : Nat) : ∃ b t, TilesStay t (s.outputEnable k 0) ∧ t.unmoved = s.unmoved
    ∧ ∀ j, t.tile j = if j = k then { s.tile k with outOn := b } else s.tile j := by
  have hoff : bit 0 0 = false := rfl
  unfold State.outputEnable
  simp only [hoff, Bool.false_and, Bool.false_eq_true, if_false]
  split
  · exact ⟨false, s.updTile k (fun x => { x with outOn := false }),
      TilesStay.trans (t := (s.updTile k (fun x => { x with outOn := false })).updHeat k
        (fun h => { h with scanning := false, scanned := false, iP := 0, waiting := false })) ⟨rfl, fun _ => rfl⟩
        (State.heatWindow_tilesStay _ k), rfl, fun j => State.updTile_get _ _ _ _⟩
  · split
    · generalize (if field 0 8 3 = 0 then 7 else field 0 8 3) = mask
      refine ⟨(s.tile k).outOn, s, ?_, rfl, fun j => ?_⟩
      · refine foldl_pred (P := TilesStay s) (fun u j h => h.trans ?_) ⟨rfl, fun _ => rfl⟩
        split
        · exact ⟨rfl, fun _ => rfl⟩
        · exact TilesStay.trans (t := u.updLeg (4 * k + j) (fun l => { l with on := false, d := 0, offUntil := none }))
            ⟨rfl, fun _ => rfl⟩ (State.legLeave_tilesStay _ k j)
      · split
        · next h => rw [h]
        · rfl
    · exact ⟨false, _, ⟨rfl, fun _ => rfl⟩, rfl, fun j => State.updTile_get _ _ _ _⟩

/-- What a tile drives: its protection state, its gate bits and its output switch. -/
def Tile.driving (x : Tile) : Prot × Nat × Bool := (x.prot, x.gates, x.outOn)

/-- The part of a tile's disable that comes before its own state. -/
def State.tileRests (s : State) (k : Nat) : State :=
  let s1 := if s.tMode k = 3 then s.polyTo k .off else s
  if s.tMode k = 5 then (s1.outputEnable k 0).endRunout (obj clsDT k) 0 else if s.tMode k = 6 then s1.outputEnable k 0 else s1

/-- A tile that is disabled. -/
def Tile.disabledAt (x : Tile) (now : Tempo) : Tile :=
  { x with prot := .disabled, since := now, disabling := true, released := false, outOn := false, holdGates := false, aligning := none }

theorem State.disableTile_eq (s : State) (k : Nat) : s.disableTile k = if (s.tile k).prot = .disabled then s.tileRests k
    else (s.tileRests k).updTile k (fun x => x.disabledAt s.tempo) := rfl

theorem State.endRunout_driving (s : State) (o cause j : Nat) : ((s.endRunout o cause).tile j).driving = (s.tile j).driving :=
  congrArg (fun x : Standing => (x.tile j).driving) (s.endRunout_standing o cause)

theorem State.polyTo_driving (s : State) (k : Nat) (st : Poly) (j : Nat) : ((s.polyTo k st).tile j).driving = (s.tile j).driving :=
  congrArg (fun x : Standing => (x.tile j).driving) (s.polyTo_standing k st)

theorem State.tileRests_spec (s : State) (k : Nat) : (s.tileRests k).unmoved = s.unmoved ∧ ((s.tileRests k).tile k).prot = (s.tile k).prot
    ∧ ∀ j, j ≠ k → ((s.tileRests k).tile j).driving = (s.tile j).driving := by
  unfold State.tileRests
  extract_lets s1
  have h1 : s1.unmoved = s.unmoved ∧ ∀ j, (s1.tile j).driving = (s.tile j).driving := by
    unfold s1
    split
    · exact ⟨s.polyTo_unmoved k .off, s.polyTo_driving k .off⟩
    · exact ⟨rfl, fun _ => rfl⟩
  obtain ⟨hu1, hd1⟩ := h1
  obtain ⟨b, t, ⟨hstay, htile⟩, hut, htt⟩ := s1.outputEnable_off_tiles k
  have hoff : (s1.outputEnable k 0).unmoved = s.unmoved ∧ ((s1.outputEnable k 0).tile k).prot = (s.tile k).prot
      ∧ ∀ j, j ≠ k → ((s1.outputEnable k 0).tile j).driving = (s.tile j).driving := by
    refine ⟨(hstay.trans hut).trans hu1, ?_, fun j hj => ?_⟩
    · rw [htile, htt, if_pos rfl]
      exact congrArg Prod.fst (hd1 k)
    · rw [htile, htt, if_neg hj]
      exact hd1 j
  obtain ⟨hu, hp, hd⟩ := hoff
  split
  · exact ⟨(State.endRunout_unmoved _ _ _).trans hu, (congrArg Prod.fst (State.endRunout_driving _ _ _ k)).trans hp,
      fun j hj => (State.endRunout_driving _ _ _ j).trans (hd j hj)⟩
  · split
    · exact ⟨hu, hp, hd⟩
    · exact ⟨hu1, congrArg Prod.fst (hd1 k), fun j _ => hd1 j⟩

theorem State.disableTile_unmoved (s : State) (k : Nat) : (s.disableTile k).unmoved = s.unmoved := by
  rw [s.disableTile_eq]
  split
  · exact (s.tileRests_spec k).1
  · exact (s.tileRests_spec k).1

theorem State.disableTile_other (s : State) {i : Nat} (h : i ≠ k) : ((s.disableTile i).tile k).driving = (s.tile k).driving := by
  rw [s.disableTile_eq]
  obtain ⟨-, -, hother⟩ := s.tileRests_spec i
  split
  · exact hother k (Ne.symm h)
  · rw [State.updTile_get, if_neg (Ne.symm h)]
    exact hother k (Ne.symm h)

/-- A tile that is disabled drives nothing. -/
theorem State.disableTile_self (s : State) (k : Nat) : ((s.disableTile k).tile k).prot = .disabled
    ∧ ((s.tile k).prot ≠ .disabled → ((s.disableTile k).tile k).outOn = false) := by
  rw [s.disableTile_eq]
  obtain ⟨-, hprot, -⟩ := s.tileRests_spec k
  split
  · next h => exact ⟨hprot.trans h, fun hn => absurd h hn⟩
  · rw [State.updTile_get, if_pos rfl]
    exact ⟨rfl, fun _ => rfl⟩

end Sys2Proof.Machine
end

section
namespace Sys2Proof.Machine
open Sys2Proof Sys2Proof.Claims
variable {s t u : State} {k j o : Nat} {m : Msg}

/-! ### Disabling an object with its tiles -/

theorem State.restAxis_standing (s : State) (o : Nat) : (s.restAxis o).standing = s.standing := by
  unfold State.restAxis
  exact (State.endRunout_standing _ _ _).trans rfl

theorem State.restAxis_axis (s : State) (o : Nat) : ((s.restAxis o).axis o).state = .idle ∧ ((s.restAxis o).axis o).v = 0 := by
  have hrest : (s.restAxis o).axis o = { s.axis o with state := .idle, v := 0, a := 0, loaded := none, turn := .none, regear := false } := by
    unfold State.restAxis
    refine (State.endRunout_axis _ _ _ _).trans ?_
    rw [State.updGear_axis, State.updAxis_get, if_pos rfl]
  rw [hrest]
  exact ⟨rfl, rfl⟩

theorem execTileDisable_runs (ho : m.argN 8 4 = o) (ht : Takes 0x0601 m 0 0xffffffff00000000 s) (hn : FreeObj o [clsDT, clsGRP] s) :
    exec (.tileDisable m) s = .next ((s.disableObj o).ok (s.replyOf 0x0601 m)) := by
  obtain ⟨-, hat, hlen, hres, -⟩ := id ht
  subst ho
  have hrefs : m.plen 0 ++ m.argRes 0xffffffff00000000 ++ s.tileRefs (m.argN 8 4) true false = [] := by
    rw [Msg.plen_nil hlen, Msg.argRes_nil hres, State.tileRefs_nil hn (fun h => by cases h)]
    rfl
  show execTileDisable m s = _
  unfold execTileDisable
  rw [hat]
  exact congrArg _ (State.command_of_takes ht hrefs _)

/-- The state in which the tiles of an object are disabled: an axis rests. -/
def State.disableFrom (s : State) (o : Nat) : State := if (s.axisTiles o).any (fun k => s.isMotor k) then s.restAxis o else s

theorem State.disableObj_eq (s : State) (o : Nat) : s.disableObj o = if aCls o = clsGRP
    then ((s.axisTiles o).foldl (fun u k => u.disableTile k) (s.disableFrom o)).updGroup (aIdx o) (fun x => { x with enabled := false })
    else (s.axisTiles o).foldl (fun u k => u.disableTile k) (s.disableFrom o) := rfl

theorem State.disableFrom_standing (s : State) (o : Nat) : (s.disableFrom o).standing = s.standing := by
  unfold State.disableFrom
  split
  · exact s.restAxis_standing o
  · rfl

/-- Disabling an object (Table 11-8, R322). -/
theorem State.disableObj_spec (s : State) (o : Nat) : (s.disableObj o).faults = s.faults ∧ (s.disableObj o).md = s.md
    ∧ (s.disableObj o).params = s.params ∧ (aCls o = clsGRP → ((s.disableObj o).group (aIdx o)).enabled = false)
    ∧ (∀ k, k ∈ s.axisTiles o → ((s.disableObj o).tile k).prot = .disabled
      ∧ ((s.tile k).prot ≠ .disabled → ((s.disableObj o).tile k).outOn = false))
    ∧ (∀ k, k ∉ s.axisTiles o → ((s.disableObj o).tile k).prot = (s.tile k).prot ∧ ((s.disableObj o).tile k).gates = (s.tile k).gates)
    ∧ ((s.axisTiles o).any (fun k => s.isMotor k) = true → ((s.disableObj o).axis o).state = .idle ∧ ((s.disableObj o).axis o).v = 0) := by
  have hstand := s.disableFrom_standing o
  have hfold : ((s.axisTiles o).foldl (fun u k => u.disableTile k) (s.disableFrom o)).unmoved = (s.disableFrom o).unmoved :=
    foldl_keeps State.unmoved (fun u k => u.disableTile_unmoved k) _ _
  have hview : ∀ k, (s.disableFrom o |>.tile k).driving = (s.tile k).driving := fun k =>
    congrArg (fun x : Standing => (x.tile k).driving) hstand
  have hin : ∀ k ∈ s.axisTiles o, ∃ u : State, (u.tile k).driving = (s.tile k).driving
      ∧ (((s.axisTiles o).foldl (fun u k => u.disableTile k) (s.disableFrom o)).tile k).driving = ((u.disableTile k).tile k).driving :=
    fun k hk => by
      obtain ⟨u, -, hu, hstep⟩ := State.foldl_each (g := Tile.driving) (fun _ => ()) (fun _ _ => rfl)
        (fun u i hi => u.disableTile_other hi) (s.axisTiles_nodup o) hk (s.disableFrom o)
      exact ⟨u, hu.trans (hview k), hstep⟩
  have hout : ∀ k, k ∉ s.axisTiles o →
      (((s.axisTiles o).foldl (fun u k => u.disableTile k) (s.disableFrom o)).tile k).driving = (s.tile k).driving := fun k hk =>
    (State.foldl_view_of_not_mem (fun u i hi => u.disableTile_other hi) hk _).trans (hview k)
  have haxis : (s.axisTiles o).any (fun k => s.isMotor k) = true → ((s.disableFrom o).axis o).state = .idle ∧ ((s.disableFrom o).axis o).v = 0 :=
    fun h => by
      unfold State.disableFrom
      rw [if_pos h]
      exact s.restAxis_axis o
  have heq := s.disableObj_eq o
  generalize (s.axisTiles o).foldl (fun u k => u.disableTile k) (s.disableFrom o) = v at hfold hin hout heq
  generalize s.disableFrom o = s1 at hstand hfold haxis
  obtain ⟨hsame, htiles, haxes, hgroup⟩ : ((s.disableObj o).faults, (s.disableObj o).md, (s.disableObj o).params) = (v.faults, v.md, v.params)
      ∧ (∀ k, (s.disableObj o).tile k = v.tile k) ∧ (∀ p, (s.disableObj o).axis p = v.axis p)
      ∧ (aCls o = clsGRP → ((s.disableObj o).group (aIdx o)).enabled = false) := by
    rw [heq]
    refine ⟨?_, fun k => ?_, fun p => ?_, fun h => ?_⟩
    · split <;> rfl
    · split <;> rfl
    · split <;> rfl
    · rw [if_pos h, State.updGroup_get, if_pos rfl]
  simp only [Prod.mk.injEq] at hsame
  obtain ⟨hfaults, hmd, hparams⟩ := hsame
  refine ⟨hfaults.trans ((congrArg Unmoved.faults hfold).trans (congrArg Standing.faults hstand)),
    hmd.trans ((congrArg Unmoved.md hfold).trans (congrArg Standing.md hstand)),
    hparams.trans ((congrArg Unmoved.params hfold).trans (congrArg Standing.params hstand)), hgroup, fun k hk => ?_, fun k hk => ?_, fun h => ?_⟩
  · obtain ⟨u, hu, hstep⟩ := hin k hk
    obtain ⟨hp, ho⟩ := u.disableTile_self k
    rw [htiles]
    refine ⟨(congrArg Prod.fst hstep).trans hp, fun hd => (congrArg (fun x => x.2.2) hstep).trans (ho ?_)⟩
    rwa [show (u.tile k).prot = (s.tile k).prot from congrArg Prod.fst hu]
  · rw [htiles]
    exact ⟨congrArg Prod.fst (hout k hk), congrArg (fun x => x.2.1) (hout k hk)⟩
  · rw [haxes, State.axis_of_unmoved hfold]
    exact haxis h

end Sys2Proof.Machine
end

section
namespace Sys2Proof.Machine
open Sys2Proof Sys2Proof.Claims
variable {s t u : State} {k j i b c vb stage cause : Nat} {retry : Bool}

/-! ### A step of one bus (R281, R282) -/

/-- What says whether a tile can be turned off (R270). -/
def Tile.stoppable (x : Tile) : Prot × Nat × Tempo := (x.prot, x.lastCause, x.since)

/-- From `s` to `t` no fault has come or gone, no bus but `b` has changed, and tiles only in what they drive. -/
structure BusStep (b : Nat) (s t : State) : Prop where
  faults : t.faults = s.faults
  shown : t.shown Tile.stoppable = { s.shown Tile.stoppable with buses := t.drive.buses }
  others : ∀ c, c ≠ b → t.bus c = s.bus c

theorem BusStep.trans (h : BusStep b s t) (r : BusStep b t u) : BusStep b s u :=
  ⟨r.faults.trans h.faults, by rw [r.shown, h.shown], fun c hc => (r.others c hc).trans (h.others c hc)⟩

theorem State.setBus_step (s : State) (b : Nat) (v : Bus) : BusStep b s (s.setBus b v) :=
  ⟨rfl, rfl, fun c hc => by rw [State.setBus_get, if_neg hc]⟩

theorem BusStep.of_shown (hf : t.faults = s.faults) (h : t.shown Tile.stoppable = s.shown Tile.stoppable) (b : Nat) : BusStep b s t := by
  have hbuses : t.drive.buses = s.drive.buses := congrArg Shown.buses h
  refine ⟨hf, h.trans (by rw [hbuses]; rfl), fun c _ => congrArg (fun m => Map.get (fun _ => ({} : Bus)) m c) hbuses⟩

theorem BusStep.objHere (h : BusStep b s t) (o : Nat) : t.objHere o = s.objHere o :=
  State.objHere_congr (congrArg Shown.die h.shown) (congrArg Shown.removed h.shown) o

theorem BusStep.busTiles (h : BusStep b s t) (c : Nat) : t.busTiles c = s.busTiles c := by
  have hin : ∀ i, t.inService clsDT i = s.inService clsDT i :=
    State.inService_congr (congrArg Shown.die h.shown) (congrArg Shown.removed h.shown) clsDT
  have hbus : ∀ i, t.busOf i = s.busOf i := fun i =>
    congrArg (fun ps => if bit (Map.get paramReset ps (addr clsDT i 0x023)) 43 then some (field (Map.get paramReset ps (addr clsDT i 0x023)) 40 3)
      else none) (congrArg Shown.params h.shown)
  simp only [State.busTiles, State.units, hin, hbus]

theorem BusStep.canTurnOff (h : BusStep b s t) (j : Nat) : t.canTurnOff j = s.canTurnOff j := by
  have hview : (t.tile j).stoppable = (s.tile j).stoppable := congrArg (fun x : Shown _ => x.tile j) h.shown
  have htempo : t.tempo = s.tempo := congrArg Shown.tempo h.shown
  obtain ⟨hprot, hrest⟩ := Prod.mk.inj hview
  obtain ⟨hcause, hsince⟩ := Prod.mk.inj hrest
  unfold State.canTurnOff
  dsimp only
  rw [hprot, hcause, hsince, htempo]

/-- A step of bus `b` that keeps its voltage and stage. -/
structure BusHeld (b : Nat) (s t : State) : Prop extends BusStep b s t where
  vb : (t.bus b).vb = (s.bus b).vb
  stage : (t.bus b).stage = (s.bus b).stage

theorem BusHeld.trans (h : BusHeld b s t) (r : BusHeld b t u) : BusHeld b s u :=
  ⟨h.toBusStep.trans r.toBusStep, r.vb.trans h.vb, r.stage.trans h.stage⟩

theorem BusHeld.of_shown (hf : t.faults = s.faults) (h : t.shown Tile.stoppable = s.shown Tile.stoppable) (b : Nat) : BusHeld b s t := by
  have hbus : t.bus b = s.bus b := congrArg (fun x : Shown _ => Map.get (fun _ => ({} : Bus)) x.buses b) h
  exact ⟨.of_shown hf h b, congrArg Bus.vb hbus, congrArg Bus.stage hbus⟩

theorem State.setBus_held {v : Bus} (hv : v.vb = (s.bus b).vb) (hs : v.stage = (s.bus b).stage) : BusHeld b s (s.setBus b v) := by
  refine ⟨s.setBus_step b v, ?_, ?_⟩ <;> rw [State.setBus_get, if_pos rfl]
  · exact hv
  · exact hs

theorem State.setMod_held (s : State) (b k : Nat) (m : Modulation) (start : Tempo) : BusHeld b s (s.setMod k m start) :=
  .of_shown (s := s) (t := s.setMod k m start) rfl (State.shown_updTile rfl) b

theorem State.chop_held (s : State) (b : Nat) (on : Bool) : BusHeld b s (s.chop b on) :=
  BusHeld.trans (State.setBus_held (v := { s.bus b with chopping := on, chopAt := periodOf s.tempo }) rfl rfl) (State.setMod_held _ b _ _ _)

/-- The chopper leaves the voltage and the stage of its bus. -/
theorem State.chopper_held (s : State) (b vb : Nat) : BusHeld b s (s.chopper b vb) := by
  unfold State.chopper
  extract_lets on x free tell s1 s2
  split
  · have h1 : BusHeld b s s1 := State.setBus_held rfl rfl
    split
    · exact h1.trans (.of_shown (State.raise_faults_of_latch_nil s1 rfl) (s1.shown_raise _) b)
    · exact h1
  · have h2 : BusHeld b s s2 := State.setBus_held rfl rfl
    split
    · exact h2.trans (s2.chop_held b true)
    · split
      · exact h2.trans (s2.chop_held b false)
      · exact h2

/-! ### Tiles turned off one after another -/

theorem State.follow_prot (s : State) (k j : Nat) : ((s.follow k).tile j).prot = (s.tile j).prot ∨ ((s.follow k).tile j).prot = .twoStep := by
  unfold State.follow
  split
  · exact .inl rfl
  · rw [State.raise_tile]
    refine foldl_pred (P := fun u : State => (u.tile j).prot = (s.tile j).prot ∨ (u.tile j).prot = .twoStep) (fun u i h => ?_) (.inl rfl)
    split
    · rw [State.twoStep_eq, State.updTile_get]
      split
      · exact .inr rfl
      · exact h
    · rw [State.updTile_get]
      split
      · next hj => exact hj ▸ h
      · exact h

/-- Turning a tile off leaves a tile as it was, or takes it to TWO_STEP. -/
theorem State.turnOff_prot (s : State) (k : Nat) (retry : Bool) (cause j : Nat) :
    ((s.turnOff k retry cause).tile j).prot = (s.tile j).prot ∨ ((s.turnOff k retry cause).tile j).prot = .twoStep := by
  have htwo : ((s.twoStep k retry cause).tile j).prot = (s.tile j).prot ∨ ((s.twoStep k retry cause).tile j).prot = .twoStep := by
    rw [State.twoStep_eq, State.updTile_get]
    split
    · exact .inr rfl
    · exact .inl rfl
  obtain h | h | h := s.turnOff_cases k retry cause <;> rw [h]
  · exact .inl rfl
  · exact htwo
  · obtain hf | hf := (s.twoStep k retry cause).follow_prot k j
    · rw [hf]
      exact htwo
    · exact .inr hf

/-- A tile that is on or in TWO_STEP is in TWO_STEP when it has been turned off. -/
theorem State.turnOff_stops (h : (s.tile k).prot ∈ [Prot.enabling, .run, .twoStep]) (retry : Bool) (cause : Nat) :
    ((s.turnOff k retry cause).tile k).prot = .twoStep := by
  by_cases hc : s.canTurnOff k = true
  · rw [State.turnOff_tile hc]
    rfl
  · rw [State.turnOff_of_off (Bool.not_eq_true _ ▸ hc)]
    simp only [List.mem_cons, List.not_mem_nil, or_false] at h
    obtain h | h | h := h
    · exact absurd (State.canTurnOff_of_on (by simp [h])) hc
    · exact absurd (State.canTurnOff_of_on (by simp [h])) hc
    · exact h

theorem State.live_of_canTurnOff (h : s.canTurnOff k = true) : (s.tile k).prot ∈ [Prot.enabling, .run, .twoStep] := by
  by_contra hn
  rw [State.canTurnOff_eq_false hn] at h
  exact Bool.false_ne_true h

/-- One tile that HARD turns off (Table 11-12). -/
def State.hardOff (s : State) (k : Nat) : State := (s.updTile k (fun x => { x with lastEvent := 0x0832 })).turnOff k false 9

theorem State.eventNoted_prot (s : State) (k c j : Nat) : ((s.updTile k (fun x => { x with lastEvent := c })).tile j).prot = (s.tile j).prot := by
  rw [State.updTile_get]
  split
  · next h => rw [h]
  · rfl

theorem State.hardOff_prot (s : State) (k j : Nat) : ((s.hardOff k).tile j).prot = (s.tile j).prot ∨ ((s.hardOff k).tile j).prot = .twoStep :=
  (State.turnOff_prot _ k false 9 j).imp_left (·.trans (s.eventNoted_prot k 0x0832 j))

theorem State.hardOff_stops (h : (s.tile k).prot ∈ [Prot.enabling, .run, .twoStep]) : ((s.hardOff k).tile k).prot = .twoStep :=
  State.turnOff_stops (by rw [State.eventNoted_prot]; exact h) _ _

theorem State.hardOff_steady (s : State) (k : Nat) : Steady s (s.hardOff k) :=
  Steady.trans (t := s.updTile k (fun x => { x with lastEvent := 0x0832 })) (.of_eq rfl) (State.turnOff_steady _ _ _ _)

/-- A tile that is on goes to TWO_STEP when it is one of those that are turned off. -/
theorem State.foldl_hardOff_stops {ks : List Nat} (hk : k ∈ ks) (h : (s.tile k).prot ∈ [Prot.enabling, .run, .twoStep]) :
    ((ks.foldl (fun u i => u.hardOff i) s).tile k).prot = .twoStep := by
  induction ks generalizing s with
  | nil => exact absurd hk List.not_mem_nil
  | cons i ks ih =>
    by_cases hi : i = k
    · subst hi
      rw [List.foldl_cons]
      exact foldl_pred (P := fun u : State => (u.tile i).prot = .twoStep) (fun u j hu => (u.hardOff_prot j i).elim (·.trans hu) id)
        (State.hardOff_stops h)
    · refine ih ((List.mem_cons.1 hk).resolve_left (Ne.symm hi)) ?_
      obtain hp | hp := s.hardOff_prot i k <;> rw [hp]
      · exact h
      · simp

end Sys2Proof.Machine
end

section
namespace Sys2Proof.Machine
open Sys2Proof Sys2Proof.Claims
variable {s t u : State} {k j o b vb stage : Nat} {w : Tempo}

/-! ### BUS_VOLTAGE_UPDATE (R281 to R283) -/

/-- The stage that a voltage reaches. -/
def State.stageAt (s : State) (b vb : Nat) : Nat :=
  if s.busLimit b 4 ≤ vb then 3 else if s.busLimit b 3 ≤ vb then 2 else if s.busLimit b 2 ≤ vb then 1 else 0

/-- Bus `b` with its voltage taken now. -/
def State.busReading (s : State) (b : Nat) : Bus := { s.bus b with
  vb := s.vBus b
  quiet := if s.busLimit b 1 < s.vBus b then none else if (s.bus b).quiet.isSome then (s.bus b).quiet else some s.tempo }

/-- Bus `b` takes its voltage, and its chopper follows. -/
def State.busRead (s : State) (b : Nat) : State := (s.setBus b (s.busReading b)).chopper b (s.vBus b)

theorem State.busRead_spec (s : State) (b : Nat) :
    BusStep b s (s.busRead b) ∧ ((s.busRead b).bus b).vb = s.vBus b ∧ ((s.busRead b).bus b).stage = (s.bus b).stage := by
  have hself : (s.setBus b (s.busReading b)).bus b = s.busReading b := by rw [State.setBus_get, if_pos rfl]
  obtain ⟨hstep, hvb, hstage⟩ := (s.setBus b (s.busReading b)).chopper_held b (s.vBus b)
  rw [hself] at hvb hstage
  exact ⟨(s.setBus_step b _).trans hstep, hvb, hstage⟩

theorem execBusVoltageUpdate_eq (hat : At s inProtect) (hlt : k < 64) (hserv : s.inService clsDT k = true) (hbus : s.busOf k = some b)
    (hsd : s.sdEn k 3 = true) : exec (.busVoltageUpdate k) s = .next
      ((if (s.bus b).stage < s.stageAt b (s.vBus b) then (s.busRead b).busEnter b (s.vBus b) (s.stageAt b (s.vBus b)) else s.busRead b).refresh
        (s.busTiles b)) := by
  show execBusVoltageUpdate k s = _
  unfold execBusVoltageUpdate
  rw [hat]
  dsimp only
  rw [hbus]
  exact congrArg _ (if_pos (by simp [hlt, hserv, hsd]))

theorem State.busEnter_mild (h1 : 0 < stage) (h3 : stage < 3) : s.busEnter b vb stage
    = (s.setBus b { s.bus b with stage := stage }).raise { code := 0x082f + stage, fields := [b, vb] } := by
  obtain rfl | rfl : stage = 1 ∨ stage = 2 := by omega
  · rfl
  · rfl

/-- The event of HARD, with its fault on every tile of the bus. -/
def State.hardEvent (s : State) (b vb : Nat) : Ev where
  code := 0x0832
  fields := [b, vb] ++ ((s.busTiles b).filter (fun k => s.canTurnOff k)).map (obj clsDT)
  latch := (s.busTiles b).map (obj clsDT)

/-- Bus `b` in HARD, with its event raised. -/
def State.hardRaised (s : State) (b vb : Nat) : State := (s.setBus b { s.bus b with stage := 3 }).raise (s.hardEvent b vb)

theorem State.busEnter_hard (s : State) (b vb : Nat) :
    s.busEnter b vb 3 = ((s.busTiles b).filter (fun k => s.canTurnOff k)).foldl (fun u k => u.hardOff k) (s.hardRaised b vb) := rfl

theorem State.hardOff_buses (s : State) (k : Nat) : (s.hardOff k).drive.buses = s.drive.buses := by
  have hnoted : (s.updTile k (fun x => { x with lastEvent := 0x0832 })).drive.buses = s.drive.buses := rfl
  unfold State.hardOff
  generalize s.updTile k (fun x => { x with lastEvent := 0x0832 }) = u at hnoted
  exact (congrArg Shown.buses (State.turnOff_shown (g := fun _ => ()) (fun _ _ _ _ => rfl) (fun _ => rfl) u k false 9)).trans hnoted

/-- Entering a stage changes nothing else of the buses. -/
theorem State.busEnter_bus (h1 : 0 < stage) (h3 : stage ≤ 3) (c : Nat) :
    (s.busEnter b vb stage).bus c = if c = b then { s.bus b with stage := stage } else s.bus c := by
  have hbuses : (s.busEnter b vb stage).drive.buses = (s.setBus b { s.bus b with stage := stage }).drive.buses := by
    obtain h | rfl := Nat.lt_or_eq_of_le h3
    · rw [State.busEnter_mild h1 h, State.raise_drive]
    · rw [State.busEnter_hard, foldl_keeps (fun u : State => u.drive.buses) (fun u i => u.hardOff_buses i)]
      unfold State.hardRaised
      rw [State.raise_drive]
  exact (congrArg (fun m => Map.get (fun _ => ({} : Bus)) m c) hbuses).trans (State.setBus_get _ _ _ _)

theorem State.tileHere_of_mem_busTiles (h : j ∈ s.busTiles b) : s.objHere (obj clsDT j) = true := by
  obtain ⟨hr, hs⟩ := List.mem_filter.1 (List.mem_filter.1 h).1
  have hlt : j < 4096 := Nat.lt_trans (List.mem_range.1 hr) (by decide)
  unfold State.objHere
  rw [aCls_obj (by decide) hlt, aIdx_obj hlt, hs]

/-- HARD latches its fault on every tile of the bus, and turns off those that are on. -/
theorem State.busEnter_hard_tiles (hdev : s.objHere objDEV = true) (h : j ∈ s.busTiles b) :
    (s.busEnter b vb 3).latched 0x0832 (obj clsDT j) = true
      ∧ (s.canTurnOff j = true → ((s.busEnter b vb 3).tile j).prot = .twoStep) := by
  rw [State.busEnter_hard]
  have hlat : (s.hardRaised b vb).latched 0x0832 (obj clsDT j) = true :=
    State.latched_raise (s := s.setBus b { s.bus b with stage := 3 }) (e := s.hardEvent b vb) hdev
      (State.tileHere_of_mem_busTiles h) (List.mem_map_of_mem h)
  have hprot : ((s.hardRaised b vb).tile j).prot = (s.tile j).prot := by
    unfold State.hardRaised
    rw [State.raise_tile]
    rfl
  refine ⟨(Steady.foldl (fun u i => u.hardOff_steady i) _ _).toOnward.latched hlat, fun hc => ?_⟩
  exact State.foldl_hardOff_stops (List.mem_filter.2 ⟨h, hc⟩) (by rw [hprot]; exact State.live_of_canTurnOff hc)

/-! ### BUS_STAGE_FALL (R283, R310) -/

theorem State.overshoot_standing (s : State) (o : Nat) : (s.overshoot o).standing = s.standing := by
  unfold State.overshoot
  dsimp only
  split
  · exact (State.raise_standing _ rfl).trans rfl
  · rfl

theorem State.overshoot_steady (s : State) (o : Nat) : Steady s (s.overshoot o) := by
  unfold State.overshoot
  dsimp only
  split
  · exact Steady.trans (.of_eq (by rfl)) (State.raise_steady _ _)
  · exact .refl s

/-- Bus `b` falls by one stage, and its axes follow. -/
def State.stageFallen (s : State) (b : Nat) : State :=
  (s.setBus b { s.bus b with stage := (s.bus b).stage - 1, quiet := some s.tempo }).refresh (s.busTiles b)

theorem execBusStageFall_eq (hat : At s inEvents) (hlt : b < 8) (hpos : 0 < (s.bus b).stage) (hq : (s.bus b).quiet = some w)
    (hdue : w + 500000 ≤ s.tempo) (hoff : (s.bus b).stage = 3 → ∀ k, k ∈ s.busTiles b → (s.tile k).prot = .disabled) :
    exec (.busStageFall b) s = .next (if (s.bus b).stage = 1
      then ((s.stageFallen b).axesOf (s.busTiles b)).foldl (fun v o => v.overshoot o) ((s.stageFallen b).raise { code := 0x0833, fields := [b] })
      else s.stageFallen b) := by
  have hgo : (decide (b < 8) && decide (0 < (s.bus b).stage) && decide (w + 500000 ≤ s.tempo)
      && ((s.bus b).stage != 3 || (s.busTiles b).all (fun k => (s.tile k).prot == .disabled))) = true := by
    rw [decide_eq_true hlt, decide_eq_true hpos, decide_eq_true hdue]
    by_cases h3 : (s.bus b).stage = 3
    · simpa [h3] using hoff h3
    · simp [h3]
  show execBusStageFall b s = _
  unfold execBusStageFall
  rw [hat]
  dsimp only
  rw [hq]
  exact congrArg _ (if_pos hgo)

theorem State.stageFallen_bus (s : State) (b : Nat) :
    (s.stageFallen b).bus b = { s.bus b with stage := (s.bus b).stage - 1, quiet := some s.tempo } := by
  unfold State.stageFallen
  rw [State.bus_of_standing (State.refresh_standing _ _), State.setBus_get, if_pos rfl]

theorem State.stageFallen_objHere (s : State) (b o : Nat) : (s.stageFallen b).objHere o = s.objHere o :=
  State.objHere_of_standing (State.refresh_standing _ _) o

/-! ### ENABLING_TIMEOUT (Table 11-8) -/

theorem execEnablingTimeout_eq (hat : At s inTimeouts) (hlt : k < 64) (hp : (s.tile k).prot = .enabling)
    (hdue : (s.tile k).since + 500000 ≤ s.tempo) : exec (.enablingTimeout k) s = .next
      (((s.latchTile k).raiseDt k { code := 0x0803, fields := [obj clsDT k, 1], latch := [obj clsDT k] }).refresh (s.circle k)) := by
  show execEnablingTimeout k s = _
  unfold execEnablingTimeout
  rw [hat]
  exact congrArg _ (if_pos (by simp [hlt, hp, hdue]))

end Sys2Proof.Machine

namespace Sys2Proof.Proofs
open Sys2Proof Sys2Proof.Machine Sys2Proof.Claims

/-- Settles O51, a row at a time. -/
theorem tilesAreEnabledDisabledAndHeldByTheirBus : Obligations.TilesAreEnabledDisabledAndHeldByTheirBus := by
  refine ⟨fun m s o ho hn hparent hsheets => ⟨fun ht hmode hf hgroup hks => ?_, fun ht => ?_⟩, fun s k hat hlt hhere hp hdue => ?_,
    fun s k b vb stage hat hlt hserv hbus hsd hdev hvb hstage => ?_, fun s b w hat hlt hpos hq hdue hdev hoff => ?_⟩
  case refine_1 =>
    have hexec := execTileEnable_runs ho.symm ht ⟨hn, hparent, hsheets⟩ hmode hf hgroup hks
    obtain ⟨hfaults, hmd, hparams, hen, htiles⟩ := s.enableObj_spec o
    generalize s.enableObj o = u at hexec hfaults hmd hparams hen htiles
    refine ⟨_, hexec, hfaults, hmd, hparams, hen, fun k => ?_⟩
    obtain ⟨hkept, henabled⟩ := htiles k
    refine ⟨hkept, fun hk hd => ?_⟩
    obtain ⟨hprot, hsince, hgood, hout⟩ := henabled hk hd
    exact ⟨hprot, hsince, hgood, hout⟩
  case refine_2 =>
    have hexec := execTileDisable_runs ho.symm ht ⟨hn, hparent, hsheets⟩
    have hspec := s.disableObj_spec o
    generalize s.disableObj o = u at hexec hspec
    exact ⟨_, hexec, hspec⟩
  case refine_3 =>
    obtain ⟨hl, -, -, hlat, hr⟩ := State.latchTile_raiseDt (c := 0x0803) (fs := [obj clsDT k, 1]) hhere
    have hexec := execEnablingTimeout_eq hat hlt hp hdue
    generalize (s.latchTile k).raiseDt k { code := 0x0803, fields := [obj clsDT k, 1], latch := [obj clsDT k] } = u at hl hlat hr hexec
    have hsteady := u.refresh_steady (s.circle k)
    exact ⟨_, hexec, (State.prot_of_standing (u.refresh_standing _) k).trans hl, hsteady.toOnward.latched hlat,
      hsteady.toOnward.raised (Nat.ne_of_beq_eq_false rfl) hr⟩
  case refine_4 =>
    have hexec := execBusVoltageUpdate_eq hat hlt hserv hbus hsd
    have hstage' : s.stageAt b (s.vBus b) = stage := by rw [hstage, hvb]; rfl
    have hle : stage ≤ 3 := by rw [hstage]; split_ifs <;> omega
    rw [hstage', ← hvb] at hexec
    obtain ⟨hstep, hrvb, hrstage⟩ := s.busRead_spec b
    rw [← hvb] at hrvb
    have hdev' := (hstep.objHere objDEV).trans hdev
    have hrtiles := hstep.busTiles b
    have hrstop := hstep.canTurnOff
    have hrfaults := hstep.faults
    have hrothers := hstep.others
    generalize s.busRead b = u at hexec hrvb hrstage hdev' hrtiles hrstop hrfaults hrothers
    by_cases hup : (s.bus b).stage < stage
    · rw [if_pos hup] at hexec
      have hstand := (u.busEnter b vb stage).refresh_standing (s.busTiles b)
      have hsteady := (u.busEnter b vb stage).refresh_steady (s.busTiles b)
      have hpos : 0 < stage := Nat.zero_lt_of_lt hup
      refine ⟨_, hexec, ?_, ?_, fun c hc => ?_, fun _ h3 => ?_, fun _ h3 j hj => ?_⟩
      · rw [State.bus_of_standing hstand, State.busEnter_bus hpos hle, if_pos rfl]
        exact hrvb
      · rw [State.bus_of_standing hstand, State.busEnter_bus hpos hle, if_pos rfl]
        exact (Nat.max_eq_right hup.le).symm
      · rw [State.bus_of_standing hstand, State.busEnter_bus hpos hle, if_neg hc]
        exact hrothers c hc
      · have hmild := State.busEnter_mild (s := u) (b := b) (vb := vb) hpos h3
        refine ⟨(congrArg Standing.faults hstand).trans ?_, hsteady.toOnward.raised (by omega) ?_⟩
        · show (u.busEnter b vb stage).faults = _
          rw [hmild, State.raise_faults_of_latch_nil _ rfl]
          exact hrfaults
        · rw [hmild]
          exact State.raised_raise (s := u.setBus b { u.bus b with stage := stage }) (e := { code := 0x082f + stage, fields := [b, vb] }) hdev'
      · subst h3
        obtain ⟨hlat, hstop⟩ := State.busEnter_hard_tiles (s := u) (vb := vb) hdev' (by rw [hrtiles]; exact hj)
        exact ⟨hsteady.toOnward.latched hlat, fun hc => (State.prot_of_standing hstand j).trans (hstop ((hrstop j).trans hc))⟩
    · rw [if_neg hup] at hexec
      have hstand := u.refresh_standing (s.busTiles b)
      refine ⟨_, hexec, ?_, ?_, fun c hc => ?_, fun h => absurd h hup, fun h h3 => absurd (h3 ▸ h) hup⟩
      · rw [State.bus_of_standing hstand]
        exact hrvb
      · rw [State.bus_of_standing hstand, hrstage]
        exact (Nat.max_eq_left (Nat.le_of_not_lt hup)).symm
      · rw [State.bus_of_standing hstand]
        exact hrothers c hc
  case refine_5 =>
    have hexec := execBusStageFall_eq hat hlt hpos hq hdue hoff
    have hbus := s.stageFallen_bus b
    split at hexec
    · have hover := foldl_keeps (State.standing) (fun u o => u.overshoot_standing o) ((s.stageFallen b).axesOf (s.busTiles b))
        ((s.stageFallen b).raise { code := 0x0833, fields := [b] })
      refine ⟨_, hexec, ?_, fun _ => ?_⟩
      · rw [State.bus_of_standing hover, State.raise_bus]
        exact hbus
      · exact (Steady.foldl (fun u o => u.overshoot_steady o) _ _).toOnward.raised (Nat.ne_of_beq_eq_false rfl)
          (State.raised_raise (e := { code := 0x0833, fields := [b] }) ((s.stageFallen_objHere b _).trans hdev))
    · next h => exact ⟨_, hexec, hbus, fun h1 => absurd h1 h⟩

end Sys2Proof.Proofs
end

section
namespace Sys2Proof.Machine
open Sys2Proof Sys2Proof.Claims
variable {s t u : State} {k d : Nat} {e : Nat × Nat}

/-! ### Slow words (R260, R299, Table 11-5) -/

theorem State.wordTaken_tile (s : State) (k type : Nat) : (s.wordTaken k type).tile k
    = { s.tile k with slowWord := none, resAge := if type = 5 then (s.tile k).resAge else (s.tile k).resAge - 32 } :=
  (State.updTile_get _ _ _ _).trans (if_pos rfl)

theorem State.wordTaken_other (s : State) (type : Nat) {j : Nat} (h : j ≠ k) : (s.wordTaken k type).tile j = s.tile j :=
  (State.updTile_get _ _ _ _).trans (if_neg h)

/-- A slow word that changes its tile and nothing else. -/
theorem State.wordKept (s : State) (k type : Nat) (f : Tile → Tile) : ∃ t, t = (s.wordTaken k type).updTile k f ∧ t.faults = s.faults
    ∧ t.host = s.host ∧ t.tile k = f ((s.wordTaken k type).tile k) ∧ ∀ j, j ≠ k → t.tile j = s.tile j := by
  have honly : TilesOnly s ((s.wordTaken k type).updTile k f) := (s.updTile_only k _).trans ((s.wordTaken k type).updTile_only k f)
  refine ⟨_, rfl, honly.faults, honly.host, ?_, fun j hj => ?_⟩
  · rw [State.updTile_get, if_pos rfl]
  · rw [State.updTile_get, if_neg hj, State.wordTaken_other _ _ hj]

/-- A value that matches what was sent is confirmed, and the last of the set makes the tile configured. -/
def Tile.confirmed (x : Tile) (r : Nat) : Tile :=
  { x with
    cfgSent := x.cfgSent.filter (fun y => y.1 != r)
    configured := x.configured || (r == 15 && (x.cfgSent.filter (fun y => y.1 != r)).isEmpty)
    wasConfigured := x.wasConfigured || (r == 15 && (x.cfgSent.filter (fun y => y.1 != r)).isEmpty) }

/-- A value that differs is reported, and ends the sending of the set. -/
def State.cfgDiffers (s : State) (k r : Nat) : State :=
  (s.updTile k (fun x => { x with lastEvent := 0x0806, cfgQueue := [], cfgSent := [] })).raiseLimited
    { code := 0x0806, obj := obj clsDT k, fields := [obj clsDT k, 2, r] } 1000000 0 false

theorem State.cfgDiffers_tile (s : State) (k r : Nat) :
    (s.cfgDiffers k r).tile k = { s.tile k with lastEvent := 0x0806, cfgQueue := [], cfgSent := [] } := by
  unfold State.cfgDiffers
  rw [State.raiseLimited_tile, State.updTile_get, if_pos rfl]

theorem State.cfgDiffers_faults (s : State) (k r : Nat) : (s.cfgDiffers k r).faults = s.faults :=
  State.raiseLimited_faults_of_latch_nil (s.updTile k (fun x => { x with lastEvent := 0x0806, cfgQueue := [], cfgSent := [] })) rfl _ _ _

theorem State.startCfg_tile (s : State) (k tries : Nat) : (s.startCfg k tries).tile k
    = { s.tile k with cfgQueue := cfgRegs, cfgSent := [], configured := false, cfgTries := tries } :=
  (State.updTile_get _ _ _ _).trans (if_pos rfl)

/-- A tile whose set is sent again, up to three times. -/
def Tile.cfgAgain (x : Tile) : Tile :=
  if x.cfgTries < 3 then { x with lastEvent := 0x0806, cfgQueue := cfgRegs, cfgSent := [], configured := false, cfgTries := x.cfgTries + 1 }
  else { x with lastEvent := 0x0806, cfgQueue := [], cfgSent := [] }

theorem Tile.cfgAgain_few {x : Tile} (h : x.cfgTries < 3) : x.cfgAgain
    = { x with lastEvent := 0x0806, cfgQueue := cfgRegs, cfgSent := [], configured := false, cfgTries := x.cfgTries + 1 } := if_pos h

theorem Tile.cfgAgain_spent {x : Tile} (h : ¬ x.cfgTries < 3) : x.cfgAgain = { x with lastEvent := 0x0806, cfgQueue := [], cfgSent := [] } :=
  if_neg h

theorem execSlowCfgAck_eq (hlt : k < 64) (hserv : s.inService clsDT k = true) (hw : (s.tile k).word 2 = some d)
    (he : (s.tile k).cfgSent.find? (fun x => x.1 == field d 0 4) = some e) : exec (.slowCfgAck k) s = .next
      (if e.2 = field d 4 10 then (s.wordTaken k 2).setTile k (((s.wordTaken k 2).tile k).confirmed (field d 0 4))
      else if ((s.wordTaken k 2).tile k).cfgTries < 3
        then ((s.wordTaken k 2).cfgDiffers k (field d 0 4)).startCfg k (((s.wordTaken k 2).tile k).cfgTries + 1)
        else (s.wordTaken k 2).cfgDiffers k (field d 0 4)) := by
  have he' : ((s.wordTaken k 2).tile k).cfgSent.find? (fun x => x.1 == field d 0 4) = some e := by rw [State.wordTaken_tile]; exact he
  show execSlowCfgAck k s = _
  unfold execSlowCfgAck
  rw [State.onWord_some hlt hserv hw]
  generalize s.wordTaken k 2 = u at he'
  dsimp only
  rw [he']
  rfl

/-- What a CFG_ACK word does to its tile; it latches no fault. -/
theorem execSlowCfgAck_acts (hlt : k < 64) (hserv : s.inService clsDT k = true) (hw : (s.tile k).word 2 = some d)
    (he : (s.tile k).cfgSent.find? (fun x => x.1 == field d 0 4) = some e) : ∃ t, exec (.slowCfgAck k) s = .next t ∧ t.faults = s.faults
      ∧ t.tile k = if e.2 = field d 4 10 then ((s.wordTaken k 2).tile k).confirmed (field d 0 4) else ((s.wordTaken k 2).tile k).cfgAgain := by
  have hexec := execSlowCfgAck_eq hlt hserv hw he
  have hfaults : (s.wordTaken k 2).faults = s.faults := rfl
  generalize s.wordTaken k 2 = u at hexec hfaults
  have htile := u.cfgDiffers_tile k (field d 0 4)
  have hfaults' := (u.cfgDiffers_faults k (field d 0 4)).trans hfaults
  refine ⟨_, hexec, ?_⟩
  generalize u.cfgDiffers k (field d 0 4) = v at htile hfaults'
  unfold Tile.cfgAgain
  split
  · rw [State.setTile_get, if_pos rfl]
    exact ⟨hfaults, rfl⟩
  · split
    · rw [State.startCfg_tile, htile]
      exact ⟨hfaults', rfl⟩
    · exact ⟨hfaults', htile⟩

/-! ### The resolver (R299) -/

theorem State.parents_congr (h : t.drive.groups = s.drive.groups) (n o : Nat) : t.parents n o = s.parents n o := by
  have hparent : ∀ o, t.parent o = s.parent o := fun o => by
    unfold State.parent
    rw [h]
  induction n generalizing o with
  | zero => rfl
  | succ n ih =>
    unfold State.parents
    rw [hparent]
    split
    · rfl
    · rw [ih]

theorem State.axisOf_congr (h : t.drive.groups = s.drive.groups) (k : Nat) : t.axisOf k = s.axisOf k := by
  unfold State.axisOf State.outer State.group
  rw [State.parents_congr h, h]

/-- A position sensor fault latches, and its axis coasts. -/
theorem State.sensorFault_spec (hhere : s.objHere (obj clsDT k) = true) (cause count : Nat) :
    (s.sensorFault k cause count).latched 0x0914 (obj clsDT k) = true
      ∧ ((s.sensorFault k cause count).axis (s.axisOf k)).state = .faulted
      ∧ Raised (s.sensorFault k cause count) 0x0914 (obj clsDT k) [obj clsDT k, cause, count] := by
  have hhere' : (s.updTile k (fun x => { x with sensorSince := s.tempo })).objHere (obj clsDT k) = true := hhere
  have haxis : (s.updTile k (fun x => { x with sensorSince := s.tempo })).axisOf k = s.axisOf k := State.axisOf_congr (by rfl) k
  unfold State.sensorFault State.tileCoast
  generalize s.updTile k (fun x => { x with sensorSince := s.tempo }) = v at hhere' haxis
  have hlat := State.latched_raise (s := v) (o := obj clsDT k)
    (e := { code := 0x0914, obj := obj clsDT k, fields := [obj clsDT k, cause, count], latch := [obj clsDT k] }) hhere' hhere' List.mem_cons_self
  have hr := State.raised_raise (s := v)
    (e := { code := 0x0914, obj := obj clsDT k, fields := [obj clsDT k, cause, count], latch := [obj clsDT k] }) hhere'
  rw [haxis]
  generalize v.raise { code := 0x0914, obj := obj clsDT k, fields := [obj clsDT k, cause, count], latch := [obj clsDT k] } = w at hlat hr
  have hsteady := State.coastAxis_steady w (s.axisOf k)
  exact ⟨hsteady.toOnward.latched hlat, w.coastAxis_faulted _, hsteady.toOnward.raised (Nat.ne_of_beq_eq_false rfl) hr⟩

/-- A tile with an invalid resolver word. -/
def Tile.resInvalid (x : Tile) (now : Tempo) : Tile := { x with resBad := x.resBad + 1, sensorSince := now }

/-- A tile with the angle of a valid resolver word. -/
def Tile.resRead (x : Tile) (a : Nat) : Tile :=
  { x with
    resAngle := some a, resBad := 0, resAge := 0
    xm := x.xm + match x.resAngle with
      | some p => wrapAngle ((a : Int) - p)
      | none => 0 }

theorem execSlowResolver_eq (hlt : k < 64) (hserv : s.inService clsDT k = true) (hw : (s.tile k).word 5 = some d) (hs : s.sensorOf k = 2)
    (hm : s.isMotor k = true) : exec (.slowResolver k) s = .next
      (if field d 16 4 = 0 then (s.wordTaken k 5).setTile k (((s.wordTaken k 5).tile k).resRead (field d 0 16))
      else if ((s.wordTaken k 5).tile k).resBad = 3
        then ((s.wordTaken k 5).setTile k (((s.wordTaken k 5).tile k).resInvalid s.tempo)).sensorFault k 2 4
        else (s.wordTaken k 5).setTile k (((s.wordTaken k 5).tile k).resInvalid s.tempo)) := by
  have hs' : (s.wordTaken k 5).sensorOf k = 2 := hs
  have hm' : (s.wordTaken k 5).isMotor k = true := hm
  have ht : (s.wordTaken k 5).tempo = s.tempo := rfl
  show execSlowResolver k s = _
  unfold execSlowResolver
  rw [State.onWord_some hlt hserv hw]
  generalize s.wordTaken k 5 = u at hs' hm' ht
  rw [← ht]
  dsimp only
  rw [if_neg (by simp [hs', hm'])]
  by_cases h0 : field d 16 4 = 0
  · rw [if_neg (not_not.2 h0), if_pos h0]
    rfl
  · rw [if_pos h0, if_neg h0]
    simp only [Nat.succ.injEq]
    rfl

section
variable (hlt : k < 64) (hserv : s.inService clsDT k = true) (hw : (s.tile k).word 5 = some d) (hs : s.sensorOf k = 2)
  (hm : s.isMotor k = true)
include hlt hserv hw hs hm

/-- A valid word. -/
theorem execSlowResolver_valid (h0 : field d 16 4 = 0) : ∃ t, exec (.slowResolver k) s = .next t ∧ t.faults = s.faults
    ∧ t.tile k = ((s.wordTaken k 5).tile k).resRead (field d 0 16) := by
  have hexec := execSlowResolver_eq hlt hserv hw hs hm
  rw [if_pos h0] at hexec
  have hfaults : (s.wordTaken k 5).faults = s.faults := rfl
  generalize s.wordTaken k 5 = u at hexec hfaults
  refine ⟨_, hexec, hfaults, ?_⟩
  rw [State.setTile_get, if_pos rfl]

/-- An invalid word: the fourth in a row is a position sensor fault. -/
theorem execSlowResolver_invalid (h0 : field d 16 4 ≠ 0) : ∃ t, exec (.slowResolver k) s = .next t ∧ (t.tile k).slowWord = none
    ∧ (t.tile k).prot = (s.tile k).prot ∧ (t.tile k).resBad = (s.tile k).resBad + 1 ∧ (t.tile k).xm = (s.tile k).xm
    ∧ ((s.tile k).resBad = 3 → s.objHere (obj clsDT k) = true → t.latched 0x0914 (obj clsDT k) = true
      ∧ (t.axis (s.axisOf k)).state = .faulted ∧ Raised t 0x0914 (obj clsDT k) [obj clsDT k, 2, 4]) := by
  have hexec := execSlowResolver_eq hlt hserv hw hs hm
  have hword := s.wordTaken_tile k 5
  have haxis : (s.wordTaken k 5).axisOf k = s.axisOf k := State.axisOf_congr (by rfl) k
  have hhere : (s.wordTaken k 5).objHere (obj clsDT k) = s.objHere (obj clsDT k) := rfl
  rw [if_neg h0] at hexec
  generalize s.wordTaken k 5 = u at hexec hword haxis hhere
  have htile : (u.setTile k ((u.tile k).resInvalid s.tempo)).tile k = (u.tile k).resInvalid s.tempo := by
    rw [State.setTile_get, if_pos rfl]
  have haxis' : (u.setTile k ((u.tile k).resInvalid s.tempo)).axisOf k = s.axisOf k := (State.axisOf_congr (by rfl) k).trans haxis
  have hhere' : (u.setTile k ((u.tile k).resInvalid s.tempo)).objHere (obj clsDT k) = s.objHere (obj clsDT k) := hhere
  have hbad : (u.tile k).resBad = (s.tile k).resBad := by rw [hword]
  rw [hbad] at hexec
  generalize u.setTile k ((u.tile k).resInvalid s.tempo) = v at hexec htile haxis' hhere'
  rw [hword] at htile
  by_cases h3 : (s.tile k).resBad = 3
  · rw [if_pos h3] at hexec
    have hkeeps := State.sensorFault_keeps (g := fun x : Tile => (x.slowWord, x.prot, x.resBad, x.xm)) (fun _ => rfl) (fun _ _ => rfl) v k 2 4
    have hview := hkeeps.view k
    rw [htile] at hview
    refine ⟨_, hexec, congrArg (fun x => x.1) hview, congrArg (fun x => x.2.1) hview, congrArg (fun x => x.2.2.1) hview,
      congrArg (fun x => x.2.2.2) hview, fun _ hh => ?_⟩
    have hspec := State.sensorFault_spec (hhere'.trans hh) 2 4
    rwa [haxis'] at hspec
  · rw [if_neg h3] at hexec
    refine ⟨_, hexec, ?_⟩
    rw [htile]
    exact ⟨rfl, rfl, rfl, rfl, fun h => absurd h h3⟩

end

end Sys2Proof.Machine
end

section
namespace Sys2Proof.Machine
open Sys2Proof Sys2Proof.Claims
variable {s t u : State} {k kind n w : Nat} {m : Msg} {d : Diag} {st : DiagStep} {rest : List DiagStep}

/-! ### Diagnostic runs (R276 to R279) -/

theorem State.raiseDt_faults_of_latch_nil {e : Ev} (h : e.latch = []) (s : State) (k : Nat) : (s.raiseDt k e).faults = s.faults := by
  unfold State.raiseDt
  rw [State.raise_faults_of_latch_nil _ (by exact h), State.updTile_faults]

theorem State.raiseDt_ring (s : State) (k : Nat) (e : Ev) (j : Nat) : (s.raiseDt k e).ring j = s.ring j := by
  unfold State.raiseDt
  rw [State.raise_ring, State.updTile_ring]

/-- A run at the beginning of its next step. -/
def Diag.armed (d : Diag) : Diag := { d with sentAt := none, seen := false, late := false, frames := 0 }

theorem State.diagNext_more (h : d.steps = st :: rest) (s : State) (k : Nat) : s.diagNext k d
    = s.updTile k (fun x => { x with diag := some d.armed, cmdQueue := x.cmdQueue ++ [st.cmd] }) := by
  unfold State.diagNext
  split
  · next st' rest' h' =>
    obtain ⟨rfl, rfl⟩ := List.cons.inj (h.symm.trans h')
    rfl
  · next h' => exact absurd (h.symm.trans h') (List.cons_ne_nil st rest)

theorem State.diagNext_end (h : d.steps = []) (s : State) (k : Nat) : s.diagNext k d
    = ((s.updTile k (fun x => { x with diag := none })).ok d.reply (d.record s.tempo)).raiseDt k
      { code := 0x0820, fields := [obj clsDT k, leAt (d.record s.tempo) 0 8, leAt (d.record s.tempo) 8 8] } := by
  unfold State.diagNext
  rw [h]

theorem Diag.record_ne_nil (d : Diag) (now : Tempo) : (d.record now).isEmpty = false := rfl

theorem State.diagNext_faults (s : State) (k : Nat) (d : Diag) : (s.diagNext k d).faults = s.faults := by
  cases h : d.steps with
  | nil =>
    rw [State.diagNext_end h, State.raiseDt_faults_of_latch_nil rfl, State.ok_eq, State.post_faults, State.updTile_faults]
  | cons st rest =>
    rw [State.diagNext_more h, State.updTile_faults]

theorem State.diagNext_prot (s : State) (k : Nat) (d : Diag) : ((s.diagNext k d).tile k).prot = (s.tile k).prot := by
  cases h : d.steps with
  | nil =>
    rw [State.diagNext_end h, State.raiseDt_tile, if_pos rfl, State.ok_eq, State.post_tile, State.updTile_get, if_pos rfl]
  | cons st rest => rw [State.diagNext_more h, State.updTile_get, if_pos rfl]

/-- The next step of a run. -/
theorem State.diagNext_more_tile (h : d.steps = st :: rest) (s : State) (k : Nat) : ((s.diagNext k d).tile k).diag = some d.armed
    ∧ ((s.diagNext k d).tile k).cmdQueue = (s.tile k).cmdQueue ++ [st.cmd] := by
  rw [State.diagNext_more h, State.updTile_get, if_pos rfl]
  exact ⟨rfl, rfl⟩

/-- The end of a run. -/
theorem State.diagNext_end_tile (h : d.steps = []) (hhere : s.objHere (obj clsDT k) = true) : ((s.diagNext k d).tile k).diag = none
    ∧ ((s.diagNext k d).tile k).cmdQueue = (s.tile k).cmdQueue
    ∧ Raised (s.diagNext k d) 0x0820 (obj clsDT k) [obj clsDT k, leAt (d.record s.tempo) 0 8, leAt (d.record s.tempo) 8 8] := by
  have htile : ((s.updTile k (fun x => { x with diag := none })).ok d.reply (d.record s.tempo)).tile k = { s.tile k with diag := none } := by
    rw [State.ok_eq, State.post_tile, State.updTile_get, if_pos rfl]
  have hhere' : ((s.updTile k (fun x => { x with diag := none })).ok d.reply (d.record s.tempo)).objHere (obj clsDT k) = true := hhere
  rw [State.diagNext_end h]
  generalize (s.updTile k (fun x => { x with diag := none })).ok d.reply (d.record s.tempo) = v at htile hhere'
  rw [State.raiseDt_tile, if_pos rfl, htile]
  exact ⟨rfl, rfl, State.raised_raiseDt
    (e := { code := 0x0820, fields := [obj clsDT k, leAt (d.record s.tempo) 0 8, leAt (d.record s.tempo) 8 8] }) hhere'⟩

/-- A run answers with its record. -/
theorem State.diagNext_end_waiting (h : d.steps = []) (he : (s.ring d.reply.ring).en = true) (hp : (s.ring d.reply.ring).epoch = d.reply.epoch) :
    ((s.diagNext k d).ring d.reply.ring).waiting
      = (s.ring d.reply.ring).waiting ++ [d.reply.msg stOK noIndex (d.record s.tempo) s.tempo] := by
  have hnil := d.record_ne_nil s.tempo
  rw [State.diagNext_end h, State.raiseDt_ring, State.ok_eq]
  generalize d.record s.tempo = bytes at hnil
  simp [State.post, he, hp, hnil]

theorem State.stopCurrents_tile (s : State) (k : Nat) : (s.stopCurrents k).tile k = { s.tile k with cmdQueue := (s.tile k).cmdQueue ++ [(2, 0)] } :=
  (State.updTile_get _ _ _ _).trans (if_pos rfl)

/-- A run whose step has been judged: its currents stop, and its next step is sent or it ends. -/
def State.stepDone (s : State) (k : Nat) (d : Diag) : State := (s.stopCurrents k).diagNext k d

theorem State.stepDone_prot (s : State) (k : Nat) (d : Diag) : ((s.stepDone k d).tile k).prot = (s.tile k).prot := by
  unfold State.stepDone
  rw [State.diagNext_prot, State.stopCurrents_tile]

theorem State.stepDone_faults (s : State) (k : Nat) (d : Diag) : (s.stepDone k d).faults = s.faults :=
  State.diagNext_faults (s.stopCurrents k) k d

theorem State.stepDone_more (h : d.steps = st :: rest) (s : State) (k : Nat) : ((s.stepDone k d).tile k).diag = some d.armed
    ∧ ((s.stepDone k d).tile k).cmdQueue = (s.tile k).cmdQueue ++ [(2, 0), st.cmd] := by
  obtain ⟨hdiag, hqueue⟩ := State.diagNext_more_tile h (s.stopCurrents k) k
  rw [State.stopCurrents_tile] at hqueue
  exact ⟨hdiag, hqueue.trans (List.append_assoc _ _ _)⟩

theorem State.stepDone_end (h : d.steps = []) (hhere : s.objHere (obj clsDT k) = true) : ((s.stepDone k d).tile k).diag = none
    ∧ ((s.stepDone k d).tile k).cmdQueue = (s.tile k).cmdQueue ++ [(2, 0)]
    ∧ Raised (s.stepDone k d) 0x0820 (obj clsDT k) [obj clsDT k, leAt (d.record s.tempo) 0 8, leAt (d.record s.tempo) 8 8]
    ∧ ((s.ring d.reply.ring).en = true → (s.ring d.reply.ring).epoch = d.reply.epoch → ((s.stepDone k d).ring d.reply.ring).waiting
      = (s.ring d.reply.ring).waiting ++ [d.reply.msg stOK noIndex (d.record s.tempo) s.tempo]) := by
  have htile := s.stopCurrents_tile k
  have hring : (s.stopCurrents k).ring d.reply.ring = s.ring d.reply.ring := rfl
  have htempo : (s.stopCurrents k).tempo = s.tempo := rfl
  have hhere' : (s.stopCurrents k).objHere (obj clsDT k) = true := hhere
  unfold State.stepDone
  generalize s.stopCurrents k = v at htile hring htempo hhere'
  obtain ⟨hdiag, hqueue, hr⟩ := State.diagNext_end_tile h hhere'
  have hwait := State.diagNext_end_waiting (s := v) (k := k) h
  rw [htempo] at hr hwait
  rw [hring] at hwait
  rw [htile] at hqueue
  exact ⟨hdiag, hqueue, hr, hwait⟩

/-- A run that turns to the self-tests. -/
theorem State.diagFallback_tile (s : State) (k : Nat) (d : Diag) : ((s.diagFallback k d).tile k).diag
      = some { d with fallback := true, steps := selftests, sentAt := none, seen := false, late := false, frames := 0 }
    ∧ ((s.diagFallback k d).tile k).cmdQueue = (s.tile k).cmdQueue ++ [(2, 0), (DiagStep.comparator 0).cmd] :=
  State.stepDone_more (d := { d with fallback := true, steps := selftests }) rfl s k

/-! ### DIAG_RUN -/

theorem execDiagRun_runs (ht : Takes 0x0640 m 0 0xffffff0000000000 s) (hmode : s.md.mode = .standby) (hn : Names (m.argN 8 4) [clsDT] s)
    (hk : aIdx (m.argN 8 4) = k) (hkind : m.argN 12 1 = kind) (h1 : 1 ≤ kind) (h5 : kind ≤ 5) (h3 : kind = 3 → s.tMode k ∉ [5, 6, 7])
    (hp : (s.tile k).prot = .disabled) (hc : (s.tile k).configured = true) (hd : (s.tile k).diag = none) :
    exec (.diagRun m) s = .next ((s.hold 0x0640 m).diagNext k
      { reply := s.replyOf 0x0640 m, kind := kind, start := s.tempo, steps := s.diagSteps k kind }) := by
  obtain ⟨-, hat, hlen, hres, -⟩ := id ht
  subst hk hkind
  have hcont : (m.argN 12 1 == 3 && (s.tMode (aIdx (m.argN 8 4)) == 5 || s.tMode (aIdx (m.argN 8 4)) == 6
      || s.tMode (aIdx (m.argN 8 4)) == 7)) = false := by
    by_cases h : m.argN 12 1 = 3
    · have := h3 h
      simp only [List.mem_cons, List.not_mem_nil, or_false, not_or] at this
      simp [this]
    · simp [h]
  have hrefs : m.plen 0 ++ m.argRes 0xffffff0000000000 ++ refuse (decide (m.argN 12 1 = 0 ∨ 5 < m.argN 12 1)) stBAD_ARG ++ s.inModes [.standby]
      ++ s.objRefs (m.argN 8 4) [clsDT] ++ refuse (m.argN 12 1 == 3 && (s.tMode (aIdx (m.argN 8 4)) == 5 || s.tMode (aIdx (m.argN 8 4)) == 6
        || s.tMode (aIdx (m.argN 8 4)) == 7)) stBAD_ARG
      ++ refuse ((s.tile (aIdx (m.argN 8 4))).prot != .disabled || !(s.tile (aIdx (m.argN 8 4))).configured) stWRONG_STATE
      ++ refuse (s.tile (aIdx (m.argN 8 4))).diag.isSome stBUSY = [] := by
    rw [Msg.plen_nil hlen, Msg.argRes_nil hres, State.inModes_nil (by rw [hmode]; exact List.mem_cons_self), State.objRefs_nil hn, hcont, hp, hc, hd,
      decide_eq_false (by omega)]
    rfl
  show execDiagRun m s = _
  unfold execDiagRun
  rw [hat]
  exact congrArg _ (State.command_of_takes ht hrefs _)

theorem State.diagSteps_cons (h1 : 1 ≤ kind) (h5 : kind ≤ 5) : ∃ st rest, s.diagSteps k kind = st :: rest := by
  obtain rfl | rfl | rfl | rfl | rfl : kind = 1 ∨ kind = 2 ∨ kind = 3 ∨ kind = 4 ∨ kind = 5 := by omega
  all_goals exact ⟨_, _, rfl⟩

/-! ### The rows of a step -/

theorem execDiagStepTimeout_eq (hat : At s inTimeouts) (hlt : k < 64) (hd : (s.tile k).diag = some d) (hs : d.steps = st :: rest)
    (hn : d.sentAt = some n) (hst : ∀ x, st ≠ .comparator x) (hdue : 20 * n + 250000 ≤ s.tempo) :
    exec (.diagStepTimeout k) s = .next (s.diagFallback k d) := by
  show execDiagStepTimeout k s = _
  unfold execDiagStepTimeout
  rw [hat]
  dsimp only
  rw [hd]
  dsimp only
  rw [hs, hn]
  cases st with
  | comparator x => exact absurd rfl (hst x)
  | bus j => exact congrArg _ (if_pos (by simp [hlt, hdue]))
  | ground j => exact congrArg _ (if_pos (by simp [hlt, hdue]))
  | continuity j => exact congrArg _ (if_pos (by simp [hlt, hdue]))

/-- A run when its comparator has been judged. -/
def Diag.judged (d : Diag) (x : Nat) (rest : List DiagStep) : Diag :=
  { d with
    steps := rest, silent := d.silent || d.frames == 0
    testFail := if d.seen && !d.late then d.testFail else Nat.lor d.testFail (2 ^ x) }

theorem execSelftestWindowEnd_eq {x : Nat} (hat : At s inTimeouts) (hlt : k < 64) (hd : (s.tile k).diag = some d)
    (hs : d.steps = .comparator x :: rest) (hn : d.sentAt = some n) (hdue : n + 52 < periodOf s.tempo) :
    exec (.selftestWindowEnd k) s = .next (s.diagNext k (d.judged x rest)) := by
  show execSelftestWindowEnd k s = _
  unfold execSelftestWindowEnd
  rw [hat]
  dsimp only
  rw [hd]
  dsimp only
  rw [hs, hn]
  exact congrArg _ (if_pos (by simp [hlt, hdue]))

/-- What the result of a test-current step adds to a run: LEG_FAIL and OPEN (Table 11-11). -/
def State.stepResult (s : State) (k w : Nat) (d : Diag) : DiagStep → Nat × Nat
  | .bus j => (if bit w (3 + j) then d.legFail else Nat.lor d.legFail (2 ^ j), d.opens)
  | .ground j => (if bit w j then d.legFail else Nat.lor d.legFail (2 ^ (3 + j)), d.opens)
  | .continuity j => (d.legFail, ((s.wired k).filter (fun i => i != j && !bit w i)).foldl (fun a i => Nat.lor a (2 ^ i)) d.opens)
  | .comparator _ => (d.legFail, d.opens)

theorem execSlowDiag_eq (hlt : k < 64) (hserv : s.inService clsDT k = true) (hw : (s.tile k).word 3 = some w) (hd : (s.tile k).diag = some d)
    (hs : d.steps = st :: rest) (hn : d.sentAt = some n) (hst : ∀ x, st ≠ .comparator x) : exec (.slowDiag k) s = .next
      (if bit w 6 then (s.wordTaken k 3).stepDone k
        { d with steps := rest, legFail := (s.stepResult k w d st).1, opens := (s.stepResult k w d st).2 }
      else (s.wordTaken k 3).diagFallback k d) := by
  have hd' : ((s.wordTaken k 3).tile k).diag = some d := by rw [State.wordTaken_tile]; exact hd
  have hwired : (s.wordTaken k 3).wired k = s.wired k := rfl
  show execSlowDiag k s = _
  unfold execSlowDiag
  rw [State.onWord_some hlt hserv hw]
  generalize s.wordTaken k 3 = u at hd' hwired
  dsimp only
  rw [hd']
  dsimp only
  rw [hs, hn, Option.isNone_some, if_neg Bool.false_ne_true]
  cases st with
  | comparator x => exact absurd rfl (hst x)
  | bus j => cases bit w 6 <;> rfl
  | ground j => cases bit w 6 <;> rfl
  | continuity j =>
    dsimp only
    rw [hwired]
    cases bit w 6 <;> rfl

end Sys2Proof.Machine
end

section
namespace Sys2Proof.Proofs
open Sys2Proof Sys2Proof.Machine Sys2Proof.Claims

/-- Settles O54: slow words, the start of a diagnostic run, and the rows of its steps. -/
theorem slowWordsAndDiagnosticsAreActedOn : Obligations.SlowWordsAndDiagnosticsAreActedOn := by
  refine ⟨fun s k d hlt hserv => ⟨fun hw => ?_, fun hw => ?_, fun e hw he => ?_, fun hw hsensor hmotor hp => ?_⟩,
    fun m s k kind hk hkind ht hmode hn h1 h5 h3 hp hc hd => ?_,
    fun s k d st rest n hlt hd hs hn hhere hserv => ⟨fun w lf op hst hw hres => ?_, fun hat hst hdue => ?_, fun x d1 hat hst hdue hd1 => ?_⟩⟩
  case refine_1 =>
    have hexec : exec (.slowTemp k) s = .next _ := congrArg Host.Outcome.next (State.onWord_some hlt hserv hw _)
    obtain ⟨t, ht, hfaults, hhost, htile, hother⟩ := s.wordKept k 6 (fun x => { x with epTemp := sext 12 d })
    rw [s.wordTaken_tile] at htile
    exact ⟨t, hexec.trans (congrArg _ ht.symm), hfaults, hhost, htile, hother⟩
  case refine_2 =>
    have hexec : exec (.slowIdent k) s = .next _ := congrArg Host.Outcome.next (State.onWord_some hlt hserv hw _)
    obtain ⟨t, ht, hfaults, hhost, htile, hother⟩ := s.wordKept k 7 (fun x => { x with ident := d })
    rw [s.wordTaken_tile] at htile
    exact ⟨t, hexec.trans (congrArg _ ht.symm), hfaults, hhost, htile, hother⟩
  case refine_3 =>
    obtain ⟨t, hexec, hfaults, htile⟩ := execSlowCfgAck_acts hlt hserv hw he
    refine ⟨t, hexec, hfaults, ?_⟩
    rw [htile, s.wordTaken_tile]
    by_cases hv : e.2 = field d 4 10
    · rw [if_pos hv]
      exact ⟨rfl, rfl, fun _ => ⟨rfl, by simp [Tile.confirmed]⟩, fun h => absurd hv h⟩
    · rw [if_neg hv]
      by_cases ht : (s.tile k).cfgTries < 3
      · rw [Tile.cfgAgain_few (by exact ht)]
        exact ⟨rfl, rfl, fun h => absurd h hv, fun _ => ⟨rfl, rfl, fun _ => ⟨rfl, rfl, rfl⟩, fun h => absurd ht (Nat.not_lt.2 h)⟩⟩
      · rw [Tile.cfgAgain_spent (by exact ht)]
        exact ⟨rfl, rfl, fun h => absurd h hv, fun _ => ⟨rfl, rfl, fun h => absurd h ht, fun _ => rfl⟩⟩
  case refine_4 =>
    by_cases h0 : field d 16 4 = 0
    · obtain ⟨t, hexec, hfaults, htile⟩ := execSlowResolver_valid hlt hserv hw hsensor hmotor h0
      refine ⟨t, hexec, ?_⟩
      rw [htile, s.wordTaken_tile]
      refine ⟨rfl, rfl, fun _ => ⟨rfl, rfl, rfl, hfaults, fun hnone => ?_, fun p hsome => ?_⟩, fun h => absurd h0 h⟩
      · simp [Tile.resRead, hnone]
      · simp [Tile.resRead, hsome]
    · obtain ⟨t, hexec, hslow, hprot, hbad, hxm, hfourth⟩ := execSlowResolver_invalid hlt hserv hw hsensor hmotor h0
      exact ⟨t, hexec, hslow, hprot, fun h => absurd h h0, fun _ => ⟨hbad, hxm, hfourth⟩⟩
  case refine_5 =>
    have hexec := execDiagRun_runs ht hmode hn hk.symm hkind.symm h1 h5 h3 hp hc hd
    obtain ⟨st, rest, hsteps⟩ := State.diagSteps_cons (s := s) (k := k) h1 h5
    rw [State.diagNext_more (st := st) (rest := rest) hsteps] at hexec
    refine ⟨_, st, rest, hexec, hsteps, ?_, fun j hj => ?_, rfl⟩
    · rw [State.updTile_get, if_pos rfl, hsteps]
      rfl
    · rw [State.updTile_get, if_neg hj]
      rfl
  case refine_6 =>
    have hexec := execSlowDiag_eq hlt hserv hw hd hs hn hst
    have hres' : s.stepResult k w d st = (lf, op) := by
      rw [hres]
      cases st <;> rfl
    rw [hres'] at hexec
    have hword := s.wordTaken_tile k 3
    have hfaults : (s.wordTaken k 3).faults = s.faults := rfl
    have hring : ∀ r, (s.wordTaken k 3).ring r = s.ring r := fun _ => rfl
    have htempo : (s.wordTaken k 3).tempo = s.tempo := rfl
    have hhere' : (s.wordTaken k 3).objHere (obj clsDT k) = true := hhere
    generalize s.wordTaken k 3 = u at hexec hword hfaults hring htempo hhere'
    have hprot : (u.tile k).prot = (s.tile k).prot := by rw [hword]
    have hqueue : (u.tile k).cmdQueue = (s.tile k).cmdQueue := by rw [hword]
    by_cases hdone : bit w 6 = true
    · rw [if_pos hdone] at hexec
      refine ⟨_, hexec, (u.stepDone_prot k _).trans hprot, (u.stepDone_faults k _).trans hfaults, fun _ s2 r2 h => ?_, fun _ h => ?_,
        fun h => absurd hdone (by simp [h])⟩
      · obtain ⟨hdiag, hcmds⟩ := State.stepDone_more (d := { d with steps := rest, legFail := lf, opens := op }) h u k
        exact ⟨hcmds.trans (congrArg (· ++ _) hqueue), hdiag⟩
      · obtain ⟨hdiag, hcmds, hr, hwait⟩ := State.stepDone_end (d := { d with steps := rest, legFail := lf, opens := op }) h hhere'
        rw [htempo] at hr hwait
        rw [hring] at hwait
        exact ⟨hdiag, hcmds.trans (congrArg (· ++ _) hqueue), hr, hwait⟩
    · rw [if_neg hdone] at hexec
      obtain ⟨hdiag, hcmds⟩ := u.diagFallback_tile k d
      exact ⟨_, hexec, (u.stepDone_prot k _).trans hprot, (u.stepDone_faults k _).trans hfaults, fun h => absurd h hdone,
        fun h => absurd h hdone, fun _ => ⟨hdiag, hcmds.trans (congrArg (· ++ _) hqueue)⟩⟩
  case refine_7 =>
    obtain ⟨hdiag, hqueue⟩ := s.diagFallback_tile k d
    refine ⟨_, execDiagStepTimeout_eq hat hlt hd hs hn hst hdue, ?_, hqueue, hdiag⟩
    exact State.diagNext_faults _ _ _
  case refine_8 =>
    have hexec := execSelftestWindowEnd_eq hat hlt hd (hst ▸ hs) hn hdue
    have hd1' : d.judged x rest = d1 := hd1.symm
    rw [hd1'] at hexec
    have hrest : d1.steps = rest := by rw [hd1]
    refine ⟨_, hexec, s.diagNext_faults k d1, fun s2 r2 h => ?_, fun h => ?_⟩
    · obtain ⟨hdiag, hqueue⟩ := State.diagNext_more_tile (hrest.trans h) s k
      exact ⟨hqueue, hdiag⟩
    · obtain ⟨hdiag, -, hr⟩ := State.diagNext_end_tile (hrest.trans h) hhere
      exact ⟨hdiag, hr⟩

end Sys2Proof.Proofs
end
